-- ==== Sys2Proof/Word.lean ====
section
/-!
DEFINITION. The words of the block: octets, octet strings, and object values.

A register, an octet on a wire and a field of a frame are bits; a count, an index, a time and a length are `Nat`s;
a signed quantity is an `Int`. An object's value (02_object_dictionary.md R39) is a list of elements, each element
a list of fields, each field an integer: a scalar is one element of one field, a RECORD one element of several
fields, an ARRAY several elements, a BYTES or STRING object one element per octet.
-/

namespace Sys2Proof

/-- One octet. -/
abbrev Byte := BitVec 8

/-- A string of octets, the first one first. -/
abbrev Bytes := List Byte

/-- The value of an object: its elements, each the list of its fields (R39). A TS96 field is its 96-bit number, a
floating-point field its bit pattern, a BYTES[n] field of a RECORD its n octets read little-endian. -/
abbrev Val := List (List Int)

/-- A time in units of 0.5 ns, the least significant bit of the time-stamp counter (01_architecture.md, after
Table AC-9). -/
abbrev HalfNs := Nat

/-- One second in units of 0.5 ns. -/
abbrev secHalfNs : Nat := 2000000000

/-- One millisecond in units of 0.5 ns. -/
abbrev msHalfNs : Nat := 2000000

/-- One microsecond in units of 0.5 ns. -/
abbrev usHalfNs : Nat := 2000

end Sys2Proof
end

