-- ==== Sys2Proof/Syntax.lean ====
section
/-!
DEFINITION. The commands of the block: one constructor of `Instr` per row of the table of operations and events, with
the operands that come from outside the block (a frame, a value written, a level on a pin, a measured quantity).

A quantity that the spec gives from outside (an air frame, the outcome of a calibration step, the result of an
analogue measurement, whether a signature or tag verifies against a key outside the model) is an operand; everything
the spec makes the block decide is decided by its meaning.
-/

namespace Sys2Proof

/-! ### Loref frames (02_object_dictionary.md) -/

/-- The way by which a Loref frame arrives (Table OD-7): 0 mailbox, 1 ETH0, 2 ETH1, 3 UART0, 4 UART1; a UDP datagram comes over IPv4 or
IPv6 from an address and a port, to which the response goes (R79). -/
structure Via where
  transport : Nat
  v6 : Bool
  addr : Nat
  port : Nat
deriving DecidableEq, Repr

/-- What an authenticated LOP2 frame carries after VER, OPCODE and PLEN: SESSION, SEQ with bit 63, the ciphertext of its payload and the tag
(R51, R52). -/
structure SecFrame where
  session : Nat
  seq : Nat
  cipher : Bytes
  tag : Bytes
deriving DecidableEq, Repr

/-- A READ or INFO item (R53). -/
structure RItem where
  index : Nat
  element : Nat
  length : Nat
deriving DecidableEq, Repr

/-- A WRITE item (R53): head and value octets. -/
structure WItem where
  index : Nat
  element : Nat
  length : Nat
  typ : Nat
  cond : Bool
  rev : Nat
  value : Bytes
deriving DecidableEq, Repr

/-! ### Mesh frames (05_mesh_phy_and_frames.md) -/

/-- The information elements of Table PH-6; `other` is one the receiver does not know. -/
inductive Ie where
  | addr (dest src : Nat)
  | sync (asn slotMs flags member : Nat)
  | hop (region c0 map seed : Nat)
  | chmapUpdate (map value : Nat)
  | resync (entries : List (Nat × Nat × Nat))
  | sched (slot period chOffset firstAsn : Nat)
  | alert (target gap flags : Nat)
  | timing (e cfo : Int)
  | nodestat (temp : Int) (supply missed : Nat)
  | route (hops etx load : Nat)
  | campaign (n block count : Nat)
  | blockAck (n first bitmap : Nat)
  | other (id : Nat) (content : Bytes)
deriving DecidableEq, Repr

/-- A frame that another lane received at about the same time: its path and lane, when its SFD ended, its RSSI, and its PHR (R172). -/
structure Twin where
  path : Fin 6
  lane : Nat
  stamp : HalfNs
  rssi : Int
  phr : Nat
deriving DecidableEq, Repr

/-- A received frame of modes 0x01 to 0x06 or 0x10, as the demodulator and the cipher engine see it. `stamp` is the
TB_AIR time at which the end of the SFD left the demodulator, before the delays of R174 are taken off; `payload` its encrypted octets as
the cipher engine decrypts them, `mic` the MIC it carries; `busy` signals missed while it was received (R171); `twins` the frames
that other lanes received beside it (R172); `agc` the gain in dB that the AGC's loop asks for (R154). -/
structure AirFrame where
  path : Fin 6
  lane : Nat
  mode : Nat
  stamp : HalfNs
  rssi : Int
  snr : Int
  cfo : Int
  fcsOk : Bool
  fcs2 : Bool
  fec : Bool
  whitened : Bool
  ms : Bool
  len : Nat
  fc : Nat
  pan : Nat
  eui : Nat
  secCtrl : Nat
  counter : Nat
  key : Nat
  ies : List Ie
  mic : Nat
  payload : Bytes
  busy : Nat
  twins : List Twin
  agc : Nat
deriving DecidableEq, Repr

/-- A legacy frame (R165); `busy`, `twins` and `agc` as of a mesh frame. -/
structure LegacyFrame where
  path : Fin 6
  lane : Nat
  stamp : HalfNs
  rssi : Int
  snr : Int
  cfo : Int
  psdu : Bytes
  busy : Nat
  twins : List Twin
  agc : Nat
deriving DecidableEq, Repr

/-- A transmit command as its issuer gives it, with the octets of its PSDU (R125). -/
structure TxReq where
  start : HalfNs
  carrier : Nat
  mode : Nat
  psdu : Bytes
  fec : Bool
  pwr : Nat
  lateOk : Bool
  retune : Bool
  tag : Nat
deriving DecidableEq, Repr

/-! ### Ethernet -/

/-- What an Ethernet frame carries (R514): the address asked for or sent to, that of the sender, and what an echo is to bring back. -/
inductive EthKind where
  | ptpL2
  | udp (v6 : Bool) (port : Nat)
  | arp (target sender : Nat)
  | icmpEcho (dest src : Nat) (data : Bytes)
  | icmp6Echo (dest src : Nat) (data : Bytes)
  | neighbour (target src : Nat)
  | pause
  | other
deriving DecidableEq, Repr

/-- A received Ethernet frame: its length in bytes, whether its FCS holds, its source address, its VLAN tags, what it carries. -/
structure EthArg where
  len : Nat
  fcsOk : Bool
  mac : Nat
  vlans : List Nat
  kind : EthKind
deriving DecidableEq, Repr

/-- A whole Flock record as FLOCK_RESTORE writes it (Table FL-1): its fields in order, `groups` and reserved bytes
among them as numbers. -/
abbrev RecordArg := List Int

/-! ### GNSS and snapshots (09_gnss_baseband.md, 10_snapshot_positioning.md) -/

/-- What a tracking channel measured at an epoch (Table GN-6): floating-point fields as bit patterns; `range` is the pseudorange at the
RF input in 10⁻¹⁰ m, before the delays of R302 are subtracted; `resid` is before the GLONASS bias of R328 is removed. -/
structure GnEntry where
  channel : Nat
  gloK : Int
  range : Nat
  phase : Nat
  doppler : Nat
  cn0 : Nat
  lockTime : Nat
  slip : Bool
  elev : Int
  azim : Nat
  resid : Int
deriving DecidableEq, Repr

/-- The numbers that NAV0's least-squares solution gives at an epoch (R329 to R334, Table GN-7): the outcome of each
chi-square test with the satellite of the largest normalised residual, and the values solved for. `bcast` tells which broadcast
system offsets are current (Galileo, BeiDou, GLONASS, QZSS, NavIC); `residSq` is the sum of the squares of the epoch's post-fit
residuals in mm²; `sigma` is the standard error of the survey's or the running mean, `sigmaCm` that error in 0.01 m. -/
structure GnSolve where
  entries : List GnEntry
  tests : List (Bool × Nat × Nat)
  clkBias : Int
  clkDrift : Int
  pos : List Nat
  vel : List Nat
  hAcc : Nat
  vAcc : Nat
  tAcc : Nat
  pdop : Nat
  offs : List Int
  bcast : List Bool
  bcastUnc : Nat
  sbas : Bool
  leap : Int
  leapPending : Bool
  residSq : Nat
  sigma : Nat
  sigmaCm : Nat
deriving DecidableEq, Repr

/-- A newly decoded ephemeris with what NAV0 finds of it (R324): system and satellite, signal code, contents, words and issue
consistent, distance in m from the ephemeris it would replace or from the almanac position where one exists, residual in m. -/
structure EphArg where
  sys : Nat
  sv : Nat
  code : Nat
  toe : Nat
  iod : Nat
  healthy : Bool
  content : Nat
  parityOk : Bool
  iodOk : Bool
  distEph : Nat
  distAlm : Option Nat
  resid : Nat
deriving DecidableEq, Repr

/-- A satellite above the horizon of GN_REF_POS as NAV1 computes it for an assistance (R351, R352): system, number, elevation in
degrees, predicted Doppler at L1 in Hz and predicted code phase in 0.001 chip. -/
structure SkySat where
  sys : Nat
  sv : Nat
  elev : Int
  doppler : Int
  phase : Nat
deriving DecidableEq, Repr

/-- What NAV1's solution of a snapshot gives (R357, Table SN-5): convergence, the outcome of each chi-square test, position and
figures, distance from GN_REF_POS in 0.1 m, and per detected satellite its peak and residual. -/
structure SnSolve where
  converged : Bool
  tests : List (Bool × Nat × Nat)
  pos : List Nat
  hAcc : Nat
  vAcc : Nat
  pdop : Nat
  clkErr : Int
  freqResid : Int
  dist : Nat
  peaks : List (Nat × Int)
deriving DecidableEq, Repr

/-! ### Precision time (11_time_bases.md) -/

/-- The announce data set of a master (R376, R380): identity of the grandmaster, its quality, and the data the instance
takes from its messages. -/
structure Master where
  identity : Nat
  priority1 : Nat
  cls : Nat
  accuracy : Nat
  variance : Nat
  priority2 : Nat
  localPriority : Nat
  stepsRemoved : Nat
  timeTraceable : Bool
  utcOffset : Int
  address : Nat
deriving DecidableEq, Repr

/-! ### The commands -/

/-- One constructor per row of the table of operations and events, in its order; the operands come from outside the block. -/
inductive Instr where
  /-- REQUEST_PROMOTION (R12): A class 2, 3 or 4 request that has waited through 64 consecutive grants of its arbiter is promoted one
  class and the region's promotion counter is incremented. -/
  | requestPromotion (region who cls : Nat)
  /-- ERROR_DETECTED (R14): A level's parity, ECC, CRC, handshake timeout or watchdog check detects an error, and the lowest level
  that can contain it starts containment. -/
  | errorDetected (region block cell level : Nat) (ok : Bool)
  /-- CONTAINMENT_ESCALATION (R14): A level fails to contain an error within its time limit of Table AC-4 and escalates it to the next
  level up. -/
  | containmentEscalation (n : Nat) (ok : Bool)
  /-- ENGINE_WATCHDOG_EXPIRY (R19): An engine's 10 ms watchdog expires; SUP restarts the engine, or holds it failed under R22. -/
  | engineWatchdogExpiry (n : Fin 8)
  /-- SUP_WATCHDOG_EXPIRY (R20): SUP's watchdog expires, and hardware in the SYS region restarts SUP from the verified bundle within
  20 ms. -/
  | supWatchdogExpiry
  /-- ENGINE_RESTART_DONE (R19): An engine that was restarting from the verified bundle image starts running again. -/
  | engineRestartDone (n : Fin 8)
  /-- ISLAND_WRITE_COMPLETE (R25): A write crossing into an island takes effect in the target state within the latency of Table AC-9.
  -/
  | islandWriteComplete (i : Nat)
  /-- AON_WRITE_ADMITTED (R32): A write held at the interconnect enters the AON island when one of its four in-flight places frees. -/
  | aonWriteAdmitted
  /-- FENCE (R30): A write of FENCE starts a fence that completes, and is answered, once all earlier writes of its initiator have
  completed. -/
  | fence (who : Nat)
  /-- BAR0_FENCE_READ (R30): A read of the BAR0 FENCE register completes after a fence and returns 0. -/
  | bar0FenceRead
  /-- READ (R54): A LOP2 READ request reads 1 to 16 items, whole objects or parts, and returns their values and revisions. -/
  | read (v : Via) (f : SecFrame)
  /-- WRITE (R58): A LOP2 WRITE request checks a list of 1 to 16 items in full and applies them in list order only when all pass. -/
  | write (v : Via) (f : SecFrame)
  /-- INFO (R62): A LOP2 INFO request returns the 60-byte metadata record of 1 to 16 objects. -/
  | info (v : Via) (f : SecFrame)
  /-- OPEN (R594): A LOP2 OPEN request starts a pending session for a role and is answered in plaintext with SESSION and the device
  nonce. -/
  | openSession (v : Via) (session seq : Nat) (payload : Bytes)
  /-- AUTH (R595): A LOP2 AUTH request proves the session key and authenticates the pending session, or repeats the answer for one
  already authenticated. -/
  | auth (v : Via) (f : SecFrame)
  /-- CLOSE (R596): A LOP2 CLOSE request ends the session once its 4-byte response has been sent. -/
  | close (v : Via) (f : SecFrame)
  /-- PENDING_SESSION_TIMEOUT (R65): A session not authenticated within 5 s of its OPEN response is discarded. -/
  | pendingSessionTimeout (id : Nat)
  /-- SESSION_IDLE_EXPIRY (R65): An authenticated session with no accepted frame for SESSION_IDLE_TIMEOUT ends. -/
  | sessionIdleExpiry (id : Nat)
  /-- REQUEST_WAIT_TIMEOUT (R61): A request not started by SUP within 50 ms is answered with BUSY. -/
  | requestWaitTimeout (i : Nat)
  /-- LOP1_READ (R73): A LOP1 READ frame returns the whole object, or status 0x03 when the object is larger than 240 bytes. -/
  | lop1Read (v : Via) (index status : Nat) (value : Bytes) (crc : Nat)
  /-- LOP1_WRITE (R74): A LOP1 WRITE frame is accepted only for RW or RWP objects within a presence window of the proper class. -/
  | lop1Write (v : Via) (index status : Nat) (value : Bytes) (crc : Nat)
  /-- MBX_DOORBELL (R78): A write of a length to the mailbox doorbell submits the request frame in BAR2, or counts an overlap while a
  request is outstanding. -/
  | mbxDoorbell (length : Nat) (area : Bytes)
  /-- LOREF_UDP_DATAGRAM (R79): A UDP datagram on a Loref port is checked for length and fragmentation, and its frame is served with
  the response sent back to the source. -/
  | lorefUdpDatagram (e : Fin 2) (v6 frag : Bool) (addr source port : Nat) (data : Bytes)
  /-- RS485_TRANSFER (R80): An RS-485 transfer of an address character, a frame and, for LOP2, a CRC-32C is taken and served when it
  is addressed to the device. -/
  | rs485Transfer (n : Fin 2) (chars : List Nat)
  /-- RS485_GAP_TIMEOUT (R81): A gap longer than 10 character times within an RS-485 transfer discards the transfer and counts it in
  LOREF_RS485_ERR. -/
  | rs485GapTimeout (n : Fin 2)
  /-- PROFILE_APPLY (R88): A write of PROFILE_APPLY loads profile n at run time under R84. -/
  | profileApply (n : Nat)
  /-- PROFILE_COMMIT (R87): A write of PROFILE_COMMIT checks the staged profile and stores it into P1 to P3. -/
  | profileCommit (n : Nat)
  /-- PROFILE_SAVE (R87): A write of PROFILE_SAVE stores the running configuration into P1 to P3, as entries for non-default values
  only. -/
  | profileSave (n : Nat)
  /-- PROFILE_STORE_DONE (R87): A profile store finishes once the new content has been written and its CRC verified in flash. -/
  | profileStoreDone (ok : Bool)
  /-- PROFILE_STAGE (R55): A write of PROFILE_STAGE writes bytes into the staging buffer at an offset no greater than its current
  length. -/
  | profileStage (offset : Nat) (data : Bytes)
  /-- PROFILE_STAGE_CLEAR (R89): A write of PROFILE_STAGE_CLEAR sets the staging length to 0. -/
  | profileStageClear
  /-- PROFILE_BOOT_OVERRIDE (R86): A write of PROFILE_BOOT_OVERRIDE updates the boot directory by the alternating rule. -/
  | profileBootOverride (v : Nat)
  /-- SESSION_END (R89): A write of SESSION_END ends the named authenticated session. -/
  | sessionEnd (id : Nat)
  /-- AON_POWER_ON (R90): Both VMAIN_AON and VBAT remain below 1.8 V beyond the hold-up, and the whole chip, AON included, is reset.
  -/
  | aonPowerOn (vbat : Bool)
  /-- CORE_POWER_ON (R90): The core supply rises through its power-on threshold and resets every region except AON and PWR. -/
  | corePowerOn
  /-- CORE_BROWN_OUT (R90): The core supply stays below its brown-out threshold for 2 µs or longer, which causes a reset of core
  scope. -/
  | coreBrownOut
  /-- PIN_RESET (R91): RST_N held low for 10 µs or longer causes a reset of core scope. -/
  | pinReset (ns : Nat)
  /-- PCIE_RESET (R512): Assertion of PERST_N resets the HOST region or, with PERST_SCOPE 1, the core scope. -/
  | pcieReset
  /-- CHIP_RESET (R90): A write of 1 to CHIP_RESET causes a reset of source 5. -/
  | chipReset (v : Nat)
  /-- THERMAL_RESET (R90): A junction temperature above 135 °C causes a reset of core scope. -/
  | thermalReset
  /-- THERMAL_RESET_RELEASE (R90): A thermal reset is released once the junction falls below 110 °C. -/
  | thermalResetRelease
  /-- SUP_FAILURE_RESET (R553): A reset of source 8 follows a SUP failure once pending records reach flash, or 20 ms after the
  decision at the latest. -/
  | supFailureReset
  /-- TRIAL_TIMEOUT (R118): FW_TRIAL_REMAINING counts down to 0 and a reset of source 9 follows. -/
  | trialTimeout
  /-- STARTUP_SEQUENCE (R96): At reset release the boot ROM samples the pins, latches RESET_CAUSE and runs the start-up steps of Table
  SU-2. -/
  | startupSequence (pins refSel : Nat) (jedec : Option (Nat × Nat))
  /-- REF_QUALIFICATION_END (R98): Reference qualification ends, either with a run of 32 passing windows or by giving up after 5 ms,
  and the islands move to the PLLs or stay on the RC. -/
  | refQualificationEnd (counts : List Nat) (badRead failed : Nat)
  /-- DDR_TRAINING_ATTEMPT_END (R104): An LPDDR4X training attempt ends in success or failure, and start-up continues, retries, or
  goes on without external memory. -/
  | ddrTrainingAttemptEnd (ok : Bool) (size ranks : Nat)
  /-- START_DONE (R96): Each domain that the profile turns on reports on or refuses, and START_DONE is raised. -/
  | startDone
  /-- CLOCK_RETRY (R99): A write of 1 to CLOCK_RETRY repeats the qualification of the reference while the chip is in service. -/
  | clockRetry (v : Nat)
  /-- PCIE_CONFIG_REQUEST (R101): A PCIe configuration request is answered with Retry Status until SUP serves the dictionary, and
  normally afterwards. -/
  | pcieConfigRequest (link : Nat × Nat × Bool) (master : Option Bool)
  /-- FW_STAGE_BEGIN (R115): A write of FW_STAGE_BEGIN puts the slot that is not ACTIVE into STAGING and erases the flash blocks the
  bundle needs. -/
  | fwStageBegin (len : Nat)
  /-- FW_STAGE (R114): A write of FW_STAGE at the current length programs bundle bytes into the staging slot. -/
  | fwStage (offset : Nat) (data : Bytes)
  /-- FW_VERIFY (R116): A write of FW_VERIFY applies the checks of Table SU-8 to the staged slot, which becomes STAGED or INVALID. -/
  | fwVerify (v : Nat)
  /-- FW_ACTIVATE (R117): A write of FW_ACTIVATE arms the STAGED slot for a trial, and with value 2 also resets the chip. -/
  | fwActivate (v : Nat)
  /-- FW_CONFIRM (R118): A write of FW_CONFIRM during a trial makes the trial slot ACTIVE and stops the trial count. -/
  | fwConfirm (v : Nat)
  /-- ROLLBACK_ADVANCE (R120): A write of ROLLBACK_ADVANCE raises the rollback floor in OTP, one step at a time. -/
  | rollbackAdvance (v steps : Nat)
  /-- FLASH_ACTION_DONE (R46): A flash erase, program or verify started by an action object completes, and the object's R46 status
  becomes 0 or an error code. -/
  | flashActionDone (index : Nat) (ok : Bool)
  /-- TX_COMMAND (R131): A transmit command is queued on a path by S under the acceptance matrix, or ends at once with a radio status.
  -/
  | txCommand (p : Fin 6) (r : TxReq)
  /-- TX_ABORT (R137): A TX_ABORT command ends the running transmission, or a named pending one, with ABORTED. -/
  | txAbort (p : Fin 6) (handle : Option Nat)
  /-- RX_ON (R130): An RX_ON command enables reception on a path under the acceptance matrix. -/
  | rxOn (p : Fin 6)
  /-- RX_OFF (R130): An RX_OFF command disables reception, and the path goes from RX to STANDBY within 2 µs. -/
  | rxOff (p : Fin 6)
  /-- TUNE (R130): A TUNE command, issued by a write of RF_SLICE_CENTRE, moves the slice centre and ends pending commands that now lie
  out of the slice. -/
  | tune (p : Fin 6) (khz frames : Nat)
  /-- CAL_REQUEST (R130): A calibration request from RF_CAL_REQUEST is accepted, merged, queued or stored under the acceptance matrix.
  -/
  | calRequest (p : Fin 6) (bits : Nat)
  /-- TX_DUE (R132): TB_AIR reaches S minus 220 µs for the earliest pending command, and the transmission becomes due and preempts
  calibration. -/
  | txDue (p : Fin 6)
  /-- TX_DEADLINE (R134): At the deadline a due transmission starts on time if the path is locked, and otherwise ends with TX_LATE or
  waits under LATE_OK. -/
  | txDeadline (p : Fin 6) (rssi : Int)
  /-- TX_SETUP_START (R139): At S minus 48 µs the path enters SETUP, blanks its lanes and drives the front-end pins toward transmit.
  -/
  | txSetupStart (p : Fin 6) (frames : Nat)
  /-- TX_START (R139): At S the first preamble symbol crosses the antenna reference plane and the path enters TX. -/
  | txStart (p : Fin 6)
  /-- TX_END (R139): At E the driver has ramped down, PA_EN is released and the path goes to TURN_RX or STANDBY. -/
  | txEnd (p : Fin 6)
  /-- TURN_RX_END (R127): At E plus 48 µs the lanes receive again and the path returns to RX. -/
  | turnRxEnd (p : Fin 6)
  /-- LOCK_ACHIEVED (R127): The synthesiser locks and the path moves from LOCKING to RX or to SETUP. -/
  | lockAchieved (p : Fin 6)
  /-- LOCK_TIMEOUT (R138): A lock not achieved within 150 µs is retried once, and after a second failure the path enters FAULT. -/
  | lockTimeout (p : Fin 6)
  /-- SYNTH_LOCK_LOSS (R137): The synthesiser loses lock during TX, the driver ramps down within 4 µs and the command ends with
  ABORTED. -/
  | synthLockLoss (p : Fin 6)
  /-- CAL_STEP_END (R144): A calibration step of at most 40 µs ends, the item passes, falls back or fails, and the path returns to its
  former state. -/
  | calStepEnd (p : Fin 6) (last pass : Bool) (val : Nat) (rx : List Nat)
  /-- TX_TIMEOUT (R142): The RC-clocked counter finds the transmitter still on at S + D + 100 µs; the driver is cut and RF_TX_INHIBIT
  is set. -/
  | txTimeout (p : Fin 6)
  /-- RF_TX_REARM (R143): A write of 1 to RF_TX_REARM clears RF_TX_INHIBIT. -/
  | rfTxRearm (p : Fin 6) (v : Nat)
  /-- DIE_TEMP_MEASUREMENT (R153): The junction temperature is measured every 1 ms, and thermal steps engage or release. -/
  | dieTempMeasurement (t : Int)
  /-- REG_LOCK_PROGRAM (R158): A write of REG_LOCK_PROGRAM programs the regulatory lock record into an OTP slot and reads it back. -/
  | regLockProgram (r : Bytes)
  /-- FRAME_RECEIVED (R185): A received mesh frame passes the ordered checks of FCS, PHR, header, destination, security and payload,
  and is delivered or dropped. -/
  | frameReceived (f : AirFrame)
  /-- LEGACY_FRAME_RECEIVED (R165): A legacy frame has its CRC checked and is time-stamped and passed to the host unchanged. -/
  | legacyFrameReceived (f : LegacyFrame)
  /-- SUPERFRAME_EDGE (R187): A superframe edge of TB_AIR increments the ASN and starts slot 0 work. -/
  | superframeEdge
  /-- NBR_BEACON_WINDOW_END (R202): A neighbour's expected-beacon window ends unheard, and the neighbour is counted missed or becomes
  LOST. -/
  | nbrBeaconWindowEnd (relay : Option Nat) (i : Fin 16)
  /-- NBR_SUPERVISION_EXPIRY (R203): The supervision timeout of a LOST neighbour runs out; it becomes EXPIRED and its slots are
  released. -/
  | nbrSupervisionExpiry (relay : Option Nat) (i : Fin 16)
  /-- NEIGHBOUR_BEACON (R204): A beacon heard from a tracked neighbour updates its state and returns a LOST or EXPIRED neighbour to
  TRACKING. -/
  | neighbourBeacon
  /-- LISTEN_WINDOW_END (R241): A node's listening window ends without a frame, which counts the miss, opens retry windows and may
  enter RESYNC or detach a JOINING link. -/
  | listenWindowEnd (f : Nat) (retry : Bool)
  /-- ASSOC_REQ (R223): An ASSOC_REQ command is answered by an ASSOC_RESP whose status follows the association policy and Table LK-2.
  -/
  | assocReq
  /-- DISASSOC (R184): A DISASSOC command from a node ends its link. -/
  | disassoc
  /-- CHMAP_ACK (R229): A CHMAP_ACK command confirms a link's switch to the pending channel map. -/
  | chmapAck
  /-- HOST_DATA_FRAME (R183): A data frame with payload type 0x01 is delivered to the host rings and acknowledged when AR is set. -/
  | hostDataFrame
  /-- KEEP_ALIVE (R183): A keep-alive data frame is accepted as a contact and acknowledged, and held downlink may follow. -/
  | keepAlive
  /-- ALERT_RESPONSE (R207): An alert response from a class B node triggers the command as a reply. -/
  | alertResponse
  /-- ACK_RECEIVED (R237): An acknowledgement that verifies against the counter of an awaited frame completes the attempt. -/
  | ackReceived
  /-- REPLY_WINDOW_END (R240): No acceptable reply arrives within ±30 µs of its expected SFD, and the attempt ends with NO_ACK or
  NO_RESPONSE. -/
  | replyWindowEnd (id : Nat)
  /-- LINK_SUPERVISION_TIMEOUT (R230): A link's supervision timer expires; the link becomes DETACHED and its transactions end with
  LINK_LOST. -/
  | linkSupervisionTimeout (f : Nat)
  /-- LINK_REMOVE (R232): A write of LINK_REMOVE queues a DISASSOC with reason 2 for the link. -/
  | linkRemove (f : Nat)
  /-- MESH_CHMAP_WRITE (R227): A write of MESH_CHMAP or MESH_CHMAP_C0 is checked and takes effect at once or becomes the path's
  pending update. -/
  | meshChmapWrite (p : Fin 6) (first : Bool) (v : Nat)
  /-- TXN_BOOKING (R243): Drover books a transaction attempt at the earliest opportunity that meets the booking, path, duty and
  deadline rules. -/
  | txnBooking (id : Nat)
  /-- TXN_DEADLINE (R243): A transaction's deadline passes with no opportunity left, and it ends with the last refusal or EXPIRED. -/
  | txnDeadline (id : Nat)
  /-- LINK_TXN_CANCEL (R246): A write of LINK_TXN_CANCEL ends a QUEUED or BOOKED transaction with CANCELLED. -/
  | linkTxnCancel (id : Nat)
  /-- DUTY_BUCKET_ROLL (R248): A TB_MONO minute ends; the oldest duty bucket leaves the window and frees its charges. -/
  | dutyBucketRoll (b : Fin 2)
  /-- FLOCK_CFG_WRITE (R259): A write of FLOCK_CFG applies bytes 0 to 23 of a record atomically, creating or emptying it. -/
  | flockCfgWrite (f : Nat) (v : List Int)
  /-- FLOCK_RESTORE (R260): A write of FLOCK_RESTORE writes a whole record into an empty or DETACHED entry. -/
  | flockRestore (f : Nat) (v : List Int)
  /-- FLOCK_PREFETCH (R263): Drover fetches the record of every link with work in the next two superframes at least 100 ms ahead. -/
  | flockPrefetch
  /-- FLOCK_FETCH_DONE (R264): A cache miss is served from LPDDR4X and the record enters the cache, evicting the least recently used
  unpinned line. -/
  | flockFetchDone (f : Nat)
  /-- FLOCK_FETCH_LATE (R263): A needed record is still not cached 200 µs before its instant, and the instant is lost. -/
  | flockFetchLate (f : Nat)
  /-- FLOCK_KEY_WRAP (R267): A write of FLOCK_KEY_WRAP wraps a child's link key under its relay's link key. -/
  | flockKeyWrap (v : Nat)
  /-- DELIVERY (R274): A DELIVERY descriptor is checked and accepted into the target record's queue, or completed at once with a
  status. -/
  | delivery (desc data : Bytes) (dmaOk : Bool)
  /-- HELD_REQUEST_DEADLINE (R275): A held delivery request's deadline passes, and it completes with EXPIRED or NO_ROUTE. -/
  | heldRequestDeadline (id : Nat)
  /-- CHORUS_ATTEMPT (R282): At a sniff instant a chorus-ready member sends the alert and then the command as a reply, or skips the
  attempt. -/
  | chorusAttempt (id : Nat)
  /-- FL_IMAGE_BEGIN (R287): A write of FL_IMAGE_BEGIN erases a node-image slot for staging. -/
  | flImageBegin (v : Nat)
  /-- FL_IMAGE_STAGE (R287): A write of FL_IMAGE_STAGE programs image bytes at the current length. -/
  | flImageStage (offset : Nat) (data : Bytes)
  /-- FL_IMAGE_VERIFY (R287): A write of FL_IMAGE_VERIFY makes the checks of Table FL-7, and the slot becomes VALID or INVALID. -/
  | flImageVerify (n : Nat)
  /-- FL_CAMPAIGN_START (R289): A write of FL_CAMPAIGN_START checks and starts campaign n, fixing its members and rechecking the
  image. -/
  | flCampaignStart (n : Nat)
  /-- FL_CAMPAIGN_STOP (R294): A write of FL_CAMPAIGN_STOP ends a campaign as STOPPED. -/
  | flCampaignStop (n : Nat)
  /-- CAMPAIGN_BLOCK (R292): At an occurrence of the multicast schedule one block is sent, and a round may end. -/
  | campaignBlock (n : Fin 4)
  /-- GN_ENABLE_WRITE (R299): A write of GN_ENABLE starts GNSS with a start-type choice, or releases every channel. -/
  | gnEnableWrite (v : Nat)
  /-- GRF_CAL_ITEM_END (R301): A GNSS RF calibration item of a band ends; it passes, retries, falls back to OTP or faults the band. -/
  | grfCalItemEnd (b : Fin 2) (ok : Bool) (value : Nat)
  /-- AGC_UPDATE (R303): Every 100 µs each band's AGC updates its gain. -/
  | agcUpdate (g0 g1 : Int)
  /-- ANT_BIAS_MEASUREMENT (R304): The antenna bias current is measured every 1 ms, and GN_ANT_STATE changes among OK, OPEN, SHORT and
  RETRYING. -/
  | antBiasMeasurement (ma : Nat)
  /-- ANT_RETRY_EXPIRY (R304): After GN_ANT_RETRY seconds in RETRYING, the bias switch closes again. -/
  | antRetryExpiry
  /-- NOTCH_EVALUATION (R306): Every 16 ms the averaged spectrum is evaluated, and adaptive notch cells are assigned, moved or
  released. -/
  | notchEvaluation (b : Fin 2) (spectrum : List Int) (fine : List Nat)
  /-- BLANK_INTERVAL_END (R310): A 100 ms blanking interval ends; GN_BLANK_RATIO is reported and blanking may be suspended. -/
  | blankIntervalEnd (b : Fin 2) (samples : List (Nat × Nat))
  /-- JAM_INDICATOR_UPDATE (R311): Every 100 ms J/N and the jamming indicator are computed, and GNSS_JAMMED or GNSS_JAM_CLEAR may be
  raised. -/
  | jamIndicatorUpdate (b : Fin 2) (corr : Int)
  /-- NIMBUS_INTERVAL (R315): A 10 ms Nimbus accounting interval begins and shares time between acquisition and snapshot jobs. -/
  | nimbusInterval
  /-- ACQ_JOB_DONE (R317): An acquisition job ends, and a verified detection is handed to a free tracking channel. -/
  | acqJobDone (sig sv power again : Nat) (elev : Int)
  /-- NIMB_AUTO_OFF (R316): 1 s after the last acquisition job ends under GN_NIMB_AUTO, SUP requests NIMB off. -/
  | nimbAutoOff
  /-- CHANNEL_RELEASE (R321): Code lock lost for 2 s releases a tracking channel, and the signal enters REACQ. -/
  | channelRelease (n : Nat)
  /-- REACQ_EXPIRY (R321): A REACQ of 10 s fails, and the signal goes to the acquisition mode of its satellite. -/
  | reacqExpiry (sig sv : Nat)
  /-- LOOP_OPEN_TIMEOUT (R322): A channel whose loops have stayed open for longer than 100 ms during a NAV0 restart is released into
  REACQ. -/
  | loopOpenTimeout (n : Nat)
  /-- EPHEMERIS_DECODED (R324): A newly decoded ephemeris is checked and accepted into a new set, or rejected with EPH_REJECTED. -/
  | ephemerisDecoded (a : EphArg)
  /-- MEASUREMENT_EPOCH (R336): At each epoch NAV0 solves, tests integrity and produces a measurement epoch and a navigation record.
  -/
  | measurementEpoch (a : GnSolve)
  /-- HOTSTART_SAVE (R339): NAV0 writes the save time to Paddock at least every 60 s. -/
  | hotstartSave
  /-- SNAPSHOT_FRAGMENT (R353): A capture fragment passes intake checks and is held, or ends with a status, or its capture enters the
  snapshot queue. -/
  | snapshotFragment (sky : List SkySat)
  /-- FRAG_TIMEOUT (R353): Fragment 1 is not received within SN_FRAG_WAIT of fragment 0, and the capture ends with FRAG_TIMEOUT. -/
  | fragTimeout (flock : Nat)
  /-- NIMBUS_JOB_START (R355): Nimbus takes the job at the head of the snapshot queue in the snapshot share of its time. -/
  | nimbusJobStart
  /-- SNAPSHOT_DEADLINE (R355): A queued snapshot job not started within SN_QUEUE_DEADLINE ends with DEADLINE. -/
  | snapshotDeadline
  /-- NIMBUS_JOB_DONE (R356): A Nimbus snapshot job finishes correlating and marks each satellite detected or not. -/
  | nimbusJobDone
  /-- SNAPSHOT_SOLUTION (R357): NAV1 completes a snapshot solution, and the result record is delivered to ring 4. -/
  | snapshotSolution (k : Fin 2) (a : SnSolve)
  /-- SN_ENABLE_WRITE (R361): A write of SN_ENABLE enables snapshots, or disables them and ends held and queued jobs. -/
  | snEnableWrite (v : Nat)
  /-- PTP_SYNC (R377): A Sync message in slave role feeds the servo, or puts the instance into STEP_PENDING when the offset exceeds 1
  ms. -/
  | ptpSync (k : Fin 2) (origin corr : Int)
  /-- PTP_ANNOUNCE (R379): An Announce message runs the BMCA, and a new master sends the instance to UNCALIBRATED. -/
  | ptpAnnounce (k : Fin 2) (m : Master)
  /-- PTP_DELAY_REQ (R378): A Delay_Req message in master role is answered with a Delay_Resp. -/
  | ptpDelayReq (k : Fin 2) (from_ seq : Nat) (corr : Int)
  /-- PTP_DELAY_RESP (R377): A Delay_Resp message in slave role completes a path-delay measurement. -/
  | ptpDelayResp (k : Fin 2) (t : Int)
  /-- PTP_MESSAGE_TRANSMIT (R378): At its message interval an instance sends Sync, Announce or delay-request messages. -/
  | ptpMessageTransmit (k : Fin 2)
  /-- ANNOUNCE_RECEIPT_TIMEOUT (R380): The announce receipt timeout removes the master, and TB_PTPx enters HOLDOVER. -/
  | announceReceiptTimeout (k : Fin 2)
  /-- STEP_PENDING_END (R381): After 8 sync intervals in STEP_PENDING the step is cancelled, applied, or pending again. -/
  | stepPendingEnd (k : Fin 2)
  /-- PCS_LATENCY_MEASURED (R373): The PCS latency measurement after link-up completes, and PTP on the port restarts in UNCALIBRATED.
  -/
  | pcsLatencyMeasured (e : Fin 2) (latIn latOut : Nat)
  /-- BELLWETHER_TICK (R385): Each second Bellwether compares sources with TB_GNSS, marks disagreements and remakes its selection. -/
  | bellwetherTick
  /-- SOURCE_DISQUALIFIED (R385): The selected source is disqualified, and Bellwether at once selects another source or enters
  HOLDOVER. -/
  | sourceDisqualified
  /-- TB_GNSS_STEP (R389): At the next whole second TB_GNSS is stepped by e once the time-pulse edges of that instant have been
  placed. -/
  | tbGnssStep
  /-- STEPPED_CLEAR (R389): STEPPED is cleared in TB_FLAGS 60 s after a step. -/
  | steppedClear
  /-- TM_HOST_TIME (R383): A write of TM_HOST_TIME gives Bellwether a GPST sample from the host source. -/
  | tmHostTime (t : Nat)
  /-- TM_ACCEPT_STEP (R389): A write of 1 to TM_ACCEPT_STEP applies a held step of TB_GNSS. -/
  | tmAcceptStep (v : Nat)
  /-- TM_CV_PEER (R393): A write of TM_CV_PEER matches a peer's measurement epoch with the device's own and writes TM_CV_RESULT. -/
  | tmCvPeer (bs : Bytes)
  /-- TIME_PULSE_EDGE (R394): The active edge of TPn occurs at a whole multiple of its period, and TP_LAST records it. -/
  | timePulseEdge (n : Fin 2)
  /-- TIME_PULSE_END (R394): TPn returns to its inactive level once TP_WIDTH has elapsed. -/
  | timePulseEnd (n : Fin 2)
  /-- TIME_ANCHOR_WRITE (R408): The TIME region writes a new time anchor to Paddock bank 0 at least every 60 s. -/
  | timeAnchorWrite (rate : Int)
  /-- TS_CAPTURE (R496): A BAR0 write of 1 to TS_CAPTURE captures every time base at one counter instant. -/
  | tsCapture (v : Nat)
  /-- SLOW_CLOCK_LOSS (R404): No crystal edge for 1 ms switches AON to the internal RC and sets TIME_DOUBTFUL. -/
  | slowClockLoss
  /-- SLOW_CLOCK_RETURN (R404): The crystal has run for 1 s without a missing edge, and AON returns to it. -/
  | slowClockReturn
  /-- SLOW_CLOCK_START_TIMEOUT (R404): 3 s after an AON power-on without a good crystal, SLOW_CLK_FAIL is raised once. -/
  | slowClockStartTimeout
  /-- CALENDAR_SECOND (R416): The prescaler completes a second, and the calendar advances, or the second is added to RTC_PENDING while
  halted. -/
  | calendarSecond
  /-- AUTOTRIM_MEASUREMENT (R407): Every 1,024 s SUP measures the tick rate against TB_GNSS and writes RTC_TRIM. -/
  | autotrimMeasurement (ticks : Nat)
  /-- SUPPLY_SWITCH (R411): The power-path switch moves the always-on rail between VMAIN_AON and VBAT. -/
  | supplySwitch (vbat below : Bool)
  /-- HOLDUP_EXPIRY (R412): Both inputs stay below 1.8 V for 200 µs, the tick counter stops and TIME_DOUBTFUL is set. -/
  | holdupExpiry
  /-- VBAT_MEASUREMENT (R413): VBAT is measured every 60 s, and VBAT_LOW may be raised. -/
  | vbatMeasurement (mv : Nat)
  /-- RTC_SET (R417): A write of RTC_SET is a calendar adjustment that sets every field and the prescaler. -/
  | rtcSet (v : List Nat)
  /-- RTC_SET_DATE (R423): A BAR0 write of RTC_SET_DATE applies it with RTC_SET_TIME as one adjustment. -/
  | rtcSetDate (w : Nat)
  /-- RTC_HALT (R418): A write of RTC_HALT halts the calendar, or releases it and starts the catch-up of pending seconds. -/
  | rtcHalt (b : Nat)
  /-- RTC_CTRL (R423): A BAR0 write of RTC_CTRL writes RTC_HALT, RTC_ALARM_ENABLE and RTC_ALARM_WAKE together. -/
  | rtcCtrl (w : Nat)
  /-- RTC_ALARM (R419): A write of RTC_ALARM sets the alarm value and arms the alarm. -/
  | rtcAlarm (v : List Nat)
  /-- RTC_ALARM_ENABLE (R419): A write of RTC_ALARM_ENABLE arms the alarm on a change from 0 to 1, and disarms it when 0 is written.
  -/
  | rtcAlarmEnable (b : Nat)
  /-- RTC_ALARM_DATE (R423): A BAR0 write of RTC_ALARM_DATE writes RTC_ALARM from both alarm registers and arms the alarm. -/
  | rtcAlarmDate (w : Nat)
  /-- RTC_SUBSEC_READ (R424): A read of RTC_SUBSEC captures the RTC group into the shadow. -/
  | rtcSubsecRead
  /-- RTC_TICK_HI_READ (R424): A read of RTC_TICK_HI releases the shadow. -/
  | rtcTickHiRead
  /-- SHADOW_EXPIRED (R424): The shadow is released when it has not been released within 1 s of its capture. -/
  | shadowExpired
  /-- RTC_SYNC_WRITE (R422): At a whole second of TB_GNSS, SUP writes the calendar from TB_GNSS as an adjustment. -/
  | rtcSyncWrite
  /-- PADDOCK_CLEAR (R428): A write of PADDOCK_CLEAR zeroes the named banks and marks them INVALID. -/
  | paddockClear (m : Nat)
  /-- PW_TARGET (R435): A write of PW_TARGET sets a domain's target, is checked for refusal and starts or holds a transition. -/
  | pwTarget (d v : Nat)
  /-- QUIESCE_END (R440): A domain reports idle, and its entry continues to isolation or is refused on a condition. -/
  | quiesceEnd (d : Fin 18) (lanes : Nat)
  /-- QUIESCE_TIMEOUT (R440): A domain not idle within PW_QUIESCE_MAX has its entry refused and resumes work. -/
  | quiesceTimeout (d : Fin 18)
  /-- SAVE_STEP_START (R444): The domain controller begins a waiting domain's save step. -/
  | saveStepStart
  /-- SWITCH_STEP_START (R444): The domain controller begins a waiting domain's switch step. -/
  | switchStepStart
  /-- ENTRY_CONFIRM (R439): The ready comparator confirms the domain's new lower state. -/
  | entryConfirm (d : Fin 18)
  /-- ENTRY_CONFIRM_TIMEOUT (R445): Step 5 is not confirmed within 2 ms, and the domain enters FAULT with ENTRY_FAIL. -/
  | entryConfirmTimeout (d : Fin 18)
  /-- DOMAIN_EXIT (R449): A domain exits to on: switch, checks, restore, release of isolation and load of its configuration. -/
  | domainExit (d : Fin 18) (counts : List Nat)
  /-- EXIT_CONFIRM_TIMEOUT (R450): The ready comparator does not confirm an exit within 2 ms, and the domain returns to off with
  WAKE_FAIL. -/
  | exitConfirmTimeout (d : Fin 18)
  /-- WAKE_EVENT (R453): An enabled wake source fires and sets the targets of its domains to on. -/
  | wakeEvent (src : Nat)
  /-- REFERENCE_LOSS (R584): A qualified reference shows no edge for 2 µs or drifts by more than 1,000 ppm, and the islands fall back
  to the RC. -/
  | referenceLoss
  /-- KEY_DERIVATION_DONE (R466): A key derivation completes, and the key enters the derived-key cache. -/
  | keyDerivationDone
  /-- DRBG_RESEED (R462): At least once per second the DRBG is reseeded from the health-tested entropy source. -/
  | drbgReseed
  /-- ENTROPY_TEST_FAIL (R462): The entropy source fails its health tests, ENTROPY_FAIL is raised and OPEN is answered with BUSY. -/
  | entropyTestFail
  /-- SEC_ROOT_LOAD (R473): A write of SEC_ROOT_LOAD loads a root into a slot, derives dependent keys and writes the root store. -/
  | secRootLoad (slot form : Nat) (key : Bytes)
  /-- ROOT_STORE_WRITE_DONE (R474): A copy of the root store has been erased, programmed and verified in flash. -/
  | rootStoreWriteDone (ok : Bool)
  /-- SEC_ROOT_ERASE (R477): A write of SEC_ROOT_ERASE erases the named slots and rewrites the root store. -/
  | secRootErase (m : Nat)
  /-- SEC_NEXT_KEY_WRAP (R478): A write of SEC_NEXT_KEY_WRAP wraps a node's next link key under its current link key. -/
  | secNextKeyWrap (n : Nat)
  /-- SEC_DISTRICT_SWITCH (R479): A write of SEC_DISTRICT_SWITCH schedules the root switch at superframe A and queues DISASSOC for
  every link. -/
  | secDistrictSwitch (a : Nat)
  /-- SEAL_LOOP_BIT (R480): Every 8 slow-clock ticks the seal-loop pattern bit is checked against SEAL_B. -/
  | sealLoopBit (agrees : Bool)
  /-- TAMPER_ALARM (R481): An enabled alarm source becomes active, and zeroisation completes within 2 µs. -/
  | tamperAlarm (bit : Nat)
  /-- SEC_ZEROISE (R480): A write of 1 to SEC_ZEROISE is one activation of alarm bit 6. -/
  | secZeroise (v : Nat)
  /-- SEC_TAMPER_CLEAR (R484): A write of SEC_TAMPER_CLEAR clears latch bits, or is refused while a named source is active. -/
  | secTamperClear (m : Nat)
  /-- SEC_ATTEST_REQUEST (R485): A write of SEC_ATTEST_REQUEST starts an attestation report over a 32-byte nonce. -/
  | secAttestRequest (nonce : Nat)
  /-- ATTEST_REPORT_READY (R486): The signed attestation report is ready in SEC_ATTEST_REPORT. -/
  | attestReportReady
  /-- PRESENCE_PRESS (R488): The end of a debounced press of PRES_BTN_N opens or restarts a presence window of the class selected. -/
  | presencePress (jumper : Bool) (ms : Nat)
  /-- PRES_STUCK (R487): PRES_BTN_N low for 30 s raises PRES_STUCK and blocks windows until released. -/
  | presStuck
  /-- PRESENCE_WINDOW_EXPIRY (R489): A presence window's 120 s run out, the window closes and its INSTALLER sessions end. -/
  | presenceWindowExpiry
  /-- SEC_PRES_CLOSE (R489): A write of SEC_PRES_CLOSE closes the open presence window. -/
  | secPresClose
  /-- IRQ_STATUS_WRITE (R495): A W1C write of IRQ_STATUS clears bits, and vector 0 is sent again while an enabled bit stays set. -/
  | irqStatusWrite (m : Nat)
  /-- RING_DOORBELL (R501): A write of a ring producer or consumer index advances the ring, or puts it in ERROR. -/
  | ringDoorbell (n : Fin 6) (isProd : Bool) (v : Nat)
  /-- RING_CFG_WRITE (R499): A write of a RING_CFG element, by object or through BAR2, configures or enables a ring. -/
  | ringCfgWrite (n : Fin 6) (v : List Int) (bar2 : Bool)
  /-- LEGACY_TX (R506): A LEGACY_TX descriptor becomes one transaction with one attempt in mode 0x20. -/
  | legacyTx (desc data : Bytes) (dmaOk : Bool)
  /-- BUFFER (R504): A BUFFER descriptor on ring 2 supplies an empty buffer, and waiting records may be written. -/
  | buffer (desc : Bytes) (dmaOk : Bool)
  /-- RING_MODERATION_TIMEOUT (R509): MOD_TIME after the first unsignalled record, the ring's MSI-X vector is sent. -/
  | ringModerationTimeout (n : Fin 6)
  /-- ETH_LINK_CHANGE (R515): An Ethernet port's link goes up or down, and ETH_LINK_UP or ETH_LINK_DOWN is raised. -/
  | ethLinkChange (e : Fin 2) (up : Bool)
  /-- ETH_FRAME (R514): A received Ethernet frame is accepted for PTP, Loref, ARP, ICMP or neighbour discovery, or discarded and
  counted. -/
  | ethFrame (e : Fin 2) (f : EthArg)
  /-- SCRUB_PASS (R517): Every MEM_SCRUB_HOURS a patrol scrub reads all LPDDR4X and corrects or reports ECC errors. -/
  | scrubPass (fixed : Nat) (bad : List (Nat × Option Nat))
  /-- FLASH_OPERATION_DONE (R519): A flash program or erase ends, successfully or with FLASH_PROG_FAIL. -/
  | flashOperationDone (addr : Nat) (erase ok : Bool) (suspends : Nat)
  /-- ARCHIVE_PAGE_WRITE (R549): With 128 entries pending, or 10 s after the oldest, a 4 KiB page of events is written to the flash
  archive. -/
  | archivePageWrite (ok : Bool)
  /-- SUMMARY_SECOND_END (R548): At the end of a second with suppressed occurrences, one SUMMARY entry is logged. -/
  | summarySecondEnd
  /-- FAULT_RELEASE (R555): A write of FAULT_RELEASE resets a held region and returns it to service. -/
  | faultRelease (v : Nat)
  /-- FAULT_CLEAR (R557): A write of FAULT_CLEAR erases the flash fault record area. -/
  | faultClear (v : Nat)
  /-- UART_CHARACTER (R527): A received character is decided bit by bit and enters the receive FIFO, or wakes the chip on an address
  match. -/
  | uartCharacter (n : Fin 4) (line : List Bool) (gap : Bool)
  /-- UART_BREAK (R532): RX low for one character time ends the character in progress as a break entry. -/
  | uartBreak (n : Fin 4)
  /-- UART_STUCK (R532): RX low for UART_STUCK_MS puts the line in the STUCK state. -/
  | uartStuck (n : Fin 4)
  /-- UART_LINE_OK (R532): RX high for one character time after a break or STUCK returns the line to idle. -/
  | uartLineOk (n : Fin 4)
  /-- UART_RX_IDLE (R533): RX idle for four character times with entries held raises UART_RX_READY. -/
  | uartRxIdle (n : Fin 4)
  /-- UART_RX_DATA (R534): A read of UART_RX_DATA returns and removes the oldest receive entries. -/
  | uartRxData (n : Fin 4) (element k : Nat)
  /-- UART_TX_DATA (R536): A write of UART_TX_DATA appends characters to the transmit FIFO, which sends them back to back. -/
  | uartTxData (n : Fin 4) (v : List Nat)
  /-- DE_TAIL_EXPIRY (R537): UART_DE_TAIL bit times after the last stop bit, DE is released. -/
  | deTailExpiry (n : Fin 4)
  /-- BAR0_REGISTER_WRITE (R493): A BAR0 write to a register with no behaviour of its own updates the register, or is ignored when
  misaligned or reserved. -/
  | bar0RegisterWrite (offset width v : Nat)
  /-- DWELL_BUCKET_ROLL (R251): A dwell bucket of DWELL_WINDOW / 20 s ends, and the oldest of a channel's 20 buckets leaves the dwell
  window and frees its charges. -/
  | dwellBucketRoll (b : Fin 2) (ch : Nat)
  /-- OFFSET_HISTORY_ENTRY (R348): Every 100 ms TIME records TB_AIR against TB_GNSS in the offset history, and it drops entries older
  than 3,660 s. -/
  | offsetHistoryEntry
  /-- COHERENT_INTERVAL_END (R320): A tracking channel's coherent interval ends; its loops are closed, lock indicators are updated,
  the channel switches from the frequency loop to the phase loop after 500 ms, and a new spacing takes effect. -/
  | coherentIntervalEnd (n cn0 : Nat) (pli : Int) (half : Bool) (period : Option Nat)
  /-- CATCH_UP_SECOND (R418): After a halt is released, one pending second is applied to the calendar at each slow-clock tick, and an
  armed alarm can fire on it. -/
  | catchUpSecond
  /-- SAVE_STEP_END (R439): A domain's save step ends at the abort point after save; the entry then aborts on a pending wake event or
  waits for its switch step, and the save controller is freed. -/
  | saveStepEnd
  /-- TAMPER_SOURCE_INACTIVE (R480): The condition of an alarm source ends and the source becomes inactive, which re-arms it and lifts
  the refusals of R483 and R484. -/
  | tamperSourceInactive (bit : Nat)
  /-- ENTROPY_RECOVERY (R462): The entropy source passes its health tests again; SEC_ENTROPY_STATE returns to 0 and OPEN and root
  loads are served again. -/
  | entropyRecovery
  /-- PERST_N_DEASSERTION (R90): PERST_N is deasserted and the HOST region leaves its reset, with the endpoint starting link training
  again. -/
  | perstNDeassertion
  /-- CTS_N_CHANGE (R538): CTS_N of UART2 or UART3 changes level, and a character held by flow control starts once it is low. -/
  | ctsNChange (n : Fin 4) (low : Bool)
  /-- UART_CHARACTER_SENT (R536): A transmitted character's stop bits end; the next character starts, or, when the FIFO is empty, the
  DE tail begins. -/
  | uartCharacterSent (n : Fin 4)
  /-- TEST_ACCESS_PORT_INSTRUCTION (R573): An IEEE 1149.1 instruction such as BYPASS, IDCODE, SAMPLE/PRELOAD or EXTEST is shifted and
  executed through the test access port on TCK. -/
  | testAccessPortInstruction (code data : Nat)
deriving DecidableEq, Repr

end Sys2Proof
end

