-- ==== Sys2Proof/Config.lean ====
section
/-!
DEFINITION. What an implementation fixes and what the spec leaves open: the free values. Each constant here has no
body, so nothing can be proved of its value; a statement that mentions one holds whatever it is. Where each is used
is said in the assumption log.
-/

namespace Sys2Proof

/-- The n-th free value: what the spec leaves open each time the block needs a fresh value (log entry 1). -/
opaque Config.freeNat : Nat → Nat

/-- ML-DSA-87 verification of a signature by a public key over a digest (FIPS 204, outside this spec; log entry 2). -/
opaque Config.mldsaOk : Bytes → Nat → Bytes → Bool

/-- ML-DSA-87 key generation: the public key's octets as a number, from the seed (R486, FIPS 204, outside this spec; log entry 2). -/
opaque Config.mldsaPublic : Nat → Nat

/-- The deterministic ML-DSA-87 signature of a digest, its octets as a number, from the seed (R486, FIPS 204, outside this spec; log
entry 2). -/
opaque Config.mldsaSign : Nat → Nat → Nat

/-- The rate-½ code and interleaver of IEEE 802.15.4 SUN FSK over PHR, PSDU, tail and padding (R164; log entry 2). -/
opaque Config.fecEncode : Bytes → Bytes

/-- What Nimbus's correlator gives for a capture (R345, R356): the samples of 4.096 MS/s about the intermediate frequency of
1.024 MHz, whether the spectrum is reversed about it, signal index, satellite, GPST of the first sample in 0.5 ns, Doppler bin in Hz
as a fraction; per code phase in samples the power over the median of the output in 0.1 dB (log entry 2). -/
opaque Config.correlate : List Int → Bool → Nat → Nat → Nat → Int → Nat → List Nat

end Sys2Proof
end

