-- ==== Sys2Proof/Machine/ObjTypes.lean ====
section
/-!
DEFINITION. What an object of the Loref dictionary is: its index, its access class, its type, its range and its
value after reset (02_object_dictionary.md R9, R36, R39; the columns of every object map).
-/

namespace Sys2Proof.Machine

/-- The types of Table OD-2 that a field of an object can have. -/
inductive Ty where
  | bool | u8 | u16 | u32 | u64 | i8 | i16 | i32 | i64 | f32 | f64 | ts96
  /-- A BYTES[n] field inside a RECORD or an ARRAY, always n octets on the wire (R39). -/
  | bytes (n : Nat)
deriving DecidableEq, Repr

/-- The access classes of Table SC-5. -/
inductive Acc where
  | ro | rw | wo | cmd | rwa | rwp
deriving DecidableEq, Repr

/-- The outer shape of an object's type. -/
inductive Kind where
  | scalar
  | record
  | array (n : Nat)
  | blob (n : Nat)
deriving DecidableEq, Repr

/-- One field of an object: its type and the limits of the Range column. -/
structure FieldInfo where
  ty : Ty
  lo : Int
  hi : Int
deriving DecidableEq, Repr

/-- One row of an object map. `index` has instance 0; `insts` lists the instances at which the object exists.
`dflt` is one element's value after reset; where elements or instances differ, Ops.lean says so. `presence` is
the presence class of an RWP object and 0 for every other one (R62). -/
structure ObjInfo where
  index : Nat
  name : String
  acc : Acc
  kind : Kind
  fields : List FieldInfo
  dflt : List Int
  insts : List Nat
  presence : Nat
deriving DecidableEq, Repr

end Sys2Proof.Machine
end

