-- ==== Sys2Proof/Machine/Objects.lean ====
section
/-!
DEFINITION. The object maps of the spec: every object of the Loref dictionary with its index, access class, type,
range and default (Tables AC-7, OD-9, SU-9, RF-11, RF-12, PH-8, SF-4, LK-6, FL-8, GN-9 to GN-11, SN-8, TM-6 to TM-10,
AO-4, PW-7, SE-10, HP-12, UA-5, FT-5), and the lookup of an index (R36).
-/

namespace Sys2Proof.Machine

abbrev Obj.ENG_STATE : Nat := 0x01000200
abbrev Obj.ENG_RESTARTS : Nat := 0x01000201
abbrev Obj.ENG_LAST_RESTART : Nat := 0x01000202
abbrev Obj.ARB_PROMOTIONS : Nat := 0x01000210
abbrev Obj.FENCE : Nat := 0x01000220
abbrev Obj.ISLAND_PENDING : Nat := 0x01000221
abbrev Obj.LOREF_VERSION : Nat := 0x01000300
abbrev Obj.LOP1_ENABLE : Nat := 0x01000301
abbrev Obj.LOREF_UDP_ENABLE : Nat := 0x01000302
abbrev Obj.LOREF_UDP_PORT2 : Nat := 0x01000303
abbrev Obj.LOREF_UDP_PORT1 : Nat := 0x01000304
abbrev Obj.LOREF_RS485_ENABLE : Nat := 0x01000305
abbrev Obj.LOREF_RS485_ADDRESS : Nat := 0x01000306
abbrev Obj.SESSION_IDLE_TIMEOUT : Nat := 0x01000307
abbrev Obj.SESSIONS_OPEN : Nat := 0x01000308
abbrev Obj.SESSION_TABLE : Nat := 0x01000309
abbrev Obj.SESSION_END : Nat := 0x0100030A
abbrev Obj.LOREF_AUTH_FAIL : Nat := 0x01000310
abbrev Obj.LOREF_REPLAY : Nat := 0x01000311
abbrev Obj.LOREF_FORMAT_ERR : Nat := 0x01000312
abbrev Obj.LOREF_MBX_OVERLAP : Nat := 0x01000313
abbrev Obj.LOREF_RS485_ERR : Nat := 0x01000314
abbrev Obj.LOREF_BUSY : Nat := 0x01000315
abbrev Obj.PROFILE_ACTIVE : Nat := 0x01000320
abbrev Obj.PROFILE_PINS : Nat := 0x01000321
abbrev Obj.PROFILE_BOOT_OVERRIDE : Nat := 0x01000322
abbrev Obj.PROFILE_STAGE : Nat := 0x01000323
abbrev Obj.PROFILE_STAGE_CLEAR : Nat := 0x01000324
abbrev Obj.PROFILE_COMMIT : Nat := 0x01000325
abbrev Obj.PROFILE_SAVE : Nat := 0x01000326
abbrev Obj.PROFILE_APPLY : Nat := 0x01000327
abbrev Obj.PROFILE_INFO : Nat := 0x01000328
abbrev Obj.RESET_CAUSE : Nat := 0x01000400
abbrev Obj.RESET_COUNT : Nat := 0x01000401
abbrev Obj.START_STATE : Nat := 0x01000402
abbrev Obj.START_FLAGS : Nat := 0x01000403
abbrev Obj.START_TIME : Nat := 0x01000404
abbrev Obj.CHIP_RESET : Nat := 0x01000405
abbrev Obj.PERST_SCOPE : Nat := 0x01000406
abbrev Obj.CLOCK_RETRY : Nat := 0x01000407
abbrev Obj.CLOCK_SOURCE : Nat := 0x01000408
abbrev Obj.BOOT_BUNDLE : Nat := 0x01000410
abbrev Obj.BUNDLE_INFO : Nat := 0x01000411
abbrev Obj.ROLLBACK_FLOOR : Nat := 0x01000412
abbrev Obj.FW_STAGE_BEGIN : Nat := 0x01001100
abbrev Obj.FW_STAGE : Nat := 0x01001101
abbrev Obj.FW_VERIFY : Nat := 0x01001102
abbrev Obj.FW_VERIFY_REASON : Nat := 0x01001103
abbrev Obj.FW_ACTIVATE : Nat := 0x01001104
abbrev Obj.FW_CONFIRM : Nat := 0x01001105
abbrev Obj.FW_TRIAL_TIMEOUT : Nat := 0x01001106
abbrev Obj.FW_TRIAL_REMAINING : Nat := 0x01001107
abbrev Obj.ROLLBACK_ADVANCE : Nat := 0x01001108
abbrev Obj.RF_STATE : Nat := 0x06000100
abbrev Obj.RF_PATH_ENABLE : Nat := 0x06000101
abbrev Obj.RF_TX_ENABLE : Nat := 0x06000102
abbrev Obj.RF_TX_INHIBIT : Nat := 0x06000103
abbrev Obj.RF_TX_REARM : Nat := 0x06000104
abbrev Obj.RF_SLICE_CENTRE : Nat := 0x06000105
abbrev Obj.RF_CAL_STATUS : Nat := 0x06000110
abbrev Obj.RF_CAL_REQUEST : Nat := 0x06000111
abbrev Obj.RF_CAL_TEMP : Nat := 0x06000112
abbrev Obj.RF_RECAL_DELTA : Nat := 0x06000113
abbrev Obj.RF_CAL_PREEMPTS : Nat := 0x06000114
abbrev Obj.RF_PWR_TABLE : Nat := 0x06000120
abbrev Obj.RF_PA_GAIN : Nat := 0x06000121
abbrev Obj.RF_PA_BYPASS_GAIN : Nat := 0x06000122
abbrev Obj.RF_ANT_LOSS : Nat := 0x06000123
abbrev Obj.RF_ANT_GAIN : Nat := 0x06000124
abbrev Obj.RF_PWR_ANT : Nat := 0x06000125
abbrev Obj.RF_TXPWR_FLOOR : Nat := 0x06000130
abbrev Obj.RF_TXPWR_CEIL : Nat := 0x06000131
abbrev Obj.RF_RATE_FLOOR : Nat := 0x06000132
abbrev Obj.RF_RATE_CEIL : Nat := 0x06000133
abbrev Obj.RF_RXGAIN_FLOOR : Nat := 0x06000134
abbrev Obj.RF_RXGAIN_CEIL : Nat := 0x06000135
abbrev Obj.RF_BOUND_HITS : Nat := 0x06000136
abbrev Obj.RF_CLAMP_COUNTS : Nat := 0x06000137
abbrev Obj.RF_TX_MAX_MS : Nat := 0x06000140
abbrev Obj.RF_TX_TIMEOUTS : Nat := 0x06000141
abbrev Obj.RF_TX_LATE : Nat := 0x06000142
abbrev Obj.RF_LATE_STARTS : Nat := 0x06000143
abbrev Obj.RF_RX_PREEMPTED : Nat := 0x06000144
abbrev Obj.RF_FE_POLARITY : Nat := 0x06000150
abbrev Obj.RF_TX_EXT_DELAY : Nat := 0x06000151
abbrev Obj.RF_TX_INT_DELAY : Nat := 0x06000152
abbrev Obj.REG_LOCK_STATE : Nat := 0x06000200
abbrev Obj.REG_LOCK_RECORD : Nat := 0x06000201
abbrev Obj.REG_LOCK_PROGRAM : Nat := 0x06000202
abbrev Obj.RF_THERMAL_BACKOFF_T : Nat := 0x06000210
abbrev Obj.RF_THERMAL_STEPS : Nat := 0x06000211
abbrev Obj.RF_DIE_TEMP : Nat := 0x06000212
abbrev Obj.MESH_LANE_CFG : Nat := 0x07000100
abbrev Obj.MESH_LANE_STATE : Nat := 0x07000101
abbrev Obj.MESH_PREAMBLE_OCTETS : Nat := 0x07000102
abbrev Obj.MESH_TX_WHITEN : Nat := 0x07000103
abbrev Obj.MESH_RX_EXT_DELAY : Nat := 0x07000104
abbrev Obj.MESH_RX_FRAMES : Nat := 0x07000110
abbrev Obj.MESH_FCS_ERR : Nat := 0x07000111
abbrev Obj.MESH_PHR_ERR : Nat := 0x07000112
abbrev Obj.MESH_LANE_BUSY : Nat := 0x07000113
abbrev Obj.MESH_DUP_LANE : Nat := 0x07000114
abbrev Obj.MESH_MHR_ERR : Nat := 0x07000115
abbrev Obj.MESH_IE_SKIPPED : Nat := 0x07000116
abbrev Obj.MESH_PAYLOAD_ERR : Nat := 0x07000117
abbrev Obj.MESH_PLAN : Nat := 0x07000010
abbrev Obj.MESH_PLAN_CUSTOM : Nat := 0x07000011
abbrev Obj.MESH_PAN_ID : Nat := 0x07000012
abbrev Obj.MESH_SLOT_MS : Nat := 0x07000020
abbrev Obj.MESH_ASN : Nat := 0x07000021
abbrev Obj.MESH_SLOT_INDEX : Nat := 0x07000022
abbrev Obj.MESH_EPOCH : Nat := 0x07000023
abbrev Obj.MESH_MEMBER : Nat := 0x07000024
abbrev Obj.MESH_HOP_SEED : Nat := 0x07000025
abbrev Obj.MESH_DRIFT_TEMPCO : Nat := 0x07000026
abbrev Obj.MESH_DRIFT_TSWING : Nat := 0x07000027
abbrev Obj.MESH_RESYNC_MAX : Nat := 0x07000028
abbrev Obj.MESH_RESYNC_MISSES : Nat := 0x07000029
abbrev Obj.MESH_LINKS_RESYNC : Nat := 0x0700002A
abbrev Obj.MESH_RESYNC_COUNTS : Nat := 0x0700002B
abbrev Obj.MESH_GUARD_HIST : Nat := 0x0700002C
abbrev Obj.MESH_ASN_RETRY : Nat := 0x0700002D
abbrev Obj.MESH_NBR_CFG : Nat := 0x07000040
abbrev Obj.MESH_NBR_STATE : Nat := 0x07000041
abbrev Obj.MESH_BEACON_ENABLE : Nat := 0x07000200
abbrev Obj.MESH_BEACON_MODE : Nat := 0x07000201
abbrev Obj.MESH_BEACON_CH_OFFSET : Nat := 0x07000202
abbrev Obj.MESH_BEACON_PWR : Nat := 0x07000203
abbrev Obj.MESH_BEACONS_SENT : Nat := 0x07000204
abbrev Obj.MESH_BEACON_FAILS : Nat := 0x07000205
abbrev Obj.MESH_BEACON_LAST_FAIL : Nat := 0x07000206
abbrev Obj.MESH_BEACON_IE_DROPPED : Nat := 0x07000207
abbrev Obj.MESH_SLOTS_FROZEN : Nat := 0x07000208
abbrev Obj.MESH_SLOTS_NEIGHBOUR : Nat := 0x07000209
abbrev Obj.LINK_ASSOC_POLICY : Nat := 0x07000050
abbrev Obj.LINK_SUPERVISION : Nat := 0x07000051
abbrev Obj.LINK_RETRY_MAX : Nat := 0x07000052
abbrev Obj.LINK_TXN_LIFE : Nat := 0x07000053
abbrev Obj.LINK_CTR_MARGIN : Nat := 0x07000054
abbrev Obj.LINK_CHMAP_LEAD : Nat := 0x07000055
abbrev Obj.LINK_LBT_THRESHOLD : Nat := 0x07000056
abbrev Obj.LINK_REMOVE : Nat := 0x07000057
abbrev Obj.LINK_STATE_COUNTS : Nat := 0x07000058
abbrev Obj.LINK_ASSOC_COUNTS : Nat := 0x07000059
abbrev Obj.LINK_REPLAY : Nat := 0x0700005A
abbrev Obj.LINK_DUPLICATES : Nat := 0x0700005B
abbrev Obj.LINK_MIC_FAIL : Nat := 0x0700005C
abbrev Obj.LINK_TIMEOUTS : Nat := 0x0700005D
abbrev Obj.LINK_TXN_INUSE : Nat := 0x07000060
abbrev Obj.LINK_TXN_PEAK : Nat := 0x07000061
abbrev Obj.LINK_TXN_CANCEL : Nat := 0x07000062
abbrev Obj.LINK_TXN_STATUS_COUNTS : Nat := 0x07000063
abbrev Obj.MESH_CHMAP : Nat := 0x07000300
abbrev Obj.MESH_CHMAP_C0 : Nat := 0x07000301
abbrev Obj.MESH_CHMAP_PENDING : Nat := 0x07000302
abbrev Obj.MESH_CHMAP_APPLY_ASN : Nat := 0x07000303
abbrev Obj.MESH_CHMAP_UNCONFIRMED : Nat := 0x07000304
abbrev Obj.DUTY_BAND_LIMIT : Nat := 0x07000310
abbrev Obj.DUTY_SUB_LIMIT : Nat := 0x07000311
abbrev Obj.DUTY_LIMIT_MS : Nat := 0x07000312
abbrev Obj.DUTY_USED : Nat := 0x07000313
abbrev Obj.DUTY_RESERVE_USED : Nat := 0x07000314
abbrev Obj.DUTY_DENIALS : Nat := 0x07000315
abbrev Obj.DUTY_NEXT : Nat := 0x07000316
abbrev Obj.DWELL_DENIALS : Nat := 0x07000317
abbrev Obj.LBT_BUSY : Nat := 0x07000318
abbrev Obj.FLOCK_RECORDS : Nat := 0x08000010
abbrev Obj.FLOCK_PINNED : Nat := 0x08000011
abbrev Obj.FLOCK_HITS : Nat := 0x08000012
abbrev Obj.FLOCK_MISSES : Nat := 0x08000013
abbrev Obj.FLOCK_LATE_FETCH : Nat := 0x08000014
abbrev Obj.FLOCK_STORE_USED : Nat := 0x08000015
abbrev Obj.FLOCK_ROUTE_CHANGES : Nat := 0x08000016
abbrev Obj.FLOCK_TABLE : Nat := 0x08001000
abbrev Obj.FLOCK_CFG : Nat := 0x08001001
abbrev Obj.FLOCK_RESTORE : Nat := 0x08001002
abbrev Obj.FLOCK_KEY_WRAP : Nat := 0x08001010
abbrev Obj.FLOCK_KEY_WRAP_OUT : Nat := 0x08001011
abbrev Obj.FL_CHORUS_BASE_SLOT : Nat := 0x08001020
abbrev Obj.FL_CHORUS_DELAY : Nat := 0x08001021
abbrev Obj.FL_CHORUS_MAX_ERR : Nat := 0x08001022
abbrev Obj.FL_CHORUS_READY : Nat := 0x08001023
abbrev Obj.FL_CHORUS_COUNTS : Nat := 0x08001024
abbrev Obj.FL_IMAGE_KEY_DIGEST : Nat := 0x08001030
abbrev Obj.FL_IMAGE_BEGIN : Nat := 0x08001031
abbrev Obj.FL_IMAGE_STAGE : Nat := 0x08001032
abbrev Obj.FL_IMAGE_VERIFY : Nat := 0x08001033
abbrev Obj.FL_IMAGE_INFO : Nat := 0x08001034
abbrev Obj.FL_CAMPAIGN_CFG : Nat := 0x08001040
abbrev Obj.FL_CAMPAIGN_START : Nat := 0x08001041
abbrev Obj.FL_CAMPAIGN_STOP : Nat := 0x08001042
abbrev Obj.FL_CAMPAIGN_STATE : Nat := 0x08001043
abbrev Obj.GRF_STATE : Nat := 0x06060400
abbrev Obj.GRF_CAL_STATUS : Nat := 0x06060401
abbrev Obj.GN_RF_DELAY : Nat := 0x06060402
abbrev Obj.GN_ANT_CABLE_DELAY : Nat := 0x06060403
abbrev Obj.GN_EXT_GAIN : Nat := 0x06060404
abbrev Obj.GN_ANT_BIAS_ENABLE : Nat := 0x06060410
abbrev Obj.GN_ANT_STATE : Nat := 0x06060411
abbrev Obj.GN_ANT_CURRENT : Nat := 0x06060412
abbrev Obj.GN_ANT_OPEN_MA : Nat := 0x06060413
abbrev Obj.GN_ANT_SHORT_MA : Nat := 0x06060414
abbrev Obj.GN_ANT_RETRY : Nat := 0x06060415
abbrev Obj.GN_AGC_GAIN : Nat := 0x09000100
abbrev Obj.GN_JAM_IND : Nat := 0x09000101
abbrev Obj.GN_JN : Nat := 0x09000102
abbrev Obj.GN_JAM_THRESH : Nat := 0x09000103
abbrev Obj.GN_NOTCH_THRESH : Nat := 0x09000110
abbrev Obj.GN_NOTCH_WIDTH : Nat := 0x09000111
abbrev Obj.GN_NOTCH_FIXED : Nat := 0x09000112
abbrev Obj.GN_NOTCH_STATE : Nat := 0x09000113
abbrev Obj.GN_NOTCH_OVERFLOW : Nat := 0x09000114
abbrev Obj.GN_SPECTRUM : Nat := 0x09000115
abbrev Obj.GN_BLANK_ENABLE : Nat := 0x09000120
abbrev Obj.GN_BLANK_THRESH : Nat := 0x09000121
abbrev Obj.GN_BLANK_HOLD : Nat := 0x09000122
abbrev Obj.GN_BLANK_MAX : Nat := 0x09000123
abbrev Obj.GN_BLANK_RATIO : Nat := 0x09000124
abbrev Obj.GN_BLANK_SATURATED : Nat := 0x09000125
abbrev Obj.GN_ENABLE : Nat := 0x09000200
abbrev Obj.GN_BAND_MODE : Nat := 0x09000201
abbrev Obj.GN_SYSTEMS : Nat := 0x09000202
abbrev Obj.GN_SIGNALS : Nat := 0x09000203
abbrev Obj.GN_ELEV_MASK : Nat := 0x09000204
abbrev Obj.GN_SBAS_APPLY : Nat := 0x09000205
abbrev Obj.GN_ACQ_SHARE : Nat := 0x09000210
abbrev Obj.GN_ACQ_THRESH : Nat := 0x09000211
abbrev Obj.GN_NIMB_AUTO : Nat := 0x09000212
abbrev Obj.GN_ACQ_WAITING : Nat := 0x09000213
abbrev Obj.GN_SPACING : Nat := 0x09000220
abbrev Obj.GN_PLL_BW : Nat := 0x09000221
abbrev Obj.GN_FLL_BW : Nat := 0x09000222
abbrev Obj.GN_DLL_BW : Nat := 0x09000223
abbrev Obj.GN_COH_MS : Nat := 0x09000224
abbrev Obj.GN_TRACK_DROP : Nat := 0x09000225
abbrev Obj.GN_CHANNELS_USED : Nat := 0x09000226
abbrev Obj.GN_EPH_RESID : Nat := 0x09000230
abbrev Obj.GN_EPH_REJECTED : Nat := 0x09000231
abbrev Obj.GN_ISB_MIN : Nat := 0x09000232
abbrev Obj.GN_SYS_OFFSET : Nat := 0x09000233
abbrev Obj.GN_RAIM_PFA : Nat := 0x09000234
abbrev Obj.GN_RAIM_EXCLUSIONS : Nat := 0x09000235
abbrev Obj.GN_TIMING_MODE : Nat := 0x09000240
abbrev Obj.GN_FIXED_POS : Nat := 0x09000241
abbrev Obj.GN_SURVEY_MIN : Nat := 0x09000242
abbrev Obj.GN_SURVEY_ACC : Nat := 0x09000243
abbrev Obj.GN_SURVEY_STATE : Nat := 0x09000244
abbrev Obj.GN_FIXED_RESID : Nat := 0x09000245
abbrev Obj.GN_REF_POS : Nat := 0x09000246
abbrev Obj.GN_MEAS_ENABLE : Nat := 0x09000250
abbrev Obj.GN_MEAS_RATE : Nat := 0x09000251
abbrev Obj.GN_MEAS_LAST : Nat := 0x09000252
abbrev Obj.GN_NAV_LAST : Nat := 0x09000253
abbrev Obj.GN_START_MODE : Nat := 0x09000260
abbrev Obj.GN_START_TYPE : Nat := 0x09000261
abbrev Obj.GN_TTFF : Nat := 0x09000262
abbrev Obj.GN_RTC_PPM : Nat := 0x09000263
abbrev Obj.SN_ENABLE : Nat := 0x0A000100
abbrev Obj.SN_SIGNALS : Nat := 0x0A000101
abbrev Obj.SN_MAX_SV : Nat := 0x0A000102
abbrev Obj.SN_MIN_SV : Nat := 0x0A000103
abbrev Obj.SN_ELEV_MASK : Nat := 0x0A000104
abbrev Obj.SN_MAX_RANGE : Nat := 0x0A000105
abbrev Obj.SN_MAX_TIME_UNC : Nat := 0x0A000106
abbrev Obj.SN_MAX_AGE : Nat := 0x0A000107
abbrev Obj.SN_FRAG_WAIT : Nat := 0x0A000108
abbrev Obj.SN_QUEUE_MAX : Nat := 0x0A000109
abbrev Obj.SN_QUEUE_DEADLINE : Nat := 0x0A00010A
abbrev Obj.SN_DET_THRESH : Nat := 0x0A00010B
abbrev Obj.SN_HEIGHT_AID : Nat := 0x0A00010C
abbrev Obj.SN_HEIGHT_SIGMA : Nat := 0x0A00010D
abbrev Obj.SN_DETAIL : Nat := 0x0A00010E
abbrev Obj.SN_QUEUE_DEPTH : Nat := 0x0A000110
abbrev Obj.SN_QUEUE_PEAK : Nat := 0x0A000111
abbrev Obj.SN_FRAG_HELD : Nat := 0x0A000112
abbrev Obj.SN_COUNTS : Nat := 0x0A000113
abbrev Obj.SN_RATE : Nat := 0x0A000114
abbrev Obj.SN_NIMBUS_LOAD : Nat := 0x0A000115
abbrev Obj.TB_NOW : Nat := 0x0B000100
abbrev Obj.TB_STATE : Nat := 0x0B000101
abbrev Obj.TB_ERR_EST : Nat := 0x0B000102
abbrev Obj.TB_FREQ_OFFSET : Nat := 0x0B000103
abbrev Obj.TB_SLEW_ACC : Nat := 0x0B000104
abbrev Obj.TB_STEPS : Nat := 0x0B000105
abbrev Obj.TB_LAST_STEP : Nat := 0x0B000106
abbrev Obj.TB_FLAGS : Nat := 0x0B000107
abbrev Obj.TM_SRC_PRIORITY : Nat := 0x0B000200
abbrev Obj.TM_SELECTED : Nat := 0x0B000201
abbrev Obj.TM_SRC_STATE : Nat := 0x0B000202
abbrev Obj.TM_SWITCH_HOLD : Nat := 0x0B000203
abbrev Obj.TM_AGREE_LIMIT : Nat := 0x0B000204
abbrev Obj.TM_STEP_MAX : Nat := 0x0B000205
abbrev Obj.TM_ACCEPT_STEP : Nat := 0x0B000206
abbrev Obj.TM_HOST_TIME : Nat := 0x0B000207
abbrev Obj.TM_HOST_UNC : Nat := 0x0B000208
abbrev Obj.TM_HOST_VALID : Nat := 0x0B000209
abbrev Obj.TM_HOLDOVER_LIMIT : Nat := 0x0B000210
abbrev Obj.TM_HOLDOVER_ACTION : Nat := 0x0B000211
abbrev Obj.TM_HO_FREQ_UNC : Nat := 0x0B000212
abbrev Obj.TM_HO_AGING : Nat := 0x0B000213
abbrev Obj.TM_AIR_SLEW_RATE : Nat := 0x0B000220
abbrev Obj.TM_AIR_TRIM : Nat := 0x0B000221
abbrev Obj.TM_CV_PEER : Nat := 0x0B000230
abbrev Obj.TM_CV_RESULT : Nat := 0x0B000231
abbrev Obj.PTP_ROLE : Nat := 0x0B000300
abbrev Obj.PTP_PORT : Nat := 0x0B000301
abbrev Obj.PTP_PROFILE : Nat := 0x0B000302
abbrev Obj.PTP_TRANSPORT : Nat := 0x0B000303
abbrev Obj.PTP_DOMAIN : Nat := 0x0B000304
abbrev Obj.PTP_ONE_STEP : Nat := 0x0B000305
abbrev Obj.PTP_LOG_INTERVALS : Nat := 0x0B000306
abbrev Obj.PTP_ANNOUNCE_TIMEOUT : Nat := 0x0B000307
abbrev Obj.PTP_PRIORITIES : Nat := 0x0B000308
abbrev Obj.PTP_MAX_CLASS : Nat := 0x0B000309
abbrev Obj.PTP_UNICAST_MASTERS : Nat := 0x0B00030A
abbrev Obj.PTP_BW : Nat := 0x0B00030B
abbrev Obj.PTP_ASYM_UNC : Nat := 0x0B00030C
abbrev Obj.PTP_PORT_STATE : Nat := 0x0B000310
abbrev Obj.PTP_PARENT : Nat := 0x0B000311
abbrev Obj.PTP_OFFSET : Nat := 0x0B000312
abbrev Obj.PTP_MEAN_DELAY : Nat := 0x0B000313
abbrev Obj.PTP_COUNTS : Nat := 0x0B000314
abbrev Obj.ETH_TS_RX_LAT : Nat := 0x04000200
abbrev Obj.ETH_TS_TX_LAT : Nat := 0x04000201
abbrev Obj.ETH_TS_ASYM : Nat := 0x04000202
abbrev Obj.ETH_TS_INT_LAT : Nat := 0x04000203
abbrev Obj.TP_ENABLE : Nat := 0x09000300
abbrev Obj.TP_SOURCE : Nat := 0x09000301
abbrev Obj.TP_PERIOD : Nat := 0x09000302
abbrev Obj.TP_WIDTH : Nat := 0x09000303
abbrev Obj.TP_PHASE : Nat := 0x09000304
abbrev Obj.TP_DELAY : Nat := 0x09000305
abbrev Obj.TP_POLARITY : Nat := 0x09000306
abbrev Obj.TP_STATE : Nat := 0x09000307
abbrev Obj.TP_LAST : Nat := 0x09000308
abbrev Obj.TP_OMITTED : Nat := 0x09000309
abbrev Obj.RTC_TICK : Nat := 0x0C000100
abbrev Obj.RTC_NOW : Nat := 0x0C000101
abbrev Obj.RTC_SET : Nat := 0x0C000102
abbrev Obj.RTC_HALT : Nat := 0x0C000103
abbrev Obj.RTC_PENDING : Nat := 0x0C000104
abbrev Obj.RTC_TRIM : Nat := 0x0C000105
abbrev Obj.RTC_AUTOTRIM_ENABLE : Nat := 0x0C000106
abbrev Obj.RTC_ALARM : Nat := 0x0C000110
abbrev Obj.RTC_ALARM_ENABLE : Nat := 0x0C000111
abbrev Obj.RTC_ALARM_STATE : Nat := 0x0C000112
abbrev Obj.RTC_ALARM_WAKE : Nat := 0x0C000113
abbrev Obj.RTC_SYNC_ENABLE : Nat := 0x0C000120
abbrev Obj.RTC_SCALE : Nat := 0x0C000121
abbrev Obj.RTC_ZONE : Nat := 0x0C000122
abbrev Obj.RTC_SYNC_PERIOD : Nat := 0x0C000123
abbrev Obj.RTC_COUNTS : Nat := 0x0C000124
abbrev Obj.TIME_DOUBTFUL : Nat := 0x0C000130
abbrev Obj.AON_TIME_ANCHOR : Nat := 0x0C000131
abbrev Obj.AON_SUPPLY : Nat := 0x0C000140
abbrev Obj.AON_VBAT_MV : Nat := 0x0C000141
abbrev Obj.AON_VBAT_LOW_MV : Nat := 0x0C000142
abbrev Obj.AON_COUNTS : Nat := 0x0C000143
abbrev Obj.PADDOCK_STATE : Nat := 0x0C000150
abbrev Obj.PADDOCK_FAILS : Nat := 0x0C000151
abbrev Obj.PADDOCK_CLEAR : Nat := 0x0C000152
abbrev Obj.PW_STATE : Nat := 0x0D000100
abbrev Obj.PW_TARGET : Nat := 0x0D000101
abbrev Obj.PW_STEP : Nat := 0x0D000102
abbrev Obj.PW_QUIESCE_MAX : Nat := 0x0D000103
abbrev Obj.PW_REFUSALS : Nat := 0x0D000110
abbrev Obj.PW_COUNTS : Nat := 0x0D000111
abbrev Obj.PW_LAST_FAIL : Nat := 0x0D000112
abbrev Obj.PW_WAKE_ENABLE : Nat := 0x0D000120
abbrev Obj.PW_WAKE_TARGETS : Nat := 0x0D000121
abbrev Obj.PW_WAKE_LAST : Nat := 0x0D000122
abbrev Obj.PW_WAKE_COUNTS : Nat := 0x0D000123
abbrev Obj.SEC_SLOT_INFO : Nat := 0x02000100
abbrev Obj.SEC_ROOTS_PRESENT : Nat := 0x02000101
abbrev Obj.SEC_ROOT_FPR : Nat := 0x02000102
abbrev Obj.SEC_CACHE_STATS : Nat := 0x02000103
abbrev Obj.SEC_DUMMY_ROUNDS : Nat := 0x02000104
abbrev Obj.SEC_SHUFFLE : Nat := 0x02000105
abbrev Obj.SEC_TAG_FAILS : Nat := 0x02000106
abbrev Obj.SEC_ENTROPY_STATE : Nat := 0x02000107
abbrev Obj.SEC_NO_KEY : Nat := 0x02000108
abbrev Obj.SEC_TAMPER_ENABLE : Nat := 0x02000110
abbrev Obj.SEC_TAMPER_LATCH : Nat := 0x02000111
abbrev Obj.SEC_TAMPER_CLEAR : Nat := 0x02000112
abbrev Obj.SEC_ZEROISE : Nat := 0x02000113
abbrev Obj.SEC_ZEROISATIONS : Nat := 0x02000114
abbrev Obj.SEC_LAST_TAMPER : Nat := 0x02000115
abbrev Obj.SEC_PRES_STATE : Nat := 0x02000120
abbrev Obj.SEC_PRES_CLOSE : Nat := 0x02000121
abbrev Obj.SEC_PRES_COUNTS : Nat := 0x02000122
abbrev Obj.SEC_ROOT_LOAD : Nat := 0x02001000
abbrev Obj.SEC_ROOT_ERASE : Nat := 0x02001001
abbrev Obj.SEC_DISTRICT_SWITCH : Nat := 0x02001002
abbrev Obj.SEC_NEXT_KEY_WRAP : Nat := 0x02001003
abbrev Obj.SEC_NEXT_KEY_WRAP_OUT : Nat := 0x02001004
abbrev Obj.SEC_GROUPS : Nat := 0x02001005
abbrev Obj.SEC_ATTEST_REQUEST : Nat := 0x02001010
abbrev Obj.SEC_ATTEST_STATUS : Nat := 0x02001011
abbrev Obj.SEC_ATTEST_REPORT : Nat := 0x02001012
abbrev Obj.SEC_ATTEST_PUBKEY : Nat := 0x02001013
abbrev Obj.HOST_LINK : Nat := 0x03000100
abbrev Obj.HOST_RING_FORMAT : Nat := 0x03000101
abbrev Obj.HOST_BUF_SIZE : Nat := 0x03000102
abbrev Obj.RING_CFG : Nat := 0x03000103
abbrev Obj.RING_STATE : Nat := 0x03000104
abbrev Obj.RING_DROPS : Nat := 0x03000105
abbrev Obj.RING_HELD : Nat := 0x03000106
abbrev Obj.RING_CFG_REJECTS : Nat := 0x03000107
abbrev Obj.BAR0_BAD_ACCESS : Nat := 0x03000108
abbrev Obj.ETH_MODE : Nat := 0x04000100
abbrev Obj.ETH_SGMII_AN : Nat := 0x04000101
abbrev Obj.ETH_LINK : Nat := 0x04000102
abbrev Obj.ETH_MAC : Nat := 0x04000103
abbrev Obj.ETH_VLAN : Nat := 0x04000104
abbrev Obj.ETH_IPV4 : Nat := 0x04000105
abbrev Obj.ETH_IPV6 : Nat := 0x04000106
abbrev Obj.ETH_COUNTS : Nat := 0x04000107
abbrev Obj.MEM_DDR_INFO : Nat := 0x05000100
abbrev Obj.MEM_ECC_COUNTS : Nat := 0x05000101
abbrev Obj.MEM_SCRUB_HOURS : Nat := 0x05000102
abbrev Obj.MEM_FLASH_INFO : Nat := 0x05000110
abbrev Obj.MEM_FLASH_COUNTS : Nat := 0x05000111
abbrev Obj.UART_ENABLE : Nat := 0x0E000100
abbrev Obj.UART_BAUD : Nat := 0x0E000101
abbrev Obj.UART_BAUD_ACTUAL : Nat := 0x0E000102
abbrev Obj.UART_OSR : Nat := 0x0E000103
abbrev Obj.UART_FRAME : Nat := 0x0E000104
abbrev Obj.UART_RX_DATA : Nat := 0x0E000105
abbrev Obj.UART_TX_DATA : Nat := 0x0E000106
abbrev Obj.UART_RX_NOTIFY : Nat := 0x0E000107
abbrev Obj.UART_STUCK_MS : Nat := 0x0E000108
abbrev Obj.UART_ECHO : Nat := 0x0E000109
abbrev Obj.UART_DE_LEAD : Nat := 0x0E00010A
abbrev Obj.UART_DE_TAIL : Nat := 0x0E00010B
abbrev Obj.UART_FLOW_ENABLE : Nat := 0x0E00010C
abbrev Obj.UART_RTS_LEVELS : Nat := 0x0E00010D
abbrev Obj.UART_SLOW_RX : Nat := 0x0E00010E
abbrev Obj.UART_STATUS : Nat := 0x0E000110
abbrev Obj.UART_COUNTS : Nat := 0x0E000111
abbrev Obj.EVENT_LOG : Nat := 0x0F000100
abbrev Obj.EVENT_SEQ : Nat := 0x0F000101
abbrev Obj.EVENT_NOTIFY : Nat := 0x0F000102
abbrev Obj.EVENT_ARCHIVE : Nat := 0x0F000103
abbrev Obj.EVENT_REGION_COUNTS : Nat := 0x0F000104
abbrev Obj.EVENT_SUPPRESSED : Nat := 0x0F000105
abbrev Obj.FAULT_RECORD : Nat := 0x0F000110
abbrev Obj.FAULT_RELEASE : Nat := 0x0F000111
abbrev Obj.CONTAIN_COUNTS : Nat := 0x0F000112
abbrev Obj.FAULT_CLEAR : Nat := 0x0F000113

/-- The fields of a Flock record in the order of Table FL-1; GROUPS is one 8-byte field, reserved bytes are fields. -/
def flockCfgFields : List FieldInfo := [
  ⟨.u64, 0, 18446744073709551615⟩, ⟨.u8, 0, 12⟩, ⟨.u8, 0, 255⟩, ⟨.u16, 0, 65535⟩, ⟨.u32, 0, 4294967295⟩,
  ⟨.u16, 0, 65535⟩, ⟨.u16, 0, 65535⟩, ⟨.u16, 0, 65535⟩, ⟨.u16, 0, 65535⟩]

/-- The whole record of Table FL-1. -/
def flockTableFields : List FieldInfo := flockCfgFields ++ [
  ⟨.u8, 0, 3⟩, ⟨.u8, 0, 15⟩, ⟨.u8, 0, 255⟩, ⟨.u8, 0, 255⟩, ⟨.u16, 0, 65535⟩, ⟨.u8, 0, 255⟩, ⟨.u8, 0, 255⟩,
  ⟨.u16, 0, 65535⟩, ⟨.u16, 0, 65535⟩, ⟨.i8, -128, 127⟩, ⟨.i8, -128, 127⟩, ⟨.u8, 0, 255⟩, ⟨.u8, 0, 255⟩,
  ⟨.u64, 0, 18446744073709551615⟩, ⟨.ts96, 0, 79228162514264337593543950335⟩, ⟨.i16, -32768, 32767⟩,
  ⟨.i16, -32768, 32767⟩, ⟨.i32, -2147483648, 2147483647⟩] ++ [
  ⟨.u32, 0, 4294967295⟩, ⟨.u32, 0, 4294967295⟩, ⟨.u32, 0, 4294967295⟩, ⟨.u64, 0, 18446744073709551615⟩,
  ⟨.u8, 0, 255⟩, ⟨.u8, 0, 255⟩, ⟨.u16, 0, 65535⟩, ⟨.u32, 0, 4294967295⟩, ⟨.u32, 0, 4294967295⟩,
  ⟨.u32, 0, 4294967295⟩, ⟨.u32, 0, 4294967295⟩, ⟨.u8, 0, 255⟩, ⟨.u8, 0, 255⟩, ⟨.u8, 0, 255⟩, ⟨.u8, 0, 255⟩,
  ⟨.u32, 0, 4294967295⟩, ⟨.u32, 0, 4294967295⟩, ⟨.u32, 0, 4294967295⟩, ⟨.u32, 0, 4294967295⟩]

/-- REGION_INFO, object 0x0000 of every region (R38). -/
def regionInfoObject (region : Nat) : ObjInfo :=
  ⟨region * 0x1000000, "REGION_INFO", .ro, .record, [⟨.u8, 0, 255⟩, ⟨.u8, 0, 3⟩, ⟨.u16, 0, 65535⟩, ⟨.u16, 0, 65535⟩],
    [0, 0, 0, 0], [0], 0⟩

def sysObjects0 : List ObjInfo := [
  ⟨Obj.ENG_STATE, "ENG_STATE", .ro, .scalar, [⟨.u8, 0, 3⟩], [0], [0, 1, 2, 3, 4, 5, 6, 7], 0⟩,
  ⟨Obj.ENG_RESTARTS, "ENG_RESTARTS", .ro, .scalar, [⟨.u32, 0, 4294967295⟩], [0], [0, 1, 2, 3, 4, 5, 6, 7], 0⟩,
  ⟨Obj.ENG_LAST_RESTART, "ENG_LAST_RESTART", .ro, .scalar, [⟨.ts96, 0, 79228162514264337593543950335⟩], [0], [0, 1, 2, 3, 4, 5, 6, 7], 0⟩,
  ⟨Obj.ARB_PROMOTIONS, "ARB_PROMOTIONS", .ro, .array 15, [⟨.u32, 0, 4294967295⟩], [0], [0], 0⟩,
  ⟨Obj.FENCE, "FENCE", .cmd, .scalar, [⟨.u32, 0, 0⟩], [0], [0], 0⟩,
  ⟨Obj.ISLAND_PENDING, "ISLAND_PENDING", .ro, .scalar, [⟨.u16, 0, 65535⟩], [0], [0], 0⟩,
  ⟨Obj.LOREF_VERSION, "LOREF_VERSION", .ro, .scalar, [⟨.u16, 0, 65535⟩], [513], [0], 0⟩,
  ⟨Obj.LOP1_ENABLE, "LOP1_ENABLE", .rwa, .scalar, [⟨.bool, 0, 1⟩], [0], [0], 0⟩,
  ⟨Obj.LOREF_UDP_ENABLE, "LOREF_UDP_ENABLE", .rwa, .scalar, [⟨.u8, 0, 255⟩], [0], [0], 0⟩,
  ⟨Obj.LOREF_UDP_PORT2, "LOREF_UDP_PORT2", .rwa, .scalar, [⟨.u16, 1024, 65535⟩], [50210], [0], 0⟩,
  ⟨Obj.LOREF_UDP_PORT1, "LOREF_UDP_PORT1", .rwa, .scalar, [⟨.u16, 1024, 65535⟩], [50209], [0], 0⟩,
  ⟨Obj.LOREF_RS485_ENABLE, "LOREF_RS485_ENABLE", .rwa, .scalar, [⟨.u8, 0, 255⟩], [0], [0], 0⟩,
  ⟨Obj.LOREF_RS485_ADDRESS, "LOREF_RS485_ADDRESS", .rwa, .scalar, [⟨.u8, 1, 247⟩], [1], [0], 0⟩,
  ⟨Obj.SESSION_IDLE_TIMEOUT, "SESSION_IDLE_TIMEOUT", .rwa, .scalar, [⟨.u16, 10, 3600⟩], [300], [0], 0⟩,
  ⟨Obj.SESSIONS_OPEN, "SESSIONS_OPEN", .ro, .scalar, [⟨.u8, 0, 8⟩], [0], [0], 0⟩,
  ⟨Obj.SESSION_TABLE, "SESSION_TABLE", .ro, .array 8, [⟨.u32, 0, 4294967295⟩, ⟨.u8, 0, 255⟩, ⟨.u8, 0, 4⟩, ⟨.u16, 0, 65535⟩], [0, 0, 0, 0], [0], 0⟩,
  ⟨Obj.SESSION_END, "SESSION_END", .rwa, .scalar, [⟨.u32, 0, 4294967295⟩], [0], [0], 0⟩,
  ⟨Obj.LOREF_AUTH_FAIL, "LOREF_AUTH_FAIL", .ro, .scalar, [⟨.u32, 0, 4294967295⟩], [0], [0], 0⟩,
  ⟨Obj.LOREF_REPLAY, "LOREF_REPLAY", .ro, .scalar, [⟨.u32, 0, 4294967295⟩], [0], [0], 0⟩,
  ⟨Obj.LOREF_FORMAT_ERR, "LOREF_FORMAT_ERR", .ro, .scalar, [⟨.u32, 0, 4294967295⟩], [0], [0], 0⟩,
  ⟨Obj.LOREF_MBX_OVERLAP, "LOREF_MBX_OVERLAP", .ro, .scalar, [⟨.u32, 0, 4294967295⟩], [0], [0], 0⟩,
  ⟨Obj.LOREF_RS485_ERR, "LOREF_RS485_ERR", .ro, .scalar, [⟨.u32, 0, 4294967295⟩], [0], [0], 0⟩,
  ⟨Obj.LOREF_BUSY, "LOREF_BUSY", .ro, .scalar, [⟨.u32, 0, 4294967295⟩], [0], [0], 0⟩,
  ⟨Obj.PROFILE_ACTIVE, "PROFILE_ACTIVE", .ro, .scalar, [⟨.u8, 0, 3⟩], [0], [0], 0⟩,
  ⟨Obj.PROFILE_PINS, "PROFILE_PINS", .ro, .scalar, [⟨.u8, 0, 3⟩], [0], [0], 0⟩,
  ⟨Obj.PROFILE_BOOT_OVERRIDE, "PROFILE_BOOT_OVERRIDE", .rwa, .scalar, [⟨.u8, 0, 255⟩], [255], [0], 0⟩,
  ⟨Obj.PROFILE_STAGE, "PROFILE_STAGE", .rwa, .blob 65536, [⟨.u8, 0, 255⟩], [0], [0], 0⟩,
  ⟨Obj.PROFILE_STAGE_CLEAR, "PROFILE_STAGE_CLEAR", .cmd, .scalar, [⟨.u32, 0, 0⟩], [0], [0], 0⟩,
  ⟨Obj.PROFILE_COMMIT, "PROFILE_COMMIT", .rwa, .scalar, [⟨.u8, 1, 3⟩], [0], [0], 0⟩,
  ⟨Obj.PROFILE_SAVE, "PROFILE_SAVE", .rwa, .scalar, [⟨.u8, 1, 3⟩], [0], [0], 0⟩]

def sysObjects1 : List ObjInfo := [
  ⟨Obj.PROFILE_APPLY, "PROFILE_APPLY", .rwa, .scalar, [⟨.u8, 0, 3⟩], [0], [0], 0⟩,
  ⟨Obj.PROFILE_INFO, "PROFILE_INFO", .ro, .array 4, [⟨.bool, 0, 1⟩, ⟨.u32, 0, 4294967295⟩, ⟨.u32, 0, 4294967295⟩, ⟨.u64, 0, 18446744073709551615⟩, ⟨.u32, 0, 4294967295⟩], [0, 0, 0, 0, 0], [0], 0⟩,
  ⟨Obj.RESET_CAUSE, "RESET_CAUSE", .ro, .scalar, [⟨.u16, 0, 65535⟩], [0], [0], 0⟩,
  ⟨Obj.RESET_COUNT, "RESET_COUNT", .ro, .scalar, [⟨.u32, 0, 4294967295⟩], [0], [0], 0⟩,
  ⟨Obj.START_STATE, "START_STATE", .ro, .scalar, [⟨.u8, 0, 5⟩], [0], [0], 0⟩,
  ⟨Obj.START_FLAGS, "START_FLAGS", .ro, .scalar, [⟨.u16, 0, 65535⟩], [0], [0], 0⟩,
  ⟨Obj.START_TIME, "START_TIME", .ro, .scalar, [⟨.u32, 0, 4294967295⟩], [0], [0], 0⟩,
  ⟨Obj.CHIP_RESET, "CHIP_RESET", .rwa, .scalar, [⟨.u8, 1, 1⟩], [0], [0], 0⟩,
  ⟨Obj.PERST_SCOPE, "PERST_SCOPE", .rwa, .scalar, [⟨.u8, 0, 1⟩], [0], [0], 0⟩,
  ⟨Obj.CLOCK_RETRY, "CLOCK_RETRY", .rwa, .scalar, [⟨.u8, 1, 1⟩], [0], [0], 0⟩,
  ⟨Obj.CLOCK_SOURCE, "CLOCK_SOURCE", .ro, .scalar, [⟨.u8, 0, 2⟩], [0], [0], 0⟩,
  ⟨Obj.BOOT_BUNDLE, "BOOT_BUNDLE", .ro, .scalar, [⟨.u8, 0, 255⟩], [255], [0], 0⟩,
  ⟨Obj.BUNDLE_INFO, "BUNDLE_INFO", .ro, .array 2, [⟨.u8, 0, 255⟩, ⟨.u32, 0, 4294967295⟩, ⟨.u8, 0, 255⟩, ⟨.u64, 0, 18446744073709551615⟩, ⟨.u8, 0, 255⟩], [0, 0, 0, 0, 0], [0], 0⟩,
  ⟨Obj.ROLLBACK_FLOOR, "ROLLBACK_FLOOR", .ro, .scalar, [⟨.u8, 0, 96⟩], [0], [0], 0⟩,
  ⟨Obj.FW_STAGE_BEGIN, "FW_STAGE_BEGIN", .rwa, .scalar, [⟨.u32, 1, 16777216⟩], [0], [0], 0⟩,
  ⟨Obj.FW_STAGE, "FW_STAGE", .rwa, .blob 16777216, [⟨.u8, 0, 255⟩], [0], [0], 0⟩,
  ⟨Obj.FW_VERIFY, "FW_VERIFY", .rwa, .scalar, [⟨.u8, 0, 0⟩], [0], [0], 0⟩,
  ⟨Obj.FW_VERIFY_REASON, "FW_VERIFY_REASON", .ro, .scalar, [⟨.u8, 0, 8⟩], [0], [0], 0⟩,
  ⟨Obj.FW_ACTIVATE, "FW_ACTIVATE", .rwa, .scalar, [⟨.u8, 1, 2⟩], [0], [0], 0⟩,
  ⟨Obj.FW_CONFIRM, "FW_CONFIRM", .rwa, .scalar, [⟨.u8, 1, 1⟩], [0], [0], 0⟩,
  ⟨Obj.FW_TRIAL_TIMEOUT, "FW_TRIAL_TIMEOUT", .rwa, .scalar, [⟨.u16, 60, 3600⟩], [600], [0], 0⟩,
  ⟨Obj.FW_TRIAL_REMAINING, "FW_TRIAL_REMAINING", .ro, .scalar, [⟨.u16, 0, 65535⟩], [0], [0], 0⟩,
  ⟨Obj.ROLLBACK_ADVANCE, "ROLLBACK_ADVANCE", .rwa, .scalar, [⟨.u8, 1, 96⟩], [0], [0], 0⟩]

/-- The objects of region 0x1, as the object maps of its chapter list them. -/
def sysObjects : List ObjInfo := sysObjects0 ++ sysObjects1

def secObjects0 : List ObjInfo := [
  ⟨Obj.SEC_SLOT_INFO, "SEC_SLOT_INFO", .ro, .array 64, [⟨.u8, 0, 2⟩, ⟨.u32, 0, 4294967295⟩], [0, 0], [0], 0⟩,
  ⟨Obj.SEC_ROOTS_PRESENT, "SEC_ROOTS_PRESENT", .ro, .scalar, [⟨.u8, 0, 255⟩], [0], [0], 0⟩,
  ⟨Obj.SEC_ROOT_FPR, "SEC_ROOT_FPR", .ro, .array 4, [⟨.bytes 16, 0, 340282366920938463463374607431768211455⟩], [0], [0], 0⟩,
  ⟨Obj.SEC_CACHE_STATS, "SEC_CACHE_STATS", .ro, .record, [⟨.u16, 0, 65535⟩, ⟨.u64, 0, 18446744073709551615⟩, ⟨.u64, 0, 18446744073709551615⟩, ⟨.u64, 0, 18446744073709551615⟩], [0, 0, 0, 0], [0], 0⟩,
  ⟨Obj.SEC_DUMMY_ROUNDS, "SEC_DUMMY_ROUNDS", .rwa, .scalar, [⟨.u8, 0, 8⟩], [4], [0], 0⟩,
  ⟨Obj.SEC_SHUFFLE, "SEC_SHUFFLE", .rwa, .scalar, [⟨.bool, 0, 1⟩], [1], [0], 0⟩,
  ⟨Obj.SEC_TAG_FAILS, "SEC_TAG_FAILS", .ro, .scalar, [⟨.u32, 0, 4294967295⟩], [0], [0], 0⟩,
  ⟨Obj.SEC_ENTROPY_STATE, "SEC_ENTROPY_STATE", .ro, .scalar, [⟨.u8, 0, 1⟩], [0], [0], 0⟩,
  ⟨Obj.SEC_NO_KEY, "SEC_NO_KEY", .ro, .scalar, [⟨.u32, 0, 4294967295⟩], [0], [0], 0⟩,
  ⟨Obj.SEC_TAMPER_ENABLE, "SEC_TAMPER_ENABLE", .rwp, .scalar, [⟨.u8, 0, 3⟩], [0], [0], 3⟩,
  ⟨Obj.SEC_TAMPER_LATCH, "SEC_TAMPER_LATCH", .ro, .scalar, [⟨.u8, 0, 255⟩], [0], [0], 0⟩,
  ⟨Obj.SEC_TAMPER_CLEAR, "SEC_TAMPER_CLEAR", .rwp, .scalar, [⟨.u8, 0, 255⟩], [0], [0], 3⟩,
  ⟨Obj.SEC_ZEROISE, "SEC_ZEROISE", .rwa, .scalar, [⟨.u8, 1, 1⟩], [0], [0], 0⟩,
  ⟨Obj.SEC_ZEROISATIONS, "SEC_ZEROISATIONS", .ro, .scalar, [⟨.u32, 0, 4294967295⟩], [0], [0], 0⟩,
  ⟨Obj.SEC_LAST_TAMPER, "SEC_LAST_TAMPER", .ro, .record, [⟨.u8, 0, 255⟩, ⟨.u64, 0, 18446744073709551615⟩], [0, 0], [0], 0⟩,
  ⟨Obj.SEC_PRES_STATE, "SEC_PRES_STATE", .ro, .record, [⟨.u8, 0, 255⟩, ⟨.u8, 0, 255⟩, ⟨.ts96, 0, 79228162514264337593543950335⟩], [0, 0, 0], [0], 0⟩,
  ⟨Obj.SEC_PRES_CLOSE, "SEC_PRES_CLOSE", .cmd, .scalar, [⟨.u32, 0, 0⟩], [0], [0], 0⟩,
  ⟨Obj.SEC_PRES_COUNTS, "SEC_PRES_COUNTS", .ro, .array 4, [⟨.u32, 0, 4294967295⟩], [0], [0], 0⟩,
  ⟨Obj.SEC_ROOT_LOAD, "SEC_ROOT_LOAD", .rwa, .record, [⟨.u8, 0, 3⟩, ⟨.u8, 0, 1⟩, ⟨.bytes 40, 0, 2135987035920910082395021706169552114602704522356652769947041607822219725780640550022962086936575⟩], [0, 0, 0], [0], 0⟩,
  ⟨Obj.SEC_ROOT_ERASE, "SEC_ROOT_ERASE", .rwa, .scalar, [⟨.u8, 0, 15⟩], [0], [0], 0⟩,
  ⟨Obj.SEC_DISTRICT_SWITCH, "SEC_DISTRICT_SWITCH", .rwa, .scalar, [⟨.u64, 0, 18446744073709551615⟩], [0], [0], 0⟩,
  ⟨Obj.SEC_NEXT_KEY_WRAP, "SEC_NEXT_KEY_WRAP", .rwa, .scalar, [⟨.u32, 0, 1048575⟩], [0], [0], 0⟩,
  ⟨Obj.SEC_NEXT_KEY_WRAP_OUT, "SEC_NEXT_KEY_WRAP_OUT", .ro, .record, [⟨.u32, 0, 4294967295⟩, ⟨.bytes 24, 0, 6277101735386680763835789423207666416102355444464034512895⟩], [0, 0], [0], 0⟩,
  ⟨Obj.SEC_GROUPS, "SEC_GROUPS", .rw, .array 40, [⟨.u32, 15794176, 15859711⟩], [0], [0], 0⟩,
  ⟨Obj.SEC_ATTEST_REQUEST, "SEC_ATTEST_REQUEST", .rw, .blob 32, [⟨.u8, 0, 255⟩], [0], [0], 0⟩,
  ⟨Obj.SEC_ATTEST_STATUS, "SEC_ATTEST_STATUS", .ro, .scalar, [⟨.u8, 0, 255⟩], [0], [0], 0⟩,
  ⟨Obj.SEC_ATTEST_REPORT, "SEC_ATTEST_REPORT", .ro, .blob 4819, [⟨.u8, 0, 255⟩], [0], [0], 0⟩,
  ⟨Obj.SEC_ATTEST_PUBKEY, "SEC_ATTEST_PUBKEY", .ro, .blob 2592, [⟨.u8, 0, 255⟩], [0], [0], 0⟩]

/-- The objects of region 0x2, as the object maps of its chapter list them. -/
def secObjects : List ObjInfo := secObjects0

def hostObjects0 : List ObjInfo := [
  ⟨Obj.HOST_LINK, "HOST_LINK", .ro, .record, [⟨.u8, 1, 3⟩, ⟨.u8, 1, 2⟩, ⟨.bool, 0, 1⟩], [0, 0, 0], [0], 0⟩,
  ⟨Obj.HOST_RING_FORMAT, "HOST_RING_FORMAT", .rw, .scalar, [⟨.u8, 1, 2⟩], [2], [0], 0⟩,
  ⟨Obj.HOST_BUF_SIZE, "HOST_BUF_SIZE", .rw, .scalar, [⟨.u16, 2048, 16384⟩], [4096], [0], 0⟩,
  ⟨Obj.RING_CFG, "RING_CFG", .rw, .array 6, [⟨.u64, 0, 18446744073709551615⟩, ⟨.u64, 0, 18446744073709551615⟩, ⟨.u16, 0, 65535⟩, ⟨.u8, 0, 255⟩, ⟨.bool, 0, 1⟩, ⟨.u16, 0, 65535⟩, ⟨.u16, 0, 65535⟩], [0, 0, 0, 0, 0, 0, 0], [0], 0⟩,
  ⟨Obj.RING_STATE, "RING_STATE", .ro, .array 6, [⟨.u8, 0, 255⟩, ⟨.u8, 0, 255⟩, ⟨.u32, 0, 4294967295⟩, ⟨.u32, 0, 4294967295⟩], [0, 0, 0, 0], [0], 0⟩,
  ⟨Obj.RING_DROPS, "RING_DROPS", .ro, .array 6, [⟨.u32, 0, 4294967295⟩], [0], [0], 0⟩,
  ⟨Obj.RING_HELD, "RING_HELD", .ro, .scalar, [⟨.u16, 0, 512⟩], [0], [0], 0⟩,
  ⟨Obj.RING_CFG_REJECTS, "RING_CFG_REJECTS", .ro, .scalar, [⟨.u32, 0, 4294967295⟩], [0], [0], 0⟩,
  ⟨Obj.BAR0_BAD_ACCESS, "BAR0_BAD_ACCESS", .ro, .scalar, [⟨.u32, 0, 4294967295⟩], [0], [0], 0⟩]

/-- The objects of region 0x3, as the object maps of its chapter list them. -/
def hostObjects : List ObjInfo := hostObjects0

def netObjects0 : List ObjInfo := [
  ⟨Obj.ETH_MODE, "ETH_MODE", .rw, .scalar, [⟨.u8, 0, 2⟩], [0], [0, 1], 0⟩,
  ⟨Obj.ETH_SGMII_AN, "ETH_SGMII_AN", .rw, .scalar, [⟨.bool, 0, 1⟩], [1], [0, 1], 0⟩,
  ⟨Obj.ETH_LINK, "ETH_LINK", .ro, .record, [⟨.bool, 0, 1⟩, ⟨.u16, 0, 65535⟩], [0, 0], [0, 1], 0⟩,
  ⟨Obj.ETH_MAC, "ETH_MAC", .rwa, .scalar, [⟨.u64, 0, 281474976710655⟩], [0], [0, 1], 0⟩,
  ⟨Obj.ETH_VLAN, "ETH_VLAN", .rw, .scalar, [⟨.u16, 0, 4094⟩], [0], [0, 1], 0⟩,
  ⟨Obj.ETH_IPV4, "ETH_IPV4", .rwa, .record, [⟨.u32, 0, 4294967295⟩, ⟨.u8, 0, 32⟩, ⟨.u32, 0, 4294967295⟩], [0, 0, 0], [0, 1], 0⟩,
  ⟨Obj.ETH_IPV6, "ETH_IPV6", .rwa, .record, [⟨.bytes 16, 0, 340282366920938463463374607431768211455⟩, ⟨.u8, 0, 128⟩, ⟨.bytes 16, 0, 340282366920938463463374607431768211455⟩], [0, 0, 0], [0, 1], 0⟩,
  ⟨Obj.ETH_COUNTS, "ETH_COUNTS", .ro, .array 6, [⟨.u32, 0, 4294967295⟩], [0], [0, 1], 0⟩,
  ⟨Obj.ETH_TS_RX_LAT, "ETH_TS_RX_LAT", .rw, .scalar, [⟨.u32, 0, 80000⟩], [0], [0, 1], 0⟩,
  ⟨Obj.ETH_TS_TX_LAT, "ETH_TS_TX_LAT", .rw, .scalar, [⟨.u32, 0, 80000⟩], [0], [0, 1], 0⟩,
  ⟨Obj.ETH_TS_ASYM, "ETH_TS_ASYM", .rw, .scalar, [⟨.i32, (-80000), 80000⟩], [0], [0, 1], 0⟩,
  ⟨Obj.ETH_TS_INT_LAT, "ETH_TS_INT_LAT", .ro, .array 2, [⟨.u32, 0, 4294967295⟩], [0], [0, 1], 0⟩]

/-- The objects of region 0x4, as the object maps of its chapter list them. -/
def netObjects : List ObjInfo := netObjects0

def memObjects0 : List ObjInfo := [
  ⟨Obj.MEM_DDR_INFO, "MEM_DDR_INFO", .ro, .record, [⟨.u8, 0, 4⟩, ⟨.u32, 0, 4294967295⟩, ⟨.u8, 0, 255⟩], [0, 0, 0], [0], 0⟩,
  ⟨Obj.MEM_ECC_COUNTS, "MEM_ECC_COUNTS", .ro, .array 3, [⟨.u32, 0, 4294967295⟩], [0], [0], 0⟩,
  ⟨Obj.MEM_SCRUB_HOURS, "MEM_SCRUB_HOURS", .rw, .scalar, [⟨.u8, 1, 168⟩], [24], [0], 0⟩,
  ⟨Obj.MEM_FLASH_INFO, "MEM_FLASH_INFO", .ro, .record, [⟨.u8, 0, 2⟩, ⟨.u32, 0, 4294967295⟩, ⟨.u32, 0, 4294967295⟩], [0, 0, 0], [0], 0⟩,
  ⟨Obj.MEM_FLASH_COUNTS, "MEM_FLASH_COUNTS", .ro, .array 3, [⟨.u32, 0, 4294967295⟩], [0], [0], 0⟩]

/-- The objects of region 0x5, as the object maps of its chapter list them. -/
def memObjects : List ObjInfo := memObjects0

def rfObjects0 : List ObjInfo := [
  ⟨Obj.RF_STATE, "RF_STATE", .ro, .scalar, [⟨.u8, 0, 9⟩], [0], [0, 1, 2, 3, 4, 5], 0⟩,
  ⟨Obj.RF_PATH_ENABLE, "RF_PATH_ENABLE", .rw, .scalar, [⟨.bool, 0, 1⟩], [0], [0, 1, 2, 3, 4, 5], 0⟩,
  ⟨Obj.RF_TX_ENABLE, "RF_TX_ENABLE", .rw, .scalar, [⟨.bool, 0, 1⟩], [0], [0, 1, 2, 3, 4, 5], 0⟩,
  ⟨Obj.RF_TX_INHIBIT, "RF_TX_INHIBIT", .ro, .scalar, [⟨.bool, 0, 1⟩], [0], [0, 1, 2, 3, 4, 5], 0⟩,
  ⟨Obj.RF_TX_REARM, "RF_TX_REARM", .cmd, .scalar, [⟨.u32, 1, 1⟩], [0], [0, 1, 2, 3, 4, 5], 0⟩,
  ⟨Obj.RF_SLICE_CENTRE, "RF_SLICE_CENTRE", .rw, .scalar, [⟨.u32, 0, 4294967295⟩], [868000], [0, 1, 2, 3, 4, 5], 0⟩,
  ⟨Obj.RF_CAL_STATUS, "RF_CAL_STATUS", .ro, .array 9, [⟨.u8, 0, 3⟩], [0], [0, 1, 2, 3, 4, 5], 0⟩,
  ⟨Obj.RF_CAL_REQUEST, "RF_CAL_REQUEST", .cmd, .scalar, [⟨.u32, 0, 4294967295⟩], [0], [0, 1, 2, 3, 4, 5], 0⟩,
  ⟨Obj.RF_CAL_TEMP, "RF_CAL_TEMP", .ro, .array 9, [⟨.i8, (-128), 127⟩], [0], [0, 1, 2, 3, 4, 5], 0⟩,
  ⟨Obj.RF_RECAL_DELTA, "RF_RECAL_DELTA", .rw, .scalar, [⟨.u8, 2, 40⟩], [10], [0, 1, 2, 3, 4, 5], 0⟩,
  ⟨Obj.RF_CAL_PREEMPTS, "RF_CAL_PREEMPTS", .ro, .scalar, [⟨.u32, 0, 4294967295⟩], [0], [0, 1, 2, 3, 4, 5], 0⟩,
  ⟨Obj.RF_PWR_TABLE, "RF_PWR_TABLE", .rw, .array 32, [⟨.u32, 0, 4294967295⟩], [0], [0, 1, 2, 3, 4, 5], 0⟩,
  ⟨Obj.RF_PA_GAIN, "RF_PA_GAIN", .rw, .array 8, [⟨.i16, (-100), 400⟩], [0], [0, 1, 2, 3, 4, 5], 0⟩,
  ⟨Obj.RF_PA_BYPASS_GAIN, "RF_PA_BYPASS_GAIN", .rw, .scalar, [⟨.i16, (-200), 0⟩], [0], [0, 1, 2, 3, 4, 5], 0⟩,
  ⟨Obj.RF_ANT_LOSS, "RF_ANT_LOSS", .rw, .scalar, [⟨.i16, 0, 200⟩], [0], [0, 1, 2, 3, 4, 5], 0⟩,
  ⟨Obj.RF_ANT_GAIN, "RF_ANT_GAIN", .rwa, .scalar, [⟨.i16, (-100), 150⟩], [0], [0, 1, 2, 3, 4, 5], 0⟩,
  ⟨Obj.RF_PWR_ANT, "RF_PWR_ANT", .ro, .array 32, [⟨.i16, (-32768), 32767⟩], [0], [0, 1, 2, 3, 4, 5], 0⟩,
  ⟨Obj.RF_TXPWR_FLOOR, "RF_TXPWR_FLOOR", .rw, .scalar, [⟨.u8, 0, 31⟩], [0], [0, 1, 2, 3, 4, 5], 0⟩,
  ⟨Obj.RF_TXPWR_CEIL, "RF_TXPWR_CEIL", .rw, .scalar, [⟨.u8, 0, 31⟩], [31], [0, 1, 2, 3, 4, 5], 0⟩,
  ⟨Obj.RF_RATE_FLOOR, "RF_RATE_FLOOR", .rw, .scalar, [⟨.u16, 0, 65535⟩], [50], [0, 1, 2, 3, 4, 5], 0⟩,
  ⟨Obj.RF_RATE_CEIL, "RF_RATE_CEIL", .rw, .scalar, [⟨.u16, 0, 65535⟩], [400], [0, 1, 2, 3, 4, 5], 0⟩,
  ⟨Obj.RF_RXGAIN_FLOOR, "RF_RXGAIN_FLOOR", .rw, .scalar, [⟨.u8, 0, 72⟩], [0], [0, 1, 2, 3, 4, 5], 0⟩,
  ⟨Obj.RF_RXGAIN_CEIL, "RF_RXGAIN_CEIL", .rw, .scalar, [⟨.u8, 0, 72⟩], [72], [0, 1, 2, 3, 4, 5], 0⟩,
  ⟨Obj.RF_BOUND_HITS, "RF_BOUND_HITS", .ro, .array 6, [⟨.u32, 0, 4294967295⟩], [0], [0, 1, 2, 3, 4, 5], 0⟩,
  ⟨Obj.RF_CLAMP_COUNTS, "RF_CLAMP_COUNTS", .ro, .array 2, [⟨.u32, 0, 4294967295⟩], [0], [0, 1, 2, 3, 4, 5], 0⟩,
  ⟨Obj.RF_TX_MAX_MS, "RF_TX_MAX_MS", .rw, .scalar, [⟨.u16, 1, 400⟩], [350], [0, 1, 2, 3, 4, 5], 0⟩,
  ⟨Obj.RF_TX_TIMEOUTS, "RF_TX_TIMEOUTS", .ro, .scalar, [⟨.u32, 0, 4294967295⟩], [0], [0, 1, 2, 3, 4, 5], 0⟩,
  ⟨Obj.RF_TX_LATE, "RF_TX_LATE", .ro, .scalar, [⟨.u32, 0, 4294967295⟩], [0], [0, 1, 2, 3, 4, 5], 0⟩,
  ⟨Obj.RF_LATE_STARTS, "RF_LATE_STARTS", .ro, .scalar, [⟨.u32, 0, 4294967295⟩], [0], [0, 1, 2, 3, 4, 5], 0⟩,
  ⟨Obj.RF_RX_PREEMPTED, "RF_RX_PREEMPTED", .ro, .scalar, [⟨.u32, 0, 4294967295⟩], [0], [0, 1, 2, 3, 4, 5], 0⟩]

def rfObjects1 : List ObjInfo := [
  ⟨Obj.RF_FE_POLARITY, "RF_FE_POLARITY", .rw, .scalar, [⟨.u8, 0, 255⟩], [0], [0, 1, 2, 3, 4, 5], 0⟩,
  ⟨Obj.RF_TX_EXT_DELAY, "RF_TX_EXT_DELAY", .rw, .scalar, [⟨.u16, 0, 4000⟩], [0], [0, 1, 2, 3, 4, 5], 0⟩,
  ⟨Obj.RF_TX_INT_DELAY, "RF_TX_INT_DELAY", .ro, .scalar, [⟨.u16, 0, 65535⟩], [0], [0, 1, 2, 3, 4, 5], 0⟩,
  ⟨Obj.REG_LOCK_STATE, "REG_LOCK_STATE", .ro, .scalar, [⟨.u8, 0, 2⟩], [0], [0], 0⟩,
  ⟨Obj.REG_LOCK_RECORD, "REG_LOCK_RECORD", .ro, .blob 160, [⟨.u8, 0, 255⟩], [0], [0], 0⟩,
  ⟨Obj.REG_LOCK_PROGRAM, "REG_LOCK_PROGRAM", .rwp, .blob 160, [⟨.u8, 0, 255⟩], [0], [0], 1⟩,
  ⟨Obj.RF_THERMAL_BACKOFF_T, "RF_THERMAL_BACKOFF_T", .rw, .scalar, [⟨.u8, 95, 125⟩], [115], [0], 0⟩,
  ⟨Obj.RF_THERMAL_STEPS, "RF_THERMAL_STEPS", .ro, .scalar, [⟨.u8, 0, 4⟩], [0], [0], 0⟩,
  ⟨Obj.RF_DIE_TEMP, "RF_DIE_TEMP", .ro, .scalar, [⟨.i8, (-128), 127⟩], [0], [0], 0⟩,
  ⟨Obj.GRF_STATE, "GRF_STATE", .ro, .scalar, [⟨.u8, 0, 3⟩], [0], [0], 0⟩,
  ⟨Obj.GRF_CAL_STATUS, "GRF_CAL_STATUS", .ro, .array 8, [⟨.u8, 0, 3⟩], [0], [0], 0⟩,
  ⟨Obj.GN_RF_DELAY, "GN_RF_DELAY", .ro, .array 2, [⟨.u32, 0, 4294967295⟩], [0], [0], 0⟩,
  ⟨Obj.GN_ANT_CABLE_DELAY, "GN_ANT_CABLE_DELAY", .rw, .array 2, [⟨.u32, 0, 50000⟩], [0], [0], 0⟩,
  ⟨Obj.GN_EXT_GAIN, "GN_EXT_GAIN", .rw, .array 2, [⟨.i16, (-100), 500⟩], [0], [0], 0⟩,
  ⟨Obj.GN_ANT_BIAS_ENABLE, "GN_ANT_BIAS_ENABLE", .rw, .scalar, [⟨.bool, 0, 1⟩], [0], [0], 0⟩,
  ⟨Obj.GN_ANT_STATE, "GN_ANT_STATE", .ro, .scalar, [⟨.u8, 0, 4⟩], [0], [0], 0⟩,
  ⟨Obj.GN_ANT_CURRENT, "GN_ANT_CURRENT", .ro, .scalar, [⟨.u16, 0, 65535⟩], [0], [0], 0⟩,
  ⟨Obj.GN_ANT_OPEN_MA, "GN_ANT_OPEN_MA", .rw, .scalar, [⟨.u8, 1, 20⟩], [2], [0], 0⟩,
  ⟨Obj.GN_ANT_SHORT_MA, "GN_ANT_SHORT_MA", .rw, .scalar, [⟨.u8, 20, 100⟩], [80], [0], 0⟩,
  ⟨Obj.GN_ANT_RETRY, "GN_ANT_RETRY", .rw, .scalar, [⟨.u16, 1, 3600⟩], [10], [0], 0⟩]

/-- The objects of region 0x6, as the object maps of its chapter list them. -/
def rfObjects : List ObjInfo := rfObjects0 ++ rfObjects1

def meshObjects0 : List ObjInfo := [
  ⟨Obj.MESH_PLAN, "MESH_PLAN", .ro, .scalar, [⟨.u8, 0, 254⟩], [0], [0], 0⟩,
  ⟨Obj.MESH_PLAN_CUSTOM, "MESH_PLAN_CUSTOM", .rwa, .record, [⟨.u32, 0, 4294967295⟩, ⟨.u16, 1, 200⟩], [0, 0], [0], 0⟩,
  ⟨Obj.MESH_PAN_ID, "MESH_PAN_ID", .rwa, .scalar, [⟨.u16, 0, 65534⟩], [65535], [0], 0⟩,
  ⟨Obj.MESH_SLOT_MS, "MESH_SLOT_MS", .rwa, .scalar, [⟨.u8, 10, 100⟩], [25], [0], 0⟩,
  ⟨Obj.MESH_ASN, "MESH_ASN", .ro, .scalar, [⟨.u64, 0, 18446744073709551615⟩], [0], [0], 0⟩,
  ⟨Obj.MESH_SLOT_INDEX, "MESH_SLOT_INDEX", .ro, .scalar, [⟨.u8, 0, 63⟩], [0], [0], 0⟩,
  ⟨Obj.MESH_EPOCH, "MESH_EPOCH", .ro, .scalar, [⟨.u32, 0, 4294967295⟩], [0], [0], 0⟩,
  ⟨Obj.MESH_MEMBER, "MESH_MEMBER", .rwa, .scalar, [⟨.u8, 0, 7⟩], [0], [0], 0⟩,
  ⟨Obj.MESH_HOP_SEED, "MESH_HOP_SEED", .rwa, .scalar, [⟨.u16, 0, 65535⟩], [0], [0], 0⟩,
  ⟨Obj.MESH_DRIFT_TEMPCO, "MESH_DRIFT_TEMPCO", .rw, .scalar, [⟨.u16, 0, 200⟩], [10], [0], 0⟩,
  ⟨Obj.MESH_DRIFT_TSWING, "MESH_DRIFT_TSWING", .rw, .scalar, [⟨.u8, 0, 40⟩], [5], [0], 0⟩,
  ⟨Obj.MESH_RESYNC_MAX, "MESH_RESYNC_MAX", .rw, .scalar, [⟨.u32, 1000, 655350⟩], [50000], [0], 0⟩,
  ⟨Obj.MESH_RESYNC_MISSES, "MESH_RESYNC_MISSES", .rw, .scalar, [⟨.u8, 1, 8⟩], [2], [0], 0⟩,
  ⟨Obj.MESH_LINKS_RESYNC, "MESH_LINKS_RESYNC", .ro, .scalar, [⟨.u32, 0, 4294967295⟩], [0], [0], 0⟩,
  ⟨Obj.MESH_RESYNC_COUNTS, "MESH_RESYNC_COUNTS", .ro, .array 3, [⟨.u32, 0, 4294967295⟩], [0], [0], 0⟩,
  ⟨Obj.MESH_GUARD_HIST, "MESH_GUARD_HIST", .ro, .array 8, [⟨.u32, 0, 4294967295⟩], [0], [0], 0⟩,
  ⟨Obj.MESH_ASN_RETRY, "MESH_ASN_RETRY", .ro, .scalar, [⟨.u32, 0, 4294967295⟩], [0], [0], 0⟩,
  ⟨Obj.MESH_NBR_CFG, "MESH_NBR_CFG", .rw, .array 16, [⟨.u8, 0, 2⟩, ⟨.u32, 0, 4294967295⟩, ⟨.u8, 0, 255⟩, ⟨.u8, 0, 63⟩, ⟨.u8, 0, 255⟩, ⟨.u8, 0, 39⟩, ⟨.u64, 0, 18446744073709551615⟩, ⟨.u16, 60, 65535⟩], [0, 0, 0, 0, 0, 0, 0, 600], [0], 0⟩,
  ⟨Obj.MESH_NBR_STATE, "MESH_NBR_STATE", .ro, .array 16, [⟨.u8, 0, 4⟩, ⟨.u8, 0, 255⟩, ⟨.ts96, 0, 79228162514264337593543950335⟩, ⟨.u32, 0, 4294967295⟩, ⟨.u32, 0, 4294967295⟩], [0, 0, 0, 0, 0], [0], 0⟩,
  ⟨Obj.LINK_ASSOC_POLICY, "LINK_ASSOC_POLICY", .rwa, .scalar, [⟨.u8, 0, 2⟩], [0], [0], 0⟩,
  ⟨Obj.LINK_SUPERVISION, "LINK_SUPERVISION", .rw, .array 3, [⟨.u32, 60, 172800⟩], [14400], [0], 0⟩,
  ⟨Obj.LINK_RETRY_MAX, "LINK_RETRY_MAX", .rw, .scalar, [⟨.u8, 0, 15⟩], [3], [0], 0⟩,
  ⟨Obj.LINK_TXN_LIFE, "LINK_TXN_LIFE", .rw, .scalar, [⟨.u32, 1, 3600⟩], [60], [0], 0⟩,
  ⟨Obj.LINK_CTR_MARGIN, "LINK_CTR_MARGIN", .rwa, .scalar, [⟨.u32, 4096, 16777216⟩], [65536], [0], 0⟩,
  ⟨Obj.LINK_CHMAP_LEAD, "LINK_CHMAP_LEAD", .rw, .scalar, [⟨.u8, 4, 64⟩], [8], [0], 0⟩,
  ⟨Obj.LINK_LBT_THRESHOLD, "LINK_LBT_THRESHOLD", .rw, .scalar, [⟨.i8, (-100), (-50)⟩], [(-80)], [0], 0⟩,
  ⟨Obj.LINK_REMOVE, "LINK_REMOVE", .cmd, .scalar, [⟨.u32, 0, 1048575⟩], [0], [0], 0⟩,
  ⟨Obj.LINK_STATE_COUNTS, "LINK_STATE_COUNTS", .ro, .array 4, [⟨.u32, 0, 4294967295⟩], [0], [0], 0⟩,
  ⟨Obj.LINK_ASSOC_COUNTS, "LINK_ASSOC_COUNTS", .ro, .array 4, [⟨.u32, 0, 4294967295⟩], [0], [0], 0⟩,
  ⟨Obj.LINK_REPLAY, "LINK_REPLAY", .ro, .scalar, [⟨.u32, 0, 4294967295⟩], [0], [0], 0⟩]

def meshObjects1 : List ObjInfo := [
  ⟨Obj.LINK_DUPLICATES, "LINK_DUPLICATES", .ro, .scalar, [⟨.u32, 0, 4294967295⟩], [0], [0], 0⟩,
  ⟨Obj.LINK_MIC_FAIL, "LINK_MIC_FAIL", .ro, .scalar, [⟨.u32, 0, 4294967295⟩], [0], [0], 0⟩,
  ⟨Obj.LINK_TIMEOUTS, "LINK_TIMEOUTS", .ro, .scalar, [⟨.u32, 0, 4294967295⟩], [0], [0], 0⟩,
  ⟨Obj.LINK_TXN_INUSE, "LINK_TXN_INUSE", .ro, .scalar, [⟨.u16, 0, 512⟩], [0], [0], 0⟩,
  ⟨Obj.LINK_TXN_PEAK, "LINK_TXN_PEAK", .ro, .scalar, [⟨.u16, 0, 512⟩], [0], [0], 0⟩,
  ⟨Obj.LINK_TXN_CANCEL, "LINK_TXN_CANCEL", .cmd, .scalar, [⟨.u32, 0, 4294967295⟩], [0], [0], 0⟩,
  ⟨Obj.LINK_TXN_STATUS_COUNTS, "LINK_TXN_STATUS_COUNTS", .ro, .array 64, [⟨.u32, 0, 4294967295⟩], [0], [0], 0⟩,
  ⟨Obj.MESH_LANE_CFG, "MESH_LANE_CFG", .rw, .array 40, [⟨.u8, 0, 255⟩], [0], [0, 1, 2, 3, 4, 5], 0⟩,
  ⟨Obj.MESH_LANE_STATE, "MESH_LANE_STATE", .ro, .array 40, [⟨.u8, 0, 2⟩], [0], [0, 1, 2, 3, 4, 5], 0⟩,
  ⟨Obj.MESH_PREAMBLE_OCTETS, "MESH_PREAMBLE_OCTETS", .rw, .scalar, [⟨.u8, 4, 32⟩], [8], [0, 1, 2, 3], 0⟩,
  ⟨Obj.MESH_TX_WHITEN, "MESH_TX_WHITEN", .rw, .scalar, [⟨.bool, 0, 1⟩], [1], [0, 1, 2, 3, 4, 5], 0⟩,
  ⟨Obj.MESH_RX_EXT_DELAY, "MESH_RX_EXT_DELAY", .rw, .scalar, [⟨.u16, 0, 4000⟩], [0], [0, 1, 2, 3, 4, 5], 0⟩,
  ⟨Obj.MESH_RX_FRAMES, "MESH_RX_FRAMES", .ro, .array 40, [⟨.u32, 0, 4294967295⟩], [0], [0, 1, 2, 3, 4, 5], 0⟩,
  ⟨Obj.MESH_FCS_ERR, "MESH_FCS_ERR", .ro, .array 40, [⟨.u32, 0, 4294967295⟩], [0], [0, 1, 2, 3, 4, 5], 0⟩,
  ⟨Obj.MESH_PHR_ERR, "MESH_PHR_ERR", .ro, .array 40, [⟨.u32, 0, 4294967295⟩], [0], [0, 1, 2, 3, 4, 5], 0⟩,
  ⟨Obj.MESH_LANE_BUSY, "MESH_LANE_BUSY", .ro, .array 40, [⟨.u32, 0, 4294967295⟩], [0], [0, 1, 2, 3, 4, 5], 0⟩,
  ⟨Obj.MESH_DUP_LANE, "MESH_DUP_LANE", .ro, .scalar, [⟨.u32, 0, 4294967295⟩], [0], [0, 1, 2, 3, 4, 5], 0⟩,
  ⟨Obj.MESH_MHR_ERR, "MESH_MHR_ERR", .ro, .scalar, [⟨.u32, 0, 4294967295⟩], [0], [0, 1, 2, 3, 4, 5], 0⟩,
  ⟨Obj.MESH_IE_SKIPPED, "MESH_IE_SKIPPED", .ro, .scalar, [⟨.u32, 0, 4294967295⟩], [0], [0, 1, 2, 3, 4, 5], 0⟩,
  ⟨Obj.MESH_PAYLOAD_ERR, "MESH_PAYLOAD_ERR", .ro, .scalar, [⟨.u32, 0, 4294967295⟩], [0], [0, 1, 2, 3, 4, 5], 0⟩,
  ⟨Obj.MESH_BEACON_ENABLE, "MESH_BEACON_ENABLE", .rw, .scalar, [⟨.bool, 0, 1⟩], [0], [0, 1, 2, 3, 4, 5], 0⟩,
  ⟨Obj.MESH_BEACON_MODE, "MESH_BEACON_MODE", .rw, .scalar, [⟨.u8, 1, 32⟩], [2], [0, 1, 2, 3, 4, 5], 0⟩,
  ⟨Obj.MESH_BEACON_CH_OFFSET, "MESH_BEACON_CH_OFFSET", .rw, .scalar, [⟨.u8, 0, 39⟩], [0], [0, 1, 2, 3, 4, 5], 0⟩,
  ⟨Obj.MESH_BEACON_PWR, "MESH_BEACON_PWR", .rw, .scalar, [⟨.u8, 0, 31⟩], [31], [0, 1, 2, 3, 4, 5], 0⟩,
  ⟨Obj.MESH_BEACONS_SENT, "MESH_BEACONS_SENT", .ro, .scalar, [⟨.u32, 0, 4294967295⟩], [0], [0, 1, 2, 3, 4, 5], 0⟩,
  ⟨Obj.MESH_BEACON_FAILS, "MESH_BEACON_FAILS", .ro, .scalar, [⟨.u32, 0, 4294967295⟩], [0], [0, 1, 2, 3, 4, 5], 0⟩,
  ⟨Obj.MESH_BEACON_LAST_FAIL, "MESH_BEACON_LAST_FAIL", .ro, .scalar, [⟨.u8, 0, 255⟩], [0], [0, 1, 2, 3, 4, 5], 0⟩,
  ⟨Obj.MESH_BEACON_IE_DROPPED, "MESH_BEACON_IE_DROPPED", .ro, .scalar, [⟨.u32, 0, 4294967295⟩], [0], [0, 1, 2, 3, 4, 5], 0⟩,
  ⟨Obj.MESH_SLOTS_FROZEN, "MESH_SLOTS_FROZEN", .ro, .scalar, [⟨.u64, 0, 18446744073709551615⟩], [0], [0, 1, 2, 3, 4, 5], 0⟩,
  ⟨Obj.MESH_SLOTS_NEIGHBOUR, "MESH_SLOTS_NEIGHBOUR", .ro, .scalar, [⟨.u64, 0, 18446744073709551615⟩], [0], [0, 1, 2, 3, 4, 5], 0⟩]

def meshObjects2 : List ObjInfo := [
  ⟨Obj.MESH_CHMAP, "MESH_CHMAP", .rw, .scalar, [⟨.u64, 0, 1099511627775⟩], [0], [0, 1, 2, 3, 4, 5], 0⟩,
  ⟨Obj.MESH_CHMAP_C0, "MESH_CHMAP_C0", .rw, .scalar, [⟨.u16, 0, 65535⟩], [0], [0, 1, 2, 3, 4, 5], 0⟩,
  ⟨Obj.MESH_CHMAP_PENDING, "MESH_CHMAP_PENDING", .ro, .scalar, [⟨.u64, 0, 1099511627775⟩], [0], [0, 1, 2, 3, 4, 5], 0⟩,
  ⟨Obj.MESH_CHMAP_APPLY_ASN, "MESH_CHMAP_APPLY_ASN", .ro, .scalar, [⟨.u64, 0, 18446744073709551615⟩], [0], [0, 1, 2, 3, 4, 5], 0⟩,
  ⟨Obj.MESH_CHMAP_UNCONFIRMED, "MESH_CHMAP_UNCONFIRMED", .ro, .scalar, [⟨.u32, 0, 4294967295⟩], [0], [0, 1, 2, 3, 4, 5], 0⟩,
  ⟨Obj.DUTY_BAND_LIMIT, "DUTY_BAND_LIMIT", .rw, .scalar, [⟨.u16, 0, 65535⟩], [65535], [0, 4], 0⟩,
  ⟨Obj.DUTY_SUB_LIMIT, "DUTY_SUB_LIMIT", .rw, .array 8, [⟨.u16, 0, 65535⟩], [65535], [0, 4], 0⟩,
  ⟨Obj.DUTY_LIMIT_MS, "DUTY_LIMIT_MS", .ro, .array 9, [⟨.u32, 0, 4294967295⟩], [4294967295], [0, 4], 0⟩,
  ⟨Obj.DUTY_USED, "DUTY_USED", .ro, .array 9, [⟨.u32, 0, 4294967295⟩], [0], [0, 4], 0⟩,
  ⟨Obj.DUTY_RESERVE_USED, "DUTY_RESERVE_USED", .ro, .array 9, [⟨.u32, 0, 4294967295⟩], [0], [0, 4], 0⟩,
  ⟨Obj.DUTY_DENIALS, "DUTY_DENIALS", .ro, .array 9, [⟨.u32, 0, 4294967295⟩], [0], [0, 4], 0⟩,
  ⟨Obj.DUTY_NEXT, "DUTY_NEXT", .ro, .array 9, [⟨.u16, 0, 65535⟩], [0], [0, 4], 0⟩,
  ⟨Obj.DWELL_DENIALS, "DWELL_DENIALS", .ro, .scalar, [⟨.u32, 0, 4294967295⟩], [0], [0, 4], 0⟩,
  ⟨Obj.LBT_BUSY, "LBT_BUSY", .ro, .scalar, [⟨.u32, 0, 4294967295⟩], [0], [0, 4], 0⟩]

/-- The objects of region 0x7, as the object maps of its chapter list them. -/
def meshObjects : List ObjInfo := meshObjects0 ++ meshObjects1 ++ meshObjects2

def flockObjects0 : List ObjInfo := [
  ⟨Obj.FLOCK_RECORDS, "FLOCK_RECORDS", .ro, .scalar, [⟨.u32, 0, 1048576⟩], [0], [0], 0⟩,
  ⟨Obj.FLOCK_PINNED, "FLOCK_PINNED", .ro, .scalar, [⟨.u16, 0, 12288⟩], [0], [0], 0⟩,
  ⟨Obj.FLOCK_HITS, "FLOCK_HITS", .ro, .scalar, [⟨.u64, 0, 18446744073709551615⟩], [0], [0], 0⟩,
  ⟨Obj.FLOCK_MISSES, "FLOCK_MISSES", .ro, .scalar, [⟨.u64, 0, 18446744073709551615⟩], [0], [0], 0⟩,
  ⟨Obj.FLOCK_LATE_FETCH, "FLOCK_LATE_FETCH", .ro, .scalar, [⟨.u32, 0, 4294967295⟩], [0], [0], 0⟩,
  ⟨Obj.FLOCK_STORE_USED, "FLOCK_STORE_USED", .ro, .scalar, [⟨.u32, 0, 65536⟩], [0], [0], 0⟩,
  ⟨Obj.FLOCK_ROUTE_CHANGES, "FLOCK_ROUTE_CHANGES", .ro, .scalar, [⟨.u32, 0, 4294967295⟩], [0], [0], 0⟩,
  ⟨Obj.FLOCK_TABLE, "FLOCK_TABLE", .ro, .array 1048576, flockTableFields, [], [0], 0⟩,
  ⟨Obj.FLOCK_CFG, "FLOCK_CFG", .rw, .array 1048576, flockCfgFields, [], [0], 0⟩,
  ⟨Obj.FLOCK_RESTORE, "FLOCK_RESTORE", .rwa, .array 1048576, flockTableFields, [], [0], 0⟩,
  ⟨Obj.FLOCK_KEY_WRAP, "FLOCK_KEY_WRAP", .rwa, .scalar, [⟨.u64, 0, 18446744073709551615⟩], [0], [0], 0⟩,
  ⟨Obj.FLOCK_KEY_WRAP_OUT, "FLOCK_KEY_WRAP_OUT", .ro, .record, [⟨.u32, 0, 4294967295⟩, ⟨.u32, 0, 4294967295⟩, ⟨.bytes 24, 0, 6277101735386680763835789423207666416102355444464034512895⟩], [0, 0, 0], [0], 0⟩,
  ⟨Obj.FL_CHORUS_BASE_SLOT, "FL_CHORUS_BASE_SLOT", .rwa, .scalar, [⟨.u64, 0, 18446744073709551615⟩], [0], [0], 0⟩,
  ⟨Obj.FL_CHORUS_DELAY, "FL_CHORUS_DELAY", .rw, .scalar, [⟨.u16, 0, 4000⟩], [0], [0], 0⟩,
  ⟨Obj.FL_CHORUS_MAX_ERR, "FL_CHORUS_MAX_ERR", .rw, .scalar, [⟨.u16, 2, 100⟩], [30], [0], 0⟩,
  ⟨Obj.FL_CHORUS_READY, "FL_CHORUS_READY", .ro, .scalar, [⟨.u8, 0, 255⟩], [0], [0], 0⟩,
  ⟨Obj.FL_CHORUS_COUNTS, "FL_CHORUS_COUNTS", .ro, .array 8, [⟨.u32, 0, 4294967295⟩], [0], [0], 0⟩,
  ⟨Obj.FL_IMAGE_KEY_DIGEST, "FL_IMAGE_KEY_DIGEST", .rwa, .array 4, [⟨.bytes 64, 0, 13407807929942597099574024998205846127479365820592393377723561443721764030073546976801874298166903427690031858186486050853753882811946569946433649006084095⟩], [0], [0], 0⟩,
  ⟨Obj.FL_IMAGE_BEGIN, "FL_IMAGE_BEGIN", .rwa, .scalar, [⟨.u32, 0, 4294967295⟩], [0], [0], 0⟩,
  ⟨Obj.FL_IMAGE_STAGE, "FL_IMAGE_STAGE", .rwa, .blob 1048576, [⟨.u8, 0, 255⟩], [0], [0], 0⟩,
  ⟨Obj.FL_IMAGE_VERIFY, "FL_IMAGE_VERIFY", .rwa, .scalar, [⟨.u8, 0, 7⟩], [0], [0], 0⟩,
  ⟨Obj.FL_IMAGE_INFO, "FL_IMAGE_INFO", .ro, .array 8, [⟨.u8, 0, 3⟩, ⟨.u8, 0, 255⟩, ⟨.u32, 0, 4294967295⟩, ⟨.u32, 0, 4294967295⟩, ⟨.u8, 0, 255⟩], [0, 0, 0, 0, 0], [0], 0⟩,
  ⟨Obj.FL_CAMPAIGN_CFG, "FL_CAMPAIGN_CFG", .rwa, .array 4, [⟨.u16, 0, 65535⟩, ⟨.u8, 0, 255⟩, ⟨.u8, 1, 61⟩, ⟨.u16, 1, 64⟩, ⟨.u8, 0, 39⟩, ⟨.u8, 0, 255⟩, ⟨.u8, 0, 31⟩, ⟨.u16, 0, 65535⟩, ⟨.u8, 0, 7⟩, ⟨.u8, 1, 32⟩, ⟨.u32, 0, 4294967295⟩], [0, 0, 0, 0, 0, 0, 0, 0, 0, 0, 0], [0], 0⟩,
  ⟨Obj.FL_CAMPAIGN_START, "FL_CAMPAIGN_START", .rwa, .scalar, [⟨.u8, 0, 3⟩], [0], [0], 0⟩,
  ⟨Obj.FL_CAMPAIGN_STOP, "FL_CAMPAIGN_STOP", .rwa, .scalar, [⟨.u8, 0, 3⟩], [0], [0], 0⟩,
  ⟨Obj.FL_CAMPAIGN_STATE, "FL_CAMPAIGN_STATE", .ro, .array 4, [⟨.u8, 0, 6⟩, ⟨.u8, 0, 255⟩, ⟨.u8, 0, 255⟩, ⟨.u32, 0, 4294967295⟩, ⟨.u32, 0, 4294967295⟩, ⟨.u32, 0, 4294967295⟩, ⟨.u32, 0, 4294967295⟩], [0, 0, 0, 0, 0, 0, 0], [0], 0⟩]

/-- The objects of region 0x8, as the object maps of its chapter list them. -/
def flockObjects : List ObjInfo := flockObjects0

def gnssObjects0 : List ObjInfo := [
  ⟨Obj.GN_AGC_GAIN, "GN_AGC_GAIN", .ro, .scalar, [⟨.i16, (-32768), 32767⟩], [0], [0, 1], 0⟩,
  ⟨Obj.GN_JAM_IND, "GN_JAM_IND", .ro, .scalar, [⟨.u8, 0, 255⟩], [0], [0, 1], 0⟩,
  ⟨Obj.GN_JN, "GN_JN", .ro, .scalar, [⟨.i16, (-32768), 32767⟩], [(-200)], [0, 1], 0⟩,
  ⟨Obj.GN_JAM_THRESH, "GN_JAM_THRESH", .rw, .scalar, [⟨.u8, 8, 255⟩], [40], [0, 1], 0⟩,
  ⟨Obj.GN_NOTCH_THRESH, "GN_NOTCH_THRESH", .rw, .scalar, [⟨.u8, 6, 40⟩], [12], [0, 1], 0⟩,
  ⟨Obj.GN_NOTCH_WIDTH, "GN_NOTCH_WIDTH", .rw, .scalar, [⟨.u8, 0, 3⟩], [1], [0, 1], 0⟩,
  ⟨Obj.GN_NOTCH_FIXED, "GN_NOTCH_FIXED", .rw, .array 4, [⟨.bool, 0, 1⟩, ⟨.u32, 0, 4294967295⟩, ⟨.u8, 0, 3⟩], [0, 0, 0], [0, 1], 0⟩,
  ⟨Obj.GN_NOTCH_STATE, "GN_NOTCH_STATE", .ro, .array 4, [⟨.u8, 0, 2⟩, ⟨.u32, 0, 4294967295⟩, ⟨.i8, (-128), 127⟩], [0, 0, 0], [0, 1], 0⟩,
  ⟨Obj.GN_NOTCH_OVERFLOW, "GN_NOTCH_OVERFLOW", .ro, .scalar, [⟨.u32, 0, 4294967295⟩], [0], [0, 1], 0⟩,
  ⟨Obj.GN_SPECTRUM, "GN_SPECTRUM", .ro, .array 1024, [⟨.i8, (-128), 127⟩], [0], [0, 1], 0⟩,
  ⟨Obj.GN_BLANK_ENABLE, "GN_BLANK_ENABLE", .rw, .scalar, [⟨.bool, 0, 1⟩], [0], [0, 1], 0⟩,
  ⟨Obj.GN_BLANK_THRESH, "GN_BLANK_THRESH", .rw, .scalar, [⟨.u8, 8, 32⟩], [16], [0, 1], 0⟩,
  ⟨Obj.GN_BLANK_HOLD, "GN_BLANK_HOLD", .rw, .scalar, [⟨.u16, 0, 10000⟩], [500], [0, 1], 0⟩,
  ⟨Obj.GN_BLANK_MAX, "GN_BLANK_MAX", .rw, .scalar, [⟨.u8, 1, 50⟩], [25], [0, 1], 0⟩,
  ⟨Obj.GN_BLANK_RATIO, "GN_BLANK_RATIO", .ro, .scalar, [⟨.u16, 0, 65535⟩], [0], [0, 1], 0⟩,
  ⟨Obj.GN_BLANK_SATURATED, "GN_BLANK_SATURATED", .ro, .scalar, [⟨.u32, 0, 4294967295⟩], [0], [0, 1], 0⟩,
  ⟨Obj.GN_ENABLE, "GN_ENABLE", .rw, .scalar, [⟨.bool, 0, 1⟩], [0], [0], 0⟩,
  ⟨Obj.GN_BAND_MODE, "GN_BAND_MODE", .rw, .scalar, [⟨.u8, 0, 2⟩], [0], [0], 0⟩,
  ⟨Obj.GN_SYSTEMS, "GN_SYSTEMS", .rw, .scalar, [⟨.u8, 0, 255⟩], [0], [0], 0⟩,
  ⟨Obj.GN_SIGNALS, "GN_SIGNALS", .rw, .scalar, [⟨.u16, 0, 65535⟩], [0], [0], 0⟩,
  ⟨Obj.GN_ELEV_MASK, "GN_ELEV_MASK", .rw, .scalar, [⟨.u8, 0, 45⟩], [10], [0], 0⟩,
  ⟨Obj.GN_SBAS_APPLY, "GN_SBAS_APPLY", .rw, .scalar, [⟨.bool, 0, 1⟩], [0], [0], 0⟩,
  ⟨Obj.GN_ACQ_SHARE, "GN_ACQ_SHARE", .rw, .scalar, [⟨.u8, 5, 100⟩], [15], [0], 0⟩,
  ⟨Obj.GN_ACQ_THRESH, "GN_ACQ_THRESH", .rw, .scalar, [⟨.u8, 80, 200⟩], [120], [0], 0⟩,
  ⟨Obj.GN_NIMB_AUTO, "GN_NIMB_AUTO", .rw, .scalar, [⟨.bool, 0, 1⟩], [0], [0], 0⟩,
  ⟨Obj.GN_ACQ_WAITING, "GN_ACQ_WAITING", .ro, .scalar, [⟨.u16, 0, 65535⟩], [0], [0], 0⟩,
  ⟨Obj.GN_SPACING, "GN_SPACING", .rw, .array 15, [⟨.u8, 1, 32⟩], [4], [0], 0⟩,
  ⟨Obj.GN_PLL_BW, "GN_PLL_BW", .rw, .scalar, [⟨.u16, 20, 300⟩], [100], [0], 0⟩,
  ⟨Obj.GN_FLL_BW, "GN_FLL_BW", .rw, .scalar, [⟨.u16, 10, 200⟩], [50], [0], 0⟩,
  ⟨Obj.GN_DLL_BW, "GN_DLL_BW", .rw, .scalar, [⟨.u16, 5, 500⟩], [50], [0], 0⟩]

def gnssObjects1 : List ObjInfo := [
  ⟨Obj.GN_COH_MS, "GN_COH_MS", .rw, .scalar, [⟨.u8, 1, 100⟩], [20], [0], 0⟩,
  ⟨Obj.GN_TRACK_DROP, "GN_TRACK_DROP", .rw, .scalar, [⟨.u16, 100, 300⟩], [120], [0], 0⟩,
  ⟨Obj.GN_CHANNELS_USED, "GN_CHANNELS_USED", .ro, .scalar, [⟨.u8, 0, 192⟩], [0], [0], 0⟩,
  ⟨Obj.GN_EPH_RESID, "GN_EPH_RESID", .rw, .scalar, [⟨.u16, 20, 2000⟩], [150], [0], 0⟩,
  ⟨Obj.GN_EPH_REJECTED, "GN_EPH_REJECTED", .ro, .scalar, [⟨.u32, 0, 4294967295⟩], [0], [0], 0⟩,
  ⟨Obj.GN_ISB_MIN, "GN_ISB_MIN", .rw, .scalar, [⟨.u8, 1, 8⟩], [2], [0], 0⟩,
  ⟨Obj.GN_SYS_OFFSET, "GN_SYS_OFFSET", .ro, .array 5, [⟨.i32, (-2147483648), 2147483647⟩, ⟨.u8, 0, 2⟩], [0, 0], [0], 0⟩,
  ⟨Obj.GN_RAIM_PFA, "GN_RAIM_PFA", .rw, .scalar, [⟨.u8, 3, 9⟩], [5], [0], 0⟩,
  ⟨Obj.GN_RAIM_EXCLUSIONS, "GN_RAIM_EXCLUSIONS", .ro, .scalar, [⟨.u32, 0, 4294967295⟩], [0], [0], 0⟩,
  ⟨Obj.GN_TIMING_MODE, "GN_TIMING_MODE", .rw, .scalar, [⟨.u8, 0, 2⟩], [0], [0], 0⟩,
  ⟨Obj.GN_FIXED_POS, "GN_FIXED_POS", .rw, .record, [⟨.f64, 0, 18446744073709551615⟩, ⟨.f64, 0, 18446744073709551615⟩, ⟨.f64, 0, 18446744073709551615⟩, ⟨.f32, 0, 4294967295⟩], [0, 0, 0, 0], [0], 0⟩,
  ⟨Obj.GN_SURVEY_MIN, "GN_SURVEY_MIN", .rw, .scalar, [⟨.u32, 60, 86400⟩], [3600], [0], 0⟩,
  ⟨Obj.GN_SURVEY_ACC, "GN_SURVEY_ACC", .rw, .scalar, [⟨.u16, 10, 10000⟩], [100], [0], 0⟩,
  ⟨Obj.GN_SURVEY_STATE, "GN_SURVEY_STATE", .ro, .record, [⟨.u8, 0, 2⟩, ⟨.u32, 0, 4294967295⟩, ⟨.f64, 0, 18446744073709551615⟩, ⟨.f64, 0, 18446744073709551615⟩, ⟨.f64, 0, 18446744073709551615⟩, ⟨.f32, 0, 4294967295⟩], [0, 0, 0, 0, 0, 0], [0], 0⟩,
  ⟨Obj.GN_FIXED_RESID, "GN_FIXED_RESID", .rw, .scalar, [⟨.u16, 5, 1000⟩], [25], [0], 0⟩,
  ⟨Obj.GN_REF_POS, "GN_REF_POS", .ro, .record, [⟨.u8, 0, 3⟩, ⟨.f64, 0, 18446744073709551615⟩, ⟨.f64, 0, 18446744073709551615⟩, ⟨.f64, 0, 18446744073709551615⟩, ⟨.f32, 0, 4294967295⟩], [0, 0, 0, 0, 0], [0], 0⟩,
  ⟨Obj.GN_MEAS_ENABLE, "GN_MEAS_ENABLE", .rw, .scalar, [⟨.bool, 0, 1⟩], [0], [0], 0⟩,
  ⟨Obj.GN_MEAS_RATE, "GN_MEAS_RATE", .rw, .scalar, [⟨.u8, 1, 10⟩], [1], [0], 0⟩,
  ⟨Obj.GN_MEAS_LAST, "GN_MEAS_LAST", .ro, .blob 9248, [⟨.u8, 0, 255⟩], [0], [0], 0⟩,
  ⟨Obj.GN_NAV_LAST, "GN_NAV_LAST", .ro, .blob 96, [⟨.u8, 0, 255⟩], [0], [0], 0⟩,
  ⟨Obj.GN_START_MODE, "GN_START_MODE", .rw, .scalar, [⟨.u8, 0, 2⟩], [0], [0], 0⟩,
  ⟨Obj.GN_START_TYPE, "GN_START_TYPE", .ro, .scalar, [⟨.u8, 0, 3⟩], [0], [0], 0⟩,
  ⟨Obj.GN_TTFF, "GN_TTFF", .ro, .scalar, [⟨.u32, 0, 4294967295⟩], [0], [0], 0⟩,
  ⟨Obj.GN_RTC_PPM, "GN_RTC_PPM", .rw, .scalar, [⟨.u8, 5, 200⟩], [30], [0], 0⟩,
  ⟨Obj.TP_ENABLE, "TP_ENABLE", .rw, .array 2, [⟨.bool, 0, 1⟩], [0], [0], 0⟩,
  ⟨Obj.TP_SOURCE, "TP_SOURCE", .rw, .array 2, [⟨.u8, 0, 3⟩], [0], [0], 0⟩,
  ⟨Obj.TP_PERIOD, "TP_PERIOD", .rw, .array 2, [⟨.u32, 100, 1000000000⟩], [1000000000], [0], 0⟩,
  ⟨Obj.TP_WIDTH, "TP_WIDTH", .rw, .array 2, [⟨.u32, 0, 4294967295⟩], [100000000], [0], 0⟩,
  ⟨Obj.TP_PHASE, "TP_PHASE", .rw, .array 2, [⟨.i32, (-1000000000), 1000000000⟩], [0], [0], 0⟩,
  ⟨Obj.TP_DELAY, "TP_DELAY", .rw, .array 2, [⟨.u16, 0, 4000⟩], [0], [0], 0⟩]

def gnssObjects2 : List ObjInfo := [
  ⟨Obj.TP_POLARITY, "TP_POLARITY", .rw, .array 2, [⟨.u8, 0, 1⟩], [0], [0], 0⟩,
  ⟨Obj.TP_STATE, "TP_STATE", .ro, .array 2, [⟨.u8, 0, 3⟩], [0], [0], 0⟩,
  ⟨Obj.TP_LAST, "TP_LAST", .ro, .array 2, [⟨.ts96, 0, 79228162514264337593543950335⟩, ⟨.u8, 0, 255⟩, ⟨.u32, 0, 4294967295⟩], [0, 0, 0], [0], 0⟩,
  ⟨Obj.TP_OMITTED, "TP_OMITTED", .ro, .array 2, [⟨.u32, 0, 4294967295⟩], [0], [0], 0⟩]

/-- The objects of region 0x9, as the object maps of its chapter list them. -/
def gnssObjects : List ObjInfo := gnssObjects0 ++ gnssObjects1 ++ gnssObjects2

def nimbusObjects0 : List ObjInfo := [
  ⟨Obj.SN_ENABLE, "SN_ENABLE", .rw, .scalar, [⟨.bool, 0, 1⟩], [0], [0], 0⟩,
  ⟨Obj.SN_SIGNALS, "SN_SIGNALS", .rw, .scalar, [⟨.u16, 0, 585⟩], [585], [0], 0⟩,
  ⟨Obj.SN_MAX_SV, "SN_MAX_SV", .rw, .scalar, [⟨.u8, 4, 24⟩], [12], [0], 0⟩,
  ⟨Obj.SN_MIN_SV, "SN_MIN_SV", .rw, .scalar, [⟨.u8, 3, 8⟩], [4], [0], 0⟩,
  ⟨Obj.SN_ELEV_MASK, "SN_ELEV_MASK", .rw, .scalar, [⟨.u8, 0, 45⟩], [10], [0], 0⟩,
  ⟨Obj.SN_MAX_RANGE, "SN_MAX_RANGE", .rw, .scalar, [⟨.u32, 100, 30000⟩], [3000], [0], 0⟩,
  ⟨Obj.SN_MAX_TIME_UNC, "SN_MAX_TIME_UNC", .rw, .scalar, [⟨.u16, 4, 200⟩], [20], [0], 0⟩,
  ⟨Obj.SN_MAX_AGE, "SN_MAX_AGE", .rw, .scalar, [⟨.u16, 1, 600⟩], [30], [0], 0⟩,
  ⟨Obj.SN_FRAG_WAIT, "SN_FRAG_WAIT", .rw, .scalar, [⟨.u16, 1, 3600⟩], [60], [0], 0⟩,
  ⟨Obj.SN_QUEUE_MAX, "SN_QUEUE_MAX", .rw, .scalar, [⟨.u16, 16, 1024⟩], [1024], [0], 0⟩,
  ⟨Obj.SN_QUEUE_DEADLINE, "SN_QUEUE_DEADLINE", .rw, .scalar, [⟨.u16, 10, 60000⟩], [2000], [0], 0⟩,
  ⟨Obj.SN_DET_THRESH, "SN_DET_THRESH", .rw, .scalar, [⟨.u8, 60, 200⟩], [110], [0], 0⟩,
  ⟨Obj.SN_HEIGHT_AID, "SN_HEIGHT_AID", .rw, .scalar, [⟨.bool, 0, 1⟩], [0], [0], 0⟩,
  ⟨Obj.SN_HEIGHT_SIGMA, "SN_HEIGHT_SIGMA", .rw, .scalar, [⟨.u16, 1, 1000⟩], [50], [0], 0⟩,
  ⟨Obj.SN_DETAIL, "SN_DETAIL", .rw, .scalar, [⟨.bool, 0, 1⟩], [0], [0], 0⟩,
  ⟨Obj.SN_QUEUE_DEPTH, "SN_QUEUE_DEPTH", .ro, .scalar, [⟨.u16, 0, 1024⟩], [0], [0], 0⟩,
  ⟨Obj.SN_QUEUE_PEAK, "SN_QUEUE_PEAK", .ro, .scalar, [⟨.u16, 0, 1024⟩], [0], [0], 0⟩,
  ⟨Obj.SN_FRAG_HELD, "SN_FRAG_HELD", .ro, .scalar, [⟨.u16, 0, 4096⟩], [0], [0], 0⟩,
  ⟨Obj.SN_COUNTS, "SN_COUNTS", .ro, .array 18, [⟨.u32, 0, 4294967295⟩], [0], [0], 0⟩,
  ⟨Obj.SN_RATE, "SN_RATE", .ro, .scalar, [⟨.u16, 0, 65535⟩], [0], [0], 0⟩,
  ⟨Obj.SN_NIMBUS_LOAD, "SN_NIMBUS_LOAD", .ro, .scalar, [⟨.u8, 0, 255⟩], [0], [0], 0⟩]

/-- The objects of region 0xA, as the object maps of its chapter list them. -/
def nimbusObjects : List ObjInfo := nimbusObjects0

def timeObjects0 : List ObjInfo := [
  ⟨Obj.TB_NOW, "TB_NOW", .ro, .scalar, [⟨.ts96, 0, 79228162514264337593543950335⟩], [0], [0, 1, 2, 3, 4], 0⟩,
  ⟨Obj.TB_STATE, "TB_STATE", .ro, .scalar, [⟨.u8, 0, 5⟩], [0], [0, 1, 2, 3, 4], 0⟩,
  ⟨Obj.TB_ERR_EST, "TB_ERR_EST", .ro, .scalar, [⟨.u32, 0, 4294967295⟩], [4294967295], [0, 1, 2, 3, 4], 0⟩,
  ⟨Obj.TB_FREQ_OFFSET, "TB_FREQ_OFFSET", .ro, .scalar, [⟨.i32, (-2147483648), 2147483647⟩], [0], [0, 1, 2, 3, 4], 0⟩,
  ⟨Obj.TB_SLEW_ACC, "TB_SLEW_ACC", .ro, .scalar, [⟨.i32, (-2147483648), 2147483647⟩], [0], [0, 1, 2, 3, 4], 0⟩,
  ⟨Obj.TB_STEPS, "TB_STEPS", .ro, .scalar, [⟨.u32, 0, 4294967295⟩], [0], [0, 1, 2, 3, 4], 0⟩,
  ⟨Obj.TB_LAST_STEP, "TB_LAST_STEP", .ro, .record, [⟨.ts96, 0, 79228162514264337593543950335⟩, ⟨.i64, (-9223372036854775808), 9223372036854775807⟩], [0, 0], [0, 1, 2, 3, 4], 0⟩,
  ⟨Obj.TB_FLAGS, "TB_FLAGS", .ro, .scalar, [⟨.u8, 0, 255⟩], [0], [0, 1, 2, 3, 4], 0⟩,
  ⟨Obj.TM_SRC_PRIORITY, "TM_SRC_PRIORITY", .rw, .array 4, [⟨.u8, 0, 255⟩], [0], [0], 0⟩,
  ⟨Obj.TM_SELECTED, "TM_SELECTED", .ro, .scalar, [⟨.u8, 0, 4⟩], [0], [0], 0⟩,
  ⟨Obj.TM_SRC_STATE, "TM_SRC_STATE", .ro, .array 4, [⟨.bool, 0, 1⟩, ⟨.bool, 0, 1⟩, ⟨.i64, (-9223372036854775808), 9223372036854775807⟩, ⟨.u32, 0, 4294967295⟩], [0, 0, 0, 0], [0], 0⟩,
  ⟨Obj.TM_SWITCH_HOLD, "TM_SWITCH_HOLD", .rw, .scalar, [⟨.u16, 0, 3600⟩], [60], [0], 0⟩,
  ⟨Obj.TM_AGREE_LIMIT, "TM_AGREE_LIMIT", .rw, .scalar, [⟨.u32, 20, 2000000⟩], [2000], [0], 0⟩,
  ⟨Obj.TM_STEP_MAX, "TM_STEP_MAX", .rw, .scalar, [⟨.u32, 1, 86400000⟩], [1000], [0], 0⟩,
  ⟨Obj.TM_ACCEPT_STEP, "TM_ACCEPT_STEP", .cmd, .scalar, [⟨.u32, 1, 1⟩], [0], [0], 0⟩,
  ⟨Obj.TM_HOST_TIME, "TM_HOST_TIME", .rwa, .scalar, [⟨.ts96, 0, 79228162514264337593543950335⟩], [0], [0], 0⟩,
  ⟨Obj.TM_HOST_UNC, "TM_HOST_UNC", .rw, .scalar, [⟨.u32, 1, 1000000⟩], [1000], [0], 0⟩,
  ⟨Obj.TM_HOST_VALID, "TM_HOST_VALID", .rw, .scalar, [⟨.u16, 10, 65535⟩], [600], [0], 0⟩,
  ⟨Obj.TM_HOLDOVER_LIMIT, "TM_HOLDOVER_LIMIT", .rw, .scalar, [⟨.u32, 20, 2000000⟩], [3000], [0], 0⟩,
  ⟨Obj.TM_HOLDOVER_ACTION, "TM_HOLDOVER_ACTION", .rw, .scalar, [⟨.u8, 0, 1⟩], [0], [0], 0⟩,
  ⟨Obj.TM_HO_FREQ_UNC, "TM_HO_FREQ_UNC", .rw, .scalar, [⟨.u16, 1, 50000⟩], [500], [0], 0⟩,
  ⟨Obj.TM_HO_AGING, "TM_HO_AGING", .rw, .scalar, [⟨.u16, 0, 10000⟩], [100], [0], 0⟩,
  ⟨Obj.TM_AIR_SLEW_RATE, "TM_AIR_SLEW_RATE", .rw, .scalar, [⟨.u16, 40, 10000⟩], [2000], [0], 0⟩,
  ⟨Obj.TM_AIR_TRIM, "TM_AIR_TRIM", .rwa, .scalar, [⟨.i32, (-2000), 2000⟩], [0], [0], 0⟩,
  ⟨Obj.TM_CV_PEER, "TM_CV_PEER", .wo, .blob 9248, [⟨.u8, 0, 255⟩], [0], [0], 0⟩,
  ⟨Obj.TM_CV_RESULT, "TM_CV_RESULT", .ro, .record, [⟨.u8, 0, 255⟩, ⟨.u8, 0, 255⟩, ⟨.i32, (-2147483648), 2147483647⟩, ⟨.u16, 0, 65535⟩], [0, 0, 0, 0], [0], 0⟩,
  ⟨Obj.PTP_ROLE, "PTP_ROLE", .rw, .scalar, [⟨.u8, 0, 3⟩], [0], [1, 2], 0⟩,
  ⟨Obj.PTP_PORT, "PTP_PORT", .rw, .scalar, [⟨.u8, 0, 1⟩], [0], [1, 2], 0⟩,
  ⟨Obj.PTP_PROFILE, "PTP_PROFILE", .rw, .scalar, [⟨.u8, 0, 3⟩], [0], [1, 2], 0⟩,
  ⟨Obj.PTP_TRANSPORT, "PTP_TRANSPORT", .rw, .scalar, [⟨.u8, 0, 2⟩], [0], [1, 2], 0⟩]

def timeObjects1 : List ObjInfo := [
  ⟨Obj.PTP_DOMAIN, "PTP_DOMAIN", .rw, .scalar, [⟨.u8, 0, 127⟩], [0], [1, 2], 0⟩,
  ⟨Obj.PTP_ONE_STEP, "PTP_ONE_STEP", .rw, .scalar, [⟨.bool, 0, 1⟩], [0], [1, 2], 0⟩,
  ⟨Obj.PTP_LOG_INTERVALS, "PTP_LOG_INTERVALS", .rw, .record, [⟨.i8, (-128), 127⟩, ⟨.i8, (-128), 127⟩, ⟨.i8, (-128), 127⟩], [0, 1, 0], [1, 2], 0⟩,
  ⟨Obj.PTP_ANNOUNCE_TIMEOUT, "PTP_ANNOUNCE_TIMEOUT", .rw, .scalar, [⟨.u8, 2, 10⟩], [3], [1, 2], 0⟩,
  ⟨Obj.PTP_PRIORITIES, "PTP_PRIORITIES", .rw, .record, [⟨.u8, 0, 255⟩, ⟨.u8, 0, 255⟩, ⟨.u8, 0, 255⟩], [128, 128, 128], [1, 2], 0⟩,
  ⟨Obj.PTP_MAX_CLASS, "PTP_MAX_CLASS", .rw, .scalar, [⟨.u8, 6, 255⟩], [7], [1, 2], 0⟩,
  ⟨Obj.PTP_UNICAST_MASTERS, "PTP_UNICAST_MASTERS", .rw, .array 4, [⟨.bytes 16, 0, 340282366920938463463374607431768211455⟩, ⟨.u8, 0, 255⟩], [0, 0], [1, 2], 0⟩,
  ⟨Obj.PTP_BW, "PTP_BW", .rw, .scalar, [⟨.u16, 10, 2000⟩], [100], [1, 2], 0⟩,
  ⟨Obj.PTP_ASYM_UNC, "PTP_ASYM_UNC", .rw, .scalar, [⟨.u16, 0, 2000⟩], [2], [1, 2], 0⟩,
  ⟨Obj.PTP_PORT_STATE, "PTP_PORT_STATE", .ro, .scalar, [⟨.u8, 0, 9⟩], [0], [1, 2], 0⟩,
  ⟨Obj.PTP_PARENT, "PTP_PARENT", .ro, .record, [⟨.u64, 0, 18446744073709551615⟩, ⟨.u8, 0, 255⟩, ⟨.u8, 0, 255⟩, ⟨.u16, 0, 65535⟩, ⟨.bool, 0, 1⟩], [0, 0, 0, 0, 0], [1, 2], 0⟩,
  ⟨Obj.PTP_OFFSET, "PTP_OFFSET", .ro, .scalar, [⟨.i64, (-9223372036854775808), 9223372036854775807⟩], [0], [1, 2], 0⟩,
  ⟨Obj.PTP_MEAN_DELAY, "PTP_MEAN_DELAY", .ro, .scalar, [⟨.u32, 0, 4294967295⟩], [0], [1, 2], 0⟩,
  ⟨Obj.PTP_COUNTS, "PTP_COUNTS", .ro, .array 4, [⟨.u32, 0, 4294967295⟩], [0], [1, 2], 0⟩]

/-- The objects of region 0xB, as the object maps of its chapter list them. -/
def timeObjects : List ObjInfo := timeObjects0 ++ timeObjects1

def aonObjects0 : List ObjInfo := [
  ⟨Obj.RTC_TICK, "RTC_TICK", .ro, .scalar, [⟨.u64, 0, 18446744073709551615⟩], [0], [0], 0⟩,
  ⟨Obj.RTC_NOW, "RTC_NOW", .ro, .record, [⟨.u8, 0, 255⟩, ⟨.u8, 0, 255⟩, ⟨.u8, 0, 255⟩, ⟨.u8, 0, 255⟩, ⟨.u8, 0, 255⟩, ⟨.u8, 0, 255⟩, ⟨.u8, 0, 255⟩, ⟨.u16, 0, 65535⟩], [0, 0, 0, 0, 1, 1, 0, 0], [0], 0⟩,
  ⟨Obj.RTC_SET, "RTC_SET", .wo, .record, [⟨.u8, 0, 255⟩, ⟨.u8, 0, 255⟩, ⟨.u8, 0, 255⟩, ⟨.u8, 0, 255⟩, ⟨.u8, 0, 255⟩, ⟨.u8, 0, 255⟩, ⟨.u8, 0, 255⟩, ⟨.u16, 0, 32767⟩], [0, 0, 0, 0, 0, 0, 0, 0], [0], 0⟩,
  ⟨Obj.RTC_HALT, "RTC_HALT", .rw, .scalar, [⟨.bool, 0, 1⟩], [0], [0], 0⟩,
  ⟨Obj.RTC_PENDING, "RTC_PENDING", .ro, .scalar, [⟨.u8, 0, 15⟩], [0], [0], 0⟩,
  ⟨Obj.RTC_TRIM, "RTC_TRIM", .rw, .scalar, [⟨.i16, (-255), 255⟩], [0], [0], 0⟩,
  ⟨Obj.RTC_AUTOTRIM_ENABLE, "RTC_AUTOTRIM_ENABLE", .rw, .scalar, [⟨.bool, 0, 1⟩], [0], [0], 0⟩,
  ⟨Obj.RTC_ALARM, "RTC_ALARM", .rw, .record, [⟨.u8, 0, 255⟩, ⟨.u8, 0, 255⟩, ⟨.u8, 0, 255⟩, ⟨.u8, 0, 255⟩, ⟨.u8, 0, 255⟩, ⟨.u8, 0, 255⟩], [0, 0, 0, 1, 1, 0], [0], 0⟩,
  ⟨Obj.RTC_ALARM_ENABLE, "RTC_ALARM_ENABLE", .rw, .scalar, [⟨.bool, 0, 1⟩], [0], [0], 0⟩,
  ⟨Obj.RTC_ALARM_STATE, "RTC_ALARM_STATE", .ro, .scalar, [⟨.u8, 0, 2⟩], [0], [0], 0⟩,
  ⟨Obj.RTC_ALARM_WAKE, "RTC_ALARM_WAKE", .rw, .scalar, [⟨.bool, 0, 1⟩], [0], [0], 0⟩,
  ⟨Obj.RTC_SYNC_ENABLE, "RTC_SYNC_ENABLE", .rw, .scalar, [⟨.bool, 0, 1⟩], [0], [0], 0⟩,
  ⟨Obj.RTC_SCALE, "RTC_SCALE", .rw, .scalar, [⟨.u8, 0, 2⟩], [0], [0], 0⟩,
  ⟨Obj.RTC_ZONE, "RTC_ZONE", .rw, .scalar, [⟨.i16, (-720), 840⟩], [0], [0], 0⟩,
  ⟨Obj.RTC_SYNC_PERIOD, "RTC_SYNC_PERIOD", .rw, .scalar, [⟨.u16, 60, 65535⟩], [3600], [0], 0⟩,
  ⟨Obj.RTC_COUNTS, "RTC_COUNTS", .ro, .array 4, [⟨.u32, 0, 4294967295⟩], [0], [0], 0⟩,
  ⟨Obj.TIME_DOUBTFUL, "TIME_DOUBTFUL", .ro, .scalar, [⟨.bool, 0, 1⟩], [1], [0], 0⟩,
  ⟨Obj.AON_TIME_ANCHOR, "AON_TIME_ANCHOR", .ro, .record, [⟨.u64, 0, 18446744073709551615⟩, ⟨.ts96, 0, 79228162514264337593543950335⟩, ⟨.i32, (-2147483648), 2147483647⟩, ⟨.u32, 0, 4294967295⟩], [0, 0, 0, 0], [0], 0⟩,
  ⟨Obj.AON_SUPPLY, "AON_SUPPLY", .ro, .scalar, [⟨.u8, 0, 1⟩], [0], [0], 0⟩,
  ⟨Obj.AON_VBAT_MV, "AON_VBAT_MV", .ro, .scalar, [⟨.u16, 0, 65535⟩], [0], [0], 0⟩,
  ⟨Obj.AON_VBAT_LOW_MV, "AON_VBAT_LOW_MV", .rw, .scalar, [⟨.u16, 2000, 3400⟩], [2200], [0], 0⟩,
  ⟨Obj.AON_COUNTS, "AON_COUNTS", .ro, .array 4, [⟨.u32, 0, 4294967295⟩], [0], [0], 0⟩,
  ⟨Obj.PADDOCK_STATE, "PADDOCK_STATE", .ro, .array 4, [⟨.u8, 0, 2⟩, ⟨.u32, 0, 4294967295⟩, ⟨.u64, 0, 18446744073709551615⟩], [0, 0, 0], [0], 0⟩,
  ⟨Obj.PADDOCK_FAILS, "PADDOCK_FAILS", .ro, .array 4, [⟨.u32, 0, 4294967295⟩], [0], [0], 0⟩,
  ⟨Obj.PADDOCK_CLEAR, "PADDOCK_CLEAR", .rwa, .scalar, [⟨.u8, 0, 15⟩], [0], [0], 0⟩]

/-- The objects of region 0xC, as the object maps of its chapter list them. -/
def aonObjects : List ObjInfo := aonObjects0

def pwrObjects0 : List ObjInfo := [
  ⟨Obj.PW_STATE, "PW_STATE", .ro, .array 18, [⟨.u8, 0, 5⟩], [2], [0], 0⟩,
  ⟨Obj.PW_TARGET, "PW_TARGET", .rw, .array 18, [⟨.u8, 0, 2⟩], [2], [0], 0⟩,
  ⟨Obj.PW_STEP, "PW_STEP", .ro, .array 18, [⟨.u8, 0, 10⟩], [0], [0], 0⟩,
  ⟨Obj.PW_QUIESCE_MAX, "PW_QUIESCE_MAX", .rw, .scalar, [⟨.u16, 1, 1000⟩], [50], [0], 0⟩,
  ⟨Obj.PW_REFUSALS, "PW_REFUSALS", .ro, .array 18, [⟨.u32, 0, 4294967295⟩, ⟨.u32, 0, 4294967295⟩, ⟨.u8, 0, 255⟩, ⟨.u8, 0, 255⟩, ⟨.ts96, 0, 79228162514264337593543950335⟩], [0, 0, 255, 0, 0], [0], 0⟩,
  ⟨Obj.PW_COUNTS, "PW_COUNTS", .ro, .array 18, [⟨.u32, 0, 4294967295⟩, ⟨.u32, 0, 4294967295⟩, ⟨.u32, 0, 4294967295⟩, ⟨.u32, 0, 4294967295⟩, ⟨.u32, 0, 4294967295⟩], [0, 0, 0, 0, 0], [0], 0⟩,
  ⟨Obj.PW_LAST_FAIL, "PW_LAST_FAIL", .ro, .record, [⟨.u8, 0, 255⟩, ⟨.u8, 1, 2⟩, ⟨.u8, 1, 2⟩, ⟨.ts96, 0, 79228162514264337593543950335⟩], [0, 0, 0, 0], [0], 0⟩,
  ⟨Obj.PW_WAKE_ENABLE, "PW_WAKE_ENABLE", .rw, .scalar, [⟨.u8, 0, 255⟩], [0], [0], 0⟩,
  ⟨Obj.PW_WAKE_TARGETS, "PW_WAKE_TARGETS", .rw, .array 8, [⟨.u32, 0, 4294967295⟩], [2], [0], 0⟩,
  ⟨Obj.PW_WAKE_LAST, "PW_WAKE_LAST", .ro, .record, [⟨.u8, 0, 255⟩, ⟨.u64, 0, 18446744073709551615⟩], [0, 0], [0], 0⟩,
  ⟨Obj.PW_WAKE_COUNTS, "PW_WAKE_COUNTS", .ro, .array 8, [⟨.u32, 0, 4294967295⟩], [0], [0], 0⟩]

/-- The objects of region 0xD, as the object maps of its chapter list them. -/
def pwrObjects : List ObjInfo := pwrObjects0

def uartObjects0 : List ObjInfo := [
  ⟨Obj.UART_ENABLE, "UART_ENABLE", .rw, .scalar, [⟨.u8, 0, 255⟩], [0], [0, 1, 2, 3], 0⟩,
  ⟨Obj.UART_BAUD, "UART_BAUD", .rw, .scalar, [⟨.u32, 300, 12000000⟩], [115200], [0, 1, 2, 3], 0⟩,
  ⟨Obj.UART_BAUD_ACTUAL, "UART_BAUD_ACTUAL", .ro, .scalar, [⟨.u32, 0, 4294967295⟩], [115177], [0, 1, 2, 3], 0⟩,
  ⟨Obj.UART_OSR, "UART_OSR", .rw, .scalar, [⟨.u8, 8, 16⟩], [16], [0, 1, 2, 3], 0⟩,
  ⟨Obj.UART_FRAME, "UART_FRAME", .rw, .record, [⟨.u8, 7, 9⟩, ⟨.u8, 0, 4⟩, ⟨.u8, 1, 2⟩], [8, 0, 1], [0, 1, 2, 3], 0⟩,
  ⟨Obj.UART_RX_DATA, "UART_RX_DATA", .ro, .array 64, [⟨.u16, 0, 65535⟩], [0], [0, 1, 2, 3], 0⟩,
  ⟨Obj.UART_TX_DATA, "UART_TX_DATA", .rw, .array 64, [⟨.u16, 0, 511⟩], [0], [0, 1, 2, 3], 0⟩,
  ⟨Obj.UART_RX_NOTIFY, "UART_RX_NOTIFY", .rw, .scalar, [⟨.u8, 1, 64⟩], [1], [0, 1, 2, 3], 0⟩,
  ⟨Obj.UART_STUCK_MS, "UART_STUCK_MS", .rw, .scalar, [⟨.u16, 2, 1000⟩], [100], [0, 1, 2, 3], 0⟩,
  ⟨Obj.UART_ECHO, "UART_ECHO", .rw, .scalar, [⟨.bool, 0, 1⟩], [0], [0, 1], 0⟩,
  ⟨Obj.UART_DE_LEAD, "UART_DE_LEAD", .rw, .scalar, [⟨.u8, 0, 16⟩], [1], [0, 1], 0⟩,
  ⟨Obj.UART_DE_TAIL, "UART_DE_TAIL", .rw, .scalar, [⟨.u8, 0, 16⟩], [1], [0, 1], 0⟩,
  ⟨Obj.UART_FLOW_ENABLE, "UART_FLOW_ENABLE", .rw, .scalar, [⟨.bool, 0, 1⟩], [0], [2, 3], 0⟩,
  ⟨Obj.UART_RTS_LEVELS, "UART_RTS_LEVELS", .rw, .record, [⟨.u8, 2, 63⟩, ⟨.u8, 0, 61⟩], [48, 16], [2, 3], 0⟩,
  ⟨Obj.UART_SLOW_RX, "UART_SLOW_RX", .rw, .scalar, [⟨.bool, 0, 1⟩], [0], [0], 0⟩,
  ⟨Obj.UART_STATUS, "UART_STATUS", .ro, .record, [⟨.u8, 0, 255⟩, ⟨.u8, 0, 255⟩, ⟨.u8, 0, 3⟩, ⟨.u8, 0, 1⟩, ⟨.bool, 0, 1⟩, ⟨.bool, 0, 1⟩, ⟨.bool, 0, 1⟩], [0, 0, 0, 0, 0, 0, 0], [0, 1, 2, 3], 0⟩,
  ⟨Obj.UART_COUNTS, "UART_COUNTS", .ro, .array 9, [⟨.u32, 0, 4294967295⟩], [0], [0, 1, 2, 3], 0⟩]

/-- The objects of region 0xE, as the object maps of its chapter list them. -/
def uartObjects : List ObjInfo := uartObjects0

def faultObjects0 : List ObjInfo := [
  ⟨Obj.EVENT_LOG, "EVENT_LOG", .ro, .array 4096, [⟨.u16, 0, 65535⟩, ⟨.u8, 0, 255⟩, ⟨.u8, 0, 255⟩, ⟨.u32, 0, 4294967295⟩, ⟨.ts96, 0, 79228162514264337593543950335⟩, ⟨.u32, 0, 4294967295⟩, ⟨.u32, 0, 4294967295⟩, ⟨.u32, 0, 4294967295⟩], [0, 0, 0, 0, 0, 0, 0, 0], [0], 0⟩,
  ⟨Obj.EVENT_SEQ, "EVENT_SEQ", .ro, .record, [⟨.u32, 0, 4294967295⟩, ⟨.u32, 0, 4294967295⟩], [0, 0], [0], 0⟩,
  ⟨Obj.EVENT_NOTIFY, "EVENT_NOTIFY", .rw, .scalar, [⟨.u8, 0, 31⟩], [30], [0], 0⟩,
  ⟨Obj.EVENT_ARCHIVE, "EVENT_ARCHIVE", .ro, .blob 16777216, [⟨.u8, 0, 255⟩], [0], [0], 0⟩,
  ⟨Obj.EVENT_REGION_COUNTS, "EVENT_REGION_COUNTS", .ro, .array 15, [⟨.u32, 0, 4294967295⟩], [0], [0], 0⟩,
  ⟨Obj.EVENT_SUPPRESSED, "EVENT_SUPPRESSED", .ro, .scalar, [⟨.u32, 0, 4294967295⟩], [0], [0], 0⟩,
  ⟨Obj.FAULT_RECORD, "FAULT_RECORD", .ro, .array 64, [⟨.u32, 0, 4294967295⟩, ⟨.u16, 0, 65535⟩, ⟨.u16, 0, 65535⟩, ⟨.u8, 0, 255⟩, ⟨.u8, 0, 255⟩, ⟨.u16, 0, 65535⟩, ⟨.u8, 0, 255⟩, ⟨.u8, 0, 255⟩, ⟨.u16, 0, 65535⟩, ⟨.ts96, 0, 79228162514264337593543950335⟩, ⟨.u32, 0, 4294967295⟩, ⟨.u32, 0, 4294967295⟩, ⟨.u32, 0, 4294967295⟩, ⟨.bytes 24, 0, 6277101735386680763835789423207666416102355444464034512895⟩, ⟨.bytes 188, 0, 561194593766944619962041407364493727896384254085293261185212768396655421609013155258513294185359508186450406508727000278388712783063519356066736622688075213566239303765265556231788843385335407144586914949442218071221687332239141480406137910229039370314640840828023077368147986773778085692737755358169290789023267363482525558922028171728076052405075074138795257013964532752671891632842613338696159232002800853688464942086946920614187448378939411336790015⟩, ⟨.bytes 4, 0, 4294967295⟩], [0, 0, 0, 0, 0, 0, 0, 0, 0, 0, 0, 0, 0, 0, 0, 0], [0], 0⟩,
  ⟨Obj.FAULT_RELEASE, "FAULT_RELEASE", .cmd, .scalar, [⟨.u32, 2, 15⟩], [0], [0], 0⟩,
  ⟨Obj.CONTAIN_COUNTS, "CONTAIN_COUNTS", .ro, .array 15, [⟨.u32, 0, 4294967295⟩, ⟨.u32, 0, 4294967295⟩, ⟨.u32, 0, 4294967295⟩, ⟨.u32, 0, 4294967295⟩], [0, 0, 0, 0], [0], 0⟩,
  ⟨Obj.FAULT_CLEAR, "FAULT_CLEAR", .rwa, .scalar, [⟨.u8, 1, 1⟩], [0], [0], 0⟩]

/-- The objects of region 0xF, as the object maps of its chapter list them. -/
def faultObjects : List ObjInfo := faultObjects0

/-- The objects of one region (R10). -/
def regionObjects : Nat → List ObjInfo
  | 1 => sysObjects
  | 2 => secObjects
  | 3 => hostObjects
  | 4 => netObjects
  | 5 => memObjects
  | 6 => rfObjects
  | 7 => meshObjects
  | 8 => flockObjects
  | 9 => gnssObjects
  | 10 => nimbusObjects
  | 11 => timeObjects
  | 12 => aonObjects
  | 13 => pwrObjects
  | 14 => uartObjects
  | 15 => faultObjects
  | _ => []

/-- Region code, instance and object number of an index (02_object_dictionary.md, "Indices"). -/
def idxRegion (index : Nat) : Nat := index / 0x1000000 % 256
def idxInst (index : Nat) : Nat := index / 0x10000 % 256
def idxObj (index : Nat) : Nat := index % 0x10000

/-- The index of an object with the instance field cleared. -/
def idxBase (index : Nat) : Nat := idxRegion index * 0x1000000 + idxObj index

/-- The index of instance `i` of an object. -/
def inst (base i : Nat) : Nat := base + 0x10000 * i

/-- The object an index names, if it exists (R36). Objects of one fixed instance other than 0 (the GNSS RF objects of
Table GN-9) carry that instance in their table index. -/
def findObj (index : Nat) : Option ObjInfo :=
  if index ≥ 0x100000000 then none
  else if idxObj index = 0 then
    if idxInst index = 0 ∧ 1 ≤ idxRegion index ∧ idxRegion index ≤ 15 then some (regionInfoObject (idxRegion index))
    else none
  else
    (regionObjects (idxRegion index)).find? fun o =>
      if idxInst o.index = 0 then o.index = idxBase index && o.insts.contains (idxInst index)
      else o.index = index

end Sys2Proof.Machine
end

