-- ==== Sys2Proof/Machine/StateCore.lean ====
section
/-!
DEFINITION. State of the supervisor side of the block: containment and engines (01_architecture.md), Loref sessions
and writes in flight (02_object_dictionary.md), start-up, boot directory and firmware bundles
(03_startup_and_firmware.md), events and fault records (17_faults_and_events.md). Plain data only.
-/

namespace Sys2Proof.Machine

/-! ### Faults and events -/

/-- One event entry, the fields of Table FT-1 (R546). `time` is the 96-bit TIME field. -/
structure EventEntry where
  code : Nat
  inst : Nat
  flags : Nat
  seq : Nat
  time : Nat
  arg0 : Nat
  arg1 : Nat
deriving DecidableEq, Repr

/-- The count of one code and instance within one second of TB_MONO (R548). -/
structure EventWindow where
  code : Nat
  inst : Nat
  second : Nat
  logged : Nat
  suppressed : Nat
deriving DecidableEq, Repr

/-- One fault record, the fields of Table FT-4 (R552). `detail` is the region state captured for Aperawen analysis,
a free value; the CRC field is computed when the record is read. -/
structure FaultRec where
  code : Nat
  region : Nat
  block : Nat
  cell : Nat
  action : Nat
  tries : Nat
  time : Nat
  seq : Nat
  resetCount : Nat
  version : Nat
  detail : Nat
deriving DecidableEq, Repr

/-- An error that a level is trying to contain (R14). `level` 0 cell, 1 block, 2 region; `tries` counts the levels
that have attempted it (Table FT-4, TRIES). -/
structure Containment where
  region : Nat
  block : Nat
  cell : Nat
  level : Nat
  tries : Nat
  since : HalfNs
deriving DecidableEq, Repr

/-- A retired cell, retired until the next reset of its region (R16). -/
structure Retired where
  region : Nat
  block : Nat
  cell : Nat
deriving DecidableEq, Repr

/-- Region FAULT: log, suppression, archive, fault records, containment (17_faults_and_events.md). -/
structure FltState where
  /-- The on-chip log, oldest first, at most 4,096 entries (R549). -/
  log : List EventEntry
  /-- SEQ of the next entry (Table FT-1). -/
  nextSeq : Nat
  /-- Occurrences in the running second (R548). -/
  windows : List EventWindow
  /-- Entries not yet in the flash archive, oldest first (R549). -/
  archPending : List EventEntry
  /-- TB_MONO when the oldest pending entry was logged (R549). -/
  archSince : HalfNs
  /-- The circular flash archive at 0x0210_0000, oldest first, at most 524,288 entries (R549). -/
  archive : List EventEntry
  /-- The on-chip fault record list, newest first, at most 64 (Table FT-5). -/
  records : List FaultRec
  /-- The flash ring of fault records, newest first, at most 4,096 (R552). -/
  recFlash : List FaultRec
  /-- Records that have not reached flash yet, oldest first (R552, R553). -/
  recPending : List FaultRec
  /-- Records written since the area was first written (Table FT-4, SEQ); survives resets. -/
  recSeq : Nat
  /-- Records written since the last reset of core scope (Table HP-4, FAULT_RECORDS). -/
  recCount : Nat
  /-- The AON register copy of the latest record (R553). -/
  aonCopy : Option FaultRec
  /-- Region codes held at chip level (R17, R555). -/
  held : List Nat
  /-- Per released region the TB_MONO time of its release (R555). -/
  released : List (Nat × HalfNs)
  /-- Regions refused a second release until a reset of core scope (R555). -/
  refused : List Nat
  /-- Errors still being contained (R14). -/
  containing : List Containment
  /-- Cells retired (R16). -/
  retired : List Retired
  /-- TB_MONO of the chip-level decision of a SYS error; the reset of source 8 follows (R553). -/
  supFailedAt : Option HalfNs
deriving DecidableEq, Repr

/-! ### Arbiters, engines and islands -/

/-- A request that waits at an arbiter: its requester, its class of Table AC-3 as promoted so far, and the grants through which it has
waited since (R11, R12). -/
structure ArbReq where
  who : Nat
  cls : Nat
  waited : Nat
deriving DecidableEq, Repr

/-- The arbiter of a region: the requests that wait, and per class the requester granted last (R11). -/
structure Arbiter where
  waiting : List ArbReq
  last : Vector Nat 5
deriving DecidableEq, Repr

/-- One engine of Table AC-6 (R19, R22, Table AC-7). `st` is ENG_STATE: 0 stopped, 1 running, 2 restarting,
3 failed. `recent` holds the TB_MONO times of its watchdog restarts, newest first. -/
structure Engine where
  st : Nat
  restarts : Nat
  last : Nat
  recent : List HalfNs
deriving DecidableEq, Repr

/-- A write that crosses into an island (R25). `who` is its initiator: 0 the BAR0 endpoint, otherwise a session identifier or, for LOP1,
2³² plus the transport's number. `index` is the object, for a BAR0 write the register's offset; elements `e` to `e + n − 1` of `value`, or
`data` at `off`, are written. `resp` names the request it belongs to, 0 none. -/
structure Inflight where
  who : Nat
  island : Nat
  index : Nat
  e : Nat
  n : Nat
  value : Val
  off : Option Nat
  data : Bytes
  resp : Nat
deriving DecidableEq, Repr

/-- A fence waiting for the earlier writes of its initiator (R30). `bar0` tells the two ways to start one apart. -/
structure FenceWait where
  who : Nat
  bar0 : Bool
  resp : Nat
deriving DecidableEq, Repr

/-- One item of a response (R57): status, type code, length, revision and value octets. -/
structure RespItem where
  status : Nat
  typ : Nat
  length : Nat
  rev : Nat
  value : Bytes
deriving DecidableEq, Repr

/-- One Loref response (R57, R594 to R596): where it goes and what it carries. `opcode` has bit 7 set; 0x181 and 0x182 are the responses
to a LOP1 READ and WRITE, whose `reqId` is the INDEX. `reqId` of an OPEN response is the new SESSION; `nonce` carries the device nonce of
an OPEN or AUTH response. -/
structure Resp where
  via : Via
  opcode : Nat
  session : Nat
  seq : Nat
  reqId : Nat
  status : Nat
  items : List RespItem
  nonce : Nat
deriving DecidableEq, Repr

/-- A response that waits for its writes to take effect (R31, R59). -/
structure RespWait where
  key : Nat
  resp : Resp
  keep : Bool
  closes : Option Nat
deriving DecidableEq, Repr

/-- Writes crossing into the islands, fences and responses waiting for them (R25 to R32). -/
structure IslState where
  /-- Writes in flight, oldest first (R27). -/
  inflight : List Inflight
  /-- Writes to AON held at the interconnect, oldest first (R32). -/
  aonHeld : List Inflight
  fences : List FenceWait
  responses : List RespWait
  nextKey : Nat
deriving DecidableEq, Repr

/-! ### Loref -/

/-- One session (R63 to R69). `role` is its code of Table OD-3; `presClass` the class of the presence window that
admitted an INSTALLER session, else 0. -/
structure Session where
  id : Nat
  role : Nat
  transport : Nat
  presClass : Nat
  auth : Bool
  openedAt : HalfNs
  lastAt : HalfNs
  rxSeq : Nat
  txSeq : Nat
  tagFails : Nat
  clientNonce : Nat
  deviceNonce : Nat
  /-- The key slot of its session key (Table SE-4). -/
  keySlot : Nat
  /-- The responses to the last 8 REQ_ID values, newest first (R68). -/
  kept : List Resp
deriving DecidableEq, Repr

/-- A request that has been accepted: the way it came, its opcode (Table OD-5; 0x101 and 0x102 for a LOP1 READ and WRITE), its session
(the INDEX for LOP1) and the octets of its payload in plaintext (the value for LOP1) (R51 to R53, R72). -/
structure LopReq where
  via : Via
  op : Nat
  session : Nat
  payload : Bytes
deriving DecidableEq, Repr

/-- What the dictionary server holds (02_object_dictionary.md). -/
structure LopState where
  sessions : List Session
  /-- Accepted requests that SUP has not started, oldest first, with the TB_MONO time since which each waits (R20, R61, R101). -/
  waiting : List (LopReq × HalfNs)
  /-- A mailbox request is outstanding until response-ready (R78). -/
  mbxBusy : Bool
  /-- The octets so far of an RS-485 transfer in progress on UART0 and UART1, none without one (R80, R81). -/
  rs485 : Vector (Option Bytes) 2
deriving DecidableEq, Repr

/-! ### Start-up and firmware -/

/-- The fields of a boot directory (Table SU-5). -/
structure Directory where
  seq : Nat
  active : Fin 2
  stateA : Nat
  stateB : Nat
  trialTimeout : Nat
  bootOverride : Nat
deriving DecidableEq, Repr

/-- The OTP fields (R112, R155, R467, Table SU-3). A check that fails is a `false` here. -/
structure Otp where
  /-- SHA3-512 digests of the two firmware keys (R112). -/
  digest : Vector Nat 2
  /-- Their revocation flags, three redundant bits each, read by majority (R112). -/
  revoked : Vector Nat 2
  /-- The check of each key digest holds (Table SU-3). -/
  digestOk : Vector Bool 2
  /-- The 96 steps of the rollback thermometer, three redundant bits each, read by majority (R112). -/
  steps : List Nat
  /-- The device root, and whether its check holds (Table SU-3). -/
  deviceRoot : Nat
  deviceRootOk : Bool
  /-- The identity seed, and whether its check holds (Table SU-3). -/
  identitySeed : Nat
  identityOk : Bool
  /-- The device's EUI-64. -/
  eui : Nat
  /-- The ETH0 port address. -/
  mac : Nat
  /-- The two regulatory lock record slots; empty when blank (04_radio_front_end.md R155, R158). -/
  lock : Vector Bytes 2
  /-- Per path and item the factory calibration value; none where it is not usable (R145). -/
  cal : Vector (Vector (Option (Nat × List Nat)) 9) 6
  /-- Per GNSS band and item the factory calibration value; none where it is not usable (R301). -/
  grf : Vector (Vector (Option Nat) 4) 2
  /-- The noise-only gain of each GNSS band in 0.1 dB (R311). -/
  gref : Vector Int 2
  /-- The receiver's bias in 0.1 ns for the GLONASS frequency numbers −7 to +6 (R328). -/
  gloBias : Vector Int 14
deriving DecidableEq, Repr

/-- A flash erase, program or verify that an action object started (R46, R519): the object, the byte address, and what
the action is to store when it ends well. -/
structure FlashOp where
  index : Nat
  addr : Nat
  arg : Nat
  data : Bytes
deriving DecidableEq, Repr

/-- Firmware slots, directory, profiles and OTP (03_startup_and_firmware.md, R83 to R88). -/
structure FwState where
  /-- The octets of the two boot directory copies (R107, Table SU-5). -/
  dir : Vector Bytes 2
  /-- The default directory as bundle selection has changed it, while no copy is valid (R108, R112). -/
  ramDir : Option Directory
  /-- The bundle slots A and B (R106, R109). -/
  slot : Vector Bytes 2
  /-- Reason recorded per slot in BUNDLE_INFO (R111). -/
  reason : Vector Nat 2
  otp : Otp
  /-- The profiles P0 to P3 in flash, two slots each, of which the empty one takes the next content (R83, R87, Table SU-4). -/
  profile : Vector (Vector Bytes 2) 4
  /-- The profile staging buffer (Table OD-9). -/
  stage : Bytes
  /-- Length announced to FW_STAGE_BEGIN and number of bytes staged so far. -/
  stageLen : Nat
  verifyReason : Nat
  /-- TB_MONO at which a trial's count reaches 0 (R118). -/
  trialEnd : Option HalfNs
  /-- Flash operations of action objects in progress, oldest first (R46). -/
  ops : List FlashOp
  /-- The flash answers its JEDEC identification (Table SU-3). -/
  jedecOk : Bool
deriving DecidableEq, Repr

/-- Why a reference qualification runs (R98, R99); the one of R451 is part of its domain's exit. -/
inductive QualFor where
  | startUp | retry
deriving DecidableEq, Repr

/-- Reset and start-up (R90 to R105). -/
structure StartState where
  /-- START_STATE (Table SU-9). -/
  st : Nat
  flags : Nat
  startTime : Nat
  /-- TB_MONO at reset release. -/
  releasedAt : HalfNs
  /-- The chip is held in reset: no start-up has begun since the last reset of core scope. -/
  inReset : Bool
  /-- Sources of Table SU-1 active during the present reset (R92). -/
  sources : Nat
  /-- A thermal reset is held until the junction is below 110 °C (Table SU-1). -/
  thermalHeld : Bool
  /-- PERST_N is asserted: the HOST region is in reset (R90, R512). -/
  perst : Bool
  /-- RESET_CAUSE (R92) and RESET_COUNT (R94), held in AON. -/
  cause : Nat
  count : Nat
  /-- CLOCK_SOURCE (Table SU-9). -/
  clock : Nat
  /-- Reference qualification in progress (R98). -/
  qual : Option QualFor
  /-- TB_MONO at its start. -/
  qualAt : HalfNs
  /-- BOOT_BUNDLE (Table SU-9). -/
  bundle : Nat
  /-- The bundle running is on trial (START_FLAGS bit 4). -/
  trial : Bool
  /-- PROFILE_SEL[1:0] and REF_SEL at the last reset. -/
  profPins : Nat
  refSel : Nat
  /-- LPDDR4X training attempts made, and whether training is under way (R104). -/
  ddrTries : Nat
  ddrTraining : Bool
  /-- SUP serves the dictionary: configuration requests are answered normally (R101). -/
  cfgServed : Bool
  /-- PROFILE_ACTIVE: the profile loaded last (R86). -/
  profileActive : Nat
  /-- SYS has turned on from off, and its start-up is due (Table PW-5a). -/
  bootDue : Bool
deriving DecidableEq, Repr

end Sys2Proof.Machine
end

