-- ==== Sys2Proof/Machine/StateOut.lean ====
section
/-!
DEFINITION. What the block sends out: Loref responses, air frames, ring records, index write-backs, interrupt
messages, Ethernet and serial output. The state keeps them in `State.outbox`, newest first; no rule reads it back.
-/

namespace Sys2Proof.Machine

/-- A frame that the block puts on air: frame type, whether it is in pre-association form (its source then an EUI-64), source and
destination, AR, key index with the key latched for it, outbound counter, ASN of its nonce, frame-pending bit, information elements, the
octets that are encrypted, and for an acknowledgement the counter of the frame it acknowledges (05_mesh_phy_and_frames.md R178 to R184,
07_links_and_budgets.md R237). -/
structure AirOut where
  frameType : Nat
  pre : Bool
  src : Nat
  dest : Nat
  ar : Bool
  key : Nat
  keyVal : Nat
  counter : Nat
  asn : Nat
  pending : Bool
  ies : List Ie
  body : Bytes
  ackOf : Option Nat
deriving DecidableEq, Repr

/-- What a transmit command sends: a frame of the mesh, or the octets of a PSDU as its issuer gives them (R125, R165). -/
inductive TxContent where
  | mac (f : AirOut)
  | raw (psdu : Bytes)
deriving DecidableEq, Repr

/-- What goes on air: preamble octets, SFD, PHR, the PSDU as whitened, and the coded octets when the frame is sent with FEC (R162 to
R166; a legacy frame's sync word and length octet, R165). -/
structure PhyFrame where
  preamble : Bytes
  sfd : Nat
  phr : Nat
  psdu : Bytes
  coded : Bytes
deriving DecidableEq, Repr

/-- A record of a device-produced ring (Table HP-7): a completion; a frame with its reception record and source; a snapshot result; a
measurement epoch, a navigation record, an event entry. -/
inductive RingRec where
  | dlDone (tag status : Nat) (relayed : Bool) (skip attempts flock doneAt : Nat)
  | ulFrame (flock kind : Nat) (relayed : Bool) (record : Bytes) (src : Nat) (data : Bytes)
  | snResult (flock status : Nat) (data : Bytes)
  | epoch (data : Bytes)
  | nav (data : Bytes)
  | event (e : EventEntry)
deriving DecidableEq, Repr

/-- One thing sent out. -/
inductive Out where
  /-- The octets of a Loref response, and the way they go (R51, R57, R72). -/
  | lop (v : Via) (frame : Bytes)
  | air (path : Nat) (start : HalfNs) (carrier mode entry : Nat) (f : TxContent) (phy : PhyFrame)
  /-- A record on ring `n`: what is written into its buffers, then its descriptors, each with its address (R503). -/
  | ring (n : Nat) (bufs : List (Nat × Bytes)) (descs : List (Nat × Bytes))
  | writeback (n : Nat) (addr value : Nat)
  | msix (vector : Nat)
  | promoted (region cls : Nat)
  /-- A transmit command has ended: its status, and the SFD instant of a frame that was sent (R133, R175). -/
  | txEnd (path handle status : Nat) (sfd : Option HalfNs)
  /-- A frame of an Ethernet port: what it is, its VLAN ID (0 none), its address fields and its data (R514). -/
  | eth (port kind vlan : Nat) (fields : List Nat) (data : Bytes)
  | ptp (inst kind : Nat) (fields : List Int)
  /-- A character of a UART, with the TB_MONO time of its start bit (R536, R537). -/
  | uart (n : Nat) (char : Nat) (start : HalfNs)
  | uartRead (n : Nat) (entries : List Nat)
  | bar0Read (offset value : Nat)
  | fenceDone (who : Nat)
  | pcieConfig (retry : Bool)
  | pulse (n : Nat) (active : Bool)
  | jtag (instruction : Nat) (data : Nat)
deriving DecidableEq, Repr

end Sys2Proof.Machine
end

