-- ==== Sys2Proof/Machine/StateTime.lean ====
section
/-!
DEFINITION. State of the time bases, PTP instances, Bellwether and time pulse (11_time_bases.md), and of the always-on
region (12_rtc_and_always_on.md). Plain data only.
-/

namespace Sys2Proof.Machine

/-- One time base (Table TM-1, Table TM-6): its reading in 0.5 ns and its objects. -/
structure Base where
  now : HalfNs
  st : Nat
  err : Nat
  freq : Int
  slew : Int
  steps : Nat
  lastStepAt : Nat
  lastStepSize : Int
  flags : Nat
deriving DecidableEq, Repr

/-- What Bellwether keeps of one source (Table TM-4, R384, R385): its last sample of GPST and the TB_MONO time it was
taken at, its estimated error, whether it is traceable; `goodAt` the start of its unbroken run of traceable solutions; comparisons at which it was
qualified and not disagreeing (`calm`) and disagreeing (`dis`) in a row; the objects of TM_SRC_STATE. -/
structure Src where
  sample : Int
  sampleAt : HalfNs
  sampleErr : Nat
  traceable : Bool
  present : Bool
  goodAt : HalfNs
  calm : Nat
  dis : Nat
  qualified : Bool
  disagreeing : Bool
  offset : Int
  err : Nat
deriving DecidableEq, Repr

/-- One PTP instance (R375 to R381, Table TM-8). `slaveFor` counts consecutive sync intervals in SLAVE, `offsets` the last
16 filtered offsets, newest first, `pendingStep` the offsets of the running STEP_PENDING interval, `reqAt` the egress
time of the delay request that awaits its answer, `grants` the slaves served in profile 3, `pendAt` and `annAt` the TB_MONO times at
which STEP_PENDING began and the master's last Announce came. -/
structure Ptp where
  portState : Nat
  master : Option Master
  slaveFor : Nat
  offset : Int
  offsets : List Int
  meanDelay : Int
  pendingStep : Option (List Int)
  reqAt : Option Int
  syncAt : Int
  syncCorr : Int
  seq : Nat
  grants : List Nat
  pendAt : HalfNs
  annAt : HalfNs
deriving DecidableEq, Repr

/-- One time-pulse output (R394 to R397): the TB_MONO time since which it runs, the TB_MONO time of its last edge, whether it
is active. -/
structure Pulse where
  since : Option HalfNs
  lastEdge : Option HalfNs
  active : Bool
  seq : Nat
  lastTime : Nat
  lastFlags : Nat
deriving DecidableEq, Repr

/-- Region TIME: the five bases TB_GNSS, TB_PTPA, TB_PTPB, TB_AIR and TB_MONO, the two PTP instances, Bellwether and the
time pulse. -/
structure TimeState where
  base : Vector Base 5
  /-- The bases other than TB_MONO count (R365, R371). -/
  counting : Bool
  /-- TB_MONO and the tick count saved at a TIME entry, while the AON region carries TB_MONO (R371). -/
  monoSave : Option (HalfNs × Nat)
  src : Vector Src 4
  /-- TM_SELECTED. -/
  selected : Nat
  /-- TB_GNSS has been established since the last reset of core scope (R368). -/
  established : Bool
  /-- Estimated error at holdover entry and the TB_MONO time of that entry (R387). -/
  hoErr : Nat
  hoAt : HalfNs
  /-- The offset that STEP_HELD reported (R389). -/
  heldStep : Option Int
  /-- The step to be made at the next whole second of TB_GNSS (R389). -/
  stepDue : Option Int
  /-- TB_MONO time at which STEPPED is cleared (R389). -/
  steppedEnd : Option HalfNs
  /-- GPST − UTC in s, from the navigation record or a PTP master. -/
  leap : Int
  /-- TB_MONO time of the last Bellwether second. -/
  lastTick : HalfNs
  ptp : Vector Ptp 2
  pulse : Vector Pulse 2
  /-- Own measurement epochs of the last 16 s: EPOCH value, and per satellite and signal its TIME_RESID (R393). -/
  epochs : List (Nat × List (Nat × Int))
  /-- TM_CV_RESULT. -/
  cv : List Int
  /-- The offset history of R348: TB_AIR time, TB_AIR − TB_GNSS in 0.5 ns and whether TB_AIR was traceable, newest
  first. -/
  history : List (HalfNs × Int × Bool)
  /-- TB_AIR's slew accumulator at the superframe edges of the same span: TB_AIR time and accumulator, newest first
  (R348, Table SN-3 code 0x09). -/
  slews : List (HalfNs × Int)
deriving DecidableEq, Repr

/-! ### The always-on region -/

/-- The calendar fields of R415. -/
structure Cal where
  sec : Nat
  min : Nat
  hour : Nat
  wday : Nat
  day : Nat
  month : Nat
  year : Nat
deriving DecidableEq, Repr

/-- One Paddock bank (R426): 0 INVALID, 1 SEALED, 2 OPEN; its signature, the tick of its sealing, and whether its content
still matches the signature. -/
structure Bank where
  st : Nat
  signature : Nat
  sealedAt : Nat
  intact : Bool
deriving DecidableEq, Repr

/-- An event that waits in the AON queue, stamped with the tick count (R414). -/
structure Queued where
  code : Nat
  inst : Nat
  flags : Nat
  arg0 : Nat
  arg1 : Nat
  tick : Nat
deriving DecidableEq, Repr

/-- The time anchor (R408). -/
structure Anchor where
  tick : Nat
  time : Nat
  rateErr : Int
  err : Nat
deriving DecidableEq, Repr

/-- One satellite's ephemeris (R323 to R325): system number and satellite of Table GN-1's codes, reference time in s of
GPST, issue of data, broadcast health, and its content as one number. -/
structure Eph where
  sys : Nat
  sv : Nat
  toe : Nat
  iod : Nat
  healthy : Bool
  content : Nat
deriving DecidableEq, Repr

/-- A position as GN_FIXED_POS and GN_REF_POS hold it: X, Y, Z as F64 and ACC as F32 bit patterns. -/
structure Pos where
  x : Nat
  y : Nat
  z : Nat
  acc : Nat
deriving DecidableEq, Repr

/-- The hot-start data of banks 1 and 2 (R339, Table AO-3). Bank 1: the almanacs, a number that stands for their content, with the RTC
time at which they were saved, and the ephemerides of satellites 1 to 48. Bank 2: those of satellites 49 to 96, GN_REF_POS with its
source, whether a 3D position is saved, the reference oscillator's frequency error in 0.01 ppb by die temperature in °C, the
ionosphere and UTC parameters (a number that stands for their content) and the GLONASS frequency numbers by slot. -/
structure HotStart where
  alm : Nat
  almAt : Option HalfNs
  ephs : List Eph
  ephs2 : List Eph
  refSource : Nat
  ref : Pos
  pos3d : Bool
  model : List (Int × Int)
  msgs : Nat
  glo : List (Nat × Int)
deriving DecidableEq, Repr

/-- Region AON. -/
structure AonState where
  /-- The 48-bit tick counter, and the part of a tick passed since (R405). -/
  tick : Nat
  part : Nat
  /-- The tick counter has stopped (R412). -/
  stopped : Bool
  /-- The prescaler: ticks since the last completed second (R405); a value of 32,768 or more is a second that
  CALENDAR_SECOND has not taken yet. -/
  pres : Nat
  /-- RTC_TRIM in effect in the running period (R406). -/
  trim : Int
  cal : Cal
  pending : Nat
  /-- Pending seconds are being applied (R418). -/
  catchUp : Bool
  /-- A second has been lost in the present halt (R418). -/
  overrun : Bool
  /-- RTC_ALARM_STATE (R419). -/
  alarm : Nat
  /-- RTC_STATUS bits 4 to 7 (Table AO-2). -/
  status : Nat
  /-- The registers RTC_SET_TIME, RTC_SET_DATE, RTC_ALARM_TIME and RTC_ALARM_DATE (Table AO-2). -/
  setTime : Nat
  setDate : Nat
  alarmTime : Nat
  alarmDate : Nat
  /-- The BAR0 shadow: the tick of its capture and the registers 0x2000 to 0x2010 (R424). -/
  shadow : Option (Nat × List Nat)
  doubtful : Bool
  /-- On the internal RC; the crystal has never been good since the AON power-on; SLOW_CLK_FAIL stands (R404). -/
  slowRc : Bool
  starting : Bool
  failed : Bool
  /-- 0 VMAIN_AON, 1 VBAT; both inputs below 1.8 V (R411, R412). -/
  supply : Nat
  holdup : Bool
  vbat : Nat
  vbatRuns : Nat
  vbatArmed : Bool
  queue : List Queued
  anchor : Anchor
  /-- TB_AIR offset, slew accumulator and source kept in bank 0 (Table AO-3). -/
  airOffset : Int
  airSlew : Int
  source : Nat
  bank : Vector Bank 4
  /-- A synchronisation write is due at the next whole second of TB_GNSS (R422). -/
  syncForce : Bool
  /-- TB_MONO time of the last synchronisation period start (R422). -/
  syncAt : HalfNs
  /-- Save time of bank 2 as an RTC time in s (R339, R340). -/
  savedAt : Nat
  /-- The hot-start data (R339). -/
  hot : HotStart
deriving DecidableEq, Repr

end Sys2Proof.Machine
end

