-- ==== Sys2Proof/Machine/StateGnss.lean ====
section
/-!
DEFINITION. State of the GNSS baseband (09_gnss_baseband.md) and of the snapshot pipeline (10_snapshot_positioning.md).
Plain data only.
-/

namespace Sys2Proof.Machine

/-- An adaptive notch cell (R305 to R307): in use, the frequency it was assigned and the one it tracks in kHz, its line's
level in dB above the median, evaluations below the release level in a row. -/
structure NotchCell where
  used : Bool
  home : Nat
  freq : Nat
  level : Int
  below : Nat
deriving DecidableEq, Repr

/-- One band (R300 to R312). `item` is the calibration item that runs (0 none), `itemAt` the TB_MONO time at which it began,
`retried` that it has failed once; `high` and `low` count indicator updates at or above the threshold and below the clear level
in a row; `hold` is what is left of GN_BLANK_HOLD at the end of an interval, in 1/64 µs (R309). -/
structure GBand where
  gain : Int
  jamInd : Nat
  jn : Int
  high : Nat
  low : Nat
  jammed : Bool
  cell : Vector NotchCell 4
  spectrum : List Int
  ratio : Nat
  suspended : Bool
  cal : Vector Nat 4
  item : Nat
  itemAt : HalfNs
  retried : Bool
  fault : Bool
  delay : Nat
  hold : Nat
deriving DecidableEq, Repr

/-- The modes of Table GN-4 that Nimbus serves. -/
inductive AcqMode where
  | cold | warm | hot
deriving DecidableEq, Repr

/-- A signal of a satellite to be acquired: index of Table GN-1, satellite number, mode, and the TB_MONO time at which the job
was made. -/
structure AcqJob where
  sig : Nat
  sv : Nat
  mode : AcqMode
  madeAt : HalfNs
deriving DecidableEq, Repr

/-- A signal that waits for a channel (R318). -/
structure WaitSig where
  sig : Nat
  sv : Nat
  elev : Int
deriving DecidableEq, Repr

/-- A tracking channel (R318 to R322). `since` is the TB_MONO time since which the frequency loop runs alone; `lostAt` when
code lock was lost; `openAt` when its loops opened in a NAV0 restart; `coh` is the length in ms of the coherent interval that
began at `cohAt`, and `sync` whether the data bit or the secondary code is synchronised (R320). -/
structure Channel where
  num : Nat
  sig : Nat
  sv : Nat
  elev : Int
  since : HalfNs
  phaseLoop : Bool
  codeLock : Bool
  phaseLock : Bool
  half : Bool
  spacing : Nat
  lostAt : Option HalfNs
  openAt : Option HalfNs
  coh : Nat
  cohAt : HalfNs
  sync : Bool
deriving DecidableEq, Repr

/-- Region GNSS. -/
structure GnssState where
  band : Vector GBand 2
  /-- GRF_STATE (Table GN-9). -/
  grf : Nat
  /-- GN_ANT_STATE, GN_ANT_CURRENT, measurements below GN_ANT_OPEN_MA in a row, whether the bias switch is open, whether the
  state came through SHORT, and when the retry is due (R304). -/
  ant : Nat
  antCurrent : Nat
  antLow : Nat
  antOpen : Bool
  antShort : Bool
  antRetryAt : HalfNs
  jobs : List AcqJob
  /-- Signals in REACQ and since when (R321). -/
  reacq : List (Nat × Nat × HalfNs)
  waiting : List WaitSig
  chans : List Channel
  ephs : List Eph
  /-- Decodes that wait for a second one with identical content (R324). -/
  ephOnce : List Eph
  /-- Number of the published set (R325). -/
  setNo : Nat
  /-- Satellites used in the last solution: system and satellite number (R318). -/
  used : List (Nat × Nat)
  /-- Satellites used less unknowns in the last solution (R324). -/
  spare : Nat
  /-- GN_SYS_OFFSET (R327). -/
  sysOff : Vector (Int × Nat) 5
  /-- Survey: state, TB_MONO at its start, elapsed s, mean and SIGMA as an F32 (R332). -/
  survey : Nat
  surveyAt : HalfNs
  surveyS : Nat
  surveyMean : Pos
  /-- Solutions in the survey, and the sum of each coordinate in units of 2⁻¹⁰⁷⁴ m. -/
  surveyN : Nat
  surveySum : List Int
  /-- Post-fit residuals of the last 60 s: TB_MONO time, sum of squares in mm², number (R333). -/
  resids : List (HalfNs × Nat × Nat)
  /-- POS_MISMATCH, and that the host has written GN_FIXED_POS since (R333). -/
  mismatch : Bool
  fixedWritten : Bool
  /-- The last 600 solutions with RAIM_OK in mode 0, newest first, and their mean once there are 600 (R334); `okCount` is 600 while
  `okMean` stands. -/
  okPos : List (List Nat)
  okCount : Nat
  okMean : Pos
  /-- SEQ of the next epoch (R322, R337), and the TB_GNSS instant of the last one. -/
  seq : Nat
  epochAt : Option HalfNs
  measLast : Bytes
  navLast : Bytes
  startType : Nat
  startAt : HalfNs
  /-- GN_TTFF, none until the first fix. -/
  ttff : Option Nat
  /-- TB_MONO time at which the last acquisition job ended (R316). -/
  lastJobEnd : HalfNs
deriving DecidableEq, Repr

/-! ### Snapshot positioning -/

/-- One fragment as intake reads it (Table SN-1, R345, R348 to R350): sender, header fields, the sample bytes of its half, air
time-stamp, flags of Table PH-3 that spoil it, carrier offset in Hz and lane carrier in kHz. -/
structure SnFrag where
  flock : Nat
  ctrl : Nat
  capId : Nat
  slot : Nat
  offset : Nat
  age : Nat
  samples : Bytes
  stamp : HalfNs
  untimed : Bool
  cfo : Int
  khz : Nat
  heldAt : HalfNs
deriving DecidableEq, Repr

/-- A capture in the queue, in Nimbus or in NAV1. `capTime` is GPST in 0.5 ns, `uc` in 0.1 µs, `cond` POS_MISMATCH at the
assistance, `sats` the search set (signal index, satellite), `found` the detected ones; `halves` the sample bytes of each half,
`inverted` CTRL bit 6; `delta` δ of R350 in Hz as a fraction; `assist` per satellite the predicted Doppler in Hz and code phase in
0.001 chip; `half` W of R352 in chips; `startedAt` the TB_MONO time at which Nimbus took it. -/
structure SnJob where
  flock : Nat
  capId : Nat
  four : Bool
  short : Bool
  capTime : HalfNs
  uc : Nat
  ephSet : Nat
  cond : Bool
  sats : List (Nat × Nat)
  found : List (Nat × Nat)
  peaks : List Nat
  queuedAt : HalfNs
  jobHalf : HalfNs
  halves : List Bytes
  inverted : Bool
  delta : Int × Nat
  assist : List (Int × Nat)
  half : Nat
  startedAt : HalfNs
deriving DecidableEq, Repr

/-- Region NIMBUS. -/
structure SnapState where
  /-- The fragment store, oldest first (R354). -/
  frags : List SnFrag
  /-- The snapshot queue, head first (R355). -/
  queue : List SnJob
  /-- The job in Nimbus. -/
  running : Option SnJob
  /-- Jobs that wait for or are in NAV1, oldest first (R358). -/
  solving : List SnJob
  peak : Nat
  /-- TB_MONO times of FIX results of the last 10 s (SN_RATE). -/
  fixes : List HalfNs
  /-- Start of the running accounting interval, snapshot time used in it, and snapshot time in the last 100 intervals, newest
  first (R315, SN_NIMBUS_LOAD). -/
  since : HalfNs
  usedNow : HalfNs
  load : List HalfNs
deriving DecidableEq, Repr

end Sys2Proof.Machine
end

