-- ==== Sys2Proof/Machine/StateHost.lean ====
section
/-!
DEFINITION. State of the host, network and memory ports (15_host_and_network_ports.md). Plain data only.
-/

namespace Sys2Proof.Machine

/-- One ring (R498 to R511). `st`: 0 disabled, 1 running, 2 paused, 3 ERROR. `modCount` and `modSince` count the records
since the last message (R509). -/
structure Ring where
  st : Nat
  error : Nat
  prod : Nat
  cons : Nat
  modCount : Nat
  modSince : Option HalfNs
deriving DecidableEq, Repr

/-- Region HOST. -/
structure HostState where
  ring : Vector Ring 6
  /-- Buffers fetched from ring 2 and not used yet, in ring order (R502, R504). -/
  bufs : List Nat
  /-- Records waiting in the staging area, oldest first, with their ring (R504). -/
  staging : List (Nat × RingRec)
  /-- Completions held while ring 1 is disabled, oldest first (R511). -/
  held : List RingRec
  /-- Bus mastering is enabled in the command register (R499, R512). -/
  busMaster : Bool
  /-- IRQ_STATUS and IRQ_ENABLE (R495). -/
  irqStatus : Nat
  irqEnable : Nat
  /-- BAR0 registers that hold a value of their own: offset and value, rising offsets, none zero (R493). -/
  bar0 : List (Nat × Nat)
  /-- The request and the response area of the mailbox in BAR2 (R77). -/
  mbxReq : Bytes
  mbxResp : Bytes
  /-- The BAR0 time capture: SEQ, the counter, then per time base its reading as a TS96 number, TB_FLAGS and TB_STATE
  (R496, Table HP-3); empty before the first capture. -/
  capture : List Nat
  /-- HOST_LINK: rate 1 to 3, width, ASPM L1 enabled; all 0 until the link has trained (R492). -/
  link : Nat × Nat × Bool
deriving DecidableEq, Repr

/-- One Ethernet port (R513 to R515). -/
structure EthPort where
  up : Bool
  speed : Nat
  /-- Measured PCS latency, ingress and egress (R373). -/
  latIn : Nat
  latOut : Nat
  measured : Bool
deriving DecidableEq, Repr

/-- Regions NET and MEM. -/
structure PortState where
  eth : Vector EthPort 2
  ddr : Nat
  ddrSize : Nat
  ddrRanks : Nat
  flashSt : Nat
  flashSize : Nat
  jedec : Nat
deriving DecidableEq, Repr

end Sys2Proof.Machine
end

