-- ==== Sys2Proof/Machine/StateMesh.lean ====
section
/-!
DEFINITION. State of the radio paths (04_radio_front_end.md), of Drover with its links, transactions and duty accounts
(05_mesh_phy_and_frames.md, 06_superframe_and_timing.md, 07_links_and_budgets.md) and of the Flock
(08_flock_routing_chorus.md). Plain data only. Times are TB_AIR or TB_MONO times in units of 0.5 ns; carriers are in
kHz.
-/

namespace Sys2Proof.Machine

/-! ### Radio paths -/

/-- Whose transmission a transmit command is: a beacon (R196), the attempt of a transaction (R242; `stage` 0 alert or
single frame, 1 the command that follows an alert), a reply of the concentrator to a node (R192), or another one. -/
inductive TxOwner where
  | beacon
  | txn (id : Nat) (stage : Nat)
  | reply (flock : Nat)
  | other (tag : Nat)
deriving DecidableEq, Repr

/-- A transmit command (R125). `psdu` is the PSDU length in octets, `preamble` P of R162. `reserved` is the duty charge
booked for it in ms (R249), on sub-band account `account`;
`frame` is the frame itself, `reply` whether it is a reply (R192). -/
structure TxCmd where
  handle : Nat
  start : HalfNs
  carrier : Nat
  mode : Nat
  psdu : Nat
  fec : Bool
  preamble : Nat
  pwr : Nat
  lateOk : Bool
  retune : Bool
  owner : TxOwner
  reserved : Nat
  account : Nat
  frame : TxContent
  reply : Bool
deriving DecidableEq, Repr

/-- The transmission that is being set up or is on air: its command, its actual start, the power-table entry used; whether its deadline
has been decided (R134). -/
structure Running where
  cmd : TxCmd
  start : HalfNs
  entry : Nat
  onAir : Bool
  judged : Bool
deriving DecidableEq, Repr

/-- A calibration under way (R144): the items still to do, the first one in progress; whether it is the start-up calibration; whether a
temperature change called for it (R147); whether the item has already failed once (R145); the state to which the step that runs
returns; steps made of the item. Between two steps it stays here while the path is in another state than CAL. -/
structure CalRun where
  items : List Nat
  startUp : Bool
  auto : Bool
  retried : Bool
  former : Nat
  steps : Nat
deriving DecidableEq, Repr

/-- What an item of Table RF-7 sets: its value, for item 8 the transmit delay and beside it the receive delay of each mode in the order
of Table PH-1, in 0.5 ns (R139, R145, R174). -/
structure CalValue where
  val : Nat
  rx : List Nat
deriving DecidableEq, Repr

/-- One mesh path (R126 to R148). `st` is RF_STATE, Table RF-2. -/
structure Path where
  st : Nat
  /-- The slice centre the synthesiser is set for, kHz. -/
  centre : Nat
  rxEnabled : Bool
  /-- Commands that wait for the path to leave its state (Table RF-4). -/
  waitRxOn : Bool
  waitRxOff : Bool
  waitTune : Option Nat
  waitCal : List Nat
  /-- Pending transmit commands in the order of S, at most four (R131). -/
  queue : List TxCmd
  /-- The earliest command has become due (R132), and its deadline has been decided (R134). -/
  due : Bool
  judged : Bool
  /-- The earliest command has LATE_OK, missed its deadline at the instant `lateAt` of TB_AIR and waits for the path to be ready
  (R134). -/
  late : Bool
  lateAt : HalfNs
  running : Option Running
  /-- Lock attempt, 1 or 2, and the instant of TB_AIR at which it began (R138); the carrier being locked when it is a RETUNE carrier
  (R124). -/
  lockTry : Nat
  lockAt : HalfNs
  lockCarrier : Option Nat
  /-- E of the last transmission (R135); none before the first. -/
  lastEnd : Option HalfNs
  /-- When the path began to return to reception (R139). -/
  turnAt : HalfNs
  /-- When the path last achieved lock. -/
  lockedAt : HalfNs
  cal : Option CalRun
  /-- Items queued or stored for calibration on request (R128, R130), and for a temperature change (R147). -/
  calQueue : List Nat
  tempQueue : List Nat
  /-- The calibration values in use, item by item (R128, R145, R148). -/
  values : Vector CalValue 9
  /-- Start-up calibration has completed since the domain turned on from off (R102). -/
  calibrated : Bool
  /-- Consecutive preemptions per item (R148). -/
  preempts : Vector Nat 9
  inhibit : Bool
  /-- RF_FE_POLARITY in effect (R140). -/
  polarity : Nat
  /-- The gain that the slice AGC has set, in dB, one for all lanes (R154). -/
  rxGain : Nat
  /-- Since when the path cannot hear: off, transmitting or calibrating (R202). -/
  deafAt : HalfNs
deriving DecidableEq, Repr

/-- A transmit command that has ended: its path, its status (Table RF-5), and the interval [start, end) on air, empty
when no RF was emitted (R133, R156). Drover settles it within the same step. -/
structure Ended where
  path : Fin 6
  cmd : TxCmd
  status : Nat
  start : HalfNs
  stop : HalfNs
deriving DecidableEq, Repr

/-- The radio region: its paths and what they share (R153, Table RF-12). -/
structure RfState where
  path : Vector Path 6
  /-- Handle of the next transmit command. -/
  nextHandle : Nat
  thermalSteps : Nat
  dieTemp : Int
  /-- Transmit commands that have ended and that Drover has not settled yet. -/
  ended : List Ended
deriving DecidableEq, Repr

/-! ### Drover -/

/-- One bucket of a duty account: its TB_MONO minute, general and beacon charges in ms (R248). -/
structure Bucket where
  minute : Nat
  general : Nat
  beacon : Nat
deriving DecidableEq, Repr

/-- A duty account (R247 to R250): its buckets, newest first, the charges booked but not ended, and whether its last
decision was a refusal (R253). -/
structure Account where
  buckets : List Bucket
  reserved : Nat
  exhausted : Bool
deriving DecidableEq, Repr

/-- Dwell charges of one plan channel in one bucket of DWELL_WINDOW / 20 s (R251). -/
structure Dwell where
  channel : Nat
  bucket : Nat
  ms : Nat
deriving DecidableEq, Repr

/-- The accounts of one band: element 0 the band account, 1 + n sub-band account n (R256). -/
structure DutyBand where
  acct : Vector Account 9
  dwell : List Dwell
deriving DecidableEq, Repr

/-- A path's pending channel-map update (R227, R228). -/
structure ChUpdate where
  map : Nat
  c0 : Nat
  applyAsn : Nat
  inForce : Bool
deriving DecidableEq, Repr

/-- What Drover keeps per path: consecutive beacon failures (R201), the map in force and its first channel (R226), the
pending update, the retired lanes (R173), the RESYNC round-robin position (R217), and for each lane that has received a frame the end of
its SFD and its last symbol (R171). -/
structure PathMesh where
  fails : Nat
  map : Nat
  c0 : Nat
  update : Option ChUpdate
  retired : Nat
  turn : Nat
  lanes : List (Nat × HalfNs × HalfNs)
deriving DecidableEq, Repr

/-- Tracking of one neighbour (R202 to R204, MESH_NBR_STATE); `lastHeard` is a TB_AIR TS96. -/
structure Nbr where
  st : Nat
  misses : Nat
  lastHeard : Nat
  heard : Nat
  missed : Nat
deriving DecidableEq, Repr

/-- A replay state that is not a Flock record's own: source (a tag) and key index (R235). -/
structure Replay where
  src : Nat
  key : Nat
  top : Nat
  seen : Nat
deriving DecidableEq, Repr

/-- A retry window that Drover opens for a link (R241): the superframe and how many remain after it. -/
structure RetryWin where
  flock : Nat
  asn : Nat
  left : Nat
deriving DecidableEq, Repr

/-- What a transaction carries (R242). -/
inductive TxnKind where
  | hostData | alert | assocResp (f : AirOut) | disassoc (reason : Nat) | enrol (campaign : Nat) | block (campaign : Nat) | chorus
deriving DecidableEq, Repr

/-- The states of Table LK-3; DONE frees the entry. -/
inductive TxnState where
  | queued | booked | onAir | awaitReply
deriving DecidableEq, Repr

/-- One entry of the transaction table (R242 to R246). `start` is the booked S, `handle` the transmit command, `ms` the
reserved charge, `refusal` the last refusal met; the node's tag, mode and channel offset are latched (R279). -/
structure Txn where
  id : Nat
  kind : TxnKind
  st : TxnState
  flock : Nat
  path : Fin 6
  start : HalfNs
  channel : Nat
  handle : Nat
  ms : Nat
  account : Nat
  attempts : Nat
  deadline : HalfNs
  refusal : Nat
  stage : Nat
  respond : Bool
  gap : Nat
  data : Bytes
  req : Option Nat
  nodeTag : Nat
  mode : Nat
  chOffset : Nat
  counter : Nat
  host : Bool
deriving DecidableEq, Repr

/-- A received frame that passed every check of R185 and awaits Drover (the fields Drover reads). `payload` is the
payload type, or for a command frame the command ID; `data` what follows it. -/
structure RxFrame where
  path : Fin 6
  lane : Nat
  channel : Nat
  mode : Nat
  stamp : HalfNs
  untimed : Bool
  sfdEnd : HalfNs
  last : HalfNs
  /-- It was caught in a scheduled window, of its source's link or of the relay that forwards it (R190, R270). -/
  sched : Bool
  frameType : Nat
  src : Nat
  dest : Nat
  eui : Nat
  key : Nat
  counter : Nat
  ar : Bool
  dup : Bool
  record : Nat
  temp : Int
  supply : Nat
  missed : Nat
  blockAck : Option (Nat × Nat × Nat)
  via : Option Nat
  ackOf : Option Nat
  payload : Nat
  data : Bytes
  cfo : Int
  /-- UNREFERENCED: TB_AIR was not traceable at the reception (Table PH-3). -/
  unref : Bool
  recordBytes : Bytes
  /-- The ASN of the slot in which the frame was scheduled, else of the slot of its stamp (R189). -/
  asn : Nat
deriving DecidableEq, Repr

/-- Drover and the links (region MESH). -/
structure MeshState where
  per : Vector PathMesh 6
  band : Vector DutyBand 2
  /-- The one beacon frame counter of the member (R197). -/
  beaconCtr : Nat
  /-- The superframe whose edge was last worked on, not reduced modulo 2⁴⁰. -/
  edgeAsn : Nat
  nbr : Vector Nbr 16
  replay : List Replay
  retry : List RetryWin
  /-- Search windows that a beacon has announced: Flock number and superframe (R217). -/
  search : List (Nat × Nat)
  /-- The transaction table, in the order of entry (R242). -/
  txns : List Txn
  /-- The transmit commands of BOOKED attempts, with their path, until they are handed to it 220 µs before S (Table LK-3). -/
  booked : List (Fin 6 × TxCmd)
  /-- Frames accepted under R185 that Drover has not consumed yet, oldest first. -/
  accepted : List RxFrame
  /-- Windows opened in the running epoch, in the classes of MESH_GUARD_HIST. -/
  guardNow : Vector Nat 8
  guardEpoch : Nat
  /-- Outbound counters that are no Flock record's: (neighbour, key index) to value (R233). -/
  ctrOut : List (Nat × Nat × Nat)
  /-- LINK_CTR_HIGH has been raised for chorus (R283). -/
  chorusHigh : Bool
  /-- Beacon preemptions of each link's windows (R213): Flock number and count, rising. -/
  preempted : List (Nat × Nat)
deriving DecidableEq, Repr

/-! ### Flock -/

/-- Bytes 0 to 23 of a record, owned by the control plane (Table FL-1). `groups` are four 16-bit values. -/
structure FlockCfg where
  eui : Nat
  cls : Nat
  flags : Nat
  param : Nat
  keyEpoch : Nat
  groups : Vector Nat 4
deriving DecidableEq, Repr

/-- Link fields of a record (Table FL-1). -/
structure FlockLink where
  st : Nat
  gen : Nat
  mode : Nat
  path : Nat
  caps : Nat
  chOffset : Nat
  slot : Nat
  period : Nat
  firstAsn : Nat
  onPending : Bool
  confirmed : Bool
  relayed : Bool
  fwVersion : Nat
  /-- A class A link's switch to the pending map: the superframe of the event last named to it, and the values named (R228, R229). -/
  switchAt : Option Nat
  named : List Nat
  /-- A DISASSOC with this reason waits for a transaction entry (R232). -/
  leave : Option Nat
deriving DecidableEq, Repr

/-- Contact and drift fields of a record (R208 to R215). `b` is in 0.01 ppm, `lastContact` a TS96, 0 while the link has had no contact;
`since` the instant from which elapsed time counts: the last contact, before the first one the association (R211). -/
structure FlockDrift where
  b : Nat
  tb : Int
  lastTemp : Int
  lastSupply : Nat
  lastMissed : Nat
  lastContact : Nat
  lastE : Int
  pendC : Int
  slewRef : Int
  misses : Nat
  since : HalfNs
deriving DecidableEq, Repr

/-- Counters and replay state of a record (R233 to R235). -/
structure FlockCtr where
  own : Nat
  district : Nat
  top : Nat
  seen : Nat
  valid : Bool
deriving DecidableEq, Repr

/-- Route, ETX, campaign and statistics of a record (R269, R270, R293). `ratio` is p of R270 in 2⁻¹⁶; `heardAt` when a relay's beacon was
last heard (R202). -/
structure FlockRoute where
  ratio : Nat
  etx : Nat
  nextHop : Nat
  prevHop : Nat
  prevTime : Nat
  campaign : Nat
  nbrState : Nat
  uplinks : Nat
  downlinks : Nat
  lastUplink : Nat
  heardAt : HalfNs
deriving DecidableEq, Repr

/-- A Flock record (R257). `fresh` marks a restored or reloaded record whose outbound counters still need
LINK_CTR_MARGIN (R234); `superv` is the TB_AIR time at which supervision was last restarted (R230, R268). -/
structure FlockRec where
  cfg : FlockCfg
  link : FlockLink
  drift : FlockDrift
  ctr : FlockCtr
  route : FlockRoute
  dirty : Bool
  superv : HalfNs
deriving DecidableEq, Repr

/-- The chorus request record of Table FL-5. -/
structure ChorusReq where
  tag : Nat
  eui : Nat
  keyEpoch : Nat
  members : Nat
  mode : Nat
  chOffset : Nat
  sniff : Nat
  map : Nat
  c0 : Nat
  firstAsn : Nat
  attempts : Nat
deriving DecidableEq, Repr

/-- A delivery request that is HELD or IN_TXN (Table FL-2, Table FL-3). `txn` is its transaction once it has one;
`made` counts chorus attempts considered and `sent` those sent, `skip` the last skip reason. -/
structure DelReq where
  id : Nat
  tag : Nat
  flock : Nat
  priority : Nat
  flags : Nat
  gap : Nat
  deadline : HalfNs
  data : Bytes
  buf : Nat
  chorus : Option ChorusReq
  txn : Option Nat
  made : Nat
  sent : Nat
  skip : Nat
  lastStatus : Nat
  /-- The campaign whose enrolment this request is (R291). -/
  enrol : Option Nat
deriving DecidableEq, Repr

/-- A node-image slot (R287): 0 empty, 1 staging, 2 VALID, 3 INVALID. -/
structure Image where
  st : Nat
  reason : Nat
  len : Nat
  content : Bytes
deriving DecidableEq, Repr

/-- One member of a running campaign: the blocks it holds, and 1 enrolled, 2 complete, 3 failed (R293). -/
structure Member where
  flock : Nat
  held : Nat
  st : Nat
deriving DecidableEq, Repr

/-- A campaign (R289 to R294): FL_CAMPAIGN_STATE and what runs behind it. -/
structure Campaign where
  st : Nat
  reason : Nat
  round : Nat
  sent : Nat
  members : List Member
  counter : Nat
  /-- First multicast ASN (R291). -/
  firstAsn : Nat
  /-- The next block of the running round. -/
  next : Nat
  blocks : Nat
  cfg : List Int
deriving DecidableEq, Repr

/-- Region FLOCK. -/
structure FlockState where
  /-- Non-empty records by rising Flock number. -/
  recs : List (Nat × FlockRec)
  /-- Flock numbers in the cache, most recently used first (R261). -/
  cache : List Nat
  /-- Flock numbers whose fetch from LPDDR4X is under way (R264). -/
  fetching : List Nat
  /-- Flock numbers of records marked BAD by an uncorrectable memory error (R517). -/
  bad : List Nat
  /-- Delivery requests HELD or IN_TXN, in the order of arrival (R275). -/
  reqs : List DelReq
  nextReq : Nat
  image : Vector Image 8
  /-- The slot that FL_IMAGE_BEGIN last named (R287). -/
  imageSlot : Nat
  camp : Vector Campaign 4
deriving DecidableEq, Repr

end Sys2Proof.Machine
end

