-- ==== Sys2Proof/Machine/StatePwr.lean ====
section
/-!
DEFINITION. State of the power domains (13_power_domains.md). Plain data only.
-/

namespace Sys2Proof.Machine

/-- One domain (Table PW-1, Table PW-7). The target is the running configuration's PW_TARGET. -/
structure Domain where
  /-- PW_STATE: 0 off, 1 retention, 2 on, 3 entering, 4 exiting, 5 FAULT. -/
  st : Nat
  /-- PW_STEP. -/
  step : Nat
  /-- A target written during a transition (R437). -/
  held : Option Nat
  /-- A wake event has arrived during the running entry (R441, R442). -/
  wake : Bool
  /-- The state in which the running entry ends, or from which the running exit began. -/
  other : Nat
  /-- The state in which the running entry began: 2 on, 1 retention, 5 FAULT (R431, R445). -/
  came : Nat
  /-- The save area's directory entry: VALID and its tick (R447). -/
  valid : Bool
  tick : Nat
  /-- The former target of a raise that waits for its providers (R434). -/
  former : Option Nat
  /-- An entry has been aborted after isolation: the domain's settings are loaded, then the isolation is released (R441, R443). -/
  release : Bool
deriving DecidableEq, Repr

/-- Region PWR. -/
structure PwrState where
  dom : Vector Domain 18
  /-- Domains that wait for their save step and for their switch step, in the order in which they reached it (R444). -/
  saveQ : List Nat
  switchQ : List Nat
  /-- The domains whose save step and whose switch step run (R444). -/
  saving : Option Nat
  switching : Option Nat
deriving DecidableEq, Repr

end Sys2Proof.Machine
end

