-- ==== Sys2Proof/Machine/StateSec.lean ====
section
/-!
DEFINITION. State of the security region and of the tamper and presence monitors (14_security.md). Plain data only.
-/

namespace Sys2Proof.Machine

/-- One key slot: 0 empty, 1 loaded, 2 derived; its key and generation (R468, R469). -/
structure Slot where
  st : Nat
  gen : Nat
  key : Nat
deriving DecidableEq, Repr

/-- A derived key of the cache, or one under derivation: root slot, the slot's generation when the operation began, label and
context (R467, R470). -/
structure DerivedKey where
  root : Nat
  gen : Nat
  label : Nat
  ctx : List Nat
deriving DecidableEq, Repr

/-- Region SEC, with the tamper and presence monitors. -/
structure SecState where
  slot : Vector Slot 64
  /-- The derived-key cache, most recently used first, and its statistics (R467). -/
  cache : List DerivedKey
  hits : Nat
  misses : Nat
  evictions : Nat
  /-- Derivations in progress, oldest first (R466). -/
  deriving_ : List DerivedKey
  /-- SEC_ENTROPY_STATE, and the TB_MONO time of the last reseeding (R462). -/
  entropyFail : Bool
  reseedAt : HalfNs
  /-- The seal register; 0 when clear (R475). -/
  sealValue : Nat
  /-- The root store in flash: bytes 0 to 179 of its two copies, empty when erased (R474, Table SE-5). -/
  store : Vector Bytes 2
  /-- A write of the store in progress: the copy, its new content, the action objects that wait for it (R473). -/
  writing : Option (Fin 2 × Bytes × List Nat)
  /-- Action objects that wait for the next write of the store. -/
  waiting : List Nat
  /-- Both copies are to be erased at the next SEC start (Table SE-7). -/
  erasePending : Bool
  /-- The pending district switch (R479). -/
  switchAsn : Option Nat
  /-- Alarm sources active (R480), and mismatching and matching seal-loop bits in a row. -/
  active : Nat
  mismatches : Nat
  matches_ : Nat
  /-- A seal-loop alarm that a MAINTENANCE window suspends (R490). -/
  sealHeld : Bool
  /-- SEC_TAMPER_LATCH and SEC_ZEROISATIONS, kept in AON, and SEC_LAST_TAMPER. -/
  latch : Nat
  zeroisations : Nat
  lastSource : Nat
  lastTick : Nat
  /-- The open presence window: its class, 0 none, and the TB_MONO time since which its 120 s run (R488, R489). -/
  presClass : Nat
  presAt : HalfNs
  presOpened : HalfNs
  /-- PRES_BTN_N has been low for 30 s and is not released (R487). -/
  stuck : Bool
  /-- The nonce of the running attestation, and SEC_ATTEST_REPORT (R485). -/
  attest : Option Nat
  report : Bytes
  /-- SEC_NEXT_KEY_WRAP_OUT and FLOCK_KEY_WRAP_OUT. -/
  nextWrap : Nat × Nat
  flockWrap : Nat × Nat × Nat
deriving DecidableEq, Repr

end Sys2Proof.Machine
end

