-- ==== Sys2Proof/Machine/StateUart.lean ====
section
/-!
DEFINITION. State of the asynchronous serial ports (16_uarts.md) and of the test access port (18_signals_and_balls.md R573).
Plain data only.
-/

namespace Sys2Proof.Machine

/-- One UART (Table UA-5). -/
structure Uart where
  /-- The receive FIFO, oldest first: entries of Table UA-4. -/
  rx : List Nat
  /-- The transmit FIFO, oldest first, and the character that is being sent (R536). -/
  tx : List Nat
  sending : Option Nat
  /-- LINE of UART_STATUS: 0 idle, 1 receiving, 2 BREAK, 3 STUCK. -/
  line : Nat
  /-- UART_STUCK has been raised and UART_LINE_OK not yet (R532). -/
  stuck : Bool
  /-- A character has been lost since the last one that entered the FIFO (R531). -/
  lost : Bool
  /-- UART_OVERRUN and UART_RX_READY have been raised since the last read of UART_RX_DATA (R531, R533). -/
  overrun : Bool
  ready : Bool
  /-- DE is or will be asserted, from a TB_MONO time on; its tail runs (R537). -/
  de : Bool
  deAt : HalfNs
  tail : Bool
  /-- RTS_N is asserted (low); CTS_N is low (R538). -/
  rts : Bool
  cts : Bool
  /-- RX has been high for one character time since the UART was enabled and since the last break or STUCK state (R541). -/
  high : Bool
  /-- TB_MONO at the end of the last character received, 0 before the first (R82). -/
  rxEnd : HalfNs
deriving DecidableEq, Repr

/-- Region UART, with the slow-clock receiver of UART0 in the AON region. -/
structure UartState where
  port : Vector Uart 4
  /-- The AON copies of UART_SLOW_RX, UART_BAUD, UART_FRAME (DATA, PARITY, STOP) and LOREF_RS485_ADDRESS (R540). -/
  slowRx : Bool
  slowBaud : Nat
  slowFrame : Nat × Nat × Nat
  slowAddr : Nat
  /-- The wake buffer, oldest first: receive entries, each with its gap check (R542); it stores while `woken`. -/
  wake : List (Nat × Bool)
  woken : Bool
deriving DecidableEq, Repr

/-- The test access port (R573): the instruction in effect, 0 BYPASS, 1 IDCODE, 2 SAMPLE/PRELOAD, 3 EXTEST, and the content of
the boundary-scan cells. -/
structure TapState where
  instruction : Nat
  cells : Nat
deriving DecidableEq, Repr

end Sys2Proof.Machine
end

