-- ==== Sys2Proof/Machine/State.lean ====
section
/-!
DEFINITION. The state of the block, its reset, and the reasons for which a step can stop.
-/

namespace Sys2Proof.Machine

/-- Values by object index: strictly rising indices, no entry equal to the object's default. -/
abbrev Store := List (Nat × Val)

/-- Why a step can stop with a fault. -/
inductive Fault where
  /-- No command of this model raises it: every command whose effect the spec gives has a next state. Safe. -/
  | none
deriving DecidableEq, Repr

/-- Why a step can be refused. -/
inductive Refusal where
  /-- Raised by an arm of `exec` that has no meaning yet; safe, since nothing is claimed of the command then. -/
  | notModelled (mnemonic : String)
deriving DecidableEq, Repr

/-- What a step answers. -/
abbrev Answer (σ : Type) := Host.Outcome σ Fault Refusal

/-- The state of the block. -/
structure State where
  /-- Commands that wait, first in, first out. -/
  pending : List Instr
  /-- What the block has sent out, newest first; the model's own record, which no rule reads. -/
  outbox : List Out
  /-- How many free values have been drawn; the model's own counter (log entry 1). -/
  free : Nat
  /-- The running configuration (R47), and what the action objects without an R46 status accepted last (R593): the objects whose
  value is not their default. -/
  cfg : Store
  /-- Counters and status values that the block reports (R556). -/
  ro : Store
  /-- Revisions that are not 0, by index (R43). -/
  rev : List (Nat × Nat)
  /-- R46 statuses of action objects that are not 0, by index. -/
  act : List (Nat × Nat)
  start : StartState
  fw : FwState
  /-- The eight engines of Table AC-6. -/
  eng : Vector Engine 8
  /-- The arbiters of the regions, by region code − 1 (R10 to R12). -/
  arb : Vector Arbiter 15
  isl : IslState
  lop : LopState
  flt : FltState
  rf : RfState
  mesh : MeshState
  flock : FlockState
  host : HostState
  port : PortState
  time : TimeState
  aon : AonState
  pwr : PwrState
  sec : SecState
  gnss : GnssState
  snap : SnapState
  uart : UartState
  tap : TapState
deriving DecidableEq, Repr

/-! ### Reset values -/

/-- An arbiter at which nothing waits. -/
def Arbiter.reset : Arbiter := ⟨[], Vector.replicate 5 0⟩

/-- A stopped engine. -/
def Engine.reset : Engine := ⟨0, 0, 0, []⟩

/-- No write in flight, no fence, no response that waits. -/
def IslState.reset : IslState := ⟨[], [], [], [], 1⟩

/-- No session. -/
def LopState.reset : LopState := ⟨[], [], false, #v[none, none]⟩

/-- An empty log; flash holds no archive and no record (log entry 5). -/
def FltState.reset : FltState :=
  { log := [], nextSeq := 0, windows := [], archPending := [], archSince := 0, archive := [], records := [], recFlash := []
    recPending := [], recSeq := 0, recCount := 0, aonCopy := none, held := [], released := [], refused := [], containing := []
    retired := [], supFailedAt := none }

/-- A mesh path that is off. -/
def Path.reset (centre : Nat) : Path :=
  { st := 0, centre := centre, rxEnabled := false, waitRxOn := false, waitRxOff := false, waitTune := none, waitCal := []
    queue := [], due := false, judged := false, late := false, lateAt := 0, running := none, lockTry := 0, lockAt := 0
    lockCarrier := none, lastEnd := none, turnAt := 0, lockedAt := 0, cal := none, calQueue := [], tempQueue := []
    values := Vector.replicate 9 ⟨0, []⟩, calibrated := false, preempts := Vector.replicate 9 0, inhibit := false, polarity := 0
    rxGain := 0, deafAt := 0 }

def RfState.reset : RfState :=
  { path := #v[Path.reset 868000, Path.reset 868000, Path.reset 868000, Path.reset 868000, Path.reset 2442500, Path.reset 2442500]
    nextHandle := 0, thermalSteps := 0, dieTemp := 0, ended := [] }

def Account.reset : Account := ⟨[], 0, false⟩
def DutyBand.reset : DutyBand := ⟨Vector.replicate 9 Account.reset, []⟩
def PathMesh.reset : PathMesh := ⟨0, 0, 0, none, 0, 0, []⟩

def MeshState.reset : MeshState :=
  { per := Vector.replicate 6 PathMesh.reset, band := Vector.replicate 2 DutyBand.reset, beaconCtr := 0, edgeAsn := 0
    nbr := Vector.replicate 16 ⟨0, 0, 0, 0, 0⟩, replay := [], retry := [], search := [], txns := [], booked := [], accepted := []
    guardNow := Vector.replicate 8 0, guardEpoch := 0, ctrOut := [], chorusHigh := false, preempted := [] }

def Campaign.reset : Campaign := ⟨0, 0, 0, 0, [], 0, 0, 0, 0, []⟩

/-- An empty Flock table and empty image slots. -/
def FlockState.reset : FlockState :=
  { recs := [], cache := [], fetching := [], bad := [], reqs := [], nextReq := 0, image := Vector.replicate 8 ⟨0, 0, 0, []⟩
    imageSlot := 0, camp := Vector.replicate 4 Campaign.reset }

def HostState.reset : HostState :=
  { ring := Vector.replicate 6 ⟨0, 0, 0, 0, 0, none⟩, bufs := [], staging := [], held := [], busMaster := false, irqStatus := 0
    irqEnable := 0, bar0 := [], mbxReq := [], mbxResp := [], capture := [], link := (0, 0, false) }

/-- Ports without a link; external memory and flash not yet in service. -/
def PortState.reset : PortState :=
  { eth := Vector.replicate 2 ⟨false, 0, 0, 0, false⟩, ddr := 0, ddrSize := 0, ddrRanks := 0, flashSt := 0, flashSize := 0
    jedec := 0 }

/-- A time base that is not established; TB_MONO is FREE (Table TM-6). -/
def Base.reset (st : Nat) : Base := ⟨0, st, 0xFFFFFFFF, 0, 0, 0, 0, 0, 0⟩
def Src.reset : Src := ⟨0, 0, 0, false, false, 0, 0, 0, false, false, 0, 0⟩
def Ptp.reset : Ptp := ⟨0, none, 0, 0, [], 0, none, none, 0, 0, 0, [], 0, 0⟩
def Pulse.reset : Pulse := ⟨none, none, false, 0, 0, 0⟩

/-- The TIME region: before the switch to the PLLs only TB_MONO counts (R365). -/
def TimeState.reset : TimeState :=
  { base := #v[Base.reset 0, Base.reset 0, Base.reset 0, Base.reset 0, Base.reset 5], counting := false, monoSave := none
    src := Vector.replicate 4 Src.reset, selected := 0, established := false, hoErr := 0, hoAt := 0, heldStep := none
    stepDue := none, steppedEnd := none, leap := 0, lastTick := 0, ptp := Vector.replicate 2 Ptp.reset
    pulse := Vector.replicate 2 Pulse.reset, epochs := [], cv := [], history := [], slews := [] }

def HotStart.reset : HotStart :=
  { alm := 0, almAt := none, ephs := [], ephs2 := [], refSource := 0, ref := ⟨0, 0, 0, 0⟩, pos3d := false, model := [], msgs := 0
    glo := [] }

/-- The AON region after an AON power-on: the tick counter restarts from 0, the calendar reads 1 January of year 0, TIME_DOUBTFUL is
set, the region runs on the internal RC until the crystal has started (R404, R405, R410, R412, Table AO-2). -/
def AonState.reset : AonState :=
  { tick := 0, part := 0, stopped := false, pres := 0, trim := 0, cal := ⟨0, 0, 0, 0, 1, 1, 0⟩, pending := 0, catchUp := false
    overrun := false, alarm := 0, status := 0, setTime := 0, setDate := 0, alarmTime := 0, alarmDate := 0, shadow := none
    doubtful := true, slowRc := true, starting := true, failed := false, supply := 0, holdup := false, vbat := 0, vbatRuns := 0
    vbatArmed := true, queue := [], anchor := ⟨0, 0, 0, 0⟩, airOffset := 0, airSlew := 0, source := 0
    bank := Vector.replicate 4 ⟨0, 0, 0, false⟩, syncForce := false, syncAt := 0, savedAt := 0, hot := HotStart.reset }

/-- A domain in a state, idle. -/
def Domain.reset (st : Nat) : Domain := ⟨st, 0, none, false, 0, 2, false, 0, none, false⟩

/-- AON, SYS, SEC, MEM and HOST are on, every other domain is off (Table PW-7). -/
def PwrState.reset : PwrState :=
  { dom := #v[Domain.reset 2, Domain.reset 2, Domain.reset 2, Domain.reset 2, Domain.reset 2, Domain.reset 0, Domain.reset 0,
      Domain.reset 0, Domain.reset 0, Domain.reset 0, Domain.reset 0, Domain.reset 0, Domain.reset 0, Domain.reset 0,
      Domain.reset 0, Domain.reset 0, Domain.reset 0, Domain.reset 0]
    saveQ := [], switchQ := [], saving := none, switching := none }

/-- No key, no seal value, an empty root store (log entry 5). -/
def SecState.reset : SecState :=
  { slot := Vector.replicate 64 ⟨0, 0, 0⟩, cache := [], hits := 0, misses := 0, evictions := 0, deriving_ := []
    entropyFail := false, reseedAt := 0, sealValue := 0, store := #v[[], []], writing := none, waiting := []
    erasePending := false, switchAsn := none, active := 0, mismatches := 0, matches_ := 0, sealHeld := false, latch := 0
    zeroisations := 0, lastSource := 0, lastTick := 0, presClass := 0, presAt := 0, presOpened := 0, stuck := false
    attest := none, report := [], nextWrap := (0, 0), flockWrap := (0, 0, 0) }

def GBand.reset : GBand :=
  { gain := 0, jamInd := 0, jn := -200, high := 0, low := 0, jammed := false, cell := Vector.replicate 4 ⟨false, 0, 0, 0, 0⟩
    spectrum := [], ratio := 0, suspended := false, cal := Vector.replicate 4 0, item := 0, itemAt := 0
    retried := false, fault := false, delay := 0, hold := 0 }

def GnssState.reset : GnssState :=
  { band := Vector.replicate 2 GBand.reset, grf := 0, ant := 0, antCurrent := 0, antLow := 0, antOpen := false, antShort := false
    antRetryAt := 0, jobs := [], reacq := [], waiting := [], chans := [], ephs := [], ephOnce := [], setNo := 0, used := []
    spare := 0, sysOff := Vector.replicate 5 (0, 0), survey := 0, surveyAt := 0, surveyS := 0, surveyMean := ⟨0, 0, 0, 0⟩
    surveyN := 0, surveySum := [], resids := [], mismatch := false, fixedWritten := false, okPos := [], okCount := 0
    okMean := ⟨0, 0, 0, 0⟩, seq := 0, epochAt := none, measLast := [], navLast := []
    startType := 0, startAt := 0, ttff := none, lastJobEnd := 0 }

def SnapState.reset : SnapState := ⟨[], [], none, [], 0, [], 0, 0, []⟩

/-- A UART at rest: DE low, RTS_N deasserted (R537, R538). -/
def Uart.reset : Uart := ⟨[], [], none, 0, false, false, false, false, false, 0, false, false, false, false, 0⟩

def UartState.reset : UartState := ⟨Vector.replicate 4 Uart.reset, false, 115200, (8, 0, 1), 1, [], false⟩

/-- The OTP of a part of which the spec says nothing: no key digest, no root, no lock record; every check holds (log entry 5). -/
def Otp.reset : Otp :=
  { digest := #v[0, 0], revoked := #v[0, 0], digestOk := #v[true, true], steps := List.replicate 96 0, deviceRoot := 0, deviceRootOk := true
    identitySeed := 0, identityOk := true, eui := 0, mac := 0, lock := #v[[], []]
    cal := Vector.replicate 6 (Vector.replicate 9 (some (0, []))), grf := Vector.replicate 2 (Vector.replicate 4 (some 0))
    gref := #v[0, 0], gloBias := Vector.replicate 14 0 }

/-- Flash without a directory, a bundle or a profile (log entry 5). -/
def FwState.reset : FwState :=
  { dir := #v[[], []], ramDir := none, slot := #v[[], []], reason := #v[0, 0], otp := Otp.reset, profile := Vector.replicate 4 #v[[], []], stage := []
    stageLen := 0, verifyReason := 0, trialEnd := none, ops := [], jedecOk := true }

/-- Held in reset by the AON power-on and the core power-on (R92, R94). -/
def StartState.reset : StartState :=
  { st := 0, flags := 0, startTime := 0, releasedAt := 0, inReset := true, sources := 3, thermalHeld := false, perst := false
    cause := 0, count := 1, clock := 0, qual := none, qualAt := 0, bundle := 0xFF, trial := false, profPins := 0, refSel := 0, ddrTries := 0
    ddrTraining := false, cfgServed := false, profileActive := 0, bootDue := false }

/-- The machine right after the reset that follows the first application of its supplies (R90, sources 0 and 1): every object at its
default, nothing sent, no command waiting. -/
def State.reset : State :=
  { pending := [], outbox := [], free := 0, cfg := [], ro := [], rev := [], act := [], start := StartState.reset
    fw := FwState.reset, eng := Vector.replicate 8 Engine.reset, arb := Vector.replicate 15 Arbiter.reset, isl := IslState.reset, lop := LopState.reset
    flt := FltState.reset, rf := RfState.reset, mesh := MeshState.reset, flock := FlockState.reset, host := HostState.reset
    port := PortState.reset, time := TimeState.reset, aon := AonState.reset, pwr := PwrState.reset, sec := SecState.reset
    gnss := GnssState.reset, snap := SnapState.reset, uart := UartState.reset, tap := ⟨0, 0⟩ }

end Sys2Proof.Machine
end

