-- ==== Sys2Proof/Machine/Ops.lean ====
section
/-!
DEFINITION. Operations that the meanings of the commands share: byte order and checksums, the canonical store of object
values, time, free values, counters, interrupts, rings and events.
-/

namespace Sys2Proof.Machine

/-! ### Octets, byte order, checksums (R5, R72, R80) -/

/-- A number from octets, least significant first (R5). -/
def leNat : Bytes → Nat
  | [] => 0
  | b :: bs => b.toNat + 256 * leNat bs

/-- The low `n` octets of a number, least significant first (R5). -/
def natLe : Nat → Nat → Bytes
  | 0, _ => []
  | n + 1, v => BitVec.ofNat 8 v :: natLe n (v / 256)

/-- `n` octets at offset `o` read as a little-endian number. -/
def leAt (bs : Bytes) (o n : Nat) : Nat := leNat ((bs.drop o).take n)

/-- One bit of CRC-32C, reflected polynomial 0x82F63B78. -/
def crc32cBit (c : Nat) : Nat := if c % 2 = 1 then (c / 2) ^^^ 0x82F63B78 else c / 2

def crc32cByte (c : Nat) (b : Byte) : Nat :=
  let c := c ^^^ b.toNat
  crc32cBit (crc32cBit (crc32cBit (crc32cBit (crc32cBit (crc32cBit (crc32cBit (crc32cBit c)))))))

/-- CRC-32C of a string of octets (R80, R83, Table SU-5). -/
def crc32c (bs : Bytes) : Nat := (bs.foldl crc32cByte 0xFFFFFFFF) ^^^ 0xFFFFFFFF

def crc16Bit (c : Nat) : Nat := if 0x8000 ≤ c then ((c * 2) ^^^ 0x1021) % 0x10000 else c * 2

def crc16Byte (c : Nat) (b : Byte) : Nat :=
  let c := c ^^^ (b.toNat * 256)
  crc16Bit (crc16Bit (crc16Bit (crc16Bit (crc16Bit (crc16Bit (crc16Bit (crc16Bit c)))))))

/-- The CRC-16 of R72: polynomial 0x1021, initial value 0xFFFF, no reflection, no final XOR. -/
def crc16 (bs : Bytes) : Nat := bs.foldl crc16Byte 0xFFFF

/-! ### Floating point (R42): binary64 of IEEE 754 -/

/-- A finite F64 in units of 2⁻¹⁰⁷⁴. -/
def f64Fix (x : Nat) : Int :=
  let e := x / 2 ^ 52 % 2048
  let m := x % 2 ^ 52
  let v : Nat := if e = 0 then m else (m + 2 ^ 52) * 2 ^ (e - 1)
  if x.testBit 63 then -(v : Int) else v

/-- `n · 2⁻ᵏ / d` as a fraction. -/
def scaled (n d : Nat) (k : Int) : Nat × Nat := if k < 0 then (n * 2 ^ (-k).toNat, d) else (n, d * 2 ^ k.toNat)

/-- The F64 nearest to a fraction, an even significand at a tie. -/
def f64Of (num : Int) (den : Nat) : Nat :=
  let n := num.natAbs
  if n = 0 ∨ den = 0 then 0
  else
    let k0 : Int := (Nat.log2 n : Int) - Nat.log2 den - 52
    let k1 := if (scaled n den k0).1 / (scaled n den k0).2 < 2 ^ 52 then k0 - 1 else k0
    let k := max (-1074) k1
    let p := scaled n den k
    let a : Nat := p.1
    let b : Nat := p.2
    let r := a % b
    let q := a / b + (if b < 2 * r ∨ (b = 2 * r ∧ a / b % 2 = 1) then 1 else 0)
    (if num < 0 then 2 ^ 63 else 0) + (k + 1074).toNat * 2 ^ 52 + q

/-! ### Lists as finite maps and vectors by number -/

/-- Look a key up in a list of pairs. -/
def lookupD {β : Type} (k : Nat) (d : β) : List (Nat × β) → β
  | [] => d
  | (j, v) :: m => if j = k then v else lookupD k d m

/-- Enter a pair in a list with rising keys. -/
def insertKey {β : Type} (k : Nat) (v : β) : List (Nat × β) → List (Nat × β)
  | [] => [(k, v)]
  | (j, w) :: m => if k < j then (k, v) :: (j, w) :: m else if k = j then (k, v) :: m else (j, w) :: insertKey k v m

/-- Remove a key. -/
def eraseKey {β : Type} (k : Nat) : List (Nat × β) → List (Nat × β)
  | [] => []
  | (j, w) :: m => if j = k then m else (j, w) :: eraseKey k m

/-- Enter a value in canonical form: a value equal to the default removes the entry. -/
def storePut (k : Nat) (v d : Val) (m : Store) : Store := if v = d then eraseKey k m else insertKey k v m

def vgetD {α : Type} {n : Nat} (v : Vector α n) (i : Nat) (d : α) : α := (v[i]?).getD d

def vmod {α : Type} {n : Nat} (v : Vector α n) (i : Fin n) (f : α → α) : Vector α n := v.set i (f v[i])

/-- A Nat field of a value. -/
def valN (v : Val) (e f : Nat := 0) : Nat := (((v[e]?).getD [])[f]?.getD 0).toNat

def valI (v : Val) (e f : Nat := 0) : Int := ((v[e]?).getD [])[f]?.getD 0

/-- Replace one field of one element of a value. -/
def valSet (v : Val) (e f : Nat) (x : Int) : Val := v.set e (((v[e]?).getD []).set f x)

/-- A scalar value. -/
def scalar (x : Int) : Val := [[x]]

/-! ### Defaults (R8) and the stores of object values -/

/-- The default of one element of an object at an instance, as the object maps give it. -/
def defaultElem (o : ObjInfo) (i e : Nat) : List Int :=
  let wb := decide (4 ≤ i)
  if o.index = Obj.RF_SLICE_CENTRE then (if wb then [2442500] else [868000])
  else if o.index = Obj.RF_PWR_TABLE then [(0x80000000 + e * 0x200000 : Nat)]
  else if o.index = Obj.RF_RATE_FLOOR then (if wb then [250] else [50])
  else if o.index = Obj.RF_RATE_CEIL then (if wb then [250] else [400])
  else if o.index = Obj.MESH_BEACON_MODE then (if wb then [0x10] else [0x02])
  else if o.index = Obj.LINK_SUPERVISION then (match e with | 0 => [14400] | 1 => [600] | _ => [120])
  else if o.index = Obj.GN_SPACING then
    (if e = 8 then [8] else if [2, 4, 7, 11, 14].contains e then [16] else [4])
  else if o.index = Obj.PW_STATE ∨ o.index = Obj.PW_TARGET then (if e ≤ 4 then [2] else [0])
  else o.dflt

/-- The number of elements of a value after reset: BYTES objects are empty. -/
def Kind.count : Kind → Nat
  | .scalar => 1
  | .record => 1
  | .array n => n
  | .blob _ => 0

/-- The default value of an object at an instance (R8). Arrays of Flock records are not held in a store. -/
def defaultVal (o : ObjInfo) (i : Nat) : Val :=
  if o.kind.count > 65536 then [] else (List.range o.kind.count).map (defaultElem o i)

/-- The default of the object an index names. -/
def dfltOf (index : Nat) : Val :=
  match findObj index with
  | some o => defaultVal o (idxInst index)
  | none => []

/-- The running-configuration value of an object (R47). -/
def State.cfgVal (s : State) (index : Nat) : Val :=
  match s.cfg.find? (fun p => p.1 == index) with
  | some p => p.2
  | none => dfltOf index

def State.cfgN (s : State) (index : Nat) (e f : Nat := 0) : Nat := valN (s.cfgVal index) e f

def State.cfgI (s : State) (index : Nat) (e f : Nat := 0) : Int := valI (s.cfgVal index) e f

/-- Enter a running-configuration value. -/
def State.cfgPut (s : State) (index : Nat) (v : Val) : State :=
  { s with cfg := storePut index v (dfltOf index) s.cfg }

/-- A counter or status value that the block reports. -/
def State.roVal (s : State) (index : Nat) : Val :=
  match s.ro.find? (fun p => p.1 == index) with
  | some p => p.2
  | none => dfltOf index

def State.roN (s : State) (index : Nat) (e f : Nat := 0) : Nat := valN (s.roVal index) e f

def State.roPut (s : State) (index : Nat) (v : Val) : State :=
  { s with ro := storePut index v (dfltOf index) s.ro }

def State.roSet (s : State) (index e f : Nat) (x : Int) : State := s.roPut index (valSet (s.roVal index) e f x)

/-- The largest value of an unsigned type (R556). -/
def Ty.max : Ty → Int
  | .bool => 1
  | .u8 => 255
  | .u16 => 65535
  | .u32 => 4294967295
  | .u64 => 18446744073709551615
  | .i8 => 127
  | .i16 => 32767
  | .i32 => 2147483647
  | .i64 => 9223372036854775807
  | .f32 => 4294967295
  | .f64 => 18446744073709551615
  | .ts96 => 79228162514264337593543950335
  | .bytes n => (2 ^ (8 * n) : Nat) - 1

/-- Field `f`'s type of the object an index names. -/
def fieldTy (index f : Nat) : Ty :=
  match findObj index with
  | some o => ((o.fields[f]?).map FieldInfo.ty).getD .u32
  | none => .u32

/-- Raise a counter; every counter saturates at its type's maximum (R556). -/
def State.count (s : State) (index : Nat) (e f : Nat := 0) (by_ : Nat := 1) : State :=
  s.roSet index e f (min (valI (s.roVal index) e f + by_) (fieldTy index f).max)

/-- The revision of an object (R43). -/
def State.revOf (s : State) (index : Nat) : Nat := lookupD index 0 s.rev

/-- An accepted write raises the revision by 1, modulo 65,536 (R43). -/
def State.bumpRev (s : State) (index : Nat) : State :=
  let r := (s.revOf index + 1) % 65536
  { s with rev := if r = 0 then eraseKey index s.rev else insertKey index r s.rev }

/-- An accepted write of an object whose value is kept as it was last accepted (R43, R47). -/
def State.accept (s : State) (index : Nat) (v : Val) : State := (s.cfgPut index v).bumpRev index

/-- The R46 status of an action object: 0 done, 1 running, otherwise an error code. -/
def State.actOf (s : State) (index : Nat) : Nat := lookupD index 0 s.act

def State.setAct (s : State) (index st : Nat) : State :=
  { s with act := if st = 0 then eraseKey index s.act else insertKey index st s.act }

/-! ### Output and free values -/

/-- Send something out. -/
def State.emit (s : State) (o : Out) : State := { s with outbox := o :: s.outbox }

/-- Draw a free value: what the spec leaves open, and the state with the draw counted. -/
def State.draw (s : State) : Nat × State := (Config.freeNat s.free, { s with free := s.free + 1 })

/-- The state after one draw. -/
def State.drawn (s : State) : State := { s with free := s.free + 1 }

/-! ### Time (R6, R364) -/

/-- TB_MONO, in 0.5 ns. While the AON region carries it, a reader gets the saved value plus the ticks since then (R371). -/
def State.mono (s : State) : HalfNs :=
  match s.time.monoSave with
  | none => s.time.base[4].now
  | some (m, t) => m + (s.aon.tick - t) * secHalfNs / 32768

/-- TB_AIR, in 0.5 ns. -/
def State.air (s : State) : HalfNs := s.time.base[3].now

/-- A time in 0.5 ns as a TS96 number (R6). -/
def ts96 (t : HalfNs) : Nat := t / secHalfNs * 2 ^ 48 + t % secHalfNs / 2 * 2 ^ 16 + t % 2 * 0x8000

/-- A TS96 number in 0.5 ns, its fraction cut to that unit. -/
def ts96Half (x : Nat) : HalfNs := x / 2 ^ 48 * secHalfNs + x / 2 ^ 16 % 2 ^ 32 * 2 + x % 2 ^ 16 / 0x8000

/-- A TS96 number is valid when its nanosecond field is below 10⁹ (R6). -/
def ts96Valid (x : Nat) : Bool := x < 2 ^ 96 && x / 2 ^ 16 % 2 ^ 32 < 1000000000

/-- Corrections of the prescaler made up to tick `k` of a period of 2²⁰ ticks, evenly spaced (R406). -/
def trimsAt (trim : Int) (k : Nat) : Nat := k * trim.natAbs / 2 ^ 20

/-- The prescaler after `n` ticks from tick `k` of a period under one trim value (R406). -/
def presAfter (pres : Nat) (trim : Int) (k n : Nat) : Nat :=
  let c := trimsAt trim (k + n) - trimsAt trim k
  if trim < 0 then pres + n - c else pres + n + c

/-- Let `n` ticks of the slow clock pass: tick counter and prescaler; a new trim applies from the next period (R405,
R406). -/
def AonState.ticks (a : AonState) (trim : Int) (n : Nat) : AonState :=
  let k := a.tick % 2 ^ 20
  let n1 := min n (2 ^ 20 - k)
  let p1 := presAfter a.pres a.trim k n1
  let more := decide (2 ^ 20 ≤ k + n)
  { a with
    tick := (a.tick + n) % 2 ^ 48
    pres := if more then presAfter p1 trim 0 (n - n1) else p1
    trim := if more then trim else a.trim }

/-- Let `d` units of 0.5 ns pass in the AON region: the counter runs at 32,768 ticks a second on the crystal and, by its
fractional accumulator, on the RC (R405). -/
def AonState.pass (a : AonState) (trim : Int) (d : HalfNs) : AonState :=
  if a.stopped then a
  else
    let u := a.part + d * 32768
    { a.ticks trim (u / secHalfNs) with part := u % secHalfNs }

/-- Let `d` units of 0.5 ns pass: every time base that counts follows the counter (R364 to R366), and so does the slow
clock. -/
def State.advance (s : State) (d : HalfNs) : State :=
  { s with
    time := { s.time with
      base := s.time.base.mapIdx fun i b => if i = 4 ∨ s.time.counting then { b with now := b.now + d } else b }
    aon := s.aon.pass (s.cfgI Obj.RTC_TRIM) d }

/-- An I32 from an integer, wrapping modulo 2³² (R366). -/
def wrap32 (x : Int) : Int := (x + 2 ^ 31) % 2 ^ 32 - 2 ^ 31

/-- What a step does on an empty queue: half a nanosecond passes (log entry 15). -/
def State.tick (s : State) : State := s.advance 1

/-- Carry time forward to a TB_MONO instant, if it is not there yet (log entry 3). -/
def State.toMono (s : State) (t : HalfNs) : State := s.advance (t - s.mono)

/-- Carry time forward to a TB_AIR instant, if it is not there yet (log entry 3). -/
def State.toAir (s : State) (t : HalfNs) : State := s.advance (t - s.air)

/-! ### Limits of values (R41, R42) -/

/-- R42: floating-point values are finite, a TS96 value is valid; the other types by their limits. -/
def valueOk (t : Ty) (v : Int) : Bool :=
  match t with
  | .f32 => v.toNat / 2 ^ 23 % 256 != 255
  | .f64 => v.toNat / 2 ^ 52 % 2048 != 2047
  | .ts96 => ts96Valid v.toNat
  | _ => true

/-- A field within its limits (R41, R42). -/
def fieldOk (f : FieldInfo) (v : Int) : Bool := decide (f.lo ≤ v) && decide (v ≤ f.hi) && valueOk f.ty v

/-- Every field of an element within its limits. -/
def fieldsOk : List FieldInfo → List Int → Bool
  | [], _ => true
  | f :: fs, v => fieldOk f (v.headD 0) && fieldsOk fs v.tail

/-! ### Domains and held regions -/

/-- The domain in which an object's block lies (Table PW-1, R62); 0 for what is always readable. -/
def objDomain (index : Nat) : Nat :=
  let b := idxBase index
  let i := idxInst index
  if idxObj index = 0 then 0
  else match idxRegion index with
    | 1 => 1
    | 2 => 2
    | 3 => 4
    | 4 => 5
    | 5 => 3
    | 6 => if i = 6 then 13
      else if [Obj.REG_LOCK_STATE, Obj.REG_LOCK_RECORD, Obj.REG_LOCK_PROGRAM, Obj.RF_THERMAL_BACKOFF_T, Obj.RF_THERMAL_STEPS,
          Obj.RF_DIE_TEMP].contains b then 1 else 7 + i
    | 7 => 6
    | 8 => 1
    | 9 =>
      if [Obj.TP_ENABLE, Obj.TP_SOURCE, Obj.TP_PERIOD, Obj.TP_WIDTH, Obj.TP_PHASE, Obj.TP_DELAY, Obj.TP_POLARITY,
          Obj.TP_STATE, Obj.TP_LAST, Obj.TP_OMITTED].contains b then 17
      else if idxObj b < 0x200 then 14 else 15
    | 10 => 16
    | 11 => 17
    | 12 => 0
    | 13 => 0
    | _ => 1

/-- A domain is on (Table PW-1). -/
def State.domOn (s : State) (d : Nat) : Bool := ((s.pwr.dom[d]?).map (·.st)) == some 2

/-- A domain's objects are served and its settings take effect: it is on, or quiesces from on and is not yet isolated (R48, R443). -/
def State.domServes (s : State) (d : Nat) : Bool :=
  ((s.pwr.dom[d]?).map fun x => x.st == 2 || (x.st == 3 && x.step == 1 && x.came == 2)).getD false

/-- A domain has passed its switch step, or is off, in retention or on its way back (R456). -/
def State.domGone (s : State) (d : Nat) : Bool :=
  ((s.pwr.dom[d]?).map fun x => x.st != 2 && !(x.st == 3 && decide (x.step < 4) && x.came == 2)).getD true

/-- A region is held at chip level (R17). -/
def State.isHeld (s : State) (region : Nat) : Bool := s.flt.held.contains region

/-- The HOST region serves: the chip is out of reset, the region's domain is on, PERST_N is not asserted, and it is not held
(log entry 134). -/
def State.hostServes (s : State) : Bool := !s.start.inReset && s.domServes 4 && !s.start.perst && !s.isHeld 3

/-- BAR0 and BAR2 are served: from the moment at which configuration requests are answered normally (R101, R494). -/
def State.barServes (s : State) : Bool := s.hostServes && s.start.cfgServed

/-- Three redundant bits read as 1 by majority (R112). -/
def majority (bits : Nat) : Bool := decide (2 ≤ bits % 2 + bits / 2 % 2 + bits / 4 % 2)

/-- The content of a profile in flash: that of its slot that holds one (R87, Table SU-4). -/
def FwState.profileOf (f : FwState) (n : Nat) : Bytes :=
  match f.profile[n]? with
  | some v => if v[0] = [] then v[1] else v[0]
  | none => []

/-- The rollback floor: the number of thermometer steps set (R112). -/
def Otp.floor (o : Otp) : Nat := (o.steps.filter majority).length

/-- Program the next `n` steps that are not set, one at a time, from the first on (R112, R120). -/
def setSteps : Nat → List Nat → List Nat
  | _, [] => []
  | 0, xs => xs
  | n + 1, x :: xs => if majority x then x :: setSteps (n + 1) xs else 7 :: setSteps n xs

end Sys2Proof.Machine
end

