-- ==== Sys2Proof/Machine/Crypto.lean ====
section
/-!
DEFINITION. The published algorithms that the spec names and does not itself print: AES and its modes CMAC, KW, GCM and CCM* (14_security.md
R459, R465), SHA3-512, and the frame check sequences of IEEE 802.15.4 (05_mesh_phy_and_frames.md R163, R166). They are PRESUMED from their
standards (FIPS 197, FIPS 202, SP 800-38B, SP 800-38D, SP 800-38F, IEEE 802.15.4; log entry 2). Keys are numbers whose octets, least significant
first, are the key's octets in order.
-/

namespace Sys2Proof.Machine

/-! ### Octets -/

/-- Octet by octet exclusive or, as long as the shorter string. -/
def xorBytes (a b : Bytes) : Bytes := (a.zip b).map fun x => x.1 ^^^ x.2

/-- Octets read most significant first. -/
def beNat (b : Bytes) : Nat := leNat b.reverse

/-- The low `n` octets of a number, most significant first. -/
def natBe (n v : Nat) : Bytes := (natLe n v).reverse

/-- A string cut into pieces of `n` octets, the last one perhaps shorter; `fuel` bounds their count. -/
def piecesOf (n : Nat) : Nat → Bytes → List Bytes
  | 0, _ => []
  | fuel + 1, b => if b = [] then [] else b.take n :: piecesOf n fuel (b.drop n)

def pieces (n : Nat) (b : Bytes) : List Bytes := piecesOf n b.length b

/-- Filled up with zeros to a multiple of 16 octets. -/
def padTo16 (b : Bytes) : Bytes := b ++ List.replicate ((16 - b.length % 16) % 16) 0

/-! ### AES (FIPS 197) -/

def sboxTable : List Nat :=
  [99, 124, 119, 123, 242, 107, 111, 197, 48, 1, 103, 43, 254, 215, 171, 118, 202, 130, 201, 125, 250, 89, 71, 240, 173, 212, 162, 175, 156, 164, 114, 192] ++
  [183, 253, 147, 38, 54, 63, 247, 204, 52, 165, 229, 241, 113, 216, 49, 21, 4, 199, 35, 195, 24, 150, 5, 154, 7, 18, 128, 226, 235, 39, 178, 117] ++
  [9, 131, 44, 26, 27, 110, 90, 160, 82, 59, 214, 179, 41, 227, 47, 132, 83, 209, 0, 237, 32, 252, 177, 91, 106, 203, 190, 57, 74, 76, 88, 207] ++
  [208, 239, 170, 251, 67, 77, 51, 133, 69, 249, 2, 127, 80, 60, 159, 168, 81, 163, 64, 143, 146, 157, 56, 245, 188, 182, 218, 33, 16, 255, 243, 210] ++
  [205, 12, 19, 236, 95, 151, 68, 23, 196, 167, 126, 61, 100, 93, 25, 115, 96, 129, 79, 220, 34, 42, 144, 136, 70, 238, 184, 20, 222, 94, 11, 219] ++
  [224, 50, 58, 10, 73, 6, 36, 92, 194, 211, 172, 98, 145, 149, 228, 121, 231, 200, 55, 109, 141, 213, 78, 169, 108, 86, 244, 234, 101, 122, 174, 8] ++
  [186, 120, 37, 46, 28, 166, 180, 198, 232, 221, 116, 31, 75, 189, 139, 138, 112, 62, 181, 102, 72, 3, 246, 14, 97, 53, 87, 185, 134, 193, 29, 158] ++
  [225, 248, 152, 17, 105, 217, 142, 148, 155, 30, 135, 233, 206, 85, 40, 223, 140, 161, 137, 13, 191, 230, 66, 104, 65, 153, 45, 15, 176, 84, 187, 22]

def sbox (b : Byte) : Byte := BitVec.ofNat 8 ((sboxTable[b.toNat]?).getD 0)

/-- Multiplication by x in the field of AES. -/
def xtime (b : Byte) : Byte := (b <<< 1) ^^^ (if b.msb then 0x1B else 0)

/-- The key schedule: words newest first, until `n` more have been made; `nk` words of key, `rcon` the next round constant. -/
def expandKey (nk : Nat) : Nat → Byte → List Bytes → List Bytes
  | 0, _, ws => ws
  | n + 1, rcon, ws =>
    let i := ws.length
    let last := ws.headD []
    let t := if i % nk = 0 then
        xorBytes ((last.drop 1 ++ last.take 1).map sbox) [rcon, 0, 0, 0]
      else if 6 < nk ∧ i % nk = 4 then last.map sbox else last
    expandKey nk n (if i % nk = 0 then xtime rcon else rcon) (xorBytes ((ws[nk - 1]?).getD []) t :: ws)

/-- The round keys of 16 octets, first round first. -/
def roundKeys (key : Bytes) : List Bytes :=
  let nk := key.length / 4
  pieces 16 ((expandKey nk (3 * nk + 28) 1 (pieces 4 key).reverse).reverse.flatten)

def shiftRows (b : Bytes) : Bytes := (List.range 16).map fun i => (b[(i + 4 * (i % 4)) % 16]?).getD 0

/-- One column of four octets. -/
def mixColumn (b : Bytes) : Bytes :=
  (List.range 4).map fun i =>
    let f := fun (k : Nat) => (b[(i + k) % 4]?).getD 0
    xtime (f 0) ^^^ (xtime (f 1) ^^^ f 1) ^^^ f 2 ^^^ f 3

def mixColumns (b : Bytes) : Bytes := (pieces 4 b).flatMap mixColumn

/-- The rounds after the first key addition; the last one mixes no columns. -/
def aesRounds : List Bytes → Bytes → Bytes
  | [], b => b
  | [k], b => xorBytes (shiftRows (b.map sbox)) k
  | k :: ks, b => aesRounds ks (xorBytes (mixColumns (shiftRows (b.map sbox))) k)

/-- AES of one block under a key of 16 or 32 octets. -/
def aes (key block : Bytes) : Bytes :=
  match roundKeys key with
  | [] => block
  | k :: ks => aesRounds ks (xorBytes block k)

/-- Its inverse, for KW: the octet that the S-box takes to a value. -/
def invSbox (b : Byte) : Byte := BitVec.ofNat 8 (sboxTable.idxOf b.toNat)

def invShiftRows (b : Bytes) : Bytes := (List.range 16).map fun i => (b[(i + 12 * (i % 4)) % 16]?).getD 0

/-- Three more mixings of a column undo the one: the mixing has order four. -/
def invMixColumns (b : Bytes) : Bytes := mixColumns (mixColumns (mixColumns b))

/-- The rounds undone, round keys last first. -/
def aesInvRounds : List Bytes → Bytes → Bytes
  | [], b => b
  | [k], b => xorBytes b k
  | k :: ks, b => aesInvRounds ks ((invShiftRows (invMixColumns (xorBytes b k))).map invSbox)

/-- The inverse of AES of one block. -/
def aesInv (key block : Bytes) : Bytes :=
  match (roundKeys key).reverse with
  | [] => block
  | k :: ks =>
    match ks with
    | [] => xorBytes block k
    | _ => aesInvRounds ks ((invShiftRows (xorBytes block k)).map invSbox)

/-! ### CMAC (SP 800-38B) -/

/-- Doubling in the field of CMAC. -/
def cmacDouble (x : Nat) : Nat := (2 * x % 2 ^ 128) ^^^ (if x.testBit 127 then 0x87 else 0)

/-- The chain over the whole blocks and the treated last one. -/
def cmacChain (key : Bytes) (blocks : List Bytes) : Bytes :=
  blocks.foldl (fun (c b : Bytes) => aes key (xorBytes c b)) (List.replicate 16 0)

/-- AES-CMAC of a string of octets, 16 octets. -/
def cmac (key msg : Bytes) : Bytes :=
  let k1 := cmacDouble (beNat (aes key (List.replicate 16 0)))
  let n := (msg.length + 15) / 16 - 1
  let last := msg.drop (16 * n)
  let full := last.length == 16
  let m := if full then xorBytes last (natBe 16 k1) else xorBytes (padTo16 (last ++ [0x80])) (natBe 16 (cmacDouble k1))
  cmacChain key (pieces 16 (msg.take (16 * n)) ++ [m])

/-! ### Derivation (R465) -/

/-- The label of a derivation of Table SE-3, in the order of the table's rows: 0 link, 1 beacon, 2 group, 3 campaign, 4 session, 5
INSTALLER root, 6 transport, 7 seal, 8 attestation, 9 fingerprint. -/
def kdfLabel : Nat → Bytes
  | 0 => [0x5A, 0x4E, 0x2D, 0x4C, 0x49, 0x4E, 0x4B]
  | 1 => [0x5A, 0x4E, 0x2D, 0x42, 0x43, 0x4E]
  | 2 => [0x5A, 0x4E, 0x2D, 0x47, 0x52, 0x50]
  | 3 => [0x5A, 0x4E, 0x2D, 0x43, 0x41, 0x4D, 0x50]
  | 4 => [0x4C, 0x4F, 0x50, 0x32, 0x2D, 0x53, 0x45, 0x53, 0x53]
  | 5 => [0x5A, 0x4E, 0x2D, 0x49, 0x4E, 0x53, 0x54]
  | 6 => [0x5A, 0x4E, 0x2D, 0x58, 0x50, 0x4F, 0x52, 0x54]
  | 7 => [0x5A, 0x4E, 0x2D, 0x53, 0x45, 0x41, 0x4C]
  | 8 => [0x5A, 0x4E, 0x2D, 0x41, 0x54, 0x54, 0x45, 0x53, 0x54]
  | _ => [0x5A, 0x4E, 0x2D, 0x46, 0x50, 0x52]

/-- The octets of each context field (Table SE-3). -/
def kdfWidths : Nat → List Nat
  | 0 => [8, 4]
  | 1 => [2]
  | 2 => [3]
  | 3 => [4, 3]
  | 4 => [16, 16, 4]
  | 7 => [32]
  | 9 => []
  | _ => [8]

/-- L of a derivation, in bits (Table SE-3). -/
def kdfBits (label : Nat) : Nat := if label < 4 ∨ label = 9 then 128 else 256

/-- The input of the PRF for a block number (R465, Worked example SE-1). -/
def kdfInput (i label : Nat) (ctx : List Nat) : Bytes :=
  natBe 4 i ++ kdfLabel label ++ [0] ++ (((kdfWidths label).zip ctx).flatMap fun x => natLe x.1 x.2) ++ natBe 4 (kdfBits label)

/-- The key derived from a 256-bit root (R465). -/
def kdf (root label : Nat) (ctx : List Nat) : Nat :=
  leNat ((List.range (kdfBits label / 128)).flatMap fun i => cmac (natLe 32 root) (kdfInput (i + 1) label ctx))

/-! ### Key wrap (SP 800-38F) -/

/-- One step of the wrapping: A and the registers after it, the step number `t` from 1 on. -/
def kwStep (kek : Bytes) (x : Bytes × List Bytes) (t : Nat) : Bytes × List Bytes :=
  match x.2 with
  | [] => x
  | r :: rs =>
    let b := aes kek (x.1 ++ r)
    (xorBytes (b.take 8) (natBe 8 t), rs ++ [b.drop 8])

/-- The AES-KW wrap of a string of 8-octet pieces: 8 octets more. -/
def keyWrap (kek data : Bytes) : Bytes :=
  let n := data.length / 8
  let x := (List.range (6 * n)).foldl (fun (x : Bytes × List Bytes) (t : Nat) => kwStep kek x (t + 1))
    (List.replicate 8 0xA6, pieces 8 data)
  x.1 ++ x.2.flatten

/-- One step of the unwrapping, the last step first. -/
def kwBack (kek : Bytes) (x : Bytes × List Bytes) (t : Nat) : Bytes × List Bytes :=
  let b := aesInv kek (xorBytes x.1 (natBe 8 t) ++ (x.2.getLast?).getD [])
  (b.take 8, b.drop 8 :: x.2.dropLast)

/-- The unwrap; none when the integrity check fails. -/
def keyUnwrap (kek data : Bytes) : Option Bytes :=
  let n := data.length / 8 - 1
  let x := (List.range (6 * n)).foldl (fun (x : Bytes × List Bytes) (t : Nat) => kwBack kek x (6 * n - t))
    (data.take 8, pieces 8 (data.drop 8))
  if x.1 = List.replicate 8 0xA6 then some x.2.flatten else none

/-! ### GCM (SP 800-38D) -/

/-- Multiplication in the field of GCM, bit 127 the first bit of a block; `n` bits of the first factor remain. -/
def gcmMul (x : Nat) : Nat → Nat → Nat → Nat
  | 0, _, z => z
  | n + 1, v, z =>
    gcmMul x n (v / 2 ^^^ (if v % 2 = 1 then 0xE1 * 2 ^ 120 else 0)) (if x.testBit n then z ^^^ v else z)

def ghash (h : Nat) (b : Bytes) : Nat := (pieces 16 b).foldl (fun (y : Nat) (p : Bytes) => gcmMul (y ^^^ beNat p) 128 h 0) 0

/-- The cipher text, or the plaintext, of a string under a 12-octet nonce. -/
def gcmCrypt (key nonce text : Bytes) : Bytes :=
  ((pieces 16 text).zipIdx).flatMap fun x => xorBytes x.1 (aes key (nonce ++ natBe 4 (x.2 + 2)))

/-- The 16-octet tag over additional data and cipher text. -/
def gcmTag (key nonce aad cipher : Bytes) : Bytes :=
  let h := beNat (aes key (List.replicate 16 0))
  let y := ghash h (padTo16 aad ++ padTo16 cipher ++ natBe 8 (8 * aad.length) ++ natBe 8 (8 * cipher.length))
  xorBytes (natBe 16 y) (aes key (nonce ++ [0, 0, 0, 1]))

/-! ### CCM* with a 13-octet nonce and a 64-bit MIC (IEEE 802.15.4) -/

/-- The additional data as blocks: its length in two octets, then the octets. -/
def ccmAuth (a : Bytes) : Bytes := if a = [] then [] else padTo16 (natBe 2 a.length ++ a)

/-- The cipher text of a frame's encrypted octets. -/
def ccmCipher (key : Nat) (nonce m : Bytes) : Bytes :=
  ((pieces 16 m).zipIdx).flatMap fun x => xorBytes x.1 (aes (natLe 16 key) (1 :: nonce ++ natBe 2 (x.2 + 1)))

/-- The MIC-64 over authenticated octets and the encrypted octets before encryption, its first octet the least significant. -/
def ccmMic (key : Nat) (nonce a m : Bytes) : Nat :=
  let k := natLe 16 key
  let b0 : Bytes := (if a = [] then 0x19 else 0x59) :: nonce ++ natBe 2 m.length
  let t := cmacChain k (pieces 16 (b0 ++ ccmAuth a ++ padTo16 m))
  leNat (xorBytes (t.take 8) (aes k (1 :: nonce ++ [0, 0])))

/-! ### SHA3-512 (FIPS 202) -/

def rotl64 (x n : Nat) : Nat := (x * 2 ^ n % 2 ^ 64) ||| (x / 2 ^ (64 - n))

def keccakOffsets : List Nat :=
  [0, 1, 62, 28, 27, 36, 44, 6, 55, 20, 3, 10, 43, 25, 39, 41, 45, 15, 21, 8, 18, 2, 61, 56, 14]

def keccakConstants : List Nat := [
  0x1, 0x8082, 0x800000000000808a, 0x8000000080008000, 0x808b, 0x80000001, 0x8000000080008081, 0x8000000000008009, 0x8a, 0x88,
  0x80008009, 0x8000000a, 0x8000808b, 0x800000000000008b, 0x8000000000008089, 0x8000000000008003, 0x8000000000008002,
  0x8000000000000080, 0x800a, 0x800000008000000a, 0x8000000080008081, 0x8000000000008080, 0x80000001, 0x8000000080008008]

/-- One round on 25 lanes. -/
def keccakRound (a : List Nat) (rc : Nat) : List Nat :=
  let g := fun (l : List Nat) (x y : Nat) => (l[x % 5 + 5 * (y % 5)]?).getD 0
  let c := (List.range 5).map fun x => g a x 0 ^^^ g a x 1 ^^^ g a x 2 ^^^ g a x 3 ^^^ g a x 4
  let d := (List.range 5).map fun x => g c (x + 4) 0 ^^^ rotl64 (g c (x + 1) 0) 1
  let t := (List.range 25).map fun i => (a[i]?).getD 0 ^^^ (d[i % 5]?).getD 0
  let b := (List.range 25).map fun i =>
    let x := (i % 5 + 3 * (i / 5)) % 5
    rotl64 (g t x (i % 5)) (g keccakOffsets x (i % 5))
  let e := (List.range 25).map fun i =>
    let x := i % 5
    g b x (i / 5) ^^^ ((2 ^ 64 - 1 - g b (x + 1) (i / 5)) &&& g b (x + 2) (i / 5))
  e.set 0 ((e[0]?).getD 0 ^^^ rc)

/-- One block of 72 octets taken in. -/
def keccakTake (a : List Nat) (b : Bytes) : List Nat :=
  let w := (pieces 8 b).map leNat
  keccakConstants.foldl keccakRound ((a.zipIdx).map fun x => x.1 ^^^ (w[x.2]?).getD 0)

/-- SHA3-512 of a string of octets, its first octet the least significant. -/
def sha3 (msg : Bytes) : Nat :=
  let n := 72 - msg.length % 72
  let pad : Bytes := if n = 1 then [0x86] else 0x06 :: List.replicate (n - 2) 0 ++ [0x80]
  leNat ((((pieces 72 (msg ++ pad)).foldl keccakTake (List.replicate 25 0)).take 8).flatMap (natLe 8))

/-! ### Frame check sequences (IEEE 802.15.4) -/

/-- Eight bits of a reflected CRC. -/
def crcBits (poly : Nat) : Nat → Nat → Nat
  | 0, c => c
  | n + 1, c => crcBits poly n (if c % 2 = 1 then (c / 2) ^^^ poly else c / 2)

def crcReflected (poly init : Nat) (b : Bytes) : Nat := b.foldl (fun (c : Nat) (x : Byte) => crcBits poly 8 (c ^^^ x.toNat)) init

/-- The frame check sequence of 2 or 4 octets; the one of 4 is over at least 4 octets. -/
def fcs (n : Nat) (b : Bytes) : Nat :=
  if n = 2 then crcReflected 0x8408 0 b
  else crcReflected 0xEDB88320 0xFFFFFFFF (b ++ List.replicate (4 - b.length) 0) ^^^ 0xFFFFFFFF

end Sys2Proof.Machine
end

