-- ==== Sys2Proof/Machine/Events.lean ====
section
/-!
DEFINITION. Events and rings: how an event is raised, suppressed, logged and sent (17_faults_and_events.md R545 to
R550), how a record is put on a device-produced ring (15_host_and_network_ports.md R498 to R511), interrupts (R495).
-/

namespace Sys2Proof.Machine

/-! ### Event codes (Table FT-3) -/

abbrev Ev.BLOCK_CONTAINED (region : Nat) : Nat := region * 0x1000 + 0x001
abbrev Ev.REGION_RESTART (region : Nat) : Nat := region * 0x1000 + 0x002
abbrev Ev.REGION_HELD (region : Nat) : Nat := region * 0x1000 + 0x003
abbrev Ev.REGION_RELEASED (region : Nat) : Nat := region * 0x1000 + 0x004
abbrev Ev.FAULT_RECORDED (region : Nat) : Nat := region * 0x1000 + 0x005
abbrev Ev.START_DONE : Nat := 0x1010
abbrev Ev.PROFILE_INVALID : Nat := 0x1011
abbrev Ev.BUNDLE_INVALID : Nat := 0x1012
abbrev Ev.BUNDLE_FALLBACK : Nat := 0x1013
abbrev Ev.TRIAL_REVERTED : Nat := 0x1014
abbrev Ev.ENGINE_RESTART : Nat := 0x1015
abbrev Ev.ENTROPY_FAIL : Nat := 0x2010
abbrev Ev.ROOTS_LOST : Nat := 0x2011
abbrev Ev.TAMPER_ALARM : Nat := 0x2012
abbrev Ev.ZEROISED : Nat := 0x2013
abbrev Ev.SEAL_OPENED : Nat := 0x2014
abbrev Ev.PRES_STUCK : Nat := 0x2015
abbrev Ev.PRESENCE_OPEN : Nat := 0x2016
abbrev Ev.PRESENCE_CLOSE : Nat := 0x2017
abbrev Ev.RING_ERROR : Nat := 0x3010
abbrev Ev.ETH_LINK_UP : Nat := 0x4010
abbrev Ev.ETH_LINK_DOWN : Nat := 0x4011
abbrev Ev.OTP_FAULT : Nat := 0x5010
abbrev Ev.FLASH_FAULT : Nat := 0x5011
abbrev Ev.DDR_TRAIN_FAIL : Nat := 0x5012
abbrev Ev.MEM_ECC_UE : Nat := 0x5013
abbrev Ev.FLASH_PROG_FAIL : Nat := 0x5014
abbrev Ev.SYNTH_UNLOCK : Nat := 0x6010
abbrev Ev.CAL_FALLBACK : Nat := 0x6011
abbrev Ev.CAL_FAIL : Nat := 0x6012
abbrev Ev.CAL_PREEMPTED : Nat := 0x6013
abbrev Ev.CAL_STARVED : Nat := 0x6014
abbrev Ev.TX_TIMEOUT : Nat := 0x6015
abbrev Ev.ANT_OPEN : Nat := 0x6016
abbrev Ev.ANT_SHORT : Nat := 0x6017
abbrev Ev.ANT_OK : Nat := 0x6018
abbrev Ev.LANE_RETIRED : Nat := 0x7010
abbrev Ev.BEACON_STARVED : Nat := 0x7011
abbrev Ev.NBR_LOST : Nat := 0x7012
abbrev Ev.NBR_EXPIRED : Nat := 0x7013
abbrev Ev.NBR_RETURNED : Nat := 0x7014
abbrev Ev.LINK_RESYNC : Nat := 0x7015
abbrev Ev.LINK_RESYNC_DONE : Nat := 0x7016
abbrev Ev.LINK_TIMEOUT : Nat := 0x7017
abbrev Ev.LINK_REASSOC : Nat := 0x7018
abbrev Ev.CHMAP_DONE : Nat := 0x7019
abbrev Ev.LINK_CTR_HIGH : Nat := 0x701A
abbrev Ev.DUTY_EXHAUSTED : Nat := 0x701B
abbrev Ev.DUTY_RESTORED : Nat := 0x701C
abbrev Ev.ROUTE_CHANGED : Nat := 0x8010
abbrev Ev.CAMPAIGN_DONE : Nat := 0x8011
abbrev Ev.CAMPAIGN_FAILED : Nat := 0x8012
abbrev Ev.FLOCK_RECORD_BAD : Nat := 0x8013
abbrev Ev.GNSS_JAMMED : Nat := 0x9010
abbrev Ev.GNSS_JAM_CLEAR : Nat := 0x9011
abbrev Ev.EPH_REJECTED : Nat := 0x9012
abbrev Ev.GNSS_RAIM_EXCLUDE : Nat := 0x9013
abbrev Ev.SURVEY_DONE : Nat := 0x9014
abbrev Ev.GNSS_POS_MISMATCH : Nat := 0x9015
abbrev Ev.GNSS_START : Nat := 0x9016
abbrev Ev.TIME_ESTABLISHED : Nat := 0xB010
abbrev Ev.TIME_SOURCE : Nat := 0xB011
abbrev Ev.SOURCE_DISAGREE : Nat := 0xB012
abbrev Ev.TIME_HOLDOVER : Nat := 0xB013
abbrev Ev.HOLDOVER_LIMIT : Nat := 0xB014
abbrev Ev.TIME_STEPPED : Nat := 0xB015
abbrev Ev.STEP_HELD : Nat := 0xB016
abbrev Ev.PTP_STEP : Nat := 0xB017
abbrev Ev.SLOW_CLK_FAIL : Nat := 0xC010
abbrev Ev.SLOW_CLK_OK : Nat := 0xC011
abbrev Ev.RTC_TRIM_LIMIT : Nat := 0xC012
abbrev Ev.AON_ON_VBAT : Nat := 0xC013
abbrev Ev.AON_ON_MAIN : Nat := 0xC014
abbrev Ev.VBAT_LOW : Nat := 0xC015
abbrev Ev.HALT_OVERRUN : Nat := 0xC016
abbrev Ev.RTC_ALARM : Nat := 0xC017
abbrev Ev.ALARM_SKIPPED : Nat := 0xC018
abbrev Ev.RTC_SYNC_RANGE : Nat := 0xC019
abbrev Ev.RETENTION_FAIL : Nat := 0xC01A
abbrev Ev.DOMAIN_REFUSED : Nat := 0xD010
abbrev Ev.ENTRY_FAIL : Nat := 0xD011
abbrev Ev.WAKE_FAIL : Nat := 0xD012
abbrev Ev.UART_BREAK : Nat := 0xE010
abbrev Ev.UART_STUCK : Nat := 0xE011
abbrev Ev.UART_LINE_OK : Nat := 0xE012
abbrev Ev.UART_OVERRUN : Nat := 0xE013
abbrev Ev.UART_RX_READY : Nat := 0xE014

/-- The reaction classes of Table FT-2 that are not class I (0), by code: 1 W, 2 A, 3 S, 4 X (Table FT-3). -/
def eventClasses0 : List (Nat × Nat) := [
  (Ev.PROFILE_INVALID, 2),
  (Ev.BUNDLE_INVALID, 2),
  (Ev.BUNDLE_FALLBACK, 2),
  (Ev.TRIAL_REVERTED, 2),
  (Ev.ENGINE_RESTART, 1),
  (Ev.ENTROPY_FAIL, 3),
  (Ev.ROOTS_LOST, 2),
  (Ev.TAMPER_ALARM, 4),
  (Ev.ZEROISED, 4),
  (Ev.PRES_STUCK, 3),
  (Ev.RING_ERROR, 2),
  (Ev.ETH_LINK_DOWN, 1),
  (Ev.OTP_FAULT, 3),
  (Ev.FLASH_FAULT, 3),
  (Ev.DDR_TRAIN_FAIL, 3),
  (Ev.MEM_ECC_UE, 1),
  (Ev.FLASH_PROG_FAIL, 1),
  (Ev.SYNTH_UNLOCK, 1),
  (Ev.CAL_FALLBACK, 1),
  (Ev.CAL_FAIL, 3),
  (Ev.CAL_STARVED, 1),
  (Ev.TX_TIMEOUT, 2),
  (Ev.ANT_OPEN, 3),
  (Ev.ANT_SHORT, 3),
  (Ev.LANE_RETIRED, 1),
  (Ev.BEACON_STARVED, 2),
  (Ev.NBR_LOST, 1)]

def eventClasses1 : List (Nat × Nat) := [
  (Ev.LINK_TIMEOUT, 1),
  (Ev.LINK_CTR_HIGH, 2),
  (Ev.DUTY_EXHAUSTED, 1),
  (Ev.CAMPAIGN_FAILED, 2),
  (Ev.FLOCK_RECORD_BAD, 2),
  (Ev.GNSS_JAMMED, 1),
  (Ev.EPH_REJECTED, 1),
  (Ev.GNSS_RAIM_EXCLUDE, 1),
  (Ev.GNSS_POS_MISMATCH, 2),
  (Ev.TIME_SOURCE, 1),
  (Ev.SOURCE_DISAGREE, 1),
  (Ev.TIME_HOLDOVER, 1),
  (Ev.HOLDOVER_LIMIT, 2),
  (Ev.TIME_STEPPED, 2),
  (Ev.STEP_HELD, 2),
  (Ev.PTP_STEP, 1),
  (Ev.SLOW_CLK_FAIL, 3),
  (Ev.RTC_TRIM_LIMIT, 3),
  (Ev.VBAT_LOW, 3),
  (Ev.HALT_OVERRUN, 1),
  (Ev.RTC_SYNC_RANGE, 1),
  (Ev.RETENTION_FAIL, 1),
  (Ev.DOMAIN_REFUSED, 1),
  (Ev.ENTRY_FAIL, 3),
  (Ev.WAKE_FAIL, 3),
  (Ev.UART_STUCK, 1),
  (Ev.UART_OVERRUN, 1)]

/-- The reaction class of an event code (Table FT-2, Table FT-3). Causes 0x001 to 0x005 are those of every region. -/
def eventClass (code : Nat) : Nat :=
  match code % 0x1000 with
  | 1 => 1
  | 2 => 1
  | 3 => 2
  | 4 => 0
  | 5 => 3
  | _ => lookupD code 0 (eventClasses0 ++ eventClasses1)

/-! ### Interrupts (R495) -/

/-- Set a bit of IRQ_STATUS while HOST serves; vector 0 is sent when an enabled bit goes from 0 to 1 (R495). -/
def State.setIrq (s : State) (bit : Nat) : State :=
  if !s.hostServes then s else
  let t := { s with host := { s.host with irqStatus := s.host.irqStatus ||| 2 ^ bit } }
  if !s.host.irqStatus.testBit bit && s.host.irqEnable.testBit bit && s.host.busMaster then t.emit (.msix 0) else t

/-! ### Rings -/

/-- A field of RING_CFG of ring `n` (R499): 0 BASE, 1 WRITEBACK, 2 ENTRIES, 3 VECTOR, 4 ENABLE, 5 MOD_COUNT,
6 MOD_TIME. -/
def State.ringCfg (s : State) (n f : Nat) : Nat := s.cfgN Obj.RING_CFG n f

/-- The octets of an event entry (Table FT-1). -/
def EventEntry.bytes (e : EventEntry) : Bytes :=
  natLe 2 e.code ++ natLe 1 e.inst ++ natLe 1 e.flags ++ natLe 4 e.seq ++ natLe 12 e.time ++ natLe 4 e.arg0
    ++ natLe 4 e.arg1 ++ natLe 4 0

/-- What a record puts into its buffers (Table HP-7). -/
def RingRec.content : RingRec → Bytes
  | .dlDone .. => []
  | .ulFrame _ _ _ _ _ data => data
  | .snResult _ _ data => data
  | .epoch data => data
  | .nav data => data
  | .event e => e.bytes

def RingRec.size (r : RingRec) : Nat := r.content.length

/-- The descriptor type of a record (Table HP-7). -/
def RingRec.typ : RingRec → Nat
  | .dlDone .. => 0x81
  | .ulFrame .. => 0x83
  | .snResult .. => 0x84
  | _ => 0x85

/-- TAG of a record's descriptors: that of the descriptor a completion answers, else 0. -/
def RingRec.tag : RingRec → Nat
  | .dlDone t .. => t
  | _ => 0

def bitN (b : Bool) : Nat := if b then 1 else 0

/-- The fields after byte 15 of a v2 descriptor, MORE as given (Table HP-7). -/
def RingRec.tailV2 (more : Bool) : RingRec → Bytes
  | .dlDone _ status relayed skip attempts flock doneAt =>
    natLe 1 status ++ natLe 1 (bitN relayed) ++ natLe 1 skip ++ natLe 1 attempts ++ natLe 4 flock ++ natLe 12 doneAt ++ natLe 28 0
  | .ulFrame flock kind relayed record src _ =>
    natLe 4 flock ++ natLe 1 kind ++ natLe 1 (bitN more + 2 * bitN relayed) ++ natLe 2 0 ++ record ++ natLe 4 src ++ natLe 12 0
  | .snResult flock status _ => natLe 4 flock ++ natLe 1 status ++ natLe 1 (bitN more) ++ natLe 42 0
  | .epoch _ => natLe 1 1 ++ natLe 1 (bitN more) ++ natLe 46 0
  | .nav _ => natLe 1 2 ++ natLe 1 (bitN more) ++ natLe 46 0
  | .event _ => natLe 1 3 ++ natLe 1 (bitN more) ++ natLe 46 0

/-- The fields after byte 15 of a v1 descriptor (Table HP-8): of a frame, path, lane, RSSI and SFD time of its reception record. -/
def RingRec.tailV1 : RingRec → Bytes
  | .dlDone _ status relayed _ _ flock _ => natLe 1 status ++ natLe 1 (bitN relayed) ++ natLe 2 0 ++ natLe 4 flock ++ natLe 8 0
  | .ulFrame flock kind _ record _ _ =>
    let t := leAt record 0 12
    natLe 4 flock ++ natLe 1 kind ++ natLe 1 (leAt record 18 1) ++ natLe 1 (leAt record 19 1) ++ natLe 1 (leAt record 16 1)
      ++ natLe 4 (t / 2 ^ 48) ++ natLe 4 (t / 2 ^ 16)
  | _ => natLe 16 0

/-- Descriptor format 1 is selected (R507). -/
def State.ringV1 (s : State) : Bool := s.cfgN Obj.HOST_RING_FORMAT == 1

/-- The size of a descriptor (R505, R507). -/
def State.descSize (s : State) : Nat := if s.ringV1 then 32 else 64

/-- A descriptor of a record for one buffer: head and fields (R505, R507). -/
def State.descOf (s : State) (r : RingRec) (len addr : Nat) (more : Bool) : Bytes :=
  natLe 1 r.typ ++ natLe 1 0 ++ natLe 2 len ++ natLe 4 r.tag ++ natLe 8 addr ++ (if s.ringV1 then r.tailV1 else r.tailV2 more)

/-- The address of entry `i` of a ring (R500). -/
def State.entryAddr (s : State) (n i : Nat) : Nat := s.cfgN Obj.RING_CFG n 0 + i % s.cfgN Obj.RING_CFG n 2 * s.descSize

/-- The buffers a record needs (R504). -/
def State.buffersFor (s : State) (r : RingRec) : Nat :=
  (r.size + s.cfgN Obj.HOST_BUF_SIZE - 1) / s.cfgN Obj.HOST_BUF_SIZE

/-- Descriptors of a record: one per buffer, and one for a completion. -/
def State.descriptorsFor (s : State) (r : RingRec) : Nat := max 1 (s.buffersFor r)

/-- What record `r` puts into its `i`-th buffer (R504). -/
def State.chunk (s : State) (r : RingRec) (i : Nat) : Bytes :=
  (r.content.drop (i * s.cfgN Obj.HOST_BUF_SIZE)).take (s.cfgN Obj.HOST_BUF_SIZE)

/-- The descriptors of a record from entry `index` on: one per buffer, each but the last with MORE set; one without a buffer for a record
that has no content (R504). -/
def State.descsOf (s : State) (n : Nat) (r : RingRec) (index : Nat) (bufs : List Nat) : List (Nat × Bytes) :=
  if bufs = [] then [(s.entryAddr n index, s.descOf r 0 0 false)]
  else bufs.zipIdx.map fun x =>
    (s.entryAddr n (index + x.2), s.descOf r (s.chunk r x.2).length x.1 (decide (x.2 + 1 < bufs.length)))

def State.setRing (s : State) (n : Fin 6) (r : Ring) : State :=
  { s with host := { s.host with ring := s.host.ring.set n r } }

/-- After a change to an index that the device owns, it is written to WRITEBACK (R500). -/
def State.writeback (s : State) (n : Fin 6) (value : Nat) : State :=
  if s.ringCfg n 1 = 0 then s else s.emit (.writeback n (s.ringCfg n 1) value)

/-- Signal the ring's vector and restart its moderation (R509). -/
def State.signalRing (s : State) (n : Fin 6) : State :=
  (s.setRing n { s.host.ring[n] with modCount := 0, modSince := none }).emit (.msix (s.ringCfg n 3))

/-- A ring can take a record now: it runs, bus mastering is on, it has room and there are buffers (R504, R512). -/
def State.ringReady (s : State) (n : Fin 6) (r : RingRec) : Bool :=
  s.hostServes && s.host.busMaster && (s.host.ring[n].st == 1 || s.host.ring[n].st == 2)
    && decide ((s.host.ring[n].prod + 2 ^ 32 - s.host.ring[n].cons) % 2 ^ 32 + s.descriptorsFor r ≤ s.ringCfg n 2)
    && decide (s.buffersFor r ≤ s.host.bufs.length)

/-- Write a record: its buffers, its descriptors, the producer index, the message when one is called for (R503,
R509). -/
def State.writeRecord (s : State) (n : Fin 6) (r : RingRec) : State :=
  let rg := s.host.ring[n]
  let k := s.buffersFor r
  let used := s.host.bufs.take k
  let p := (rg.prod + s.descriptorsFor r) % 2 ^ 32
  let s1 := { s with host := { s.host with
    bufs := s.host.bufs.drop k,
    ring := s.host.ring.set n { rg with
      st := 1, prod := p, modCount := rg.modCount + 1, modSince := some (rg.modSince.getD s.mono) } } }
  let s2 : State := (s1.emit (.ring n (used.zipIdx.map fun x => (x.1, s.chunk r x.2)) (s.descsOf n r rg.prod used))).writeback n p
  if s2.ringCfg n 6 = 0 ∨ s2.ringCfg n 5 ≤ rg.modCount + 1 then s2.signalRing n else s2

/-- Bytes waiting in the staging area; a completion counts its 64-byte descriptor (R504). -/
def State.stagingUsed (s : State) : Nat := (s.host.staging.map fun p => p.2.size + 64).sum

/-- Put a record on a device-produced ring (R504, R507, R511). -/
def State.postRing (s : State) (n : Fin 6) (r : RingRec) : State :=
  if (4 ≤ n.val ∧ s.cfgN Obj.HOST_RING_FORMAT = 1) ∨ (n.val ≠ 1 ∧ s.host.ring[n].st = 0) then
    s.count Obj.RING_DROPS n
  else if n.val = 1 ∧ s.host.ring[n].st = 0 then
    if s.host.held.length < 512 then { s with host := { s.host with held := s.host.held ++ [r] } }
    else s.count Obj.RING_DROPS n
  else if s.ringReady n r && !(s.host.staging.any fun p => p.1 == n.val) then s.writeRecord n r
  else if s.stagingUsed + r.size + 64 ≤ 1048576 then
    let s1 := { s with host := { s.host with staging := s.host.staging ++ [(n.val, r)] } }
    if s1.host.ring[n].st = 1 then s1.setRing n { s1.host.ring[n] with st := 2 } else s1
  else s.count Obj.RING_DROPS n

/-- Write the records of one ring that wait in the staging area and can now be written, oldest first; a ring that has
none left runs again (R504). -/
def State.drainRing (n : Fin 6) : Nat → State → State
  | 0, s => s
  | k + 1, s =>
    match s.host.staging.find? (fun p => p.1 == n.val) with
    | none => if s.host.ring[n].st = 2 then s.setRing n { s.host.ring[n] with st := 1 } else s
    | some (_, r) =>
      if s.ringReady n r then
        let s1 := { s with host := { s.host with staging := s.host.staging.eraseP (fun p => p.1 == n.val) } }
        State.drainRing n k (s1.writeRecord n r)
      else s

/-- Drain every device-produced ring (R504). -/
def State.drainRings (s : State) : State :=
  [1, 3, 4, 5].foldl (fun s (n : Fin 6) => State.drainRing n (s.host.staging.length + 1) s) s

/-! ### Raising an event (R546 to R550) -/

/-- SYS serves: the supervisor region is powered and out of reset (R414, R547). -/
def State.sysUp (s : State) : Bool := s.domServes 1 && !s.start.inReset

/-- The window of one code and instance in the running second of TB_MONO (R548). -/
def State.windowOf (s : State) (code inst : Nat) : EventWindow :=
  (s.flt.windows.find? fun w => w.code == code && w.inst == inst && w.second == s.mono / secHalfNs).getD
    ⟨code, inst, s.mono / secHalfNs, 0, 0⟩

def State.setWindow (s : State) (w : EventWindow) : State :=
  { s with flt := { s.flt with windows :=
      w :: s.flt.windows.filter fun v => !(v.code == w.code && v.inst == w.inst && v.second == w.second) } }

/-- Enter an entry in the log, in the archive's pending list and in the region's count, and send it when its class is
notified (R546, R549, R550). -/
def State.logEntry (s : State) (code inst flags time arg0 arg1 : Nat) : State :=
  let e : EventEntry := ⟨code, inst, flags, s.flt.nextSeq, time, arg0, arg1⟩
  let log := s.flt.log ++ [e]
  let s1 := { s with flt := { s.flt with
    log := log.drop (log.length - 4096),
    nextSeq := (s.flt.nextSeq + 1) % 2 ^ 32,
    archPending := s.flt.archPending ++ [e],
    archSince := if s.flt.archPending.isEmpty then s.mono else s.flt.archSince } }
  let s2 := s1.count Obj.EVENT_REGION_COUNTS (code / 0x1000 - 1)
  if (s2.cfgN Obj.EVENT_NOTIFY).testBit (eventClass code) then (s2.postRing 5 (.event e)).setIrq 2 else s2

/-- The event comes from a unit on the always-on rail: the AON and PWR regions, and the tamper and presence monitors (R414, R480, R489). -/
def aonEvent (code : Nat) : Bool :=
  code / 0x1000 == 0xC || code / 0x1000 == 0xD
    || [Ev.TAMPER_ALARM, Ev.ZEROISED, Ev.SEAL_OPENED, Ev.PRES_STUCK, Ev.PRESENCE_OPEN, Ev.PRESENCE_CLOSE].contains code

/-- While SYS does not serve, events of the always-on rail wait in the AON queue of 8, stamped with the tick count; beyond it they are
dropped and counted (R414). Other regions have no place to queue one. -/
def State.queueAon (s : State) (code inst arg0 arg1 flags : Nat) : State :=
  if !aonEvent code then s
  else if s.aon.queue.length < 8 then
    { s with aon := { s.aon with queue := s.aon.queue ++ [⟨code, inst, flags, arg0, arg1, s.aon.tick⟩] } }
  else s.count Obj.AON_COUNTS 3

/-- SYS turns on: the queued events enter the log first, in tick order, with QUEUED set and the tick count in TIME (R414, R546, R547). -/
def State.aonDrain (s : State) : State :=
  s.aon.queue.foldl (fun (s : State) (q : Queued) => s.logEntry q.code q.inst (q.flags ||| 1) (q.tick * 2 ^ 48) q.arg0 q.arg1)
    { s with aon := { s.aon with queue := [] } }

/-- Raise an event with flags. While SYS does not serve, AON queues it (R414); otherwise it is logged under R548. -/
def State.raiseF (s : State) (code inst arg0 arg1 flags : Nat) : State :=
  if !s.sysUp then s.queueAon code inst arg0 arg1 flags
  else
    let w := s.windowOf code inst
    if 16 ≤ w.logged ∧ eventClass code < 3 ∧ flags.testBit 1 = false then
      s.setWindow { w with suppressed := w.suppressed + 1 }
    else (s.setWindow { w with logged := w.logged + 1 }).logEntry code inst flags (ts96 s.mono) arg0 arg1

/-- Raise an event (R551): code, INSTANCE, ARG0 and ARG1. -/
def State.raise (s : State) (code : Nat) (inst : Nat := 0xFF) (arg0 arg1 : Nat := 0) : State :=
  s.raiseF code inst arg0 arg1 0

end Sys2Proof.Machine
end

