-- ==== Sys2Proof/Machine/Radio.lean ====
section
/-!
DEFINITION. The radio paths (04_radio_front_end.md): modes and durations (R161 to R166), the regulatory lock record
(R155, R156), the power table (R149 to R154), and what the commands that act on a path do to it (R126 to R148).
-/

namespace Sys2Proof.Machine

/-! ### Modes and durations (Table PH-1, R162, R165, R166) -/

/-- A mode of Table PH-1: symbol rate and bit rate in ks/s and kb/s, 99 % occupied bandwidth in kHz. -/
structure Mode where
  sub : Bool
  rs : Nat
  rb : Nat
  bw : Nat
deriving DecidableEq, Repr

/-- The modes of Table PH-1; any other code is none (R161). -/
def modeOf : Nat → Option Mode
  | 0x01 => some ⟨true, 50, 50, 100⟩
  | 0x02 => some ⟨true, 100, 100, 150⟩
  | 0x03 => some ⟨true, 150, 150, 220⟩
  | 0x04 => some ⟨true, 100, 200, 180⟩
  | 0x05 => some ⟨true, 150, 300, 270⟩
  | 0x06 => some ⟨true, 200, 400, 360⟩
  | 0x10 => some ⟨false, 62, 250, 2000⟩
  | 0x20 => some ⟨true, 50, 50, 100⟩
  | _ => none

/-- The time of `n` units at `r` thousand a second, in 0.5 ns. -/
def unitsAt (n r : Nat) : HalfNs := n * 2000000 / r

/-- T_SHR: from the first preamble symbol to the end of the SFD (R162, R165, R166). -/
def tShr (mode preamble : Nat) : HalfNs :=
  if mode = 0x10 then 5 * 64000
  else if mode = 0x20 then unitsAt (8 * 12) 50
  else match modeOf mode with
    | some m => unitsAt (8 * (preamble + 2)) m.rs
    | none => 0

/-- From S to L, the end of the last symbol (R162, R165, R166). -/
def airTime (mode psdu preamble : Nat) (fec : Bool) : HalfNs :=
  if mode = 0x10 then 64000 * (psdu + 6)
  else if mode = 0x20 then unitsAt (8 * (13 + psdu)) 50
  else match modeOf mode with
    | some m => tShr mode preamble + (if fec then unitsAt (16 * (psdu + 3)) m.rb else unitsAt (8 * (psdu + 2)) m.rb)
    | none => 0

/-- E − S: the driver has ramped down 4 µs after the last symbol (R139). -/
def txDuration (mode psdu preamble : Nat) (fec : Bool) : HalfNs := airTime mode psdu preamble fec + 4 * usHalfNs

def TxCmd.duration (c : TxCmd) : HalfNs := txDuration c.mode c.psdu c.preamble c.fec

/-- E of a transmit command that starts at its S. -/
def TxCmd.stop (c : TxCmd) : HalfNs := c.start + c.duration

/-! ### Paths -/

def State.path (s : State) (p : Fin 6) : Path := s.rf.path[p]

/-- The path cannot hear: off, in TX set-up or TX or returning from it, or calibrating (Table RF-2, R202). -/
def Path.deaf (x : Path) : Bool := x.st == 0 || x.st == 2 || x.st == 6 || x.st == 7 || x.st == 8

/-- Replace a path; since when it cannot hear is kept with it. -/
def State.putPath (s : State) (p : Fin 6) (x : Path) : State :=
  let y := { x with deafAt := if x.deaf && !(s.path p).deaf then s.air else x.deafAt }
  { s with rf := { s.rf with path := s.rf.path.set p y } }

def State.modPath (s : State) (p : Fin 6) (f : Path → Path) : State := s.putPath p (f (s.path p))

/-- The domain of a mesh path: SG0 to SG3, WB0, WB1 (Table PW-1). -/
def pathDomain (p : Fin 6) : Nat := 7 + p.val

/-- A sub-GHz path (Table RF-1). -/
def isSub (p : Fin 6) : Bool := p.val < 4

/-- A slice centre within the path's range and on its step (R122, Table RF-1). -/
def sliceOk (p : Fin 6) (khz : Nat) : Bool :=
  if isSub p then 414000 ≤ khz && khz ≤ 1016000 && khz % 100 == 0
  else 2410000 ≤ khz && khz ≤ 2473000 && khz % 500 == 0

/-- A carrier within the transmit range of a slice (R124, Table RF-1). -/
def inSlice (p : Fin 6) (centre carrier : Nat) : Bool :=
  let w := if isSub p then 3900 else 7500
  centre ≤ carrier + w && carrier ≤ centre + w

/-- MESH_PREAMBLE_OCTETS of a path. -/
def State.preamble (s : State) (p : Fin 6) : Nat := s.cfgN (inst Obj.MESH_PREAMBLE_OCTETS p)

/-- T_slot in 0.5 ns (R188). -/
def State.tSlot (s : State) : HalfNs := s.cfgN Obj.MESH_SLOT_MS * msHalfNs

/-- The end of the slot in which a TB_AIR instant lies (R187). -/
def State.slotEnd (s : State) (t : HalfNs) : HalfNs := (t / s.tSlot + 1) * s.tSlot

/-! ### The regulatory lock record (R155, R156) -/

/-- An entry of the lock record (Table RF-10); MAX_EIRP in 0.1 dBm. -/
structure LockEntry where
  low : Nat
  high : Nat
  eirp : Int
  duty : Nat
  dwellMs : Nat
  dwellWin : Nat
deriving DecidableEq, Repr

/-- A 16-bit two's complement number. -/
def toI16 (n : Nat) : Int := if n < 0x8000 then n else (n : Int) - 0x10000

/-- MAGIC and CRC of a lock record hold: the record is valid (R155, Table RF-10). -/
def lockValid (r : Bytes) : Bool :=
  r.length == 160 && leAt r 0 4 == 0x474C4B52 && crc32c (r.take 144) == leAt r 144 4

/-- FORMAT and ENTRIES of a lock record hold (Table RF-10). -/
def lockFormOk (r : Bytes) : Bool := leAt r 4 1 == 1 && 1 ≤ leAt r 6 1 && leAt r 6 1 ≤ 8

/-- The record in force: the lower slot whose MAGIC and CRC are valid (R155). -/
def State.lockRecord (s : State) : Option Bytes :=
  if lockValid s.fw.otp.lock[0] then some s.fw.otp.lock[0]
  else if lockValid s.fw.otp.lock[1] then some s.fw.otp.lock[1]
  else none

/-- REG_LOCK_STATE (Table RF-12). -/
def State.lockState (s : State) : Nat :=
  if s.lockRecord.isSome then 1
  else if s.fw.otp.lock[0].isEmpty && s.fw.otp.lock[1].isEmpty then 0 else 2

def lockEntry (r : Bytes) (n : Nat) : LockEntry :=
  let o := 16 + 16 * n
  ⟨leAt r o 4, leAt r (o + 4) 4, toI16 (leAt r (o + 8) 2), leAt r (o + 10) 2, leAt r (o + 12) 2, leAt r (o + 14) 2⟩

/-- The entries of the record in force with their numbers. -/
def State.lockEntries (s : State) : List (Nat × LockEntry) :=
  match s.lockRecord with
  | some r => (List.range (min 8 (leAt r 6 1))).map fun n => (n, lockEntry r n)
  | none => []

/-- FLAGS of the record in force (Table RF-10); 0 without one. -/
def State.lockFlags (s : State) : Nat := match s.lockRecord with | some r => leAt r 7 1 | none => 0

/-- REGION of the record in force; 0 without one (R167). -/
def State.lockRegion (s : State) : Nat := match s.lockRecord with | some r => leAt r 5 1 | none => 0

/-- The entry that holds a carrier with half the mode's occupied bandwidth on each side; of two, the one with the lower
MAX_EIRP (R156). -/
def State.lockFor (s : State) (carrier mode : Nat) : Option (Nat × LockEntry) :=
  match modeOf mode with
  | none => none
  | some m =>
    (s.lockEntries.filter fun x => x.2.low + m.bw / 2 ≤ carrier && carrier + m.bw / 2 < x.2.high).foldl
      (fun (best : Option (Nat × LockEntry)) x => match best with
        | none => some x
        | some b => if x.2.eirp < b.2.eirp then some x else some b) none

/-! ### The power table (R149 to R154) -/

/-- An entry of RF_PWR_TABLE (Table RF-8). -/
def State.pwrEntry (s : State) (p : Fin 6) (n : Nat) : Nat := s.cfgN (inst Obj.RF_PWR_TABLE p) n

/-- The fields VALID, PA_ON, PA_CODE and DRIVER of a power-table entry (Table RF-8). -/
def pwrValid (e : Nat) : Bool := e.testBit 31
def pwrPaOn (e : Nat) : Bool := e.testBit 30
def pwrPaCode (e : Nat) : Nat := e / 2 ^ 27 % 8
def pwrDriver (e : Nat) : Nat := e / 2 ^ 21 % 64

/-- P_ant of an entry in 0.1 dBm, from the tables given (R150). -/
def antPower (e : Nat) (gain : Nat → Int) (bypass loss : Int) : Int :=
  -20 + 5 * (pwrDriver e : Int) + (if pwrPaOn e then gain (pwrPaCode e) else bypass) - loss

def State.pAnt (s : State) (p : Fin 6) (n : Nat) : Int :=
  antPower (s.pwrEntry p n) (fun c => s.cfgI (inst Obj.RF_PA_GAIN p) c) (s.cfgI (inst Obj.RF_PA_BYPASS_GAIN p))
    (s.cfgI (inst Obj.RF_ANT_LOSS p))

/-- EIRP of an entry in 0.1 dBm (R150). -/
def State.eirp (s : State) (p : Fin 6) (n : Nat) : Int := s.pAnt p n + s.cfgI (inst Obj.RF_ANT_GAIN p)

/-- Thermal back-off and item-7 derate of a path in 0.1 dB (R146, R153). -/
def State.derate (s : State) (p : Fin 6) : Int :=
  30 * (s.rf.thermalSteps : Int) + (if s.roN (inst Obj.RF_CAL_STATUS p) 6 = 2 then 20 else 0)

/-- The highest valid entry at or below `n` that a predicate admits. -/
def State.highestEntry (s : State) (p : Fin 6) (ok : Nat → Bool) : Nat → Option Nat
  | 0 => if pwrValid (s.pwrEntry p 0) && ok 0 then some 0 else none
  | n + 1 => if pwrValid (s.pwrEntry p (n + 1)) && ok (n + 1) then some (n + 1) else s.highestEntry p ok n

/-- What the power rules give a transmission: the entry used, or the status it ends with; and whether the lock and
whether thermal back-off or derate lowered it (R152 to R154). -/
structure PwrPick where
  entry : Option Nat
  status : Nat
  byLock : Bool
  byHeat : Bool
  hitFloor : Bool
  hitCeil : Bool
deriving DecidableEq, Repr

/-- Choose the power-table entry for a carrier, a mode and a power index asked for (R151, R152, R154). -/
def State.pickPower (s : State) (p : Fin 6) (carrier mode asked : Nat) : PwrPick :=
  match s.lockFor carrier mode with
  | none => ⟨none, 0x06, false, false, false, false⟩
  | some (_, e) =>
    let ceil := s.cfgN (inst Obj.RF_TXPWR_CEIL p)
    let floor := s.cfgN (inst Obj.RF_TXPWR_FLOOR p)
    let free := s.highestEntry p (fun _ => true) ceil
    let lock := s.highestEntry p (fun n => decide (s.eirp p n ≤ e.eirp)) ceil
    let heat := s.highestEntry p (fun n => decide (s.eirp p n ≤ e.eirp - s.derate p)) ceil
    match lock, heat with
    | none, _ => ⟨none, 0x06, false, false, false, false⟩
    | some _, none => ⟨none, 0x0D, false, true, false, false⟩
    | some l, some h =>
      let want := max asked (min floor h)
      let n := (s.highestEntry p (fun _ => true) (min want h)).getD 0
      ⟨some n, 0, decide (l < min (max asked floor) (free.getD l)), decide (h < min (max asked floor) l),
        decide (asked < floor), decide (ceil < asked)⟩

/-! ### The end of a transmit command (R133) -/

/-- Record the end of a transmit command for Drover. -/
def State.endCmd (s : State) (p : Fin 6) (c : TxCmd) (status : Nat) (start stop : HalfNs) : State :=
  { s with rf := { s.rf with ended := s.rf.ended ++ [⟨p, c, status, start, stop⟩] } }

/-- Replace a path's queue: what marked its earliest command goes with that command (R132, R134). -/
def Path.withQueue (x : Path) (q : List TxCmd) : Path :=
  if (x.queue.head?.map (·.handle)) = (q.head?.map (·.handle)) then { x with queue := q }
  else { x with queue := q, due := false, judged := false, late := false }

/-- End every pending command of a path with a status. -/
def State.endQueue (s : State) (p : Fin 6) (status : Nat) : State :=
  let q := (s.path p).queue
  q.foldl (fun s c => s.endCmd p c status s.air s.air) (s.modPath p fun x => x.withQueue [])

/-- Remove the head of a path's queue. -/
def Path.popQueue (x : Path) : Path := { x with queue := x.queue.tail, due := false, judged := false, late := false }

/-- Begin to lock, to the slice centre or to a RETUNE carrier, first attempt, at an instant of TB_AIR (R124, R138). -/
def Path.lock (x : Path) (carrier : Option Nat) (now : HalfNs) : Path :=
  { x with st := 4, lockTry := 1, lockCarrier := carrier, lockAt := now }

/-- Merge items into a list of items in item order (R144). -/
def mergeItems (a b : List Nat) : List Nat := (List.range 9).filterMap fun i =>
  if a.contains (i + 1) || b.contains (i + 1) then some (i + 1) else none

/-- A radio status of Table RF-5 other than DONE, from a free value (R133). -/
def freeTxStatus (n : Nat) : Nat := 1 + n % 13

end Sys2Proof.Machine
end

