-- ==== Sys2Proof/Machine/Mesh.lean ====
section
/-!
DEFINITION. What the commands of Drover share: the grid and the hopping rule (R187 to R195), channel plans and lanes
(R167, R168), Flock records, duty accounts (R247 to R253), guard times and contacts (R207 to R218), the transaction
table (R242 to R246) and delivery requests (R273 to R279).
-/

namespace Sys2Proof.Machine

/-! ### The grid (R187) and hopping (R195) -/

def State.tSf (s : State) : HalfNs := 64 * s.tSlot

/-- The absolute slot number of an instant of TB_AIR; 0 while no slot length is set. -/
def State.absSlot (s : State) (t : HalfNs) : Nat := t / s.tSlot

/-- The superframe number of an instant, modulo 2⁴⁰ (R187). -/
def State.asnAt (s : State) (t : HalfNs) : Nat := t / s.tSf % 2 ^ 40

/-- The present ASN. -/
def State.asn (s : State) : Nat := s.asnAt s.air

/-- The bits set in the low 40 bits of a channel map, rising. -/
def mapBits (map : Nat) : List Nat := (List.range 40).filter fun i => map.testBit i

/-- The plan channel used in absolute slot `n` with offset `o` (R195). -/
def hopChannel (map c0 seed n o : Nat) : Nat :=
  let bits := mapBits map
  c0 + (bits[(n + o + seed) % 2 ^ 64 % bits.length]?).getD 0

/-- F0 in kHz and channel count of the sub-GHz plan in force (Table PH-2). -/
def State.plan (s : State) : Option (Nat × Nat) :=
  match s.lockRegion with
  | 1 => some (863100, 35)
  | 2 => some (902200, 129)
  | 3 => some (865100, 10)
  | 4 => some (920600, 37)
  | 5 => some (915200, 64)
  | 6 => some (917100, 32)
  | 7 => some (470200, 199)
  | 0xFE => some (s.cfgN Obj.MESH_PLAN_CUSTOM 0 0, s.cfgN Obj.MESH_PLAN_CUSTOM 0 1)
  | _ => none

/-- The centre of a plan channel in kHz (R167); none outside the plan. -/
def State.channelKhz (s : State) (p : Fin 6) (ch : Nat) : Option Nat :=
  if isSub p then
    match s.plan with
    | some (f0, count) => if ch < count then some (f0 + 200 * ch) else none
    | none => none
  else if 11 ≤ ch ∧ ch ≤ 26 then some (2405000 + 5000 * (ch - 11)) else none

/-- The centre of lane `k` of a path (R168). -/
def State.laneKhz (s : State) (p : Fin 6) (k : Nat) : Nat :=
  if isSub p then (s.path p).centre + 200 * k - 3900 else (s.path p).centre + 5000 * k - 7500

/-- Lane bits of MESH_LANE_CFG (R169). -/
def State.laneCfg (s : State) (p : Fin 6) (k : Nat) : Nat := s.cfgN (inst Obj.MESH_LANE_CFG p) k

def laneCount (p : Fin 6) : Nat := if isSub p then 40 else 4

/-- An enabled lane of a path that is centred on a carrier and is not retired (R168, R173). -/
def State.laneFor (s : State) (p : Fin 6) (khz : Nat) : Option Nat :=
  (List.range (laneCount p)).find? fun k =>
    (s.laneCfg p k).testBit 0 && s.laneKhz p k == khz && !(s.mesh.per[p].retired.testBit k)

/-- The plan channel whose centre a carrier is (R167, R168). -/
def State.khzChannel (s : State) (p : Fin 6) (khz : Nat) : Option Nat :=
  let n := if isSub p then match s.plan with | some (f0, _) => (khz - f0) / 200 | none => 0
    else (khz - 2405000) / 5000 + 11
  if s.channelKhz p n = some khz then some n else none

/-! ### Flock records (R257) -/

def State.recOf (s : State) (f : Nat) : Option FlockRec := (s.flock.recs.find? fun p => p.1 == f).map (·.2)

def State.setRec (s : State) (f : Nat) (r : FlockRec) : State :=
  { s with flock := { s.flock with recs := insertKey f r s.flock.recs } }

def State.modRec (s : State) (f : Nat) (g : FlockRec → FlockRec) : State :=
  match s.recOf f with
  | some r => s.setRec f { g r with dirty := true }
  | none => s

/-- A record's node tag (R181). -/
def FlockRec.tag (r : FlockRec) (f : Nat) : Nat := r.link.gen * 2 ^ 20 + f

/-! ### Derived keys (R465, R467) -/

/-- An operation uses a key derived from a slot's root: a hit in the cache, or a miss that starts a derivation (R467). -/
def State.useKey (s : State) (root : Fin 64) (label : Nat) (ctx : List Nat) : State :=
  let k : DerivedKey := ⟨root, s.sec.slot[root].gen, label, ctx⟩
  if s.sec.slot[root].st = 0 then s
  else if s.sec.cache.contains k then
    { s with sec := { s.sec with hits := s.sec.hits + 1, cache := k :: s.sec.cache.erase k } }
  else { s with sec := { s.sec with
    misses := s.sec.misses + 1
    deriving_ := if s.sec.deriving_.contains k then s.sec.deriving_ else s.sec.deriving_ ++ [k] } }

/-- Cells of a block that are retired (R16). -/
def State.retiredIn (s : State) (region block : Nat) : Nat :=
  (s.flt.retired.filter fun c => c.region == region && c.block == block).length

/-- A slot of the key store, SEC block 6, is retired (R16; the number is the model's, log entry 9). -/
def State.slotRetired (s : State) (i : Nat) : Bool := s.flt.retired.contains ⟨2, 6, i⟩

/-- Write a key slot; its generation rises by 1 (R469). A retired slot takes no key (R16). -/
def State.writeSlot (s : State) (i : Fin 64) (st key : Nat) : State :=
  let lost := s.slotRetired i
  { s with sec := { s.sec with slot := vmod s.sec.slot i fun x =>
    ⟨if lost then 0 else st, (x.gen + 1) % 2 ^ 32, if lost then 0 else key⟩ } }

/-- Erase a key slot; its generation rises by 1 (R469). -/
def State.eraseSlot (s : State) (i : Fin 64) : State := s.writeSlot i 0 0

/-- The link key of a record is used (Table SE-3). -/
def State.useLinkKey (s : State) (f : Nat) : State :=
  match s.recOf f with
  | some r => s.useKey 2 0 [r.cfg.eui, r.cfg.keyEpoch]
  | none => s

/-- External memory serves (R104, R264). -/
def State.extMem (s : State) : Bool := s.port.ddr == 2 && !s.isHeld 5

/-- A lookup of a record in the cache: a hit moves it to the front; a miss is counted and, while external memory
serves, its fetch begins (R261, R264). -/
def State.lookup (s : State) (f : Nat) : State :=
  if s.flock.cache.contains f then
    ({ s with flock := { s.flock with cache := f :: s.flock.cache.erase f } }).count Obj.FLOCK_HITS
  else
    let s := s.count Obj.FLOCK_MISSES
    if s.extMem && !s.flock.bad.contains f then { s with flock := { s.flock with fetching := s.flock.fetching.filter (· ≠ f) ++ [f] } } else s

/-- A record can be reached: it is not BAD, and it is in the cache or external memory serves the miss (R264, R517, Table
AC-5). -/
def State.reachable (s : State) (f : Nat) : Bool := !s.flock.bad.contains f && (s.flock.cache.contains f || s.extMem)

/-- Requests held or in a transaction for a record: DL_PENDING (Table FL-1). -/
def State.dlPending (s : State) (f : Nat) : Nat := (s.flock.reqs.filter fun q => q.flock == f).length

/-- The pin cases of R261. -/
def State.pinned (s : State) (f : Nat) (r : FlockRec) : Bool :=
  r.cfg.flags.testBit 1 || decide (0 < s.dlPending f) || (s.mesh.txns.any fun t => t.flock == f)
    || (s.flock.camp.toList.any fun c => (c.st == 1 || c.st == 2) && c.members.any fun m => m.flock == f && m.st == 1)
    || (r.cfg.cls == 0x0C && (r.link.st == 2 || r.link.st == 3))

/-- FLOCK_PINNED (R262). -/
def State.pinnedCount (s : State) : Nat := (s.flock.recs.filter fun p => s.pinned p.1 p.2).length

/-- One more record can become pinned, or it is pinned already (R262). -/
def State.canPin (s : State) (f : Nat) : Bool :=
  match s.recOf f with
  | some r => s.pinned f r || decide (s.pinnedCount < 12288)
  | none => decide (s.pinnedCount < 12288)

/-! ### Duty accounts (R247 to R253) -/

/-- The band of a path: 0 sub-GHz, 1 2.4 GHz; its object instance is 0 or 4 (R256). -/
def bandOf (p : Fin 6) : Fin 2 := if isSub p then 0 else 1
def bandInst (b : Fin 2) : Nat := if b = 0 then 0 else 4

/-- The limit L of an account in 0.001 %; 0xFFFF none (R247). -/
def State.dutyL (s : State) (b : Fin 2) (a : Nat) : Nat :=
  if a = 0 then s.cfgN (inst Obj.DUTY_BAND_LIMIT (bandInst b))
  else match s.lockEntries.find? (fun x => x.1 + 1 == a) with
    | some (_, e) => min e.duty (s.cfgN (inst Obj.DUTY_SUB_LIMIT (bandInst b)) (a - 1))
    | none => 0xFFFF

/-- The limit in ms per hour, when there is one (R247). -/
def State.dutyLimit (s : State) (b : Fin 2) (a : Nat) : Option Nat :=
  if s.dutyL b a = 0xFFFF then none else some (s.dutyL b a * 36)

def beaconReserve (limit : Nat) : Nat := (limit + 9) / 10

/-- The account; accounts beyond 8 do not exist. -/
def State.acct (s : State) (b : Fin 2) (a : Nat) : Account := vgetD s.mesh.band[b].acct a ⟨[], 0, false⟩

def State.setAcct (s : State) (b : Fin 2) (a : Nat) (x : Account) : State :=
  { s with mesh := { s.mesh with band := vmod s.mesh.band b fun d => { d with acct := d.acct.setIfInBounds a x } } }

/-- The TB_MONO minute (R248). -/
def State.minute (s : State) : Nat := s.mono / (60 * secHalfNs)

/-- General and beacon charges in the 60-bucket window (R248). -/
def Account.used (x : Account) (m : Nat) : Nat :=
  ((x.buckets.filter fun k => m < k.minute + 60).map (·.general)).sum
def Account.beaconUsed (x : Account) (m : Nat) : Nat :=
  ((x.buckets.filter fun k => m < k.minute + 60).map (·.beacon)).sum

/-- A data charge of `d` ms fits an account's general budget (R249). -/
def State.dutyFits (s : State) (b : Fin 2) (a d : Nat) : Bool :=
  match s.dutyLimit b a with
  | none => true
  | some l => decide ((s.acct b a).used s.minute + (s.acct b a).reserved + d ≤ l - beaconReserve l)

/-- A beacon charge fits the beacon reserve, which only a finite limit has (R247, R249). -/
def State.reserveFits (s : State) (b : Fin 2) (a d : Nat) : Bool :=
  match s.dutyLimit b a with
  | none => false
  | some l => decide ((s.acct b a).beaconUsed s.minute + d ≤ beaconReserve l)

/-- Note an account's decision: a denial is counted, the first refusal raises DUTY_EXHAUSTED and the next acceptance
DUTY_RESTORED, with the band and the lock-record entry (R249, R253). -/
def State.dutyNote (s : State) (b : Fin 2) (a : Nat) (ok : Bool) : State :=
  let x := s.acct b a
  let s1 := s.setAcct b a { x with exhausted := !ok }
  let s2 := if ok then s1 else s1.count (inst Obj.DUTY_DENIALS (bandInst b)) a
  if ok = x.exhausted then
    s2.raise (if ok then Ev.DUTY_RESTORED else Ev.DUTY_EXHAUSTED) (bandInst b)
      (if a = 0 then s2.draw.1 % 2 ^ 32 else a - 1)
  else s2

/-- Reserve a data charge on both accounts of a band, or refuse it (R249). -/
def State.dutyReserve (s : State) (b : Fin 2) (a d : Nat) : Bool × State :=
  let ok0 := s.dutyFits b 0 d
  let ok1 := s.dutyFits b a d
  let s := (s.dutyNote b 0 ok0).dutyNote b a ok1
  if ok0 && ok1 then
    let s := s.setAcct b 0 { s.acct b 0 with reserved := (s.acct b 0).reserved + d }
    (true, s.setAcct b a { s.acct b a with reserved := (s.acct b a).reserved + d })
  else (false, s)

/-- Release a reserved charge (R250). -/
def State.dutyRelease (s : State) (b : Fin 2) (a d : Nat) : State :=
  let s := s.setAcct b 0 { s.acct b 0 with reserved := (s.acct b 0).reserved - d }
  s.setAcct b a { s.acct b a with reserved := (s.acct b a).reserved - d }

/-- Add charges to the bucket of a TB_MONO minute (R248, R249). -/
def Account.charge (x : Account) (m general beacon : Nat) : Account :=
  match x.buckets.find? (fun k => k.minute == m) with
  | some _ => { x with buckets := x.buckets.map fun k =>
      if k.minute = m then { k with general := k.general + general, beacon := k.beacon + beacon } else k }
  | none => { x with buckets := ⟨m, general, beacon⟩ :: x.buckets }

/-- TB_MONO at an instant of TB_AIR that is not ahead (R249). -/
def State.monoAt (s : State) (t : HalfNs) : HalfNs := s.mono - (s.air - t)

/-- Charge both accounts of a band in the bucket of a TB_MONO minute. -/
def State.dutyCharge (s : State) (b : Fin 2) (a m general beacon : Nat) : State :=
  let s := s.setAcct b 0 ((s.acct b 0).charge m general beacon)
  s.setAcct b a ((s.acct b a).charge m general beacon)

/-- Charge a beacon to both accounts of a band: to the beacon reserve of each when it fits, else to its general budget
(R249). -/
def State.chargeBeacon (s : State) (b : Fin 2) (a m d : Nat) : State :=
  let put (s : State) (x : Nat) : State :=
    if s.reserveFits b x d then s.setAcct b x ((s.acct b x).charge m 0 d)
    else s.setAcct b x ((s.acct b x).charge m d 0)
  put (put s 0) a

/-- A duration in whole ms, rounded up (R249). -/
def ceilMs (t : HalfNs) : Nat := (t + msHalfNs - 1) / msHalfNs

/-- The lock-record entry's account for a carrier and mode: 1 + n (R249, R256). -/
def State.accountFor (s : State) (carrier mode : Nat) : Nat :=
  match s.lockFor carrier mode with
  | some (n, _) => n + 1
  | none => 0

/-- The dwell bucket of a TB_MONO instant for an entry (R251). -/
def dwellBucketAt (e : LockEntry) (t : HalfNs) : Nat := t * 20 / (e.dwellWin * secHalfNs)

/-- The dwell bucket of the present moment for an entry (R251). -/
def State.dwellBucket (s : State) (e : LockEntry) : Nat := dwellBucketAt e s.mono

/-- The dwell rule admits `d` ms on a plan channel; a carrier beside the plan has none (R251). -/
def State.dwellFits (s : State) (b : Fin 2) (chan : Option Nat) (carrier mode d : Nat) : Bool :=
  match s.lockFor carrier mode, chan with
  | some (_, e), some ch =>
    !(s.lockFlags.testBit 1) || e.dwellMs == 0 || e.dwellWin == 0 ||
      decide (((s.mesh.band[b].dwell.filter fun w => w.channel == ch && s.dwellBucket e < w.bucket + 20).map (·.ms)).sum
        + d ≤ e.dwellMs)
  | _, _ => true

/-- Record a dwell charge in the bucket of a TB_MONO instant while dwell is tracked (R251). -/
def State.dwellCharge (s : State) (b : Fin 2) (chan : Option Nat) (carrier mode : Nat) (t : HalfNs) (d : Nat) : State :=
  match s.lockFor carrier mode, chan with
  | some (_, e), some ch =>
    if s.lockFlags.testBit 1 ∧ e.dwellWin ≠ 0 then
      { s with mesh := { s.mesh with band := vmod s.mesh.band b fun k =>
          { k with dwell := ⟨ch, dwellBucketAt e t, d⟩ :: k.dwell } } }
    else s
  | _, _ => s

/-! ### Queuing a transmit command (R130, R131, R135, R141, R156) -/

/-- The status 0x104: RANGE of Table OD-6, kept apart from radio code 0x04 (R161). -/
def txRange : Nat := 0x104

/-- A transmit item of the start-up calibration failed without fall-back (Table RF-7, NOT_CALIBRATED). -/
def State.txCalFailed (s : State) (p : Fin 6) : Bool :=
  [5, 6, 7].any fun i => s.roN (inst Obj.RF_CAL_STATUS p) i == 3

/-- The PSDU lengths that a mode admits: N of R163, R165 and R166. -/
def psduOk (mode n : Nat) : Bool :=
  if mode = 0x10 then 5 ≤ n && n ≤ 127 else if mode = 0x20 then 2 ≤ n && n ≤ 255 else 1 ≤ n && n ≤ 2047

/-- Two transmissions of a path that come closer than E + 48 µs, whichever is first. R135 speaks of a command and the transmission before
it; that a command put before one it would overlap is itself the one rejected is a DESIGN CHOICE (log entry 97). -/
def tooClose (a b : TxCmd) : Bool :=
  if a.start ≤ b.start then decide (b.start < a.stop + 48 * usHalfNs)
  else decide (a.start < b.stop + 48 * usHalfNs)

/-- Why a path rejects a transmit command, none when it queues it (Table RF-4, Table RF-5). -/
def State.txReject (s : State) (p : Fin 6) (c : TxCmd) : Option Nat :=
  let x := s.path p
  if x.st = 0 ∨ !s.domOn (pathDomain p) ∨ s.cfgN (inst Obj.RF_PATH_ENABLE p) = 0 then some 0x0B
  else if x.st = 1 ∨ (x.st = 2 ∧ ((x.cal.map (·.startUp)).getD false) = true) then some 0x02
  else if x.st = 9 then some 0x0A
  else if !x.calibrated || s.txCalFailed p then some 0x02
  else if x.inhibit ∨ s.cfgN (inst Obj.RF_TX_ENABLE p) = 0 then some 0x07
  else if (modeOf c.mode).isNone ∨ ((modeOf c.mode).map (·.sub)).getD true ≠ isSub p
      ∨ !psduOk c.mode c.psdu then some txRange
  else if !c.retune && !inSlice p x.centre c.carrier then some 0x05
  else if (s.cfgN (inst Obj.RF_TX_MAX_MS p)) * msHalfNs < c.duration then some 0x08
  else if (s.lockFor c.carrier c.mode).isNone then some 0x06
  else if 4 ≤ x.queue.length then some 0x04
  else if x.queue.any (tooClose c) ∨ ((x.lastEnd.map fun e => decide (c.start < e + 48 * usHalfNs)).getD false) = true
      ∨ ((x.running.map fun r => decide (c.start < r.start + r.cmd.duration + 48 * usHalfNs)).getD false) = true then
    some 0x03
  else none

/-- Insert a command in the order of S (R131). -/
def insertByStart (c : TxCmd) : List TxCmd → List TxCmd
  | [] => [c]
  | d :: q => if c.start < d.start then c :: d :: q else d :: insertByStart c q

/-- No path transmits before START_DONE (R102), while TIME is held (Table AC-5), nor while TB_AIR is UNSET or PROVISIONAL
(R369). -/
def State.txAllowed (s : State) : Bool := s.start.st == 4 && !s.isHeld 0xB && decide (2 ≤ s.time.base[3].st)

/-- Hand a transmit command to a path: it is queued by S, or ends at once with its status (R130, R131). The status it
ends with before START_DONE, or while the safe state of Table AC-5 stops transmission, is not stated: a free value. -/
def State.txCommand (s : State) (p : Fin 6) (c : TxCmd) : State :=
  let c := { c with handle := s.rf.nextHandle }
  let s := { s with rf := { s.rf with nextHandle := s.rf.nextHandle + 1 } }
  match s.txReject p c with
  | some st => s.endCmd p c st s.air s.air
  | none =>
    if s.txAllowed then s.modPath p fun x =>
      let y := x.withQueue (insertByStart c x.queue)
      { y with due := y.due || (y.queue.head?.map fun d => decide (d.start ≤ s.air + 220 * usHalfNs)).getD false }
    else s.drawn.endCmd p c (freeTxStatus s.draw.1) s.air s.air

/-! ### Completions and transactions (R242 to R246, R275) -/

/-- Complete a delivery request: it leaves the store and its completion goes to ring 1 (R275, R510). -/
def State.completeReq (s : State) (q : DelReq) (status : Nat) (relayed : Bool) (attempts : Nat) : State :=
  let s1 := { s with flock := { s.flock with reqs := s.flock.reqs.filter fun r => r.id ≠ q.id } }
  let s2 := if status = 0 then s1.modRec q.flock fun r =>
      { r with route := { r.route with downlinks := min (r.route.downlinks + 1) 0xFFFFFFFF } } else s1
  if q.enrol.isSome then s2 else s2.postRing 1 (.dlDone q.tag status relayed (if status = 0x36 then q.skip else 0) attempts q.flock (ts96 s.air))

/-- LINK_TXN_STATUS_COUNTS and LINK_TXN_PEAK (Table LK-6). -/
def State.txnInUse (s : State) : Nat := s.mesh.txns.length

def State.putTxn (s : State) (t : Txn) : State :=
  { s with mesh := { s.mesh with txns := s.mesh.txns.map fun u => if u.id = t.id then t else u } }

def State.txnOf (s : State) (id : Nat) : Option Txn := s.mesh.txns.find? fun t => t.id == id

/-- An entry of the transaction table, MESH block 8, is retired (R16; the number is the model's, log entry 9). -/
def State.txnRetired (s : State) (i : Nat) : Bool := s.flt.retired.contains ⟨7, 8, i⟩

/-- The lowest free entry of the 512-entry table that is not retired (R16, R242). -/
def State.freeTxn (s : State) : Option Nat :=
  (List.range 512).find? fun i => !(s.txnRetired i) && !(s.mesh.txns.any fun t => t.id == i)

/-- Host entries in use (R242). -/
def State.hostTxns (s : State) : Nat := (s.mesh.txns.filter (·.host)).length

/-- How many entries host requests may use: 496, less those retired (R16, R242). -/
def State.hostRoom (s : State) : Nat := 496 - ((List.range 512).filter s.txnRetired).length

/-- The command belongs to a transaction. -/
def TxCmd.ofTxn (c : TxCmd) (id : Nat) : Bool := match c.owner with | .txn i _ => i == id | _ => false

/-- Keep a booked command until its path is due to take it (Table LK-3, R242). -/
def State.bookCmd (s : State) (p : Fin 6) (c : TxCmd) : State :=
  { s with mesh := { s.mesh with booked := s.mesh.booked ++ [(p, c)] } }

/-- The booked commands of a transaction are handed to their paths (Table LK-3 ON_AIR, R132). -/
def State.handOver (s : State) (id : Nat) : State :=
  (s.mesh.booked.filter fun b => b.2.ofTxn id).foldl (fun (s : State) (b : Fin 6 × TxCmd) => s.txCommand b.1 b.2)
    { s with mesh := { s.mesh with booked := s.mesh.booked.filter fun b => !b.2.ofTxn id } }

/-- Drop a transaction's booked commands, releasing their charges (R243, R250). -/
def State.dropBooked (s : State) (id : Nat) : State :=
  (s.mesh.booked.filter fun b => b.2.ofTxn id).foldl
    (fun (s : State) (b : Fin 6 × TxCmd) => s.dutyRelease (bandOf b.1) b.2.account b.2.reserved)
    { s with mesh := { s.mesh with booked := s.mesh.booked.filter fun b => !b.2.ofTxn id } }

/-- Remove a transaction's commands, booked or in a path's queue, releasing their charges (R225, R246, R250). -/
def State.dropCmds (s : State) (id : Nat) : State :=
  (List.finRange 6).foldl (fun s p =>
    let x := s.path p
    let mine := x.queue.filter fun c => c.ofTxn id
    mine.foldl (fun s c => s.dutyRelease (bandOf p) c.account c.reserved)
      (s.putPath p (x.withQueue (x.queue.filter fun c => !c.ofTxn id)))) (s.dropBooked id)

/-- A transaction ends: its entry is freed, its status counted, and the request it carried completes (Table LK-3, R246,
R275). -/
def State.endTxn (s : State) (t : Txn) (status : Nat) (relayed : Bool := false) : State :=
  let s1 := s.dropCmds t.id
  let s2 := { s1 with mesh := { s1.mesh with txns := s1.mesh.txns.filter fun u => u.id ≠ t.id } }
  let s3 := s2.count Obj.LINK_TXN_STATUS_COUNTS status
  match t.req with
  | some r =>
    match s3.flock.reqs.find? (fun q => q.id == r) with
    | some q => s3.completeReq q status relayed t.attempts
    | none => s3
  | none => s3

/-- End every transaction of a link with a status (R225, R230). -/
def State.endLinkTxns (s : State) (f status : Nat) : State :=
  (s.mesh.txns.filter fun t => t.flock == f && t.kind != .chorus).foldl (fun s t => s.endTxn t status) s

/-- Enter a transaction in state QUEUED (R242). -/
def State.addTxn (s : State) (t : Txn) : State :=
  let s1 := { s with mesh := { s.mesh with txns := s.mesh.txns ++ [t] } }
  s1.roSet Obj.LINK_TXN_PEAK 0 0 (max (s1.roN Obj.LINK_TXN_PEAK) s1.txnInUse)

/-- Replace a delivery request. -/
def State.putReq (s : State) (q : DelReq) : State :=
  { s with flock := { s.flock with reqs := s.flock.reqs.map fun r => if r.id = q.id then q else r } }

def State.reqOf (s : State) (id : Nat) : Option DelReq := s.flock.reqs.find? fun q => q.id == id

/-- Statuses from here on are chorus skips: this plus the reason of Table FL-6. They stay inside the block. -/
def skipBase : Nat := 0x200

/-! ### Chorus readiness (R281) -/

/-- Condition 1 of R281: TB_AIR is traceable, not in holdover, and its estimated error is at most FL_CHORUS_MAX_ERR. -/
def State.chorusTime (s : State) : Bool :=
  let b := s.time.base[3]
  b.flags.testBit 0 && !b.flags.testBit 1 && decide (b.err ≤ s.cfgN Obj.FL_CHORUS_MAX_ERR)

/-- Condition 2 of R281 for a path and a carrier; a path whose domain quiesces takes no new command (R455). -/
def State.chorusPath (s : State) (p : Fin 6) (khz : Nat) : Bool :=
  s.domOn (pathDomain p) && ((s.path p).st == 5 || (s.path p).st == 3) && inSlice p (s.path p).centre khz
    && s.roN (inst Obj.RF_CAL_STATUS p) 7 == 1

/-- The counter of R283; none when it is invalid. -/
def State.chorusCtr (s : State) (n i : Nat) : Option Nat :=
  let base := s.cfgN Obj.FL_CHORUS_BASE_SLOT
  if n < base ∨ 0xFFFFFFFF < 2 * (n - base) + i then none else some (2 * (n - base) + i)

/-- Condition 5 of R281: the district root is present and the counter of a slot is valid. -/
def State.chorusRoot (s : State) (n : Nat) : Bool := s.sec.slot[2].st != 0 && (s.chorusCtr n 1).isSome

end Sys2Proof.Machine
end

