-- ==== Sys2Proof/Machine/Air.lean ====
section
/-!
DEFINITION. The octets of a mesh frame (05_mesh_phy_and_frames.md R162 to R166, R178 to R184): information elements, MAC header, nonce,
PSDU, and what the PHY adds to it.
-/

namespace Sys2Proof.Machine

/-! ### Information elements (R182, Table PH-6) -/

/-- A number in `n` octets, two's complement. -/
def intLe (n : Nat) (v : Int) : Bytes := natLe n (v % (2 ^ (8 * n) : Nat)).toNat

/-- An Aperawen IE: the descriptor with the content length, the company identifier, the sub-ID, the fields. -/
def vendorIe (sub : Nat) (fields : Bytes) : Bytes :=
  natLe 2 (4 + fields.length) ++ ([0x4E, 0x1B, 0x7D] : Bytes) ++ natLe 1 sub ++ fields

/-- The octets of an information element. One that the receiver does not know stands with its element ID and content. -/
def ieOctets : Ie → Bytes
  | .addr dest src => vendorIe 0x01 (natLe 3 dest ++ natLe 3 src)
  | .sync asn slotMs flags member => vendorIe 0x02 (natLe 5 asn ++ natLe 1 slotMs ++ natLe 1 flags ++ natLe 1 member)
  | .hop region c0 map seed => vendorIe 0x03 (natLe 1 region ++ natLe 2 c0 ++ natLe 5 map ++ natLe 2 seed)
  | .chmapUpdate map value => vendorIe 0x04 (natLe 5 map ++ natLe 2 value)
  | .resync entries => vendorIe 0x05 (natLe 1 entries.length ++
      entries.flatMap fun e => natLe 3 e.1 ++ natLe 1 e.2.1 ++ natLe 2 e.2.2)
  | .sched slot period off first => vendorIe 0x06 (natLe 1 slot ++ natLe 2 period ++ natLe 1 off ++ natLe 5 first)
  | .alert target gap flags => vendorIe 0x07 (natLe 3 target ++ natLe 1 gap ++ natLe 1 flags)
  | .timing e cfo => vendorIe 0x08 (intLe 2 e ++ intLe 2 cfo)
  | .nodestat temp supply missed => vendorIe 0x09 (intLe 1 temp ++ natLe 1 supply ++ natLe 1 missed ++ natLe 1 0)
  | .route hops etx load => vendorIe 0x0A (natLe 1 hops ++ natLe 2 etx ++ natLe 1 load)
  | .campaign n block count => vendorIe 0x0B (natLe 1 n ++ natLe 2 block ++ natLe 2 count ++ natLe 1 0)
  | .blockAck n first bitmap => vendorIe 0x0C (natLe 1 n ++ natLe 2 first ++ natLe 8 bitmap)
  | .other id content => natLe 2 (content.length % 128 + id % 256 * 128) ++ content

/-- The header IEs of a frame; HT2 ends them when a MAC payload follows (R182). -/
def headerIes (ies : List Ie) (body : Bytes) : Bytes :=
  ies.flatMap ieOctets ++ (if body = [] then [] else ([0x80, 0x3F] : Bytes))

/-! ### Header, nonce and PSDU (R178 to R180, R237) -/

/-- The Frame Control field as Table PH-4 has it sent. -/
def AirOut.fc (f : AirOut) : Nat :=
  f.frameType + 8 + (if f.pending then 16 else 0) + (if f.ar then 32 else 0) + (if f.pre then 0xC000 else 64) + 0x2300

/-- The Security Control octet (R179): a beacon's, and those of the two forms of the other frames. -/
def AirOut.secCtrl (f : AirOut) : Nat := if f.frameType = 0 then 0x4A else if f.pre then 0x0E else 0x4E

/-- The MAC header with its IEs, from the fields that a sent and a received frame have in common (R178, R179, R182). -/
def mhrOctets (fc pan : Nat) (eui : Option Nat) (secCtrl counter key : Nat) (ies : List Ie) (body : Bytes) : Bytes :=
  natLe 2 fc ++ natLe 2 pan ++ (match eui with | some e => natLe 8 e | none => []) ++ natLe 1 secCtrl ++ natLe 4 counter
    ++ natLe 1 key ++ headerIes ies body

/-- The 13-octet CCM* nonce: before association EUI-64, counter, level; after it source tag, ASN, counter, level (R180). The level is the
low three bits of the Security Control octet. -/
def nonceOctets (eui : Option Nat) (src asn counter secCtrl : Nat) : Bytes :=
  (match eui with
    | some e => natLe 8 e
    | none => natLe 3 src ++ natLe 5 asn) ++ natLe 4 counter ++ natLe 1 (secCtrl % 8)

/-- The authenticated octets: the header, and for an acknowledgement the counter of the frame it acknowledges (R237). -/
def authOctets (mhr : Bytes) (ackOf : Option Nat) : Bytes := mhr ++ (match ackOf with | some c => natLe 4 c | none => [])

def AirOut.eui (f : AirOut) : Option Nat := if f.pre then some f.src else none

def AirOut.mhr (f : AirOut) (pan : Nat) : Bytes := mhrOctets f.fc pan f.eui f.secCtrl f.counter f.key f.ies f.body

def AirOut.nonce (f : AirOut) : Bytes := nonceOctets f.eui f.src f.asn f.counter f.secCtrl

/-- Octets of the FCS in a mode (R163, R166). -/
def fcsLen (mode : Nat) : Nat := if mode = 0x10 then 2 else 4

/-- The PSDU as built: header, encrypted octets, MIC-64, FCS (R163, R166, R178 to R182). -/
def AirOut.psdu (f : AirOut) (pan mode : Nat) : Bytes :=
  let m := f.mhr pan
  let c := if f.body = [] then [] else ccmCipher f.keyVal f.nonce f.body
  let w := m ++ c ++ natLe 8 (ccmMic f.keyVal f.nonce (authOctets m f.ackOf) f.body)
  w ++ natLe (fcsLen mode) (fcs (fcsLen mode) w)

/-- The PSDU length N of a frame in a mode; CCM* cipher text is as long as what it encrypts. -/
def AirOut.len (f : AirOut) (mode : Nat) : Nat := (f.mhr 0).length + f.body.length + 8 + fcsLen mode

/-! ### The PHY (R162 to R166) -/

/-- The next state of the PN9 generator x⁹ + x⁵ + 1 (IEEE 802.15.4; PRESUMED, log entry 103). -/
def pn9Next (r : Nat) : Nat := r / 2 + (if r.testBit 0 != r.testBit 5 then 256 else 0)

/-- The octets of the PN9 sequence from a state, least significant bit first. -/
def pn9 : Nat → Nat → Bytes
  | 0, _ => []
  | n + 1, r =>
    BitVec.ofNat 8 r :: pn9 n (pn9Next (pn9Next (pn9Next (pn9Next (pn9Next (pn9Next (pn9Next (pn9Next r))))))))

/-- Whitening of a PSDU, seed 0x1FF (R164). -/
def whiten (psdu : Bytes) : Bytes := (psdu.zip (pn9 psdu.length 0x1FF)).map fun x => x.1 ^^^ x.2

/-- The PHR of a SUN FSK frame with MS 0 and FCS type 0: DW in bit 4, N in bits 5 to 15 (R163). -/
def phrOf (white : Bool) (n : Nat) : Nat := (if white then 16 else 0) + n % 2048 * 32

/-- A frame of a mode as it goes on air: preamble, SFD and PHR of R162, R163 and R166, preamble, sync word and length octet of R165;
whitening and FEC of R164. -/
def phyFrame (mode p : Nat) (fec white : Bool) (psdu : Bytes) : PhyFrame :=
  if mode = 0x10 then ⟨List.replicate 4 0, 0xA7, psdu.length % 128, psdu, []⟩
  else if mode = 0x20 then ⟨List.replicate 8 0xAA, 0x7A0E93C6, psdu.length % 256, psdu, []⟩
  else
    let phr := phrOf white psdu.length
    let w := if white then whiten psdu else psdu
    ⟨List.replicate p 0x55, if fec then 0x6F4E else 0x904E, phr, w,
      if fec then Config.fecEncode (natLe 2 phr ++ w ++ natLe 1 0) else []⟩

/-- The PHY frame of a transmit command (R162 to R164): the path's preamble and whitening. -/
def State.phyOf (s : State) (p : Fin 6) (c : TxCmd) : PhyFrame :=
  phyFrame c.mode c.preamble c.fec (s.cfgN (inst Obj.MESH_TX_WHITEN p) == 1) (match c.frame with
    | .mac f => f.psdu (s.cfgN Obj.MESH_PAN_ID) c.mode
    | .raw d => d)

/-! ### Keys of frames (R179, Table SE-3) -/

/-- The link key of an identity and key epoch under the district root. -/
def State.linkKeyOf (s : State) (eui epoch : Nat) : Nat := kdf s.sec.slot[2].key 0 [eui, epoch]

/-- The link key of a record; 0 without one. -/
def State.recKey (s : State) (f : Nat) : Nat :=
  match s.recOf f with
  | some r => s.linkKeyOf r.cfg.eui r.cfg.keyEpoch
  | none => 0

/-- A group's key (Table SE-4). -/
def State.groupKey (s : State) (tag : Nat) : Nat := kdf s.sec.slot[2].key 2 [tag]

end Sys2Proof.Machine
end

