-- ==== Sys2Proof/Machine/Links.lean ====
section
/-!
DEFINITION. Links: guard times and windows (R209 to R217), channel-map updates (R228, R229), contacts and the drift bound (R208, R214,
R218), routes and ETX (R269, R270), frames to nodes and replies (R192, R238), booking (R193, R203, R213, R243), and the settlement of
ended transmit commands (R201, R244, R250).
-/

namespace Sys2Proof.Machine

/-! ### Guard times (R209 to R216) -/

/-- TB_SLEW_ACC of TB_AIR (R366). -/
def State.slewAcc (s : State) : Int := s.time.base[3].slew

/-- ΔA: the change of TB_AIR's slew accumulator since a record's last contact, as a signed difference modulo 2³² (R209, R366). -/
def State.slewSince (s : State) (r : FlockRec) : Int := wrap32 (s.slewAcc - r.drift.slewRef)

/-- b_eff of R210 in 0.01 ppm; an undefined T_b adds no temperature term. -/
def State.beff (s : State) (r : FlockRec) : Nat :=
  let dt : Nat := if r.drift.tb = -128 then 0 else (r.drift.lastTemp - r.drift.tb).natAbs
  max 200 (r.drift.b + s.cfgN Obj.MESH_DRIFT_TEMPCO * (dt + s.cfgN Obj.MESH_DRIFT_TSWING))

/-- g of R210 in µs for a drift bound in 0.01 ppm and an elapsed time in 0.5 ns. -/
def guardUs (beff elapsed : Nat) : Nat := 208 + (beff * elapsed + 199999999999) / 200000000000

/-- The elapsed time of R211 at an instant of TB_AIR. -/
def State.elapsed (s : State) (r : FlockRec) (t : HalfNs) : HalfNs :=
  let e := t - r.drift.since
  if r.cfg.cls = 0x0A then e else min e (3 * s.tSf)

/-- The start of a superframe's slot on TB_AIR, the superframe taken next to the present one (R187). -/
def State.slotAt (s : State) (asn slot : Nat) : HalfNs :=
  (s.air / s.tSf / 2 ^ 40 * 2 ^ 40 + asn) * s.tSf + slot * s.tSlot

/-- The path on which a record's link runs, for its preamble length; path 0 for a relayed node. -/
def linkPath (r : FlockRec) : Fin 6 := if h : r.link.path < 6 then ⟨r.link.path, h⟩ else 0

/-- T_exp of a node's frame in a slot that starts at `t0` (R209): T_SHR of the link's mode, with the preamble of its path. -/
def State.tExp (s : State) (r : FlockRec) (t0 : HalfNs) : Int :=
  t0 + 1000 * usHalfNs + tShr r.link.mode (s.preamble (linkPath r)) + s.slewSince r

/-- A window of a link: its limits around T_exp (R212, R216), in 0.5 ns. -/
def State.window (s : State) (r : FlockRec) (t0 : HalfNs) : Int × Int :=
  let te := s.tExp r t0
  let el := s.elapsed r te.toNat
  if r.link.st = 3 then
    let w : Int := min (guardUs (2 * s.beff r) el) (s.cfgN Obj.MESH_RESYNC_MAX) * usHalfNs
    (te - w, te + w)
  else
    let g : Int := guardUs (s.beff r) el * usHalfNs
    let c : Int := r.drift.pendC * 1000
    (te - g - max 0 (-c), te + g + max 0 c)

/-- The ASN of the link's next scheduled superframe at or after `asn` (R194). -/
def nextSched (r : FlockRec) (asn : Nat) : Nat :=
  if asn ≤ r.link.firstAsn then r.link.firstAsn
  else r.link.firstAsn + (asn - r.link.firstAsn + r.link.period - 1) / r.link.period * r.link.period

/-- The link has a scheduled slot in a superframe (R194). -/
def scheduledIn (r : FlockRec) (asn : Nat) : Bool :=
  r.link.period != 0 && decide (r.link.firstAsn ≤ asn) && (asn - r.link.firstAsn) % r.link.period == 0

/-- g of the next scheduled window exceeds half a slot (R215). -/
def State.guardTooWide (s : State) (r : FlockRec) : Bool :=
  let t0 := s.slotAt (nextSched r (s.asn + 1)) r.link.slot
  decide (s.tSlot < 2 * guardUs (s.beff r) (s.elapsed r (s.tExp r t0).toNat) * usHalfNs)

/-- Count a window that opens, in the class of its guard time (MESH_GUARD_HIST, Table SF-4). -/
def State.countWindow (s : State) (r : FlockRec) (t0 : HalfNs) : State :=
  let g := guardUs (s.beff r) (s.elapsed r (s.tExp r t0).toNat)
  let k : Fin 8 := if r.link.st = 3 then 7 else if g < 250 then 0 else if g < 500 then 1 else if g < 1000 then 2
    else if g < 2000 then 3 else if g < 4000 then 4 else if g < 8000 then 5 else 6
  { s with mesh := { s.mesh with guardNow := vmod s.mesh.guardNow k (· + 1) } }

/-! ### The windows of a link (R213, R217, R241) -/

/-- A window of the link opens in a superframe: a scheduled one, a retry window, or a search window that a beacon announced (R194, R217,
R241). -/
def State.windowIn (s : State) (f : Nat) (r : FlockRec) (n : Nat) : Bool :=
  scheduledIn r n || (s.mesh.retry.any fun w => w.flock == f && w.asn == n) || (r.link.st == 3 && s.mesh.search.contains (f, n))

/-- Of a window, the latest end E of the exchange that it opens: in the slot in which it ends (R193, R213). -/
def State.windowStop (s : State) (w : Int × Int) : Int := max w.2 ((s.slotEnd w.2.toNat : Nat) - 400 * usHalfNs : Int)

/-- A listening window of some link of the path overlaps [a, b) (R213): from window start − T_SHR to the latest end of the exchange it
opens, in the superframes around it. -/
def State.windowsOverlap (s : State) (p : Fin 6) (skip : Nat) (a b : HalfNs) : Bool :=
  s.flock.recs.any fun x =>
    let r := x.2
    x.1 != skip && r.link.st != 0 && r.link.path == p.val &&
      [s.asnAt a - 1, s.asnAt a, s.asnAt a + 1].any fun n =>
        s.windowIn x.1 r n &&
          let w := s.window r (s.slotAt n r.link.slot)
          decide (w.1 - tShr r.link.mode (s.preamble p) < b) && decide ((a : Int) < s.windowStop w)

/-- The superframe of the window of a link that a stamp falls in: one opens only while the path is on and the record in the cache (R213,
R263, R457). -/
def State.windowOf1 (s : State) (p : Fin 6) (t : HalfNs) (f : Nat) (r : FlockRec) : Option Nat :=
  if r.link.st = 0 ∨ r.link.path ≠ p.val ∨ !s.domOn (pathDomain p) ∨ !s.flock.cache.contains f then none
  else [s.asnAt t - 1, s.asnAt t, s.asnAt t + 1].find? fun n =>
    s.windowIn f r n &&
      let w := s.window r (s.slotAt n r.link.slot)
      decide (w.1 ≤ (t : Int)) && decide ((t : Int) < w.2)

/-- The listening window that caught a frame of a path, by its stamp: the window of its source's own link first, else of any link; Flock
number and scheduled superframe (R190). -/
def State.windowCatch (s : State) (p : Fin 6) (t : HalfNs) (own : Nat) : Option (Nat × Nat) :=
  match (s.recOf own).bind (s.windowOf1 p t own) with
  | some n => some (own, n)
  | none => s.flock.recs.findSome? fun x => (s.windowOf1 p t x.1 x.2).map fun n => (x.1, n)

/-! ### Channel maps (R226 to R229) -/

/-- The map and first channel in force on a path: the pending ones from the apply-ASN on (R228). -/
def State.mapInForce (s : State) (p : Fin 6) : Nat × Nat :=
  match s.mesh.per[p].update with
  | some u => if u.inForce then (u.map, u.c0) else (s.mesh.per[p].map, s.mesh.per[p].c0)
  | none => (s.mesh.per[p].map, s.mesh.per[p].c0)

/-- A link has switched to the pending map of its path: class A from the event named to it, class B and C from the apply-ASN (R228). -/
def switched (r : FlockRec) (u : ChUpdate) (asn : Nat) : Bool :=
  r.link.onPending || (if r.cfg.cls = 0x0A then (r.link.switchAt.map fun a => decide (a ≤ asn)).getD false else decide (u.applyAsn ≤ asn))

/-- The map and first channel that a link uses in a superframe (R226, R228). -/
def State.linkMap (s : State) (p : Fin 6) (r : FlockRec) (asn : Nat) : Nat × Nat :=
  match s.mesh.per[p].update with
  | some u => if switched r u asn then (u.map, u.c0) else (s.mesh.per[p].map, s.mesh.per[p].c0)
  | none => (s.mesh.per[p].map, s.mesh.per[p].c0)

/-- The links of a path outside DETACHED that have not confirmed the pending map (R229). -/
def State.unconfirmed (s : State) (p : Fin 6) : Nat :=
  (s.flock.recs.filter fun x => x.2.link.st != 0 && x.2.link.path == p.val && !x.2.link.confirmed).length

/-- Change the link fields of every record of a path. -/
def State.modLinks (s : State) (p : Fin 6) (g : FlockRec → FlockLink) : State :=
  { s with flock := { s.flock with recs := s.flock.recs.map fun (x : Nat × FlockRec) =>
    if x.2.link.path = p.val then (x.1, { x.2 with link := g x.2 }) else x } }

def State.modPer (s : State) (p : Fin 6) (g : PathMesh → PathMesh) : State :=
  { s with mesh := { s.mesh with per := vmod s.mesh.per p g } }

/-- Once the pending map is in force and every link of the path has confirmed or is DETACHED, the update is complete
(R229). -/
def State.chmapCheck (s : State) (p : Fin 6) : State :=
  match s.mesh.per[p].update with
  | some u =>
    if u.inForce ∧ s.unconfirmed p = 0 then
      let s1 := (s.cfgPut (inst Obj.MESH_CHMAP p) (scalar u.map)).cfgPut (inst Obj.MESH_CHMAP_C0 p) (scalar u.c0)
      let s2 := s1.modPer p fun x => { x with map := u.map, c0 := u.c0, update := none }
      (s2.modLinks p fun r => { r.link with onPending := false, switchAt := none, named := [] }).raise Ev.CHMAP_DONE p
    else s
  | none => s

/-- Start a channel-map update of a path (R227, R228): it applies LINK_CHMAP_LEAD superframes ahead. -/
def State.startUpdate (s : State) (p : Fin 6) (map c0 : Nat) : State :=
  let u : ChUpdate := ⟨map, c0, (s.asn + s.cfgN Obj.LINK_CHMAP_LEAD) % 2 ^ 40, false⟩
  (s.modPer p fun x => { x with update := some u }).modLinks p fun r =>
    if r.link.st = 0 then r.link else { r.link with onPending := false, confirmed := false, switchAt := none, named := [] }

/-! ### Link state changes (R215, R218, R230) -/

def State.setLinkState (s : State) (f st : Nat) : State :=
  s.modRec f fun r => { r with link := { r.link with st := st } }

/-- A link enters RESYNC (R215). -/
def State.enterResync (s : State) (f : Nat) : State :=
  ((s.setLinkState f 3).count Obj.MESH_RESYNC_COUNTS 0).raise Ev.LINK_RESYNC 0xFF f

/-- An ACTIVE link of this member's own whose next window would be too wide enters RESYNC; nothing is scheduled before TB_AIR is
established (R215, R369). -/
def State.resyncCheck (s : State) (f : Nat) : State :=
  match s.recOf f with
  | some r =>
    if r.link.st = 2 ∧ r.link.path < 6 ∧ r.link.period ≠ 0 ∧ 2 ≤ s.time.base[3].st ∧ s.guardTooWide r then s.enterResync f else s
  | none => s

/-- The same for every link (R215). -/
def State.resyncAll (s : State) : State := s.flock.recs.foldl (fun (s : State) (x : Nat × FlockRec) => s.resyncCheck x.1) s

/-- A link becomes DETACHED; its transactions end with a status, a removal has no more to do, and a channel-map update waits for it no
longer (R225, R229, R230, R232). -/
def State.detach (s : State) (f status : Nat) : State :=
  match s.recOf f with
  | none => s
  | some r =>
    let s1 := (s.modRec f fun r => { r with link := { r.link with st := 0, leave := none } }).endLinkTxns f status
    if h : r.link.path < 6 then s1.chmapCheck ⟨r.link.path, h⟩ else s1

/-! ### Contacts (R208, R214, R218) -/

/-- Of a rational that the record can hold only whole: its floor, or the next whole number by a free value. -/
def roundFree (num : Int) (den : Nat) (free : Nat) : Int :=
  let q := num / (den : Int)
  if q * (den : Int) = num then q else if free % 2 = 0 then q else q + 1

/-- The learned bound after a contact, in 0.01 ppm rounded up (R214): `e` in 0.5 ns, `dt` in 0.5 ns, `h` twice the
distance of T_avg from T_b in °C, `k` K_T in 0.01 ppm/°C. -/
def learnBound (b : Nat) (e : Int) (dt k h : Nat) : Nat :=
  let num : Nat := 2 * (e.natAbs - 40000) * 100000000 - k * h * dt
  let den : Nat := 2 * dt
  if b * den < num then min 25000 ((5 * num + 4 * den - 1) / (4 * den))
  else max 200 ((28 * b * den + 5 * num + 32 * den - 1) / (32 * den))

/-- The timing error of a contact: measured against T_exp or T_exp + c, whichever is nearer (R212), in 0.5 ns. -/
def timingError (stamp tExp c : Int) : Int :=
  let a := stamp - tExp
  let b := stamp - (tExp + c)
  if b.natAbs < a.natAbs then b else a

/-- A time in 0.5 ns in units of 0.5 µs, rounded to nearest and saturated at ±32,767 (R208). -/
def toTiming (e : Int) : Int := max (-32767) (min 32767 ((e + 500) / 1000))

/-- Apply a contact to a record: contact fields, bound, temperature (R208, R214); the first contact of a link has none before it, so it
leaves the bound. `stat` is the NODESTAT report, none for an acknowledgement (R182). -/
def State.contactRec (s : State) (r : FlockRec) (stamp : HalfNs) (e : Int) (stat : Option (Int × Nat × Nat)) :
    FlockRec :=
  let d := r.drift
  let dt := stamp - ts96Half d.lastContact
  let t2 : Int := match stat with | some (t, _, _) => d.lastTemp + t | none => 2 * d.lastTemp
  let fr := s.draw.1
  let d1 : FlockDrift :=
    if d.lastContact = 0 ∨ dt < 60 * secHalfNs then d
    else
      let tb := if d.tb = -128 then roundFree t2 2 fr else d.tb
      { d with
        b := learnBound d.b e dt (s.cfgN Obj.MESH_DRIFT_TEMPCO) (t2 - 2 * tb).natAbs
        tb := roundFree (30 * tb + t2) 32 (fr / 2) }
  let d2 : FlockDrift := { d1 with
    lastContact := ts96 stamp, since := stamp, lastE := toTiming e, pendC := 0, slewRef := s.slewAcc, misses := 0,
    lastTemp := match stat with | some (t, _, _) => t | none => d.lastTemp
    lastSupply := match stat with | some (_, v, _) => v | none => d.lastSupply
    lastMissed := match stat with | some (_, _, m) => m | none => d.lastMissed }
  { r with drift := d2, superv := stamp, dirty := true }

/-- A contact of a link (R208, R215, R218): the record is updated, a JOINING link becomes ACTIVE, a RESYNC link returns; a link whose next
window is too wide all the same enters RESYNC. -/
def State.contact (s : State) (f : Nat) (stamp : HalfNs) (e : Int) (stat : Option (Int × Nat × Nat)) : State :=
  match s.recOf f with
  | none => s
  | some r =>
    let s1 := (s.setRec f (s.contactRec r stamp e stat)).drawn
    let s2 := { s1 with mesh := { s1.mesh with retry := s1.mesh.retry.filter fun w => w.flock ≠ f } }
    (if r.link.st = 1 then s2.setLinkState f 2
    else if r.link.st = 3 then
      ((s2.setLinkState f 2).count Obj.MESH_RESYNC_COUNTS 1).raise Ev.LINK_RESYNC_DONE 0xFF f
    else s2).resyncCheck f

/-- ETX after an event of R270. -/
def etxStep (p : Nat) (ok : Bool) : Nat := if ok then p + (65536 - p) / 16 else p - (p + 15) / 16

def etxOf (p : Nat) : Nat := if p = 0 then 0xFFFF else min 0xFFFF ((128 * 65536 + p - 1) / p)

def State.etxEvent (s : State) (f : Nat) (ok : Bool) : State :=
  s.modRec f fun r =>
    let p := etxStep r.route.ratio ok
    { r with route := { r.route with ratio := p, etx := etxOf p } }

/-- The node's route after a frame that arrived directly or through relay `via` (R269). -/
def State.routeStep (s : State) (f : Nat) (via : Option Nat) (p : Fin 6) : State :=
  match s.recOf f with
  | none => s
  | some r =>
    let hop := via.getD 0xFFFFFFFF
    let link := { r.link with relayed := via.isSome, path := if via.isSome then 0xFF else p.val }
    if r.route.nextHop = hop then s.setRec f { r with link := link }
    else
      let s1 := s.setRec f { r with dirty := true, link := link, route := { r.route with
        prevHop := r.route.nextHop, prevTime := s.mono / secHalfNs % 2 ^ 32, nextHop := hop } }
      (s1.count Obj.FLOCK_ROUTE_CHANGES).raise Ev.ROUTE_CHANGED 0xFF f hop

/-- Count an accepted frame of a node in its record (Table FL-1). -/
def State.countUplink (s : State) (f : Nat) : State :=
  s.modRec f fun r => { r with route := { r.route with
    uplinks := min (r.route.uplinks + 1) 0xFFFFFFFF, lastUplink := s.mono / secHalfNs % 2 ^ 32 } }

/-- The supervision time of a link (R230). -/
def State.supervision (s : State) (r : FlockRec) : HalfNs :=
  max (s.cfgN Obj.LINK_SUPERVISION (r.cfg.cls - 0x0A) * secHalfNs) (3 * r.link.period * s.tSf)

/-- A relay can carry traffic: attached and neither LOST nor EXPIRED (R269). -/
def State.relayUsable (s : State) (f : Nat) : Bool :=
  match s.recOf f with
  | some r => r.cfg.cls == 0x0C && (r.link.st == 2 || r.link.st == 3) && r.route.nbrState != 2 && r.route.nbrState != 3
  | none => false

/-- The downlink route of a node: itself when direct, otherwise the relay to book toward (R269). -/
def State.routeTo (s : State) (f : Nat) : Option Nat :=
  match s.recOf f with
  | none => none
  | some r =>
    if r.route.nextHop = 0xFFFFFFFF then some f
    else if s.relayUsable r.route.nextHop then some r.route.nextHop
    else if r.route.prevHop ≠ 0xFFFFFFFF ∧ s.relayUsable r.route.prevHop
        ∧ s.mono / secHalfNs ≤ r.route.prevTime + s.supervision r / secHalfNs then some r.route.prevHop
    else none

/-! ### Replies (R192, R238, R250) -/

/-- This member's source tag (Table PH-5). -/
def State.memberTag (s : State) : Nat := 0xF00000 + s.cfgN Obj.MESH_MEMBER

/-- The largest outbound counter that may be used (R234). -/
def ctrMax : Nat := 0xFFFFFFFF

/-- Take an outbound counter of a record; LINK_CTR_HIGH when it reaches 0xFFFF_F000 (R233, R234). A restored record's
counter is first raised by LINK_CTR_MARGIN (R234). -/
def State.takeCtr (s : State) (f : Nat) : Option Nat × State :=
  match s.recOf f with
  | none => (none, s)
  | some r =>
    if ctrMax ≤ r.ctr.own then (none, s)
    else
      let s1 := (s.useLinkKey f).setRec f { r with dirty := true, ctr := { r.ctr with own := r.ctr.own + 1 } }
      (some r.ctr.own, if r.ctr.own + 1 = 0xFFFFF000 then s1.raise Ev.LINK_CTR_HIGH 0xFF f else s1)

/-- Take an outbound counter toward a neighbour without a record, by its EUI-64 and key index (R233). -/
def State.takeOther (s : State) (eui key : Nat) : Nat × State :=
  let n := ((s.mesh.ctrOut.find? fun x => x.1 == eui && x.2.1 == key).map (·.2.2)).getD 0
  (n, { s with mesh := { s.mesh with
    ctrOut := (eui, key, min ctrMax (n + 1)) :: s.mesh.ctrOut.filter fun x => !(x.1 == eui && x.2.1 == key) } })

/-- Counters of a record start again at 0, and its replay state anew, when the link key changes (R233, R235). -/
def FlockRec.rekeyed (r : FlockRec) : FlockRec :=
  { r with ctr := { own := 0, district := 0, top := 0, seen := 0, valid := false }, dirty := true }

/-! ### Frames to nodes (R178, R182 to R184, R207) -/

/-- A unicast frame of this member to a node: link key, its own tag as source, ADDR first (R178, R182). -/
def State.nodeFrame (s : State) (tag keyVal kind counter asn : Nat) (pending : Bool) (ies : List Ie) (body : Bytes) : AirOut :=
  { frameType := kind, pre := false, src := s.memberTag, dest := tag, ar := true, key := 1, keyVal := keyVal, counter := counter
    asn := asn % 2 ^ 40, pending := pending, ies := .addr tag s.memberTag :: ies, body := body, ackOf := none }

/-- An alert: a data frame with no payload and an ALERT IE (R207). -/
def alertFrame (src tag keyVal counter asn gap flags : Nat) : AirOut :=
  { frameType := 1, pre := false, src := src, dest := tag, ar := true, key := 1, keyVal := keyVal, counter := counter
    asn := asn % 2 ^ 40, pending := false, ies := [.addr tag src, .alert tag gap flags], body := [], ackOf := none }

/-- A field of a campaign's configuration (FL_CAMPAIGN_CFG). -/
def Campaign.fieldN (c : Campaign) (i : Nat) : Nat := ((c.cfg[i]?).getD 0).toNat

/-- The octets of block `b` of a campaign's image, the last one filled up with zeros (R290). -/
def State.blockData (s : State) (c : Campaign) (b : Nat) : Bytes :=
  let n := c.fieldN 7
  let data := if h : c.fieldN 8 < 8 then ((s.flock.image[(⟨c.fieldN 8, h⟩ : Fin 8)].content.drop (b * n)).take n) else []
  data ++ List.replicate (n - data.length) 0

/-- What an enrolment carries: CAMPAIGN and the campaign's multicast schedule, block 0 (R291). -/
def State.enrolIes (s : State) (n : Nat) : List Ie :=
  match s.flock.camp[n]? with
  | some c => [.campaign n 0 c.blocks, .sched (c.fieldN 2) (c.fieldN 3) (c.fieldN 4) (c.firstAsn % 2 ^ 40)]
  | none => []

def State.enrolBody (s : State) (n : Nat) : Bytes :=
  match s.flock.camp[n]? with
  | some c => 3 :: s.blockData c 0
  | none => [3]

/-- The frame of a transaction under a counter in a superframe (R178 to R184, R232, R265, R278, R291). -/
def State.txnFrame (s : State) (t : Txn) (keyVal counter asn : Nat) (pending : Bool) : AirOut :=
  match t.kind with
  | .assocResp f => f
  | .disassoc reason => s.nodeFrame t.nodeTag keyVal 3 counter asn pending [] [0x82, BitVec.ofNat 8 reason]
  | .enrol n => s.nodeFrame t.nodeTag keyVal 1 counter asn pending (s.enrolIes n) (s.enrolBody n)
  | _ => s.nodeFrame t.nodeTag keyVal 1 counter asn pending [] (1 :: t.data)

/-- Its PSDU length in a mode. -/
def State.txnLen (s : State) (t : Txn) (mode : Nat) : Nat := (s.txnFrame t 0 0 0 false).len mode

/-- The PSDU of an alert, of a node's acknowledgement with the ADDR IE alone, and of an alert response, in a mode (R182, R207, R238). -/
def alertLen (mode : Nat) : Nat := (alertFrame 0 0 0 0 0 0 0).len mode
def nodeAckLen (mode : Nat) : Nat := 30 + fcsLen mode
def alertRespLen (mode : Nat) : Nat := 43 + fcsLen mode

/-- More downlink than the transaction itself waits for the node (R178, R239). -/
def State.moreFor (s : State) (f id : Nat) : Bool :=
  (s.mesh.txns.any fun t => t.flock == f && t.st == .queued && t.id != id)
    || s.flock.reqs.any fun q => q.flock == f && q.txn.isNone && q.chorus.isNone

/-! ### Replies (R192, R229, R238, R250) -/

/-- The carrier on which a reply to a frame goes out: that of the frame it answers (R229). -/
def State.replyCarrier (s : State) (x : RxFrame) : Nat := s.laneKhz x.path x.lane

/-- Queue a reply frame at `start`, and whether it goes: it is charged by the duty rules, and not sent when the budget refuses it (R192,
R250). -/
def State.sendReply (s : State) (p : Fin 6) (carrier mode : Nat) (start : HalfNs) (owner : TxOwner) (f : AirOut) : Bool × State :=
  let d := ceilMs (txDuration mode (f.len mode) (s.preamble p) false)
  let a := s.accountFor carrier mode
  let (ok, s1) := s.dutyReserve (bandOf p) a d
  (ok, if ok then
    s1.txCommand p ⟨0, start, carrier, mode, f.len mode, false, s.preamble p, 31, false, false, owner, d, a, .mac f, true⟩
  else s1)

/-- L of a frame that starts at S. -/
def lastSymbol (start : HalfNs) (mode psdu preamble : Nat) : HalfNs := start + airTime mode psdu preamble false

/-- The end of a frame and the node's acknowledgement of it (R193, R240). -/
def exchangeEnd (start : HalfNs) (mode psdu preamble : Nat) : HalfNs :=
  lastSymbol (lastSymbol start mode psdu preamble + 464 * usHalfNs) mode (nodeAckLen mode) preamble + 4 * usHalfNs

/-! ### Booking (R193, R203, R204, R213, R243) -/

/-- The slots of a relay's children, which are the slots it holds (Table FL-1, R203). -/
def State.childSlots (s : State) (relay : Nat) : Nat :=
  s.flock.recs.foldl (fun (m : Nat) (x : Nat × FlockRec) =>
    if x.2.route.nextHop = relay ∧ x.2.link.st ≠ 0 then m ||| 2 ^ x.2.link.slot else m) 0

/-- The slots of a path excluded for LOST or TRACKING neighbours, those of MESH_NBR_CFG and the relays of the Flock (R203, R204, R257). -/
def State.slotsExcluded (s : State) (p : Fin 6) (states : List Nat) : Nat :=
  let m := (List.finRange 16).foldl (fun (m : Nat) (i : Fin 16) =>
    if s.cfgN Obj.MESH_NBR_CFG i 0 ≠ 0 ∧ s.cfgN Obj.MESH_NBR_CFG i 2 = p.val ∧ states.contains s.mesh.nbr[i].st
    then m ||| s.cfgN Obj.MESH_NBR_CFG i 6 else m) 0
  s.flock.recs.foldl (fun (m : Nat) (x : Nat × FlockRec) =>
    if x.2.cfg.cls = 0x0C ∧ x.2.link.path = p.val ∧ x.2.link.st ≠ 0 ∧ states.contains x.2.route.nbrState
    then m ||| s.childSlots x.1 else m) m

/-- [a, b) touches an excluded slot (R203, R204). -/
def State.slotBarred (s : State) (p : Fin 6) (a b : HalfNs) : Bool :=
  let m := s.slotsExcluded p [1, 2]
  (List.range (min 64 (s.absSlot b - s.absSlot a + 1))).any fun k => m.testBit ((s.absSlot a + k) % 64)

/-- [a, b) overlaps a beacon of a beaconing path, in the superframe of its start or the next (R200, R285). -/
def State.beaconOverlap (s : State) (p : Fin 6) (a b : HalfNs) : Bool :=
  s.cfgN (inst Obj.MESH_BEACON_ENABLE p) == 1 &&
    let d := txDuration (s.cfgN (inst Obj.MESH_BEACON_MODE p)) 142 (s.preamble p) false
    [a / s.tSf, a / s.tSf + 1].any fun n =>
      let t0 := n * s.tSf + 1000 * usHalfNs
      decide (a < t0 + d) && decide (t0 < b)

/-- What one attempt puts on air: the frames in order, each with S, carrier and charge. -/
structure Plan where
  path : Fin 6
  channel : Nat
  frames : List (AirOut × HalfNs × Nat × Nat)
  /-- S and the end of each exchange, acknowledgement included (R193). -/
  ends : List (HalfNs × HalfNs)
  stop : HalfNs
deriving DecidableEq, Repr

/-- A command queued, running or booked on the path overlaps [a, b): an attempt holds its slot to the end (R135, R243). -/
def State.pathTaken (s : State) (p : Fin 6) (a b : HalfNs) : Bool :=
  ((s.path p).queue ++ (((s.path p).running.map (·.cmd)).toList) ++
      ((s.mesh.booked.filter fun x => decide (x.1 = p)).map (·.2))).any fun c =>
    decide (c.start < b + 48 * usHalfNs) && decide (a < match c.owner with
      | .txn _ _ => s.slotEnd c.start
      | _ => c.stop + 48 * usHalfNs)

/-- Drover may book [a, b) on a path: its domain is on, and no neighbour's slot, window, beacon or other booking is in the way (R200, R203,
R204, R213, R243). -/
def State.mayBook (s : State) (p : Fin 6) (skip : Nat) (a b : HalfNs) : Bool :=
  s.domOn (pathDomain p) && !s.slotBarred p a b && !s.windowsOverlap p skip a b && !s.beaconOverlap p a b && !s.pathTaken p a b

/-- Why a planned attempt is refused: 0 none, otherwise 0x20 duty, 0x21 dwell, 0x100 another rule (R243). The charges
are summed per account, as Example LK-1 does. -/
def State.planRefusal (s : State) (skip : Nat) (pl : Plan) (mode : Nat) : Nat :=
  if pl.ends.any fun x => decide (s.slotEnd x.1 < x.2 + 400 * usHalfNs) || !s.mayBook pl.path skip x.1 x.2 then 0x100
  else
    let total := (pl.frames.map fun x => x.2.2.2).sum
    let acct := fun x : AirOut × HalfNs × Nat × Nat => s.accountFor x.2.2.1 mode
    if !s.dutyFits (bandOf pl.path) 0 total ||
        pl.frames.any (fun x => !s.dutyFits (bandOf pl.path) (acct x)
          ((pl.frames.filter fun y => acct y == acct x).map fun y => y.2.2.2).sum) then 0x20
    else if pl.frames.any fun x =>
        !s.dwellFits (bandOf pl.path) (s.khzChannel pl.path x.2.2.1) x.2.2.1 mode
          ((pl.frames.filter fun y => y.2.2.1 == x.2.2.1).map fun y => y.2.2.2).sum then 0x21
    else 0

/-! ### The end of an attempt (R232, R244, R284) -/

/-- A chorus attempt has ended with a status, or was skipped with a reason (R280, R284, Table FL-6). The request goes on
to its next attempt, or ends: with CHORUS_SKIPPED when none was sent and one was skipped. -/
def State.chorusEnd (s : State) (t : Txn) (status : Nat) : State :=
  match t.req.bind s.reqOf with
  | none => s.endTxn t 0x36
  | some q =>
    let skip := if skipBase ≤ status then status - skipBase else if status = 0x22 then 5 else 0
    let s1 := if skip = 0 then s else s.count Obj.FL_CHORUS_COUNTS skip
    let q1 := { q with skip := if skip = 0 then q.skip else skip, lastStatus := if skip = 0 then status else q.lastStatus }
    let fin := if q1.sent = 0 ∧ q1.skip ≠ 0 then 0x36 else q1.lastStatus
    let s2 := s1.putReq q1
    if ((q.chorus.map (·.attempts)).getD 0) ≤ q.made then s2.endTxn t fin
    else s2.putTxn { t with st := .queued, stage := 0, ms := 0, refusal := fin }

/-- The status codes after which an attempt is booked again (R244). -/
def rebookCodes : List Nat := [0x23, 0x24, 0x01, 0x09, 0x22]

/-- A DISASSOC whose transaction has ended for good leaves the link DETACHED (R232). -/
def State.disassocEnd (s : State) (t : Txn) : State :=
  match t.kind with
  | .disassoc _ => s.detach t.flock 0x25
  | _ => s

/-- One attempt has ended with a status; `aired` when it went on air (R232, R244). -/
def State.attemptEnd (s : State) (t : Txn) (status : Nat) (aired : Bool) : State :=
  let n := t.attempts + (if aired then 1 else 0)
  let t := { t with attempts := n }
  let s := s.dropCmds t.id
  let once := match t.kind with | .block _ => true | _ => decide (t.mode = 0x20)
  if status = 0 then s.endTxn t 0
  else if t.kind = .chorus then s.chorusEnd t status
  else if rebookCodes.contains status ∧ !once ∧ n < 1 + s.cfgN Obj.LINK_RETRY_MAX then
    s.putTxn { t with st := .queued, stage := 0, ms := 0, refusal := if status = 0x22 then 0x22 else t.refusal }
  else (s.endTxn t status).disassocEnd t

/-! ### Settlement of ended transmit commands (R201, R244, R250) -/

/-- A path failed to send its beacon (R201). -/
def State.beaconFail (s : State) (p : Fin 6) (cause : Nat) : State :=
  let s1 := (s.count (inst Obj.MESH_BEACON_FAILS p)).roSet (inst Obj.MESH_BEACON_LAST_FAIL p) 0 0 cause
  let n := s1.mesh.per[p].fails + 1
  let s2 := { s1 with mesh := { s1.mesh with per := vmod s1.mesh.per p fun x => { x with fails := n } } }
  if n % 3 = 0 then s2.raise Ev.BEACON_STARVED p cause else s2

/-- The measured charge of an ended command replaces its reservation, in the bucket of S (R249, R250). A beacon's charge goes to the beacon
reserve when it fits, else to the general budget (R249). -/
def State.settleCharge (s : State) (e : Ended) : State :=
  let b := bandOf e.path
  let ms := ceilMs (e.stop - e.start)
  let s1 := s.dutyRelease b e.cmd.account e.cmd.reserved
  if e.stop ≤ e.start then s1
  else
    let t := s.monoAt e.start
    let s2 := match e.cmd.owner with
      | .beacon => s1.chargeBeacon b e.cmd.account (t / (60 * secHalfNs)) ms
      | _ => s1.dutyCharge b e.cmd.account (t / (60 * secHalfNs)) ms 0
    s2.dwellCharge b (s2.khzChannel e.path e.cmd.carrier) e.cmd.carrier e.cmd.mode t ms

/-- The frame of stage 0 is an alert: alerts, chorus, and every transaction booked at sniff instants (R207). -/
def State.opensWithAlert (s : State) (t : Txn) : Bool :=
  t.kind == .alert || t.kind == .chorus ||
    match s.recOf t.flock with | some r => r.cfg.cls == 0x0B && !r.link.relayed | none => false

/-- A transaction's frame has been sent: it now awaits its reply, or its next frame, or is done (R207, R240, R284,
R292). -/
def State.txnSent (s : State) (t : Txn) (stage : Nat) (stop : HalfNs) : State :=
  let await (s : State) (t : Txn) : State := s.putTxn { t with st := .awaitReply, start := stop }
  match t.kind with
  | .block k =>
    let s1 := if h : k < 4 then { s with flock := { s.flock with
      camp := vmod s.flock.camp ⟨k, h⟩ fun c => { c with sent := min (c.sent + 1) 0xFFFFFFFF } } } else s
    s1.endTxn { t with attempts := t.attempts + 1 } 0
  | .chorus =>
    if stage = 0 then s.putTxn { t with stage := 1 }
    else
      let s1 := match t.req.bind s.reqOf with
        | some q => s.putReq { q with sent := q.sent + 1 }
        | none => s
      await (s1.count Obj.FL_CHORUS_COUNTS 0) t
  | _ =>
    if t.mode = 0x20 then s.endTxn { t with attempts := t.attempts + 1 } 0
    else if stage = 0 ∧ s.opensWithAlert t ∧ !t.respond then s.putTxn { t with stage := 1 }
    else await s t

/-- The SFD instant of a frame that went on air: S + T_SHR (R175). -/
def Ended.sfd (e : Ended) : Option HalfNs := if e.start < e.stop then some (e.start + tShr e.cmd.mode e.cmd.preamble) else none

/-- A beacon that was sent has announced the search windows of the next superframe (R217). -/
def State.announce (s : State) (c : TxContent) : State :=
  match c with
  | .mac f => { s with mesh := { s.mesh with search := (f.ies.flatMap fun ie => match ie with
      | .resync entries => entries.map fun e => (e.1 % 2 ^ 20, (f.asn + 1) % 2 ^ 40)
      | _ => []) ++ s.mesh.search } }
  | .raw _ => s

/-- Settle one ended command with its owner. -/
def State.settleOne (s : State) (e : Ended) : State :=
  let s1 := if skipBase ≤ e.status then s.settleCharge e
    else (s.settleCharge e).emit (.txEnd e.path e.cmd.handle e.status e.sfd)
  match e.cmd.owner with
  | .beacon =>
    if e.status = 0 then
      let s2 := s1.count (inst Obj.MESH_BEACONS_SENT e.path)
      (s2.modPer e.path fun x => { x with fails := 0 }).announce e.cmd.frame
    else s1.beaconFail e.path (if e.status = 0x22 then 0x20 else e.status)
  | .txn id stage =>
    match s1.txnOf id with
    | none => s1
    | some t =>
      if e.status = 0 then s1.txnSent t stage e.stop
      else s1.attemptEnd t e.status (decide (e.start < e.stop))
  | _ => s1

/-- Settle every ended command, and those that settling ends, within the step. -/
def State.settleEnded : Nat → State → State
  | 0, s => s
  | n + 1, s =>
    match s.rf.ended with
    | [] => s
    | e :: es => State.settleEnded n (({ s with rf := { s.rf with ended := es } }).settleOne e)

/-! ### Held requests (R274, R275) -/

/-- The transaction of a held request in entry `i`: the record's fields are latched (R279). -/
def reqTxn (q : DelReq) (kind : TxnKind) (r : FlockRec) (i : Nat) : Txn :=
  { id := i, kind := kind, st := .queued, flock := q.flock, path := 0, start := 0, channel := 0, handle := 0, ms := 0,
    account := 0, attempts := 0, deadline := q.deadline, refusal := 0, stage := 0,
    respond := q.flags.testBit 1 && kind == .alert, gap := q.gap, data := q.data, req := some q.id
    nodeTag := match q.chorus with | some c => c.tag % 2 ^ 24 | none => r.tag q.flock
    mode := match q.chorus with | some c => c.mode | none => r.link.mode
    chOffset := match q.chorus with | some c => c.chOffset | none => r.link.chOffset
    counter := 0, host := true }

/-- The transaction of a held request enters the table. -/
def State.putReqTxn (s : State) (q : DelReq) (t : Txn) : State :=
  let s1 := s.addTxn t
  { s1 with flock := { s1.flock with reqs := s1.flock.reqs.map fun x => if x.id = q.id then { x with txn := some t.id } else x } }

/-- A held request becomes a transaction, when an entry is free (R275). -/
def State.promoteReq (s : State) (q : DelReq) (kind : TxnKind) (r : FlockRec) : Option (Txn × State) :=
  if s.hostRoom ≤ s.hostTxns then none else s.freeTxn.map fun i => (reqTxn q kind r i, s.putReqTxn q (reqTxn q kind r i))

/-- The held requests of a record in queue order: by PRIORITY, then by arrival (R274). -/
def State.heldOf (s : State) (f : Nat) : List DelReq :=
  let mine := s.flock.reqs.filter fun q => q.flock == f && q.txn.isNone && q.chorus.isNone
  (List.range 4).flatMap fun k => mine.filter fun q => q.priority == k

/-- What the transaction of a request carries (R277, R280, R291). -/
def reqKind (q : DelReq) (r : FlockRec) : TxnKind :=
  match q.chorus, q.enrol with
  | some _, _ => .chorus
  | none, some n => .enrol n
  | none, none => if r.cfg.cls = 0x0B ∧ !r.link.relayed then .alert else .hostData

/-- Class B and C requests, those of relayed nodes and chorus requests leave HELD at once, when an entry is free; class A
requests wait for a contact (R275 to R278). -/
def State.promoted (s : State) : State :=
  s.flock.reqs.foldl (fun s q =>
    if q.txn.isSome then s
    else match s.recOf q.flock with
      | some r =>
        if r.cfg.cls ≠ 0x0A ∨ r.link.relayed ∨ q.chorus.isSome then
          match s.promoteReq q (reqKind q r) r with | some (_, s1) => s1 | none => s
        else s
      | none => s) s

/-- The removals that wait become transactions while entries are free (R232, R242). A removal lasts until its link ends: its deadline is the
link's supervision time (log entry 104). -/
def State.removals (s : State) : State :=
  (s.flock.recs.filter fun x => x.2.link.leave.isSome).foldl (fun (s : State) (x : Nat × FlockRec) =>
    match s.recOf x.1, s.freeTxn with
    | some r, some i => match r.link.leave with
      | some reason =>
        (s.modRec x.1 fun r => { r with link := { r.link with leave := none } }).addTxn
          { id := i, kind := .disassoc reason, st := .queued, flock := x.1, path := 0, start := 0, channel := 0, handle := 0
            ms := 0, account := 0, attempts := 0, deadline := s.air + s.supervision r, refusal := 0, stage := 0
            respond := false, gap := 0, data := [], req := none, nodeTag := r.tag x.1, mode := r.link.mode
            chOffset := r.link.chOffset, counter := 0, host := false }
      | none => s
    | _, _ => s) s

/-- Settle all: a step ends at most the commands of six queues of four, and each settlement ends at most as many; then
removals and held requests take the entries that are free (R232, R275). -/
def State.settled (s : State) : State := (s.settleEnded 64).removals.promoted

end Sys2Proof.Machine
end

