-- ==== Sys2Proof/Machine/Paths.lean ====
section
/-!
DEFINITION. How a radio path moves between its states (04_radio_front_end.md Table RF-3): tuning, the start of calibration steps, what a
path takes up when it settles, the return from a transmission, and the front-end pins of Table RF-6.
-/

namespace Sys2Proof.Machine

/-! ### Tuning (R130) -/

/-- A TUNE takes effect: pending commands outside the new slice without RETUNE end with OUT_OF_SLICE (R130). -/
def State.applyTune (s : State) (p : Fin 6) (khz : Nat) : State :=
  let x := s.path p
  let gone := x.queue.filter fun c => !c.retune && !inSlice p khz c.carrier
  let s1 := s.putPath p { x.withQueue (x.queue.filter fun c => c.retune || inSlice p khz c.carrier) with
    centre := khz, waitTune := none }
  gone.foldl (fun s c => s.endCmd p c 0x05 s.air s.air) s1

/-! ### Starting calibration steps (R132, R144, R147) -/

/-- A step of at most 40 µs can end before the next due instant (R132). -/
def State.calMayStart (s : State) (p : Fin 6) : Bool :=
  match (s.path p).queue with
  | [] => true
  | c :: _ => s.air + 40 * usHalfNs ≤ c.start - 220 * usHalfNs

/-- A number that is no Flock number: a window search that leaves out no link. -/
abbrev noFlock : Nat := 2 ^ 20

/-- A calibration step may start now; one that a temperature change called for only where the path has no reception window open (R132,
R147). -/
def State.stepMayStart (s : State) (p : Fin 6) (auto : Bool) : Bool :=
  s.calMayStart p && (!auto || !s.windowsOverlap p noFlock s.air (s.air + 40 * usHalfNs))

/-- Start the next calibration step of a path in STANDBY or RX, or in FAULT while a requested calibration goes on: of the calibration
under way, else of the items queued on request, else of those queued by temperature (Table RF-3, R144, R147). -/
def State.startCal (s : State) (p : Fin 6) : State :=
  let x := s.path p
  if x.st = 3 ∨ x.st = 5 ∨ (x.st = 9 ∧ x.cal.isSome) then
    match x.cal with
    | some c => if s.stepMayStart p c.auto then s.putPath p { x with st := 2, cal := some { c with former := x.st } } else s
    | none =>
      if x.calQueue ≠ [] then
        (if s.stepMayStart p false then
          s.putPath p { x with st := 2, cal := some ⟨x.calQueue, false, false, false, x.st, 0⟩, calQueue := [] }
        else s)
      else if x.tempQueue ≠ [] ∧ s.stepMayStart p true then
        s.putPath p { x with st := 2, cal := some ⟨x.tempQueue, false, true, false, x.st, 0⟩, tempQueue := [] }
      else s
  else s

/-- Every path starts the calibration step that it can start now (R147). -/
def State.startCals (s : State) : State := (List.finRange 6).foldl (fun (s : State) (p : Fin 6) => s.startCal p) s

/-! ### Settling (Table RF-3, Table RF-4) -/

/-- A path that has just come to STANDBY, RX or another resting state takes up what waits for it: a polarity change (R140), RX_OFF,
RX_ON, calibration requests and TUNE (Table RF-4), then the lock that reception or a due transmission needs (Table RF-3). -/
def State.settleWaits (s : State) (p : Fin 6) : State :=
  let x := s.path p
  let x := if x.st = 0 ∨ x.st = 1 ∨ x.st = 3 then { x with polarity := s.cfgN (inst Obj.RF_FE_POLARITY p) } else x
  let s := s.putPath p x
  if x.st = 3 ∨ x.st = 5 then
    let x := if x.waitRxOff then { x with rxEnabled := false, waitRxOff := false, st := 3 } else x
    let x := if x.waitRxOn then { x with rxEnabled := true, waitRxOn := false } else x
    let x := { x with calQueue := mergeItems x.calQueue x.waitCal, waitCal := [] }
    let s := s.putPath p x
    let s := match x.waitTune with
      | some k => (s.applyTune p k).modPath p fun x => { x with st := 3 }
      | none => s
    let x := s.path p
    match x.due, x.queue with
    | true, c :: _ =>
      if !inSlice p x.centre c.carrier then s.putPath p (x.lock (some c.carrier) s.air)
      else if x.st = 3 then s.putPath p (x.lock none s.air) else s
    | _, _ => if x.st = 3 ∧ x.rxEnabled then s.putPath p (x.lock none s.air) else s
  else s

/-- The same, and then the next calibration step starts when it may. -/
def State.settlePath (s : State) (p : Fin 6) : State := (s.settleWaits p).startCal p

/-! ### After a transmission (Table RF-3, R124) -/

/-- After E, or when a set-up ends without RF (`sent` false): a RX_OFF that waited takes effect, and the path returns to reception, to
STANDBY, or locks back to its slice after a RETUNE transmission (Table RF-3, Table RF-4, R124). -/
def State.afterTx (s : State) (p : Fin 6) (sent : Bool) : State :=
  let x := s.path p
  let x := { x with
    running := none, turnAt := s.air, lastEnd := if sent then some s.air else x.lastEnd
    rxEnabled := x.rxEnabled && !x.waitRxOff, waitRxOff := false }
  if x.lockCarrier.isSome && x.rxEnabled then s.putPath p (x.lock none s.air)
  else if x.rxEnabled then s.putPath p { x with st := 8 }
  else (s.putPath p { x with st := 3, lockCarrier := none }).settlePath p

/-! ### The front-end pins (R139, R140, Table RF-6) -/

/-- The front-end controls of a path. `trTx` is T/R at transmit, `lnaByp` the LNA bypassed, else under AGC control; `trHigh` and
`lnaHigh` are the levels of TR_x and LNA_BYP_x under RF_FE_POLARITY, the latter none while the AGC controls it. -/
structure Pins where
  paEn : Bool
  paGain : Nat
  trTx : Bool
  lnaByp : Bool
  trHigh : Bool
  lnaHigh : Option Bool
deriving DecidableEq, Repr

/-- The levels of TR_x and LNA_BYP_x: polarity bit 0, TR_x high for receive; bit 1, LNA_BYP_x low for bypass (Table RF-11). -/
def Pins.of (polarity : Nat) (paEn : Bool) (paGain : Nat) (trTx lnaByp : Bool) : Pins :=
  ⟨paEn, paGain, trTx, lnaByp, trTx != polarity.testBit 0, if lnaByp then some (!polarity.testBit 1) else none⟩

/-- By how much the start of the DAC precedes S: RF_TX_INT_DELAY and RF_TX_EXT_DELAY (R139). -/
def State.dacLead (s : State) (p : Fin 6) : HalfNs :=
  s.roN (inst Obj.RF_TX_INT_DELAY p) + s.cfgN (inst Obj.RF_TX_EXT_DELAY p)

/-- The power-table entry of the transmission in set-up or on air: the one in use, before S the one that the power rules choose now. -/
def State.entryOf (s : State) (p : Fin 6) (r : Running) : Nat :=
  if r.onAir then r.entry else ((s.pickPower p r.cmd.carrier r.cmd.mode r.cmd.pwr).entry).getD 0

/-- The front-end pins of a path at the present instant of TB_AIR, row by row of Table RF-6; the rows count from the start of the DAC.
PA_EN rises only with PA_ON, and only from a decided deadline on; the last rows follow the end of the last transmission (R139). While the
path's domain is isolated the clamps of Table PW-3 stand (R446). -/
def State.pins (s : State) (p : Fin 6) : Pins :=
  let x := s.path p
  let t := s.air
  if !s.domServes (pathDomain p) then { Pins.of x.polarity false 0 false false with lnaHigh := some (x.polarity.testBit 1) }
  else match x.running with
  | some r =>
    let dac := r.start - s.dacLead p
    let on := pwrPaOn (s.pwrEntry p (s.entryOf p r))
    let upTo := dac + r.cmd.duration
    Pins.of x.polarity (on && decide (dac ≤ t + 2 * usHalfNs) && decide (t < upTo))
      (if on && decide (dac ≤ t + 10 * usHalfNs) then pwrPaCode (s.pwrEntry p (s.entryOf p r)) else 0)
      (decide (dac ≤ t + 3 * usHalfNs)) x.rxEnabled
  | none =>
    match x.lastEnd with
    | some e => Pins.of x.polarity false 0 (decide (t + s.dacLead p < e + usHalfNs))
        (x.rxEnabled && decide (t + s.dacLead p < e + 2 * usHalfNs))
    | none => Pins.of x.polarity false 0 false false

end Sys2Proof.Machine
end

