-- ==== Sys2Proof/Machine/RadioCmds.lean ====
section
/-!
DEFINITION. The commands of the radio paths: transmit commands and their progress, reception, tuning, calibration,
temperature, the lock record (04_radio_front_end.md). Each ends by settling the transmit commands that it ended.
-/

namespace Sys2Proof.Machine

/-! ### Transmit commands -/

/-- A transmit command of a path's issuer (R125) as the path queues it. -/
def State.txOfReq (s : State) (p : Fin 6) (r : TxReq) : TxCmd :=
  ⟨0, r.start, r.carrier, r.mode, r.psdu.length, r.fec, s.preamble p, r.pwr, r.lateOk, r.retune, .other r.tag, 0,
    s.accountFor r.carrier r.mode, .raw r.psdu, false⟩

/-- TX_COMMAND: queued by S under Table RF-4, or ended at once (R130, R131). -/
def execTxCommand (p : Fin 6) (r : TxReq) (s : State) : Answer State :=
  .next (s.txCommand p (s.txOfReq p r)).settled

/-- TX_ABORT in TX: the driver ramps down within 4 µs, E is the end of the ramp, the command ends with ABORTED (R137). -/
def State.cutTx (s : State) (p : Fin 6) (status : Nat) : State :=
  match (s.path p).running with
  | some r => if r.onAir then
      let s1 := s.advance (4 * usHalfNs)
      (s1.endCmd p r.cmd status r.start s1.air).afterTx p true
    else (s.endCmd p r.cmd status r.start r.start).afterTx p false
  | none => s

/-- End a named pending command with ABORTED (R130). -/
def State.abortPending (s : State) (p : Fin 6) (handle : Nat) : State :=
  let x := s.path p
  match x.queue.find? (fun c => c.handle == handle) with
  | some c => (s.putPath p (x.withQueue (x.queue.filter fun d => d.handle ≠ handle))).endCmd p c 0x09 s.air s.air
  | none => s

/-- TX_ABORT of the running transmission, or of the pending one named (Table RF-4, R137). -/
def execTxAbort (p : Fin 6) (handle : Option Nat) (s : State) : Answer State :=
  let x := s.path p
  let startUp := (x.cal.map (·.startUp)).getD false
  .next (if x.st = 0 ∨ x.st = 1 ∨ x.st = 9 ∨ (x.st = 2 ∧ startUp = true) then s
    else match handle with
      | some h =>
        if (x.running.map fun r => r.cmd.handle) = some h then (s.cutTx p 0x09).settled
        else (s.abortPending p h).settled
      | none => (s.cutTx p 0x09).settled)

/-- RX_ON under Table RF-4. A path that Drover may not use answers PATH_OFF (R125, Table RF-5). -/
def State.rxOn (s : State) (p : Fin 6) : State :=
  let x := s.path p
  if x.st = 0 ∨ s.cfgN (inst Obj.RF_PATH_ENABLE p) = 0 then s.emit (.txEnd p 0 0x0B none)
  else match x.st with
    | 9 => s.emit (.txEnd p 0 0x0A none)
    | 1 => s.putPath p { x with waitRxOn := true, waitRxOff := false }
    | 2 => s.putPath p { x with waitRxOn := true, waitRxOff := false }
    | 5 => s
    | 3 => (s.putPath p { x with rxEnabled := true }).settlePath p
    | _ => s.putPath p { x with rxEnabled := true, waitRxOff := false }

def execRxOn (p : Fin 6) (s : State) : Answer State := .next (s.rxOn p)

/-- RX_OFF under Table RF-4; the path goes from RX to STANDBY (R127). Accepted in a calibration step, it makes STANDBY the state that
follows the step. That it takes LOCKING with no due transmission to STANDBY, and that TURN_RX then ends in STANDBY, is a DESIGN CHOICE:
Table RF-3 has neither transition (log entry 98). -/
def State.rxOff (s : State) (p : Fin 6) : State :=
  let x := s.path p
  let off := { x with rxEnabled := false, waitRxOn := false }
  match x.st with
  | 0 => s
  | 3 => s
  | 2 => s.putPath p { off with cal := x.cal.map fun c => { c with former := if c.former = 5 then 3 else c.former } }
  | 4 => if x.due then s.putPath p off else (s.putPath p { off with st := 3, lockCarrier := none }).settlePath p
  | 5 => (s.putPath p { off with st := 3 }).settlePath p
  | 6 => s.putPath p { x with waitRxOff := true, waitRxOn := false }
  | 7 => s.putPath p { x with waitRxOff := true, waitRxOn := false }
  | _ => s.putPath p off

def execRxOff (p : Fin 6) (s : State) : Answer State := .next (s.rxOff p)

/-- What a TUNE does once its centre has entered the running configuration (Table RF-4). In RX the frames that `frames` lanes were
receiving are discarded and counted (R123). -/
def State.tune (s : State) (p : Fin 6) (khz frames : Nat) : State :=
  let x := s.path p
  let startUp := (x.cal.map (·.startUp)).getD false
  match x.st with
  | 0 => s.putPath p { x with centre := khz }
  | 1 => s.putPath p { x with centre := khz }
  | 9 => s.putPath p { x with centre := khz }
  | 2 => if startUp then s.putPath p { x with centre := khz } else s.putPath p { x with waitTune := some khz }
  | 3 => (s.applyTune p khz).settlePath p
  | 4 => (s.applyTune p khz).modPath p fun x => x.lock x.lockCarrier s.air
  | 5 =>
    (((s.count (inst Obj.RF_RX_PREEMPTED p) 0 0 frames).applyTune p khz).modPath p fun x => { x with st := 3 }).settlePath p
  | _ => s.putPath p { x with waitTune := some khz }

/-- TUNE, issued by a write of RF_SLICE_CENTRE (R122, R125, R130): a centre outside the path's range or off its step is
rejected with RANGE and changes nothing. -/
def execTune (p : Fin 6) (khz frames : Nat) (s : State) : Answer State :=
  .next (if sliceOk p khz then
      let s1 := (s.cfgPut (inst Obj.RF_SLICE_CENTRE p) (scalar khz)).bumpRev (inst Obj.RF_SLICE_CENTRE p)
      (s1.tune p khz frames).settled
    else s)

/-- Items that join a calibration under way: after the item in progress, in item order (R144). -/
def CalRun.join (c : CalRun) (items : List Nat) : CalRun :=
  { c with items := match c.items with
      | [] => items
      | i :: rest => i :: mergeItems rest (items.filter fun k => k ≠ i) }

/-- The items that a request's bitmap names (Table RF-11). -/
def calItems (bits : Nat) : List Nat := (List.range 9).filterMap fun i => if bits.testBit i then some (i + 1) else none

/-- A calibration request for the items of a bitmap (R130, Table RF-4, R138). While region RF is held, no path leaves FAULT (R17). -/
def State.calRequest (s : State) (p : Fin 6) (bits : Nat) : State :=
  let items := calItems bits
  let x := s.path p
  if items = [] then s
  else match x.st with
    | 2 => s.putPath p { x with cal := x.cal.map fun c => c.join items }
    | 9 =>
      if s.isHeld 6 then s
      else s.putPath p { x with st := 2, cal := some ⟨items, false, false, false, if items.contains 2 then 3 else 9, 0⟩ }
    | 0 => s.putPath p { x with calQueue := mergeItems x.calQueue items }
    | 1 => s.putPath p { x with calQueue := mergeItems x.calQueue items }
    | 3 => (s.putPath p { x with calQueue := mergeItems x.calQueue items }).startCal p
    | 5 => (s.putPath p { x with calQueue := mergeItems x.calQueue items }).startCal p
    | _ => s.putPath p { x with waitCal := mergeItems x.waitCal items }

/-- CAL_REQUEST: a write of RF_CAL_REQUEST (R43, R125, R130). -/
def execCalRequest (p : Fin 6) (bits : Nat) (s : State) : Answer State :=
  .next ((s.calRequest p bits).settled.bumpRev (inst Obj.RF_CAL_REQUEST p))

/-! ### Progress of a transmission (R132 to R139) -/

/-- The booked command of a path with the earliest S, and its transaction. -/
def State.firstBooked (s : State) (p : Fin 6) : Option (TxCmd × Nat) :=
  s.mesh.booked.foldl (fun (b : Option (TxCmd × Nat)) (x : Fin 6 × TxCmd) =>
    match x.2.owner with
    | .txn id _ =>
      if x.1 = p ∧ (b.map fun y => decide (x.2.start < y.1.start)).getD true = true then some (x.2, id) else b
    | _ => b) none

/-- The transaction goes on air (Table LK-3). -/
def State.goOnAir (s : State) (id : Nat) : State :=
  match s.txnOf id with
  | some t => s.putTxn { t with st := .onAir }
  | none => s

/-- The path's earliest pending command becomes due (R132, R136). -/
def State.headDue (s : State) (p : Fin 6) : State :=
  match (s.path p).queue with
  | [] => s
  | c :: _ =>
    let s1 := s.modPath p fun x => { x with due := true }
    let s2 := match c.owner with
      | .txn id _ => s1.goOnAir id
      | _ => s1
    s2.settlePath p

/-- TX_DUE: TB_AIR reaches S − 220 µs for the earliest pending command; it is due. A booked attempt is handed to its path
at that moment. In STANDBY, or for a RETUNE carrier, the path locks; a calibration step in progress completes first (R132,
R136, Table LK-3, Table RF-3). -/
def State.txDue (s : State) (p : Fin 6) : State :=
  let head := ((s.path p).queue.head?).map (·.start)
  match s.firstBooked p, head with
  | some (c, id), h =>
    if (h.map fun x => decide (x < c.start)).getD false then (s.toAir (h.getD 0 - 220 * usHalfNs)).headDue p
    else
      let s1 := ((s.toAir (c.start - 220 * usHalfNs)).goOnAir id).handOver id
      if (((s1.path p).queue.head?).map fun d => decide (d.start ≤ c.start)).getD false then s1.headDue p else s1
  | none, some h => (s.toAir (h - 220 * usHalfNs)).headDue p
  | none, none => s

def execTxDue (p : Fin 6) (s : State) : Answer State := .next (s.txDue p).settled

/-- The path is locked on the frequency a command needs: in SETUP, which it entered locked, or in RX or on its way back to it with the
carrier in the slice (R134). A set-up may begin in TURN_RX, as R134 and R135 together ask (log entry 99). -/
def State.readyFor (s : State) (p : Fin 6) (c : TxCmd) : Bool :=
  (s.path p).st == 6 || (((s.path p).st == 5 || (s.path p).st == 8) && inSlice p (s.path p).centre c.carrier)

/-- Reject the earliest command at its deadline: the path continues as if it had never been issued (R134). -/
def State.rejectHead (s : State) (p : Fin 6) (c : TxCmd) (status : Nat) : State :=
  let x := s.path p
  let s1 := (s.putPath p x.popQueue).endCmd p c status s.air s.air
  let s1 := if status = 0x01 then s1.count (inst Obj.RF_TX_LATE p) else s1
  if x.st = 4 ∧ !x.rxEnabled then (s1.modPath p fun x => { x with st := 3, lockCarrier := none }).settlePath p
  else if x.st = 4 ∧ x.lockCarrier.isSome then s1.modPath p fun x => x.lock none s1.air
  else s1

/-- Reject the command that is in SETUP at its deadline: no RF is emitted (R134). -/
def State.rejectSetup (s : State) (p : Fin 6) (c : TxCmd) (status : Nat) : State :=
  (s.endCmd p c status s.air s.air).afterTx p false

/-- The command is a chorus frame. -/
def State.chorusCmd (s : State) (c : TxCmd) : Bool :=
  match c.owner with
  | .txn id _ => match s.txnOf id with | some t => t.kind == .chorus | none => false
  | _ => false

/-- By how much a set-up precedes the start: 48 µs with reception enabled, 10 µs without (R127, R134). -/
def State.lead (s : State) (p : Fin 6) : HalfNs := (if (s.path p).rxEnabled then 48 else 10) * usHalfNs

/-- Why a command may not start, whatever the lock: the path is inhibited or may not transmit, the lock record forbids the carrier, a
chorus frame without its conditions (R133, R143, R156, R281). -/
def State.startBar (s : State) (p : Fin 6) (c : TxCmd) : Option Nat :=
  if (s.path p).inhibit ∨ s.cfgN (inst Obj.RF_TX_ENABLE p) = 0 ∨ !s.txAllowed then some 0x07
  else if (s.lockFor c.carrier c.mode).isNone then some 0x06
  else if s.chorusCmd c && !s.chorusTime then some (skipBase + 2)
  else if s.chorusCmd c && s.roN (inst Obj.RF_CAL_STATUS p) 7 != 1 then some (skipBase + 3)
  else if s.chorusCmd c && !s.chorusRoot (s.absSlot c.start) then some (skipBase + 6)
  else none

/-- Listen before talk finds the channel busy: the lock record requires it, the frame is no reply, and the RSSI is at or above the
threshold (R252). -/
def State.lbtBusy (s : State) (c : TxCmd) (rssi : Int) : Bool :=
  s.lockFlags.testBit 2 && !c.reply && decide (s.cfgI Obj.LINK_LBT_THRESHOLD ≤ rssi)

/-- What the deadline decides of a command (R134, R252): none that it may go on, otherwise its status. -/
def State.deadlineBar (s : State) (p : Fin 6) (c : TxCmd) (rssi : Int) : Option Nat :=
  match s.startBar p c with
  | some st => some st
  | none => if s.lbtBusy c rssi then some 0x22 else none

/-- Count a listen-before-talk refusal (R252). -/
def State.lbtCount (s : State) (p : Fin 6) (status : Nat) : State :=
  if status = 0x22 then s.count (inst Obj.LBT_BUSY (bandInst (bandOf p))) else s

/-- The deadline of a command in SETUP. -/
def State.deadlineSetup (s : State) (p : Fin 6) (r : Running) (rssi : Int) : State :=
  let s := s.toAir (r.start - s.lead p)
  match s.deadlineBar p r.cmd rssi with
  | some st => (s.rejectSetup p r.cmd st).lbtCount p st
  | none => s.modPath p fun x => { x with running := some { r with judged := true } }

/-- The deadline of the earliest pending command. One that comes after its deadline was not ready at it. -/
def State.deadlineHead (s : State) (p : Fin 6) (c : TxCmd) (rssi : Int) : State :=
  let at_ := c.start - s.lead p
  let gone := decide (at_ < s.air)
  let s := (s.toAir at_).modPath p fun x => { x with due := true }
  match s.startBar p c with
  | some st => s.rejectHead p c st
  | none =>
    if gone || !s.readyFor p c then
      if c.lateOk then s.modPath p fun x => { x with late := true, lateAt := s.air, judged := true } else s.rejectHead p c 0x01
    else match s.deadlineBar p c rssi with
      | some st => (s.rejectHead p c st).lbtCount p st
      | none => s.modPath p fun x => { x with late := false, judged := true }

/-- TX_DEADLINE: S − 48 µs when reception is enabled, S − 10 µs when it is not (R134), of the command in SETUP whose deadline is still
to be decided, else of the earliest pending one. `rssi` is the channel's RSSI over the listen-before-talk interval (R252). -/
def State.txDeadline (s : State) (p : Fin 6) (rssi : Int) : State :=
  match (s.path p).st, (s.path p).running, (s.path p).queue with
  | 6, some r, q => if r.judged then (match q with | [] => s | c :: _ => s.deadlineHead p c rssi) else s.deadlineSetup p r rssi
  | _, _, c :: _ => s.deadlineHead p c rssi
  | _, _, [] => s

def execTxDeadline (p : Fin 6) (rssi : Int) (s : State) : Answer State := .next (s.txDeadline p rssi).settled

/-- Take the earliest command into SETUP for a start at `at_` (R139). -/
def State.beginSetup (s : State) (p : Fin 6) (c : TxCmd) (at_ : HalfNs) : State :=
  s.modPath p fun x => { x.popQueue with st := 6, running := some ⟨c, at_, 0, false, x.judged⟩ }

/-- Set-up begins; frames being received are discarded and counted (R123). -/
def State.blankLanes (s : State) (p : Fin 6) (frames : Nat) : State :=
  if (s.path p).st = 5 then s.count (inst Obj.RF_RX_PREEMPTED p) 0 0 frames else s

/-- When a LATE_OK command that missed its deadline starts: 48 µs or 10 µs after the path was locked and free for it (R134). -/
def State.lateAt (s : State) (p : Fin 6) (c : TxCmd) : HalfNs :=
  max c.start (max (s.path p).lockedAt (s.path p).lateAt + s.lead p)

/-- A late start under LATE_OK (R134): only if it still ends before the end of the slot in which S lies. A command that then comes too
close to it ends with PATH_BUSY (R135). -/
def State.lateStart (s : State) (p : Fin 6) (c : TxCmd) (frames : Nat) : State :=
  let at_ := s.lateAt p c
  if s.slotEnd c.start < at_ + c.duration then s.rejectHead p c 0x01
  else
    let s1 := (if c.start < at_ then (s.blankLanes p frames).count (inst Obj.RF_LATE_STARTS p) else s.blankLanes p frames).beginSetup p c at_
    let x := s1.path p
    let busy := x.queue.filter fun d => decide (d.start < at_ + c.duration + 48 * usHalfNs)
    busy.foldl (fun s d => s.endCmd p d 0x03 s.air s.air)
      (s1.putPath p (x.withQueue (x.queue.filter fun d => !decide (d.start < at_ + c.duration + 48 * usHalfNs))))

/-- TX_SETUP_START: at S − 48 µs the path enters SETUP and blanks its lanes; frames being received are discarded and
counted (R123, R139). `frames` is how many lanes were receiving one. -/
def State.setupStart (s : State) (p : Fin 6) (frames : Nat) : State :=
  let x := s.path p
  match x.queue with
  | [] => s
  | c :: _ =>
    if (x.st = 5 ∨ x.st = 8) ∧ inSlice p x.centre c.carrier then
      if x.late then s.lateStart p c frames
      else if s.air ≤ c.start - 48 * usHalfNs then
        let s1 := s.toAir (c.start - 48 * usHalfNs)
        (s1.blankLanes p frames).beginSetup p c c.start
      else s
    else s

def execTxSetupStart (p : Fin 6) (frames : Nat) (s : State) : Answer State := .next (s.setupStart p frames).settled

/-- Count what bounded the power of a transmission (Table RF-9, R154). -/
def State.countPower (s : State) (p : Fin 6) (k : PwrPick) : State :=
  let s := if k.byLock then s.count (inst Obj.RF_CLAMP_COUNTS p) 0 else s
  let s := if k.byHeat then s.count (inst Obj.RF_CLAMP_COUNTS p) 1 else s
  let s := if k.hitFloor then s.count (inst Obj.RF_BOUND_HITS p) 0 else s
  if k.hitCeil then s.count (inst Obj.RF_BOUND_HITS p) 1 else s

/-- TX_START: at S the path enters TX with the entry that the power rules choose, or ends with REG_DENIED or
THERMAL_DENIED when no entry is usable (R139, R152 to R154). -/
def State.txStart (s : State) (p : Fin 6) : State :=
  let x := s.path p
  match x.st, x.running with
  | 6, some r =>
    let s1 := s.toAir r.start
    let k := s1.pickPower p r.cmd.carrier r.cmd.mode r.cmd.pwr
    match k.entry with
    | none => (s1.endCmd p r.cmd k.status r.start r.start).afterTx p false
    | some n =>
      let s2 := s1.putPath p { x with st := 7, running := some { r with entry := n, onAir := true } }
      (s2.countPower p k).emit (.air p r.start r.cmd.carrier r.cmd.mode n r.cmd.frame (s.phyOf p r.cmd))
  | _, _ => s

def execTxStart (p : Fin 6) (s : State) : Answer State := .next (s.txStart p).settled

/-- TX_END: at E the driver has ramped down; the command is DONE and the path turns round (R133, R139). -/
def State.txEnd (s : State) (p : Fin 6) : State :=
  match (s.path p).st, (s.path p).running with
  | 7, some r =>
    let s1 := s.toAir (r.start + r.cmd.duration)
    (s1.endCmd p r.cmd 0 r.start s1.air).afterTx p true
  | _, _ => s

def execTxEnd (p : Fin 6) (s : State) : Answer State := .next (s.txEnd p).settled

/-- TURN_RX_END: at E + 48 µs the lanes receive again (R127, R139). -/
def State.turnRxEnd (s : State) (p : Fin 6) : State :=
  let x := s.path p
  if x.st = 8 then
    ((s.toAir (x.turnAt + 48 * usHalfNs)).putPath p { x with st := if x.rxEnabled then 5 else 3 }).settlePath p
  else s

def execTurnRxEnd (p : Fin 6) (s : State) : Answer State := .next (s.turnRxEnd p).settled

/-- The lock just achieved is the one that a due command needs: its RETUNE carrier, or the slice centre with its carrier in the slice
(R124, R134). -/
def Path.lockSuits (x : Path) (p : Fin 6) (c : TxCmd) : Bool :=
  match x.lockCarrier with
  | some k => k == c.carrier && !inSlice p x.centre c.carrier
  | none => inSlice p x.centre c.carrier

/-- The path is locked and no command waits for this lock: after a lock to a RETUNE carrier it locks on to what is needed now, else it
is in RX or STANDBY (Table RF-3, R124). -/
def State.lockSettles (s : State) (p : Fin 6) : State :=
  let x := s.path p
  if x.lockCarrier.isSome ∧ x.rxEnabled then s.putPath p (x.lock none s.air)
  else (s.putPath p { x with st := if x.rxEnabled then 5 else 3, lockCarrier := none }).settlePath p

/-- LOCK_ACHIEVED: LOCKING goes to SETUP when a transmission is due and reception is not enabled or the carrier is a
RETUNE carrier, to RX when reception is enabled, and otherwise to STANDBY (Table RF-3, R134). -/
def State.lockAchieved (s : State) (p : Fin 6) : State :=
  let x := s.path p
  if x.st ≠ 4 then s
  else
    let s := s.putPath p { x with lockedAt := s.air }
    match x.due, x.queue with
    | true, c :: _ =>
      if x.lockSuits p c then
        if !x.rxEnabled ∨ x.lockCarrier.isSome then
          if x.late then s.lateStart p c 0 else s.beginSetup p c c.start
        else (s.modPath p fun x => { x with st := 5 }).settlePath p
      else s.lockSettles p
    | _, _ => s.lockSettles p

def execLockAchieved (p : Fin 6) (s : State) : Answer State := .next (s.lockAchieved p).settled

/-- LOCK_TIMEOUT: a lock not achieved within 150 µs is tried once more; after the second failure the path enters FAULT
and its pending commands end with PATH_FAULT (R138). -/
def State.lockTimeout (s : State) (p : Fin 6) : State :=
  let x := s.path p
  if x.st ≠ 4 then s
  else
    let s := s.toAir (x.lockAt + 150 * usHalfNs)
    if x.lockTry < 2 then (s.putPath p { x with lockTry := 2, lockAt := s.air }).raise Ev.SYNTH_UNLOCK p 1
    else
      let s1 := (s.putPath p { x with st := 9, lockCarrier := none, cal := none }).raise Ev.SYNTH_UNLOCK p 2
      s1.endQueue p 0x0A

def execLockTimeout (p : Fin 6) (s : State) : Answer State := .next (s.lockTimeout p).settled

/-- SYNTH_LOCK_LOSS: loss of lock during TX ramps the driver down within 4 µs and ends the command with ABORTED
(R137). -/
def execSynthLockLoss (p : Fin 6) (s : State) : Answer State :=
  .next (if (s.path p).st = 7 then (s.cutTx p 0x09).settled else s)

/-- TX_TIMEOUT: the transmitter is still on at S + D + 100 µs, or at S + RF_TX_MAX_MS if earlier; the driver is cut and
the path inhibited, and every command of the path ends (R142, R143). -/
def State.txTimeout (s : State) (p : Fin 6) : State :=
  match (s.path p).st, (s.path p).running with
  | 7, some r =>
    let at_ := min (r.start + r.cmd.duration + 100 * usHalfNs) (r.start + s.cfgN (inst Obj.RF_TX_MAX_MS p) * msHalfNs)
    let s1 := s.toAir at_
    let s2 := (s1.endCmd p r.cmd 0x0C r.start s1.air).modPath p fun x => { x with inhibit := true }
    ((s2.afterTx p true).endQueue p 0x07 |>.raise Ev.TX_TIMEOUT p).count (inst Obj.RF_TX_TIMEOUTS p)
  | _, _ => s

def execTxTimeout (p : Fin 6) (s : State) : Answer State := .next (s.txTimeout p).settled

/-- RF_TX_REARM: a write of 1 clears RF_TX_INHIBIT (R143). -/
def State.txRearm (s : State) (p : Fin 6) (v : Nat) : State :=
  if v = 1 then s.modPath p fun x => { x with inhibit := false } else s

/-- RF_TX_REARM: any other value is out of range (Table RF-11, R41, R43). -/
def execRfTxRearm (p : Fin 6) (v : Nat) (s : State) : Answer State := 
  .next (if v = 1 then (s.txRearm p v).bumpRev (inst Obj.RF_TX_REARM p) else s)

/-! ### Calibration (R144 to R148) -/

/-- A step of a calibration other than the start-up one has ended: the path returns to its former state, after an item-2 step by way of
LOCKING; the next step starts when it may (Table RF-3, R127, R144). -/
def State.stepDone (s : State) (p : Fin 6) (c : CalRun) (item : Nat) : State :=
  if c.startUp then s
  else if item = 2 then s.modPath p fun x => x.lock none s.air
  else (s.modPath p fun x => { x with st := c.former }).settleWaits p

/-- Every item of Table RF-7 has run: start-up calibration is complete (R144). -/
def State.allCalibrated (s : State) (p : Fin 6) : Bool :=
  (List.range 9).all fun i => s.roN (inst Obj.RF_CAL_STATUS p) i != 0

/-- The last item is done: the start-up calibration leads to STANDBY, any other to the former state (Table RF-3). -/
def State.calDone (s : State) (p : Fin 6) (c : CalRun) (item : Nat) : State :=
  let s1 := s.modPath p fun x => { x with cal := none, calibrated := x.calibrated || s.allCalibrated p }
  if c.startUp then
    (s1.modPath p fun x => { x with st := 3, rxEnabled := x.rxEnabled || x.waitRxOn, waitRxOn := false }).settlePath p
  else s1.stepDone p c item

/-- An item is done: the next one follows in its own steps (R144). -/
def State.nextItem (s : State) (p : Fin 6) (c : CalRun) (item : Nat) : State :=
  if c.items.tail = [] then s.calDone p c item
  else (s.modPath p fun x => { x with cal := some { c with items := c.items.tail, retried := false, steps := 0 } }).stepDone p c item

/-- The item in progress is abandoned because a transmission is due, and queued again from its first step with those after it (R136,
R148). -/
def State.preemptCal (s : State) (p : Fin 6) (c : CalRun) (item : Nat) : State :=
  let s1 := (s.raise Ev.CAL_PREEMPTED p item).count (inst Obj.RF_CAL_PREEMPTS p)
  let n := vgetD (s1.path p).preempts (item - 1) 0 + 1
  let s2 := s1.modPath p fun x => { x with
    preempts := x.preempts.setIfInBounds (item - 1) (if n = 16 then 0 else n)
    cal := none
    calQueue := if c.auto then x.calQueue else mergeItems x.calQueue c.items
    tempQueue := if c.auto then mergeItems x.tempQueue c.items else x.tempQueue }
  (if n = 16 then s2.raise Ev.CAL_STARVED p item else s2).stepDone p c item

/-- Set the status and the temperature of an item's last run (Table RF-11). -/
def State.calResult (s : State) (p : Fin 6) (item status : Nat) : State :=
  let s1 := (s.roSet (inst Obj.RF_CAL_STATUS p) (item - 1) 0 status).roSet (inst Obj.RF_CAL_TEMP p) (item - 1) 0
    s.rf.dieTemp
  s1.modPath p fun x => { x with preempts := x.preempts.setIfInBounds (item - 1) 0 }

/-- An item's value comes into use; item 8's is RF_TX_INT_DELAY and the receive delay (R139, R145, R174). -/
def State.calValue (s : State) (p : Fin 6) (item : Nat) (v : CalValue) : State :=
  let s1 := s.modPath p fun x => { x with values := x.values.setIfInBounds (item - 1) v }
  if item = 8 then s1.roPut (inst Obj.RF_TX_INT_DELAY p) (scalar (min v.val 65535 : Nat)) else s1

/-- An item's factory value in OTP, none where it is not usable (R145). -/
def State.factory (s : State) (p : Fin 6) (item : Nat) : Option CalValue :=
  (vgetD s.fw.otp.cal[p] (item - 1) none).map fun x => ⟨x.1, x.2⟩

/-- An item has failed twice and its OTP values are unusable (R145, Table RF-7). -/
def State.calFail (s : State) (p : Fin 6) (c : CalRun) (item : Nat) : State :=
  let s1 := (s.calResult p item 3).raise Ev.CAL_FAIL p item
  if item ≤ 3 then
    (s1.modPath p fun x => { x with st := 9, cal := none, running := none }).endQueue p 0x0A
  else s1.nextItem p c item

/-- CAL_STEP_END: a step ends. `last` is whether it was the item's last step, `pass` whether the item met its criterion, `val` and `rx`
the value that it found. A transmission that is due ends the item here, unless it is complete (R136, R144, R145). -/
def State.calStepEnd (s : State) (p : Fin 6) (last pass : Bool) (val : Nat) (rx : List Nat) : State :=
  match (s.path p).st, (s.path p).cal with
  | 2, some c =>
    match c.items with
    | [] => s.calDone p c 0
    | item :: _ =>
      if last && pass then ((s.calResult p item 1).calValue p item ⟨val, rx⟩).nextItem p c item
      else if last && c.retried then
        match s.factory p item with
        | some v => (((s.calResult p item 2).calValue p item v).raise Ev.CAL_FALLBACK p item).nextItem p c item
        | none => s.calFail p c item
      else if !c.startUp && (s.path p).due then s.preemptCal p c item
      else
        (s.modPath p fun x => { x with cal := some { c with
          retried := c.retried || last, steps := if last then 0 else c.steps + 1 } }).stepDone p c item
  | _, _ => s

def execCalStepEnd (p : Fin 6) (last pass : Bool) (val : Nat) (rx : List Nat) (s : State) : Answer State :=
  .next (s.calStepEnd p last pass val rx).settled

/-- The path's domain turns on: from off it calibrates, from retention it keeps its values and queues the items whose
last run differs by RF_RECAL_DELTA or more from the present temperature (Table RF-3, R127, R128). -/
def State.pathOn (s : State) (p : Fin 6) (fromOff : Bool) : State :=
  let x := s.path p
  let x := { x with centre := s.cfgN (inst Obj.RF_SLICE_CENTRE p), polarity := s.cfgN (inst Obj.RF_FE_POLARITY p) }
  if fromOff then
    s.putPath p { Path.reset x.centre with
      polarity := x.polarity, st := 2, inhibit := x.inhibit
      cal := some ⟨[1, 2, 3, 4, 5, 6, 7, 8, 9], true, false, false, 3, 0⟩ }
  else
    let stale := (List.range 9).filterMap fun i =>
      if s.cfgN (inst Obj.RF_RECAL_DELTA p) ≤ (s.rf.dieTemp - valI (s.roVal (inst Obj.RF_CAL_TEMP p)) i 0).natAbs
      then some (i + 1) else none
    (s.putPath p { x with st := 3, calQueue := mergeItems x.calQueue stale }).settlePath p

/-- The path's domain leaves on: whatever it does stops (Table RF-3). -/
def State.pathOff (s : State) (p : Fin 6) : State :=
  let s1 := match (s.path p).running with
    | some r => s.endCmd p r.cmd 0x0B r.start (if r.onAir then s.air else r.start)
    | none => s
  (s1.endQueue p 0x0B).modPath p fun x => { x with
    st := 0, rxEnabled := false, waitRxOn := false, waitRxOff := false, waitTune := none, waitCal := [], running := none, cal := none
    lockCarrier := none, calQueue := mergeItems x.calQueue x.waitCal }

/-! ### Temperature (R147, R153) -/

/-- The thermal steps engaged at a junction temperature (R153). -/
def thermalSteps (now : Nat) (backoff t : Int) : Nat :=
  (List.range 4).foldl (fun (n i : Nat) =>
    if backoff + 5 * (i : Int) ≤ t then i + 1
    else if i < now ∧ backoff + 5 * ((i : Int) - 1) ≤ t then i + 1 else n) 0

/-- A temperature change of RF_RECAL_DELTA or more from the last run of one of the items 5 to 8 queues those four items (R147). The other
items are not looked at, since these four runs would not bring their temperatures back (log entry 100). -/
def State.tempRecal (s : State) (p : Fin 6) : State :=
  let x := s.path p
  let moved := [4, 5, 6, 7].any fun i =>
    s.roN (inst Obj.RF_CAL_STATUS p) i != 0 &&
      decide (s.cfgN (inst Obj.RF_RECAL_DELTA p) ≤ (s.rf.dieTemp - valI (s.roVal (inst Obj.RF_CAL_TEMP p)) i 0).natAbs)
  let busy := (x.cal.map (·.auto)).getD false
  if x.st = 0 ∨ !x.calibrated ∨ !moved ∨ busy then s
  else (s.putPath p { x with tempQueue := [5, 6, 7, 8] }).startCal p

/-- DIE_TEMP_MEASUREMENT: the junction temperature in °C (R147, R153). -/
def State.dieTempMeasured (s : State) (t : Int) : State :=
  let t' := max (-128) (min 127 t)
  let s1 := { s with rf := { s.rf with
    dieTemp := t', thermalSteps := thermalSteps s.rf.thermalSteps (s.cfgN Obj.RF_THERMAL_BACKOFF_T) t } }
  (List.finRange 6).foldl (fun s (p : Fin 6) => s.tempRecal p) s1

def execDieTempMeasurement (t : Int) (s : State) : Answer State := .next (s.dieTempMeasured t)

/-! ### The lock record (R158) -/

/-- Every used entry has F_LOW below F_HIGH (R158). -/
def lockRangesOk (r : Bytes) : Bool :=
  (List.range (leAt r 6 1)).all fun n => decide ((lockEntry r n).low < (lockEntry r n).high)

/-- The R41 checks of a record written to REG_LOCK_PROGRAM (R158). -/
def lockWriteOk (r : Bytes) : Bool := lockValid r && lockFormOk r && lockRangesOk r

/-- The slot that REG_LOCK_PROGRAM may program: slot 0 when blank, slot 1 only when slot 0 is invalid (R158). -/
def State.lockSlot (s : State) : Option (Fin 2) :=
  if s.fw.otp.lock[0].isEmpty then some 0
  else if !lockValid s.fw.otp.lock[0] ∧ s.fw.otp.lock[1].isEmpty then some 1
  else none

/-- Program the record, read it back and put it in force (R158, R167). -/
def State.lockProgram (s : State) (r : Bytes) : State :=
  match s.lockSlot with
  | some i => { s with fw := { s.fw with otp := { s.fw.otp with lock := s.fw.otp.lock.set i r } } }
  | none => s

def execRegLockProgram (r : Bytes) (s : State) : Answer State := 
  .next (if s.sec.presClass = 1 ∧ lockWriteOk r ∧ s.lockSlot.isSome then
    (s.lockProgram r).accept Obj.REG_LOCK_PROGRAM (r.map fun b => [(b.toNat : Int)]) else s)

end Sys2Proof.Machine
end

