-- ==== Sys2Proof/Machine/Frames.lean ====
section
/-!
DEFINITION. Reception: the ordered checks of R185 on a mesh frame, legacy frames (R165), replay states (R235), and the
accepted frames that Drover consumes.
-/

namespace Sys2Proof.Machine

/-! ### Frame fields (R178 to R182) -/

/-- The frame type of a Frame Control value. -/
def fcType (fc : Nat) : Nat := fc % 8

/-- Pre-association form: source addressing mode 0b11 (R178). -/
def fcPre (fc : Nat) : Bool := fc / 2 ^ 14 % 4 == 3

/-- The accepted values of Table PH-4. -/
def fcOk (fc : Nat) : Bool :=
  fcType fc ≤ 3 && fc.testBit 3 && !fc.testBit 7 && fc.testBit 8 && fc.testBit 9 && fc / 2 ^ 10 % 4 == 0
    && fc / 2 ^ 12 % 4 == 2 && (fc / 2 ^ 14 % 4 == 0 || fcPre fc) && fc.testBit 6 == !fcPre fc

/-- The Security Control octet that a kind and form must carry, none where the table has no such form: a beacon comes after association
only, and before it only the command frames of association are sent (R179). -/
def secCtrlFor (fc : Nat) : Option Nat :=
  if fcPre fc then (if fcType fc = 3 then some 0x0E else none)
  else some (if fcType fc = 0 then 0x4A else 0x4E)

/-- An invalid tag (R181). -/
def tagInvalid (t : Nat) : Bool :=
  (0xF00009 ≤ t && t ≤ 0xF0FFFF) || (0xF20000 ≤ t && t ≤ 0xFFFFFE)

def addrOf (ies : List Ie) : Option (Nat × Nat) :=
  ies.findSome? fun i => match i with | .addr d s => some (d, s) | _ => none
def nodestatOf (ies : List Ie) : Option (Int × Nat × Nat) :=
  ies.findSome? fun i => match i with | .nodestat t v m => some (t, v, m) | _ => none
def blockAckOf (ies : List Ie) : Option (Nat × Nat × Nat) :=
  ies.findSome? fun i => match i with | .blockAck n f b => some (n, f, b) | _ => none
def unknownIes (ies : List Ie) : Nat :=
  (ies.filter fun i => match i with | .other _ _ => true | _ => false).length

/-- A node's tag: generation below 0xF. -/
def isNodeTag (t : Nat) : Bool := t < 0xF00000

/-- A frame carries an IE of a kind. -/
def hasIe (ies : List Ie) (p : Ie → Bool) : Bool := ies.any p
def isSync : Ie → Bool | .sync .. => true | _ => false
def isHop : Ie → Bool | .hop .. => true | _ => false
def isRoute : Ie → Bool | .route .. => true | _ => false
def isAlert : Ie → Bool | .alert .. => true | _ => false

/-- The IEs that Table PH-6 requires of a kind: ADDR first after association, SYNC, HOP and ROUTE in a beacon, NODESTAT in a node's data and
command frames (R182). -/
def iesOk (f : AirFrame) : Bool :=
  let addrFirst := match f.ies with | .addr _ _ :: _ => true | _ => false
  (fcPre f.fc || addrFirst) &&
    (fcType f.fc != 0 || (hasIe f.ies isSync && hasIe f.ies isHop && hasIe f.ies isRoute)) &&
    (!(fcType f.fc == 1 || fcType f.fc == 3) || (!fcPre f.fc && !isNodeTag ((addrOf f.ies).getD (0, 0)).2)
      || (nodestatOf f.ies).isSome)

/-- The modes a lane detects (R170). -/
def laneDetects (p : Fin 6) (cfg mode : Nat) : Bool :=
  if isSub p then
    [1, 2, 4].contains mode || (cfg.testBit 1 && [3, 5, 6].contains mode) || (cfg.testBit 2 && mode == 0x20)
  else mode == 0x10

/-- The carrier offset up to which a lane detects, in Hz (R176). -/
def cfoRange (p : Fin 6) (cfg : Nat) : Nat := if !isSub p then 100000 else if cfg.testBit 1 then 80000 else 40000

/-- The plan channel at the centre of a lane; none off the plan's grid (R168). -/
def State.laneChannel (s : State) (p : Fin 6) (lane : Nat) : Option Nat := s.khzChannel p (s.laneKhz p lane)

/-- The lane receives: the path is in RX, the lane enabled, in service, centred on a plan channel and of a kind that detects the mode,
and the carrier lies in its detection range (R126, R168, R170, R173, R176). -/
def State.laneHears (s : State) (p : Fin 6) (lane mode : Nat) (cfo : Int) : Bool :=
  (s.path p).st == 5 && decide (lane < laneCount p) && (s.laneCfg p lane).testBit 0
    && !(s.mesh.per[p].retired.testBit lane) && laneDetects p (s.laneCfg p lane) mode
    && (s.laneChannel p lane).isSome && decide (cfo.natAbs ≤ cfoRange p (s.laneCfg p lane))

/-! ### One frame at a time (R171, R172) -/

/-- A lane is still receiving a frame whose SFD ended earlier: another SFD is not searched for (R171). -/
def State.laneBusy (s : State) (p : Fin 6) (lane : Nat) (stamp : HalfNs) : Bool :=
  let x := lookupD lane (0, 0) s.mesh.per[p].lanes
  decide (x.1 ≤ stamp) && decide (stamp < x.2)

/-- A lane receives a frame from the end of its SFD to its last symbol (R171). -/
def State.laneTaken (s : State) (p : Fin 6) (lane : Nat) (stamp last : HalfNs) : State :=
  s.modPer p fun x => { x with lanes := insertKey lane (stamp, last) x.lanes }

/-- One symbol period of a mode (R172); of O-QPSK 16 µs. -/
def symbolTime (mode : Nat) : HalfNs :=
  if mode = 0x10 then 32000 else match modeOf mode with | some m => unitsAt 1 m.rs | none => 0

/-- The same frame on another lane (R172): an adjacent lane of the path, or the same centre on another path, within one symbol period,
with an identical PHR. -/
def State.isTwin (s : State) (p : Fin 6) (lane mode : Nat) (stamp : HalfNs) (phr : Nat) (t : Twin) : Bool :=
  (if t.path = p then t.lane == lane + 1 || t.lane + 1 == lane else s.laneKhz t.path t.lane == s.laneKhz p lane)
    && decide (stamp ≤ t.stamp + symbolTime mode) && decide (t.stamp ≤ stamp + symbolTime mode) && t.phr == phr

/-- Of twins only the one with the higher RSSI is delivered; of equal ones, which the rule leaves open, the one on the lower path and lane
(log entry 105). -/
def State.beaten (s : State) (p : Fin 6) (lane mode : Nat) (stamp : HalfNs) (phr : Nat) (rssi : Int) (ts : List Twin) : Bool :=
  ts.any fun t => s.isTwin p lane mode stamp phr t &&
    (decide (rssi < t.rssi) || (t.rssi == rssi && decide (t.path.val * 64 + t.lane < p.val * 64 + lane)))

/-- A destination this member accepts (R185, check 4). -/
def State.destOk (s : State) (d : Nat) : Bool :=
  d == s.memberTag || d == 0xF00008 || d == 0xFFFFFF
    || (0xF10000 ≤ d && d ≤ 0xF1FFFF && ((s.cfgVal Obj.SEC_GROUPS).any fun e => e == [(d : Int)]))

/-! ### Replay (R235) -/

/-- What the check before the MIC finds. -/
inductive ReplayCheck where
  | fresh | replay | duplicate
deriving DecidableEq, Repr

def replayCheck (valid : Bool) (top seen c : Nat) : ReplayCheck :=
  if !valid || decide (top < c) then .fresh
  else if 64 ≤ top - c then .replay
  else if seen.testBit (top - c) then .duplicate
  else .fresh

/-- TOP and SEEN after a NEW frame has verified (R235). -/
def replayNext (valid : Bool) (top seen c : Nat) : Nat × Nat :=
  if !valid then (c, 1)
  else if top < c then (c, (if 64 ≤ c - top then 0 else seen * 2 ^ (c - top) % 2 ^ 64) ||| 1)
  else (top, seen ||| 2 ^ (top - c))

/-- The record with an EUI-64. -/
def State.findEui (s : State) (eui : Nat) : Option Nat := (s.flock.recs.find? fun x => x.2.cfg.eui == eui).map (·.1)

/-- The record that holds the replay state of a source and key: a node's with its link key, or the one whose EUI-64 a
pre-association frame carries (R235). -/
def State.replayRec (s : State) (src key : Nat) : Option Nat :=
  if 2 ^ 24 ≤ src then s.findEui (src - 2 ^ 24)
  else if isNodeTag src ∧ key = 1 ∧ (s.recOf (src % 2 ^ 20)).isSome then some (src % 2 ^ 20) else none

/-- The replay state for a source and key: (VALID, TOP, SEEN) (R235). -/
def State.replayOf (s : State) (src key : Nat) : Bool × Nat × Nat :=
  match (s.replayRec src key).bind s.recOf with
  | some r => (r.ctr.valid, r.ctr.top, r.ctr.seen)
  | none => match s.mesh.replay.find? (fun x => x.src == src && x.key == key) with
    | some x => (true, x.top, x.seen)
    | none => (false, 0, 0)

/-- Keep a replay state: in the node's record, or beside the Flock for a source without one, which may be an EUI-64 (R235). -/
def State.putReplay (s : State) (src key top seen : Nat) : State :=
  match s.replayRec src key with
  | some k => s.modRec k fun r => { r with ctr := { r.ctr with top := top, seen := seen, valid := true } }
  | none => { s with mesh := { s.mesh with replay :=
      ⟨src, key, top, seen⟩ :: s.mesh.replay.filter fun x => !(x.src == src && x.key == key) } }

/-- The source under which a frame's replay state is kept: the tag, or before association the EUI-64 beyond all tags. -/
def srcKey (f : AirFrame) : Nat :=
  if fcPre f.fc then 2 ^ 24 + f.eui else ((addrOf f.ies).getD (0, 0)).2

/-- The frame is an acknowledgement from the node that an awaited transaction addresses: a chorus request gives the tag and
the identity of its node, with or without a record (R237, R280, R284). -/
def State.ackAwaited (s : State) (f : AirFrame) : Bool :=
  fcType f.fc == 2 && s.mesh.txns.any fun t => t.st == .awaitReply && t.nodeTag == srcKey f

/-- A source tag that a lookup resolves: not a node's, or that of a reachable record with this generation (R181), or that
of a node whose acknowledgement is awaited. -/
def State.srcKnown (s : State) (f : AirFrame) : Bool :=
  fcPre f.fc || !isNodeTag (srcKey f) || s.ackAwaited f ||
    match s.recOf ((srcKey f) % 2 ^ 20) with
    | some r => r.link.gen == (srcKey f) / 2 ^ 20 && s.reachable ((srcKey f) % 2 ^ 20)
    | none => false

/-- The listening window that caught a frame (R190). A frame from before association was sent in slot 62 or 63 unless a relay forwards it
(R222, R265). -/
def State.frameWindow (s : State) (f : AirFrame) : Option (Nat × Nat) :=
  if fcPre f.fc ∧ 62 ≤ s.absSlot f.stamp % 64 then none
  else s.windowCatch f.path f.stamp (if isNodeTag (srcKey f) then srcKey f % 2 ^ 20 else 2 ^ 20)

/-- The ASN under which a frame is verified first: that of the scheduled slot of its window, else that of its stamp
(R190). -/
def State.firstAsn (s : State) (f : AirFrame) : Nat :=
  match s.frameWindow f with | some (_, n) => n % 2 ^ 40 | none => s.asnAt f.stamp

/-- The ASN on the other side of the superframe edge when the stamp lies within half a slot of it (R190). -/
def State.otherAsn (s : State) (f : AirFrame) : Option Nat :=
  let n := s.asnAt f.stamp
  let o := f.stamp % s.tSf
  if 2 * o < s.tSlot then some (if s.firstAsn f = n then (n + 2 ^ 40 - 1) % 2 ^ 40 else n)
  else if 2 * (s.tSf - o) ≤ s.tSlot then some (if s.firstAsn f = n then (n + 1) % 2 ^ 40 else n)
  else none

/-- SEC secures no frame while held (Table AC-5) or when no key serves: the district root is empty (14_security.md). -/
def State.secServes (s : State) : Bool := !s.isHeld 2 && s.sec.slot[2].st != 0

/-! ### Keys and MIC (R179, R180, R237) -/

/-- The node identity behind a frame's link key: that of the source's record; before association its EUI-64; of an acknowledgement that a
chorus request awaits, what the request says (R180, R280). -/
def State.frameNode (s : State) (f : AirFrame) : Option (Nat × Nat) :=
  if fcPre f.fc then some (f.eui, ((s.findEui f.eui).bind s.recOf).elim 0 fun r => r.cfg.keyEpoch)
  else
    let chorus := s.mesh.txns.findSome? fun t =>
      if t.st = .awaitReply ∧ t.nodeTag = srcKey f then (t.req.bind s.reqOf).bind fun q => q.chorus.map fun k => (k.eui, k.keyEpoch) else none
    if chorus.isSome then chorus
    else if isNodeTag (srcKey f) then (s.recOf (srcKey f % 2 ^ 20)).map fun r => (r.cfg.eui, r.cfg.keyEpoch) else none

/-- The key that a frame's key index selects (R179, Table SE-3, Table SE-4); none when it is missing or the index names none (log entry
106): 1 the node's link key, 2 the beacon key, 3 the key of the destination group, 4 that of the campaign whose group it is. -/
def State.frameKey (s : State) (f : AirFrame) : Option Nat :=
  let dest := ((addrOf f.ies).getD (0xFFFFFF, 0)).1
  match f.key with
  | 1 => (s.frameNode f).map fun n => s.linkKeyOf n.1 n.2
  | 2 => if s.sec.slot[4].st = 0 then none else some s.sec.slot[4].key
  | 3 => if 0xF10000 ≤ dest ∧ dest ≤ 0xF1FFFF then some (s.groupKey dest) else none
  | 4 => (List.finRange 4).findSome? fun (n : Fin 4) =>
      if 0xF10000 + s.flock.camp[n].fieldN 0 = dest ∧ s.sec.slot[(⟨6 + n, by omega⟩ : Fin 64)].st ≠ 0
      then some s.sec.slot[(⟨6 + n, by omega⟩ : Fin 64)].key else none
  | _ => none

/-- The key is used: through the cache where it is derived (R467), but for a group key that SEC_GROUPS lists (R468). -/
def State.useFrameKey (s : State) (f : AirFrame) : State :=
  let dest := ((addrOf f.ies).getD (0xFFFFFF, 0)).1
  match f.key, s.frameNode f with
  | 1, some n => s.useKey 2 0 [n.1, n.2]
  | 3, _ => if (s.cfgVal Obj.SEC_GROUPS).any fun e => e == [(dest : Int)] then s else s.useKey 2 2 [dest]
  | _, _ => s

/-- The octets of a received frame's header (R178, R179, R182). -/
def airMhr (f : AirFrame) : Bytes :=
  mhrOctets f.fc f.pan (if fcPre f.fc then some f.eui else none) f.secCtrl f.counter f.key f.ies f.payload

/-- The MIC verifies under a key and an ASN, an acknowledgement with the counter given (R180, R237). -/
def micUnder (f : AirFrame) (key asn : Nat) (ackOf : Option Nat) : Bool :=
  f.mic == ccmMic key (nonceOctets (if fcPre f.fc then some f.eui else none) (srcKey f) asn f.counter f.secCtrl)
    (authOctets (airMhr f) ackOf) f.payload

/-- The counters that an acknowledgement may stand for: those of the frames to its source that are still awaited; of any other frame, none
(R237). -/
def State.ackCounters (s : State) (f : AirFrame) : List (Option Nat) :=
  if fcType f.fc = 2 then
    (s.mesh.txns.filter fun t => t.st == .awaitReply && t.nodeTag == srcKey f).map fun t => some t.counter
  else [none]

/-- The counter under which a MIC verifies. -/
def State.micWith (s : State) (f : AirFrame) (key asn : Nat) : Option (Option Nat) := (s.ackCounters f).find? (micUnder f key asn)

/-- Verify the MIC, a second time on the other side of the superframe edge (R190): the ASN and the acknowledged counter under which it
verifies. A verification that fails counts in SEC_TAG_FAILS (R461). Before association the nonce holds no ASN (R180). -/
def State.micCheck (s : State) (f : AirFrame) (key : Nat) : Option (Nat × Option Nat) × State :=
  let s := s.useFrameKey f
  match s.micWith f key (s.firstAsn f), if fcPre f.fc then none else s.otherAsn f with
  | some k, _ => (some (s.firstAsn f, k), s)
  | none, some n =>
    let s := s.count Obj.MESH_ASN_RETRY
    match s.micWith f key n with
    | some k => (some (n, k), s)
    | none => (none, s.count Obj.SEC_TAG_FAILS)
  | none, none => (none, s.count Obj.SEC_TAG_FAILS)

/-! ### Reception record (R177) and delivery to Drover -/

/-- TB_AIR is traceable to GNSS or PTP (Table TM-6, TB_FLAGS bit 0). -/
def State.airTraceable (s : State) : Bool := s.time.base[3].flags.testBit 0

/-- The 24-byte reception record of Table PH-3. -/
def State.rxRecord (s : State) (p : Fin 6) (lane mode : Nat) (stamp : HalfNs) (rssi snr cfo : Int)
    (fec whitened fcs2 : Bool) : Bytes :=
  let untimed := s.isHeld 0xB
  let flags := (if untimed then 1 else 0) + (if s.airTraceable then 0 else 2) + (if fec then 4 else 0)
    + (if whitened then 8 else 0) + (if fcs2 then 16 else 0)
  natLe 12 (if untimed then 0 else ts96 stamp) ++ intLe 4 cfo ++ intLe 1 rssi ++ intLe 1 snr
    ++ natLe 4 (p.val + 256 * lane + 65536 * mode + 16777216 * flags) ++ natLe 2 0

/-- The ASN and counter under which a frame verified, and whether it is a duplicate. -/
structure Verified where
  asn : Nat
  ackOf : Option Nat
  dup : Bool
deriving DecidableEq, Repr

/-- The frame as Drover takes it. It came through a relay when the window of a relay caught it that is not its source (R266, R269). -/
def State.rxFrame (s : State) (f : AirFrame) (v : Verified) : RxFrame :=
  let a := (addrOf f.ies).getD (0xFFFFFF, 0)
  let n := (nodestatOf f.ies).getD (0, 0, 0)
  let win := s.frameWindow f
  let via := match win with
    | some (w, _) => if !fcPre f.fc && isNodeTag a.2 && a.2 % 2 ^ 20 == w then none
      else match s.recOf w with | some r => if r.cfg.cls = 0x0C then some w else none | none => none
    | none => none
  let mine := match win with | some (w, _) => via.isSome || (isNodeTag a.2 && a.2 % 2 ^ 20 == w) | none => false
  { path := f.path, lane := f.lane, channel := (s.laneChannel f.path f.lane).getD 0, mode := f.mode,
    stamp := f.stamp, untimed := s.isHeld 0xB, sfdEnd := f.stamp
    last := f.stamp + (airTime f.mode f.len (s.preamble f.path) f.fec - tShr f.mode (s.preamble f.path))
    sched := mine, frameType := fcType f.fc, src := a.2, dest := a.1, eui := f.eui, key := f.key, counter := f.counter
    ar := f.fc.testBit 5, dup := v.dup, record := a.2 % 2 ^ 20, temp := n.1, supply := n.2.1, missed := n.2.2
    blockAck := blockAckOf f.ies, via := via, ackOf := v.ackOf
    payload := ((f.payload.head?).map (·.toNat)).getD 0, data := f.payload.tail, cfo := f.cfo
    unref := !s.airTraceable
    recordBytes := s.rxRecord f.path f.lane f.mode f.stamp f.rssi f.snr f.cfo f.fec f.whitened f.fcs2
    asn := match win with | some (_, k) => k | none => v.asn }

/-- Payload type or command ID: a data frame without one is an alert or wrong; acknowledgements and beacons have none; a frame in
pre-association form is one of association (R179, R183, R184, check 6). -/
def payloadOk (f : AirFrame) : Bool :=
  let t := ((f.payload.head?).map (·.toNat)).getD 0
  match fcType f.fc with
  | 1 => if f.payload.isEmpty then hasIe f.ies isAlert else 1 ≤ t && t ≤ 5
  | 3 => if fcPre f.fc then t == 0x80 || t == 0x81 else 0x80 ≤ t && t ≤ 0x83
  | _ => true

/-- A frame that some engine of the concentrator takes: not an alert, an update block or an ASSOC_RESP, which are for nodes (R183,
R184). -/
def takenUp (f : AirFrame) : Bool :=
  let t := ((f.payload.head?).map (·.toNat)).getD 0
  match fcType f.fc with
  | 1 => [1, 2, 4, 5].contains t
  | 3 => t != 0x81
  | _ => true

/-- Deliver an accepted frame and count it: to Drover's list when an engine takes it (R185). -/
def State.deliver (s : State) (f : AirFrame) (v : Verified) : State :=
  let s1 := s.count (inst Obj.MESH_RX_FRAMES f.path) f.lane
  if takenUp f then { s1 with mesh := { s1.mesh with accepted := s1.mesh.accepted ++ [s1.rxFrame f v] } } else s1

/-- Check 5: replay window and MIC, then check 6 (R185, R235, R236). A frame whose key is missing is discarded here and counted in
SEC_NO_KEY (Table SE-7). -/
def State.secureCheck (s : State) (f : AirFrame) : State :=
  let (valid, top, seen) := s.replayOf (srcKey f) f.key
  match replayCheck valid top seen f.counter with
  | .replay => s.count Obj.LINK_REPLAY
  | c =>
    if s.isHeld 2 then s
    else match if s.secServes then s.frameKey f else none with
    | none => s.count Obj.SEC_NO_KEY
    | some key =>
      match s.micCheck f key with
      | (none, s1) => s1.count Obj.LINK_MIC_FAIL
      | (some (asn, ackOf), s1) =>
        if c = .duplicate then (s1.count Obj.LINK_DUPLICATES).deliver f ⟨asn, ackOf, true⟩
        else
          let n := replayNext valid top seen f.counter
          let s2 := s1.putReplay (srcKey f) f.key n.1 n.2
          if payloadOk f then s2.deliver f ⟨asn, ackOf, false⟩ else s2.count (inst Obj.MESH_PAYLOAD_ERR f.path)

/-- The PHR is acceptable: MS clear, N in the range of its mode (R163, R166). -/
def phrOk (f : AirFrame) : Bool := !f.ms && psduOk f.mode f.len

/-- The ordered checks of R185 on a frame that a lane has received. -/
def State.frameChecks (s : State) (f : AirFrame) : State :=
  let p := f.path
  if !f.fcsOk then s.count (inst Obj.MESH_FCS_ERR p) f.lane
  else if !phrOk f then s.count (inst Obj.MESH_PHR_ERR p) f.lane
  else if !fcOk f.fc ∨ f.pan ≠ s.cfgN Obj.MESH_PAN_ID ∨ some f.secCtrl ≠ secCtrlFor f.fc ∨ !iesOk f then
    s.count (inst Obj.MESH_MHR_ERR p)
  else
    let s := s.count (inst Obj.MESH_IE_SKIPPED p) 0 0 (unknownIes f.ies)
    let a := (addrOf f.ies).getD (0xFFFFFF, 0)
    if !fcPre f.fc && (tagInvalid a.1 || tagInvalid a.2 || !s.destOk a.1) then s
    else if !s.srcKnown f then s
    else s.secureCheck f

/-- The air time-stamp of a reception: the receive delay that calibration item 8 measured for the mode, and MESH_RX_EXT_DELAY, are taken off
(R174). -/
def State.antennaTime (s : State) (p : Fin 6) (mode : Nat) (t : HalfNs) : HalfNs :=
  t - (((s.path p).values[7].rx[if mode = 0x10 then 6 else if mode = 0x20 then 7 else mode - 1]?).getD 0
    + s.cfgN (inst Obj.MESH_RX_EXT_DELAY p))

/-- The slice AGC moves to the gain that its loop asks for, within RF_RXGAIN_FLOOR and RF_RXGAIN_CEIL; a bound that holds it counts (R154). -/
def State.agc (s : State) (p : Fin 6) (want : Nat) : State :=
  let lo := s.cfgN (inst Obj.RF_RXGAIN_FLOOR p)
  let hi := s.cfgN (inst Obj.RF_RXGAIN_CEIL p)
  let s1 := s.modPath p fun x => { x with rxGain := min hi (max lo want) }
  if want < lo then s1.count (inst Obj.RF_BOUND_HITS p) 4
  else if hi < want then s1.count (inst Obj.RF_BOUND_HITS p) 5
  else s1

/-- The PHR of a received frame as it was sent (R163, R166). -/
def airPhr (f : AirFrame) : Nat :=
  if f.mode = 0x10 then f.len % 128
  else (if f.ms then 1 else 0) + (if f.fcs2 then 8 else 0) + phrOf f.whitened f.len

/-- FRAME_RECEIVED: a lane's frame, its busy and duplicate counts, and the checks (R171, R172, R185). A MESH_PAN_ID of
0xFFFF disables reception of MAC frames (Table PH-8). -/
def State.frameReceived (s : State) (f0 : AirFrame) : State :=
  let f := { f0 with stamp := s.antennaTime f0.path f0.mode f0.stamp }
  if !s.laneHears f.path f.lane f.mode f.cfo ∨ s.cfgN Obj.MESH_PAN_ID = 0xFFFF ∨ s.isHeld 7 then s
  else if s.laneBusy f.path f.lane f.stamp then s.count (inst Obj.MESH_LANE_BUSY f.path) f.lane
  else
    let last := f.stamp + (airTime f.mode f.len (s.preamble f.path) f.fec - tShr f.mode (s.preamble f.path))
    let s := (((s.laneTaken f.path f.lane f.stamp last).agc f.path f.agc).count (inst Obj.MESH_LANE_BUSY f.path) f.lane 0 f.busy)
    if s.beaten f.path f.lane f.mode f.stamp (airPhr f) f.rssi f.twins then s.count (inst Obj.MESH_DUP_LANE f.path)
    else s.frameChecks f

def execFrameReceived (f : AirFrame) (s : State) : Answer State := .next (s.frameReceived f)

/-- LEGACY_FRAME_RECEIVED: the CRC-16 over the length octet and the PSDU is checked, the frame is time-stamped and its
PSDU passed to the host unchanged (R165). A failing CRC is counted as an FCS error, a wrong length as a PHR error (Table PH-8). -/
def State.legacyReceived (s : State) (f0 : LegacyFrame) : State :=
  let f := { f0 with stamp := s.antennaTime f0.path 0x20 f0.stamp }
  let n := f.psdu.length
  if !s.laneHears f.path f.lane 0x20 f.cfo then s
  else if s.laneBusy f.path f.lane f.stamp then s.count (inst Obj.MESH_LANE_BUSY f.path) f.lane
  else
    let s := (((s.laneTaken f.path f.lane f.stamp (f.stamp + unitsAt (8 * (n + 1)) 50)).agc f.path f.agc).count
      (inst Obj.MESH_LANE_BUSY f.path) f.lane 0 f.busy)
    if s.beaten f.path f.lane 0x20 f.stamp n f.rssi f.twins then s.count (inst Obj.MESH_DUP_LANE f.path)
    else if !psduOk 0x20 n then s.count (inst Obj.MESH_PHR_ERR f.path) f.lane
    else if crc16 (BitVec.ofNat 8 n :: f.psdu.take (n - 2)) ≠ leAt f.psdu (n - 2) 2 then
      s.count (inst Obj.MESH_FCS_ERR f.path) f.lane
    else
      (s.count (inst Obj.MESH_RX_FRAMES f.path) f.lane).postRing 3 (.ulFrame 0xFFFFFFFF 2 false
        (s.rxRecord f.path f.lane 0x20 f.stamp f.rssi f.snr f.cfo false false true) 0 f.psdu)

def execLegacyFrameReceived (f : LegacyFrame) (s : State) : Answer State := .next (s.legacyReceived f)

/-- The oldest accepted frame of a kind, and the state without it. -/
def State.takeFrame (s : State) (kind : RxFrame → Bool) : Option (RxFrame × State) :=
  match s.mesh.accepted.find? kind with
  | some x => some (x, { s with mesh := { s.mesh with accepted := s.mesh.accepted.eraseP kind } })
  | none => none

/-- A data frame of a payload type (R183), a command frame of an ID (R184). -/
def isData (t : Nat) (x : RxFrame) : Bool := x.frameType == 1 && x.payload == t
def isCommand (t : Nat) (x : RxFrame) : Bool := x.frameType == 3 && x.payload == t

end Sys2Proof.Machine
end

