-- ==== Sys2Proof/Machine/MeshCmds.lean ====
section
/-!
DEFINITION. Drover's commands: uplink frames and their answers, association, channel maps, neighbours, windows,
supervision and the transaction table (05, 06 and 07 of the spec).
-/

namespace Sys2Proof.Machine

/-! ### Downlink frames -/

/-- The event counter value after this contact, which a unicast CHMAP_UPDATE names, and its superframe (R226, R228). -/
def nextEvent (r : FlockRec) (asn : Nat) : Nat × Nat :=
  let k := (asn - r.link.firstAsn) / r.link.period + 1
  (k % 65536, r.link.firstAsn + k * r.link.period)

/-- The CHMAP_UPDATE IE that an acknowledgement to a class A link carries: the pending map and the event counter value
after this contact, until the link confirms (R228, R229). -/
def State.chmapIe (s : State) (r : FlockRec) (p : Fin 6) : List Ie :=
  match s.mesh.per[p].update with
  | some u =>
    if r.cfg.cls = 0x0A ∧ !r.link.confirmed ∧ r.link.period ≠ 0 then [.chmapUpdate u.map (nextEvent r s.asn).1] else []
  | none => []

/-- What a link keeps of a unicast CHMAP_UPDATE that has been sent to it (R228, R229). -/
def FlockRec.told (r : FlockRec) (asn : Nat) : FlockRec :=
  { r with link := { r.link with switchAt := some (nextEvent r asn).2, named := (nextEvent r asn).1 :: r.link.named } }

/-- Send a transaction's frame as a reply at `start` (R192, R239): its counter is taken, its charge reserved and its
command queued; the entry becomes BOOKED. It stays QUEUED when the budget refuses it. -/
def State.sendTxnReply (s : State) (p : Fin 6) (carrier : Nat) (t : Txn) (start : HalfNs) (stage : Nat) : State :=
  let n := s.txnLen t t.mode
  let d := ceilMs (txDuration t.mode n (s.preamble p) false)
  let a := s.accountFor carrier t.mode
  let (ok, s1) := s.dutyReserve (bandOf p) a d
  if !ok then s1.putTxn { t with refusal := 0x20 }
  else match s1.takeCtr t.flock with
    | (none, s2) => (s2.dutyRelease (bandOf p) a d).endTxn t 0x2A
    | (some c, s2) =>
      let f := s2.txnFrame t (s2.recKey t.flock) c (s2.asnAt start) (s2.moreFor t.flock t.id)
      (s2.putTxn { t with st := .booked, counter := f.counter, start := start, path := p, stage := stage }).txCommand p
        ⟨0, start, carrier, t.mode, n, false, s2.preamble p, 31, false, false, .txn t.id stage, d, a, .mac f, true⟩

/-- A chained frame of a length ends, with its acknowledgement, by the limit of R193 (R239). -/
def State.chainFits (s : State) (p : Fin 6) (mode : Nat) (limit at_ : HalfNs) (n : Nat) : Bool :=
  decide (exchangeEnd at_ mode n (s.preamble p) + 400 * usHalfNs ≤ limit)

/-- The downlink chained at an instant as a reply: Drover's own queued frame to the node first, then the first held request, while its
exchange meets R193 (R239, R276). -/
def State.chain (s : State) (p : Fin 6) (carrier f : Nat) (limit at_ : HalfNs) : State :=
  match s.recOf f with
  | none => s
  | some r =>
    match s.mesh.txns.find? (fun t => t.flock == f && t.st == .queued) with
    | some t => if s.chainFits p t.mode limit at_ (s.txnLen t t.mode) then s.sendTxnReply p carrier t at_ 0 else s
    | none =>
      match s.heldOf f with
      | [] => s
      | q :: _ =>
        if s.chainFits p r.link.mode limit at_ (s.txnLen (reqTxn q (reqKind q r) r 0) r.link.mode) then
          match s.promoteReq q (reqKind q r) r with
          | some (t, s1) => s1.sendTxnReply p carrier t at_ 0
          | none => s
        else s

/-! ### Uplink frames -/

/-- T_exp of an uplink frame: of the scheduled slot whose window caught it, else of the slot of its stamp (R189, R209, R213). -/
def State.uplinkExp (s : State) (r : FlockRec) (x : RxFrame) : Int :=
  s.tExp r (if x.sched then s.slotAt x.asn r.link.slot else s.absSlot x.stamp * s.tSlot)

/-- A frame caught in a scheduled uplink window counts as its success (R270); a retry window is none. -/
def State.windowEtx (s : State) (f : Nat) (x : RxFrame) : State :=
  match s.recOf f with
  | some r => if x.sched && scheduledIn r x.asn then s.etxEvent f true else s
  | none => s

/-- What R208, R268, R269 and R270 do for an accepted uplink frame of a record, and the timing error that the
acknowledgement reports (0 for a forwarded frame's relay when its record is gone). -/
def State.uplink (s : State) (x : RxFrame) : Int × State :=
  let f := x.record
  match s.recOf f with
  | none => (0, s)
  | some r =>
    let s := s.lookup f
    let s := if x.dup then s else (s.countUplink f).routeStep f x.via x.path
    match x.via with
    | none =>
      let e := timingError x.stamp (s.uplinkExp r x) (r.drift.pendC * 1000)
      if x.untimed then (0, s)
      else (e, (s.windowEtx f x).contact f x.stamp e (some (x.temp, x.supply, x.missed)))
    | some w =>
      let s := s.modRec f fun r => { r with
        superv := x.stamp, link := { r.link with st := if r.link.st = 1 then 2 else r.link.st } }
      match s.recOf w with
      | some rw =>
        let e := timingError x.stamp (s.uplinkExp rw x) (rw.drift.pendC * 1000)
        if x.untimed then (0, s) else (e, (s.windowEtx w x).contact w x.stamp e none)
      | none => (0, s)

/-- A frame on a channel that only the new map gives for its slot, at or after the switch point, confirms the switch
(R229). -/
def State.confirmByChannel (s : State) (x : RxFrame) : State :=
  match s.recOf x.record, s.mesh.per[x.path].update with
  | some r, some u =>
    let n := s.absSlot x.stamp
    let seed := s.cfgN Obj.MESH_HOP_SEED
    let old := hopChannel s.mesh.per[x.path].map s.mesh.per[x.path].c0 seed n r.link.chOffset
    let new := hopChannel u.map u.c0 seed n r.link.chOffset
    if x.channel = new ∧ old ≠ new ∧ switched r u (s.asnAt x.stamp) = true ∧ r.link.path = x.path.val then
      s.modRec x.record fun r => { r with link := { r.link with confirmed := true, onPending := true } }
    else s
  | _, _ => s

/-- BLOCK_ACK of a campaign member: blocks held, or complete, or failed (R293). -/
def State.blockAck (s : State) (f n first bits : Nat) : State :=
  if h : n < 4 then
    let c := s.flock.camp[n]
    let c' : Campaign := { c with members := c.members.map fun m =>
      if m.flock = f ∧ m.st = 1 then
        if first = 0xFFFF then
          if bits = 2 ^ 64 - 1 then { m with st := 2 } else if bits = 0 then { m with st := 3 } else m
        else { m with held := m.held ||| (bits * 2 ^ first) }
      else m }
    let st := ((c'.members.find? fun m => m.flock == f).map (·.st)).getD 0
    let s1 := { s with flock := { s.flock with camp := s.flock.camp.set n c' } }
    let s2 := s1.modRec f fun r => { r with route := { r.route with
      campaign := r.route.campaign - r.route.campaign / 4 ^ n % 4 * 4 ^ n + st * 4 ^ n } }
    if (c'.st = 1 ∨ c'.st = 2) ∧ c'.members.all (fun m => m.st != 1) ∧ c'.members ≠ [] then
      (({ s2 with flock := { s2.flock with camp := s2.flock.camp.set n { c' with st := 3 } } }).eraseSlot
        ⟨6 + n, by omega⟩).raise Ev.CAMPAIGN_DONE n
    else s2
  else s

/-- The frame is for this member alone: its tag, or the district's, which any member accepts (R181, R238). -/
def State.unicast (s : State) (x : RxFrame) : Bool := x.dest == s.memberTag || x.dest == 0xF00008

/-- The acknowledgement of a unicast frame: ADDR and TIMING, CHMAP_UPDATE while it waits to be confirmed (R208, R228, R237, R238). -/
def State.ackFrame (s : State) (x : RxFrame) (r : FlockRec) (e : Int) (c : Nat) : AirOut :=
  { frameType := 2, pre := false, src := s.memberTag, dest := r.tag x.record, ar := false, key := 1
    keyVal := s.linkKeyOf r.cfg.eui r.cfg.keyEpoch, counter := c, asn := s.asnAt x.stamp, pending := s.moreFor x.record 512
    ies := .addr (r.tag x.record) s.memberTag :: .timing (toTiming e) (max (-32768) (min 32767 (x.cfo / 10))) :: s.chmapIe r x.path
    body := [], ackOf := some x.counter }

/-- What an acknowledgement that is sent leaves behind: the correction c of the node, or of the relay whose error it reports (R212, R268),
and what a CHMAP_UPDATE named (R228). -/
def State.acked (s : State) (x : RxFrame) (r : FlockRec) (e : Int) : State :=
  let s1 := s.modRec (x.via.getD x.record) fun k => { k with drift := { k.drift with pendC := toTiming e } }
  if (s.chmapIe r x.path).isEmpty then s1 else s1.modRec x.record fun k => k.told s.asn

/-- The acknowledgement of a unicast frame whose AR bit is set, as a reply with ADDR and TIMING, then downlink for
a class A node (R208, R238, R239, R276). -/
def State.answer (s : State) (x : RxFrame) (e : Int) : State :=
  let f := x.record
  match s.recOf f with
  | none => s
  | some r =>
    if !x.ar || !s.unicast x then s
    else match s.takeCtr f with
      | (none, s1) => s1
      | (some c, s1) =>
        let fr := s1.ackFrame x r e c
        let start := x.last + 464 * usHalfNs
        match s1.sendReply x.path (s1.replyCarrier x) x.mode start (.reply f) fr with
        | (false, s2) => s2
        | (true, s2) =>
          let s3 := s2.acked x r e
          if r.cfg.cls = 0x0A ∧ x.via.isNone then
            s3.chain x.path (s3.replyCarrier x) f (s3.slotEnd x.stamp)
              (lastSymbol start x.mode (fr.len x.mode) (s3.preamble x.path) + 464 * usHalfNs)
          else s3

/-- What every accepted data frame of a node does (R208, R229, R238, R269, R293). -/
def State.dataFrame (s : State) (x : RxFrame) : State :=
  let (e, s1) := s.uplink x
  let s2 := if x.dup then s1 else match x.blockAck with
    | some (n, first, bits) => s1.blockAck x.record n first bits
    | none => s1
  ((s2.confirmByChannel x).chmapCheck x.path).answer x e

/-- HOST_DATA_FRAME: payload type 0x01, delivered to ring 3 once, a contact, acknowledged when AR is set (R183, R236). -/
def State.hostData (s : State) : State :=
  match s.takeFrame (isData 1) with
  | none => s
  | some (x, s) =>
    let s1 := s.dataFrame x
    if x.dup then s1
    else s1.postRing 3 (.ulFrame x.record 1 x.via.isSome x.recordBytes x.src x.data)

def execHostDataFrame (s : State) : Answer State := .next s.hostData.settled

/-- KEEP_ALIVE: payload type 0x04, a contact, acknowledged; held downlink may follow (R183, R239). -/
def State.keepAlive (s : State) : State :=
  match s.takeFrame (isData 4) with
  | none => s
  | some (x, s) => s.dataFrame x

def execKeepAlive (s : State) : Answer State := .next s.keepAlive.settled

/-- T_exp of a reply: L of the answered frame + 464 µs + T_SHR, with the slew since the last contact (R209). -/
def State.replyExp (s : State) (r : FlockRec) (l : HalfNs) (mode : Nat) (p : Fin 6) : Int :=
  l + 464 * usHalfNs + tShr mode (s.preamble p) + s.slewSince r

/-- A reply came in the window of ±30 µs around its expected SFD (R240): `stop` is E of the frame answered. -/
def State.replyInWindow (s : State) (x : RxFrame) (stop : HalfNs) (mode : Nat) : Bool :=
  let te := stop - 4 * usHalfNs + 464 * usHalfNs + tShr mode (s.preamble x.path)
  decide (te ≤ x.stamp + 30 * usHalfNs) && decide (x.stamp < te + 30 * usHalfNs)

/-- The alert whose response a frame is. -/
def State.alertOf (s : State) (x : RxFrame) : Option Txn :=
  s.mesh.txns.find? fun t => t.flock == x.record && s.opensWithAlert t && t.respond && t.st == .awaitReply && t.stage == 0
    && s.replyInWindow x t.start t.mode

/-- ALERT_RESPONSE: payload type 0x05, a contact; with ALERT_GAP 0 the command follows as a reply, otherwise in its later slot,
where it is booked already, and the response is acknowledged (R207, R238). -/
def State.alertResponse (s : State) : State :=
  match s.takeFrame (isData 5) with
  | none => s
  | some (x, s) =>
    match s.alertOf x with
    | none => s.dataFrame x
    | some t =>
      let (e, s1) := match s.recOf x.record with
        | some r =>
          let e := timingError x.stamp (s.replyExp r (t.start - 4 * usHalfNs) t.mode x.path) (r.drift.pendC * 1000)
          if x.untimed then (0, s) else (e, ((s.countUplink x.record).contact x.record x.stamp e
            (some (x.temp, x.supply, x.missed))).etxEvent x.record true)
        | none => (0, s)
      if t.gap = 0 then s1.sendTxnReply x.path (s1.replyCarrier x) t (x.last + 464 * usHalfNs) 1
      else (s1.putTxn { t with st := .onAir, stage := 1 }).answer x e

def execAlertResponse (s : State) : Answer State := .next s.alertResponse.settled

/-- The record whose link a transaction's reply is measured on: its own, or the relay toward which it was booked (R268, R270, R278). -/
def State.replyHop (s : State) (t : Txn) : Nat :=
  match s.recOf t.flock with
  | some r => if r.link.relayed then (s.routeTo t.flock).getD t.flock else t.flock
  | none => t.flock

/-- The transaction that an acknowledgement completes: the frame whose counter it covers is still awaited, and it came in the window of
R240 (R237). -/
def State.ackedTxn (s : State) (x : RxFrame) : Option Txn :=
  s.mesh.txns.find? fun t => t.st == .awaitReply && some t.counter == x.ackOf && t.nodeTag == x.src
    && s.replyInWindow x t.start t.mode

/-- A contact by an acknowledgement, which leaves the temperatures, and a success for ETX (R182, R208, R268, R270). -/
def State.ackContact (s : State) (x : RxFrame) (t : Txn) : State :=
  let who := s.replyHop t
  match s.recOf who with
  | some r =>
    let e := timingError x.stamp (s.replyExp r (t.start - 4 * usHalfNs) t.mode x.path) (r.drift.pendC * 1000)
    if x.untimed then s else (s.contact who x.stamp e none).etxEvent who true
  | none => s

/-- A node holds block 0 of a campaign once its enrolment is acknowledged (R291, R293). -/
def State.enrolled (s : State) (n f : Nat) : State :=
  if h : n < 4 then
    { s with flock := { s.flock with camp := vmod s.flock.camp ⟨n, h⟩ fun c => { c with members := c.members.map fun m =>
      if m.flock = f then { m with held := m.held ||| 1 } else m } } }
  else s

/-- ACK_RECEIVED: an acknowledgement that verifies against the counter of a frame sent and still awaited completes the
attempt and is a contact; further downlink for a class A node follows it (R237, R239, R268, R278). Any other one is dropped. -/
def State.ackReceived (s : State) : State :=
  match s.takeFrame (fun x => x.frameType == 2) with
  | none => s
  | some (x, s) =>
    match s.ackedTxn x with
    | none => s
    | some t =>
      let relayed := ((s.recOf t.flock).map (·.link.relayed)).getD false
      let s1 := ((s.ackContact x t).endTxn { t with attempts := t.attempts + 1 } 0 relayed).disassocEnd t
      let s2 := match t.kind with | .enrol n => s1.enrolled n t.flock | _ => s1
      match s2.recOf t.flock with
      | some r =>
        if r.cfg.cls = 0x0A ∧ !relayed ∧ r.link.st ≠ 0 then
          s2.chain x.path (s2.replyCarrier x) t.flock (s2.slotEnd x.stamp) (x.last + 464 * usHalfNs)
        else s2
      | none => s2

def execAckReceived (s : State) : Answer State := .next s.ackReceived.settled

/-- REPLY_WINDOW_END: no acceptable reply within ±30 µs of its SFD; the attempt ends with NO_RESPONSE when an alert
response was awaited, else with NO_ACK (R240, R244). -/
def State.replyWindowEnd (s : State) (id : Nat) : State :=
  match s.txnOf id with
  | none => s
  | some t =>
    if t.st ≠ .awaitReply then s
    else
      let s1 := s.toAir (t.start - 4 * usHalfNs + 464 * usHalfNs + tShr t.mode (s.preamble t.path) + 30 * usHalfNs)
      let st := if s1.opensWithAlert t ∧ t.respond ∧ t.stage = 0 then 0x24 else 0x23
      (s1.etxEvent (s1.replyHop t) false).attemptEnd t st true

def execReplyWindowEnd (id : Nat) (s : State) : Answer State := .next (s.replyWindowEnd id).settled

/-! ### Association and its end (R222 to R225, R232) -/

/-- An empty Flock number, searched upward from a free value (R223 does not say which one a new record takes). -/
def freeFlock (recs : List (Nat × FlockRec)) : Nat → Nat → Option Nat
  | 0, _ => none
  | n + 1, i =>
    if (recs.find? fun x => x.1 == i % 2 ^ 20).isNone then some (i % 2 ^ 20) else freeFlock recs n (i + 1)

def State.emptyFlock (s : State) : Option Nat :=
  if 2 ^ 20 ≤ s.flock.recs.length then none else freeFlock s.flock.recs (s.flock.recs.length + 1) s.draw.1

/-- A record as R259 creates it: DETACHED, every data-plane field zero but GENERATION, NEXT_HOP, PREV_HOP and
DRIFT_TB; the delivery ratio starts at 0.5 (R270). -/
def newRec (c : FlockCfg) : FlockRec :=
  { cfg := c
    link := ⟨0, 0xF, 0, 0, 0, 0, 0, 0, 0, false, false, false, 0, none, [], none⟩
    drift := ⟨0, -128, 0, 0, 0, 0, 0, 0, 0, 0, 0⟩
    ctr := ⟨0, 0, 0, 0, false⟩
    route := ⟨32768, 0, 0xFFFFFFFF, 0xFFFFFFFF, 0, 0, 0, 0, 0, 0, 0⟩
    dirty := true, superv := 0 }

/-- The lanes of a path that carry the channels of its map in force: every one is WIDE (R169, R170). A map without an enabled lane has
none. -/
def State.mapWide (s : State) (p : Fin 6) : Bool :=
  let m := s.mapInForce p
  let lanes := (mapBits m.1).filterMap fun i => (s.channelKhz p (m.2 + i)).bind (s.laneFor p)
  !lanes.isEmpty && lanes.all fun k => (s.laneCfg p k).testBit 1

/-- The modes that a node's capabilities and the lanes of its channels admit (R154, R170, R184). -/
def State.linkModes0 (s : State) (p : Fin 6) (caps : Nat) : List Nat :=
  if isSub p then [1, 2, 3, 4, 5, 6].filter fun m => caps.testBit (m - 1) && (s.mapWide p || [1, 2, 4].contains m)
  else if caps.testBit 7 then [0x10] else []

/-- A mode's bit rate in kb/s. -/
def rateOf (m : Nat) : Nat := match modeOf m with | some k => k.rb | none => 0

/-- Those of them whose bit rate lies within RF_RATE_FLOOR and RF_RATE_CEIL (R154). -/
def State.linkModes (s : State) (p : Fin 6) (caps : Nat) : List Nat :=
  (s.linkModes0 p caps).filter fun m =>
    decide (s.cfgN (inst Obj.RF_RATE_FLOOR p) ≤ rateOf m) && decide (rateOf m ≤ s.cfgN (inst Obj.RF_RATE_CEIL p))

/-- Per-link rate adaptation assigns a mode; each bound that took one away counts (R154, Table RF-11). -/
def State.rateHits (s : State) (p : Fin 6) (caps : Nat) : State :=
  let ms := s.linkModes0 p caps
  let s1 := if ms.any fun m => decide (rateOf m < s.cfgN (inst Obj.RF_RATE_FLOOR p)) then s.count (inst Obj.RF_BOUND_HITS p) 2 else s
  if ms.any fun m => decide (s.cfgN (inst Obj.RF_RATE_CEIL p) < rateOf m) then s1.count (inst Obj.RF_BOUND_HITS p) 3 else s1

/-- The sniff periods that R205 allows, in 10 ms units: 2ʲ × T_slot from 200 ms to 6,400 ms. -/
def State.sniffPeriods (s : State) : List Nat :=
  ((List.range 10).filter fun j =>
    let t := 2 ^ j * s.cfgN Obj.MESH_SLOT_MS
    decide (200 ≤ t) && decide (t ≤ 6400) && t % 10 == 0).map fun j => 2 ^ j * s.cfgN Obj.MESH_SLOT_MS / 10

/-- The duty budgets leave room for a link: on some channel of the path's map both accounts admit the acknowledgement of one uplink (Table
LK-2; what a schedule needs is the model's reading, log entry 107). -/
def State.dutyForLink (s : State) (p : Fin 6) (modes : List Nat) : Bool :=
  let m := s.mapInForce p
  modes.any fun k => (mapBits m.1).any fun i => match s.channelKhz p (m.2 + i) with
    | some khz =>
      let d := ceilMs (txDuration k (44 - 4 + fcsLen k) (s.preamble p) false)
      s.dutyFits (bandOf p) 0 d && s.dutyFits (bandOf p) (s.accountFor khz k) d
    | none => false

/-- The outcome of an association request, by the first matching row of Table LK-2. -/
def State.assocStatus (s : State) (rec : Option FlockRec) (cls : Nat) (p : Fin 6) (caps : Nat) : Nat :=
  let provisioned := match rec with | some r => r.cfg.flags.testBit 0 | none => false
  let policy := s.cfgN Obj.LINK_ASSOC_POLICY
  if policy = 0 ∨ (policy = 1 ∧ !provisioned) ∨ (provisioned ∧ (rec.map fun r => r.cfg.cls) ≠ some cls)
      ∨ !([0x0A, 0x0B, 0x0C].contains cls) then 2
  else if rec.isNone ∧ s.emptyFlock.isNone then 1
  else if s.linkModes p caps = [] ∨ s.freeTxn.isNone ∨ !s.dutyForLink p (s.linkModes p caps)
      ∨ (cls = 0x0B ∧ s.sniffPeriods = []) then 3
  else 0

/-- The ASSOC_RESP of this member, in pre-association form, under the node's link key (R223, R224). -/
def State.assocResp (s : State) (keyVal counter status tag sniff mode : Nat) (ies : List Ie) : AirOut :=
  { frameType := 3, pre := true, src := s.fw.otp.eui, dest := 0, ar := true, key := 1, keyVal := keyVal, counter := counter, asn := 0
    pending := false, ies := ies
    body := 0x81 :: (natLe 1 status ++ natLe 3 tag ++ natLe 2 sniff ++ natLe 1 mode), ackOf := none }

/-- Send an ASSOC_RESP as a reply, or through the relay that forwarded the request (R192, R265). -/
def State.sendAssoc (s : State) (x : RxFrame) (f : AirOut) : State :=
  match x.via with
  | none => (s.sendReply x.path (s.replyCarrier x) x.mode (x.last + 464 * usHalfNs) (.other 0) f).2
  | some w =>
    match s.freeTxn, s.recOf w with
    | some i, some r => s.addTxn
        { id := i, kind := .assocResp f, st := .queued, flock := w, path := x.path, start := 0, channel := 0, handle := 0,
          ms := 0, account := 0, attempts := 0, deadline := s.air + s.cfgN Obj.LINK_TXN_LIFE * secHalfNs, refusal := 0,
          stage := 0, respond := false, gap := 0, data := [], req := none, nodeTag := r.tag w, mode := r.link.mode,
          chOffset := r.link.chOffset, counter := f.counter, host := false }
    | _, _ => s

/-- The slots that Drover may assign: 1 to 61; of a relay's children not the relay's own slot nor its beacon slot (R224, R265). -/
def State.slotsFor (s : State) (via : Option Nat) : List Nat :=
  ((List.range 61).map (· + 1)).filter fun k => match via.bind s.recOf with
    | some r => k != r.link.slot && k != r.cfg.param
    | none => true

/-- The link that an accepted request opens: JOINING under a new tag. Slot, period, offset and first ASN, which the spec leaves to Drover,
are free values; a link opened under a map already in force starts on it (R224, R228). -/
def State.newLink (s : State) (x : RxFrame) (r : FlockRec) (caps fw : Nat) : FlockLink :=
  let d := s.draw.1
  let modes := s.linkModes x.path caps
  let slots := s.slotsFor x.via
  let now := match s.mesh.per[x.path].update with | some u => u.inForce | none => false
  { st := 1, gen := if r.link.gen = 0xF then 0 else (r.link.gen + 1) % 15, mode := (modes[d % modes.length]?).getD 0
    path := if x.via.isSome then 0xFF else x.path.val, caps := caps, chOffset := d / 64 % 40
    slot := (slots[d / 4096 % slots.length]?).getD 1, period := 1 + d / 2 ^ 20 % 65535
    firstAsn := (s.asn + 1 + d / 2 ^ 40 % 64) % 2 ^ 40, onPending := now, confirmed := now, relayed := x.via.isSome, fwVersion := fw
    switchAt := none, named := [], leave := none }

/-- Accept a node: a new tag, mode and schedule; JOINING; its ASSOC_RESP is sent (R214, R224, R225). -/
def State.acceptAssoc (s : State) (x : RxFrame) (f : Nat) (r : FlockRec) (caps drift fw : Nat) : State :=
  let link := s.newLink x r caps fw
  let s := (s.drawn).rateHits x.path caps
  let s := if r.link.st ≠ 0 then (s.endLinkTxns f 0x25).raise Ev.LINK_REASSOC 0xFF f else s
  let r' : FlockRec := { r with
    link := link, dirty := true, superv := x.stamp
    drift := { r.drift with
      b := 100 * max 30 drift, tb := -128, misses := 0, lastContact := 0, since := x.stamp, lastE := 0, pendC := 0
      slewRef := s.slewAcc, lastTemp := x.temp }
    route := { r.route with ratio := 32768, etx := etxOf 32768 } }
  match (s.setRec f r').takeCtr f with
  | (none, s) => s
  | (some c, s) =>
    let m := s.mapInForce x.path
    s.sendAssoc x (s.assocResp (s.recKey f) c 0 (r'.tag f) (if r.cfg.cls = 0x0B then r.cfg.param else 0) link.mode
      [.hop (if isSub x.path then s.lockRegion else 0xFF) m.2 m.1 (s.cfgN Obj.MESH_HOP_SEED),
        .sched link.slot link.period link.chOffset link.firstAsn])

/-- Answer a request with a status other than accepted (R223): under the counter of the node's record, or of its EUI-64 without one
(R233). -/
def State.refuseAssoc (s : State) (x : RxFrame) (known : Option Nat) (st : Nat) : State :=
  match known with
  | some f => match s.takeCtr f with
    | (some c, s) => s.sendAssoc x (s.assocResp (s.recKey f) c st 0 0 0 [])
    | (none, s) => s
  | none =>
    let (c, s) := s.takeOther x.eui 1
    if ctrMax ≤ c then s else s.sendAssoc x (s.assocResp (s.linkKeyOf x.eui 0) c st 0 0 0 [])

/-- The request is for this member: slot 62 or 63, on the channel of the member's own beacon offset (R222); a forwarded
request came in the relay's slot (R265). -/
def State.assocForUs (s : State) (x : RxFrame) : Bool :=
  let n := s.absSlot x.stamp
  let m := s.mapInForce x.path
  x.via.isSome || ((n % 64 == 62 || n % 64 == 63) &&
    x.channel == hopChannel m.1 m.2 (s.cfgN Obj.MESH_HOP_SEED) n (s.cfgN (inst Obj.MESH_BEACON_CH_OFFSET x.path)))

/-- The record that a request opens: the node's own, or a new one that takes over the replay state and the counter kept for its EUI-64
(R223, R233, R235). A record that the host has not provisioned takes the class asked for; a class B record made here gets one of the
periods of R205, which one being free. -/
def State.assocRec (s : State) (x : RxFrame) (known : Option Nat) (cls : Nat) : Option (Nat × FlockRec × State) :=
  let ps := s.sniffPeriods
  let param := if cls = 0x0B then (ps[s.draw.1 % ps.length]?).getD 0 else 0
  match known with
  | some f => (s.recOf f).map fun r =>
    if r.cfg.cls = cls then (f, r, s) else (f, { r with cfg := { r.cfg with cls := cls, param := if cls = 0x0C then 1 else param } }, s.drawn)
  | none => s.emptyFlock.map fun f =>
    let n := newRec ⟨x.eui, cls, 0, if cls = 0x0C then 1 else param, 0, Vector.replicate 4 0xFFFF⟩
    let c := ((s.mesh.ctrOut.find? fun k => k.1 == x.eui && k.2.1 == 1).map (·.2.2)).getD 0
    (f, { n with ctr := { n.ctr with own := c, top := x.counter, seen := 1, valid := true } }, s.drawn)

/-- ASSOC_REQ: answered by an ASSOC_RESP whose status follows Table LK-2 (R222 to R225). A duplicate reaches no
engine (R236). -/
def State.assocReq (s : State) : State :=
  match s.takeFrame (isCommand 0x80) with
  | none => s
  | some (x, s) =>
    if x.dup || !s.assocForUs x then s
    else
      let cls := leAt x.data 0 1
      let caps := leAt x.data 1 2
      let known := s.findEui x.eui
      let st := s.assocStatus (known.bind s.recOf) cls x.path caps
      let s := s.count Obj.LINK_ASSOC_COUNTS st
      if st ≠ 0 then s.refuseAssoc x known st
      else match s.assocRec x known cls with
        | some (f, r, s1) => (s1.setRec f r).acceptAssoc x f r caps (leAt x.data 3 1) (leAt x.data 4 4)
        | none => s

def execAssocReq (s : State) : Answer State := .next s.assocReq.settled

/-- DISASSOC from a node ends its link (R184, R238). -/
def State.disassoc (s : State) : State :=
  match s.takeFrame (isCommand 0x82) with
  | none => s
  | some (x, s) => if x.dup then s.dataFrame x else (s.dataFrame x).detach x.record 0x25

def execDisassoc (s : State) : Answer State := .next s.disassoc.settled

/-- The value of a CHMAP_UPDATE that the concentrator has sent to a link: an event named to a class A link, or the low 16 bits of the
apply-ASN in the beacons (R228, R229). -/
def sentValue (r : FlockRec) (u : ChUpdate) (v : Nat) : Bool := r.link.named.contains v || (r.cfg.cls != 0x0A && v == u.applyAsn % 65536)

/-- CHMAP_ACK confirms a link's switch when it names the value the concentrator sent (R229). -/
def State.chmapAck (s : State) : State :=
  match s.takeFrame (isCommand 0x83) with
  | none => s
  | some (x, s) =>
    let s1 := match s.recOf x.record, s.mesh.per[x.path].update with
      | some r, some u =>
        if r.link.path = x.path.val ∧ sentValue r u (leAt x.data 0 2) = true then
          s.modRec x.record fun r => { r with link := { r.link with confirmed := true } }
        else s
      | _, _ => s
    s1.dataFrame x

def execChmapAck (s : State) : Answer State := .next s.chmapAck.settled

/-- LINK_REMOVE: a DISASSOC with a reason waits for the link's next downlink opportunity (R232). A record without a
link has nothing to remove. -/
def State.queueDisassoc (s : State) (f reason : Nat) : State :=
  match s.recOf f with
  | some r => if r.link.st = 0 then s else s.modRec f fun r => { r with link := { r.link with leave := some reason } }
  | none => s

def execLinkRemove (f : Nat) (s : State) : Answer State := 
  .next (if f < 2 ^ 20 then ((s.queueDisassoc f 2).bumpRev Obj.LINK_REMOVE).settled else s)

/-! ### Channel-map writes (R227) -/

/-- A carrier is the centre of an enabled lane of the path as it is configured (R168, R227). -/
def State.laneSet (s : State) (p : Fin 6) (khz : Nat) : Bool :=
  let c := s.cfgN (inst Obj.RF_SLICE_CENTRE p)
  (List.range (laneCount p)).any fun k =>
    (s.laneCfg p k).testBit 0 && !(s.mesh.per[p].retired.testBit k)
      && (if isSub p then c + 200 * k - 3900 else c + 5000 * k - 7500) == khz

/-- Why a map and first channel are rejected: RANGE 4 or CONFLICT 5 (R227). -/
def State.chmapReject (s : State) (p : Fin 6) (map c0 : Nat) : Nat :=
  if map = 0 ∨ 2 ^ 40 ≤ map ∨ (!isSub p ∧ 2 ^ 16 ≤ map) then 4
  else if (mapBits map).any fun i => (s.channelKhz p (c0 + i)).isNone then 4
  else if (mapBits map).any fun i => match s.channelKhz p (c0 + i) with
      | some k => !s.laneSet p k | none => false then 5
  else if s.mesh.per[p].update.isSome then 5
  else 0

/-- A checked map takes effect at once on a path with no link and no beacon, otherwise it becomes the pending update
(R227). -/
def State.chmapPut (s : State) (p : Fin 6) (map c0 : Nat) : State :=
  if s.cfgN (inst Obj.MESH_BEACON_ENABLE p) = 0 ∧ s.flock.recs.all (fun x => x.2.link.st == 0 || x.2.link.path != p.val) then
    let s1 := (s.cfgPut (inst Obj.MESH_CHMAP p) (scalar map)).cfgPut (inst Obj.MESH_CHMAP_C0 p) (scalar c0)
    { s1 with mesh := { s1.mesh with per := vmod s1.mesh.per p fun x => { x with map := map, c0 := c0 } } }
  else s.startUpdate p map c0

/-- Why a write of MESH_CHMAP_C0 is refused: while the path has no map and no update pending, there is nothing to check (R227). -/
def State.c0Reject (s : State) (p : Fin 6) (c0 : Nat) : Nat :=
  let map := s.cfgN (inst Obj.MESH_CHMAP p)
  if map = 0 ∧ s.mesh.per[p].update.isNone then 0 else s.chmapReject p map c0

/-- MESH_CHMAP_WRITE: a write of MESH_CHMAP, or of MESH_CHMAP_C0 when `first` (R227). -/
def State.chmapWrite (s : State) (p : Fin 6) (first : Bool) (v : Nat) : State :=
  let map := if first then s.cfgN (inst Obj.MESH_CHMAP p) else v
  let c0 := if first then v else s.cfgN (inst Obj.MESH_CHMAP_C0 p)
  if first ∧ map = 0 ∧ s.mesh.per[p].update.isNone then (s.cfgPut (inst Obj.MESH_CHMAP_C0 p) (scalar c0)).bumpRev (inst Obj.MESH_CHMAP_C0 p)
  else if s.chmapReject p map c0 = 0 then
    (s.chmapPut p map c0).bumpRev (inst (if first then Obj.MESH_CHMAP_C0 else Obj.MESH_CHMAP) p)
  else s

def execMeshChmapWrite (p : Fin 6) (first : Bool) (v : Nat) (s : State) : Answer State := .next (s.chmapWrite p first v)

/-- LANE_RETIRED (R173, R229): the lane stops receiving, the event is raised, and an update removes its channel: from the
pending map when one is pending, else from the map in force. A map is never empty (R195): of the last channel nothing is removed (log
entry 108). -/
def State.retireLane (s : State) (p : Fin 6) (lane : Nat) : State :=
  let s1 := (s.modPer p fun x => { x with retired := x.retired ||| 2 ^ lane }).raise Ev.LANE_RETIRED p lane
  let m : Nat × Nat := match s1.mesh.per[p].update with | some u => (u.map, u.c0) | none => (s1.mesh.per[p].map, s1.mesh.per[p].c0)
  match s1.laneChannel p lane with
  | some ch =>
    if m.2 ≤ ch ∧ m.1.testBit (ch - m.2) = true ∧ m.1 ≠ 2 ^ (ch - m.2) then s1.startUpdate p (m.1 - 2 ^ (ch - m.2)) m.2 else s1
  | none => s1

/-! ### Neighbours (R202 to R204) -/

def State.setNbr (s : State) (i : Fin 16) (n : Nbr) : State :=
  { s with mesh := { s.mesh with nbr := s.mesh.nbr.set i n } }

/-- What is tracked of a neighbour, an entry of MESH_NBR_CFG or a relay of the Flock (R202, Table FL-1): path, beacon slot, beacon mode,
b_eff in 0.01 ppm, when it was last heard (none: never). -/
structure NbrView where
  path : Nat
  slot : Nat
  mode : Nat
  beff : Nat
  heard : Option HalfNs
deriving DecidableEq, Repr

def State.nbrView (s : State) (i : Fin 16) : NbrView :=
  { path := s.cfgN Obj.MESH_NBR_CFG i 2, slot := s.cfgN Obj.MESH_NBR_CFG i 3, mode := s.cfgN Obj.MESH_NBR_CFG i 4
    beff := if s.cfgN Obj.MESH_NBR_CFG i 0 = 1 then 200 else 3000
    heard := if s.mesh.nbr[i].heard = 0 then none else some (ts96Half s.mesh.nbr[i].lastHeard) }

def relayView (r : FlockRec) : NbrView :=
  { path := r.link.path, slot := r.cfg.param, mode := r.link.mode, beff := 3000
    heard := if r.route.heardAt = 0 then none else some r.route.heardAt }

/-- The SFD instant expected in a superframe: beacon slot, transmit offset, T_SHR of the beacon mode (R202). -/
def State.nbrExp (s : State) (v : NbrView) (n : Nat) : HalfNs :=
  n * s.tSf + v.slot * s.tSlot + 1000 * usHalfNs + tShr v.mode (if h : v.path < 6 then s.preamble ⟨v.path, h⟩ else 0)

/-- g of a neighbour's window (R202, R210). -/
def NbrView.guard (v : NbrView) (te : HalfNs) : HalfNs := guardUs v.beff (te - v.heard.getD te) * usHalfNs

/-- A beacon's stamp lies in a window of the neighbour on its path; one never heard is heard wherever it comes (R202). -/
def State.nbrHears (s : State) (v : NbrView) (x : RxFrame) : Bool :=
  x.path.val == v.path && (v.heard.isNone ||
    [x.stamp / s.tSf - 1, x.stamp / s.tSf, x.stamp / s.tSf + 1].any fun n =>
      let te := s.nbrExp v n
      decide (te ≤ x.stamp + v.guard te) && decide (x.stamp < te + v.guard te))

/-- The path could not hear throughout the window that ends next: transmitting, calibrating, or its domain not on (R202). -/
def State.deaf (s : State) (v : NbrView) : Bool :=
  if h : v.path < 6 then
    let p : Fin 6 := ⟨v.path, h⟩
    let te := s.nbrExp v (s.air / s.tSf)
    !s.domOn (pathDomain p) || ((s.path p).deaf && decide ((s.path p).deafAt ≤ te - v.guard te))
  else true

/-- Carry time to the end of the neighbour's window in this superframe. -/
def State.toNbrEnd (s : State) (v : NbrView) : State :=
  s.toAir (s.nbrExp v (s.air / s.tSf) + v.guard (s.nbrExp v (s.air / s.tSf)))

/-- A relay's beacon was missed (R202, R203, R257). -/
def State.relayMiss (s : State) (f : Nat) : State :=
  s.modRec f fun r =>
    let n := min (r.drift.misses + 1) 255
    { r with
      drift := { r.drift with misses := n }
      route := { r.route with nbrState := if 3 ≤ n ∧ r.route.nbrState ≠ 3 then 2 else r.route.nbrState } }

/-- The beacon of an entry of MESH_NBR_CFG was missed: three times in a row make it LOST (R202, R203). -/
def State.nbrMiss (s : State) (i : Fin 16) : State :=
  let n := s.mesh.nbr[i]
  let m := min (n.misses + 1) 255
  let lost := 3 ≤ m ∧ (n.st = 1 ∨ n.st = 4)
  let s1 := s.setNbr i { n with misses := m, missed := min (n.missed + 1) 0xFFFFFFFF, st := if lost then 2 else n.st }
  if lost then s1.raise Ev.NBR_LOST i else s1

/-- NBR_BEACON_WINDOW_END: an expected beacon was not heard (R202, R203). `relay` names a class C record, otherwise entry `i` of
MESH_NBR_CFG. -/
def State.nbrWindowEnd (s : State) (relay : Option Nat) (i : Fin 16) : State :=
  match relay with
  | some f =>
    match s.recOf f with
    | some r =>
      if r.cfg.cls ≠ 0x0C ∨ r.link.st = 0 then s
      else
        let s1 := s.toNbrEnd (relayView r)
        if s1.deaf (relayView r) then s1 else s1.relayMiss f
    | none => s
  | none =>
    if s.cfgN Obj.MESH_NBR_CFG i 0 = 0 then s
    else
      let s1 := s.toNbrEnd (s.nbrView i)
      if s1.deaf (s.nbrView i) then s1 else s1.nbrMiss i

def execNbrBeaconWindowEnd (relay : Option Nat) (i : Fin 16) (s : State) : Answer State := .next (s.nbrWindowEnd relay i)

/-- NBR_SUPERVISION_EXPIRY: a LOST neighbour becomes EXPIRED and its slots are released (R203). -/
def State.nbrExpiry (s : State) (relay : Option Nat) (i : Fin 16) : State :=
  match relay with
  | some f =>
    match s.recOf f with
    | some r =>
      if r.route.nbrState ≠ 2 then s
      else (s.toAir (r.route.heardAt + s.supervision r)).modRec f fun r => { r with route := { r.route with nbrState := 3 } }
    | none => s
  | none =>
    let n := s.mesh.nbr[i]
    if n.st ≠ 2 then s
    else
      let s1 := s.toAir (ts96Half n.lastHeard + s.cfgN Obj.MESH_NBR_CFG i 7 * secHalfNs)
      (s1.setNbr i { n with st := 3 }).raise Ev.NBR_EXPIRED i

def execNbrSupervisionExpiry (relay : Option Nat) (i : Fin 16) (s : State) : Answer State := .next (s.nbrExpiry relay i)

/-- NEIGHBOUR_BEACON: a tracked source's beacon in its window; LOST or EXPIRED returns to TRACKING with NBR_RETURNED (R202,
R204). A relay of the Flock, which has no entry to name, raises no event. -/
def State.neighbourBeacon (s : State) : State :=
  match s.takeFrame (fun x => x.frameType == 0) with
  | none => s
  | some (x, s) =>
    match (List.finRange 16).find? (fun (i : Fin 16) =>
        s.cfgN Obj.MESH_NBR_CFG i 0 != 0 && s.cfgN Obj.MESH_NBR_CFG i 1 == x.src) with
    | some i =>
      let n := s.mesh.nbr[i]
      if !s.nbrHears (s.nbrView i) x then s
      else
        let s1 := s.setNbr i ⟨1, 0, ts96 x.stamp, min (n.heard + 1) 0xFFFFFFFF, n.missed⟩
        if n.st = 2 ∨ n.st = 3 then s1.raise Ev.NBR_RETURNED i else s1
    | none =>
      match s.recOf x.record with
      | some r =>
        if isNodeTag x.src ∧ r.cfg.cls = 0x0C ∧ s.nbrHears (relayView r) x = true then
          s.modRec x.record fun r => { r with
            drift := { r.drift with misses := 0 }, route := { r.route with nbrState := 1, heardAt := x.stamp } }
        else s
      | none => s

def execNeighbourBeacon (s : State) : Answer State := .next s.neighbourBeacon

/-! ### Windows and supervision (R215, R230, R241) -/

/-- The window that ends: of the present superframe, or of the one before when the window reaches over the edge. -/
def State.endingWindow (s : State) (f : Nat) (r : FlockRec) : Nat :=
  if s.windowIn f r s.asn then s.asn else s.asn - 1

/-- The retry windows of a link after a window without a frame: two after a scheduled window, in the same slot of the next superframes
(R241). -/
def State.openRetry (s : State) (f asn : Nat) (retry : Bool) : State :=
  let left := match s.mesh.retry.find? (fun w => w.flock == f) with
    | some w => if retry then w.left else 2
    | none => if retry then 0 else 2
  let others := s.mesh.retry.filter fun w => w.flock ≠ f
  { s with mesh := { s.mesh with retry := if left = 0 then others else ⟨f, (asn + 1) % 2 ^ 40, left - 1⟩ :: others } }

/-- LISTEN_WINDOW_END: a window of a link ended without a frame; `retry` when it was a retry window. The miss is counted,
a retry window opens in the same slot of the next superframe, at most twice; RESYNC entry and the end of a JOINING link
follow (Table LK-1, R215, R241). A window that could not be listened to because the path's domain is not on counts
nothing (13_power_domains.md R457), nor does one that a beacon preempted for ETX (R270). -/
def State.listenEnd (s : State) (f : Nat) (retry : Bool) : State :=
  match s.recOf f with
  | none => s
  | some r =>
    if r.link.st = 0 ∨ (r.link.path < 6 ∧ !s.domOn (7 + r.link.path)) then s
    else
      let n := s.endingWindow f r
      let w := s.window r (s.slotAt n r.link.slot)
      let s1 := (s.toAir w.2.toNat).openRetry f n retry
      if retry then s1
      else
        let s2 := s1.modRec f fun r => { r with drift := { r.drift with misses := min (r.drift.misses + 1) 255 } }
        let s3 := if s1.beaconOverlap (linkPath r) w.1.toNat w.2.toNat then s2 else s2.etxEvent f false
        let k := r.drift.misses + 1
        if r.link.st = 1 then if 3 ≤ k ∧ !r.link.relayed then s3.detach f 0x25 else s3
        else if r.link.st = 2 ∧ s.cfgN Obj.MESH_RESYNC_MISSES ≤ k then s3.enterResync f
        else s3.resyncCheck f

def execListenWindowEnd (f : Nat) (retry : Bool) (s : State) : Answer State := .next (s.listenEnd f retry).settled

/-- LINK_SUPERVISION_TIMEOUT: the link becomes DETACHED, LINK_TIMEOUT is raised, its transactions end with LINK_LOST, and
the record keeps its counters and generation (R218, R230, R268). -/
def State.supervisionEnd (s : State) (f : Nat) : State :=
  match s.recOf f with
  | none => s
  | some r =>
    if r.link.st = 0 then s
    else
      let s1 := s.toAir (r.superv + s.supervision r)
      let s2 := if r.link.st = 3 then s1.count Obj.MESH_RESYNC_COUNTS 2 else s1
      ((s2.detach f 0x25).raise Ev.LINK_TIMEOUT 0xFF f).count Obj.LINK_TIMEOUTS

def execLinkSupervisionTimeout (f : Nat) (s : State) : Answer State := .next (s.supervisionEnd f).settled

/-! ### The transaction table (R206, R243, R246) -/

/-- K and φ of R206 for a sniff period in 10 ms units. -/
def State.sniffK (s : State) (param : Nat) : Nat := param * 10 / s.cfgN Obj.MESH_SLOT_MS
def sniffPhase (f k : Nat) : Nat := if f % k % 64 = 0 then f % k + 1 else f % k

/-- The first absolute slot at or after `n` in which a node sniffs (R206). -/
def nextSniff (f k n : Nat) : Nat := n + (sniffPhase f k + k - n % k) % k

/-- The opportunities of a transaction's link: the first absolute slot at or after `n`, and the step to the next (R194,
R206, R277, R278). None for a class A link, whose downlink follows its contacts (R239). -/
def State.opportunity (s : State) (t : Txn) (n : Nat) : Option (Nat × Nat) :=
  match s.routeTo t.flock with
  | none => none
  | some hop => match s.recOf hop with
    | none => none
    | some r =>
      if r.link.st = 0 ∨ r.link.st = 1 then none
      else if r.cfg.cls = 0x0B then
        let k := s.sniffK r.cfg.param
        if k = 0 then none else some (nextSniff hop k n, k)
      else if r.cfg.cls = 0x0C ∧ r.link.period ≠ 0 then
        let a := nextSched r (n / 64)
        some ((if a * 64 + r.link.slot < n then a + r.link.period else a) * 64 + r.link.slot, 64 * r.link.period)
      else none

/-- The path on which a link's attempts are booked: its own while its domain is on, else another path whose lanes carry
every channel of the link's map; without one its own, for whose return they wait (R245). -/
def State.bookPath (s : State) (own : Fin 6) (r : FlockRec) : Fin 6 :=
  if s.domOn (pathDomain own) then own
  else
    let m := s.mesh.per[own]
    ((List.finRange 6).find? fun (p : Fin 6) =>
      s.domOn (pathDomain p) && isSub p == isSub own && r.link.st != 0 && (mapBits m.map).all fun i =>
        match s.channelKhz p (m.c0 + i) with
        | some k => (s.laneFor p k).isSome
        | none => false).getD own

/-- The plan of one attempt in absolute slot `n`: an alert and its command for class B, else the frame (R189, R195, R207, R228,
R277). -/
def State.planAt (s : State) (t : Txn) (hop : Nat) (r : FlockRec) (n : Nat) : Option Plan :=
  if h : r.link.path < 6 then
    let own : Fin 6 := ⟨r.link.path, h⟩
    let p := s.bookPath own r
    let ch := fun m => hopChannel (s.linkMap own r (m / 64)).1 (s.linkMap own r (m / 64)).2 (s.cfgN Obj.MESH_HOP_SEED) m r.link.chOffset
    let khz := fun m => (s.channelKhz p (ch m)).getD 0
    let pre := s.preamble p
    let mode := r.link.mode
    let al := alertLen mode
    let t0 := n * s.tSlot + 1000 * usHalfNs
    let key := s.recKey t.flock
    let more := s.moreFor t.flock t.id
    let d := fun k => ceilMs (txDuration mode k pre false)
    let alertF := alertFrame s.memberTag t.nodeTag key 0 (n / 64) t.gap (if t.respond then 1 else 0)
    let dataF := fun m => s.txnFrame t key 0 (m / 64) more
    let len := s.txnLen t mode
    if hop = t.flock ∧ r.cfg.cls = 0x0B then
      if t.gap = 0 then
        let c0 := (if t.respond then lastSymbol (lastSymbol t0 mode al pre + 464 * usHalfNs) mode (alertRespLen mode) pre
          else lastSymbol t0 mode al pre) + 464 * usHalfNs
        let e := exchangeEnd c0 mode len pre
        some ⟨p, ch n, if t.respond then [(alertF, t0, khz n, d al)] else
          [(alertF, t0, khz n, d al), (dataF n, c0, khz n, d len)], [(t0, e)], e⟩
      else
        let c0 := (n + t.gap) * s.tSlot + 1000 * usHalfNs
        let e := exchangeEnd c0 mode len pre
        let l := lastSymbol t0 mode al pre
        some ⟨p, ch n, [(alertF, t0, khz n, d al), (dataF (n + t.gap), c0, khz (n + t.gap), d len)],
          [(t0, if t.respond then lastSymbol (lastSymbol (l + 464 * usHalfNs) mode (alertRespLen mode) pre + 464 * usHalfNs) mode
              (40 + fcsLen mode) pre + 4 * usHalfNs else l + 4 * usHalfNs), (c0, e)], e⟩
    else
      let e := exchangeEnd t0 mode len pre
      some ⟨p, ch n, [(dataF n, t0, khz n, d len)], [(t0, e)], e⟩
  else none

/-- An ASSOC_RESP for a relay to forward has its counter already (R233, R265). -/
def hasCtr (t : Txn) : Bool := match t.kind with | .assocResp _ => true | _ => false

/-- Book one frame of a plan: its counter, its charge, its command kept for the hand-over; the counter of the last frame (R233, R243,
R249). -/
def State.bookFrame (s : State) (t : Txn) (mode : Nat) (p : Fin 6) (i : Nat) (x : AirOut × HalfNs × Nat × Nat) : State × Nat :=
  let (c, s) := if hasCtr t then (x.1.counter, s) else match s.takeCtr t.flock with
    | (some c, s) => (c, s)
    | (none, s) => (ctrMax, s)
  let a := s.accountFor x.2.2.1 mode
  let (_, s) := s.dutyReserve (bandOf p) a x.2.2.2
  (s.bookCmd p ⟨0, x.2.1, x.2.2.1, mode, x.1.len mode, false, s.preamble p, 31, true, false, .txn t.id i, x.2.2.2, a,
    .mac { x.1 with counter := c }, i == 1 && t.gap == 0⟩, c)

/-- Book a plan, frame after frame (R233, R243, R249). -/
def State.bookPlan (s : State) (t : Txn) (mode : Nat) (pl : Plan) : State :=
  let go := pl.frames.foldl (fun (acc : State × Nat × Nat) x =>
    let y := acc.1.bookFrame t mode pl.path acc.2.1 x
    (y.1, acc.2.1 + 1, y.2)) (s, 0, 0)
  go.1.putTxn { t with
    st := .booked, path := pl.path, channel := pl.channel, start := (pl.frames.head?.map (·.2.1)).getD 0
    counter := go.2.2, stage := 0, mode := mode }

/-- Booking keeps out of the windows of other links; the slot of a class C link is its own (R213, R277). -/
def bookSkip (hop : Nat) (r : FlockRec) : Nat := if r.cfg.cls = 0x0C then hop else 2 ^ 32

/-- The first opportunity that every rule admits, before the deadline; otherwise the last refusal met (R243). -/
def State.findPlan (s : State) (t : Txn) (hop : Nat) (r : FlockRec) (step : Nat) : Nat → Nat → Nat → Option Plan × Nat
  | 0, _, refusal => (none, refusal)
  | fuel + 1, n, refusal =>
    match s.planAt t hop r n with
    | none => (none, refusal)
    | some pl =>
      if t.deadline < pl.stop then (none, refusal)
      else match s.planRefusal (bookSkip hop r) pl r.link.mode with
        | 0 => (some pl, refusal)
        | 0x100 => s.findPlan t hop r step fuel (n + step) refusal
        | code => s.findPlan t hop r step fuel (n + step) code

/-- A booking that met a refusal new to its transaction counts it: a duty refusal on the account of the first opportunity
refused, a dwell refusal on the band (R249, R251, R256). -/
def State.noteRefusal (s : State) (t : Txn) (hop : Nat) (r : FlockRec) (n ref : Nat) (p0 : Fin 6) : State :=
  let p := match s.planAt t hop r n with | some q => q.path | none => p0
  let khz := match s.planAt t hop r n with
    | some q => match q.frames with | x :: _ => x.2.2.1 | [] => 0
    | none => 0
  if ref = t.refusal then s
  else if ref = 0x20 then
    let a := s.accountFor khz r.link.mode
    s.dutyNote (bandOf p) (if s.dutyFits (bandOf p) 0 1 then a else 0) false
  else if ref = 0x21 then s.count (inst Obj.DWELL_DENIALS (bandInst (bandOf p)))
  else s

/-- TXN_BOOKING: the earliest opportunity of the link that meets the booking, path, duty and deadline rules; refusals are
counted and kept, and a refused attempt consumes no retry (R243, R249, R251). -/
def State.txnBook (s : State) (id : Nat) : State :=
  match s.txnOf id with
  | none => s
  | some t =>
    if t.st ≠ .queued ∨ s.time.base[3].st < 2 ∨ s.isHeld 6 ∨ s.isHeld 7 then s
    else match s.opportunity t (s.absSlot (s.air + 220 * usHalfNs) + 1), s.routeTo t.flock with
      | some (n, step), some hop => match s.recOf hop, s.recOf t.flock with
        | some r, some own =>
          if !hasCtr t ∧ ctrMax < own.ctr.own + (if r.cfg.cls = 0x0B ∧ hop = t.flock then 2 else 1) then s.endTxn t 0x2A
          else
            let s := s.lookup hop
            let t := { t with nodeTag := own.tag t.flock, mode := r.link.mode, chOffset := r.link.chOffset }
            match s.findPlan t hop r step ((t.deadline - s.air) / (step * s.tSlot) + 1) n t.refusal with
            | (some pl, ref) =>
              let s1 := s.noteRefusal t hop r n ref pl.path
              s1.bookPlan { t with refusal := ref } r.link.mode pl
            | (none, ref) => (s.noteRefusal t hop r n ref 0).putTxn { t with refusal := ref }
        | _, _ => s
      | _, _ => s

def execTxnBooking (id : Nat) (s : State) : Answer State := .next (s.txnBook id).settled

/-- TXN_DEADLINE: no opportunity remains; the transaction ends with the last refusal, or with EXPIRED (R243). -/
def State.txnDeadline (s : State) (id : Nat) : State :=
  match s.txnOf id with
  | none => s
  | some t =>
    if t.st = .onAir ∨ t.st = .awaitReply then s
    else ((s.toAir t.deadline).endTxn t (if t.refusal = 0 then 0x27 else t.refusal)).disassocEnd t

def execTxnDeadline (id : Nat) (s : State) : Answer State := .next (s.txnDeadline id).settled

/-- DUTY_BUCKET_ROLL: a TB_MONO minute ends; the bucket that leaves the window of 60 frees its charges (R248). -/
def State.dutyRoll (s : State) (b : Fin 2) : State :=
  let s1 := s.toMono ((s.minute + 1) * 60 * secHalfNs)
  { s1 with mesh := { s1.mesh with band := vmod s1.mesh.band b fun d => { d with
      acct := d.acct.map fun a => { a with buckets := a.buckets.filter fun k => decide (s1.minute < k.minute + 60) } } } }

def execDutyBucketRoll (b : Fin 2) (s : State) : Answer State := .next (s.dutyRoll b)

/-- DWELL_BUCKET_ROLL: a dwell bucket of DWELL_WINDOW / 20 s of a channel ends, and the oldest of its 20 leaves the
window (R251). -/
def State.dwellRoll (s : State) (b : Fin 2) (ch : Nat) : State :=
  match s.channelKhz (if b = 0 then 0 else 4) ch with
  | none => s
  | some khz => match s.lockFor khz (if b = 0 then 1 else 0x10) with
    | none => s
    | some (_, e) =>
      if e.dwellWin = 0 then s
      else
        let s1 := s.toMono ((s.dwellBucket e + 1) * e.dwellWin * secHalfNs / 20)
        { s1 with mesh := { s1.mesh with band := vmod s1.mesh.band b fun d => { d with
            dwell := d.dwell.filter fun w => w.channel != ch || decide (s1.dwellBucket e < w.bucket + 20) } } }

def execDwellBucketRoll (b : Fin 2) (ch : Nat) (s : State) : Answer State := .next (s.dwellRoll b ch)

end Sys2Proof.Machine
end

