-- ==== Sys2Proof/Machine/Grid.lean ====
section
/-!
DEFINITION. The superframe edge: channel-map switches (R228, R229), the windows of the superframe (R213, R241,
MESH_GUARD_HIST), beacons (R196 to R201, R217, R271); and the cancelling of a transaction (R246, R284).
-/

namespace Sys2Proof.Machine

/-! ### Beacons -/

/-- A beacon frame of a PSDU length fits the slot and, in mode 0x10, the PSDU limit (R193, R198). -/
def State.beaconFits (s : State) (p : Fin 6) (n : Nat) : Bool :=
  let m := s.cfgN (inst Obj.MESH_BEACON_MODE p)
  decide (1000 * usHalfNs + txDuration m n (s.preamble p) false + 400 * usHalfNs ≤ s.tSlot) && psduOk m n

/-- W of R216 for a link's window in a superframe, in units of 10 µs, rounded up. -/
def State.searchHalf (s : State) (r : FlockRec) (asn : Nat) : Nat :=
  let t0 := s.slotAt asn r.link.slot
  (min (guardUs (2 * s.beff r) (s.elapsed r (s.tExp r t0).toNat)) (s.cfgN Obj.MESH_RESYNC_MAX) + 9) / 10

/-- The RESYNC entries that a path's links wait for, in round-robin order, at most eight (R217). -/
def State.resyncEntries (s : State) (p : Fin 6) : List (Nat × Nat × Nat) :=
  let links := s.flock.recs.filter fun (x : Nat × FlockRec) => x.2.link.st == 3 && x.2.link.path == p.val
  let k := s.mesh.per[p].turn % max 1 links.length
  ((links.drop k ++ links.take k).take 8).map fun (x : Nat × FlockRec) =>
    (x.2.tag x.1, x.2.link.slot, s.searchHalf x.2 (s.asn + 1))

/-- The pending map that beacons announce: until its apply-ASN (R228). -/
def State.announced (s : State) (p : Fin 6) : Option ChUpdate :=
  match s.mesh.per[p].update with
  | some u => if u.inForce then none else some u
  | none => none

/-- TRACEABLE of the SYNC flags: TB_AIR is established and disciplined from GNSS or PTP (Table SF-2). -/
def State.airDisciplined (s : State) : Bool :=
  s.time.established && s.time.base[3].st != 3 && decide (1 ≤ s.time.selected) && decide (s.time.selected ≤ 3)

/-- The SYNC flags: TRACEABLE, HOLDOVER, RESYNC present (R197). -/
def State.syncFlags (s : State) (resync : Bool) : Nat :=
  (if s.airDisciplined then 1 else 0) + (if s.time.base[3].st = 3 then 2 else 0) + (if resync then 4 else 0)

/-- The beacon of a path in the present superframe with a pending update and RESYNC entries, under the beacon key (R197, R271, Table
SF-2, Table SE-4). -/
def State.beaconWith (s : State) (p : Fin 6) (up : Option ChUpdate) (entries : List (Nat × Nat × Nat)) : AirOut :=
  let m := s.mapInForce p
  { frameType := 0, pre := false, src := s.memberTag, dest := 0xFFFFFF, ar := false, key := 2, keyVal := s.sec.slot[4].key
    counter := s.mesh.beaconCtr, asn := s.asn, pending := false
    ies := [.addr 0xFFFFFF s.memberTag,
        .sync s.asn (s.cfgN Obj.MESH_SLOT_MS) (s.syncFlags (!entries.isEmpty)) (s.cfgN Obj.MESH_MEMBER),
        .hop (if isSub p then s.lockRegion else 0xFF) m.2 m.1 (s.cfgN Obj.MESH_HOP_SEED), .route 0 0 (255 * s.txnInUse / 512)]
      ++ (match up with | some u => [.chmapUpdate u.map (u.applyAsn % 65536)] | none => [])
      ++ (if entries.isEmpty then [] else [.resync entries])
    body := [], ackOf := none }

/-- The beacon of a path in the present superframe: CHMAP_UPDATE while it fits, then as many RESYNC entries as fit; the entries it carries,
and what had to be left out (R197, R198). -/
def State.beaconFrame (s : State) (p : Fin 6) : AirOut × Nat × Nat :=
  let m := s.cfgN (inst Obj.MESH_BEACON_MODE p)
  let up := s.announced p
  let up' := if s.beaconFits p ((s.beaconWith p up []).len m) then up else none
  let want := s.resyncEntries p
  let k := ((List.range 9).filter fun k =>
    decide (k ≤ want.length) && (k == 0 || s.beaconFits p ((s.beaconWith p up' (want.take k)).len m))).foldl max 0
  (s.beaconWith p up' (want.take k), k, (if up.isSome && up'.isNone then 1 else 0) + (want.length - k))

/-- An account admits a beacon: its beacon reserve or its general budget has room (R249). -/
def State.beaconGoes (s : State) (b : Fin 2) (a d : Nat) : Bool := s.reserveFits b a d || s.dutyFits b a d

/-- Whether both accounts admit the beacon, each with its decision noted (R249, R253), and the dwell rule, whose refusal is
counted (R251). -/
def State.beaconDuty (s : State) (p : Fin 6) (khz mode d : Nat) : Bool × State :=
  let b := bandOf p
  let a := s.accountFor khz mode
  let ok0 := s.beaconGoes b 0 d
  let ok1 := s.beaconGoes b a d
  let s1 := (s.dutyNote b 0 ok0).dutyNote b a ok1
  if !(ok0 && ok1) then (false, s1)
  else if s1.dwellFits b (s1.khzChannel p khz) khz mode d then (true, s1)
  else (false, s1.count (inst Obj.DWELL_DENIALS (bandInst b)))

/-- Send the beacon of one path (R196 to R201): none is built while SEC does not serve, which counts with cause 0x07
(Table AC-5); a duty refusal counts as 0x20; the cause of a beacon that has no key or no counter left is a free value (log entry 1). While
the path is not on nothing is sent and nothing counts (R457). -/
def State.sendBeacon (s : State) (p : Fin 6) : State :=
  if s.cfgN (inst Obj.MESH_BEACON_ENABLE p) = 0 ∨ !s.domOn (pathDomain p)
      ∨ s.time.base[3].st < 2 then s
  else if !s.secServes then s.beaconFail p 0x07
  else
    let mode := s.cfgN (inst Obj.MESH_BEACON_MODE p)
    let m := s.mapInForce p
    let ch := hopChannel m.1 m.2 (s.cfgN Obj.MESH_HOP_SEED) (s.asn * 64) (s.cfgN (inst Obj.MESH_BEACON_CH_OFFSET p))
    let khz := (s.channelKhz p ch).getD 0
    let (f, k, dropped) := s.beaconFrame p
    let n := f.len mode
    let d := ceilMs (txDuration mode n (s.preamble p) false)
    let s := s.count (inst Obj.MESH_BEACON_IE_DROPPED p) 0 0 dropped
    let s := { s with mesh := { s.mesh with per := vmod s.mesh.per p fun x => { x with turn := x.turn + k } } }
    if ctrMax ≤ s.mesh.beaconCtr ∨ s.sec.slot[4].st = 0 then s.drawn.beaconFail p (s.draw.1 % 256)
    else match s.beaconDuty p khz mode d with
    | (false, s) => s.beaconFail p 0x20
    | (true, s) =>
      let s := { s with mesh := { s.mesh with beaconCtr := s.mesh.beaconCtr + 1 } }
      let s := if s.mesh.beaconCtr = 0xFFFFF000 then s.drawn.raise Ev.LINK_CTR_HIGH 0xFF (s.draw.1 % 2 ^ 32) else s
      s.txCommand p ⟨0, s.air / s.tSf * s.tSf + 1000 * usHalfNs, khz, mode, n, false, s.preamble p,
        s.cfgN (inst Obj.MESH_BEACON_PWR p), false, false, .beacon, 0, s.accountFor khz mode, .mac f, false⟩

/-! ### The edge -/

/-- The pending map of a path comes into force at its apply-ASN, and each link switches when its own turn comes (R228, R229). -/
def State.applyMap (s : State) (p : Fin 6) : State :=
  match s.mesh.per[p].update with
  | some u =>
    let s1 := s.modLinks p fun r => if r.link.st = 0 then r.link else { r.link with onPending := switched r u s.asn }
    if u.inForce ∨ s.asn < u.applyAsn then s1
    else (s1.modPer p fun x => { x with update := some { u with inForce := true } }).chmapCheck p
  | none => s

/-- A beacon preemption of a link's window (R213). -/
def State.countPreempted (s : State) (f : Nat) : State :=
  { s with mesh := { s.mesh with preempted := insertKey f (lookupD f 0 s.mesh.preempted + 1) s.mesh.preempted } }

/-- The beacon of the present superframe overlaps the window of a link in superframe `n` (R213). -/
def State.beaconCuts (s : State) (p : Fin 6) (r : FlockRec) (n : Nat) : Bool :=
  let w := s.window r (s.slotAt n r.link.slot)
  let b0 := s.air / s.tSf * s.tSf + 1000 * usHalfNs
  let m := s.cfgN (inst Obj.MESH_BEACON_MODE p)
  s.cfgN (inst Obj.MESH_BEACON_ENABLE p) == 1
    && decide (w.1 < (b0 + txDuration m ((s.beaconFrame p).1.len m) (s.preamble p) false : Nat)) && decide ((b0 : Int) < w.2)

/-- The windows of a link in the present superframe: each is counted, and so is its preemption by the beacon, which may also cut one of the
superframe before (R213). None opens while the domain of the link's path is not on (R457), nor for a record that is neither in the cache
nor on its way (R263). -/
def State.openWindow (s : State) (f : Nat) (r : FlockRec) : State :=
  if h : r.link.path < 6 then
    let p : Fin 6 := ⟨r.link.path, h⟩
    if r.link.st = 0 ∨ !s.domOn (pathDomain p) ∨ !(s.flock.cache.contains f || s.flock.fetching.contains f) then s
    else
      let now := s.windowIn f r s.asn
      let s1 := if now then s.countWindow r (s.slotAt s.asn r.link.slot) else s
      let s2 := if now && s.beaconCuts p r s.asn then s1.countPreempted f else s1
      if s.windowIn f r (s.asn - 1) && s.beaconCuts p r (s.asn - 1) then s2.countPreempted f else s2
  else s

/-- Search windows announced for superframes that are past are forgotten (R217). -/
def State.pruneSearch (s : State) : State :=
  { s with mesh := { s.mesh with search := s.mesh.search.filter fun x => decide (s.asn ≤ x.2 + 1) } }

/-- MESH_GUARD_HIST takes the counts of the epoch that has ended (Table SF-4). -/
def State.endEpoch (s : State) : State :=
  if s.asn / 256 = s.mesh.guardEpoch then s
  else
    let s1 := s.roPut Obj.MESH_GUARD_HIST (s.mesh.guardNow.toList.map fun n => [(min n 0xFFFFFFFF : Nat)])
    { s1 with mesh := { s1.mesh with guardNow := Vector.replicate 8 0, guardEpoch := s.asn / 256 } }

/-- Carry time to the next superframe edge, unless the present superframe's edge is still to be worked on (R189). -/
def State.toEdge (s : State) : State :=
  if s.air / s.tSf ≤ s.mesh.edgeAsn then s.toAir ((s.mesh.edgeAsn + 1) * s.tSf) else s

/-- The work of a superframe edge: maps, links whose next window is too wide, windows, beacons (R196, R213, R215, R228). -/
def State.edgeWork (s : State) : State :=
  let s := { s with mesh := { s.mesh with edgeAsn := s.air / s.tSf } }
  let s := s.endEpoch
  let s := ((List.finRange 6).foldl State.applyMap s).resyncAll.pruneSearch
  let s := s.flock.recs.foldl (fun s (x : Nat × FlockRec) => s.openWindow x.1 x.2) s
  (List.finRange 6).foldl State.sendBeacon s

/-! ### LINK_TXN_CANCEL (R246, R284) -/

/-- LINK_TXN_CANCEL: a QUEUED or BOOKED transaction ends with CANCELLED; a chorus request of which no attempt was sent ends
as skipped with reason 7. -/
def State.txnCancel (s : State) (id : Nat) : State :=
  match s.txnOf id with
  | none => s
  | some t =>
    if t.st = .onAir ∨ t.st = .awaitReply then s
    else match t.kind, t.req.bind s.reqOf with
      | .chorus, some q =>
        if q.sent = 0 then
          ((s.putReq { q with skip := 7 }).count Obj.FL_CHORUS_COUNTS 7).endTxn t 0x36
        else s.endTxn t 0x28
      | _, _ => s.endTxn t 0x28

def execLinkTxnCancel (id : Nat) (s : State) : Answer State :=
  .next (if id < 512 then ((s.txnCancel id).bumpRev Obj.LINK_TXN_CANCEL).settled else s)

end Sys2Proof.Machine
end

