-- ==== Sys2Proof/Machine/FlockCmds.lean ====
section
/-!
DEFINITION. The Flock: records as they are written and read (R257 to R260), the cache (R261 to R264), delivery requests
(R273 to R279) and chorus attempts (R280 to R285).
-/

namespace Sys2Proof.Machine

/-! ### Records as fields (Table FL-1) -/

/-- Bytes 0 to 23 of a record as fields. -/
def FlockCfg.fields (c : FlockCfg) : List Int :=
  [(c.eui : Int), c.cls, c.flags, c.param, c.keyEpoch] ++ c.groups.toList.map fun (g : Nat) => (g : Int)

/-- Bit i of a number from a Bool. -/
def bitIf (b : Bool) (i : Nat) : Nat := if b then 2 ^ i else 0

/-- A whole record as fields; DL_PENDING is given. -/
def FlockRec.fields (r : FlockRec) (pending : Nat) : List Int :=
  r.cfg.fields ++ [(r.link.st : Int), r.link.gen, r.link.mode, r.link.path, r.link.caps, r.link.chOffset, r.link.slot,
    r.link.period, r.drift.b, r.drift.tb, r.drift.lastTemp, r.drift.lastSupply, r.drift.lastMissed, r.link.firstAsn,
    r.drift.lastContact, r.drift.lastE, r.drift.pendC, r.drift.slewRef] ++
  [(r.ctr.own : Int), r.ctr.district, r.ctr.top, r.ctr.seen,
    (bitIf r.ctr.valid 0 + bitIf r.link.onPending 1 + bitIf r.link.confirmed 2 + bitIf r.link.relayed 3 : Nat), pending,
    r.route.etx, r.route.nextHop, r.route.prevHop, r.route.prevTime, r.link.fwVersion, r.route.campaign, 0,
    r.drift.misses, r.route.nbrState, r.route.uplinks, r.route.downlinks, r.route.lastUplink, 0]

/-- Field `i` of a list of fields. -/
def fieldN (v : List Int) (i : Nat) : Nat := ((v[i]?).getD 0).toNat
def fieldI (v : List Int) (i : Nat) : Int := (v[i]?).getD 0

/-- Bytes 0 to 23 from fields. Reserved bits of CFG_FLAGS are ignored (R4). -/
def FlockCfg.ofFields (v : List Int) : FlockCfg :=
  ⟨fieldN v 0, fieldN v 1, fieldN v 2 % 8, fieldN v 3, fieldN v 4, #v[fieldN v 5, fieldN v 6, fieldN v 7, fieldN v 8]⟩

/-- A whole record from fields (R260). The delivery ratio behind ETX is not part of a record and starts again at 0.5
(R270); DL_PENDING counts what this device holds and is not taken over. -/
def FlockRec.ofFields (v : List Int) : FlockRec :=
  let f := fieldN v 31
  { cfg := FlockCfg.ofFields v
    link := { st := fieldN v 9, gen := fieldN v 10, mode := fieldN v 11, path := fieldN v 12, caps := fieldN v 13
              chOffset := fieldN v 14, slot := fieldN v 15, period := fieldN v 16, firstAsn := fieldN v 22 % 2 ^ 40
              onPending := f.testBit 1, confirmed := f.testBit 2, relayed := f.testBit 3, fwVersion := fieldN v 37
              switchAt := none, named := [], leave := none }
    drift := { b := fieldN v 17, tb := fieldI v 18, lastTemp := fieldI v 19, lastSupply := fieldN v 20
               lastMissed := fieldN v 21, lastContact := fieldN v 23, lastE := fieldI v 24, pendC := fieldI v 25
               slewRef := fieldI v 26, misses := fieldN v 40, since := ts96Half (fieldN v 23) }
    ctr := { own := fieldN v 27, district := fieldN v 28, top := fieldN v 29, seen := fieldN v 30, valid := f.testBit 0 }
    route := { ratio := 32768, etx := fieldN v 33, nextHop := fieldN v 34, prevHop := fieldN v 35, prevTime := fieldN v 36
               campaign := fieldN v 38, nbrState := fieldN v 41, uplinks := fieldN v 42, downlinks := fieldN v 43
               lastUplink := fieldN v 44, heardAt := 0 }
    dirty := true, superv := ts96Half (fieldN v 23) }

/-! ### FLOCK_CFG and FLOCK_RESTORE (R259, R260, R262) -/

/-- A sniff period, in 10 ms units, that R205 allows: 2ʲ × T_slot from 200 ms to 6,400 ms. -/
def State.sniffOk (s : State) (param : Nat) : Bool :=
  let t := s.cfgN Obj.MESH_SLOT_MS
  20 ≤ param && param ≤ 640 && (List.range 10).any fun j => param * 10 == 2 ^ j * t

/-- The range checks of bytes 0 to 23 that depend on CLASS (Table FL-1). -/
def FlockCfg.rangeOk (c : FlockCfg) : Bool :=
  match c.cls with
  | 0x00 => true
  | 0x0A => c.param == 0
  | 0x0B => true
  | 0x0C => 1 ≤ c.param && c.param ≤ 63
  | _ => false

/-- The status of a write of bytes 0 to 23 of record `f`: 0 accepted, 4 RANGE, 5 CONFLICT, 0x0D CAPACITY (R259, R262,
Table OD-6). -/
def State.flockCfgCheck (s : State) (f : Nat) (c : FlockCfg) : Nat :=
  let old := s.recOf f
  let attached := match old with | some r => r.link.st != 0 | none => false
  let changed := match old with
    | some r => r.cfg.eui != c.eui || r.cfg.cls != c.cls || r.cfg.param != c.param || r.cfg.keyEpoch != c.keyEpoch
    | none => false
  if !c.rangeOk then 4
  else if !s.reachable f then 0x0D
  else if c.cls ≠ 0 ∧ s.flock.recs.any (fun (x : Nat × FlockRec) => x.1 != f && x.2.cfg.eui == c.eui) then 5
  else if attached && changed then 5
  else if c.cls = 0 ∧ old.isSome ∧ (attached ∨ s.dlPending f ≠ 0) then 5
  else if c.cls = 0x0B ∧ !s.sniffOk c.param then 5
  else if c.cls ≠ 0 ∧ c.flags.testBit 1 ∧ !s.canPin f then 0x0D
  else 0

/-- Empty a record: it leaves the table and the cache. -/
def State.eraseRec (s : State) (f : Nat) : State :=
  { s with flock := { s.flock with recs := eraseKey f s.flock.recs, cache := s.flock.cache.erase f
                                   bad := s.flock.bad.filter (· ≠ f)
                                   fetching := s.flock.fetching.erase f } }

/-- Bytes 0 to 23 replaced: a change of the identity or of the key epoch is a change of the link key (R233). -/
def FlockRec.withCfg (r : FlockRec) (c : FlockCfg) : FlockRec :=
  let r1 := if r.cfg.eui = c.eui ∧ r.cfg.keyEpoch = c.keyEpoch then r else r.rekeyed
  { r1 with cfg := c, dirty := true }

/-- Apply an accepted write of bytes 0 to 23: it creates, changes or empties the record (R259). -/
def State.flockCfgPut (s : State) (f : Nat) (c : FlockCfg) : State :=
  match s.recOf f with
  | some r =>
    if c.cls = 0 then s.eraseRec f
    else (s.setRec f (r.withCfg c)).lookup f
  | none => if c.cls = 0 then s else (s.setRec f (newRec c)).lookup f

/-- FLOCK_CFG_WRITE: bytes 0 to 23 of record `f`, checked and applied as one (R24, R259). -/
def State.flockCfgWrite (s : State) (f : Nat) (v : List Int) : State :=
  let c := FlockCfg.ofFields v
  if 2 ^ 20 ≤ f ∨ v.length ≠ 9 ∨ fieldsOk flockCfgFields v = false ∨ s.flockCfgCheck f c ≠ 0 then s else (s.flockCfgPut f c).bumpRev Obj.FLOCK_CFG

def execFlockCfgWrite (f : Nat) (v : List Int) (s : State) : Answer State := .next (s.flockCfgWrite f v)

/-- The link fields of a restored record lie in the ranges of Table FL-1, its sniff period in that of R205. -/
def State.restoreRangeOk (s : State) (r : FlockRec) : Bool :=
  r.cfg.rangeOk && decide (r.link.st ≤ 3) && decide (r.link.gen ≤ 0xF) && (r.link.mode == 0 || (modeOf r.link.mode).isSome)
    && (decide (r.link.path ≤ 5) || r.link.path == 0xFF) && decide (r.link.slot ≤ 63) && decide (r.route.nbrState ≤ 4)
    && (r.cfg.cls != 0x0B || s.sniffOk r.cfg.param)

/-- The status of a write of a whole record (R260): accepted only while the target is empty or DETACHED; a BAD
record counts as DETACHED (R517). A miss that cannot be served fails with CAPACITY (R264). -/
def State.restoreCheck (s : State) (f : Nat) (r : FlockRec) : Nat :=
  let attached := !s.flock.bad.contains f && match s.recOf f with | some o => o.link.st != 0 | none => false
  if !s.restoreRangeOk r then 4
  else if !(s.flock.cache.contains f || s.extMem) then 0x0D
  else if attached then 5
  else if r.cfg.cls ≠ 0 ∧ s.flock.recs.any (fun (x : Nat × FlockRec) => x.1 != f && x.2.cfg.eui == r.cfg.eui) then 5
  else if r.cfg.cls = 0 ∧ s.dlPending f ≠ 0 then 5
  else if r.cfg.flags.testBit 1 ∧ !s.canPin f then 0x0D
  else 0

/-- A restored link whose supervision time has run out is DETACHED at once; one whose next window is too wide goes to RESYNC, once TB_AIR
is established (R215, R230, R260). -/
def State.restoreStale (s : State) (f : Nat) (r : FlockRec) : State :=
  if r.link.st ≠ 0 ∧ 2 ≤ s.time.base[3].st ∧ r.superv + s.supervision r ≤ s.air then s.supervisionEnd f else s.resyncCheck f

/-- Enter a restored record: LINK_CTR_MARGIN is added to its outbound counters (R234, R260). The mark BAD is cleared (R517). -/
def State.restorePut (s : State) (f : Nat) (r : FlockRec) : State :=
  if r.cfg.cls = 0 then s.eraseRec f
  else
    let m := s.cfgN Obj.LINK_CTR_MARGIN
    let r := { r with ctr := { r.ctr with own := min ctrMax (r.ctr.own + m), district := min ctrMax (r.ctr.district + m) } }
    let s := { s with flock := { s.flock with bad := s.flock.bad.filter (· ≠ f) } }
    let s1 := (s.setRec f r).lookup f
    (if r.ctr.own < 0xFFFFF000 then s1 else s1.raise Ev.LINK_CTR_HIGH 0xFF f).restoreStale f r

/-- A written record without its reserved bits and bytes, as a read of FLOCK_RESTORE returns it (R4, R47, Table FL-1). -/
def restoreMask (v : List Int) : List Int :=
  ((((v.set 2 (fieldN v 2 % 8 : Nat)).set 22 (fieldN v 22 % 2 ^ 40 : Nat)).set 31 (fieldN v 31 % 16 : Nat)).set 39 0).set 45 0

/-- FLOCK_RESTORE: a whole record into an empty or DETACHED entry (R260). The value last accepted per element is kept with the
element's number in front (R47). -/
def State.flockRestore (s : State) (f : Nat) (v : List Int) : State :=
  let r := FlockRec.ofFields v
  if 2 ^ 20 ≤ f ∨ v.length ≠ 46 ∨ fieldsOk flockTableFields v = false ∨ s.restoreCheck f r ≠ 0 then s
  else (s.restorePut f r).accept Obj.FLOCK_RESTORE
    (((f : Int) :: restoreMask v) :: (s.cfgVal Obj.FLOCK_RESTORE).filter fun e => e.head? != some (f : Int))

def execFlockRestore (f : Nat) (v : List Int) (s : State) : Answer State := .next (s.flockRestore f v).settled

/-! ### The cache (R261 to R264) -/

/-- The link has work in the next two superframes: a window, a retry window, a sniff instant or a booking (R263). -/
def State.worksSoon (s : State) (f : Nat) (r : FlockRec) : Bool :=
  r.link.st != 0 &&
    ((List.range 3).any (fun k => s.windowIn f r (s.asn + k))
      || r.cfg.cls == 0x0B || s.mesh.txns.any fun t => t.flock == f)

/-- FLOCK_PREFETCH: fetch the record of every link with work in the next two superframes that the cache does not hold
(R263). -/
def State.prefetch (s : State) : State :=
  s.flock.recs.foldl (fun s (x : Nat × FlockRec) =>
    if s.worksSoon x.1 x.2 && !s.flock.cache.contains x.1 then s.lookup x.1 else s) s

def execFlockPrefetch (s : State) : Answer State := .next s.prefetch

/-- Lines of the Flock cache, block 0 of region FLOCK, that are not retired (R16, R261; log entry 9). -/
def State.flockLines (s : State) : Nat := 16384 - s.retiredIn 8 0

/-- The least recently used unpinned line (R261). -/
def State.victim (s : State) : Option Nat :=
  s.flock.cache.reverse.find? fun f => match s.recOf f with | some r => !s.pinned f r | none => true

/-- FLOCK_FETCH_DONE: a record under fetch enters the cache; a full cache first evicts the least recently used unpinned
line, written back when it is modified (R261, R264). While MEM is held the miss fails. -/
def State.fetchDone (s : State) (f : Nat) : State :=
  if !s.flock.fetching.contains f then s
  else
    let s := { s with flock := { s.flock with fetching := s.flock.fetching.erase f } }
    if !s.extMem ∨ (s.recOf f).isNone ∨ s.flock.cache.contains f then s
    else if s.flock.cache.length < s.flockLines then { s with flock := { s.flock with cache := f :: s.flock.cache } }
    else match s.victim with
      | none => s
      | some v =>
        let s1 := match s.recOf v with | some r => s.setRec v { r with dirty := false } | none => s
        { s1 with flock := { s1.flock with cache := f :: s1.flock.cache.erase v } }

def execFlockFetchDone (f : Nat) (s : State) : Answer State := .next (s.fetchDone f)

/-- FLOCK_FETCH_LATE: a record that is needed is still not in the cache 200 µs before its instant; the loss is counted, and
a booked attempt is booked again (R263). -/
def State.fetchLate (s : State) (f : Nat) : State :=
  if s.flock.cache.contains f then s
  else
    let s := s.count Obj.FLOCK_LATE_FETCH
    (s.mesh.txns.filter fun t => t.flock == f && t.st == .booked).foldl
      (fun s t => (s.dropCmds t.id).putTxn { t with st := .queued, stage := 0, ms := 0 }) s

def execFlockFetchLate (f : Nat) (s : State) : Answer State := .next (s.fetchLate f)

/-! ### Delivery requests (R273 to R275) -/

/-- A frame of `n` octets and its acknowledgement fit R193 in a mode. -/
def State.exchangeFits (s : State) (p : Fin 6) (mode n : Nat) : Bool :=
  psduOk mode n && decide (exchangeEnd (1000 * usHalfNs) mode n (s.preamble p) + 400 * usHalfNs ≤ s.tSlot)

/-- The data frame that carries a request fits R193 in the link's mode (R274, R291). -/
def State.payloadFits (s : State) (q : DelReq) (r : FlockRec) : Bool :=
  let mode := (q.chorus.map (·.mode)).getD r.link.mode
  s.exchangeFits (linkPath r) mode (s.txnLen (reqTxn q (reqKind q r) r 0) mode)

/-- The chorus request record, 40 octets with the fields of Table FL-5 in its order (R505). -/
def chorusOf (b : Bytes) : ChorusReq :=
  ⟨leAt b 0 4, leAt b 4 8, leAt b 12 4, leAt b 16 1, leAt b 17 1, leAt b 18 1, leAt b 19 2, leAt b 21 8 % 2 ^ 40, leAt b 29 2,
    leAt b 31 8, leAt b 39 1⟩

/-- FLAGS of a DELIVERY descriptor; bits 3 to 7 are reserved (R4, Table FL-2). -/
def descFlags (d : Bytes) : Nat := leAt d 21 1 % 8

/-- DEADLINE of a DELIVERY descriptor; format 1 has none (Table HP-7, Table HP-8). -/
def State.descDeadline (s : State) (d : Bytes) : Nat := if s.ringV1 then 0 else leAt d 24 12

/-- The request that a DELIVERY descriptor makes with what stands in its buffer: with CHORUS set the chorus request record first, then
LENGTH octets of host data (R505, Table FL-2). -/
def State.reqFrom (s : State) (d data : Bytes) : DelReq :=
  let chorus := (descFlags d).testBit 0
  { id := s.flock.nextReq, tag := leAt d 4 4, flock := leAt d 16 4, priority := leAt d 20 1, flags := descFlags d, gap := leAt d 22 1
    deadline := if s.descDeadline d = 0 then s.air + s.cfgN Obj.LINK_TXN_LIFE * secHalfNs else ts96Half (s.descDeadline d)
    data := (if chorus then data.drop 40 else data).take (leAt d 2 2), buf := leAt d 8 8
    chorus := if chorus then some (chorusOf data) else none, txn := none, made := 0, sent := 0, skip := 0, lastStatus := 0x27
    enrol := none }

/-- The last held request of a record with a priority that has not left HELD (R274, REPLACE). -/
def State.replaceable (s : State) (f priority : Nat) : Option DelReq :=
  (s.flock.reqs.filter fun q => q.flock == f && q.priority == priority && q.txn.isNone && q.enrol.isNone).getLast?

/-- The status with which a request completes at once; 0 when it is accepted (R262, R269, R273, R274, R280, R285, Table
FL-3). -/
def State.reqCheck (s : State) (q : DelReq) : Nat :=
  match s.recOf q.flock with
  | none => 0x30
  | some r =>
    if q.chorus.isNone ∧ r.link.st ≠ 2 ∧ r.link.st ≠ 3 then 0x29
    else if 8 ≤ s.dlPending q.flock then 0x31
    else if 65536 ≤ s.flock.reqs.length ∨ !s.canPin q.flock ∨ !s.reachable q.flock ∨ s.isHeld 8 then 0x32
    else if !s.payloadFits q r then 0x33
    else match q.chorus with
      | some c => if r.cfg.flags.testBit 2 ∨ !c.members.testBit (s.cfgN Obj.MESH_MEMBER) then 0x36 else 0
      | none => 0

/-- Take a delivery request in: it completes at once with a status, or is HELD (R273 to R275). -/
def State.takeReq (s : State) (q : DelReq) : State :=
  let s := { s with flock := { s.flock with nextReq := s.flock.nextReq + 1 } }
  match s.reqCheck q with
  | 0 =>
    let s := s.lookup q.flock
    match (if q.flags.testBit 2 then s.replaceable q.flock q.priority else none) with
    | some old =>
      let s1 := { s with flock := { s.flock with reqs := s.flock.reqs.map fun (x : DelReq) =>
        if x.id = old.id then q else x } }
      s1.completeReq old 0x35 false 0
    | none => { s with flock := { s.flock with reqs := s.flock.reqs ++ [q] } }
  | 0x36 => (s.count Obj.FL_CHORUS_COUNTS 1).completeReq { q with skip := 1 } 0x36 false 0
  | st => s.completeReq q st false 0

/-- HELD_REQUEST_DEADLINE: a held request whose deadline passes completes with NO_ROUTE when the route is missing, else with
EXPIRED (R269, R275). -/
def State.heldDeadline (s : State) (id : Nat) : State :=
  match s.reqOf id with
  | none => s
  | some q =>
    if q.txn.isSome then s
    else
      let s1 := s.toAir q.deadline
      s1.completeReq q (if (s1.routeTo q.flock).isNone then 0x34 else 0x27) false 0

def execHeldRequestDeadline (id : Nat) (s : State) : Answer State := .next (s.heldDeadline id)

/-! ### Chorus attempts (R281 to R285) -/

/-- The absolute slot of attempt `a` (R282); none when the sniff period is no whole number of slots. -/
def State.chorusSlot (s : State) (c : ChorusReq) (a : Nat) : Option Nat :=
  let k := s.sniffK c.sniff
  if k = 0 then none else some (nextSniff (c.tag % 2 ^ 20) k (c.firstAsn * 64) + a * k)

/-- The alert of a chorus attempt, which every member builds alike (R280, R282, R283). -/
def State.chorusAlert (s : State) (c : ChorusReq) (n c0 : Nat) : AirOut :=
  alertFrame 0xF00008 (c.tag % 2 ^ 24) (s.linkKeyOf c.eui c.keyEpoch) c0 (n / 64) 0 2

/-- The command of a chorus attempt (R282, R283). -/
def State.chorusCommand (s : State) (c : ChorusReq) (data : Bytes) (n c1 : Nat) : AirOut :=
  let tag := c.tag % 2 ^ 24
  { frameType := 1, pre := false, src := 0xF00008, dest := tag, ar := true, key := 1, keyVal := s.linkKeyOf c.eui c.keyEpoch
    counter := c1, asn := n / 64 % 2 ^ 40, pending := false, ies := [.addr tag 0xF00008], body := 1 :: data, ackOf := none }

/-- S of an attempt's alert: the sniff instant of absolute slot `n` plus FL_CHORUS_DELAY (R282). -/
def State.chorusStart (s : State) (n : Nat) : HalfNs := n * s.tSlot + 1000 * usHalfNs + s.cfgN Obj.FL_CHORUS_DELAY

/-- S of the command: the alert's L + 464 µs (R282). -/
def State.chorusCmdStart (s : State) (c : ChorusReq) (p : Fin 6) (n : Nat) : HalfNs :=
  lastSymbol (s.chorusStart n) c.mode (alertLen c.mode) (s.preamble p) + 464 * usHalfNs

/-- The PSDU length of the command. -/
def chorusLen (c : ChorusReq) (data : Bytes) : Nat := 33 + fcsLen c.mode + data.length

/-- The end of the whole exchange, the node's acknowledgement included (R193). -/
def State.chorusStop (s : State) (c : ChorusReq) (data : Bytes) (p : Fin 6) (n : Nat) : HalfNs :=
  exchangeEnd (s.chorusCmdStart c p n) c.mode (chorusLen c data) (s.preamble p)

/-- The first path that meets condition 2 of R281, in whose slot the exchange fits, and whose windows, beacon and other bookings leave the
attempt free (R193, R285). -/
def State.chorusPick (s : State) (c : ChorusReq) (data : Bytes) (ch n : Nat) : Option (Fin 6 × Nat) :=
  (List.finRange 6).findSome? fun (p : Fin 6) =>
    match s.channelKhz p ch with
    | some khz =>
      if ((modeOf c.mode).map (·.sub)) = some (isSub p) ∧ s.chorusPath p khz = true
          ∧ s.chorusStop c data p n + 400 * usHalfNs ≤ (n + 1) * s.tSlot
          ∧ s.mayBook p (2 ^ 32) (s.chorusStart n) (s.chorusStop c data p n) = true then some (p, khz) else none
    | none => none

/-- Book an attempt: the alert at the sniff instant plus FL_CHORUS_DELAY, the command as a reply to it (R282, R283). -/
def State.chorusBook (s : State) (t : Txn) (q : DelReq) (c : ChorusReq) (p : Fin 6) (khz n : Nat) (c0 c1 : Nat) : State :=
  let pre := s.preamble p
  let d0 := ceilMs (txDuration c.mode (alertLen c.mode) pre false)
  let d1 := ceilMs (txDuration c.mode (chorusLen c q.data) pre false)
  let a := s.accountFor khz c.mode
  let s' := ((s.dutyReserve (bandOf p) a d0).2.dutyReserve (bandOf p) a d1).2.useKey 2 0 [c.eui, c.keyEpoch]
  let s' := s'.putTxn { t with st := .booked, path := p, start := s.chorusStart n, counter := c1, stage := 0, mode := c.mode }
  let s' := s'.modRec q.flock fun r => { r with ctr := { r.ctr with district := c1 } }
  let s' := if 0xFFFFF000 < c1 ∧ !s'.mesh.chorusHigh then
      ({ s' with mesh := { s'.mesh with chorusHigh := true } }).raise Ev.LINK_CTR_HIGH 0xFF q.flock else s'
  (s'.txCommand p ⟨0, s.chorusStart n, khz, c.mode, alertLen c.mode, false, pre, 31, false, false, .txn t.id 0, d0, a,
    .mac (s.chorusAlert c n c0), false⟩).txCommand p
    ⟨0, s.chorusCmdStart c p n, khz, c.mode, chorusLen c q.data, false, pre, 31, false, false, .txn t.id 1, d1, a,
      .mac (s.chorusCommand c q.data n c1), true⟩

/-- Why the member skips the attempt in absolute slot `n` (Table FL-6), or the path and carrier to use. An exchange that does not end by
slot end − 400 µs has no reason of its own in the table: reason 3 (DESIGN CHOICE, log entry 109). -/
def State.chorusCheck (s : State) (q : DelReq) (c : ChorusReq) (n : Nat) : Nat ⊕ (Fin 6 × Nat) :=
  let ch := hopChannel c.map c.c0 (s.cfgN Obj.MESH_HOP_SEED) n c.chOffset
  if !s.chorusTime then .inl 2
  else match s.chorusPick c q.data ch n with
    | none => .inl 3
    | some (p, khz) =>
      let d := ceilMs (txDuration c.mode (alertLen c.mode) (s.preamble p) false)
        + ceilMs (txDuration c.mode (chorusLen c q.data) (s.preamble p) false)
      if !s.dutyFits (bandOf p) 0 d ∨ !s.dutyFits (bandOf p) (s.accountFor khz c.mode) d
          ∨ !s.dwellFits (bandOf p) (some ch) khz c.mode d then .inl 4
      else if !s.chorusRoot n ∨ !s.secServes then .inl 6
      else .inr (p, khz)

/-- A block of a campaign that is booked in an absolute slot gives way to a chorus attempt: it is sent at the next occurrence (R285). -/
def State.yieldBlock (s : State) (t : Txn) : State :=
  match t.kind with
  | .block k =>
    let s1 := s.dropCmds t.id
    let s2 := { s1 with mesh := { s1.mesh with txns := s1.mesh.txns.filter fun u => u.id ≠ t.id } }
    if h : k < 4 then { s2 with flock := { s2.flock with camp := vmod s2.flock.camp ⟨k, h⟩ fun c => { c with next := t.gap } } } else s2
  | _ => s

/-- The blocks booked in an absolute slot whose command has not started (R285). -/
def State.yieldBlocks (s : State) (n : Nat) : State :=
  (s.mesh.txns.filter fun t => s.absSlot t.start == n
      && !(List.finRange 6).any fun p => ((s.path p).running.map fun r => r.cmd.ofTxn t.id).getD false).foldl State.yieldBlock s

/-- One attempt of a chorus transaction in absolute slot `n` (R281 to R285). -/
def State.chorusTry (s : State) (t : Txn) (q : DelReq) (c : ChorusReq) (n : Nat) : State :=
  if t.deadline < s.chorusStart n then s.txnDeadline t.id
  else
    let s1 := s.toAir (n * s.tSlot + 1000 * usHalfNs - 220 * usHalfNs)
    let q1 := { q with made := q.made + 1 }
    let s2 := s1.putReq q1
    if s.chorusStart n < s1.air + 48 * usHalfNs then s2.chorusEnd t 0x01
    else match (s2.yieldBlocks n).chorusCheck q1 c n with
      | .inl reason => s2.chorusEnd t (skipBase + reason)
      | .inr (p, khz) => (s2.yieldBlocks n).chorusBook t q1 c p khz n ((s2.chorusCtr n 0).getD 0) ((s2.chorusCtr n 1).getD 0)

/-- CHORUS_ATTEMPT: the next attempt of a chorus transaction comes up for booking, 220 µs before its sniff instant (R132); a
ready member books alert and command, any other one skips the attempt (R281 to R285). An attempt whose instant can no longer
be met is never sent off its slot edge: it ends as a late start without LATE_OK does (R132, R282). After the deadline there is no attempt
(R284). -/
def State.chorusAttempt (s : State) (id : Nat) : State :=
  match s.txnOf id with
  | none => s
  | some t =>
    match t.req.bind s.reqOf with
    | none => s
    | some q => match q.chorus with
      | none => s
      | some c =>
        if t.st ≠ .queued ∨ c.attempts ≤ q.made then s
        else match s.chorusSlot c q.made with
          | none => s.chorusEnd { t with st := .queued } (skipBase + 3)
          | some n => s.chorusTry t q c n

def execChorusAttempt (id : Nat) (s : State) : Answer State := .next (s.chorusAttempt id).settled

end Sys2Proof.Machine
end

