-- ==== Sys2Proof/Machine/PwrOps.lean ====
section
/-!
DEFINITION. Operations on the power domains that many commands share: providers and levels (R430 to R433), refusals
(R454, Table PW-5), the start of a raise and of an entry (R434 to R439), wake events (R441, R453).
-/

namespace Sys2Proof.Machine

/-! ### Paddock banks (R426) -/

def State.modBank (s : State) (i : Fin 4) (f : Bank → Bank) : State :=
  { s with aon := { s.aon with bank := vmod s.aon.bank i f } }

/-- Seal a bank: its signature is computed over content that the model does not spell out, a free value (R426). -/
def State.sealBank (s : State) (i : Fin 4) : State :=
  s.drawn.modBank i fun _ => ⟨1, s.draw.1 % 2 ^ 32, s.aon.tick, true⟩

/-! ### Domains -/

/-- The providers of a domain (Table PW-1). -/
def providers : Nat → List Nat
  | 0 => []
  | 1 => [0]
  | 6 => [2, 3, 17]
  | 14 => [13, 17]
  | 15 => [3, 17]
  | 16 => [3]
  | d => if 7 ≤ d ∧ d ≤ 12 then [6] else if d < 18 then [1] else []

/-- The domains that depend on a domain directly, in rising order. -/
def dependents (d : Nat) : List Nat := (List.range 18).filter fun x => (providers x).contains d

def State.dom (s : State) (d : Fin 18) : Domain := s.pwr.dom[d]

def State.putDom (s : State) (d : Fin 18) (x : Domain) : State :=
  { s with pwr := { s.pwr with dom := s.pwr.dom.set d x } }

def State.modDom (s : State) (d : Fin 18) (f : Domain → Domain) : State := s.putDom d (f (s.dom d))

/-- PW_TARGET of a domain. -/
def State.target (s : State) (d : Nat) : Nat := s.cfgN Obj.PW_TARGET d

/-- Change a target without a write: no revision is raised (R438). -/
def State.setTarget (s : State) (d v : Nat) : State :=
  s.cfgPut Obj.PW_TARGET (valSet (s.cfgVal Obj.PW_TARGET) d 0 v)

/-- The level of a state: 0 off, 1 retention, 2 on (R431). -/
def stateLevel : Nat → Nat
  | 1 => 1
  | 2 => 2
  | _ => 0

/-- The level of a domain; one that is entering has not left the state in which the entry began. -/
def Domain.level (x : Domain) : Nat := stateLevel (if x.st = 3 then x.came else x.st)

/-- The effective level (R432). -/
def State.level (s : State) (d : Fin 18) : Nat := max (s.dom d).level (s.target d)

/-- The domain as one of 18; numbers beyond name AON. -/
def domFin (d : Nat) : Fin 18 := if h : d < 18 then ⟨d, h⟩ else 0

/-- Count a refusal with its refuser and cause (R454). -/
def State.countRefusal (s : State) (d : Fin 18) (refuser cause : Nat) : State :=
  let s1 := s.count Obj.PW_REFUSALS d 0
  let s2 := ((s1.roSet Obj.PW_REFUSALS d 2 refuser).roSet Obj.PW_REFUSALS d 3 cause)
  s2.roSet Obj.PW_REFUSALS d 4 (ts96 s.mono)

/-- Count an abort, with its instant; no cause of Table PW-5 belongs to one, so the record's cause and refuser stay (R441, R454; log entry
115). -/
def State.countAbort (s : State) (d : Fin 18) : State :=
  (s.count Obj.PW_REFUSALS d 1).roSet Obj.PW_REFUSALS d 4 (ts96 s.mono)

/-- A mesh path's queue holds a command that does not end within PW_QUIESCE_MAX (R129, Table PW-5 cause 2). -/
def State.txPending (s : State) (d : Nat) : Bool :=
  if h : 7 ≤ d ∧ d < 13 then
    (s.path ⟨d - 7, by omega⟩).queue.any fun c => decide (s.air + s.cfgN Obj.PW_QUIESCE_MAX * msHalfNs < c.stop)
  else false

/-- A mesh path, a PTP instance or a time-pulse output is enabled (R370). -/
def State.timeInUse (s : State) : Bool :=
  ((List.range 6).any fun p => s.cfgN (inst Obj.RF_PATH_ENABLE p) != 0)
    || [1, 2].any (fun i => s.cfgN (inst Obj.PTP_ROLE i) != 0)
    || [0, 1].any fun n => s.cfgN Obj.TP_ENABLE n != 0

/-- Why a domain refuses to leave on or to go lower: its cause and refuser, the first of Table PW-5 that holds. -/
def State.lowerRefusal (s : State) (d : Fin 18) (v : Nat) : Option (Nat × Nat) :=
  match (dependents d).find? fun x => decide (v < s.level (domFin x)) with
  | some x => some (1, x)
  | none =>
    if s.txPending d then some (2, d)
    else if (d.val = 13 ∨ d.val = 14 ∨ d.val = 15) ∧ s.cfgN Obj.GN_ENABLE = 1 then some (3, d)
    else if (d.val = 15 ∨ d.val = 16) ∧ s.cfgN Obj.SN_ENABLE = 1 then some (4, d)
    else if d.val = 17 ∧ s.timeInUse then some (5, d)
    else none

/-- Why a write of a target is refused: its cause and refuser (R435, Table PW-5). -/
def State.targetRefusal (s : State) (d : Fin 18) (v : Nat) : Option (Nat × Nat) :=
  if d.val = 0 then (if v = 2 then none else some (9, 0))
  else if v = 1 ∧ ((s.dom d).st = 0 ∨ (s.dom d).st = 5) then some (10, d)
  else if v = 2 then none
  else s.lowerRefusal d v

/-! ### Raising a domain (R434, R449) -/

/-- Every provider of a domain is on. -/
def State.providersOn (s : State) (d : Fin 18) : Bool := (providers d).all fun p => s.domOn p

/-- Begin the exit of a domain whose target is on, that is not on and not in a transition, and whose providers are on
(R434, Table PW-4 step 6). -/
def State.beginExit (s : State) (d : Fin 18) : State :=
  let x := s.dom d
  if s.target d = 2 ∧ (x.st = 0 ∨ x.st = 1 ∨ x.st = 5) ∧ s.providersOn d then
    s.putDom d { x with st := 4, step := 6, other := if x.st = 1 then 1 else 0, held := none, wake := false }
  else s

/-- Begin every exit that can begin, providers first (R434). -/
def State.beginExits (s : State) : State := (List.finRange 18).foldl State.beginExit s

/-- The providers of a domain, direct and through others. -/
def allProviders (d : Nat) : List Nat :=
  let p1 := providers d
  let p2 := p1.flatMap providers
  let p3 := p2.flatMap providers
  (List.range 18).filter fun x => p1.contains x || p2.contains x || p3.contains x || (p3.flatMap providers).contains x

/-- A wake event for one domain: in an entry it waits for the abort point; otherwise its target becomes on (R441). The target before it is
kept while the raise waits (R434). -/
def State.raiseOne (s : State) (d : Fin 18) : State :=
  let x := s.dom d
  let former := some (x.former.getD (s.target d))
  if x.st = 3 then (s.setTarget d 2).putDom d { x with wake := true, held := none, former := former }
  else if x.st = 2 ∨ x.st = 4 then (s.setTarget d 2).putDom d { x with held := none }
  else (s.putDom d { x with former := former }).setTarget d 2

/-! ### The time-pulse outputs (R395) -/

def State.modTime (s : State) (f : TimeState → TimeState) : State := { s with time := f s.time }

/-- The source base of an output (TP_SOURCE). -/
def State.tpBase (s : State) (n : Fin 2) : Fin 5 :=
  match s.cfgN Obj.TP_SOURCE n with
  | 0 => 0
  | 1 => 1
  | 2 => 2
  | _ => 3

/-- The output is suppressed: its base is not established, TIME is held, or R388 suppresses it (R395). -/
def State.tpSuppressed (s : State) (n : Fin 2) : Bool :=
  let b := s.time.base[s.tpBase n]
  b.st < 2 || s.isHeld 0xB || !s.domOn 17
    || (s.cfgN Obj.TM_HOLDOVER_ACTION == 1 && s.time.selected == 0 && s.time.base[0].flags.testBit 4)

/-- TP_STATE: 0 off, 1 running, 2 running flagged, 3 suppressed (Table TM-10). -/
def State.tpState (s : State) (n : Fin 2) : Nat :=
  if s.cfgN Obj.TP_ENABLE n = 0 then 0
  else if s.tpSuppressed n then 3
  else if s.time.base[s.tpBase n].flags &&& 0x16 = 0 then 1 else 2

def State.modPulse (s : State) (n : Fin 2) (f : Pulse → Pulse) : State :=
  s.modTime fun t => { t with pulse := vmod t.pulse n f }

/-- Keep the instant since which an output runs (R395). -/
def State.tpRefresh (s : State) (n : Fin 2) : State :=
  let run := s.tpState n = 1 ∨ s.tpState n = 2
  s.modPulse n fun p => { p with
    since := if run then some (p.since.getD s.mono) else none
    active := p.active && decide run }

/-! ### The start of an entry (R436, R439, R455) -/

/-- A BOOKED attempt whose path leaves on: a transaction of a link is booked again under R243, a campaign block is sent at its next
occurrence, a chorus attempt has no path left that carries its carrier (Table FL-6), and the one attempt of a legacy transmission ends
with PATH_OFF (R245, R284, R285, R506). -/
def State.rebook (s : State) (t : Txn) : State :=
  match t.kind with
  | .block _ => s.yieldBlock t
  | .chorus => (s.dropCmds t.id).chorusEnd t (skipBase + 3)
  | _ => if t.mode = 0x20 then s.endTxn t 0x0B
    else (s.dropCmds t.id).putTxn { t with st := .queued, stage := 0, ms := 0 }

/-- A path's BOOKED attempts are booked again when its domain begins to quiesce; commands already in its queue run to their end (R245,
R455). -/
def State.rebookPath (s : State) (p : Fin 6) : State :=
  (s.mesh.txns.filter fun t => s.mesh.booked.any fun b => decide (b.1 = p) && b.2.ofTxn t.id).foldl State.rebook s

/-- Begin an entry: quiesce (Table PW-2 step 1). From retention a domain goes off with the same steps. -/
def State.beginEntry (s : State) (d : Fin 18) (v : Nat) : State :=
  let s1 := s.modDom d fun x => { x with
    st := 3, step := 1, other := v, came := x.st, wake := false, held := none, former := none, release := false }
  if h : 7 ≤ d.val ∧ d.val < 13 then s1.rebookPath ⟨d.val - 7, by omega⟩ else s1

/-- A refusal after acceptance: counted, DOMAIN_REFUSED, the target as given (R434, R438, R440). -/
def State.domRefused (s : State) (d : Fin 18) (target cause refuser : Nat) : State :=
  ((s.countRefusal d refuser cause).setTarget d target).raise Ev.DOMAIN_REFUSED d cause refuser

/-- Act on a lower target that no transition hinders (R436, R437). -/
def State.lowerDom (s : State) (d : Fin 18) (v : Nat) : State :=
  let x := s.dom d
  if x.st = 2 ∨ x.st = 1 ∨ x.st = 5 then (if stateLevel x.st = v ∧ x.st ≠ 5 then s else s.beginEntry d v) else s

/-- A transition of a domain has ended: a lower target held meanwhile is acted on. One of retention that meets off or FAULT is refused, and
so is one that a domain which is on refuses by now (R437, Table PW-5). -/
def State.actHeld (s : State) (d : Fin 18) : State :=
  let x := s.dom d
  match x.held with
  | none => s
  | some v =>
    let s1 := (s.putDom d { x with held := none }).setTarget d v
    if v = 1 ∧ (x.st = 0 ∨ x.st = 5) then s1.domRefused d 0 10 d
    else if x.st = 2 then
      match s1.lowerRefusal d v with
      | some (c, r) => s1.domRefused d 2 c r
      | none => s1.lowerDom d v
    else s1.lowerDom d v

/-! ### The end of an entry before its switch step (R440, R441, R443, R444) -/

/-- An entry ends before its switch step and the domain resumes work; one that had left on before stays as it was, and exits when its
target is on (R440, R441). -/
def State.resume (s : State) (d : Fin 18) : State :=
  let s1 := s.modDom d fun x => { x with st := x.came, step := 0, wake := false, former := none, release := false }
  s1.beginExits.actHeld d

/-- An entry that a wake event ends after isolation: the abort is counted. Of a domain that was on, the settings are loaded and the
isolation is released as the next instant passes (R441, R443; log entry 115). -/
def State.abortEntry (s : State) (d : Fin 18) : State :=
  let s1 := s.countAbort d
  if (s.dom d).came ≠ 2 then s1.resume d
  else
    let s2 := s1.modDom d fun x => { x with step := 2, wake := false, release := true }
    if d.val = 17 then s2.modTime fun t => { t with monoSave := none } else s2

/-- The save area's directory entry is cleared and bank 3 is sealed anew (R441). -/
def State.clearSave (s : State) (d : Fin 18) : State := (s.modDom d fun x => { x with valid := false }).sealBank 3

/-- The domain waits for its save step: another domain is saved or is ahead of it. The first of the queue is in its isolation step as long
as no save runs (R441, R444; log entry 115). -/
def State.waitsSave (s : State) (d : Fin 18) : Bool :=
  s.pwr.saveQ.contains d.val && (s.pwr.saving.isSome || s.pwr.saveQ.head? != some d.val)

/-- A domain's wait for its save or switch step ends at once on a wake event: it leaves the queue and resumes work; one that has been
saved has its entry cleared and the bank resealed (R444). -/
def State.abortWaiting (s : State) (d : Fin 18) : State :=
  let x := s.dom d
  if x.wake ∧ x.st = 3 ∧ (s.waitsSave d ∨ s.pwr.switchQ.contains d.val) then
    let s1 := { s with pwr := { s.pwr with saveQ := s.pwr.saveQ.erase d.val, switchQ := s.pwr.switchQ.erase d.val } }
    (if s.pwr.switchQ.contains d.val then s1.clearSave d else s1).abortEntry d
  else s

/-! ### Targets (R434 to R437) -/

/-- Raise a domain to on with every provider that is not on (R434, R441, R444). -/
def State.raiseDom (s : State) (d : Fin 18) : State :=
  let ps := (allProviders d).filter fun p => !s.domOn p
  let s1 := ps.foldl (fun s p => s.raiseOne (domFin p)) s
  let s2 := s1.raiseOne d
  ((List.finRange 18).foldl State.abortWaiting s2).beginExits

/-- Act on a target that no transition hinders (R436, R437). -/
def State.actTarget (s : State) (d : Fin 18) (v : Nat) : State :=
  if v = 2 then (if (s.dom d).st = 2 then s else s.raiseDom d) else s.lowerDom d v

/-- A transition of a domain has ended: a target held meanwhile is acted on (R437). -/
def State.afterTransition (s : State) (d : Fin 18) : State := s.actHeld d

/-- A write of PW_TARGET that has passed its checks takes effect. A lower target is held during a transition that it does not call for, or
that a wake event will turn round; a later write replaces it, and one of on is itself a wake event (R436, R437, R441). -/
def State.applyTarget (s : State) (d : Fin 18) (v : Nat) : State :=
  let x := s.dom d
  if v = 2 then
    if x.st = 4 ∨ x.release then (s.setTarget d 2).putDom d { x with held := none }
    else if x.st = 2 then (s.setTarget d 2).putDom d { x with held := none }
    else s.raiseDom d
  else if x.st = 3 ∧ x.other = v ∧ !x.wake ∧ !x.release then (s.setTarget d v).putDom d { x with held := none }
  else if x.st = 3 ∨ x.st = 4 then (s.setTarget d v).putDom d { x with held := some v }
  else ((s.setTarget d v).modDom d fun x => { x with former := none }).lowerDom d v

/-- A wake event of a source of Table PW-6 (R453): counted, recorded, and its domains are raised. -/
def State.wakeBy (s : State) (src : Nat) : State :=
  let s1 := s.count Obj.PW_WAKE_COUNTS src
  let s2 := (s1.roSet Obj.PW_WAKE_LAST 0 0 src).roSet Obj.PW_WAKE_LAST 0 1 s.aon.tick
  let m := s2.cfgN Obj.PW_WAKE_TARGETS src
  (List.finRange 18).foldl (fun (s : State) (d : Fin 18) => if m.testBit d ∧ d.val ≠ 0 then s.raiseDom d else s) s2

/-- The source is enabled (Table PW-6): source 0 by RTC_ALARM_WAKE, the others by PW_WAKE_ENABLE. -/
def State.wakeEnabled (s : State) (src : Nat) : Bool :=
  if src = 0 then s.cfgN Obj.RTC_ALARM_WAKE == 1 else (s.cfgN Obj.PW_WAKE_ENABLE).testBit src

/-- An event of a wake source: it acts while the source is enabled (R453). -/
def State.wakeSource (s : State) (src : Nat) : State := if s.wakeEnabled src then s.wakeBy src else s

end Sys2Proof.Machine
end

