-- ==== Sys2Proof/Machine/Aon.lean ====
section
/-!
DEFINITION. The always-on region (12_rtc_and_always_on.md): slow clock, calendar, alarm, supply, Paddock. Its event queue is
in Events.lean, its tick counter in Ops.lean.
-/

namespace Sys2Proof.Machine

def State.modAon (s : State) (f : AonState → AonState) : State := { s with aon := f s.aon }

/-! ### The calendar (R415, R416) -/

/-- ML of R416. -/
def monthLength (month year : Nat) : Nat :=
  if month = 2 then (if year % 4 = 0 then 29 else 28)
  else if month = 4 ∨ month = 6 ∨ month = 9 ∨ month = 11 then 30 else 31

/-- The procedure of R416. -/
def Cal.next (c : Cal) : Cal :=
  if c.sec ≠ 59 ∧ c.sec ≠ 63 then { c with sec := c.sec + 1 }
  else
    let c := { c with sec := 0 }
    if c.min ≠ 59 ∧ c.min ≠ 63 then { c with min := c.min + 1 }
    else
      let c := { c with min := 0 }
      if c.hour ≠ 23 ∧ c.hour ≠ 31 then { c with hour := c.hour + 1 }
      else
        let c := { c with hour := 0, wday := if 6 ≤ c.wday then 0 else c.wday + 1 }
        if c.day = 0 then { c with day := 1 }
        else if c.day ≠ monthLength c.month c.year ∧ c.day ≠ 31 then { c with day := c.day + 1 }
        else if 12 ≤ c.month then
          { c with day := 1, month := 1, year := if c.year = 99 ∨ c.year = 127 then 0 else c.year + 1 }
        else { c with day := 1, month := c.month + 1 }

/-- The order of R417: YEAR, MONTH, DAY, HOUR, MIN, SEC. -/
def calKey (year month day hour min sec : Nat) : Nat :=
  ((((year * 16 + month) * 32 + day) * 32 + hour) * 64 + min) * 64 + sec

def Cal.key (c : Cal) : Nat := calKey c.year c.month c.day c.hour c.min c.sec

/-- The alarm value in the same order (R419, RTC_ALARM). -/
def State.alarmKey (s : State) : Nat :=
  let f := fun i => s.cfgN Obj.RTC_ALARM 0 i
  calKey (f 5) (f 4) (f 3) (f 2) (f 1) (f 0)

/-- The calendar at reset (R412). -/
def Cal.zero : Cal := ⟨0, 0, 0, 0, 1, 1, 0⟩

/-! ### The alarm (R419 to R421) -/

/-- The alarm fires: spent, ALARM_FIRED, its event, and a wake request when RTC_ALARM_WAKE is 1 (R420). -/
def State.fireAlarm (s : State) (skipped : Bool) : State :=
  let s1 := s.modAon fun a => { a with alarm := 2, status := a.status ||| (if skipped then 0x30 else 0x10) }
  let s2 := if skipped then (s1.raise Ev.ALARM_SKIPPED).count Obj.RTC_COUNTS 2 else s1.raise Ev.RTC_ALARM
  s2.wakeSource 0

/-- An armed alarm whose value the calendar equals fires (R420). -/
def State.alarmCheck (s : State) : State :=
  if s.aon.alarm = 1 ∧ s.aon.cal.key = s.alarmKey then s.fireAlarm false else s

/-- Apply one second (R416, R420). -/
def State.applySecond (s : State) : State := (s.modAon fun a => { a with cal := a.cal.next }).alarmCheck

/-- Carry time forward to the tick at which the prescaler completes its second. The corrections of R406 change how many
ticks that takes: each round passes only ticks that cannot overshoot it. -/
def State.toSecond : Nat → State → State
  | 0, s => s
  | k + 1, s =>
    if 32768 ≤ s.aon.pres then s
    else
      let need := 32768 - s.aon.pres
      let n := max 1 (need - need / 4096 - 1)
      State.toSecond k (s.advance ((n * secHalfNs - s.aon.part + 32767) / 32768))

/-- CALENDAR_SECOND: the prescaler completes a second; the calendar advances, or the second joins RTC_PENDING while the
calendar is halted or catches up (R416, R418). Time is carried forward to the tick that completes it; while the tick
counter is stopped (R412) no second completes. -/
def State.calendarSecond (s : State) : State :=
  if s.aon.stopped then s else
  let s := s.toSecond 24
  if s.aon.pres < 32768 then s else
  let s := s.modAon fun a => { a with pres := a.pres - 32768 }
  if s.cfgN Obj.RTC_HALT = 1 ∨ s.aon.catchUp then
    if s.aon.pending < 15 then s.modAon fun a => { a with pending := a.pending + 1 }
    else if s.aon.overrun then s
    else
      (((s.modAon fun a => { a with overrun := true, status := a.status ||| 0x40 }).raise Ev.HALT_OVERRUN)).count
        Obj.RTC_COUNTS 1
  else s.applySecond

def execCalendarSecond (s : State) : Answer State := .next s.calendarSecond

/-- CATCH_UP_SECOND: after the release of a halt one pending second is applied at each tick (R418, R420). -/
def State.catchUpSecond (s : State) : State :=
  if !s.aon.catchUp ∨ s.aon.pending = 0 ∨ s.aon.stopped then s
  else
    let s1 := s.advance ((secHalfNs - s.aon.part + 32767) / 32768)
    (s1.modAon fun a => { a with pending := a.pending - 1, catchUp := decide (1 < a.pending) }).applySecond

def execCatchUpSecond (s : State) : Answer State := .next s.catchUpSecond

/-- A calendar adjustment (R417, R420): every field and the prescaler are set, pending seconds discarded; an armed alarm
fires when the new value equals its value, or is passed over by a forward adjustment. -/
def State.adjust (s : State) (c : Cal) (subsec : Nat) : State :=
  let old := s.aon.cal.key
  let s1 := (s.modAon fun a => { a with cal := c, pres := subsec, pending := 0, catchUp := false }).count Obj.RTC_COUNTS 3
  if s1.aon.alarm ≠ 1 then s1
  else if c.key = s1.alarmKey then s1.fireAlarm false
  else if old < s1.alarmKey ∧ s1.alarmKey < c.key then s1.fireAlarm true
  else s1

/-- The fields of RTC_SET in its order: SEC, MIN, HOUR, WDAY, DAY, MONTH, YEAR, SUBSEC. -/
def calOfFields (f : Nat → Nat) : Cal := ⟨f 0, f 1, f 2, f 3, f 4, f 5, f 6⟩

/-- Every field fits its width (R415). -/
def calFits (c : Cal) : Bool :=
  c.sec < 64 && c.min < 64 && c.hour < 32 && c.wday < 8 && c.day < 32 && c.month < 16 && c.year < 128

/-- RTC_SET: a calendar adjustment; a value that does not fit has no effect (R41, R417). -/
def State.rtcSet (s : State) (v : List Nat) : State :=
  let c := calOfFields fun i => (v[i]?).getD 0
  let sub := (v[7]?).getD 0
  if v.length = 8 ∧ calFits c ∧ sub < 32768 then (s.adjust c sub).bumpRev Obj.RTC_SET else s

def execRtcSet (v : List Nat) (s : State) : Answer State := .next (s.rtcSet v)

/-! ### BAR0 words of the calendar (Table AO-2) -/

/-- A field of a register word. -/
def wbits (w lo n : Nat) : Nat := w / 2 ^ lo % 2 ^ n

def timeWord (sec min hour wday : Nat) : Nat := sec + min * 2 ^ 8 + hour * 2 ^ 16 + wday * 2 ^ 24
def dateWord (day month year : Nat) : Nat := day + month * 2 ^ 8 + year * 2 ^ 16

/-- The calendar that a time word and a date word spell. -/
def calOfWords (t d : Nat) : Cal :=
  ⟨wbits t 0 6, wbits t 8 6, wbits t 16 5, wbits t 24 3, wbits d 0 5, wbits d 8 4, wbits d 16 7⟩

/-- Keep the fields of a written time or date word; reserved bits are ignored (R4). -/
def maskTime (w : Nat) : Nat := timeWord (wbits w 0 6) (wbits w 8 6) (wbits w 16 5) (wbits w 24 3)
def maskAlarmTime (w : Nat) : Nat := timeWord (wbits w 0 6) (wbits w 8 6) (wbits w 16 5) 0
def maskDate (w : Nat) : Nat := dateWord (wbits w 0 5) (wbits w 8 4) (wbits w 16 7)

/-- RTC_SET_DATE: the date word with the staged RTC_SET_TIME is one adjustment with SUBSEC 0 (R417, R423). -/
def State.rtcSetDate (s : State) (w : Nat) : State :=
  (s.modAon fun a => { a with setDate := maskDate w }).adjust (calOfWords s.aon.setTime w) 0

/-- A change of RTC_HALT: a halt begins, or its release starts the catch-up (R418). -/
def State.setHalt (s : State) (b : Nat) : State :=
  let old := s.cfgN Obj.RTC_HALT
  let s1 := s.cfgPut Obj.RTC_HALT (scalar b)
  if b = 1 ∧ old = 0 then s1.modAon fun a => { a with overrun := false, catchUp := false }
  else if b = 0 ∧ old = 1 then s1.modAon fun a => { a with catchUp := decide (0 < a.pending) }
  else s1

/-- RTC_HALT: 1 halts the calendar, 0 releases it (R418). -/
def State.rtcHalt (s : State) (b : Nat) : State :=
  if 1 < b then s else (s.setHalt b).bumpRev Obj.RTC_HALT

def execRtcHalt (b : Nat) (s : State) : Answer State := .next (s.rtcHalt b)

/-- A change of RTC_ALARM_ENABLE: from 0 to 1 arms, 0 disarms (R419). -/
def State.setAlarmEnable (s : State) (b : Nat) : State :=
  let old := s.cfgN Obj.RTC_ALARM_ENABLE
  let s1 := s.cfgPut Obj.RTC_ALARM_ENABLE (scalar b)
  if b = 0 then s1.modAon fun a => { a with alarm := 0 }
  else if old = 0 then s1.modAon fun a => { a with alarm := 1 }
  else s1

/-- RTC_ALARM_ENABLE (R419). -/
def State.rtcAlarmEnable (s : State) (b : Nat) : State :=
  if 1 < b then s else (s.setAlarmEnable b).bumpRev Obj.RTC_ALARM_ENABLE

def execRtcAlarmEnable (b : Nat) (s : State) : Answer State := .next (s.rtcAlarmEnable b)

/-- RTC_CTRL: one BAR0 write of RTC_HALT, RTC_ALARM_ENABLE and RTC_ALARM_WAKE; each one's revision rises whether or not its
bit changed (R423). -/
def State.rtcCtrl (s : State) (w : Nat) : State :=
  let s1 := (s.setHalt (wbits w 0 1)).bumpRev Obj.RTC_HALT
  let s2 := (s1.setAlarmEnable (wbits w 1 1)).bumpRev Obj.RTC_ALARM_ENABLE
  (s2.cfgPut Obj.RTC_ALARM_WAKE (scalar (wbits w 2 1))).bumpRev Obj.RTC_ALARM_WAKE

/-- Write the alarm value: it arms the alarm, and both BAR0 alarm registers take it (R419, R423). -/
def State.putAlarm (s : State) (sec min hour day month year : Nat) : State :=
  (s.cfgPut Obj.RTC_ALARM [[(sec : Int), min, hour, day, month, year]]).modAon fun a =>
    { a with alarm := 1, alarmTime := timeWord sec min hour 0, alarmDate := dateWord day month year }

/-- RTC_ALARM: SEC, MIN, HOUR, DAY, MONTH, YEAR; arms the alarm (R419). -/
def State.rtcAlarm (s : State) (v : List Nat) : State :=
  let f := fun i => (v[i]?).getD 0
  if v.length = 6 ∧ f 0 < 64 ∧ f 1 < 64 ∧ f 2 < 32 ∧ f 3 < 32 ∧ f 4 < 16 ∧ f 5 < 128 then
    (s.putAlarm (f 0) (f 1) (f 2) (f 3) (f 4) (f 5)).bumpRev Obj.RTC_ALARM
  else s

def execRtcAlarm (v : List Nat) (s : State) : Answer State := .next (s.rtcAlarm v)

/-- RTC_ALARM_DATE: RTC_ALARM takes both registers and is armed, its revision rises once (R423). -/
def State.rtcAlarmDate (s : State) (w : Nat) : State :=
  let t := s.aon.alarmTime
  (s.putAlarm (wbits t 0 6) (wbits t 8 6) (wbits t 16 5) (wbits w 0 5) (wbits w 8 4) (wbits w 16 7)).bumpRev Obj.RTC_ALARM

/-! ### The shadow (R424) -/

/-- The live registers 0x2000 to 0x2010 (Table AO-2). -/
def AonState.live (a : AonState) : List Nat :=
  [a.pres % 32768 + a.pending * 2 ^ 16, timeWord a.cal.sec a.cal.min a.cal.hour a.cal.wday,
    dateWord a.cal.day a.cal.month a.cal.year, a.tick % 2 ^ 32, a.tick / 2 ^ 32]

/-- RTC_STATUS (Table AO-2). -/
def State.rtcStatus (s : State) : Nat :=
  let a := s.aon
  (if a.doubtful then 1 else 0) + 2 * s.cfgN Obj.RTC_HALT + (if a.shadow.isSome then 4 else 0) + 8 * a.supply
    + a.status % 256 / 16 * 16 + 256 * a.alarm + (if a.slowRc then 1024 else 0)

/-- RTC_SUBSEC_READ: the group is captured at one tick into the shadow (R424). -/
def State.subsecRead (s : State) : State :=
  (s.modAon fun a => { a with shadow := some (a.tick, a.live) }).emit
    (.bar0Read 0x2000 ((s.aon.live[0]?).getD 0))

/-- A read of 0x2004 to 0x2010: the shadow while one is active, else the live value (R424). -/
def State.groupReg (s : State) (i : Nat) : Nat :=
  match s.aon.shadow with
  | some (_, v) => (v[i]?).getD 0
  | none => (s.aon.live[i]?).getD 0

/-- RTC_TICK_HI_READ: releases the shadow (R424). -/
def State.tickHiRead (s : State) : State :=
  (s.modAon fun a => { a with shadow := none }).emit (.bar0Read 0x2010 (s.groupReg 4))

/-- SHADOW_EXPIRED: 32,768 ticks after its capture the shadow is released and counted (R424). -/
def State.shadowExpired (s : State) : State :=
  match s.aon.shadow with
  | none => s
  | some (t, _) =>
    let gone := (s.aon.tick + 2 ^ 48 - t) % 2 ^ 48
    let s1 := s.advance (((32768 - gone) * secHalfNs - s.aon.part + 32767) / 32768)
    (s1.modAon fun a => { a with shadow := none }).count Obj.RTC_COUNTS 0

def execShadowExpired (s : State) : Answer State := .next s.shadowExpired

/-! ### Slow clock (R404) -/

/-- SLOW_CLOCK_LOSS: the region switches to the RC; TIME_DOUBTFUL is set (R404). -/
def State.slowLoss (s : State) : State :=
  if s.aon.slowRc then s
  else (s.modAon fun a => { a with slowRc := true, doubtful := true, failed := true }).raise Ev.SLOW_CLK_FAIL

def execSlowClockLoss (s : State) : Answer State := .next s.slowLoss

/-- SLOW_CLOCK_RETURN: back on the crystal after 1 s without a missing edge; SLOW_CLK_OK, but not when the crystal first comes
good after an AON power-on without SLOW_CLK_FAIL (R404). -/
def State.slowReturn (s : State) : State :=
  if !s.aon.slowRc then s
  else
    let s1 := s.modAon fun a => { a with slowRc := false, starting := false, failed := false }
    if s.aon.failed then s1.raise Ev.SLOW_CLK_OK else s1

def execSlowClockReturn (s : State) : Answer State := .next s.slowReturn

/-- SLOW_CLOCK_START_TIMEOUT: 3 s after an AON power-on without a good crystal (R404). -/
def State.slowStartTimeout (s : State) : State :=
  if s.aon.slowRc ∧ s.aon.starting ∧ !s.aon.failed then
    (s.modAon fun a => { a with failed := true }).raise Ev.SLOW_CLK_FAIL
  else s

def execSlowClockStartTimeout (s : State) : Answer State := .next s.slowStartTimeout

/-! ### Supply (R411 to R413) -/

/-- SUPPLY_SWITCH: the rail moves to VBAT or to VMAIN_AON; counted and reported; the switch to VMAIN_AON is wake source 6.
The return of an input within the hold-up time counts a bridged hold-up (R411, R412, R453). -/
def State.supplySwitch (s : State) (vbat : Bool) : State :=
  let s := if s.aon.holdup then (s.modAon fun a => { a with holdup := false }).count Obj.AON_COUNTS 2 else s
  if (s.aon.supply = 1) = vbat then s
  else
    let s1 := (s.modAon fun a => { a with supply := if vbat then 1 else 0 }).count Obj.AON_COUNTS (if vbat then 0 else 1)
    if vbat then s1.raise Ev.AON_ON_VBAT else (s1.raise Ev.AON_ON_MAIN).wakeSource 6

/-- SUPPLY_SWITCH. `below` tells that an input was below 1.8 V with the other one, so that the switch ends a hold-up
(Example AO-1). -/
def execSupplySwitch (vbat below : Bool) (s : State) : Answer State :=
  .next ((if below then s.modAon fun a => { a with holdup := true } else s).supplySwitch vbat)

/-- HOLDUP_EXPIRY: 200 µs below 1.8 V; the tick counter stops and TIME_DOUBTFUL is set (R412). -/
def State.holdupExpiry (s : State) : State :=
  s.modAon fun a => { a with stopped := true, doubtful := true, holdup := true }

def execHoldupExpiry (s : State) : Answer State := .next s.holdupExpiry

/-- VBAT_MEASUREMENT: three consecutive results below the limit raise VBAT_LOW, again only after one 100 mV above it; a cell
that reads below 100 mV is absent (R413). VBAT_LOW is wake source 7 (Table PW-6). -/
def State.vbatMeasured (s : State) (mv : Nat) : State :=
  let low := s.cfgN Obj.AON_VBAT_LOW_MV
  let runs := if mv < low ∧ 100 ≤ mv then s.aon.vbatRuns + 1 else 0
  let armed := s.aon.vbatArmed || decide (low + 100 ≤ mv)
  if 3 ≤ runs ∧ armed then
    ((s.modAon fun a => { a with vbat := mv, vbatRuns := runs, vbatArmed := false, status := a.status ||| 0x80 }).raise
      Ev.VBAT_LOW 0xFF mv).wakeSource 7
  else s.modAon fun a => { a with vbat := mv, vbatRuns := runs, vbatArmed := armed }

def execVbatMeasurement (mv : Nat) (s : State) : Answer State := .next (s.vbatMeasured mv)

/-! ### Trim, anchor and RTC time (R406 to R409) -/

/-- The trim that brings the prescaler nearest to one second per second, from the ticks counted in 1,024 s of TB_GNSS: 2²⁰ × (2²⁵ − ticks)
/ ticks, to the nearest (R406, R407). -/
def trimFor (ticks : Nat) : Int := (2 ^ 21 * ((2 : Int) ^ 25 - ticks) + ticks) / (2 * ticks)

/-- AUTOTRIM_MEASUREMENT: the ticks of 1,024 s of TB_GNSS give the trim; a result outside ±255 is not written (R407). -/
def State.autotrim (s : State) (ticks : Nat) : State :=
  let trim := trimFor ticks
  if s.cfgN Obj.RTC_AUTOTRIM_ENABLE = 0 ∨ s.time.base[0].flags.testBit 0 = false then s
  else if trim < -255 ∨ 255 < trim then s.raise Ev.RTC_TRIM_LIMIT
  else s.cfgPut Obj.RTC_TRIM (scalar trim)

def execAutotrimMeasurement (ticks : Nat) (s : State) : Answer State := .next (s.autotrim ticks)

/-- Write a new anchor into bank 0 and seal it (R408, Table AO-3); `rate` is the measured tick rate error. -/
def State.writeAnchor (s : State) (rate : Int) : State :=
  (s.modAon fun a => { a with
    anchor := ⟨a.tick, ts96 s.time.base[0].now, rate, s.time.base[0].err⟩
    airOffset := (s.time.base[3].now : Int) - s.time.base[0].now
    airSlew := s.time.base[3].slew, source := s.time.selected }).sealBank 0

/-- TIME_ANCHOR_WRITE: while TB_GNSS is TRACEABLE or in HOLDOVER (R408). -/
def State.anchorWrite (s : State) (rate : Int) : State :=
  if s.time.base[0].flags.testBit 0 ∨ s.time.base[0].flags.testBit 1 then s.writeAnchor rate else s

def execTimeAnchorWrite (rate : Int) (s : State) : Answer State := .next (s.anchorWrite rate)

/-- The RTC time of R409 in 0.5 ns of GPST: anchor time + ticks / 32,768 × (1 − rate error). -/
def State.rtcTime (s : State) : HalfNs :=
  let a := s.aon.anchor
  let ticks : Nat := (s.aon.tick + 2 ^ 48 - a.tick) % 2 ^ 48
  ((ts96Half a.time : Int) + (ticks : Int) * secHalfNs * (100000000 - a.rateErr) / (32768 * 100000000)).toNat

/-! ### Synchronisation (R422) -/

/-- Month and day in a year from the day of the year. -/
def monthDay (year : Nat) : Nat → Nat → Nat → Nat × Nat
  | 0, m, d => (m, d + 1)
  | fuel + 1, m, d => if d < monthLength m year then (m, d + 1) else monthDay year fuel (m + 1) (d - monthLength m year)

/-- The calendar of a number of seconds since 2000-01-01 00:00:00, a Saturday; none outside 2000 to 2099 (R422). WDAY runs
from 0 for Monday. -/
def calOfSeconds (t : Int) : Option Cal :=
  if t < 0 then none
  else
    let n := t.toNat
    let days := n / 86400
    if 36525 ≤ days then none
    else
      let year := days / 1461 * 4 + (if days % 1461 < 366 then 0 else (days % 1461 - 1) / 365)
      let doy := days % 1461 - (if days % 1461 < 366 then 0 else (days % 1461 - 1) / 365 * 365 + 1)
      let md := monthDay year 12 1 doy
      some ⟨n % 60, n / 60 % 60, n / 3600 % 24, (days + 5) % 7, md.2, md.1, year⟩

/-- The calendar that belongs to a second of TB_GNSS in the scale of RTC_SCALE; GPST counts from 1980-01-06, 7,300 days before
2000-01-01 (R364, R422). -/
def State.syncCal (s : State) (second : Nat) : Option Cal :=
  let off : Int := match s.cfgN Obj.RTC_SCALE with
    | 0 => -s.time.leap
    | 1 => 0
    | _ => -s.time.leap + 60 * s.cfgI Obj.RTC_ZONE
  calOfSeconds ((second : Int) + off - 7300 * 86400)

/-- Make a synchronisation write at the present second of TB_GNSS, or raise RTC_SYNC_RANGE (R422). -/
def State.syncNow (s : State) : State :=
  let s := s.modAon fun a => { a with syncForce := false, syncAt := s.mono }
  match s.syncCal (s.time.base[0].now / secHalfNs) with
  | some c => s.adjust c 0
  | none => s.raise Ev.RTC_SYNC_RANGE

/-- A force of a synchronisation write while synchronisation is enabled (R422). -/
def State.forceSync (s : State) : State :=
  if s.cfgN Obj.RTC_SYNC_ENABLE = 1 then s.modAon fun a => { a with syncForce := true } else s

/-- RTC_SYNC_WRITE: at the next whole second of TB_GNSS, when a write is forced, or the period has run and the calendar differs
by 1 s or more (R422). -/
def State.syncWrite (s : State) : State :=
  if s.cfgN Obj.RTC_SYNC_ENABLE = 0 ∨ !s.time.established then s
  else
    let g := s.time.base[0].now
    let s1 := s.advance ((g + secHalfNs - 1) / secHalfNs * secHalfNs - g)
    if s1.aon.syncForce then s1.syncNow
    else if s1.aon.syncAt + s1.cfgN Obj.RTC_SYNC_PERIOD * secHalfNs ≤ s1.mono then
      match s1.syncCal (s1.time.base[0].now / secHalfNs) with
      | some c => if c.key = s1.aon.cal.key then s1.modAon fun a => { a with syncAt := s1.mono } else s1.syncNow
      | none => s1.syncNow
    else s1

def execRtcSyncWrite (s : State) : Answer State := .next s.syncWrite

/-! ### Paddock (R426 to R428) -/

/-- A bank is set to all zeros and marked INVALID (R427, R428); what the model keeps of its content goes with it. -/
def State.clearBank (s : State) (i : Fin 4) : State :=
  let s1 := s.modBank i fun b => { b with st := 0, intact := false }
  if i = 0 then s1.modAon fun a => { a with
    anchor := ⟨0, 0, 0, 0⟩, airOffset := 0, airSlew := 0, source := 0, doubtful := true }
  else if i = 1 then s1.modAon fun a => { a with hot := { a.hot with alm := 0, ephs := [], almAt := none } }
  else if i = 2 then s1.modAon fun a => { a with savedAt := 0, hot := { a.hot with
    ephs2 := [], refSource := 0, ref := ⟨0, 0, 0, 0⟩, pos3d := false, model := [], msgs := 0, glo := [] } }
  else s1

/-- Check a bank: it passes only when SEALED with matching content; otherwise it is cleared, RETENTION_FAIL raised and
PADDOCK_FAILS incremented (R427). -/
def State.checkBank (s : State) (i : Fin 4) : State :=
  if s.aon.bank[i].st = 1 ∧ s.aon.bank[i].intact then s
  else ((s.clearBank i).raise Ev.RETENTION_FAIL i).count Obj.PADDOCK_FAILS i

/-- PADDOCK_CLEAR (R428): bank 3 cannot be named while a domain is in retention. -/
def State.paddockCheck (s : State) (m : Nat) : Nat :=
  if 16 ≤ m then 4
  else if m.testBit 3 ∧ s.pwr.dom.any (fun x => x.st == 1) then 5 else 0

def State.paddockPut (s : State) (m : Nat) : State :=
  (List.finRange 4).foldl (fun (s : State) (i : Fin 4) => if m.testBit i then s.clearBank i else s) s

def State.paddockClear (s : State) (m : Nat) : State :=
  if s.paddockCheck m = 0 then (s.paddockPut m).accept Obj.PADDOCK_CLEAR (scalar m) else s

def execPaddockClear (m : Nat) (s : State) : Answer State := .next (s.paddockClear m)

end Sys2Proof.Machine
end

