-- ==== Sys2Proof/Machine/Time.lean ====
section
/-!
DEFINITION. Time bases, Bellwether, PTP and the time pulse (11_time_bases.md). Offsets are in 0.5 ns.
-/

namespace Sys2Proof.Machine

/-! ### Bases -/

def State.modBase (s : State) (i : Fin 5) (f : Base → Base) : State :=
  { s with time := { s.time with base := vmod s.time.base i f } }

/-- Move a base by a phase. -/
def Base.shift (b : Base) (e : Int) : Base := { b with now := ((b.now : Int) + e).toNat }

/-- Slew a base: its phase moves and its accumulator adds it (R366). -/
def Base.slewBy (b : Base) (e : Int) : Base := { b.shift e with slew := wrap32 (b.slew + e) }

/-- Slew TB_GNSS or TB_AIR, which never run backward: a slew of −e lets e pass with the base standing still (R366; log entry 69). -/
def State.slewBase (s : State) (i : Fin 5) (e : Int) : State :=
  (if e < 0 then s.advance e.natAbs else s).modBase i fun b => b.slewBy e

/-- A phase limited to a magnitude. -/
def clampTo (e : Int) (m : Nat) : Int := max (-(m : Int)) (min m e)

/-- A free integer from a free natural number. -/
def freeInt (n : Nat) : Int := if n % 2 = 0 then (n / 2 : Nat) else -((n / 2 : Nat) : Int) - 1

/-- 19 s between TAI and GPST (R364), in 0.5 ns. -/
def taiOffset : Int := 19 * secHalfNs

/-- A signed 64-bit event argument as two 32-bit halves, ARG0 the low one. -/
def lo32 (e : Int) : Nat := (e % 2 ^ 32).toNat
def hi32 (e : Int) : Nat := (e / 2 ^ 32 % 2 ^ 32).toNat

/-! ### Sources (R382 to R384) -/

def State.modSrc (s : State) (i : Fin 4) (f : Src → Src) : State := s.modTime fun t => { t with src := vmod t.src i f }

/-- GPST by a source at this moment (Table TM-4). -/
def State.srcNow (s : State) (i : Fin 4) : Int :=
  let x := s.time.src[i]
  match i with
  | 1 => (s.time.base[1].now : Int) - taiOffset
  | 2 => (s.time.base[2].now : Int) - taiOffset
  | _ => x.sample + ((s.mono : Int) - x.sampleAt)

/-- Estimated error of a source in 0.5 ns. -/
def State.srcErr (s : State) (i : Fin 4) : Nat :=
  match i with
  | 0 => s.time.src[0].sampleErr
  | 1 => s.time.base[1].err
  | 2 => s.time.base[2].err
  | 3 => s.cfgN Obj.TM_HOST_UNC * 2000

/-- A PTP instance is a qualified source (Table TM-4, R379, R381). -/
def State.ptpQualified (s : State) (k : Fin 2) : Bool :=
  let p := s.time.ptp[k]
  p.portState == 9 && decide (16 ≤ p.slaveFor) && p.pendingStep.isNone &&
    match p.master with
    | some m => decide (m.cls ≤ s.cfgN (inst Obj.PTP_MAX_CLASS (k + 1)))
    | none => false

/-- No gap since NAV0's last time solution: an epoch's period and the 20 ms of its production have not passed (Table TM-4, R336; log
entry 113). -/
def State.gnssFresh (s : State) : Bool :=
  decide (s.mono ≤ s.time.src[0].sampleAt + secHalfNs / max 1 (s.cfgN Obj.GN_MEAS_RATE) + 20 * msHalfNs)

/-- A source meets its conditions (R382, Table TM-4). -/
def State.srcQualified (s : State) (i : Fin 4) : Bool :=
  let x := s.time.src[i]
  s.cfgN Obj.TM_SRC_PRIORITY i != 0 &&
    match i with
    | 0 => x.present && x.traceable && decide (x.goodAt + 10 * secHalfNs ≤ s.mono) && s.gnssFresh
    | 1 => s.ptpQualified 0
    | 2 => s.ptpQualified 1
    | 3 => x.present && decide (s.mono ≤ x.sampleAt + s.cfgN Obj.TM_HOST_VALID * secHalfNs)

/-- A source is traceable (Table TM-4). -/
def State.srcTraceable (s : State) (i : Fin 4) : Bool :=
  match i with
  | 0 => true
  | 1 => ((s.time.ptp[0].master).map (·.timeTraceable)).getD false
  | 2 => ((s.time.ptp[1].master).map (·.timeTraceable)).getD false
  | 3 => false

/-- One source's second: its offset, its disagreement, its counts of comparisons; SOURCE_DISAGREE once, 10 s after the first
comparison of an unbroken run (R384). -/
def State.compareSrc (s : State) (i : Fin 4) : State :=
  let x := s.time.src[i]
  let q := s.srcQualified i
  let off := s.srcNow i - s.time.base[0].now
  let dis := q && s.time.established && decide ((s.cfgN Obj.TM_AGREE_LIMIT : Int) < off.natAbs)
  let n := if dis then x.dis + 1 else 0
  let s1 := s.modSrc i fun x => { x with
    qualified := q, disagreeing := dis, offset := if q then off else 0, err := if q then min (s.srcErr i) 0xFFFFFFFF else 0
    dis := n, calm := if q ∧ !dis then x.calm + 1 else 0 }
  if n = 11 then s1.raise Ev.SOURCE_DISAGREE 0xFF (i + 1) else s1

/-! ### Selection (R385 to R388) -/

/-- The better of two sources: lower priority value, then lower error, then lower code (R385). -/
def State.srcBetter (s : State) (a b : Fin 4) : Bool :=
  let pa := s.cfgN Obj.TM_SRC_PRIORITY a
  let pb := s.cfgN Obj.TM_SRC_PRIORITY b
  pa < pb || (pa == pb && (s.srcErr a < s.srcErr b || (s.srcErr a == s.srcErr b && a < b)))

/-- The best of the sources that a predicate admits. -/
def State.bestSrc (s : State) (ok : Fin 4 → Bool) : Option (Fin 4) :=
  (List.finRange 4).foldl (fun (best : Option (Fin 4)) (i : Fin 4) =>
    if ok i then match best with
      | none => some i
      | some b => if s.srcBetter i b then some i else some b
    else best) none

/-- The source selected, if any. -/
def State.selectedSrc (s : State) : Option (Fin 4) :=
  if h : 1 ≤ s.time.selected ∧ s.time.selected ≤ 4 then some ⟨s.time.selected - 1, by omega⟩ else none

/-- The source that Bellwether should have now (R385): 0 none. -/
def State.choose (s : State) : Nat :=
  let q := fun i => s.srcQualified i
  let agree := fun i => q i && !s.time.src[i].disagreeing
  let code := fun (o : Option (Fin 4)) => match o with | some i => i.val + 1 | none => 0
  match s.selectedSrc with
  | none => code (s.bestSrc q)
  | some cur =>
    if !q cur then code (s.bestSrc agree)
    else
      let hold := s.cfgN Obj.TM_SWITCH_HOLD
      let better := s.bestSrc fun i => agree i && decide (hold < s.time.src[i].calm)
        && decide (s.cfgN Obj.TM_SRC_PRIORITY i < s.cfgN Obj.TM_SRC_PRIORITY cur)
      match better with
      | some b => b.val + 1
      | none =>
        if s.time.src[cur].disagreeing then
          match s.bestSrc agree with
          | some b => b.val + 1
          | none => cur.val + 1
        else cur.val + 1

/-- Round a rational to 0.5 ns units: exact, or one of its two neighbours by a free value. -/
def roundNat (num den free : Nat) : Nat := num / den + (if num % den = 0 then 0 else free % 2)

/-- u(t) of R387 in 0.5 ns, `t` in 0.5 ns: u₀ + F × t + ½ × A × t², as numerator over a denominator. -/
def State.holdoverErr (s : State) : Nat × Nat :=
  let t := s.mono - s.time.hoAt
  let f := s.cfgN Obj.TM_HO_FREQ_UNC
  let a := s.cfgN Obj.TM_HO_AGING
  let den := 2 * 3600 * 10 ^ 11 * secHalfNs
  (s.time.hoErr * den + f * t * (2 * 3600 * secHalfNs) + a * t * t, den)

/-- TB_FLAGS and errors of the bases after a change (Table TM-6, R387, R391). -/
def State.refreshFlags (s : State) : State :=
  let g := s.time.base[0]
  let trace := g.st == 2 && (match s.selectedSrc with | some i => s.srcTraceable i | none => false)
  let hold := g.st == 3
  let gf := (if trace then 1 else 0) + (if hold then 2 else 0) + (if s.time.steppedEnd.isSome then 4 else 0)
    + (if hold then g.flags / 16 % 2 * 16 else 0)
  let d : Int := (g.now : Int) + s.cfgI Obj.TM_AIR_TRIM - s.time.base[3].now
  let far := decide (2000 ≤ d.natAbs) && s.time.established
  let af := (if trace && !far then 1 else 0) + (if hold then 2 else 0) + (if far then 8 else 0)
  let err := if g.err = 0xFFFFFFFF then 0xFFFFFFFF else min 0xFFFFFFFF (g.err + d.natAbs + 2)
  ((s.modBase 0 fun b => { b with flags := gf }).modBase 3 fun b => { b with
    flags := af, err := if s.time.established then err else b.err, st := if s.time.established then g.st else b.st })

/-- A PTP base whose instance is in master role takes its time, state, flags and error from TB_GNSS (Table TM-1, R378). -/
def State.syncMasters (s : State) : State :=
  let g := s.time.base[0]
  [(0 : Fin 2), 1].foldl (fun (s : State) (k : Fin 2) =>
    if s.time.ptp[k].portState = 6 then
      s.modBase (if k = 0 then 1 else 2) fun b => { b with
        now := ((g.now : Int) + taiOffset).toNat, st := g.st, err := g.err, flags := g.flags }
    else s) s

/-- Enter holdover: no source is selected after establishment (R387). -/
def State.enterHoldover (s : State) : State :=
  if s.time.base[0].st = 3 then s
  else
    let s1 := s.modTime fun t => { t with hoErr := t.base[0].err, hoAt := s.mono, stepDue := none }
    ((s1.modBase 0 fun b => { b with st := 3 }).refreshFlags).raise Ev.TIME_HOLDOVER

/-- Establish TB_GNSS and TB_AIR from a source (R368). -/
def State.establish (s : State) (i : Fin 4) : State :=
  let g := (s.srcNow i).toNat
  let a := ((g : Int) + s.cfgI Obj.TM_AIR_TRIM).toNat
  let s1 := (s.modBase 0 fun b => { b with now := g, slew := 0, st := 2, steps := 0, err := s.srcErr i }).modBase 3 fun b =>
    { b with now := a, slew := 0, st := 2, steps := 0 }
  let s2 := s1.modTime fun t => { t with established := true, heldStep := none, stepDue := none, history := [], slews := [] }
  let s3 := { s2.modAon (fun x => { x with doubtful := false }) with
    mesh := { s2.mesh with edgeAsn := a / s.tSf } }
  (s3.refreshFlags.syncMasters.raise Ev.TIME_ESTABLISHED 0xFF (i + 1)).forceSync

/-- Make a selection: TIME_SOURCE with the old and the new code (R385); TB_GNSS does not move (R386); the first one
establishes the bases (R368), none leads to holdover (R387). -/
def State.select (s : State) (new : Nat) : State :=
  if new = s.time.selected then s
  else
    let s1 := (s.modTime fun t => { t with selected := new, heldStep := none }).raise Ev.TIME_SOURCE 0xFF s.time.selected new
    match s1.selectedSrc with
    | none => if s1.time.established then s1.enterHoldover else s1
    | some i => if s1.time.established then s1 else s1.establish i

/-! ### Discipline (R386, R389 to R391) -/

/-- LEAP as the master of a selected PTP source gives it: currentUtcOffset − 19 s (Time). -/
def State.srcLeap (s : State) (i : Fin 4) : Option Int :=
  if i = 1 then s.time.ptp[0].master.map fun m => m.utcOffset - 19
  else if i = 2 then s.time.ptp[1].master.map fun m => m.utcOffset - 19
  else none

/-- What the offset `e` of the selected source does to TB_GNSS at a comparison (R389): a slew of at most 25 ns in the second, a
step at the next whole second, or STEP_HELD. -/
def State.discipline (s : State) (i : Fin 4) : State :=
  let e := s.srcNow i - s.time.base[0].now
  let s := match s.srcLeap i with
    | some l => if l = s.time.leap then s else (s.modTime fun t => { t with leap := l }).forceSync
    | none => s
  if e.natAbs < 2000 then
    ((s.slewBase 0 (clampTo e 50)).modBase 0 fun b => { b with st := 2, err := s.srcErr i }).modTime fun t =>
      { t with heldStep := none, stepDue := none }
  else if e.natAbs ≤ s.cfgN Obj.TM_STEP_MAX * msHalfNs then
    (s.modBase 0 fun b => { b with st := 2, err := s.srcErr i }).modTime fun t =>
      { t with stepDue := some e, heldStep := none }
  else
    let s1 := s.enterHoldover
    let s2 := s1.modTime fun t => { t with heldStep := some e }
    if s.time.heldStep.isSome then s2 else s2.raise Ev.STEP_HELD 0xFF (lo32 e) (hi32 e)

/-- The estimated error in holdover, and HOLDOVER_LIMIT when it first exceeds TM_HOLDOVER_LIMIT (R387, R388). -/
def State.growError (s : State) : State :=
  if s.time.base[0].st ≠ 3 then s
  else
    let (num, den) := s.holdoverErr
    let past := decide (s.cfgN Obj.TM_HOLDOVER_LIMIT * den < num)
    let first := past && !s.time.base[0].flags.testBit 4
    let s1 := s.drawn.modBase 0 fun b => { b with
      err := min 0xFFFFFFFF (roundNat num den s.draw.1)
      flags := if first then b.flags + 16 else b.flags }
    if first then s1.raise Ev.HOLDOVER_LIMIT else s1

/-- TB_AIR's slew of one second when it is less than 1 µs from its target (R391). -/
def State.airSecond (s : State) : State :=
  let d : Int := (s.time.base[0].now : Int) + s.cfgI Obj.TM_AIR_TRIM - s.time.base[3].now
  if s.time.established ∧ d.natAbs < 2000 then s.slewBase 3 (clampTo d 50) else s

/-- TB_AIR's slew of one superframe when it is 1 µs or more from its target: TM_AIR_SLEW_RATE, at most 10 µs (R391). -/
def State.airSuperframe (s : State) : State :=
  let d : Int := (s.time.base[0].now : Int) + s.cfgI Obj.TM_AIR_TRIM - s.time.base[3].now
  if s.time.established ∧ 2000 ≤ d.natAbs then
    (s.slewBase 3 (clampTo d (min 20000 (2 * s.cfgN Obj.TM_AIR_SLEW_RATE)))).refreshFlags
  else s

/-- BELLWETHER_TICK: each second the sources are compared with TB_GNSS and the selection is remade; the selected source
disciplines TB_GNSS, and TB_AIR follows (R384, R385, R389, R391). -/
def State.bellwether (s : State) : State :=
  let s := s.toMono (s.time.lastTick + secHalfNs)
  let s := s.modTime fun t => { t with lastTick := s.mono }
  let s := (List.finRange 4).foldl State.compareSrc s
  let s := s.select s.choose
  let s := match s.selectedSrc with
    | some i => s.discipline i
    | none => s
  let s := s.growError.airSecond.refreshFlags.syncMasters
  (s.tpRefresh 0).tpRefresh 1

def execBellwetherTick (s : State) : Answer State := .next s.bellwether

/-- The offset of a source is taken when it is selected (R389). One of 1 µs or more acts at once; the slew of a smaller one begins with the
next comparison. -/
def State.takeOffset (s : State) : State :=
  match s.selectedSrc with
  | some i => if (s.srcNow i - s.time.base[0].now).natAbs < 2000 then s else s.discipline i
  | none => s

/-- SOURCE_DISQUALIFIED: the selected source no longer meets its conditions; the best qualified source that is not disagreeing
is selected at once, or TB_GNSS enters holdover (R385 to R387). For the host source, time is carried to the end of
TM_HOST_VALID. -/
def State.disqualified (s : State) : State :=
  match s.selectedSrc with
  | none => s
  | some i =>
    let s := if i = 3 ∧ s.srcQualified 3 then
        s.toMono (s.time.src[3].sampleAt + s.cfgN Obj.TM_HOST_VALID * secHalfNs + 1) else s
    if s.srcQualified i then s
    else
      let t := (s.select s.choose).takeOffset.refreshFlags
      (t.tpRefresh 0).tpRefresh 1

def execSourceDisqualified (s : State) : Answer State := .next s.disqualified

/-- Apply a step of TB_GNSS by `e` (R389, R390): TB_AIR and TB_MONO do not move; a PTP base in master role takes it at the
same instant (R378). -/
def State.stepGnss (s : State) (e : Int) : State :=
  let s1 := s.modBase 0 fun b => { b.shift e with
    steps := min (b.steps + 1) 0xFFFFFFFF, lastStepAt := ts96 s.mono, lastStepSize := e, st := 2 }
  let s2 := [(0 : Fin 2), 1].foldl (fun (s : State) (k : Fin 2) =>
    if s.time.ptp[k].portState = 6 then
      s.modBase (if k = 0 then 1 else 2) fun b => { b.shift e with
        steps := min (b.steps + 1) 0xFFFFFFFF, lastStepAt := ts96 s.mono, lastStepSize := e }
    else s) s1
  let s3 := s2.modTime fun t => { t with stepDue := none, heldStep := none, steppedEnd := some (s.mono + 60 * secHalfNs) }
  (s3.refreshFlags.raise Ev.TIME_STEPPED 0xFF (lo32 e) (hi32 e)).forceSync

/-- TB_GNSS_STEP: at the next whole second of TB_GNSS, after the time-pulse edges of that instant (R389). -/
def State.gnssStep (s : State) : State :=
  match s.time.stepDue with
  | none => s
  | some e =>
    let g := s.time.base[0].now
    (s.advance ((g + secHalfNs - 1) / secHalfNs * secHalfNs - g)).stepGnss e

def execTbGnssStep (s : State) : Answer State := .next s.gnssStep

/-- STEPPED_CLEAR: 60 s after a step (R389). -/
def State.steppedClear (s : State) : State :=
  match s.time.steppedEnd with
  | none => s
  | some t => ((s.toMono t).modTime fun x => { x with steppedEnd := none }).refreshFlags

def execSteppedClear (s : State) : Answer State := .next s.steppedClear

/-- TM_HOST_TIME: a GPST sample of the host source at this instant (R383). -/
def State.hostTime (s : State) (t : Nat) : State :=
  s.modSrc 3 fun x => { x with
    sample := ts96Half t, sampleAt := s.mono, present := true, sampleErr := s.cfgN Obj.TM_HOST_UNC * 2000 }

def execTmHostTime (t : Nat) (s : State) : Answer State :=
  .next (if ts96Valid t then (s.hostTime t).accept Obj.TM_HOST_TIME (scalar t) else s)

/-- TM_ACCEPT_STEP: a write of 1 applies a held step under the rule of a step (R389). -/
def State.acceptStep (s : State) (v : Nat) : State :=
  match s.time.heldStep with
  | none => s
  | some e => if v = 1 then s.modTime fun t => { t with stepDue := some e } else s

def execTmAcceptStep (v : Nat) (s : State) : Answer State := .next (s.acceptStep v)

/-- Record TB_AIR's slew accumulator; entries older than 3,660 s leave (R348). -/
def State.recordSlew (s : State) : State :=
  s.modTime fun t => { t with
    slews := (s.air, s.time.base[3].slew) ::
      t.slews.filter (fun (p : HalfNs × Int) => decide (s.air ≤ p.1 + 3660 * secHalfNs)) }

/-- SUPERFRAME_EDGE, but for a district switch, which security adds: TB_AIR's slew, then the work of the edge (R187, R391). -/
def State.superframe (s : State) : State := s.airSuperframe.toEdge.recordSlew

/-! ### PTP (R375 to R381) -/

def State.modPtp (s : State) (k : Fin 2) (f : Ptp → Ptp) : State := s.modTime fun t => { t with ptp := vmod t.ptp k f }

/-- The base of an instance. -/
def ptpBase (k : Fin 2) : Fin 5 := if k = 0 then 1 else 2

/-- A setting of an instance (Table TM-8). -/
def State.ptpCfg (s : State) (k : Fin 2) (base : Nat) (f : Nat := 0) : Int := s.cfgI (inst base (k + 1)) 0 f

def State.ptpRole (s : State) (k : Fin 2) : Nat := s.cfgN (inst Obj.PTP_ROLE (k + 1))

/-- The port of an instance: 0 ETH0, 1 ETH1. -/
def State.ptpPort (s : State) (k : Fin 2) : Fin 2 := if s.cfgN (inst Obj.PTP_PORT (k + 1)) = 0 then 0 else 1

/-- Send a PTP message on the instance's port; the port counts it (Table HP-12). -/
def State.ptpSend (s : State) (k : Fin 2) (o : Out) : State :=
  (s.count (inst Obj.ETH_COUNTS (s.ptpPort k)) 1).emit o

/-- The instance processes messages: enabled, its port's latency measured, and its domains on (R373). -/
def State.ptpRuns (s : State) (k : Fin 2) : Bool :=
  s.ptpRole k != 0 && s.port.eth[s.ptpPort k].measured && s.domOn 5 && s.domOn 17

/-- The ingress time of a message that arrives now, at the reference plane (R372 to R374). -/
def State.ptpIngress (s : State) (k : Fin 2) : Int :=
  let e := s.ptpPort k
  (s.time.base[ptpBase k].now : Int) - s.port.eth[e].latIn - s.cfgN (inst Obj.ETH_TS_RX_LAT e)

/-- The egress time of a message that leaves now. -/
def State.ptpEgress (s : State) (k : Fin 2) : Int :=
  let e := s.ptpPort k
  (s.time.base[ptpBase k].now : Int) + s.port.eth[e].latOut + s.cfgN (inst Obj.ETH_TS_TX_LAT e)

/-- The sync interval in 0.5 ns. -/
def State.syncInterval (s : State) (k : Fin 2) : HalfNs :=
  let l := s.ptpCfg k Obj.PTP_LOG_INTERVALS 0
  if l < 0 then secHalfNs / 2 ^ l.natAbs else secHalfNs * 2 ^ l.natAbs

/-- The announce interval in 0.5 ns. -/
def State.announceInterval (s : State) (k : Fin 2) : HalfNs :=
  let l := s.ptpCfg k Obj.PTP_LOG_INTERVALS 1
  if l < 0 then secHalfNs / 2 ^ l.natAbs else secHalfNs * 2 ^ l.natAbs

/-- Twice the rms of the last 16 filtered offsets plus PTP_ASYM_UNC (R377), its root cut to whole units. -/
def ptpError (offsets : List Int) (asym : Nat) : Nat :=
  let n := max 1 offsets.length
  Nat.sqrt (4 * ((offsets.map fun o => o.natAbs * o.natAbs).sum) / n) + asym

/-- A new master: UNCALIBRATED, counted (R379). -/
def State.newMaster (s : State) (k : Fin 2) (m : Option Master) : State :=
  (s.modPtp k fun p => { p with
    master := m, portState := 8, slaveFor := 0, pendingStep := none, offsets := [], annAt := s.mono }).count
      (inst Obj.PTP_COUNTS (k + 1)) 2

/-- The servo takes one offset of at most 1 ms (R377). The filtered offset and the phase that the second-order loop removes in
the interval are free values, the latter within 100 ppm of the interval and within the offset. -/
def State.servo (s : State) (k : Fin 2) (o : Int) : State :=
  let f := freeInt (s.draw.1 % 2 ^ 32)
  let s1 := s.drawn
  let lim := min o.natAbs (s.syncInterval k / 10000)
  let r : Int := (s1.draw.1 % (lim + 1) : Nat)
  let s2 := s1.drawn
  let fr := freeInt (s2.draw.1 % 2 ^ 32)
  let s3 := s2.drawn.modPtp k fun p => { p with
    portState := 9, slaveFor := p.slaveFor + 1, offset := f, offsets := (f :: p.offsets).take 16 }
  s3.modBase (ptpBase k) fun b => { b.slewBy (if o < 0 then -r else r) with
    st := 2, freq := fr, err := ptpError s3.time.ptp[k].offsets (s.cfgN (inst Obj.PTP_ASYM_UNC (k + 1)))
    flags := if ((s.time.ptp[k].master).map (·.timeTraceable)).getD false then 1 else 0 }

/-- PTP_SYNC: origin time and correction of a Sync, two-step ones with their Follow_Up (R376, R377, R381). The offset is the
master's time minus the base's, the sign of Example TM-1. -/
def State.ptpSync (s : State) (k : Fin 2) (origin corr : Int) : State :=
  let p := s.time.ptp[k]
  if !s.ptpRuns k ∨ (p.portState ≠ 8 ∧ p.portState ≠ 9) then s
  else
    let t2 := s.ptpIngress k
    let o := origin + corr + p.meanDelay + s.cfgI (inst Obj.ETH_TS_ASYM (s.ptpPort k)) - t2
    let s1 := s.modPtp k fun p => { p with syncAt := t2, syncCorr := origin + corr }
    match p.pendingStep with
    | some os => s1.modPtp k fun p => { p with pendingStep := some (os ++ [o]) }
    | none =>
      if msHalfNs < o.natAbs then
        (s1.modPtp k fun p => { p with pendingStep := some [o], pendAt := s.mono }).modBase (ptpBase k) fun b => { b with st := 4 }
      else s1.servo k o

def execPtpSync (k : Fin 2) (origin corr : Int) (s : State) : Answer State := .next (s.ptpSync k origin corr)

/-- The mean of a list of integers over a count, by a free rounding. -/
def meanFree (l : List Int) (n free : Nat) : Int := roundFree l.sum n free

/-- The last four offsets agree within 1 µs (R381). -/
def lastAgree (os : List Int) : Bool :=
  let l := os.drop (os.length - 4)
  l.length == 4 && l.all fun a => l.all fun b => decide ((a - b).natAbs ≤ 2000)

/-- STEP_PENDING_END: after 8 sync intervals the pending step is cancelled, applied, or pending again (R381). -/
def State.stepPendingEnd (s : State) (k : Fin 2) : State :=
  match s.time.ptp[k].pendingStep with
  | none => s
  | some os =>
    let s := s.toMono (s.time.ptp[k].pendAt + 8 * s.syncInterval k)
    if os.any fun o => decide (o.natAbs ≤ msHalfNs) then
      ((s.modPtp k fun p => { p with pendingStep := none }).modBase (ptpBase k) fun b => { b with st := 2 }).count
        (inst Obj.PTP_COUNTS (k + 1)) 1
    else if lastAgree os then
      let e := meanFree (os.drop (os.length - 4)) 4 s.draw.1
      let s1 := s.drawn.modBase (ptpBase k) fun b => { b.shift e with
        st := 2, steps := min (b.steps + 1) 0xFFFFFFFF, lastStepAt := ts96 s.mono, lastStepSize := e }
      ((s1.raise Ev.PTP_STEP (k + 1) (lo32 e) (hi32 e)).count (inst Obj.PTP_COUNTS (k + 1)) 0).newMaster k
        s1.time.ptp[k].master
    else s.modPtp k fun p => { p with pendingStep := some [], pendAt := s.mono }

def execStepPendingEnd (k : Fin 2) (s : State) : Answer State := .next (s.stepPendingEnd k)

/-- The order of two data sets: the default comparison, or with localPriority in profiles 2 and 3 (R376; the comparison
itself is IEEE 1588-2019's). -/
def masterKey (m : Master) (alternate : Bool) : List Nat :=
  if alternate then [m.cls, m.accuracy, m.variance, m.localPriority, m.identity, m.stepsRemoved]
  else [m.priority1, m.cls, m.accuracy, m.variance, m.priority2, m.identity, m.stepsRemoved]

def lexLt : List Nat → List Nat → Bool
  | a :: as, b :: bs => a < b || (a == b && lexLt as bs)
  | _, _ => false

/-- clockClass of this device in master role (R378). -/
def State.ownClass (s : State) : Nat :=
  let f := s.time.base[0].flags
  if f.testBit 0 then 6 else if s.time.base[0].st = 3 then (if f.testBit 4 then 140 else 7) else 248

/-- The device's own data set; accuracy and variance, which the spec does not give, are free values. -/
def State.ownSet (s : State) (k : Fin 2) : Master :=
  ⟨s.fw.otp.eui, (s.ptpCfg k Obj.PTP_PRIORITIES 0).toNat, s.ownClass, s.draw.1 % 256, s.draw.1 / 256 % 65536,
    (s.ptpCfg k Obj.PTP_PRIORITIES 1).toNat, (s.ptpCfg k Obj.PTP_PRIORITIES 2).toNat, 0,
    s.time.base[0].flags.testBit 0, 19 + s.time.leap, 0⟩

/-- The local priority of a master: that of the port, in profile 3 that of its entry in PTP_UNICAST_MASTERS; none where that list does
not name it (R376). -/
def State.localPriority (s : State) (k : Fin 2) (m : Master) : Option Nat :=
  let row := inst Obj.PTP_UNICAST_MASTERS (k + 1)
  match s.cfgN (inst Obj.PTP_PROFILE (k + 1)) with
  | 3 => ((List.range 4).find? fun i => s.cfgN row i 0 == m.address && m.address != 0).map fun i => s.cfgN row i 1
  | 2 => some (s.ptpCfg k Obj.PTP_PRIORITIES 2).toNat
  | _ => some m.localPriority

/-- PTP_ANNOUNCE: the BMCA (R376, R379). A refresh of the present master keeps the state; a better one makes it the master. -/
def State.ptpAnnounce (s : State) (k : Fin 2) (m : Master) : State :=
  let p := s.time.ptp[k]
  let alt := decide (2 ≤ s.cfgN (inst Obj.PTP_PROFILE (k + 1)))
  let lp := s.localPriority k m
  let m := { m with localPriority := lp.getD 0 }
  if !s.ptpRuns k ∨ s.ptpRole k = 2 ∨ lp.isNone then s
  else if (p.master.map (·.identity)) = some m.identity then s.modPtp k fun p => { p with master := some m, annAt := s.mono }
  else
    let beats := match p.master with | some o => lexLt (masterKey m alt) (masterKey o alt) | none => true
    let s1 := s.drawn
    if !beats then s
    else if s.ptpRole k = 3 ∧ s.time.established ∧ lexLt (masterKey (s.ownSet k) alt) (masterKey m alt) then
      s1.modPtp k fun p => { p with master := none, portState := 6 }
    else s1.newMaster k (some m)

def execPtpAnnounce (k : Fin 2) (m : Master) (s : State) : Answer State := .next (s.ptpAnnounce k m)

/-- ANNOUNCE_RECEIPT_TIMEOUT: PTP_ANNOUNCE_TIMEOUT announce intervals after the last Announce the master is removed, TB_PTPx holds over on
its last frequency, the BMCA runs again (R380). With no master heard, an instance that may be master becomes it. -/
def State.announceTimeout (s : State) (k : Fin 2) : State :=
  let mast := s.ptpRole k = 3 ∧ s.time.established
  if s.time.ptp[k].master.isNone then
    (if mast ∧ s.ptpRuns k ∧ s.time.ptp[k].portState = 4 then (s.modPtp k fun p => { p with portState := 6 }).syncMasters else s)
  else
    let s := s.toMono (s.time.ptp[k].annAt + s.cfgN (inst Obj.PTP_ANNOUNCE_TIMEOUT (k + 1)) * s.announceInterval k)
    let s1 := s.modPtp k fun p => { p with
      master := none, slaveFor := 0, pendingStep := none, portState := if mast then 6 else 4 }
    (s1.modBase (ptpBase k) fun b => { b with st := 3, flags := 2 }).count (inst Obj.PTP_COUNTS (k + 1)) 3

def execAnnounceReceiptTimeout (k : Fin 2) (s : State) : Answer State := .next (s.announceTimeout k)

/-- In profile 3 a master serves up to 32 slaves: a requester that has a grant, or gets one of those left (R376). -/
def State.ptpGrant (s : State) (k : Fin 2) (from_ : Nat) : Option State :=
  if s.cfgN (inst Obj.PTP_PROFILE (k + 1)) ≠ 3 ∨ s.time.ptp[k].grants.contains from_ then some s
  else if s.time.ptp[k].grants.length < 32 then some (s.modPtp k fun p => { p with grants := from_ :: p.grants })
  else none

/-- PTP_DELAY_REQ: in master role a Delay_Resp (kind 9) answers with the ingress time of the request and its correction; `from_` is the
requester. In profile 1 a Pdelay_Req is answered in every role, by Pdelay_Resp (kind 3) with the ingress time and its follow-up (kind 10)
with the egress time (R376, R378). -/
def State.ptpDelayReq (s : State) (k : Fin 2) (from_ seq : Nat) (corr : Int) : State :=
  if !s.ptpRuns k then s
  else if s.cfgN (inst Obj.PTP_PROFILE (k + 1)) = 1 then
    (s.ptpSend k (.ptp k 3 [(from_ : Int), seq, s.ptpIngress k])).ptpSend k (.ptp k 10 [(from_ : Int), seq, s.ptpEgress k, corr])
  else if s.time.ptp[k].portState = 6 then
    match s.ptpGrant k from_ with
    | some t => t.ptpSend k (.ptp k 9 [(from_ : Int), seq, s.ptpIngress k, corr])
    | none => s
  else s

def execPtpDelayReq (k : Fin 2) (from_ seq : Nat) (corr : Int) (s : State) : Answer State :=
  .next (s.ptpDelayReq k from_ seq corr)

/-- PTP_DELAY_RESP: the answer to the delay request outstanding completes a path-delay measurement (R377). `t` is the receive
time of the request less its corrections, in P2P the peer's turn-round time with its corrections. -/
def State.ptpDelayResp (s : State) (k : Fin 2) (t : Int) : State :=
  match s.time.ptp[k].reqAt with
  | none => s
  | some t3 =>
    if !s.ptpRuns k then s
    else
      let p := s.time.ptp[k]
      let num := if s.cfgN (inst Obj.PTP_PROFILE (k + 1)) = 1 then (s.ptpIngress k - t3) - t
        else (p.syncAt - p.syncCorr) + (t - t3)
      s.drawn.modPtp k fun p => { p with meanDelay := roundFree num 2 s.draw.1, reqAt := none }

def execPtpDelayResp (k : Fin 2) (t : Int) (s : State) : Answer State := .next (s.ptpDelayResp k t)

/-- In profile 3 an instance requests service from each master listed in PTP_UNICAST_MASTERS, by a signalling message (kind 12, R376). -/
def State.unicastRequests (s : State) (k : Fin 2) (seq : Nat) : State :=
  (List.range 4).foldl (fun (s : State) (i : Nat) =>
    let a := s.cfgN (inst Obj.PTP_UNICAST_MASTERS (k + 1)) i 0
    if a = 0 then s else s.ptpSend k (.ptp k 12 [(seq : Int), a])) s

/-- PTP_MESSAGE_TRANSMIT: at its message interval an instance sends Sync (two-step unless PTP_ONE_STEP) and Announce in
master role, and a delay request in slave role (R376, R378). Kinds: 0 Sync, 8 Follow_Up, 11 Announce, 1 Delay_Req,
2 Pdelay_Req. -/
def State.ptpTransmit (s : State) (k : Fin 2) : State :=
  let s := if s.ptpRole k = 2 ∧ s.time.established ∧ s.time.ptp[k].portState ≠ 6 then
      s.modPtp k fun p => { p with portState := 6 }
    else if s.time.ptp[k].portState = 6 ∧ !s.time.established then s.modPtp k fun p => { p with portState := 4 } else s
  let p := s.time.ptp[k]
  if !s.ptpRuns k then s
  else
    let s1 := s.modPtp k fun p => { p with seq := (p.seq + 1) % 65536 }
    if p.portState = 6 then
      let s2 := s1.syncMasters
      let one := s.cfgN (inst Obj.PTP_ONE_STEP (k + 1)) = 1
      let e := s2.ptpEgress k
      let s3 := s2.ptpSend k (.ptp k 0 [(p.seq : Int), if one then e else 0])
      let s4 := if one then s3 else s3.ptpSend k (.ptp k 8 [(p.seq : Int), e])
      let m := s4.ownSet k
      s4.drawn.ptpSend k (.ptp k 11 [(m.identity : Int), m.priority1, m.cls, m.priority2, m.utcOffset,
        if m.timeTraceable then 1 else 0])
    else if p.portState = 8 ∨ p.portState = 9 then
      let e := s1.ptpEgress k
      let kind := if s.cfgN (inst Obj.PTP_PROFILE (k + 1)) = 1 then 2 else 1
      (s1.modPtp k fun p => { p with reqAt := some e }).ptpSend k (.ptp k kind [(p.seq : Int), e])
    else if p.portState = 4 ∧ s.cfgN (inst Obj.PTP_PROFILE (k + 1)) = 3 ∧ s.ptpRole k ≠ 2 then
      s1.unicastRequests k p.seq
    else s1

def execPtpMessageTransmit (k : Fin 2) (s : State) : Answer State := .next (s.ptpTransmit k)

/-- A PTP setting has taken effect: an instance that is disabled stops, one that is enabled starts in LISTENING (R375). -/
def State.ptpApplied (s : State) (k : Fin 2) : State :=
  if s.ptpRole k = 0 then
    s.modPtp k fun p => { p with portState := 0, master := none, slaveFor := 0, pendingStep := none, reqAt := none, grants := [] }
  else if s.time.ptp[k].portState = 0 then s.modPtp k fun p => { p with portState := 4 }
  else s

/-- PCS_LATENCY_MEASURED: the measurement after link-up completes; PTP on the port restarts in UNCALIBRATED (R373). -/
def State.pcsMeasured (s : State) (e : Fin 2) (latIn latOut : Nat) : State :=
  let s1 := { s with port := { s.port with eth := vmod s.port.eth e fun x =>
    { x with latIn := latIn, latOut := latOut, measured := true } } }
  [(0 : Fin 2), 1].foldl (fun (s : State) (k : Fin 2) =>
    if s.ptpPort k = e then s.modPtp k fun p => { p with
      slaveFor := 0, pendingStep := none
      portState := if p.master.isSome then 8 else p.portState }
    else s) s1

def execPcsLatencyMeasured (e : Fin 2) (latIn latOut : Nat) (s : State) : Answer State :=
  .next (if s.port.eth[e].up then s.pcsMeasured e latIn latOut else s)

/-! ### The time pulse (R394 to R397) -/

/-- The period in 0.5 ns. -/
def State.tpPeriod (s : State) (n : Fin 2) : Nat := 2 * s.cfgN Obj.TP_PERIOD n

/-- The base reading of the next scheduled edge at or after a reading: base + phase is a multiple of the period (R394). -/
def State.nextEdge (s : State) (n : Fin 2) (b : HalfNs) : HalfNs :=
  let p : Int := max 1 (s.tpPeriod n)
  let x : Int := (b : Int) + s.cfgI Obj.TP_PHASE n
  (b + (p - x % p) % p).toNat

/-- An edge at an instant would follow the last by less than half a period (R396). -/
def State.edgeNear (s : State) (n : Fin 2) (at_ : HalfNs) : Bool :=
  match s.time.pulse[n].lastEdge with
  | some e => decide (at_ < e + s.tpPeriod n / 2)
  | none => false

/-- TIME_PULSE_EDGE: the next scheduled edge of an output that runs; the first one is at least half a period after an enable,
and one that would follow the last by less than half a period is omitted (R394 to R397). The edge reaches the board
point at its instant, so the model's time of the edge is that instant. -/
def State.pulseEdge (s : State) (n : Fin 2) : State :=
  let s := s.tpRefresh n
  match s.time.pulse[n].since with
  | none => s
  | some since =>
    let half := s.tpPeriod n / 2
    let b := s.time.base[s.tpBase n].now
    let lead := since + half - s.mono
    let from_ := match s.time.pulse[n].lastEdge with
      | some e => if since ≤ e then (if e = s.mono then b + 1 else b) else b + lead
      | none => b + lead
    let x := s.nextEdge n from_
    let s1 := s.advance (x - b)
    if s.edgeNear n s1.mono = true then s1.count Obj.TP_OMITTED n
    else
      let s2 := s1.modPulse n fun p => { p with
        active := true, lastEdge := some s1.mono, lastTime := ts96 x
        lastFlags := s1.time.base[s1.tpBase n].flags, seq := (p.seq + 1) % 2 ^ 32 }
      s2.emit (.pulse n true)

def execTimePulseEdge (n : Fin 2) (s : State) : Answer State := .next (s.pulseEdge n)

/-- TIME_PULSE_END: TP_WIDTH after the edge the output returns to its inactive level (R394). -/
def State.pulseEnd (s : State) (n : Fin 2) : State :=
  match s.time.pulse[n].active, s.time.pulse[n].lastEdge with
  | true, some e =>
    ((s.toMono (e + 2 * s.cfgN Obj.TP_WIDTH n)).modPulse n fun p => { p with active := false }).emit (.pulse n false)
  | _, _ => s

def execTimePulseEnd (n : Fin 2) (s : State) : Answer State := .next (s.pulseEnd n)

end Sys2Proof.Machine
end

