-- ==== Sys2Proof/Machine/Gnss.lean ====
section
/-!
DEFINITION. The GNSS baseband (09_gnss_baseband.md): the RF path, interference, acquisition, tracking, ephemerides, solutions
and records. Spectra, correlations and the arithmetic of a position solution are operands; the decisions on them are here.
-/

namespace Sys2Proof.Machine

/-! ### Signals and systems (R297, R298, Tables GN-1 and GN-2) -/

/-- One signal: code, system bit, band, carrier and half band of R308 in kHz, pilot, chip rate in kchip/s, primary code in ms,
acquisition rate Fa in kS/s. -/
structure SigInfo where
  code : Nat
  sys : Nat
  band : Fin 2
  carrier : Nat
  half : Nat
  pilot : Bool
  chips : Nat
  codeMs : Nat
  fa : Nat
deriving DecidableEq, Repr

/-- Table GN-1, in the order of the index. -/
def sigTable : List SigInfo := [
  ⟨0x01, 0, 0, 1575420, 1023, false, 1023, 1, 4096⟩, ⟨0x02, 0, 0, 1575420, 2046, true, 1023, 10, 8192⟩,
  ⟨0x03, 0, 1, 1176450, 10230, true, 10230, 1, 16384⟩, ⟨0x11, 1, 0, 1575420, 2046, true, 1023, 4, 8192⟩,
  ⟨0x12, 1, 1, 1176450, 10230, true, 10230, 1, 16384⟩, ⟨0x21, 2, 0, 1561098, 2046, false, 2046, 1, 8192⟩,
  ⟨0x22, 2, 0, 1575420, 2046, true, 1023, 10, 8192⟩, ⟨0x23, 2, 1, 1176450, 10230, true, 10230, 1, 16384⟩,
  ⟨0x31, 3, 0, 1602000, 511, false, 511, 1, 4096⟩, ⟨0x41, 4, 0, 1575420, 1023, false, 1023, 1, 4096⟩,
  ⟨0x42, 4, 0, 1575420, 2046, true, 1023, 10, 8192⟩, ⟨0x43, 4, 1, 1176450, 10230, true, 10230, 1, 16384⟩,
  ⟨0x51, 5, 1, 1176450, 1023, false, 1023, 1, 4096⟩, ⟨0x61, 6, 0, 1575420, 1023, false, 1023, 1, 4096⟩,
  ⟨0x62, 6, 1, 1176450, 10230, true, 10230, 1, 16384⟩]

def sigOf (i : Nat) : SigInfo := (sigTable[i]?).getD ⟨0, 7, 0, 0, 0, false, 0, 0, 0⟩

/-- The window of Table GN-2 in s before and after the reference time; SBAS has none. -/
def ephWindow : Nat → Option (Nat × Nat)
  | 0 => some (7200, 7200)
  | 1 => some (3600, 14400)
  | 2 => some (3600, 3600)
  | 3 => some (900, 900)
  | 4 => some (3600, 3600)
  | 5 => some (7200, 7200)
  | _ => none

/-- A band is enabled by GN_BAND_MODE. -/
def State.bandEnabled (s : State) (b : Fin 2) : Bool :=
  match s.cfgN Obj.GN_BAND_MODE with
  | 0 => true
  | 1 => b == 0
  | _ => b == 1

/-- A signal is searched and tracked (R298). -/
def State.sigEnabled (s : State) (i : Nat) : Bool :=
  decide (i < 15) && (s.cfgN Obj.GN_SIGNALS).testBit i && (s.cfgN Obj.GN_SYSTEMS).testBit (sigOf i).sys
    && s.bandEnabled (sigOf i).band && !s.gnss.band[(sigOf i).band].fault

/-- The signals enabled. -/
def State.sigsOn (s : State) : List Nat := (List.range 15).filter s.sigEnabled

/-- The signal of a system that Nimbus acquires: the first enabled index (R314). -/
def State.primarySig (s : State) (sys : Nat) : Option Nat := s.sigsOn.find? fun i => (sigOf i).sys == sys

def State.modGnss (s : State) (f : GnssState → GnssState) : State := { s with gnss := f s.gnss }
def State.modBand (s : State) (b : Fin 2) (f : GBand → GBand) : State := s.modGnss fun g => { g with band := vmod g.band b f }

/-- GNSS works: enabled, NAV on, the region not held. -/
def State.gnssOn (s : State) : Bool := s.cfgN Obj.GN_ENABLE == 1 && s.domOn 15 && !s.isHeld 9

/-! ### The reference position (R334) -/

/-- GN_FIXED_POS. -/
def State.fixedPos (s : State) : Pos :=
  ⟨s.cfgN Obj.GN_FIXED_POS 0 0, s.cfgN Obj.GN_FIXED_POS 0 1, s.cfgN Obj.GN_FIXED_POS 0 2, s.cfgN Obj.GN_FIXED_POS 0 3⟩

/-- GN_REF_POS: its source and the position (R334). -/
def State.refPos (s : State) : Nat × Pos :=
  if s.gnss.mismatch then (0, ⟨0, 0, 0, 0⟩)
  else match s.cfgN Obj.GN_TIMING_MODE with
    | 1 => (1, s.fixedPos)
    | 2 => if s.gnss.survey = 2 then (2, s.gnss.surveyMean) else (0, ⟨0, 0, 0, 0⟩)
    | _ => if 600 ≤ s.gnss.okCount then (3, s.gnss.okMean) else (0, ⟨0, 0, 0, 0⟩)

/-! ### Start (R299, R340) -/

/-- The present GPST in s: TB_GNSS once established, the RTC time before. -/
def State.gpsNow (s : State) : Nat :=
  (if s.time.established then s.time.base[0].now else s.rtcTime) / secHalfNs

/-- An ephemeris is current at a moment (R323); the window is half open (R7). -/
def ephCurrent (t : Nat) (e : Eph) : Bool :=
  match ephWindow e.sys with
  | some (b, a) => e.healthy && decide (e.toe ≤ t + b) && decide (t < e.toe + a)
  | none => false

/-- Banks 1 and 2 are valid (R340, R427). -/
def State.hotBanks (s : State) : Bool :=
  s.aon.bank[1].st == 1 && s.aon.bank[1].intact && s.aon.bank[2].st == 1 && s.aon.bank[2].intact

/-- u_t of R340 in 0.5 ns, none when unbounded. -/
def State.timeUnc (s : State) : Option Nat :=
  match (if s.time.selected ≤ 1 then none else s.selectedSrc.filter s.srcTraceable) with
  | some _ => some s.time.base[0].err
  | none =>
    if s.aon.doubtful then none
    else some (2000000 + s.cfgN Obj.GN_RTC_PPM * (s.rtcTime - s.aon.savedAt * secHalfNs) / 1000000)

/-- The start type of Table GN-8: 1 hot, 2 warm, 3 cold. How many of the satellites with a current ephemeris are above the mask
the spec leaves to the sky: `visible` (log entry 1). -/
def State.startKind (s : State) (visible : Nat) : Nat :=
  let h := s.aon.hot
  let ref := s.refPos.1 != 0 || h.refSource != 0
  let within := fun n => match s.timeUnc with | some u => decide (u ≤ n * secHalfNs) | none => false
  let hot := s.hotBanks && within 2 && ref && decide (5 ≤ visible)
  let warm := s.hotBanks && within 60 && (ref || h.pos3d) &&
    (match h.almAt with | some a => decide (s.rtcTime < a + 30 * 86400 * secHalfNs) | none => false)
  match s.cfgN Obj.GN_START_MODE with
  | 1 => 3
  | 2 => 2
  | _ => if hot then 1 else if warm then 2 else 3

/-- SUP requests NIMB on when an acquisition job starts to wait (R316). -/
def State.nimbRequest (s : State) : State :=
  if !s.gnss.jobs.isEmpty && !s.domOn 16 && s.cfgN Obj.GN_NIMB_AUTO == 1 && s.cfgN Obj.SN_ENABLE == 0 then s.raiseDom 16
  else s

/-- Jobs for one signal: the satellites to search are the sky's, a free value (log entry 1), in the mode of the start type and
of each satellite's ephemeris (Table GN-4, R340). -/
def State.searchSig (s : State) (kind i : Nat) : State :=
  let bits := s.draw.1
  let svs := (List.range 64).filter bits.testBit
  let mode := fun sv => if kind = 3 then AcqMode.cold
    else if kind = 1 ∧ s.gnss.ephs.any (fun e => e.sys == (sigOf i).sys && e.sv == sv && ephCurrent s.gpsNow e) then .hot
    else .warm
  s.drawn.modGnss fun g => { g with jobs := g.jobs ++ svs.map fun k => ⟨i, k + 1, mode (k + 1), s.mono⟩ }

/-- Search the satellites of the signals given that Nimbus acquires. -/
def State.searchAll (s : State) (kind : Nat) (sigs : List Nat) : State :=
  ((sigs.filter fun i => s.primarySig (sigOf i).sys == some i).foldl (fun (s : State) (i : Nat) => s.searchSig kind i) s).nimbRequest

/-- Take the hot-start data of Paddock over (R339): ephemerides, survey result or solution mean. -/
def State.takeHotStart (s : State) : State :=
  if !s.hotBanks then s
  else
    let h := s.aon.hot
    s.modGnss fun g => { g with
      ephs := if g.ephs.isEmpty then h.ephs ++ h.ephs2 else g.ephs
      survey := if g.survey = 0 ∧ h.refSource = 2 then 2 else g.survey
      surveyMean := if g.survey = 0 ∧ h.refSource = 2 then h.ref else g.surveyMean
      okCount := if g.okCount = 0 ∧ h.refSource = 3 then 600 else g.okCount
      okMean := if g.okCount = 0 ∧ h.refSource = 3 then h.ref else g.okMean }

/-- GNSS starts: GN_ENABLE becomes 1, or NAV returns to on with it at 1 (R340). -/
def State.gnssStart (s : State) : State :=
  let s1 := s.takeHotStart
  let n := (s1.gnss.ephs.filter (ephCurrent s1.gpsNow)).length
  let k := s1.startKind (s1.draw.1 % (n + 1))
  let s2 := s1.drawn.modGnss fun g => { g with
    startType := k, startAt := s.mono, ttff := none, jobs := [], reacq := [], waiting := [], chans := [] }
  (s2.raise Ev.GNSS_START 0xFF k).searchAll k s2.sigsOn

/-- Every channel is released at once, and records stop (R299). -/
def State.gnssStop (s : State) : State :=
  let s1 := s.modGnss fun g => { g with chans := [], jobs := [], reacq := [], waiting := [], used := [] }
  s1.modSrc 0 fun x => { x with present := false, traceable := false }

/-- Why a write of GN_ENABLE is refused: RANGE, or CONFLICT (R299). -/
def State.gnEnableCheck (s : State) (v : Nat) : Nat :=
  if 1 < v then 4
  else if v = 1 ∧ (s.cfgN Obj.GN_SYSTEMS = 0 ∨ s.sigsOn = [] ∨ !s.domOn 13 ∨ !s.domOn 14 ∨ !s.domOn 15) then 5
  else 0

/-- A write of GN_ENABLE takes effect (R299, R340). -/
def State.gnEnablePut (s : State) (v : Nat) : State :=
  let was := s.cfgN Obj.GN_ENABLE
  let s1 := s.cfgPut Obj.GN_ENABLE (scalar v)
  if v = 1 ∧ was = 0 then s1.gnssStart else if v = 0 ∧ was = 1 then s1.gnssStop else s1

/-- GN_ENABLE_WRITE. -/
def State.gnEnable (s : State) (v : Nat) : State :=
  if s.gnEnableCheck v = 0 then (s.gnEnablePut v).bumpRev Obj.GN_ENABLE else s

def execGnEnableWrite (v : Nat) (s : State) : Answer State := .next (s.gnEnable v)

/-- A write changed which signals are enabled: the channels and jobs of those removed go, those added join the search (R298). -/
def State.sigsChanged (s : State) (before : List Nat) : State :=
  if !s.gnssOn then s
  else
    let s1 := s.modGnss fun g => { g with
      chans := g.chans.filter fun c => s.sigEnabled c.sig
      jobs := g.jobs.filter fun j => s.sigEnabled j.sig
      waiting := g.waiting.filter fun w => s.sigEnabled w.sig
      reacq := g.reacq.filter fun r => s.sigEnabled r.1 }
    s1.searchAll s.gnss.startType (s.sigsOn.filter fun i => !before.contains i)

/-! ### The RF path (R301 to R304) -/

/-- How long the items of R301 take. -/
def grfItemTime : Nat → HalfNs
  | 1 => 1500 * usHalfNs
  | 2 => 1000 * usHalfNs
  | 3 => 2000 * usHalfNs
  | _ => 1500 * usHalfNs

/-- The first calibration item from `i` on that a band has no measured value of (R301, Table PW-5a). -/
def GBand.firstItem (x : GBand) (i : Nat) : Nat :=
  ((List.range 4).find? fun k => decide (i ≤ k + 1) && ((x.cal.toList[k]?).getD 0) != 1).elim 0 (· + 1)

/-- GRF turns on: each enabled band starts with item 1, or, from retention, with the first item that it has no measured value of; those
whose OTP fall-back was not in use are kept (R301, Table PW-5a). -/
def State.grfOn (s : State) (fromOff : Bool) : State :=
  let s1 := (List.finRange 2).foldl (fun (s : State) (b : Fin 2) => s.modBand b fun x =>
    let y := if fromOff then { x with cal := Vector.replicate 4 0, delay := 0 } else x
    { y with item := if s.bandEnabled b then y.firstItem 1 else 0, itemAt := s.mono, retried := false, fault := false }) s
  s1.modGnss fun g => { g with grf := if g.band[0].item = 0 ∧ g.band[1].item = 0 then 2 else 1 }

/-- A band that is enabled and has never been calibrated starts its items, one that is disabled stops (R49, R301). -/
def State.bandsLoad (s : State) : State :=
  (List.finRange 2).foldl (fun (s : State) (b : Fin 2) =>
    let x := s.gnss.band[b]
    if s.bandEnabled b && x.item == 0 && x.cal.toList.all (· == 0) then
      (s.modBand b fun x => { x with item := 1, itemAt := s.mono, retried := false }).modGnss fun g => { g with grf := 1 }
    else if !s.bandEnabled b then s.modBand b fun x => { x with item := 0, retried := false } else s) s

/-- GRF leaves on; off keeps nothing, retention the calibration values and the AGC gains (R430). -/
def State.grfOff (s : State) (off : Bool) : State :=
  (List.finRange 2).foldl (fun (s : State) (b : Fin 2) => s.modBand b fun x =>
    let y := { x with item := 0, retried := false }
    if off then { y with gain := 0, cal := Vector.replicate 4 0, delay := 0, fault := false } else y)
    (s.modGnss fun g => { g with grf := 0, ant := 0, antCurrent := 0, antLow := 0, antOpen := false, antShort := false })

/-- GCOR goes off: notch cells and jamming state are lost (R430). -/
def State.notchLost (s : State) : State :=
  (List.finRange 2).foldl (fun (s : State) (b : Fin 2) => s.modBand b fun x => { GBand.reset with
    gain := x.gain, cal := x.cal, item := x.item, itemAt := x.itemAt, retried := x.retried, fault := x.fault, delay := x.delay }) s

/-- The next item of a band, and GRF_STATE 2 once no band calibrates (R301). -/
def State.grfNext (s : State) (b : Fin 2) : State :=
  let s1 := s.modBand b fun x => { x with
    item := if x.item < 4 then x.firstItem (x.item + 1) else 0, itemAt := s.mono, retried := false }
  if s1.gnss.grf = 1 ∧ s1.gnss.band[0].item = 0 ∧ s1.gnss.band[1].item = 0 then s1.modGnss fun g => { g with grf := 2 } else s1

/-- GRF_CAL_ITEM_END: the running item of a band passed or failed; a second failure takes the OTP values, and a failed LO item
without usable ones puts GRF_STATE at 3 and the band out of use (R301). `value` is what the group-delay item measured in 0.1 ns. -/
def State.grfCal (s : State) (b : Fin 2) (ok : Bool) (value : Nat) : State :=
  let x := s.gnss.band[b]
  if h : 1 ≤ x.item ∧ x.item ≤ 4 then
    let i : Fin 4 := ⟨x.item - 1, by omega⟩
    let s := s.toMono (x.itemAt + grfItemTime x.item)
    let otp := s.fw.otp.grf[b][i]
    if ok then
      (s.modBand b fun y => { y with
        cal := y.cal.set i 1, delay := if i = 3 then min value 0xFFFFFFFF else y.delay }).grfNext b
    else if !x.retried then s.modBand b fun y => { y with retried := true, itemAt := s.mono }
    else if i = 0 ∧ otp.isNone then
      (s.modBand b fun y => { y with cal := y.cal.set i 3, item := 0, fault := true }).modGnss fun g => { g with grf := 3 }
    else
      let s1 := s.modBand b fun y => { y with cal := y.cal.set i 2, delay := if i = 3 then otp.getD 0 else y.delay }
      (s1.raise Ev.CAL_FALLBACK 6 x.item).grfNext b
  else s

def execGrfCalItemEnd (b : Fin 2) (ok : Bool) (value : Nat) (s : State) : Answer State := .next (s.grfCal b ok value)

/-- A band works: GRF on, the reference there (CLOCK_SOURCE 1 or 2), the band enabled, calibrated and not in fault (R300, R301). -/
def State.bandRuns (s : State) (b : Fin 2) : Bool :=
  s.domOn 13 && s.start.clock != 0 && s.bandEnabled b && s.gnss.band[b].item == 0 && !s.gnss.band[b].fault

/-- AGC_UPDATE: each band's gain, within 0 to 60 dB (R303). -/
def State.agcUpdate (s : State) (g0 g1 : Int) : State :=
  let put := fun (s : State) (b : Fin 2) (g : Int) =>
    if s.bandRuns b then s.modBand b fun x => { x with gain := max 0 (min 600 g) } else s
  put (put s 0 g0) 1 g1

def execAgcUpdate (g0 g1 : Int) (s : State) : Answer State := .next (s.agcUpdate g0 g1)

/-- The bias current lies in the OK range: ANT_OK from OPEN or RETRYING (R304). -/
def State.antGood (s : State) : State :=
  let back := s.gnss.ant = 2 ∨ s.gnss.ant = 4
  let s1 := s.modGnss fun g => { g with ant := 1, antLow := 0, antShort := false }
  if back then s1.raise Ev.ANT_OK else s1

/-- ANT_BIAS_MEASUREMENT, each 1 ms, in mA (R304). -/
def State.antBias (s : State) (ma : Nat) : State :=
  if !s.domOn 13 then s
  else if s.cfgN Obj.GN_ANT_BIAS_ENABLE = 0 then
    s.modGnss fun g => { g with ant := 0, antCurrent := 0, antLow := 0, antOpen := false, antShort := false }
  else if s.gnss.antOpen then s.modGnss fun g => { g with antCurrent := 0 }
  else
    let s := s.modGnss fun g => { g with antCurrent := min ma 0xFFFF }
    if s.cfgN Obj.GN_ANT_SHORT_MA < ma then
      (s.modGnss fun g => { g with
        ant := 4, antOpen := true, antShort := true, antLow := 0
        antRetryAt := s.mono + s.cfgN Obj.GN_ANT_RETRY * secHalfNs }).raise Ev.ANT_SHORT 0xFF ma
    else if ma < s.cfgN Obj.GN_ANT_OPEN_MA then
      let n := min 100 (s.gnss.antLow + 1)
      let s1 := s.modGnss fun g => { g with antLow := n }
      if n = 100 ∧ s.gnss.ant ≠ 2 then
        (s1.modGnss fun g => { g with ant := 2, antOpen := g.antShort }).raise Ev.ANT_OPEN
      else s1
    else s.antGood

def execAntBiasMeasurement (ma : Nat) (s : State) : Answer State := .next (s.antBias ma)

/-- ANT_RETRY_EXPIRY: the switch closes again and the current is measured anew (R304). -/
def State.antRetry (s : State) : State :=
  if s.gnss.ant = 4 ∧ s.gnss.antOpen then
    (s.toMono s.gnss.antRetryAt).modGnss fun g => { g with antOpen := false, antLow := 0 }
  else s

def execAntRetryExpiry (s : State) : Answer State := .next s.antRetry

/-! ### Notches (R305 to R308) -/

/-- Half the width of a notch in Hz by its code. -/
def notchHalf : Nat → Nat
  | 0 => 12500
  | 1 => 25000
  | 2 => 50000
  | _ => 100000

/-- Distance of two frequencies in kHz. -/
def freqDist (a b : Nat) : Nat := (a - b) + (b - a)

/-- Cell `i` is held by a fixed notch (R305). -/
def State.notchFixed (s : State) (b : Fin 2) (i : Nat) : Bool := s.cfgN (inst Obj.GN_NOTCH_FIXED b) i 0 == 1

/-- A cell for which GN_NOTCH_FIXED names a notch serves it and no adaptive one (R305). -/
def State.fixedBand (s : State) (b : Fin 2) : State :=
  s.modBand b fun x => { x with cell := Vector.ofFn fun (j : Fin 4) => if s.notchFixed b j then ⟨false, 0, 0, 0, 0⟩ else x.cell[j] }

def State.fixedLoad (s : State) : State := (s.fixedBand 0).fixedBand 1

/-- A frequency in kHz lies within the width of an enabled fixed notch (R305). -/
def State.notchCovered (s : State) (b : Fin 2) (f : Nat) : Bool :=
  (List.range 4).any fun i => s.notchFixed b i &&
    decide (freqDist f (s.cfgN (inst Obj.GN_NOTCH_FIXED b) i 1) * 1000 ≤ notchHalf (s.cfgN (inst Obj.GN_NOTCH_FIXED b) i 2))

/-- How far a cell tracks its line from the frequency it was assigned, in kHz (R306). -/
def notchReach (b : Fin 2) : Nat := if b = 0 then 62 else 31

/-- The strongest line of a list. -/
def strongest (ls : List (Nat × Int)) : Option (Nat × Int) :=
  ls.foldl (fun (m : Option (Nat × Int)) (l : Nat × Int) => match m with
    | none => some l
    | some x => if x.2 < l.2 then some l else some x) none

/-- The median of an averaged spectrum: the upper one of the two middle values (log entry 111). -/
def spectrumMedian (xs : List Int) : Int :=
  (xs.find? fun v => decide ((xs.filter (· < v)).length ≤ xs.length / 2) && decide (xs.length / 2 < (xs.filter (· ≤ v)).length)).getD 0

/-- The bin of the spectral monitor that holds a frequency in kHz, and a bin's centre: 1,024 bins by rising frequency with the LO in
the middle (R305, Table GN-3; log entry 111). -/
def specBin (b : Fin 2) (khz : Nat) : Nat := if b = 0 then (khz * 2 + 62 - 2 * (1584500 - 32000)) / 125 else (khz * 4 + 62 - 4 * (1176500 - 16000)) / 125
def binCentre (b : Fin 2) (k : Nat) : Nat := if b = 0 then 1584500 - 32000 + k * 125 / 2 else 1176500 - 16000 + k * 125 / 4

/-- The local maxima of a spectrum relative to its median: frequency and level. A finer frequency of the line is used where the monitor
gives one (R305; log entry 111). -/
def specPeaks (b : Fin 2) (rel : List Int) (fine : List Nat) : List (Nat × Int) :=
  let at_ := fun (k : Nat) => (rel[k]?).getD (-128)
  (List.range rel.length).filterMap fun k =>
    if (k = 0 ∨ at_ (k - 1) < at_ k) ∧ (k + 1 = rel.length ∨ at_ (k + 1) ≤ at_ k) then
      some ((fine.find? fun f => specBin b f == k).getD (binCentre b k), at_ k)
    else none

/-- A held cell follows its line, counts evaluations below the release level and is released after 7 (R306, R307); where the line is no
local maximum its level is that of the spectrum at its frequency. -/
def NotchCell.follow (c : NotchCell) (b : Fin 2) (thresh : Int) (rel : List Int) (ls : List (Nat × Int)) : NotchCell :=
  if !c.used then c
  else
    let x := (strongest (ls.filter fun l => decide (freqDist l.1 c.home ≤ notchReach b))).getD
      (c.freq, (rel[specBin b c.freq]?).getD (-128))
    let n := if x.2 < thresh - 3 then c.below + 1 else 0
    if 7 ≤ n then ⟨false, 0, 0, 0, 0⟩ else { c with freq := x.1, level := x.2, below := n }

/-- The adaptive cells of a band: those no fixed notch holds, with their numbers. -/
def State.adaptive (s : State) (b : Fin 2) : List (Fin 4) := (List.finRange 4).filter fun i => !s.notchFixed b i

/-- A line has an adaptive cell: one that tracks its frequency. -/
def State.lineHeld (s : State) (b : Fin 2) (f : Nat) : Bool :=
  (s.adaptive b).any fun i => s.gnss.band[b].cell[i].used && s.gnss.band[b].cell[i].freq == f

/-- The used adaptive cell with the weakest line. -/
def State.weakestCell (s : State) (b : Fin 2) : Option (Fin 4) :=
  ((s.adaptive b).filter fun i => s.gnss.band[b].cell[i].used).foldl (fun (m : Option (Fin 4)) (i : Fin 4) => match m with
    | none => some i
    | some j => if s.gnss.band[b].cell[i].level < s.gnss.band[b].cell[j].level then some i else some j) none

/-- Give the strongest line that has no cell a free adaptive cell, or the cell of a line 3 dB weaker (R306). -/
def State.notchAssign (b : Fin 2) : Nat → List (Nat × Int) → State → State
  | 0, _, s => s
  | k + 1, ls, s =>
    match strongest (ls.filter fun l => !s.lineHeld b l.1) with
    | none => s
    | some l =>
      let put := fun (i : Fin 4) =>
        s.modBand b fun x => { x with cell := x.cell.set i ⟨true, l.1, l.1, l.2, 0⟩ }
      match (s.adaptive b).find? fun i => !s.gnss.band[b].cell[i].used with
      | some i => State.notchAssign b k ls (put i)
      | none => match s.weakestCell b with
        | some i => if s.gnss.band[b].cell[i].level + 3 ≤ l.2 then State.notchAssign b k ls (put i) else s
        | none => s

/-- NOTCH_EVALUATION, each 16 ms: the average of 16 spectra in dB by bin, and the finer frequencies in kHz that the monitor finds for
lines; lines are the local maxima at GN_NOTCH_THRESH or more above the median (R305 to R307). -/
def State.notchEval (s : State) (b : Fin 2) (spectrum : List Int) (fine : List Nat) : State :=
  if !s.bandRuns b then s
  else
    let th : Int := s.cfgN (inst Obj.GN_NOTCH_THRESH b)
    let raw := spectrum.take 1024
    let rel := raw.map fun v => v - spectrumMedian raw
    let peaks := specPeaks b rel fine
    let s1 := s.modBand b fun x => { x with
      spectrum := rel
      cell := Vector.ofFn fun (i : Fin 4) => if s.notchFixed b i then ⟨false, 0, 0, 0, 0⟩ else x.cell[i].follow b th rel peaks }
    let lines := peaks.filter fun l => decide (th ≤ l.2) && !s.notchCovered b l.1
    let s2 := s1.notchAssign b 8 lines
    if lines.any fun l => !s2.lineHeld b l.1 then s2.count (inst Obj.GN_NOTCH_OVERFLOW b) else s2

def execNotchEvaluation (b : Fin 2) (spectrum : List Int) (fine : List Nat) (s : State) : Answer State :=
  .next (s.notchEval b spectrum fine)

/-- A notch centre lies in a signal's band; for GLONASS in that of frequency number k (R308). -/
def State.notched (s : State) (i : Nat) (k : Int) : Bool :=
  let g := sigOf i
  -- in units of 0.1 kHz, since the GLONASS spacing is 562.5 kHz
  let c : Int := (g.carrier : Int) * 10 + (if g.sys = 3 then 5625 * k else 0)
  let inBand := fun (f : Nat) => decide (((f : Int) * 10 - c).natAbs ≤ g.half * 10)
  (List.finRange 4).any fun j =>
    if s.notchFixed g.band j then inBand (s.cfgN (inst Obj.GN_NOTCH_FIXED g.band) j 1)
    else s.gnss.band[g.band].cell[j].used && inBand s.gnss.band[g.band].cell[j].freq

/-! ### Blanking and jamming (R309 to R312) -/

/-- One sample through pulse blanking (R309): squared magnitude and squared long-term rms, with the hold that is left in 1/64 µs, the
sample period 1 on L1 and 2 on L5. A sample is blanked above the threshold of `t` quarters of the rms, and for `h` after the last such
sample. Answers whether it is blanked, and the hold left. -/
def blankSample (t h period left : Nat) (x : Nat × Nat) : Bool × Nat :=
  if t * t * x.2 < 16 * x.1 then (true, h) else if 0 < left then (true, left - period) else (false, 0)

/-- The samples of an interval through pulse blanking: how many are blanked, and the hold left at its end. -/
def blankRun (t h period : Nat) : List (Nat × Nat) → Nat → Nat → Nat × Nat
  | [], n, left => (n, left)
  | x :: xs, n, left =>
    let r := blankSample t h period left x
    blankRun t h period xs (if r.1 then n + 1 else n) r.2

/-- BLANK_INTERVAL_END: the samples of the interval, each with its squared magnitude and the squared long-term rms (over 10 ms of
unblanked samples) at it. The fraction blanked is reported in 0.01 %; beyond GN_BLANK_MAX the next interval is suspended (R309, R310). In
a suspended interval nothing is blanked. -/
def State.blankEnd (s : State) (b : Fin 2) (samples : List (Nat × Nat)) : State :=
  if !s.bandRuns b then s
  else
    let on := s.cfgN (inst Obj.GN_BLANK_ENABLE b) == 1 && !s.gnss.band[b].suspended
    let run := blankRun (s.cfgN (inst Obj.GN_BLANK_THRESH b)) (s.cfgN (inst Obj.GN_BLANK_HOLD b) * 64 / 1000) (b.val + 1) samples 0
      s.gnss.band[b].hold
    let r := if on then run.1 * 10000 / max 1 samples.length else 0
    let above := decide (s.cfgN (inst Obj.GN_BLANK_MAX b) * 100 < r)
    let s1 := s.modBand b fun x => { x with ratio := r, suspended := above, hold := if on then run.2 else 0 }
    if above then s1.count (inst Obj.GN_BLANK_SATURATED b) else s1

def execBlankIntervalEnd (b : Fin 2) (samples : List (Nat × Nat)) (s : State) : Answer State := .next (s.blankEnd b samples)

/-- 10^(k/100) in units of 10⁻¹⁸, by the hundredth root of ten to 18 places. -/
def pow10Hundredth (k : Nat) : Nat := 1023292992280754127 ^ k / 1000000000000000000 ^ (k - 1)

/-- J/N of R311 in 0.1 dB from P/N in 0.1 dB: the largest number not above 10 log₁₀(10^(P/N/10) − 1), floor −200. -/
def jnOf (pn : Int) : Int :=
  if pn ≤ 0 then -200
  else
    let p := if pn.toNat ≤ 1000 then pn.toNat else 1000
    let x := pow10Hundredth p - 1000000000000000000
    match (List.range 1001).reverse.find? fun n => decide (0 < n) && decide (pow10Hundredth n ≤ x) with
    | some n => n
    | none =>
      match (List.range 201).find? fun n => decide (1000000000000000000 * 1000000000000000000 ≤ x * pow10Hundredth (n + 1)) with
      | some n => -((n + 1 : Nat) : Int)
      | none => -200

/-- JAM_INDICATOR_UPDATE, each 100 ms, with the correction of OTP's noise-only gain for die temperature in 0.1 dB (R311, R312). The last
digit of J/N the spec leaves open within its ±2 dB: a free value (log entry 1). -/
def State.jamUpdate (s : State) (b : Fin 2) (corr : Int) : State :=
  if !s.bandRuns b then s
  else
    let x := s.gnss.band[b]
    let pn := s.fw.otp.gref[b] + corr - s.cfgI Obj.GN_EXT_GAIN b - x.gain
    let ind := min 255 (4 * pn.toNat / 10)
    let th := s.cfgN (inst Obj.GN_JAM_THRESH b)
    let high := if th ≤ ind then min 10 (x.high + 1) else 0
    let low := if ind + 8 < th then min 50 (x.low + 1) else 0
    let jam := !x.jammed && high == 10
    let clear := x.jammed && low == 50
    let s1 := s.drawn.modBand b fun y => { y with
      jamInd := ind, jn := max (-200) (jnOf pn + (s.draw.1 % 2 : Nat)), high := high
      low := if jam then 0 else low, jammed := (y.jammed || jam) && !clear }
    if jam then s1.raise Ev.GNSS_JAMMED b ind else if clear then s1.raise Ev.GNSS_JAM_CLEAR b else s1

def execJamIndicatorUpdate (b : Fin 2) (corr : Int) (s : State) : Answer State := .next (s.jamUpdate b corr)

/-! ### Channels (R318, R321, R322) -/

/-- The group of a signal of a satellite in the order of R318. -/
def State.chanGroup (s : State) (sig sv : Nat) : Nat :=
  let sys := (sigOf sig).sys
  if s.gnss.used.contains (sys, sv) then 1
  else if sys = 6 then 4
  else if s.primarySig sys = some sig then 2
  else 3

/-- The first channel that is neither in use nor retired (R16, R318). -/
def State.freeChan (s : State) : Option Nat :=
  (List.range 192).find? fun n => !(s.gnss.chans.any fun c => c.num == n)
    && !(s.flt.retired.any fun r => r.region == 9 && r.block == 2 && r.cell == n)

/-- The signal that waits first: lowest group, then highest elevation (R318). -/
def State.nextWaiting (s : State) : Option WaitSig :=
  s.gnss.waiting.foldl (fun (m : Option WaitSig) (w : WaitSig) => match m with
    | none => some w
    | some v =>
      let a := s.chanGroup w.sig w.sv
      let b := s.chanGroup v.sig v.sv
      if a < b ∨ (a = b ∧ v.elev < w.elev) then some w else some v) none

/-- The channel that a signal of a group takes when none is free: lowest group below it, lowest elevation (R318). -/
def State.lowestChan (s : State) (group : Nat) : Option Channel :=
  (s.gnss.chans.filter fun c => decide (group < s.chanGroup c.sig c.sv)).foldl
    (fun (m : Option Channel) (c : Channel) => match m with
      | none => some c
      | some v =>
        let a := s.chanGroup c.sig c.sv
        let b := s.chanGroup v.sig v.sv
        if b < a ∨ (a = b ∧ c.elev < v.elev) then some c else some v) none

/-- How long a coherent interval of a signal is, in ms (R320): on a data-only signal 1 ms, and one data bit at the most once bit
synchronisation is reached; on a pilot up to GN_COH_MS, in whole secondary-code periods once the secondary code is synchronised.
`period` is the data bit or the secondary-code period in ms once synchronised. -/
def State.cohMs (s : State) (sig : Nat) (period : Option Nat) : Nat :=
  let m := s.cfgN Obj.GN_COH_MS
  match (sigOf sig).pilot, period with
  | false, none => 1
  | false, some p => max 1 (min m p)
  | true, none => m
  | true, some p => if 0 < p ∧ p ≤ m then m / p * p else m

/-- Start tracking in a channel; the satellite's other enabled signals are to be taken by HANDOVER (R314, R318). -/
def State.startChan (s : State) (n : Nat) (w : WaitSig) : State :=
  let c : Channel := ⟨n, w.sig, w.sv, w.elev, s.mono, false, true, false, false, s.cfgN Obj.GN_SPACING w.sig, none, none,
    s.cohMs w.sig none, s.mono, false⟩
  let others := s.sigsOn.filter fun i => i != w.sig && (sigOf i).sys == (sigOf w.sig).sys
    && !(s.gnss.chans.any fun c => c.sig == i && c.sv == w.sv) && !(s.gnss.waiting.any fun x => x.sig == i && x.sv == w.sv)
  s.modGnss fun g => { g with
    chans := c :: g.chans.filter (fun c => c.num != n)
    jobs := g.jobs.filter fun j => !(j.sv == w.sv && (sigOf j.sig).sys == (sigOf w.sig).sys)
    waiting := g.waiting.filter (fun x => !(x.sig == w.sig && x.sv == w.sv)) ++ others.map fun i => ⟨i, w.sv, w.elev⟩ }

/-- Assign channels to the signals that wait (R318). -/
def State.assignChans : Nat → State → State
  | 0, s => s
  | k + 1, s =>
    match s.nextWaiting with
    | none => s
    | some w =>
      match s.freeChan with
      | some n => State.assignChans k (s.startChan n w)
      | none => match s.lowestChan (s.chanGroup w.sig w.sv) with
        | some c =>
          let s1 := s.startChan c.num w
          State.assignChans k (s1.modGnss fun g => { g with waiting := g.waiting ++ [⟨c.sig, c.sv, c.elev⟩] })
        | none => s

/-- Assignment goes on until no signal can be placed. -/
def State.assign (s : State) : State := s.assignChans 4096

/-- The smallest power of two not below a number. -/
def pow2At (x : Nat) : Nat := if x ≤ 1 then 1 else 2 ^ (Nat.log2 (x - 1) + 1)

/-- Coherent time Tc of Table GN-4 in ms. -/
def acqTc (sig : Nat) : Nat := if (sigOf sig).chips = 10230 then 1 else 4

/-- Points of a pass: the smallest power of two not below Fa × Tc (R313). -/
def acqPoints (sig : Nat) : Nat := pow2At ((sigOf sig).fa * acqTc sig)

/-- t_pass of n points in 0.5 ns: n × log₂(n) / 32 cycles of 2 ns (R313). -/
def tPass (n : Nat) : HalfNs := n * Nat.log2 n / 8

/-- Half the Doppler window of a mode in Hz at 1575.42 MHz, and its non-coherent sums (Table GN-4). -/
def AcqMode.window : AcqMode → Nat × Nat
  | .cold => (6000, 30)
  | .warm => (1000, 30)
  | .hot => (250, 20)

/-- Doppler bins of a job: spacing 1 / (2 Tc), the window scaled with the carrier (R313, R314; log entry 111). -/
def AcqJob.bins (j : AcqJob) : Nat :=
  let scaledHz := j.mode.window.1 * (sigOf j.sig).carrier
  2 * ((scaledHz * 2 * acqTc j.sig + 1575419999) / 1575420000) + 1

/-- Half the code window of a HOT job in chips, none for the whole period (Table GN-4): u_t × chip rate + 10 chips. -/
def State.acqWindow (s : State) (j : AcqJob) : Option Nat :=
  let g := sigOf j.sig
  match j.mode, s.timeUnc with
  | .hot, some u =>
    let w := u * g.chips / (1000 * usHalfNs) + 10
    if g.codeMs * g.chips ≤ 2 * w then none else some w
  | _, _ => none

/-- Nimbus time of a job: its bins and sums, and the repeat of one bin that verifies a detection (R313, R317). -/
def AcqJob.time (j : AcqJob) (detected : Bool) : HalfNs :=
  (j.bins + (if detected then 1 else 0)) * j.mode.window.2 * tPass (acqPoints j.sig)

/-- ACQ_JOB_DONE: a job in Nimbus, or a REACQ in the fabric, ends. `power` is the strongest cell of the job's windows above the noise
floor of its median cell in 0.1 dB, `again` that of the repeat. A cell at GN_ACQ_THRESH or more is detected, and verified where the
repeat detects it too; a verified detection goes to a channel, one that fails its verification leaves the satellite in the search set
(R317, R318, R321). Nimbus serves one job at a time, so that a job ends its own Nimbus time after it was made and after the last one
ended at the earliest. Whether the next acquisition cycle searches a satellite again that was not detected is a free value (log entry 1). -/
def State.acqDone (s : State) (sig sv power again : Nat) (elev : Int) : State :=
  let detected := decide (s.cfgN Obj.GN_ACQ_THRESH ≤ power)
  let verified := decide (s.cfgN Obj.GN_ACQ_THRESH ≤ again)
  if !s.gnssOn || !s.bandRuns (sigOf sig).band then s
  else
    let mine := fun (j : AcqJob) => j.sig == sig && j.sv == sv
    let back := fun (r : Nat × Nat × HalfNs) => r.1 == sig && r.2.1 == sv
    let take := fun (s : State) =>
      (s.modGnss fun g => { g with waiting := g.waiting ++ [⟨sig, sv, elev⟩] }).assign
    if s.gnss.reacq.any back then
      if detected ∧ verified then take (s.modGnss fun g => { g with reacq := g.reacq.filter fun r => !back r }) else s
    else if s.gnss.jobs.any mine ∧ s.domOn 16 then
      let due := ((s.gnss.jobs.find? mine).map fun j => max j.madeAt s.gnss.lastJobEnd + j.time detected).getD 0
      let t := s.toMono due
      let s0 := t.modGnss fun g => { g with lastJobEnd := t.mono }
      let later := fun (s : State) => s.modGnss fun g => { g with
        jobs := g.jobs.filter (fun j => !mine j) ++ (g.jobs.filter mine).map fun j => { j with madeAt := s.mono } }
      if detected ∧ !verified then later s0
      else if detected then take (s0.modGnss fun g => { g with jobs := g.jobs.filter fun j => !mine j })
      else if s0.draw.1 % 2 = 0 then s0.drawn.modGnss fun g => { g with jobs := g.jobs.filter fun j => !mine j }
      else later s0.drawn
    else s

def execAcqJobDone (sig sv power again : Nat) (elev : Int) (s : State) : Answer State := .next (s.acqDone sig sv power again elev)

/-- NIMB_AUTO_OFF: 1 s after the last acquisition job ended SUP requests NIMB off (R316). -/
def State.nimbAutoOff (s : State) : State :=
  if s.cfgN Obj.GN_NIMB_AUTO = 1 ∧ s.gnss.jobs = [] ∧ s.cfgN Obj.SN_ENABLE = 0 ∧ s.domOn 16 = true then
    let s1 := s.toMono (s.gnss.lastJobEnd + secHalfNs)
    match s1.targetRefusal 16 0 with
    | some r => s1.countRefusal 16 r.2 r.1
    | none => s1.applyTarget 16 0
  else s

def execNimbAutoOff (s : State) : Answer State := .next s.nimbAutoOff

/-- A channel is released into REACQ (R321, R322). -/
def State.toReacq (s : State) (c : Channel) : State :=
  (s.modGnss fun g => { g with
    chans := g.chans.filter fun x => x.num != c.num
    reacq := g.reacq ++ [(c.sig, c.sv, s.mono)] }).assign

def State.chanOf (s : State) (n : Nat) : Option Channel := s.gnss.chans.find? fun c => c.num == n

def State.putChan (s : State) (c : Channel) : State :=
  s.modGnss fun g => { g with chans := g.chans.map fun x => if x.num = c.num then c else x }

/-- CHANNEL_RELEASE: code lock lost for 2 s (R321). -/
def State.chanRelease (s : State) (n : Nat) : State :=
  match s.chanOf n with
  | none => s
  | some c => match c.lostAt with
    | none => s
    | some t => (s.toMono (t + 2 * secHalfNs)).toReacq c

def execChannelRelease (n : Nat) (s : State) : Answer State := .next (s.chanRelease n)

/-- The acquisition mode of a satellite when its REACQ has failed (Table GN-4). -/
def State.acqMode (s : State) (sig sv : Nat) : AcqMode :=
  if s.gnss.ephs.any (fun e => e.sys == (sigOf sig).sys && e.sv == sv && ephCurrent s.gpsNow e) then .hot
  else if s.aon.hot.almAt.isSome then .warm else .cold

/-- REACQ_EXPIRY: after 10 s the signal goes to the acquisition mode of its satellite, HANDOVER while another signal of it is
tracked (R314, R321). -/
def State.reacqExpiry (s : State) (sig sv : Nat) : State :=
  match s.gnss.reacq.find? fun r => r.1 == sig && r.2.1 == sv with
  | none => s
  | some (_, _, t) =>
    let s1 := (s.toMono (t + 10 * secHalfNs)).modGnss fun g => { g with
      reacq := g.reacq.filter fun r => !(r.1 == sig && r.2.1 == sv) }
    match s1.gnss.chans.find? fun c => c.sv == sv && (sigOf c.sig).sys == (sigOf sig).sys with
    | some c => (s1.modGnss fun g => { g with waiting := g.waiting ++ [⟨sig, sv, c.elev⟩] }).assign
    | none =>
      let p := (s1.primarySig (sigOf sig).sys).getD sig
      if s1.gnss.jobs.any fun j => j.sig == p && j.sv == sv then s1
      else (s1.modGnss fun g => { g with jobs := g.jobs ++ [⟨p, sv, s1.acqMode p sv, s1.mono⟩] }).nimbRequest

def execReacqExpiry (sig sv : Nat) (s : State) : Answer State := .next (s.reacqExpiry sig sv)

/-- LOOP_OPEN_TIMEOUT: loops open for longer than 100 ms (R322). -/
def State.loopOpen (s : State) (n : Nat) : State :=
  match s.chanOf n with
  | none => s
  | some c => match c.openAt with
    | none => s
    | some t => (s.toMono (t + 100 * msHalfNs + 1)).toReacq c

def execLoopOpenTimeout (n : Nat) (s : State) : Answer State := .next (s.loopOpen n)

/-- NAV0 or, in its place, NAV1 works (R21, R322). -/
def State.navServes (s : State) : Bool := (vgetD (s.eng.map (·.st)) 5 0) == 1 || (vgetD (s.eng.map (·.st)) 6 0) == 1

/-- COHERENT_INTERVAL_END: C/N0 over 1 s in 0.1 dB-Hz, phase lock indicator over 200 ms in 0.001, half cycle resolved, and the period
in ms of the data bit or secondary code where that is synchronised. The interval ends its length after it began; the loops are closed,
lock is judged, the phase loop follows after 500 ms of the frequency loop, a new spacing and interval length take effect (R319 to R321). -/
def State.coherentEnd (s : State) (n cn0 : Nat) (pli : Int) (half : Bool) (period : Option Nat) : State :=
  match s.chanOf n with
  | none => s
  | some c =>
    if !s.navServes || !s.bandRuns (sigOf c.sig).band then s
    else
      let s := s.toMono (c.cohAt + c.coh * msHalfNs)
      let code := decide (s.cfgN Obj.GN_TRACK_DROP ≤ cn0)
      let lock := decide (800 ≤ pli)
      let lost := c.phaseLock && !lock
      let since := if lost then s.mono else c.since
      s.putChan { c with
        codeLock := code, lostAt := if code then none else some (c.lostAt.getD s.mono)
        phaseLock := lock, half := c.half || half, since := since
        phaseLoop := !lost && (c.phaseLoop || decide (since + 500 * msHalfNs ≤ s.mono))
        spacing := s.cfgN Obj.GN_SPACING c.sig, openAt := none, coh := s.cohMs c.sig period, cohAt := s.mono, sync := period.isSome }

def execCoherentIntervalEnd (n cn0 : Nat) (pli : Int) (half : Bool) (period : Option Nat) (s : State) : Answer State :=
  .next (s.coherentEnd n cn0 pli half period)

/-! ### Ephemerides (R323 to R325) -/

/-- A bank of hot-start data is written and sealed (R339, R425). -/
def State.saveHot (s : State) (i : Fin 4) (f : HotStart → HotStart) : State :=
  (s.modAon fun a => { a with hot := f a.hot }).sealBank i

/-- The current ephemerides of up to 96 satellites go to banks 1 and 2 (R339, Table AO-3). -/
def State.saveEphs (s : State) : State :=
  let kept := s.gnss.ephs.filter (ephCurrent s.gpsNow)
  (s.saveHot 1 fun h => { h with ephs := kept.take 48 }).saveHot 2 fun h => { h with ephs2 := (kept.drop 48).take 48 }

/-- The new ephemeris enters a new set, and Paddock (R325, R339). -/
def State.ephAccept (s : State) (e : Eph) : State :=
  let s1 := s.modGnss fun g => { g with
    ephs := (g.ephs.filter fun x => !(x.sys == e.sys && x.sv == e.sv)) ++ [e], setNo := (g.setNo + 1) % 65536
    ephOnce := g.ephOnce.filter fun x => !(x.sys == e.sys && x.sv == e.sv) }
  s1.saveEphs

/-- EPHEMERIS_DECODED: the four checks of R324 in order, checks that cannot be made skipped; without checks 3 and 4 two decodes
with identical content are needed. -/
def State.ephDecoded (s : State) (a : EphArg) : State :=
  if !s.gnssOn || !s.navServes then s
  else
    let e : Eph := ⟨a.sys, a.sv, a.toe, a.iod, a.healthy, a.content⟩
    let reject := (s.raise Ev.EPH_REJECTED 0xFF a.code a.sv).count Obj.GN_EPH_REJECTED
    let old := s.gnss.ephs.any fun x => x.sys == a.sys && x.sv == a.sv && ephCurrent s.gpsNow x
    let has3 := old || a.distAlm.isSome
    let ok3 := if old then decide (a.distEph ≤ 5000) else match a.distAlm with | some d => decide (d ≤ 50000) | none => true
    let has4 := decide (1 ≤ s.gnss.spare - (if s.gnss.used.contains (a.sys, a.sv) then 1 else 0))
    let ok4 := !has4 || decide (a.resid ≤ s.cfgN Obj.GN_EPH_RESID)
    if !a.parityOk || !a.iodOk || !ok3 || !ok4 then reject
    else if has3 || has4 || s.gnss.ephOnce.contains e then s.ephAccept e
    else s.modGnss fun g => { g with
      ephOnce := (g.ephOnce.filter fun x => !(x.sys == a.sys && x.sv == a.sv)) ++ [e] }

def execEphemerisDecoded (a : EphArg) (s : State) : Answer State := .next (s.ephDecoded a)

/-! ### Solutions and integrity (R327 to R333) -/

/-- What becomes of the satellites at an epoch: those used, unknowns, excluded ones, RAIM (0 neither, 1 OK, 2 FAIL), and per
system offset (Galileo to NavIC) its source. -/
structure Solution where
  sats : List (Nat × Nat)
  unknowns : Nat
  excluded : List (Nat × Nat)
  raim : Nat
  src : List Nat
deriving DecidableEq, Repr

/-- Satellites of one system in a list. -/
def sysCount (sats : List (Nat × Nat)) (sys : Nat) : Nat := (sats.filter fun p => p.1 == sys).length

/-- Where each system offset comes from (R327, R328): estimated, broadcast or none. Without a GPS satellite the first system with
a current broadcast offset is the one through which GPST is reached, so that its offset is not estimated. -/
def State.offsetSources (s : State) (sats : List (Nat × Nat)) (bcast : List Bool) : List Nat :=
  let b := fun (k : Nat) => (bcast[k]?).getD false
  let anchor := if 0 < sysCount sats 0 then none
    else (List.range 5).find? fun k => b k && decide (0 < sysCount sats (k + 1))
  (List.range 5).map fun k =>
    let n := sysCount sats (k + 1)
    if n = 0 then 0
    else if sysCount sats 0 = 0 ∧ anchor.isNone then 0
    else if anchor = some k then 1
    else if s.cfgN Obj.GN_ISB_MIN ≤ n then 2
    else if b k then 1 else 0

/-- The satellites that a solution can use, and its unknowns, under offset sources (R327, R329). -/
def usable (sats : List (Nat × Nat)) (src : List Nat) (base : Nat) : List (Nat × Nat) × Nat :=
  (sats.filter fun p => p.1 == 0 || (src[p.1 - 1]?).getD 0 != 0, base + (src.filter (· == 2)).length)

/-- Repeat the test of R330, with at most three exclusions. -/
def State.raim (s : State) (base : Nat) (bcast : List Bool) : Nat → List (Bool × Nat × Nat) → List (Nat × Nat) →
    List (Nat × Nat) → Solution
  | fuel, tests, sats, out =>
    let src := s.offsetSources sats bcast
    let (u, k) := usable sats src base
    if u.length < k + 1 then ⟨u, k, out, 0, src⟩
    else match fuel, tests with
      | _, [] => ⟨u, k, out, 0, src⟩
      | _, (true, _, _) :: _ => ⟨u, k, out, 1, src⟩
      | 0, _ => ⟨u, k, out, 2, src⟩
      | f + 1, (false, sy, sv) :: ts =>
        if k + 2 ≤ u.length ∧ (sy, sv) ∈ u then
          State.raim s base bcast f ts (sats.filter fun p => p != (sy, sv)) (out ++ [(sy, sv)])
        else ⟨u, k, out, 2, src⟩

/-- The satellites above the mask with a current ephemeris among those measured (R329); SBAS is not used for ranging. -/
def State.epochSats (s : State) (es : List GnEntry) : List (Nat × Nat) :=
  let sats := es.filterMap fun e => match s.chanOf e.channel with
    | some c =>
      let sys := (sigOf c.sig).sys
      if (s.cfgN Obj.GN_ELEV_MASK : Int) < e.elev ∧
          s.gnss.ephs.any (fun x => x.sys == sys && x.sv == c.sv && ephCurrent s.gpsNow x) then some (sys, c.sv) else none
    | none => none
  sats.eraseDups

/-- Position is solved for: navigation mode, or a survey that runs (R329, R332). -/
def State.solvesPosition (s : State) : Bool :=
  s.cfgN Obj.GN_TIMING_MODE == 0 || (s.cfgN Obj.GN_TIMING_MODE == 2 && s.gnss.survey != 2)

def posOf (xs : List Nat) (acc : Nat) : Pos := ⟨(xs[0]?).getD 0, (xs[1]?).getD 0, (xs[2]?).getD 0, acc⟩

/-- The fixed-point coordinates of a position, in 2⁻¹⁰⁷⁴ m. -/
def posFix (xs : List Nat) : List Int := (List.range 3).map fun i => f64Fix ((xs[i]?).getD 0)

/-- The mean of `n` positions from the sums of their coordinates. -/
def meanOf (sums : List Int) (n : Nat) : List Nat := sums.map fun x => f64Of x (n * 2 ^ 1074)

/-- A survey begins: nothing accumulated. -/
def State.surveyStart (s : State) : State :=
  s.modGnss fun g => { g with survey := 1, surveyAt := s.mono, surveyS := 0, surveyN := 0, surveySum := [0, 0, 0] }

/-- A solution enters the survey's mean (R332); the standard error of the mean is what NAV0 computes. -/
def State.surveyTake (s : State) (a : GnSolve) : State :=
  let sums := List.zipWith (· + ·) s.gnss.surveySum (posFix a.pos)
  let n := s.gnss.surveyN + 1
  s.modGnss fun g => { g with surveyN := n, surveySum := sums, surveyMean := posOf (meanOf sums n) a.sigma }

/-- The survey takes a solution in, and completes (R332). -/
def State.surveyStep (s : State) (a : GnSolve) (fix : Bool) (ok : Bool) : State :=
  if s.cfgN Obj.GN_TIMING_MODE ≠ 2 ∨ s.gnss.survey = 2 then s
  else
    let s1 := if s.gnss.survey = 0 then s.surveyStart else s
    let sec := min ((s.mono - s1.gnss.surveyAt) / secHalfNs) 0xFFFFFFFF
    let s2 := (if fix && ok then s1.surveyTake a else s1).modGnss fun g => { g with surveyS := sec }
    if fix && ok && decide (s.cfgN Obj.GN_SURVEY_MIN ≤ sec) && decide (a.sigmaCm ≤ s.cfgN Obj.GN_SURVEY_ACC) then
      ((s2.modGnss fun g => { g with survey := 2, mismatch := false }).raise Ev.SURVEY_DONE).saveHot 2 fun h =>
        { h with refSource := 2, ref := s2.gnss.surveyMean, pos3d := true }
    else s2

/-- The residual test of the held position (R333): the rms over the last 60 s, compared by its square in mm². -/
def State.mismatchStep (s : State) (sq n : Nat) : State :=
  let s := s.modGnss fun g => { g with
    resids := (s.mono, sq, n) :: g.resids.filter fun (r : HalfNs × Nat × Nat) => decide (s.mono < r.1 + 60 * secHalfNs) }
  let sum := (s.gnss.resids.map (·.2.1)).sum
  let lim := (s.cfgN Obj.GN_FIXED_RESID * 1000) ^ 2 * (s.gnss.resids.map (·.2.2)).sum
  let above := decide (lim < sum)
  match s.cfgN Obj.GN_TIMING_MODE with
  | 1 =>
    if above ∧ !s.gnss.mismatch then
      (s.modGnss fun g => { g with mismatch := true, fixedWritten := false }).raise Ev.GNSS_POS_MISMATCH
    else if sum < lim ∧ s.gnss.mismatch ∧ s.gnss.fixedWritten then
      s.modGnss fun g => { g with mismatch := false, fixedWritten := false }
    else s
  | 2 =>
    if above ∧ s.gnss.survey = 2 then
      ((s.modGnss fun g => { g with mismatch := true }).surveyStart).raise Ev.GNSS_POS_MISMATCH
    else s
  | _ => s

/-- The mean of the last 600 solutions with RAIM_OK in mode 0 (R334). -/
def State.meanStep (s : State) (a : GnSolve) (ok : Bool) : State :=
  if s.cfgN Obj.GN_TIMING_MODE = 0 ∧ ok then
    let ps := (a.pos :: s.gnss.okPos).take 600
    let s1 := s.modGnss fun g => { g with okPos := ps }
    if ps.length = 600 then
      let m := posOf (meanOf ((ps.map posFix).foldl (List.zipWith (· + ·)) [0, 0, 0]) 600) a.sigma
      (s1.modGnss fun g => { g with okCount := 600, okMean := m }).saveHot 2 fun h => { h with refSource := 3, ref := m, pos3d := true }
    else s1
  else s

/-- The time solution is offered to Bellwether (R328, R331). -/
def State.offerTime (s : State) (a : GnSolve) (traceable : Bool) (tAcc : Nat) : State :=
  let g : Int := (s.time.base[0].now : Int) - roundFree a.clkBias 5 s.draw.1
  let d := s.draw.1 / 2
  let s1 := s.drawn.modSrc 0 fun x => { x with
    sample := g, sampleAt := s.mono, sampleErr := roundNat tAcc 5 d, present := true, traceable := traceable
    goodAt := if x.present && x.traceable && s.gnssFresh then x.goodAt else s.mono }
  if s1.time.leap = a.leap then s1 else (s1.modTime fun t => { t with leap := a.leap }).forceSync

/-! ### Records (R336 to R338) -/

/-- A pseudorange at the antenna phase centre as an F64 in m: less GN_RF_DELAY and GN_ANT_CABLE_DELAY of the band, in light metres
(R302, Table GN-6). -/
def State.rangeOf (s : State) (b : Fin 2) (range : Nat) : Nat :=
  f64Of ((range : Int) - ((s.gnss.band[b].delay + s.cfgN Obj.GN_ANT_CABLE_DELAY b) * 299792458 : Nat)) (10 ^ 10)

/-- TIME_RESID of an entry: 0 in mode 0; for GLONASS less the receiver's bias for its frequency number (R328, Table GN-6). -/
def State.residOf (s : State) (sig : Nat) (e : GnEntry) : Int :=
  if s.cfgN Obj.GN_TIMING_MODE = 0 then 0
  else if (sigOf sig).sys = 3 then e.resid - vgetD s.fw.otp.gloBias (e.gloK + 7).toNat 0
  else e.resid

/-- One entry of a measurement epoch (Table GN-6). -/
def State.epochEntry (s : State) (sol : Solution) (es : List GnEntry) (e : GnEntry) (c : Channel) : Bytes :=
  let g := sigOf c.sig
  let sat := (g.sys, c.sv)
  let eph := s.gnss.ephs.find? fun x => x.sys == g.sys && x.sv == c.sv && ephCurrent s.gpsNow x
  let bands := es.filterMap fun y => match s.chanOf y.channel with
    | some d => if (sigOf d.sig).sys = g.sys ∧ d.sv = c.sv then some (sigOf d.sig).band else none
    | none => none
  let bit := fun (b : Bool) (n : Nat) => if b then 2 ^ n else 0
  let flags := bit c.codeLock 0 + bit c.phaseLock 1 + bit c.half 2 + bit e.slip 3 + bit (sol.sats.contains sat) 4
    + bit (sol.excluded.contains sat) 5 + bit (s.notched c.sig e.gloK) 6 + bit g.pilot 7 + bit eph.isSome 8
    + bit (bands.contains 0 && bands.contains 1) 9
  let resid := s.residOf c.sig e
  natLe 1 g.code ++ natLe 1 c.sv ++ natLe 1 c.num ++ intLe 1 (if g.sys = 3 then e.gloK else 0) ++ natLe 8 (s.rangeOf g.band e.range)
    ++ natLe 8 e.phase ++ natLe 4 e.doppler ++ natLe 2 e.cn0 ++ natLe 2 (min 65535 e.lockTime) ++ natLe 2 flags
    ++ intLe 1 e.elev ++ natLe 1 0 ++ natLe 2 e.azim ++ natLe 1 c.spacing ++ natLe 1 0 ++ intLe 4 resid
    ++ natLe 2 ((eph.map (·.iod)).getD 0) ++ natLe 6 0

/-- A measurement epoch (Table GN-6). -/
def State.epochBytes (s : State) (a : GnSolve) (sol : Solution) (valid : Bool) : Bytes :=
  let rows := a.entries.filterMap fun e => (s.chanOf e.channel).map fun c => s.epochEntry sol a.entries e c
  let bit := fun (b : Bool) (n : Nat) => if b then 2 ^ n else 0
  let flags := bit valid 0 + bit s.gnss.band[0].jammed 1 + bit s.gnss.band[1].jammed 2
    + bit (s.gnss.band[0].suspended || s.gnss.band[1].suspended) 3
  natLe 12 (ts96 s.time.base[0].now) ++ intLe 4 a.clkBias ++ intLe 4 a.clkDrift ++ natLe 2 s.gnss.seq
    ++ natLe 1 (min 192 rows.length) ++ natLe 1 flags ++ natLe 1 s.gnss.band[0].jamInd ++ natLe 1 s.gnss.band[1].jamInd
    ++ natLe 6 0 ++ (rows.take 192).flatten

/-- A navigation record (Table GN-7); `dual` are the satellites used on both bands. SBAS is applied where its messages are current and
a GPS satellite is in single-frequency use (R326). -/
def State.navBytes (s : State) (a : GnSolve) (sol : Solution) (fix : Nat) (traceable : Bool) (tAcc : Nat)
    (dual : List (Nat × Nat)) : Bytes :=
  let bit := fun (b : Bool) (n : Nat) => if b then 2 ^ n else 0
  let jam := s.gnss.band[0].jammed || s.gnss.band[1].jammed
  let sbas := a.sbas && s.cfgN Obj.GN_SBAS_APPLY == 1 && sol.sats.any fun p => p.1 == 0 && !dual.contains p
  let flags := bit (!dual.isEmpty) 0 + bit (sol.raim == 1) 1 + bit (sol.raim == 2) 2 + bit sbas 3
    + bit jam 4 + bit s.gnss.mismatch 5 + bit traceable 6 + bit a.leapPending 7
  let d := s.draw.1
  let time := ((s.time.base[0].now : Int) - roundFree a.clkBias 5 d).toNat
  let three := fun (xs : List Nat) (w : Nat) => (List.range 3).flatMap fun i => natLe w ((xs[i]?).getD 0)
  natLe 12 (ts96 time) ++ natLe 1 fix ++ natLe 1 flags ++ natLe 1 sol.sats.length ++ natLe 1 sol.excluded.length
    ++ three a.pos 8 ++ three a.vel 4 ++ intLe 4 a.clkBias ++ intLe 4 a.clkDrift ++ natLe 2 (min 65535 a.hAcc)
    ++ natLe 2 (min 65535 a.vAcc) ++ natLe 2 (min 65535 tAcc) ++ natLe 2 (min 65535 a.pdop) ++ intLe 1 a.leap
    ++ (List.range 7).flatMap (fun k => natLe 1 (sysCount sol.sats k))
    ++ (List.range 5).flatMap (fun k => intLe 4 (if (sol.src[k]?).getD 0 = 0 then 0 else (a.offs[k]?).getD 0))

/-- The next instant at which TB_GNSS is a whole multiple of 1 / GN_MEAS_RATE s, after the last epoch (R336). -/
def State.toEpoch (s : State) : State :=
  let p := secHalfNs / max 1 (s.cfgN Obj.GN_MEAS_RATE)
  let g := s.time.base[0].now
  let n := (g + p - 1) / p * p
  s.advance ((if s.gnss.epochAt = some n then n + p else n) - g)

/-- The satellites of a solution that are measured on both bands (R326). -/
def State.dualSats (s : State) (sol : Solution) (es : List GnEntry) : List (Nat × Nat) :=
  let on := fun (b : Fin 2) (p : Nat × Nat) => es.any fun e => match s.chanOf e.channel with
    | some c => (sigOf c.sig).band == b && (sigOf c.sig).sys == p.1 && c.sv == p.2
    | none => false
  sol.sats.filter fun p => on 0 p && on 1 p

/-- What an epoch adds to the hot-start data of bank 2: the GLONASS frequency numbers, and the oscillator's frequency error at the die
temperature; the bank is written when one of them changes (R339). -/
def State.hotLearn (s : State) (a : GnSolve) (fix : Nat) : State :=
  let glo := a.entries.foldl (fun (m : List (Nat × Int)) (e : GnEntry) => match s.chanOf e.channel with
    | some c => if (sigOf c.sig).sys = 3 then insertKey c.sv e.gloK m else m
    | none => m) s.aon.hot.glo
  let k := s.rf.dieTemp
  let model := if fix = 0 then s.aon.hot.model else (k, a.clkDrift) :: s.aon.hot.model.filter fun p => p.1 != k
  if glo = s.aon.hot.glo ∧ model = s.aon.hot.model then s else s.saveHot 2 fun h => { h with glo := glo, model := model }

/-- T_ACC of a solution: with the broadcast offset's uncertainty where no GPS satellite is used (R328), and ±3.0 ns at the least while the
group delay of a band that works is a factory value (R301). -/
def State.timeAcc (s : State) (a : GnSolve) (sol : Solution) : Nat :=
  let t := a.tAcc + (if sysCount sol.sats 0 = 0 then a.bcastUnc else 0)
  if (List.finRange 2).any fun b => s.bandRuns b && s.gnss.band[b].cal[3] == 2 then max t 30 else t

/-- The solution of an epoch: FIX_TYPE (R329, R332). -/
def State.fixType (s : State) (sol : Solution) : Nat :=
  if sol.sats.length < sol.unknowns ∨ sol.sats = [] then 0
  else match s.cfgN Obj.GN_TIMING_MODE with
    | 0 => 1
    | 1 => 2
    | _ => if s.gnss.survey = 2 then 2 else 3

/-- An epoch that is produced (R329 to R338). -/
def State.epochMade (s : State) (a : GnSolve) : State :=
  let sol := s.raim (if s.solvesPosition then 4 else 1) a.bcast 3 a.tests (s.epochSats a.entries) []
  let fix := s.fixType sol
  let ok := sol.raim == 1
  let s1 := sol.excluded.foldl (fun (s : State) (p : Nat × Nat) =>
    (s.raise Ev.GNSS_RAIM_EXCLUDE 0xFF (((sigTable.find? fun g => g.sys == p.1).map (·.code)).getD 0) p.2).count
      Obj.GN_RAIM_EXCLUSIONS) s
  let s2 := s1.modGnss fun g => { g with
    used := if fix = 0 then [] else sol.sats, spare := if fix = 0 then 0 else sol.sats.length - sol.unknowns
    sysOff := Vector.ofFn fun (k : Fin 5) =>
      let c := (sol.src[k.val]?).getD 0
      (if c = 0 then 0 else (a.offs[k.val]?).getD 0, c)
    ttff := if fix = 0 then g.ttff else some (g.ttff.getD (min ((s.mono - g.startAt) / msHalfNs) 0xFFFFFFFF)) }
  let s3 := s2.surveyStep a (fix == 3) ok
  let s4 := if fix = 2 then s3.mismatchStep a.residSq sol.sats.length else s3
  let s5 := (s4.meanStep a (ok && fix == 1)).hotLearn a fix
  let jam := s5.gnss.band[0].jammed || s5.gnss.band[1].jammed
  let traceable := fix != 0 && ok && !jam && !s5.gnss.mismatch
  let tAcc := s5.timeAcc a sol
  let s6 := if fix = 0 then s5.modSrc 0 fun x => { x with present := false, traceable := false }
    else s5.offerTime a traceable tAcc
  let dual := s6.dualSats sol a.entries
  let resids := a.entries.filterMap fun e => match s6.chanOf e.channel with
    | some c => some (16 * c.sv + (sigOf c.sig).code / 16, s6.residOf c.sig e)
    | none => none
  let now := ts96 s6.time.base[0].now
  let s7 := s6.modTime fun t => { t with
    epochs := (now, resids) :: t.epochs.filter (fun (p : Nat × List (Nat × Int)) => decide (t.base[0].now ≤ ts96Half p.1 + 16 * secHalfNs)) }
  if s7.cfgN Obj.GN_MEAS_ENABLE = 0 then s7
  else
    let m := s7.epochBytes a sol (fix != 0)
    let n := s7.navBytes a sol fix traceable tAcc dual
    let s8 := s7.drawn.modGnss fun g => { g with measLast := m, navLast := n }
    (s8.postRing 5 (.epoch m)).postRing 5 (.nav n)

/-- MEASUREMENT_EPOCH (R322, R329, R336): in the gap of a NAV0 restart only the sequence number counts. -/
def State.epoch (s : State) (a : GnSolve) : State :=
  if !s.gnssOn then s
  else
    let s1 := s.toEpoch
    let gap := !s1.navServes || (vgetD (s1.eng.map (·.st)) 5 0 != 1 && s1.gnss.chans.any fun c => c.openAt.isSome)
    let s2 := if gap then s1 else s1.epochMade a
    s2.modGnss fun g => { g with seq := (g.seq + 1) % 65536, epochAt := some s1.time.base[0].now }

def execMeasurementEpoch (a : GnSolve) (s : State) : Answer State := .next (s.epoch a)

/-- HOTSTART_SAVE: the save time, and what has changed, go to Paddock (R339). Whether almanacs, ionosphere and UTC parameters were
decoded since, and their content, are free values (log entry 1). -/
def State.hotSave (s : State) : State :=
  if s.cfgN Obj.GN_ENABLE = 0 ∨ !s.domOn 15 then s
  else
    let new := s.draw.1 % 2 != 0
    let r := s.refPos
    let s1 := if new then s.drawn.saveHot 1 fun h => { h with alm := s.draw.1 / 2, almAt := some s.rtcTime } else s.drawn
    let s2 := s1.saveEphs.modAon fun a => { a with savedAt := s.rtcTime / secHalfNs }
    s2.drawn.saveHot 2 fun h => { h with refSource := r.1, ref := r.2, msgs := s2.draw.1 }

def execHotstartSave (s : State) : Answer State := .next s.hotSave

/-! ### Common view and the offset history (R348, R393) -/

/-- The entries of a peer's epoch: satellite key and TIME_RESID. -/
def peerEntries : Nat → Bytes → List (Nat × Int)
  | 0, _ => []
  | n + 1, bs =>
    let r : Int := leAt bs 36 4
    (16 * leAt bs 1 1 + leAt bs 0 1 / 16, if 2 ^ 31 ≤ r then r - 2 ^ 32 else r) :: peerEntries n (bs.drop 48)

/-- The floor of a square root, by bisection on bits. -/
def natSqrtBits : Nat → Nat → Nat → Nat
  | 0, _, r => r
  | k + 1, n, r => natSqrtBits k n (if (r + 2 ^ k) * (r + 2 ^ k) ≤ n then r + 2 ^ k else r)

/-- TM_CV_PEER (R393): the mean over the common satellites of own minus peer TIME_RESID, its standard error and their number.
What the spec does not say of rounding is a free value (log entry 1); with fewer than 4 satellites nothing is computed. -/
def State.cvPeer (s : State) (bs : Bytes) : State :=
  let epoch := leAt bs 0 12
  match s.time.epochs.find? fun p => p.1 == epoch with
  | none => s.modTime fun t => { t with cv := [1, 0, 0, 0] }
  | some (_, own) =>
    let peer := peerEntries (leAt bs 22 1) (bs.drop 32)
    let sats := (own.map (·.1)).eraseDups
    -- one residual per satellite: its first entry on each side
    let ds : List Int := sats.filterMap fun k => match own.find? (fun p => p.1 == k), peer.find? (fun p => p.1 == k) with
      | some a, some b => some (a.2 - b.2)
      | _, _ => none
    let n := ds.length
    if n < 4 then s.modTime fun t => { t with cv := [2, n, 0, 0] }
    else
      let sum := ds.sum
      let mean := roundFree sum n s.draw.1
      -- the square of the standard error, times n² (n − 1)
      let var := (ds.map fun d => ((d * n - sum) * (d * n - sum)).toNat).sum
      let sig := natSqrtBits 64 (var / (n * n * n * (n - 1))) 0 + s.draw.1 / 2 % 2
      s.drawn.modTime fun t => { t with cv := [0, n, mean, min sig 65535] }

/-- The content is a whole measurement epoch: its head and COUNT entries (Table GN-6). -/
def epochWhole (bs : Bytes) : Bool := decide (32 ≤ bs.length) && bs.length == 32 + 48 * leAt bs 22 1

/-- TM_CV_PEER holds what has been written, so that an epoch longer than one frame can be written at offsets (R55); it is taken as the peer's
once it is whole (R393; DESIGN CHOICE, log entry 122). -/
def State.cvPeerPut (s : State) (bs : Bytes) : State :=
  let s1 := s.cfgPut Obj.TM_CV_PEER (bs.map fun b => [(b.toNat : Int)])
  if epochWhole bs then s1.cvPeer bs else s1

/-- The peer epoch is an octet string of at most 9,248 octets with a header of 32 (Table GN-6). -/
def execTmCvPeer (bs : Bytes) (s : State) : Answer State :=
  .next (if 9248 < bs.length then s else (s.cvPeerPut bs).bumpRev Obj.TM_CV_PEER)

/-- OFFSET_HISTORY_ENTRY: each 100 ms TIME records TB_AIR against TB_GNSS; entries older than 3,660 s are dropped (R348). -/
def State.historyEntry (s : State) : State :=
  if !s.time.established ∨ s.isHeld 0xB then s
  else s.modTime fun t => { t with
    history := (s.air, (s.air : Int) - t.base[0].now, s.airTraceable) ::
      t.history.filter (fun (p : HalfNs × Int × Bool) => decide (s.air ≤ p.1 + 3660 * secHalfNs)) }

def execOffsetHistoryEntry (s : State) : Answer State := .next s.historyEntry

end Sys2Proof.Machine
end

