-- ==== Sys2Proof/Machine/Snapshot.lean ====
section
/-!
DEFINITION. Snapshot positioning (10_snapshot_positioning.md): intake of fragments, the checks of Table SN-3, the queue, Nimbus
jobs, solutions and result records. What correlation and least squares give are operands.
-/

namespace Sys2Proof.Machine

def State.modSnap (s : State) (f : SnapState → SnapState) : State := { s with snap := f s.snap }

/-! ### Result records (R359, Table SN-5) -/

/-- The octets of a result record. -/
structure SnRecord where
  capTime : HalfNs
  flock : Nat
  capId : Nat
  status : Nat
  fix : Nat
  flags : Nat
  searched : Nat
  detected : Nat
  used : Nat
  pos : List Nat
  hAcc : Nat
  vAcc : Nat
  pdop : Nat
  clkErr : Int
  freqResid : Int
  nimbus : Nat
  uc : Nat
  ephSet : Nat
deriving DecidableEq, Repr

/-- A record of a capture that ended with a status and no position. -/
def SnRecord.bare (flock capId status flags : Nat) : SnRecord :=
  ⟨0, flock, capId, status, 0, flags, 0, 0, 0, [], 0, 0, 0, 0, 0, 0, 0, 0⟩

/-- A signed 16-bit field holds what fits in it. -/
def clamp16 (x : Int) : Int := max (-32768) (min 32767 x)

def SnRecord.bytes (r : SnRecord) : Bytes :=
  natLe 12 (if r.capTime = 0 then 0 else ts96 r.capTime) ++ natLe 4 r.flock ++ natLe 1 r.capId ++ natLe 1 r.status
    ++ natLe 1 r.fix ++ natLe 1 r.flags ++ natLe 1 r.searched ++ natLe 1 r.detected ++ natLe 1 r.used ++ natLe 1 0
    ++ (List.range 3).flatMap (fun i => natLe 8 ((r.pos[i]?).getD 0)) ++ natLe 2 (min 65535 r.hAcc)
    ++ natLe 2 (min 65535 r.vAcc) ++ natLe 2 (min 65535 r.pdop) ++ intLe 2 (clamp16 r.clkErr)
    ++ intLe 2 (clamp16 r.freqResid) ++ natLe 2 (min 65535 r.nimbus) ++ natLe 2 (min 65535 r.uc) ++ natLe 2 r.ephSet

/-- A capture, or a lone fragment, ends: its status is counted and its record goes to the data ring (R353, R359). `detail` are
the entries of SN_DETAIL. -/
def State.snEnd (s : State) (r : SnRecord) (detail : Bytes) : State :=
  let s1 := s.count Obj.SN_COUNTS r.status
  let s2 := if r.status ≠ 0 then s1 else s1.modSnap fun x => { x with
    fixes := s.mono :: x.fixes.filter (fun (t : HalfNs) => decide (s.mono ≤ t + 10 * secHalfNs)) }
  s2.postRing 4 (.snResult r.flock r.status
    (r.bytes ++ if s.cfgN Obj.SN_DETAIL = 1 then detail else []))

/-- The sample bytes m that a fragment carries (R346). -/
def SnFrag.m (f : SnFrag) : Nat := f.samples.length

/-- Flags of a fragment: 4 ms capture, truncated (Table SN-5). -/
def fragFlags (f : SnFrag) : Nat := (if f.ctrl.testBit 5 then 8 else 0) + (if f.m < 1024 then 16 else 0)

/-- End a fragment with a status. -/
def State.fragEnd (s : State) (f : SnFrag) (status : Nat) : State :=
  s.snEnd (.bare f.flock f.capId status (fragFlags f)) []

/-- The flags of a job (Table SN-5). -/
def SnJob.flags (j : SnJob) : Nat := (if j.four then 8 else 0) + (if j.short then 16 else 0)

/-- The record of a job without a position. NIMBUS_US is t_job to the nearest µs, as Worked example SN-1 has it (log entry 112). -/
def SnJob.record (j : SnJob) (status : Nat) : SnRecord :=
  { SnRecord.bare j.flock j.capId status j.flags with
    capTime := j.capTime, searched := j.sats.length, detected := j.found.length
    nimbus := (j.jobHalf + 1000) / 2000, uc := j.uc, ephSet := j.ephSet }

/-- The detail entries of a job, without residuals (Table SN-5). -/
def SnJob.detail (j : SnJob) (resid : Nat × Nat → Int) (used out : List (Nat × Nat)) : Bytes :=
  (j.sats.zipIdx).flatMap fun p =>
    let d := j.found.contains p.1
    natLe 1 (sigOf p.1.1).code ++ natLe 1 p.1.2 ++ natLe 2 (min 65535 ((j.peaks[p.2]?).getD 0))
      ++ intLe 2 (if used.contains p.1 then clamp16 (resid p.1) else 0)
      ++ natLe 1 ((if d then 1 else 0) + (if used.contains p.1 then 2 else 0) + (if out.contains p.1 then 4 else 0)) ++ natLe 1 0

def State.jobEnd (s : State) (j : SnJob) (status : Nat) : State :=
  s.snEnd (j.record status) (j.detail (fun _ => 0) [] [])

/-! ### Time of a capture (R348, R349) -/

/-- TB_AIR's slew accumulator just before an instant. -/
def State.slewBefore (s : State) (t : Int) : Int :=
  match s.time.slews.find? fun p => decide ((p.1 : Int) < t) with
  | some p => p.2
  | none => ((s.time.slews.getLast?).map (·.2)).getD s.slewAcc

/-- T_cap on TB_AIR (R348): the slot number is the largest with these low 32 bits not later than the stamp's slot; none where
that would lie before the scale's zero. -/
def State.capAir (s : State) (f : SnFrag) : Option Int :=
  let n := s.absSlot f.stamp
  let back := (n + 2 ^ 32 - f.slot) % 2 ^ 32
  if n < back then none
  else
    let t : Int := ((n - back) * s.tSlot + f.offset * 1000 : Nat)
    some (t + wrap32 (s.slewBefore t - s.slewBefore (t - f.age * msHalfNs)))

/-- The offset history with the present moment as its newest entry. -/
def State.historyNow (s : State) : List (HalfNs × Int × Bool) :=
  (s.air, (s.air : Int) - s.time.base[0].now, s.airTraceable) :: s.time.history

/-- GPST of a TB_AIR time: linear interpolation between the two entries that enclose it (R348); rounding by a free value. -/
def State.airToGps (s : State) (t : Int) : Option Int :=
  let h := s.historyNow
  match h.find? fun p => decide ((p.1 : Int) ≤ t), (h.filter fun p => decide (t < p.1)).getLast? with
  | some a, some b =>
    some (t - a.2.1 - roundFree ((b.2.1 - a.2.1) * (t - a.1)) (b.1 - a.1) s.draw.1)
  | some a, none => if (a.1 : Int) = t then some (t - a.2.1) else none
  | none, _ => none

/-- TB_AIR was traceable at an instant: the entry at or before it says so. -/
def State.traceableAt (s : State) (t : Int) : Bool :=
  ((s.historyNow.find? fun p => decide ((p.1 : Int) ≤ t)).map (·.2.2)).getD false

/-- The accumulator changed by more than 10 µs within a superframe of a span (Table SN-3, 0x09). -/
def State.slewing (s : State) (a b : Int) : Bool :=
  let k0 := (a / (s.tSf : Int)).toNat
  let k1 := (b / (s.tSf : Int)).toNat
  (List.range (k1 - k0 + 1)).any fun i =>
    decide (20000 < (wrap32 (s.slewBefore (((k0 + i + 1) * s.tSf : Nat)) - s.slewBefore (((k0 + i) * s.tSf : Nat)))).natAbs)

/-! ### Intake (R344, R346, R353, R354) -/

/-- The header combinations of R344. -/
def headerOk (ctrl offset tSlot : Nat) : Bool :=
  ctrl % 8 == 1 && decide (offset * 1000 < tSlot)
    && (match ctrl.testBit 5, ctrl.testBit 4, ctrl.testBit 3 with
      | false, false, true => true
      | true, false, false => true
      | true, true, true => true
      | _, _, _ => false)

/-- Both fragments agree (R344). -/
def fragsAgree (a b : SnFrag) : Bool :=
  a.flock == b.flock && a.capId == b.capId && a.slot == b.slot && a.offset == b.offset && a.age == b.age

/-- The carrier offsets of two fragments differ by more than 181 Hz at L1 (R350). -/
def cfoSpread (a b : SnFrag) : Bool :=
  decide (100 * a.khz * b.khz < (a.cfo * b.khz - b.cfo * a.khz).natAbs * 868000)

/-- The search set (R351): satellites of the signals of SN_SIGNALS with an ephemeris current at the capture, at or above
SN_ELEV_MASK, by descending elevation, at most SN_MAX_SV; each with its signal index and its prediction. -/
def State.searchSet (s : State) (t : Nat) (sky : List SkySat) : List (Nat × SkySat) :=
  let up := sky.filter fun p => decide ((s.cfgN Obj.SN_ELEV_MASK : Int) ≤ p.elev)
    && s.gnss.ephs.any fun e => e.sys == p.sys && e.sv == p.sv && ephCurrent t e
  let sig := fun (sys : Nat) => (List.range 15).find? fun i => (s.cfgN Obj.SN_SIGNALS).testBit i && (sigOf i).sys == sys
  let sorted := up.mergeSort fun a b => decide (b.elev ≤ a.elev)
  ((sorted.filterMap fun p => (sig p.sys).map fun i => (i, p)).eraseDups).take (s.cfgN Obj.SN_MAX_SV)

/-- Entries of the Nimbus buffer in use (R355). -/
def State.snDepth (s : State) : Nat :=
  ((s.snap.queue ++ s.snap.running.toList).map fun j => if j.four then 2 else 1).sum

/-- t_job of R356 in 0.5 ns. -/
def jobTime (four : Bool) (n : Nat) : HalfNs := 60000 + 3 * n * (if four then 28672 else 13312)

/-- GPS time of a capture (R348). -/
def State.capGps (s : State) (t : Int) : Option Nat := (s.airToGps t).map Int.toNat

/-- b_eff × age, the clock term of u_c in units of 10⁻⁵ µs (R349). -/
def State.capDrift (s : State) (f0 : SnFrag) : Nat := ((s.recOf f0.flock).map s.beff).getD 200 * f0.age

/-- U_C of a capture: u_c in 0.1 µs, to the nearest, halves up, as Worked example SN-1 has it (R349; log entry 112). -/
def State.capUnc (s : State) (f0 : SnFrag) : Nat := 20 + (s.capDrift f0 + 5000) / 10000

/-- Checks 0x06 to 0x0D on a whole capture, in the order of their codes, 0 when all pass (R348 to R355): fragment 0, and the last one. -/
def State.capFault (s : State) (f0 f1 : SnFrag) (t : Int) : Nat :=
  let four := f0.ctrl.testBit 5
  let age : Int := f0.age * msHalfNs
  let known := s.time.established && ((s.historyNow.getLast?).any fun p => decide ((p.1 : Int) ≤ t - age))
  if t + s.cfgN Obj.SN_MAX_AGE * secHalfNs < f1.stamp then 6
  else if decide ((f0.stamp : Int) < t + (if four then 4 else 2) * msHalfNs) || !known || (s.capGps t).isNone then 7
  else if f0.untimed || f1.untimed || !s.traceableAt t then 8
  else if s.slewing (t - age) f1.stamp then 9
  else if s.cfgN Obj.SN_MAX_TIME_UNC * 100000 < 400000 + 2 * s.capDrift f0 then 0x0A
  else if four && cfoSpread f0 f1 then 0x0B
  else if s.refPos.1 = 0 then 0x0C
  else if !s.domOn 16 || vgetD (s.eng.map (·.st)) 6 0 != 1 || s.isHeld 5 || s.isHeld 0xA then 0x0D
  else 0

/-- The satellites that a capture is searched for (R351). -/
def State.capSats (s : State) (t : Int) (sky : List SkySat) : List (Nat × SkySat) :=
  s.searchSet ((s.capGps t).getD 0 / secHalfNs) sky

/-- Checks 0x0E and 0x0F: enough satellites, and room in the queue (R353, R355). -/
def State.queueFault (s : State) (f0 : SnFrag) (sats : List (Nat × SkySat)) : Nat :=
  if s.isHeld 9 || decide (sats.length < s.cfgN Obj.SN_MIN_SV) then 0x0E
  else if s.cfgN Obj.SN_QUEUE_MAX < s.snDepth + (if f0.ctrl.testBit 5 then 2 else 1) then 0x0F
  else 0

/-- A capture that failed a check ends with its code. -/
def State.capFail (s : State) (f0 f1 : SnFrag) (t : Int) (c : Nat) : State :=
  s.drawn.snEnd { SnRecord.bare f0.flock f0.capId c (fragFlags f0 ||| fragFlags f1) with
    capTime := (s.capGps t).getD 0, uc := s.capUnc f0 } []

/-- δ of R350 in Hz as a fraction: −CFO / f × 1575.42 MHz, for a 4 ms capture the mean of its fragments. -/
def capDelta (f0 f1 : SnFrag) : Int × Nat :=
  if f0.ctrl.testBit 5 then (-(f0.cfo * f1.khz + f1.cfo * f0.khz) * 1575420, 2 * f0.khz * f1.khz) else (-f0.cfo * 1575420, f0.khz)

/-- W of R352 in chips: ⌈1.023 × u_c + SN_MAX_RANGE / 293.05 + 1⌉. -/
def State.codeHalf (s : State) (f0 : SnFrag) : Nat :=
  let d := 10 ^ 8 * 29305
  (1023 * (200000 + s.capDrift f0) * 29305 + s.cfgN Obj.SN_MAX_RANGE * 100 * 10 ^ 8 + d + d - 1) / d

/-- The job of a capture with its search set (R351, R352, R355). -/
def State.capJob (s : State) (f0 f1 : SnFrag) (t : Int) (sats : List (Nat × SkySat)) : SnJob :=
  { flock := f0.flock, capId := f0.capId, four := f0.ctrl.testBit 5, short := decide (f0.m < 1024 ∨ f1.m < 1024)
    capTime := (s.capGps t).getD 0, uc := s.capUnc f0, ephSet := s.gnss.setNo, cond := s.gnss.mismatch
    sats := sats.map fun p => (p.1, p.2.sv), found := [], peaks := [], queuedAt := s.mono
    jobHalf := jobTime (f0.ctrl.testBit 5) sats.length
    halves := if f0.ctrl.testBit 5 then [f0.samples, f1.samples] else [f0.samples]
    inverted := f0.ctrl.testBit 6, delta := capDelta f0 f1
    assist := sats.map fun p => (p.2.doppler, p.2.phase), half := s.codeHalf f0, startedAt := 0 }

/-- A job enters the queue of Nimbus (R355). -/
def State.queueJob (s : State) (j : SnJob) : State :=
  let s1 := s.modSnap fun y => { y with queue := y.queue ++ [j] }
  s1.modSnap fun y => { y with peak := max y.peak s1.snDepth }

/-- A capture whose time is known, through its checks to the queue. -/
def State.captureAt (s : State) (f0 f1 : SnFrag) (sky : List SkySat) (t : Int) : State :=
  if s.capFault f0 f1 t ≠ 0 then s.capFail f0 f1 t (s.capFault f0 f1 t)
  else if s.queueFault f0 (s.capSats t sky) ≠ 0 then
    s.drawn.jobEnd (s.capJob f0 f1 t (s.capSats t sky)) (s.queueFault f0 (s.capSats t sky))
  else s.drawn.queueJob (s.capJob f0 f1 t (s.capSats t sky))

/-- Checks 0x06 to 0x0F on a whole capture (R348 to R355): fragment 0, and the last one. -/
def State.capture (s : State) (f0 f1 : SnFrag) (sky : List SkySat) : State :=
  ((s.capAir f0).map (s.captureAt f0 f1 sky)).getD (s.snEnd (SnRecord.bare f0.flock f0.capId 7 (fragFlags f0 ||| fragFlags f1)) [])

/-- A fragment 0 that a node already has in the store ends with FRAG_MISMATCH when another comes (Table SN-3). -/
def State.dropHeld (s : State) (flock : Nat) : State :=
  match s.snap.frags.find? fun x => x.flock == flock with
  | some old => (s.modSnap fun y => { y with frags := y.frags.filter fun x => x.flock != flock }).fragEnd old 4
  | none => s

/-- A fragment 0 of a 4 ms capture is held (R353, R354). -/
def State.holdFrag (s : State) (f : SnFrag) : State :=
  if !s.extMem then s.fragEnd f 0x0D
  else
    let s1 := s.dropHeld f.flock
    let s2 := if s1.snap.frags.length < 4096 then s1
      else match s1.snap.frags with
        | old :: rest => (s1.modSnap fun y => { y with frags := rest }).fragEnd old 5
        | [] => s1
    s2.modSnap fun y => { y with frags := y.frags ++ [f] }

/-- A whole capture ends with a fragment: the held fragment 0 of the same capture goes with it (R346, R353). -/
def State.capEnd (s : State) (f : SnFrag) (status : Nat) : State :=
  (if f.ctrl.testBit 4 then s.modSnap fun y => { y with frags := y.frags.filter fun x => !fragsAgree x f } else s).fragEnd f status

/-- Checks 0x01 to 0x04 on a fragment (R353). -/
def State.intake (s : State) (f : SnFrag) (long : Bool) (sky : List SkySat) : State :=
  if s.cfgN Obj.SN_ENABLE = 0 then s.fragEnd f 1
  else if !long || !headerOk f.ctrl f.offset s.tSlot then s.fragEnd f 2
  else if 1024 < f.m then s.capEnd f 2
  else if f.m < 960 then s.capEnd f 3
  else if f.ctrl.testBit 4 then
    match s.snap.frags.find? fun x => fragsAgree x f with
    | none => s.fragEnd f 4
    | some f0 => (s.modSnap fun y => { y with frags := y.frags.filter fun x => x.flock != f.flock }).capture f0 f sky
  else if f.ctrl.testBit 5 then s.holdFrag f
  else (s.dropHeld f.flock).capture f f sky

/-- SNAPSHOT_FRAGMENT: the oldest accepted data frame with payload type 0x02 is a contact, is acknowledged, and once goes
through intake (R183, R236, R353). `sky` is what NAV1 computes at GN_REF_POS for the search set. -/
def State.snapFragment (s : State) (sky : List SkySat) : State :=
  match s.takeFrame (isData 2) with
  | none => s
  | some (x, s) =>
    let s1 := s.dataFrame x
    if x.dup then s1
    else
      let d := x.data
      let f : SnFrag := ⟨x.record, leAt d 0 1, leAt d 1 1, leAt d 2 4, leAt d 6 3, leAt d 9 2, d.drop 12, x.stamp,
        x.untimed || x.unref, x.cfo, s.laneKhz x.path x.lane, s.mono⟩
      s1.intake f (decide (12 ≤ d.length)) sky

def execSnapshotFragment (sky : List SkySat) (s : State) : Answer State := .next (s.snapFragment sky).settled

/-- FRAG_TIMEOUT of the fragment that a node holds (Table SN-3, 0x05). -/
def State.fragTimeout (s : State) (flock : Nat) : State :=
  match s.snap.frags.find? fun x => x.flock == flock with
  | none => s
  | some f =>
    ((s.toMono (f.heldAt + s.cfgN Obj.SN_FRAG_WAIT * secHalfNs)).modSnap fun y => { y with
      frags := y.frags.filter fun x => x.flock != flock }).fragEnd f 5

def execFragTimeout (flock : Nat) (s : State) : Answer State := .next (s.fragTimeout flock)

/-! ### Nimbus (R315, R355, R356) -/

/-- NIMBUS_INTERVAL: a 10 ms accounting interval begins; what snapshots used of the last one enters the load of the last second
(R315, SN_NIMBUS_LOAD). -/
def State.nimbusInterval (s : State) : State :=
  let s1 := s.toMono (s.snap.since + 10 * msHalfNs)
  s1.modSnap fun y => { y with
    since := s1.mono, load := (y.usedNow :: y.load).take 100, usedNow := 0 }

def execNimbusInterval (s : State) : Answer State := .next s.nimbusInterval

/-- Snapshots have Nimbus time left in the running interval: all of it, or what GN_ACQ_SHARE leaves while acquisition jobs
wait (R315). -/
def State.snapShare (s : State) : Bool :=
  let whole := 10 * msHalfNs
  let limit := if s.gnss.jobs.isEmpty then whole else whole * (100 - s.cfgN Obj.GN_ACQ_SHARE) / 100
  decide (s.snap.usedNow < limit)

/-- NIMBUS_JOB_START: Nimbus takes the job at the head of the queue; one whose deadline has passed ends instead (R355). -/
def State.nimbusStart (s : State) : State :=
  match s.snap.queue, s.snap.running with
  | j :: rest, none =>
    if j.queuedAt + s.cfgN Obj.SN_QUEUE_DEADLINE * msHalfNs < s.mono then (s.modSnap fun y => { y with queue := rest }).jobEnd j 0x10
    else if s.domOn 16 && s.snapShare then
      s.modSnap fun y => { y with
        queue := rest, running := some { j with startedAt := s.mono }, usedNow := y.usedNow + j.jobHalf }
    else s
  | _, _ => s

def execNimbusJobStart (s : State) : Answer State := .next s.nimbusStart

/-- SNAPSHOT_DEADLINE: the job at the head has not started within SN_QUEUE_DEADLINE (R355). -/
def State.snapDeadline (s : State) : State :=
  match s.snap.queue with
  | [] => s
  | j :: rest =>
    ((s.toMono (j.queuedAt + s.cfgN Obj.SN_QUEUE_DEADLINE * msHalfNs)).modSnap fun y => { y with queue := rest }).jobEnd j 0x10

def execSnapshotDeadline (s : State) : Answer State := .next s.snapDeadline

/-- The samples of one half (R345): bit j of byte k is sample 8k + j, 1 positive; missing bytes are zero samples (R346). -/
def halfSamples (bs : Bytes) : List Int :=
  (List.range 8192).map fun n => match bs[n / 8]? with
    | some b => if b.toNat.testBit (n % 8) then 1 else -1
    | none => 0

/-- The samples of a capture. -/
def SnJob.samples (j : SnJob) : List Int := j.halves.flatMap halfSamples

/-- The three Doppler bins of a satellite, in Hz as a fraction: about f_D − δ, 1 / (2 × capture length) apart (R352). -/
def SnJob.bins (j : SnJob) (fd : Int) : List (Int × Nat) :=
  let step : Int := if j.four then 125 else 250
  [-1, 0, 1].map fun (k : Int) => ((fd + k * step) * j.delta.2 - j.delta.1, j.delta.2)

/-- Distance of two numbers on a circle. -/
def circDist (a b n : Nat) : Nat :=
  let d := (max a b - min a b) % n
  min d (n - d)

/-- A code phase in samples lies in the code window about a predicted one in 0.001 chip: within W of it, or anywhere once W reaches half
the code period (R352). A sample is 1.023 / 4.096 chip. -/
def SnJob.inWindow (j : SnJob) (sig phase k : Nat) : Bool :=
  let period := (sigOf sig).chips * (sigOf sig).codeMs
  decide (period ≤ 2 * j.half) ||
    decide (circDist (k * 1023000 % (period * 4096000)) (phase * 4096 % (period * 4096000)) (period * 4096000) ≤ j.half * 4096000)

/-- The strongest cell of a satellite inside the code window over its three bins, in 0.1 dB over the median (R356). -/
def SnJob.peak (j : SnJob) (sat : Nat × Nat) (a : Int × Nat) : Nat :=
  let cells := (j.bins a.1).flatMap fun b =>
    ((Config.correlate j.samples j.inverted sat.1 sat.2 j.capTime b.1 b.2).zipIdx).filterMap fun c =>
      if j.inWindow sat.1 a.2 c.2 then some c.1 else none
  cells.foldl max 0

/-- NIMBUS_JOB_DONE, t_job after the job began: each satellite of the search set whose strongest cell in its window lies at
SN_DET_THRESH or more above the median is detected (R356). With NAV1 down the job ends with UNAVAILABLE (R361). -/
def State.nimbusDone (s : State) : State :=
  match s.snap.running with
  | none => s
  | some j =>
    let s := s.toMono (j.startedAt + j.jobHalf)
    let peaks := List.zipWith j.peak j.sats j.assist
    let found := (j.sats.zipIdx).filterMap fun p =>
      if s.cfgN Obj.SN_DET_THRESH ≤ (peaks[p.2]?).getD 0 then some p.1 else none
    let j1 := { j with found := found, peaks := peaks }
    let s1 := s.modSnap fun y => { y with running := none }
    if vgetD (s.eng.map (·.st)) 6 0 != 1 then s1.jobEnd j1 0x0D
    else s1.modSnap fun y => { y with solving := y.solving ++ [j1] }

def execNimbusJobDone (s : State) : Answer State := .next s.nimbusDone

/-! ### Solutions (R357, R359) -/

/-- The tests of R330 on the satellites of a snapshot, with at most three exclusions: those used, those excluded, and 0 neither,
1 OK, 2 FAIL. A test names a satellite by its signal index and number. -/
def snRaim (u : Nat) : Nat → List (Bool × Nat × Nat) → List (Nat × Nat) → List (Nat × Nat) →
    List (Nat × Nat) × List (Nat × Nat) × Nat
  | fuel, tests, sats, out =>
    if sats.length < u + 1 then (sats, out, 0)
    else match fuel, tests with
      | _, [] => (sats, out, 0)
      | _, (true, _, _) :: _ => (sats, out, 1)
      | 0, _ => (sats, out, 2)
      | f + 1, (false, i, sv) :: ts =>
        if u + 2 ≤ sats.length ∧ (i, sv) ∈ sats then snRaim u f ts (sats.filter fun p => p != (i, sv)) (out ++ [(i, sv)])
        else (sats, out, 2)

/-- SNAPSHOT_SOLUTION: one of the two solutions that NAV1 works on completes (R357 to R359). Snapshot solutions stop while NAV0
or NAV1 does not run (R21). -/
def State.snapSolution (s : State) (k : Fin 2) (a : SnSolve) : State :=
  match s.snap.solving[k.val]? with
  | none => s
  | some j =>
    if vgetD (s.eng.map (·.st)) 5 0 != 1 || vgetD (s.eng.map (·.st)) 6 0 != 1 then s
    else
      let s1 := s.modSnap fun y => { y with solving := y.solving.eraseIdx k.val }
      let aid := s.cfgN Obj.SN_HEIGHT_AID = 1
      let need := if aid then max 3 (s.cfgN Obj.SN_MIN_SV) else max 4 (s.cfgN Obj.SN_MIN_SV)
      let u := if aid then 3 else 4
      let (used, out, raim) := snRaim u 3 a.tests j.found []
      let s2 := out.foldl (fun (s : State) (p : Nat × Nat) =>
        (s.raise Ev.GNSS_RAIM_EXCLUDE 0xFF (sigOf p.1).code p.2).count Obj.GN_RAIM_EXCLUSIONS) s1
      let far := decide (s.cfgN Obj.SN_MAX_RANGE * 10 + 3 * a.hAcc < a.dist)
      let stale := s.gnss.mismatch && !j.cond
      let ok := decide (need ≤ j.found.length) && a.converged && raim != 2
      let flags := j.flags + (if raim = 1 then 1 else 0) + (if raim = 2 then 2 else 0) + (if ok && far then 4 else 0)
        + (if stale then 32 else 0)
      let resid := fun (p : Nat × Nat) => ((a.peaks.find? fun q => q.1 == 256 * p.1 + p.2).map (·.2)).getD 0
      if ok then
        s2.snEnd { j.record 0 with
          fix := if aid then 2 else 1, flags := flags, used := used.length, pos := a.pos, hAcc := a.hAcc, vAcc := a.vAcc
          pdop := a.pdop, clkErr := a.clkErr, freqResid := a.freqResid } (j.detail resid used out)
      else s2.snEnd { j.record 0x11 with flags := flags } (j.detail (fun _ => 0) [] out)

def execSnapshotSolution (k : Fin 2) (a : SnSolve) (s : State) : Answer State := .next (s.snapSolution k a)

/-! ### SN_ENABLE and losses (R361) -/

/-- End every held fragment with a status. -/
def State.endFrags (s : State) (status : Nat) : State :=
  s.snap.frags.foldl (fun (s : State) (f : SnFrag) => s.fragEnd f status) (s.modSnap fun y => { y with frags := [] })

/-- End every queued job with a status. -/
def State.endSnQueue (s : State) (status : Nat) : State :=
  s.snap.queue.foldl (fun (s : State) (j : SnJob) => s.jobEnd j status) (s.modSnap fun y => { y with queue := [] })

/-- End the jobs in the solution stage (R361: NAV1 restarts or fails). -/
def State.endSolving (s : State) : State :=
  s.snap.solving.foldl (fun (s : State) (j : SnJob) => s.jobEnd j 0x0D) (s.modSnap fun y => { y with solving := [] })

/-- Why a write of SN_ENABLE is refused (R361). -/
def State.snEnableCheck (s : State) (v : Nat) : Nat :=
  if 1 < v then 4 else if v = 1 ∧ (!s.domOn 16 ∨ !s.domOn 15) then 5 else 0

def State.snEnablePut (s : State) (v : Nat) : State :=
  let s1 := s.cfgPut Obj.SN_ENABLE (scalar v)
  if v = 0 then (s1.endFrags 1).endSnQueue 1 else s1

/-- SN_ENABLE_WRITE (R361). -/
def State.snEnable (s : State) (v : Nat) : State :=
  if s.snEnableCheck v = 0 then (s.snEnablePut v).bumpRev Obj.SN_ENABLE else s

def execSnEnableWrite (v : Nat) (s : State) : Answer State := .next (s.snEnable v)

end Sys2Proof.Machine
end

