-- ==== Sys2Proof/Machine/Sec.lean ====
section
/-!
DEFINITION. Cipher engine, keys, roots, tamper, attestation and presence (14_security.md).
-/

namespace Sys2Proof.Machine

def State.modSec (s : State) (f : SecState → SecState) : State := { s with sec := f s.sec }

/-- A status of an action that ended badly where the spec names no code: one of Table OD-6 that is neither done nor running, a
free value (log entry 1). -/
def freeError (n : Nat) : Nat := 2 + n % 17

/-! ### Sessions end (R45, R65, R66, R69) -/

/-- A session ends: its key slot is erased and its requests still unanswered are discarded. -/
def State.endSession (s : State) (id : Nat) : State :=
  match s.lop.sessions.find? fun x => x.id == id with
  | none => s
  | some x =>
    let s1 := { s with
      lop := { s.lop with
        sessions := s.lop.sessions.filter fun y => y.id != id
        mbxBusy := s.lop.mbxBusy && !(s.isl.responses.any fun r => r.resp.session == id && r.resp.via.transport == 0) }
      isl := { s.isl with
        responses := s.isl.responses.filter fun r => r.resp.session != id
        fences := s.isl.fences.filter fun f => f.bar0 || f.who != id } }
    if h : x.auth = true ∧ 12 ≤ x.keySlot ∧ x.keySlot < 24 then s1.eraseSlot ⟨x.keySlot, by omega⟩ else s1

/-- Every session that meets a test ends. -/
def State.endSessions (s : State) (p : Session → Bool) : State :=
  (s.lop.sessions.filter p).foldl (fun (s : State) (x : Session) => s.endSession x.id) s

/-! ### Roots and derived slots (R465, R468, R473, R474) -/

/-- The group key of an entry of SEC_GROUPS, none without an entry or the district root (Table SE-3, Table SE-4). -/
def State.groupSlotKey (s : State) (i : Fin 40) : Option Nat :=
  let tag := s.cfgN Obj.SEC_GROUPS i
  if tag = 0 ∨ s.sec.slot[2].st = 0 then none else some (kdf s.sec.slot[2].key 2 [tag])

/-- Write the derived key of one of the slots 24 to 63, at a write of its entry or of slot 2 (Table SE-4). -/
def State.deriveGroup (s : State) (i : Fin 40) : State :=
  let n : Fin 64 := ⟨24 + i, by omega⟩
  match s.groupSlotKey i with
  | some k => s.writeSlot n 2 k
  | none => if s.sec.slot[n].st = 0 then s else s.eraseSlot n

def State.deriveGroups (s : State) : State := (List.finRange 40).foldl State.deriveGroup s

/-- The entries that have changed while SEC did not serve take effect (R49). -/
def State.loadGroups (s : State) : State :=
  (List.finRange 40).foldl (fun (s : State) (i : Fin 40) =>
    let x := s.sec.slot[(⟨24 + i, by omega⟩ : Fin 64)]
    if s.groupSlotKey i = (if x.st = 0 then none else some x.key) then s else s.deriveGroup i) s

/-- The beacon key of slot 2 or 3 as the PAN ID makes it (Table SE-3). -/
def State.beaconSlotKey (s : State) (root : Fin 64) : Nat := kdf s.sec.slot[root].key 1 [s.cfgN Obj.MESH_PAN_ID]

/-- The beacon key of slot 2 or 3 is written at every write of the root or of MESH_PAN_ID (Table SE-4); the beacon counter restarts with a
new beacon key (R233). -/
def State.deriveBeacon (s : State) (root dst : Fin 64) : State :=
  if s.sec.slot[root].st = 0 then (if s.sec.slot[dst].st = 0 then s else s.eraseSlot dst)
  else
    let k := s.beaconSlotKey root
    let fresh := dst = 4 ∧ s.sec.slot[dst].st ≠ 0 ∧ s.sec.slot[dst].key ≠ k
    let s1 := s.writeSlot dst 2 k
    if fresh then { s1 with mesh := { s1.mesh with beaconCtr := 0 } } else s1

/-- A PAN ID written while MESH did not serve takes effect (R49). -/
def State.loadBeacon (s : State) (root dst : Fin 64) : State :=
  if s.sec.slot[root].st ≠ 0 ∧ s.sec.slot[dst].key ≠ s.beaconSlotKey root then s.deriveBeacon root dst else s

/-- Campaign keys of running campaigns (Table SE-4). -/
def State.deriveCampaigns (s : State) : State :=
  (List.finRange 4).foldl (fun (s : State) (k : Fin 4) =>
    let c := s.flock.camp[k]
    if c.st = 1 ∨ c.st = 2 then
      s.writeSlot ⟨6 + k, by omega⟩ 2 (kdf s.sec.slot[2].key 3 [((c.cfg[10]?).getD 0).toNat, 0xF10000 + ((c.cfg[0]?).getD 0).toNat])
    else s) s

/-- What depends on a root slot is derived anew (R473, Table SE-4). -/
def State.deriveFrom (s : State) (n : Fin 4) : State :=
  if n = 2 then (s.deriveBeacon 2 4).deriveGroups else if n = 3 then s.deriveBeacon 3 5 else s

/-- Write a root. -/
def State.putRoot (s : State) (n : Fin 4) (key : Nat) : State := (s.writeSlot ⟨n, by omega⟩ 1 key).deriveFrom n

/-- Erase a root. -/
def State.eraseRoot (s : State) (n : Fin 4) : State := (s.eraseSlot ⟨n, by omega⟩).deriveFrom n

/-- SEC_ROOTS_PRESENT. -/
def State.rootsPresent (s : State) : Nat :=
  ((List.finRange 4).map fun (n : Fin 4) => if s.sec.slot[(⟨n, by omega⟩ : Fin 64)].st = 0 then 0 else 2 ^ n.val).sum

/-- The seal key, derived from the seal value at each use (R475, Table SE-3). -/
def State.sealKey (s : State) : Bytes := natLe 32 (kdf s.fw.otp.deviceRoot 7 [s.sec.sealValue])

/-- A copy of the root store holds: MAGIC and CRC (Table SE-5). -/
def copyOk (b : Bytes) : Bool := b.length == 180 && leAt b 0 4 == 0x54534B52 && leAt b 176 4 == crc32c (b.take 176)

/-- The current copy of the root store: the higher SEQ; of equal ones copy 0 (R107, R474; log entry 117). -/
def State.storeCurrent (s : State) : Option (Fin 2 × Bytes) :=
  let a := s.sec.store[0]
  let b := s.sec.store[1]
  if copyOk a && (!copyOk b || decide (leAt b 4 4 ≤ leAt a 4 4)) then some (0, a)
  else if copyOk b then some (1, b) else none

/-- The roots as the store would hold them now: PRESENT, and each root wrapped under the seal key (Table SE-5). -/
def State.storeCopy (s : State) (seq : Nat) : Bytes :=
  let body := natLe 4 0x54534B52 ++ natLe 4 seq ++ natLe 1 s.rootsPresent ++ natLe 7 0 ++
    (List.finRange 4).flatMap fun (n : Fin 4) =>
      let x := s.sec.slot[(⟨n, by omega⟩ : Fin 64)]
      if x.st = 0 then natLe 40 0 else keyWrap s.sealKey (natLe 32 x.key)
  body ++ natLe 4 (crc32c body)

/-- Write the root store for an action object: the other copy, with SEQ plus 1 (R107, R473). While a write runs, the action waits
for the next one. -/
def State.storeWrite (s : State) (object : Nat) : State :=
  let s := s.setAct object 1
  match s.sec.writing with
  | some _ => s.modSec fun x => { x with waiting := x.waiting ++ [object] }
  | none =>
    let (i, seq) : Fin 2 × Nat := match s.storeCurrent with
      | some (k, c) => ((if k = 0 then (1 : Fin 2) else 0), (leAt c 4 4 + 1) % 2 ^ 32)
      | none => (0, 1)
    s.modSec fun x => { x with writing := some (i, s.storeCopy seq, [object]) }

/-- ROOT_STORE_WRITE_DONE: the copy is in flash and the actions that waited are done, or the program failed; actions that came
meanwhile start the next write (R46, R473, R474, R519). -/
def State.storeWritten (s : State) (ok : Bool) : State :=
  match s.sec.writing with
  | none => s
  | some (i, c, objs) =>
    let waiting := s.sec.waiting
    let s1 := s.modSec fun x => { x with
      writing := none, waiting := [], store := if ok then x.store.set i c else x.store.set i [] }
    let s2 := if ok then objs.foldl (fun (s : State) (o : Nat) => s.setAct o 0) s1
      else objs.foldl (fun (s : State) (o : Nat) => s.drawn.setAct o (freeError s.draw.1))
        ((s1.count Obj.MEM_FLASH_COUNTS 1).raise Ev.FLASH_PROG_FAIL)
    waiting.foldl (fun (s : State) (o : Nat) => s.storeWrite o) s2

def execRootStoreWriteDone (ok : Bool) (s : State) : Answer State := .next (s.storeWritten ok)

/-- Both copies are erased. -/
def State.storeErase (s : State) : State :=
  s.modSec fun x => { x with store := Vector.replicate 2 [], erasePending := false }

/-- SEC restores the roots from the current copy; with a clear seal register, or an entry that does not unwrap, none is restored,
both copies are erased and ROOTS_LOST is raised (R476). A copy whose erasure a zeroisation left pending is erased first (Table
SE-7). -/
def State.restoreRoots (s : State) : State :=
  let s := if s.sec.erasePending then s.storeErase else s
  match s.storeCurrent with
  | none => s
  | some (_, c) =>
    let root := fun (n : Nat) => keyUnwrap s.sealKey ((c.drop (16 + 40 * n)).take 40)
    let held := (List.range 4).filter (leAt c 8 1).testBit
    if s.sec.sealValue = 0 ∨ !s.fw.otp.deviceRootOk ∨ held.any fun n => (root n).isNone then s.storeErase.raise Ev.ROOTS_LOST
    else held.foldl (fun (s : State) (n : Nat) => s.putRoot ⟨n % 4, Nat.mod_lt _ (by omega)⟩ (leNat ((root n).getD []))) s

/-- An alarm source that is enabled: bits 2 to 6 always, bits 0 and 1 by SEC_TAMPER_ENABLE (Table SE-6). -/
def State.tamperEnabled (s : State) (bit : Nat) : Bool :=
  if bit < 2 then (s.cfgN Obj.SEC_TAMPER_ENABLE).testBit bit else true

/-- Some enabled alarm source is active (R483). -/
def State.tamperActive (s : State) : Bool := (List.range 7).any fun b => s.sec.active.testBit b && s.tamperEnabled b

/-- The checks on a write of slot 2 and 3 (R473, R477). -/
def State.rootConflict (s : State) (n : Nat) : Bool :=
  (n == 2 && s.flock.recs.any fun x => x.2.link.st != 0) || (n == 3 && s.sec.switchAsn.isSome)

/-- Why a write of SEC_ROOT_LOAD is refused: RANGE, TYPE or CONFLICT (R473, R483). -/
def State.rootLoadCheck (s : State) (slot form : Nat) (key : Bytes) : Nat :=
  if 3 < slot ∨ 1 < form then 4
  else if key.length ≠ 40 then 3
  else if form = 0 ∧ (key.drop 32).any (fun b => b != 0) then 3
  else if s.rootConflict slot ∨ s.tamperActive then 5
  else if s.slotRetired slot then 0x0D
  else 0

/-- Every key under the district root changes: every outbound counter and replay state under the former keys starts anew (R233, R235,
R479). -/
def State.rekeyAll (s : State) : State :=
  { s with
    flock := { s.flock with recs := s.flock.recs.map fun (x : Nat × FlockRec) => (x.1, x.2.rekeyed) }
    mesh := { s.mesh with beaconCtr := 0, replay := [], ctrOut := [], chorusHigh := false } }

/-- An accepted load of a root (R473, R475). A load of slot 2 that is not the root held there changes the keys (R233; log entry 116). -/
def State.rootLoadPut (s : State) (slot form : Nat) (key : Bytes) : State :=
  let o := Obj.SEC_ROOT_LOAD
  let kt := natLe 32 (kdf s.fw.otp.deviceRoot 6 [s.fw.otp.eui])
  match (if form = 0 then some (key.take 32) else if s.fw.otp.deviceRootOk then keyUnwrap kt key else none) with
  | none => s.setAct o 0x0F
  | some root =>
    if s.sec.sealValue = 0 ∧ s.sec.entropyFail then s.setAct o 7
    else
      let s1 := if s.sec.sealValue = 0 then s.drawn.modSec fun x => { x with sealValue := s.draw.1 % (2 ^ 256 - 1) + 1 } else s
      let s2 := if s1.sec.erasePending then s1.storeErase else s1
      let s3 := if slot = 2 ∧ (s2.sec.slot[2].st = 0 ∨ s2.sec.slot[2].key ≠ leNat root) then s2.rekeyAll else s2
      (s3.putRoot ⟨slot % 4, by omega⟩ (leNat root)).storeWrite o

/-- SEC_ROOT_LOAD. A block that is not on answers DOMAIN_OFF (R48). -/
def State.rootLoad (s : State) (slot form : Nat) (key : Bytes) : State :=
  if s.domServes 2 ∧ s.rootLoadCheck slot form key = 0 then (s.rootLoadPut slot form key).bumpRev Obj.SEC_ROOT_LOAD else s

def execSecRootLoad (slot form : Nat) (key : Bytes) (s : State) : Answer State := .next (s.rootLoad slot form key)

/-- Why a write of SEC_ROOT_ERASE is refused (R477). -/
def State.rootEraseCheck (s : State) (m : Nat) : Nat :=
  if 16 ≤ m then 4 else if m.testBit 2 && s.rootConflict 2 then 5 else 0

def State.rootErasePut (s : State) (m : Nat) : State :=
  ((List.finRange 4).foldl (fun (s : State) (n : Fin 4) => if m.testBit n then s.eraseRoot n else s) s).storeWrite
    Obj.SEC_ROOT_ERASE

/-- SEC_ROOT_ERASE (R477). -/
def State.rootErase (s : State) (m : Nat) : State :=
  if s.domServes 2 ∧ s.rootEraseCheck m = 0 then (s.rootErasePut m).accept Obj.SEC_ROOT_ERASE (scalar m) else s

def execSecRootErase (m : Nat) (s : State) : Answer State := .next (s.rootErase m)

/-! ### Key wraps (R267, R478) -/

/-- The link key of a record under a root slot (Table SE-3). -/
def State.linkKey (s : State) (root : Fin 64) (r : FlockRec) : Nat :=
  kdf s.sec.slot[root].key 0 [r.cfg.eui, r.cfg.keyEpoch]

/-- Why a write of SEC_NEXT_KEY_WRAP is refused (R478). -/
def State.nextWrapCheck (s : State) (n : Nat) : Nat :=
  if 2 ^ 20 ≤ n then 4
  else if s.sec.slot[3].st = 0 then 5
  else match s.recOf n with
    | some r => if r.link.st = 2 ∨ r.link.st = 3 then 0 else 5
    | none => 5

def State.nextWrapPut (s : State) (n : Nat) : State :=
  match s.recOf n with
  | none => s
  | some r =>
    let w := leNat (keyWrap (natLe 16 (s.linkKey 2 r)) (natLe 16 (s.linkKey 3 r)))
    ((s.useLinkKey n).useKey 3 0 [r.cfg.eui, r.cfg.keyEpoch]).modSec (fun x => { x with nextWrap := (n, w) })
      |>.setAct Obj.SEC_NEXT_KEY_WRAP 0

/-- SEC_NEXT_KEY_WRAP. -/
def State.nextKeyWrap (s : State) (n : Nat) : State :=
  if s.domServes 2 ∧ s.nextWrapCheck n = 0 then (s.nextWrapPut n).bumpRev Obj.SEC_NEXT_KEY_WRAP else s

def execSecNextKeyWrap (n : Nat) (s : State) : Answer State := .next (s.nextKeyWrap n)

/-- Why a write of FLOCK_KEY_WRAP is refused: the relay must be a class C record in ACTIVE, the child in JOINING, ACTIVE or RESYNC
(R267). -/
def State.keyWrapCheck (s : State) (v : Nat) : Nat :=
  match s.recOf (v / 2 ^ 32 % 2 ^ 20), s.recOf (v % 2 ^ 20) with
  | some r, some n => if r.cfg.cls = 0x0C ∧ r.link.st = 2 ∧ n.link.st ≠ 0 then 0 else 5
  | _, _ => 5

def State.keyWrapPut (s : State) (v : Nat) : State :=
  let n := v % 2 ^ 20
  match s.recOf (v / 2 ^ 32 % 2 ^ 20), s.recOf n with
  | some r, some c =>
    let w := leNat (keyWrap (natLe 16 (s.linkKey 2 r)) (natLe 16 (s.linkKey 2 c)))
    (((s.useLinkKey n).useLinkKey (v / 2 ^ 32 % 2 ^ 20)).modSec fun x => { x with flockWrap := (n, c.tag n, w) }).setAct
      Obj.FLOCK_KEY_WRAP 0
  | _, _ => s

/-- FLOCK_KEY_WRAP (R267). -/
def State.keyWrap (s : State) (v : Nat) : State :=
  if s.domServes 2 ∧ s.keyWrapCheck v = 0 then (s.keyWrapPut v).bumpRev Obj.FLOCK_KEY_WRAP else s

def execFlockKeyWrap (v : Nat) (s : State) : Answer State := .next (s.keyWrap v)

/-! ### The district switch (R479) -/

/-- Why a write of SEC_DISTRICT_SWITCH is refused (R479). -/
def State.districtCheck (s : State) (a : Nat) : Nat :=
  if s.sec.slot[3].st = 0 ∨ a < s.asn + 64 then 5 else 0

def State.districtPut (s : State) (a : Nat) : State :=
  (s.flock.recs.filter fun x => x.2.link.st != 0).foldl (fun (s : State) (x : Nat × FlockRec) => s.queueDisassoc x.1 3)
    (s.modSec fun x => { x with switchAsn := some a })

/-- SEC_DISTRICT_SWITCH. -/
def State.district (s : State) (a : Nat) : State :=
  if s.domServes 2 ∧ s.districtCheck a = 0 then (s.districtPut a).bumpRev Obj.SEC_DISTRICT_SWITCH else s

def execSecDistrictSwitch (a : Nat) (s : State) : Answer State := .next (s.district a)

/-- A root slot and its beacon slot move: 3 to 2, 5 to 4 (R479). -/
def State.moveSlot (s : State) (a b : Fin 64) : State :=
  (s.writeSlot b s.sec.slot[a].st s.sec.slot[a].key).eraseSlot a

/-- What happens at the start of superframe A (R479). -/
def State.districtSwitch (s : State) : State :=
  match s.sec.switchAsn with
  | none => s
  | some a =>
    if s.asn ≠ a % 2 ^ 40 then s
    else
      let s1 := ((s.modSec fun x => { x with switchAsn := none }).moveSlot 3 2).moveSlot 5 4
      let s2 := s1.deriveGroups.deriveCampaigns
      let s3 := s2.flock.recs.foldl (fun (s : State) (x : Nat × FlockRec) =>
        if x.2.link.st = 0 then s else s.detach x.1 0x25) s2
      (s3.rekeyAll.cfgPut Obj.FL_CHORUS_BASE_SLOT (scalar (64 * a : Nat))).bumpRev Obj.FL_CHORUS_BASE_SLOT

/-- SUPERFRAME_EDGE: the ASN rises; a district switch due at it happens, then the work of slot 0 (R187, R391, R479). -/
def State.superframeEdge (s : State) : State := s.superframe.districtSwitch.edgeWork

def execSuperframeEdge (s : State) : Answer State := .next s.superframeEdge.settled

/-! ### The derived-key cache and the DRBG (R462, R466, R467) -/

/-- A derived key's root still has the generation under which it was derived (R467). -/
def State.keyLive (s : State) (c : DerivedKey) : Bool :=
  if h : c.root < 64 then s.sec.slot[(⟨c.root, h⟩ : Fin 64)].gen == c.gen else false

/-- Lines of the derived-key cache, block 7 of region SEC, that are not retired (R16, R467; log entry 9). -/
def State.keyLines (s : State) : Nat := 4096 - s.retiredIn 2 7

/-- The lines of the cache that a lookup can match; the others are erased within 50 µs (R467). -/
def State.liveLines (s : State) : Nat := (s.sec.cache.filter s.keyLive).length

/-- KEY_DERIVATION_DONE: the oldest derivation completes; its key enters the cache unless its root's generation has changed since,
and replaces the least recently used line of a full cache (R467, R470). -/
def State.derivationDone (s : State) : State :=
  match s.sec.deriving_ with
  | [] => s
  | k :: rest =>
    let live := s.keyLive k
    let valid := s.sec.cache.filter s.keyLive
    let lines := s.keyLines
    let full := decide (lines ≤ valid.length) && live
    s.modSec fun x => { x with
      deriving_ := rest
      cache := if live then (k :: valid).take lines else valid
      evictions := if full then x.evictions + 1 else x.evictions }

def execKeyDerivationDone (s : State) : Answer State := .next s.derivationDone

/-- DRBG_RESEED: from the entropy source while it passes its tests (R462). -/
def State.reseed (s : State) : State := if s.sec.entropyFail then s else s.modSec fun x => { x with reseedAt := s.mono }

def execDrbgReseed (s : State) : Answer State := .next s.reseed

/-- ENTROPY_TEST_FAIL (R462). -/
def State.entropyLost (s : State) : State :=
  if s.sec.entropyFail then s else (s.modSec fun x => { x with entropyFail := true }).raise Ev.ENTROPY_FAIL

def execEntropyTestFail (s : State) : Answer State := .next s.entropyLost

/-- ENTROPY_RECOVERY (R462). -/
def execEntropyRecovery (s : State) : Answer State := .next (s.modSec fun x => { x with entropyFail := false })

/-! ### Presence (R487 to R490) and zeroisation (R480 to R484) -/

/-- End of a campaign: state and reason, and its key slot erased (R294, Table SE-4). -/
def State.campEnd (s : State) (k : Fin 4) (st reason : Nat) : State :=
  let s1 := (s.mesh.txns.filter fun t => t.kind == TxnKind.block k).foldl (fun (s : State) (t : Txn) => s.dropCmds t.id) s
  let s2 : State := { s1 with
    flock := { s1.flock with camp := vmod s1.flock.camp k fun c => { c with st := st, reason := reason } }
    mesh := { s1.mesh with txns := s1.mesh.txns.filter fun t => t.kind != TxnKind.block k } }
  if s2.sec.slot[(⟨6 + k, by omega⟩ : Fin 64)].st = 0 then s2 else s2.eraseSlot ⟨6 + k, by omega⟩

/-- A presence window closes: PRESENCE_CLOSE, and the INSTALLER sessions that it admitted end (R45, R489). -/
def State.closeWindow (s : State) : State :=
  if s.sec.presClass = 0 then s
  else ((s.modSec fun x => { x with presClass := 0 }).raise Ev.PRESENCE_CLOSE s.sec.presClass).endSessions fun x => x.role == 3

/-- The action objects whose operations in SEC are in flight: writes of the root store, signature checks, an attestation (R19, R470). -/
def State.secJobs (s : State) : List Nat :=
  (match s.sec.writing with | some w => w.2.2 | none => []) ++ s.sec.waiting
    ++ ((s.fw.ops.map (·.index)).filter fun o => o == Obj.FW_VERIFY || o == Obj.FL_IMAGE_VERIFY).dedup
    ++ (if s.sec.attest.isSome then [Obj.SEC_ATTEST_STATUS] else [])

/-- What a zeroisation erases, and the operations in flight that it ends; the status of an action that it ends is not named by the spec, a
free value (R472, R481; log entry 1). -/
def State.eraseSecrets (s : State) (src : Nat) : State :=
  let s1 := (List.finRange 64).foldl (fun (s : State) (i : Fin 64) => s.eraseSlot i) s
  let s2 := s1.modSec fun x => { x with
    cache := [], deriving_ := [], sealValue := 0, latch := x.latch ||| src, zeroisations := min 0xFFFFFFFF (x.zeroisations + 1)
    lastSource := src, lastTick := s.aon.tick, writing := none, waiting := [], attest := none }
  let s3 : State := { s2 with fw := { s2.fw with ops := s2.fw.ops.filter fun o => !(s.secJobs.contains o.index) } }
  s.secJobs.foldl (fun (s : State) (o : Nat) => s.drawn.setAct o (freeError s.draw.1)) s3

/-- Every session ends, with its requests still unanswered (R69, R481). -/
def State.dropSessions (s : State) : State :=
  { s with
    lop := { s.lop with
      sessions := []
      mbxBusy := s.lop.mbxBusy && !(s.isl.responses.any fun r => r.resp.session != 0 && r.resp.via.transport == 0) }
    isl := { s.isl with
      responses := s.isl.responses.filter fun r => r.resp.session == 0
      fences := s.isl.fences.filter fun f => f.bar0 } }

/-- Zeroisation for the sources of a bitmap (R472, R481, R482, Table SE-7); the events of the SEC region come before those of FLOCK (Table
AC-8). -/
def State.zeroise (s : State) (src : Nat) : State :=
  let s1 := (((s.eraseSecrets src).raise Ev.TAMPER_ALARM 0xFF src).raise Ev.ZEROISED).dropSessions
  let s2 := s1.mesh.txns.foldl (fun (s : State) (t : Txn) => s.endTxn t 0x26) s1
  let s3 := if s2.sec.presClass = 1 ∨ s2.sec.presClass = 2 then s2.closeWindow else s2
  let s4 := (List.finRange 4).foldl (fun (s : State) (k : Fin 4) =>
    let c := s.flock.camp[k]
    if c.st = 1 ∨ c.st = 2 then (s.campEnd k 6 6).raise Ev.CAMPAIGN_FAILED k 6 else s) s3
  if s4.domOn 2 then s4.storeErase else s4.modSec fun x => { x with erasePending := true }

/-- A seal-loop alarm: a MAINTENANCE window turns it into SEAL_OPENED (R490). -/
def State.sealAlarm (s : State) : State :=
  if s.sec.presClass = 3 then (s.modSec fun x => { x with sealHeld := true }).raise Ev.SEAL_OPENED else s.zeroise 1

/-- Close the open window; a seal-loop alarm that it suspended takes effect when the loop still disagrees (R490). -/
def State.closePresence (s : State) : State :=
  let held := s.sec.presClass == 3 && s.sec.sealHeld && s.sec.active.testBit 0
  let s1 := s.closeWindow
  if held then (s1.modSec fun x => { x with sealHeld := false }).zeroise 1 else s1

/-- An alarm source becomes active: one alarm per activation when it is enabled (R480). The seal loop's opening is a wake event
(Table PW-6). -/
def State.tamper (s : State) (bit : Nat) : State :=
  if 6 ≤ bit ∨ s.sec.active.testBit bit then s
  else
    let s1 := s.modSec fun x => { x with active := x.active ||| 2 ^ bit }
    let s2 := if bit = 0 then s1.wakeSource 3 else s1
    if !s2.tamperEnabled bit then s2
    else if bit = 0 then s2.sealAlarm
    else s2.zeroise (2 ^ bit)

def execTamperAlarm (bit : Nat) (s : State) : Answer State := .next (s.tamper bit).settled

/-- An alarm source becomes inactive (R480). -/
def State.tamperEnd (s : State) (bit : Nat) : State :=
  if s.sec.active.testBit bit then
    s.modSec fun x => { x with active := x.active - 2 ^ bit, sealHeld := if bit = 0 then false else x.sealHeld }
  else s

def execTamperSourceInactive (bit : Nat) (s : State) : Answer State := .next (s.tamperEnd bit).settled

/-- SEAL_LOOP_BIT: SEAL_B against the pattern on SEAL_A; two bits in a row make or end the activation (R480, Table SE-6). -/
def State.sealBit (s : State) (agrees : Bool) : State :=
  let s1 := s.modSec fun x => { x with
    mismatches := if agrees then 0 else min 2 (x.mismatches + 1), matches_ := if agrees then min 2 (x.matches_ + 1) else 0 }
  if s1.sec.mismatches = 2 then s1.tamper 0 else if s1.sec.matches_ = 2 then s1.tamperEnd 0 else s1

def execSealLoopBit (agrees : Bool) (s : State) : Answer State := .next (s.sealBit agrees).settled

/-- SEC_ZEROISE: each write of 1 is one activation of bit 6 (R480). -/
def State.zeroiseWrite (s : State) (v : Nat) : State :=
  if v = 1 then (s.zeroise 64).accept Obj.SEC_ZEROISE (scalar v) else s

def execSecZeroise (v : Nat) (s : State) : Answer State := .next (s.zeroiseWrite v).settled

/-- Why a write of SEC_TAMPER_CLEAR is refused: a bit names an active source (R484). -/
def State.tamperClearCheck (s : State) (m : Nat) : Nat := if m &&& s.sec.active = 0 then 0 else 5

def State.tamperClearPut (s : State) (m : Nat) : State :=
  s.modSec fun x => { x with latch := x.latch - (x.latch &&& m) }

/-- SEC_TAMPER_CLEAR, a write in a window of class 3 (R484, R489). -/
def State.tamperClear (s : State) (m : Nat) : State :=
  if s.sec.presClass = 3 ∧ s.tamperClearCheck m = 0 then (s.tamperClearPut m).accept Obj.SEC_TAMPER_CLEAR (scalar m) else s

def execSecTamperClear (m : Nat) (s : State) : Answer State := .next (s.tamperClear m)

/-- The button has been low for 30 s (R487). -/
def State.stuckPress (s : State) : State := (s.count Obj.SEC_PRES_COUNTS 3).raise Ev.PRES_STUCK

/-- PRESENCE_PRESS: the end of a debounced press, with PRES_JMP and the press duration in ms (R487 to R489). The press is a wake
event. A press that was stuck opens no window. -/
def State.press (s : State) (jumper : Bool) (ms : Nat) : State :=
  let s := s.wakeSource 2
  if s.sec.stuck then s.modSec fun x => { x with stuck := false }
  else if 30000 ≤ ms then s.stuckPress
  else
    let cls := if jumper then 1 else if ms < 5000 then 2 else 3
    if s.sec.presClass = cls then s.modSec fun x => { x with presAt := s.mono }
    else
      let s1 := s.closePresence
      let s2 := s1.modSec fun x => { x with presClass := cls, presAt := s.mono, presOpened := s.mono }
      (s2.count Obj.SEC_PRES_COUNTS (cls - 1)).raise Ev.PRESENCE_OPEN cls

def execPresencePress (jumper : Bool) (ms : Nat) (s : State) : Answer State := .next (s.press jumper ms).settled

/-- PRES_STUCK: low for 30 s (R487). -/
def State.presStuck (s : State) : State :=
  if s.sec.stuck then s
  else (s.modSec fun x => { x with stuck := true }).stuckPress

def execPresStuck (s : State) : Answer State := .next s.presStuck

/-- PRESENCE_WINDOW_EXPIRY: the window's 120 s have run out (R488, R489). -/
def State.presenceExpiry (s : State) : State :=
  if s.sec.presClass = 0 then s else (s.toMono (s.sec.presAt + 120 * secHalfNs)).closePresence

def execPresenceWindowExpiry (s : State) : Answer State := .next s.presenceExpiry.settled

/-- SEC_PRES_CLOSE (R489). -/
def execSecPresClose (s : State) : Answer State := .next (s.closePresence.settled.bumpRev Obj.SEC_PRES_CLOSE)

/-! ### Attestation (R485, R486) -/

/-- The fingerprint of a root slot; zero when empty (Table SE-3). -/
def State.fingerprint (s : State) (n : Fin 4) : Nat :=
  let x := s.sec.slot[(⟨n, by omega⟩ : Fin 64)]
  if x.st = 0 then 0 else kdf x.key 9 []

/-- Why a write of SEC_ATTEST_REQUEST is refused: a report is being produced (R485). -/
def State.attestCheck (s : State) : Nat := if s.sec.attest.isSome then 7 else 0

/-- The nonce is kept, and a report over it starts while SEC is on (R48, R485). -/
def State.attestPut (s : State) (nonce : Nat) : State :=
  let s1 := s.cfgPut Obj.SEC_ATTEST_REQUEST ((natLe 32 nonce).map fun b => [(b.toNat : Int)])
  if s.domOn 2 then (s1.modSec fun x => { x with attest := some (nonce % 2 ^ 256) }).setAct Obj.SEC_ATTEST_STATUS 1 else s1

/-- SEC_ATTEST_REQUEST: a report over a 32-byte nonce starts, unless one is being produced (R485). -/
def State.attestRequest (s : State) (nonce : Nat) : State :=
  if s.attestCheck = 0 then (s.attestPut nonce).bumpRev Obj.SEC_ATTEST_REQUEST else s

def execSecAttestRequest (nonce : Nat) (s : State) : Answer State := .next (s.attestRequest nonce)

/-- The bundle that runs. -/
def State.runningBundle (s : State) : Bytes :=
  if s.start.bundle = 0 then s.fw.slot[0] else if s.start.bundle = 1 then s.fw.slot[1] else []

/-- Numbers one after the other, each in its count of octets, least significant first (R5). -/
def packLe : List (Nat × Nat) → Bytes
  | [] => []
  | (n, v) :: l => natLe n v ++ packLe l

/-- The fields of the attestation body: octets and value (Table SE-8). -/
def State.attestFields (s : State) (nonce : Nat) : List (Nat × Nat) :=
  let b := s.runningBundle
  let p := s.fw.profileOf s.start.profileActive
  let lock := (s.lockRecord).getD []
  [(4, 0x54415445), (2, 1), (1, 0xB1), (1, 0), (8, s.fw.otp.eui), (32, nonce), (12, ts96 s.mono), (4, leAt b 12 4), (1, leAt b 16 1),
    (1, s.fw.otp.floor), (1, s.start.bundle), (1, s.start.profileActive), (4, leAt p 28 4), (1, s.lockState), (3, 0),
    (4, leAt lock 144 4), (2, s.sec.latch), (2, 0), (4, s.sec.zeroisations), (1, s.rootsPresent), (7, 0), (16, s.fingerprint 0),
    (16, s.fingerprint 1), (16, s.fingerprint 2), (16, s.fingerprint 3), (32, 0)]

/-- The attestation body (Table SE-8). -/
def State.attestBody (s : State) (nonce : Nat) : Bytes := packLe (s.attestFields nonce)

/-- The attestation seed (Table SE-3). -/
def State.attestSeed (s : State) : Nat := kdf s.fw.otp.identitySeed 8 [s.fw.otp.eui]

/-- ATTEST_REPORT_READY: the body, and the signature over its SHA3-512 digest (R486). -/
def State.attestReady (s : State) : State :=
  match s.sec.attest with
  | none => s
  | some n =>
    (s.modSec fun x => { x with
      attest := none, report := s.attestBody n ++ natLe 4627 (Config.mldsaSign s.attestSeed (sha3 (s.attestBody n))) }).setAct
      Obj.SEC_ATTEST_STATUS 0

def execAttestReportReady (s : State) : Answer State := .next s.attestReady

/-! ### SEC turns off and on (Table PW-5a, R469) -/

/-- Volatile key content is lost when SEC goes off: slots and generations, cache, and every LOP2 session (R469, Table PW-5a). -/
def State.secOff (s : State) : State :=
  let s0 := s.endSessions fun _ => true
  let s1 := if s0.sec.attest.isSome then s0.setAct Obj.SEC_ATTEST_STATUS 0 else s0
  s1.modSec fun x => { x with
    slot := Vector.replicate 64 ⟨0, 0, 0⟩, cache := [], deriving_ := [], attest := none, report := [] }

/-- Everything of the region that a reset of core scope resets; what the AON rail or flash holds stays: seal value, store, latch,
count of zeroisations, active sources, the presence monitor (R90, R475, R481, R489). -/
def SecState.coreReset (x : SecState) : SecState :=
  { x with
    slot := Vector.replicate 64 ⟨0, 0, 0⟩, cache := [], hits := 0, misses := 0, evictions := 0, deriving_ := []
    entropyFail := false, reseedAt := 0, writing := none, waiting := [], switchAsn := none, attest := none, report := []
    nextWrap := (0, 0), flockWrap := (0, 0, 0), lastSource := 0, lastTick := 0, sealHeld := false, presClass := 0 }

end Sys2Proof.Machine
end

