-- ==== Sys2Proof/Machine/Images.lean ====
section
/-!
DEFINITION. Node images and update campaigns (08_flock_routing_chorus.md R286 to R295).
-/

namespace Sys2Proof.Machine

/-- Start a flash operation of an action object: its R46 status is 1 until FLASH_ACTION_DONE (R46). -/
def State.flashOp (s : State) (index addr arg : Nat) (data : Bytes) : State :=
  ({ s with fw := { s.fw with ops := s.fw.ops ++ [(⟨index, addr, arg, data⟩ : FlashOp)] } }).setAct index 1

/-! ### The image store (R287) -/

def State.modImage (s : State) (n : Fin 8) (f : Image → Image) : State :=
  { s with flock := { s.flock with image := vmod s.flock.image n f } }

/-- The image slot of a campaign's configuration. -/
def Campaign.image (c : Campaign) : Nat := ((c.cfg[8]?).getD 0).toNat

/-- A campaign runs. -/
def Campaign.runs (c : Campaign) : Bool := c.st == 1 || c.st == 2

/-- A running campaign uses an image slot. -/
def State.imageBusy (s : State) (n : Nat) : Bool := s.flock.camp.toList.any fun c => c.runs && c.image == n

/-- The slot and length of a write of FL_IMAGE_BEGIN. -/
def beginSlot (v : Nat) : Fin 8 := ⟨v / 2 ^ 29 % 8, by omega⟩

/-- Why a write of FL_IMAGE_BEGIN is refused (R286, R287). -/
def State.imageBeginCheck (s : State) (v : Nat) : Nat :=
  if 1048576 < v % 2 ^ 21 then 4 else if s.imageBusy (beginSlot v) then 5 else 0

def State.imageBeginPut (s : State) (v : Nat) : State :=
  let n := beginSlot v
  let s1 := s.modImage n fun _ => ⟨1, 0, v % 2 ^ 21, []⟩
  ({ s1 with flock := { s1.flock with imageSlot := n } }).flashOp Obj.FL_IMAGE_BEGIN (0x03200000 + n * 0x100000) n []

/-- FL_IMAGE_BEGIN: erases an image slot for staging (R287). -/
def State.imageBegin (s : State) (v : Nat) : State :=
  if s.domServes 3 ∧ s.imageBeginCheck v = 0 then (s.imageBeginPut v).accept Obj.FL_IMAGE_BEGIN (scalar v) else s

def execFlImageBegin (v : Nat) (s : State) : Answer State := .next (s.imageBegin v)

/-- Why a write of FL_IMAGE_STAGE is refused: it must start at the current length, while the slot is STAGING (R114, R287). -/
def State.imageStageCheck (s : State) (offset : Nat) (data : Bytes) : Nat :=
  if h : s.flock.imageSlot < 8 then
    let x := s.flock.image[(⟨s.flock.imageSlot, h⟩ : Fin 8)]
    if x.st ≠ 1 ∨ offset ≠ x.content.length ∨ 1048576 < offset + data.length then 6
    else if s.imageBusy s.flock.imageSlot then 5 else 0
  else 6

def State.imageStagePut (s : State) (data : Bytes) : State :=
  if h : s.flock.imageSlot < 8 then
    s.modImage ⟨s.flock.imageSlot, h⟩ fun x => { x with content := x.content ++ data }
  else s

/-- FL_IMAGE_STAGE: programs image bytes at the current length, before its response is sent (R114, R287). -/
def State.imageStage (s : State) (offset : Nat) (data : Bytes) : State :=
  if s.domServes 3 ∧ s.imageStageCheck offset data = 0 then (s.imageStagePut data).bumpRev Obj.FL_IMAGE_STAGE else s

def execFlImageStage (offset : Nat) (data : Bytes) (s : State) : Answer State := .next (s.imageStage offset data)

/-- The reason of Table FL-7 with which a slot's image fails, 0 when it passes; 5 is a flash read error. -/
def State.imageReason (s : State) (n : Fin 8) (readOk : Bool) : Nat :=
  let c := s.flock.image[n].content
  let len := leAt c 8 4
  let key := (c.drop (len - 7219)).take 2592
  let digest := sha3 key
  if !readOk then 5
  else if leAt c 0 4 ≠ 0x474D494E ∨ leAt c 4 2 ≠ 1 ∨ leAt c 6 1 < 0x0A ∨ 0x0C < leAt c 6 1 then 1
  else if 1048576 < len ∨ len ≠ c.length ∨ len < 64 + 7219 then 2
  else if !(List.range 4).any (fun i => s.cfgN Obj.FL_IMAGE_KEY_DIGEST i != 0 && s.cfgN Obj.FL_IMAGE_KEY_DIGEST i == digest) then 3
  else if !Config.mldsaOk key (sha3 (c.take (len - 4627))) (c.drop (len - 4627)) then 4
  else 0

/-- Why a write of FL_IMAGE_VERIFY is refused (R287). -/
def State.imageVerifyCheck (s : State) (n : Nat) : Nat := if 7 < n then 4 else if s.imageBusy n then 5 else 0

/-- FL_IMAGE_VERIFY: the checks of Table FL-7 begin (R287). -/
def State.imageVerifyPut (s : State) (n : Nat) : State := s.flashOp Obj.FL_IMAGE_VERIFY (0x03200000 + n * 0x100000) n []

def State.imageVerify (s : State) (n : Nat) : State :=
  if s.domServes 3 ∧ s.imageVerifyCheck n = 0 then (s.imageVerifyPut n).bumpRev Obj.FL_IMAGE_VERIFY else s

def execFlImageVerify (n : Nat) (s : State) : Answer State := .next (s.imageVerify n)

/-- The end of FL_IMAGE_VERIFY: VALID, or INVALID with its reason (R287). -/
def State.imageVerified (s : State) (n : Nat) (readOk : Bool) : State :=
  if h : n < 8 then
    let r := s.imageReason ⟨n, h⟩ readOk
    s.modImage ⟨n, h⟩ fun x => { x with st := if r = 0 then 2 else 3, reason := r }
  else s

/-! ### Campaigns (R288 to R294) -/

/-- FL_CAMPAIGN_CFG of a campaign: GROUP, PATH, SLOT, PERIOD, CH_OFFSET, MODE, PWR, BLOCK_SIZE, IMAGE, ROUNDS, CAMPAIGN_ID. -/
def State.campCfg (s : State) (n : Nat) : List Int := ((s.cfgVal Obj.FL_CAMPAIGN_CFG)[n]?).getD []

def fieldAt (v : List Int) (i : Nat) : Nat := ((v[i]?).getD 0).toNat

/-- Duration of a block frame from its transmit offset to its end fits a slot (R289). -/
def State.blockFits (s : State) (c : List Int) : Bool :=
  let p := fieldAt c 1
  if h : p < 6 then
    let n := fieldAt c 7 + 45 + fcsLen (fieldAt c 5)
    psduOk (fieldAt c 5) n &&
      decide (1000 * usHalfNs + txDuration (fieldAt c 5) n (s.preamble ⟨p, h⟩) false + 400 * usHalfNs ≤ s.tSlot)
  else false

/-- The members that a start fixes: records of the group and class whose link is ACTIVE or RESYNC (R289). -/
def State.campMembers (s : State) (c : List Int) : List Nat :=
  let cls := if h : fieldAt c 8 < 8 then leAt s.flock.image[(⟨fieldAt c 8, h⟩ : Fin 8)].content 6 1 else 0
  (s.flock.recs.filter fun x => x.2.cfg.groups.toList.contains (fieldAt c 0) && x.2.cfg.cls == cls
    && (x.2.link.st == 2 || x.2.link.st == 3)).map (·.1)

/-- Members that the start would make pinned (R261, R262). -/
def State.newPins (s : State) (fs : List Nat) : Nat :=
  (fs.filter fun f => match s.recOf f with | some r => !s.pinned f r | none => false).length

/-- Why a write of FL_CAMPAIGN_START is refused (R262, R289). -/
def State.campStartCheck (s : State) (n : Nat) : Nat :=
  if h : n < 4 then
    let c := s.campCfg n
    if s.flock.camp[(⟨n, h⟩ : Fin 4)].runs then 5
    else if s.flock.camp.toList.any (fun x => x.runs && fieldAt x.cfg 1 == fieldAt c 1 && fieldAt x.cfg 2 == fieldAt c 2) then 5
    else if fieldAt c 2 = 0 ∨ 62 ≤ fieldAt c 2 ∨ !s.blockFits c then 5
    else if !s.extMem ∨ 65536 < (s.campMembers c).length ∨ 12288 < s.pinnedCount + s.newPins (s.campMembers c) then 0x0D
    else 0
  else 4

/-- The enrolment of one member: a delivery of PRIORITY 3 that carries block 0 (R291). -/
def State.enrol (s : State) (n : Nat) (f : Nat) : State :=
  let s1 := s.takeReq
    { id := s.flock.nextReq, tag := 0, flock := f, priority := 3, flags := 0, gap := 0
      deadline := s.air + s.cfgN Obj.LINK_TXN_LIFE * secHalfNs, data := [], buf := 0, chorus := none, txn := none
      made := 0, sent := 0, skip := 0, lastStatus := 0x27, enrol := some n }
  s1.modRec f fun r => { r with route := { r.route with
    campaign := r.route.campaign - r.route.campaign / 4 ^ n % 4 * 4 ^ n + 4 ^ n } }

/-- FL_CAMPAIGN_START takes effect: the image is checked again, the members are fixed, the key is written and every member is sent
its enrolment (R288 to R291). -/
def State.campStartPut (s : State) (n : Fin 4) : State :=
  let c := s.campCfg n
  let put := fun (s : State) (x : Campaign) => { s with flock := { s.flock with camp := s.flock.camp.set n x } }
  let reason := if h : fieldAt c 8 < 8 then s.imageReason ⟨fieldAt c 8, h⟩ true else 2
  if reason ≠ 0 then
    (put s ⟨6, 10 + reason, 0, 0, [], 0, 0, 0, 0, c⟩).raise Ev.CAMPAIGN_FAILED n (10 + reason)
  else
    let len := if h : fieldAt c 8 < 8 then s.flock.image[(⟨fieldAt c 8, h⟩ : Fin 8)].content.length else 0
    let ms := s.campMembers c
    let b := (len + fieldAt c 7 - 1) / fieldAt c 7
    let s1 := put s ⟨1, 0, 1, 0, ms.map fun f => ⟨f, 0, 1⟩, 0, s.air / s.tSf + 64, 0, b, c⟩
    let s2 := if s.sec.slot[2].st = 0 then s1
      else s1.writeSlot ⟨6 + n, by omega⟩ 2 (kdf s.sec.slot[2].key 3 [fieldAt c 10, 0xF10000 + fieldAt c 0])
    ms.foldl (fun (s : State) (f : Nat) => s.enrol n f) s2

/-- FL_CAMPAIGN_START. -/
def State.campStart (s : State) (n : Nat) : State :=
  if s.campStartCheck n = 0 then (s.campStartPut ⟨n % 4, by omega⟩).accept Obj.FL_CAMPAIGN_START (scalar n) else s

def execFlCampaignStart (n : Nat) (s : State) : Answer State := .next (s.campStart n).settled

/-- FL_CAMPAIGN_STOP: a running campaign ends as STOPPED (R294). -/
def State.campStopPut (s : State) (n : Fin 4) : State := if s.flock.camp[n].runs then s.campEnd n 5 0 else s

def State.campStop (s : State) (n : Nat) : State :=
  if 3 < n then s else (s.campStopPut ⟨n % 4, by omega⟩).accept Obj.FL_CAMPAIGN_STOP (scalar n)

def execFlCampaignStop (n : Nat) (s : State) : Answer State := .next (s.campStop n).settled

/-- Members whose record is empty or DETACHED are dropped and count as failed (R289); a campaign without members left to serve is
COMPLETE (R294). -/
def State.campReview (s : State) (n : Fin 4) : State :=
  let c := s.flock.camp[n]
  let ms := c.members.map fun (m : Member) => if m.st = 1 ∧ ((s.recOf m.flock).map (·.link.st)).getD 0 = 0 then { m with st := 3 } else m
  let s1 := { s with flock := { s.flock with camp := vmod s.flock.camp n fun c => { c with members := ms } } }
  if c.runs ∧ ms.all (fun m => m.st != 1) then (s1.campEnd n 3 0).raise Ev.CAMPAIGN_DONE n else s1

/-- Block `b` is to be sent in the running round: every block in round 1, later those that some enrolled member lacks (R292). -/
def Campaign.wants (c : Campaign) (b : Nat) : Bool :=
  c.round ≤ 1 || c.members.any fun m => m.st == 1 && !m.held.testBit b

/-- The next block of the round at or after `b`. -/
def Campaign.nextBlock (c : Campaign) : Nat → Nat → Option Nat
  | 0, _ => none
  | k + 1, b => if c.blocks ≤ b then none else if c.wants b then some b else c.nextBlock k (b + 1)

/-- The round ends: the next one begins, or ROUNDS have ended and the campaign is EXHAUSTED (R294). -/
def State.campRound (s : State) (n : Fin 4) : State :=
  let c := s.flock.camp[n]
  if fieldAt c.cfg 9 ≤ c.round then s.campEnd n 4 0
  else { s with flock := { s.flock with camp := vmod s.flock.camp n fun c => { c with round := c.round + 1, next := 0 } } }

/-- A chorus attempt is booked in a slot; it takes the slot from the campaign (R285). -/
def State.chorusInSlot (s : State) (slot : Nat) : Bool :=
  s.mesh.txns.any fun t => t.kind == .chorus && t.st != .queued && t.start / s.tSlot == slot

/-- The channel of a campaign in an absolute slot (R292). -/
def State.blockChannel (s : State) (c : Campaign) (p : Fin 6) (slot : Nat) : Nat :=
  hopChannel (s.mapInForce p).1 (s.mapInForce p).2 (s.cfgN Obj.MESH_HOP_SEED) slot (fieldAt c.cfg 4)

/-- Its carrier in kHz. -/
def State.blockKhz (s : State) (c : Campaign) (p : Fin 6) (slot : Nat) : Nat := (s.channelKhz p (s.blockChannel c p slot)).getD 0

/-- The PSDU length of a block frame: BLOCK_SIZE + 49 octets, with the FCS of its mode (R289). -/
def blockLen (c : Campaign) : Nat := fieldAt c.cfg 7 + 45 + fcsLen (fieldAt c.cfg 5)

/-- The whole milliseconds of a block's transmission, which the duty rules count (R292). -/
def State.blockMs (s : State) (c : Campaign) (p : Fin 6) : Nat :=
  ceilMs (txDuration (fieldAt c.cfg 5) (blockLen c) (s.preamble p) false)

/-- The S of an absolute slot. -/
def State.blockStart (s : State) (slot : Nat) : HalfNs := slot * s.tSlot + 1000 * usHalfNs

/-- The frame of block `b`, under the campaign key (R290, R292). -/
def State.blockFrame (s : State) (n : Fin 4) (c : Campaign) (slot b : Nat) : AirOut :=
  let tag := 0xF10000 + fieldAt c.cfg 0
  { frameType := 1, pre := false, src := s.memberTag, dest := tag, ar := false, key := 4
    keyVal := s.sec.slot[(⟨6 + n, by omega⟩ : Fin 64)].key, counter := c.counter, asn := slot / 64 % 2 ^ 40, pending := false
    ies := [.addr tag s.memberTag, .campaign n b c.blocks], body := 3 :: s.blockData c b, ackOf := none }

/-- The transaction of block `b` in entry `i`; `gap` keeps the block's number (R285, R292). -/
def State.blockTxn (s : State) (n : Fin 4) (c : Campaign) (p : Fin 6) (slot b i : Nat) : Txn :=
  { id := i, kind := .block n, st := .booked, flock := 0xFFFFFFFF, path := p, start := s.blockStart slot
    channel := s.blockChannel c p slot, handle := 0, ms := s.blockMs c p, account := s.accountFor (s.blockKhz c p slot) (fieldAt c.cfg 5)
    attempts := 0, deadline := s.blockStart slot + s.tSf, refusal := 0, stage := 0, respond := false, gap := b
    data := s.blockData c b, req := none, nodeTag := 0xF10000 + fieldAt c.cfg 0, mode := fieldAt c.cfg 5
    chOffset := fieldAt c.cfg 4, counter := c.counter, host := false }

/-- The transmit command of a block's transaction (R292). -/
def State.blockCmd (s : State) (n : Fin 4) (c : Campaign) (p : Fin 6) (slot b i : Nat) : TxCmd :=
  ⟨0, s.blockStart slot, s.blockKhz c p slot, fieldAt c.cfg 5, blockLen c, false, s.preamble p, fieldAt c.cfg 6, false, false,
    .txn i 0, s.blockMs c p, s.accountFor (s.blockKhz c p slot) (fieldAt c.cfg 5), .mac (s.blockFrame n c slot b), false⟩

/-- Block `b` goes on its way in entry `i`, its budget reserved: state `s1` after the reservation that state `s` asked for. -/
def State.blockPut (s s1 : State) (n : Fin 4) (p : Fin 6) (slot b i : Nat) : State :=
  let s2 := (s1.addTxn (s.blockTxn n s.flock.camp[n] p slot b i)).txCommand p (s.blockCmd n s.flock.camp[n] p slot b i)
  { s2 with flock := { s2.flock with camp := vmod s2.flock.camp n fun c => { c with st := 2, counter := c.counter + 1, next := b + 1 } } }

/-- Block `b` in an absolute slot under entry `i`: its budgets are reserved, and it is sent unless one of them refuses (R292). -/
def State.sendBlockAs (s : State) (n : Fin 4) (p : Fin 6) (slot b i : Nat) : State :=
  let c := s.flock.camp[n]
  let khz := s.blockKhz c p slot
  let r := s.dutyReserve (bandOf p) (s.accountFor khz (fieldAt c.cfg 5)) (s.blockMs c p)
  if !r.1 then r.2
  else if !s.dwellFits (bandOf p) (some (s.blockChannel c p slot)) khz (fieldAt c.cfg 5) (s.blockMs c p) then
    r.2.dutyRelease (bandOf p) (s.accountFor khz (fieldAt c.cfg 5)) (s.blockMs c p)
  else s.blockPut r.2 n p slot b i

/-- A block's [S, E) in an absolute slot keeps clear of what Drover may not book over (R200, R203, R204, R213). -/
def State.blockClear (s : State) (c : Campaign) (p : Fin 6) (slot : Nat) : Bool :=
  s.mayBook p (2 ^ 32) (s.blockStart slot)
    (s.blockStart slot + txDuration (fieldAt c.cfg 5) (blockLen c) (s.preamble p) false)

/-- Send block `b` in an absolute slot: one transaction with one attempt, when the table has an entry and the slot is free (R292). -/
def State.sendBlock (s : State) (n : Fin 4) (p : Fin 6) (slot b : Nat) : State :=
  if !s.blockClear s.flock.camp[n] p slot then s
  else (s.freeTxn.map fun i => s.sendBlockAs n p slot b i).getD s

/-- CAMPAIGN_BLOCK: at the next occurrence of the multicast schedule one block is sent, unless a chorus attempt has the slot, the
duty or booking rules refuse, or SEC serves no key; a round may end (R285, R292, R294). -/
def State.campBlock (s : State) (n : Fin 4) : State :=
  let s := s.campReview n
  let c := s.flock.camp[n]
  if h : c.runs = true ∧ fieldAt c.cfg 1 < 6 then
    let p : Fin 6 := ⟨fieldAt c.cfg 1, h.2⟩
    let now := s.air + 220 * usHalfNs
    let period := max 1 (fieldAt c.cfg 3)
    let at_ := fun (k : Nat) => ((c.firstAsn + k * period) * 64 + fieldAt c.cfg 2)
    let sf := now / s.tSf
    let k0 := (sf - c.firstAsn) / period
    let k := if now ≤ at_ k0 * s.tSlot + 1000 * usHalfNs then k0 else k0 + 1
    let slot := at_ k
    let s := s.toAir (slot * s.tSlot + 1000 * usHalfNs - 220 * usHalfNs)
    if !s.extMem ∨ !s.secServes ∨ !s.domOn (pathDomain p) ∨ s.chorusInSlot slot then s
    else
      let c := s.flock.camp[n]
      match c.nextBlock (c.blocks + 1) c.next with
      | none => s.campRound n
      | some b =>
        let s1 := s.sendBlock n p slot b
        let c1 := s1.flock.camp[n]
        if c1.next = b + 1 ∧ (c1.nextBlock (c1.blocks + 1) (b + 1)).isNone then s1.campRound n else s1
  else s

def execCampaignBlock (n : Fin 4) (s : State) : Answer State := .next (s.campBlock n).settled

end Sys2Proof.Machine
end

