-- ==== Sys2Proof/Machine/Contain.lean ====
section
/-!
DEFINITION. Arbitration, containment of errors, chip-level handling and the engines (01_architecture.md R10 to R22;
17_faults_and_events.md R552 to R554).
-/

namespace Sys2Proof.Machine

def State.modFlt (s : State) (f : FltState → FltState) : State := { s with flt := f s.flt }

/-! ### Arbitration (R10 to R12, Table AC-3) -/

/-- Change the arbiter of a region; an arbiter is numbered by its region code (Table AC-1). -/
def State.modArb (s : State) (region : Nat) (f : Arbiter → Arbiter) : State :=
  { s with arb := s.arb.mapIdx fun i a => if i + 1 = region then f a else a }

/-- How far a requester stands behind the one granted last in its class, round-robin (R11). -/
def Arbiter.turn (a : Arbiter) (q : ArbReq) : Nat :=
  (q.who + 2 ^ 32 - 1 - (a.last[q.cls]?).getD 0 % 2 ^ 32) % 2 ^ 32

/-- A request goes before another: by its class, within one class by its turn (R11). -/
def Arbiter.before (a : Arbiter) (q r : ArbReq) : Bool :=
  decide (q.cls < r.cls) || (q.cls == r.cls && decide (a.turn q < a.turn r))

/-- The request that is granted next, none when nothing waits (R11). -/
def Arbiter.next (a : Arbiter) : Option ArbReq :=
  match a.waiting with
  | [] => none
  | q :: qs => some (qs.foldl (fun (b : ArbReq) (x : ArbReq) => if a.before x b then x else b) q)

/-- A request that has waited through 64 grants since it was made or promoted, and can be promoted: one of class 2, 3 or 4 (R12). -/
def ArbReq.due (q : ArbReq) : Bool := decide (64 ≤ q.waited) && decide (2 ≤ q.cls) && decide (q.cls ≤ 4)

/-- The request one class up (R12). -/
def ArbReq.up (q : ArbReq) : ArbReq := { q with cls := q.cls - 1, waited := 0 }

/-- One grant: the request leaves, every other one has waited through a grant more (R11, R12). -/
def Arbiter.grant (a : Arbiter) : Arbiter :=
  match a.next with
  | none => a
  | some g =>
    { waiting := (a.waiting.erase g).map fun q => { q with waited := q.waited + 1 }
      last := a.last.setIfInBounds g.cls g.who }

/-- A promotion is counted for its region (R12). -/
def State.countPromotion (s : State) (region cls : Nat) : State :=
  (s.count Obj.ARB_PROMOTIONS (region - 1)).emit (.promoted region cls)

/-- The arbiter of a region grants a request and promotes those that have now waited through 64 grants (R11, R12). -/
def State.grant (s : State) (region : Nat) : State :=
  match s.arb[region - 1]? with
  | none => s
  | some a =>
    let g := a.grant
    (g.waiting.filter ArbReq.due).foldl (fun (s : State) (q : ArbReq) => s.countPromotion region (q.cls - 1))
      (s.modArb region fun _ => { g with waiting := g.waiting.map fun q => if q.due then q.up else q })

/-- One grant of every arbiter at which a request waits (R11). -/
def State.grants (s : State) : State :=
  (List.range 15).foldl (fun (s : State) (i : Nat) =>
    if ((s.arb[i]?).map fun a => a.waiting.isEmpty).getD true then s else s.grant (i + 1)) s

/-- The request of a requester in a class. -/
def ArbReq.isOf (who cls : Nat) (q : ArbReq) : Bool := q.who == who && q.cls == cls

/-- REQUEST_PROMOTION: a request of class 2, 3 or 4 that has waited through 64 grants of its region's arbiter is promoted one class, never
into class 0; it waits with that class until it is granted, and the region's promotion counter rises (R12). A request that the arbiter
does not hold yet is entered with its promoted class. -/
def State.promote (s : State) (region who cls : Nat) : State :=
  if region < 1 ∨ 15 < region ∨ cls < 2 ∨ 4 < cls then s
  else
    (s.modArb region fun a => { a with
      waiting := if a.waiting.any (ArbReq.isOf who cls) then a.waiting.map fun q => if q.isOf who cls then q.up else q
        else a.waiting ++ [⟨who, cls - 1, 0⟩] }).countPromotion region (cls - 1)

def execRequestPromotion (region who cls : Nat) (s : State) : Answer State := .next (s.promote region who cls)

/-! ### Fault records (R552, R553) -/

/-- The version of the running bundle as a number (Table FT-4, VERSION). -/
def State.version (s : State) : Nat := leAt s.runningBundle 12 4

/-- Write a fault record to the on-chip list; it waits for its flash write, and the AON registers keep a copy (R552, R553). The
captured region state is a free value (log entry 1). -/
def State.writeRecord_ (s : State) (code region block cell action tries : Nat) : State :=
  let r : FaultRec := ⟨code, region, block, cell, action, tries, ts96 s.mono, s.flt.recSeq, s.start.count, s.version,
    s.draw.1 % 2 ^ 1504⟩
  s.drawn.modFlt fun x => { x with
    records := (r :: x.records).take 64
    recPending := x.recPending ++ [r]
    aonCopy := some r
    recSeq := (x.recSeq + 1) % 2 ^ 32
    recCount := min (x.recCount + 1) 0xFFFFFFFF }

/-! ### Safe states (R17, Table AC-5) -/

/-- Every transmission of a path stops: what runs is cut, what waits ends, with a status. -/
def State.stopPath (s : State) (p : Fin 6) (status : Nat) : State := (s.cutTx p status).endQueue p status

/-- The snapshot pipeline stops: what it holds ends with CAPACITY (R17, Table AC-5). -/
def State.nimbusStop (s : State) : State :=
  let s1 := (s.endSnQueue 0x0D).endSolving
  match s1.snap.running with
  | some j => (s1.modSnap fun y => { y with running := none }).jobEnd j 0x0D
  | none => s1

/-- What follows within the device when a region is held: the safe states of Table AC-5, and the end of the work that the
held region itself was doing. Statuses that the spec does not state are free values (log entry 1). -/
def State.holdEffects (s : State) (region : Nat) : State :=
  match region with
  | 2 => s.endSessions fun _ => true
  | 5 => s.endFrags 0x0D
  | 6 => (List.finRange 6).foldl (fun (s : State) (p : Fin 6) =>
      if (s.path p).st = 0 then s
      else (s.stopPath p 0x0A).modPath p fun x => { x.withQueue [] with st := 9, running := none, cal := none, lockCarrier := none }) s
  | 7 => s.mesh.txns.foldl (fun (s : State) (t : Txn) => s.drawn.endTxn t (freeError s.draw.1)) s
  | 9 => s.gnssStop
  | 10 => s.nimbusStop
  | 11 =>
    let s1 := (List.finRange 6).foldl (fun (s : State) (p : Fin 6) => s.drawn.stopPath p (freeTxStatus s.draw.1)) s
    (s1.tpRefresh 0).tpRefresh 1
  | _ => s

/-! ### Chip level (R14 to R17, R22, R552 to R555) -/

/-- The chip-level decision on an error: AON and PWR go on (ACTION 3), SYS fails (ACTION 2), any other region is held (ACTION
1). An error in a region already held is only counted (R554). A region held again within 600 s of its release is not released again
(R555). -/
def State.chipLevel (s : State) (region block cell tries engine : Nat) : State :=
  let s := s.count Obj.CONTAIN_COUNTS (region - 1) 3
  if s.isHeld region then s
  else if region = 0xC ∨ region = 0xD then
    let s1 := s.writeRecord_ (Ev.FAULT_RECORDED region) region block cell 3 tries
    s1.raiseF (Ev.FAULT_RECORDED region) 0xFF block s.flt.recSeq 2
  else if region = 1 then
    let s1 := s.writeRecord_ (Ev.REGION_HELD region) region block cell 2 tries
    let s2 := s1.raiseF (Ev.REGION_HELD region) 0xFF block engine 2
    let s3 := { s2 with eng := vmod s2.eng 0 fun x => { x with st := 3 } }
    s3.modFlt fun x => { x with supFailedAt := some (x.supFailedAt.getD s.mono) }
  else
    let again := s.flt.released.any fun p => p.1 == region && decide (s.mono ≤ p.2 + 600 * secHalfNs)
    let s1 := s.writeRecord_ (Ev.REGION_HELD region) region block cell 1 tries
    let s2 := s1.modFlt fun x => { x with
      held := x.held ++ [region], refused := if again then x.refused ++ [region] else x.refused }
    ((s2.raiseF (Ev.REGION_HELD region) 0xFF block engine 2).setIrq 1).holdEffects region

/-! ### Containment (R14 to R16) -/

/-- The work of a cell that fails ends with an error status, whose code the spec does not state for most blocks (log entry 1); what a spare
or a peer cell can hold goes there (R14, R16). A cache line's content is evicted; a key slot's key is lost, and a session whose key it was
ends; a transaction entry's transaction ends; a satellite whose tracking channel is lost is assigned anew. -/
def State.cellLost (s : State) (region block cell : Nat) : State :=
  match region, block with
  | 2, 6 =>
    let s1 := s.endSessions fun x => x.auth && x.keySlot == cell
    if h : cell < 64 then s1.eraseSlot ⟨cell, h⟩ else s1
  | 2, 7 => s.modSec fun x => { x with cache := x.cache.take s.keyLines }
  | 7, 8 => match s.txnOf cell with
    | some t => s.drawn.endTxn t (freeError s.draw.1)
    | none => s
  | 8, 0 => { s with flock := { s.flock with cache := s.flock.cache.take s.flockLines } }
  | 9, 2 => s.modGnss fun g => { g with chans := g.chans.filter fun c => c.num != cell }
  | _, _ => s

/-- A cell is retired until the next reset of its region; its work ends or goes elsewhere, and a retired channeliser lane or 2.4 GHz lane
stops receiving (R16, R173). The spec numbers neither blocks nor, but for lanes and channels, cells: the blocks of a region stand in the
order in which Table AC-1 lists them, those that Table AC-2 adds after them (DESIGN CHOICE, log entry 9). -/
def State.retireCell (s : State) (region block cell : Nat) : State :=
  if s.flt.retired.contains ⟨region, block, cell⟩ then s
  else
    let s1 := s.modFlt fun x => { x with retired := x.retired ++ [⟨region, block, cell⟩] }
    if region = 7 ∧ block = 0 ∧ cell < 160 then s1.retireLane ⟨cell / 40 % 4, by omega⟩ (cell % 40)
    else if region = 7 ∧ block = 1 ∧ cell < 8 then s1.retireLane ⟨4 + cell / 4 % 2, by omega⟩ (cell % 4)
    else s1.cellLost region block cell

/-- The block level contains an error (R14, R15): its counter rises, BLOCK_CONTAINED is raised, and the failed cell, if one is named, is
retired. -/
def State.blockContained (s : State) (region block cell : Nat) : State :=
  let s1 := (s.count Obj.CONTAIN_COUNTS (region - 1) 1).raise (Ev.BLOCK_CONTAINED region) 0xFF block cell
  if cell = 0xFFFF then s1 else s1.retireCell region block cell

/-- The time limit of a level (Table AC-4). -/
def levelLimit : Nat → HalfNs
  | 0 => usHalfNs
  | 1 => 100 * usHalfNs
  | _ => 10 * msHalfNs

/-! ### Engines (R18 to R22) -/

/-- The region of an engine (Table AC-6). -/
def engineRegion : Nat → Nat
  | 0 => 1
  | 5 => 9
  | 6 => 9
  | 7 => 2
  | _ => 7

/-- The paths that an engine serves (Table AC-6): DRVn serves SGn, DRV0 also WB0, DRV2 also WB1. -/
def enginePaths : Nat → List Nat
  | 1 => [0, 4]
  | 2 => [1]
  | 3 => [2, 5]
  | 4 => [3]
  | _ => []

/-- The work in flight on an engine that stops ends with an engine-restart status, whose code the spec does not state (R19, R21, R322,
R361; log entry 1). -/
def State.engineStops (s : State) (n : Nat) : State :=
  match n with
  | 5 => s.modGnss fun g => { g with chans := g.chans.map fun c => { c with openAt := some (c.openAt.getD s.mono) } }
  | 6 => s.endSolving
  | 7 => s.zeroise 32
  | _ => (s.mesh.txns.filter fun t => (enginePaths n).contains t.path.val && (t.st == .onAir || t.st == .awaitReply)).foldl
      (fun (s : State) (t : Txn) => s.drawn.endTxn t (freeError s.draw.1)) s

/-- The restarts of an engine within the last 60 s of TB_MONO (R22). -/
def State.recentRestarts (s : State) (e : Engine) : List HalfNs := e.recent.filter fun t => decide (s.mono < t + 60 * secHalfNs)

/-- A watchdog expiry: the engine is restarted, or, restarted three times within the last 60 s, is held in the failed state as a
chip-level error of its region (R19, R22). The SEC engine's expiry zeroises (R19); the event of region SYS comes before those of SEC
(Table AC-8). -/
def State.watchdog (s : State) (n : Fin 8) : State :=
  let e := s.eng[n]
  if e.st = 0 ∨ e.st = 3 then s
  else
    let stop := fun (s : State) => if n.val = 0 then s else s.engineStops n
    if 3 ≤ (s.recentRestarts e).length then
      (stop { s with eng := s.eng.set n { e with st := 3 } }).chipLevel (engineRegion n) 0 0xFFFF 0 n
    else
      stop (({ s with eng := s.eng.set n { e with
        st := 2, restarts := min (e.restarts + 1) 0xFFFFFFFF, last := ts96 s.mono
        recent := s.mono :: s.recentRestarts e } } : State).raise Ev.ENGINE_RESTART n)

/-- ENGINE_WATCHDOG_EXPIRY of an engine other than SUP (R19, R21, R22). -/
def execEngineWatchdogExpiry (n : Fin 8) (s : State) : Answer State :=
  .next (if n.val = 0 then s else (s.watchdog n).settled)

/-- SUP_WATCHDOG_EXPIRY: hardware restarts SUP; the data plane and the management plane continue (R20, R22). -/
def execSupWatchdogExpiry (s : State) : Answer State := .next (s.watchdog 0)

end Sys2Proof.Machine
end

