-- ==== Sys2Proof/Machine/Ports.lean ====
section
/-!
DEFINITION. The host, network and memory ports: interrupts, the six data rings and their descriptors, Ethernet ports, external
memory and flash (15_host_and_network_ports.md).
-/

namespace Sys2Proof.Machine

def State.modHost (s : State) (f : HostState → HostState) : State := { s with host := f s.host }

/-! ### Interrupts (R495) -/

/-- IRQ_STATUS_WRITE: the bits written as 1 are cleared; vector 0 is sent again while an enabled bit stays set (R495). -/
def State.irqClear (s : State) (m : Nat) : State :=
  if !s.hostServes then s
  else
    let v := s.host.irqStatus - (s.host.irqStatus &&& m)
    let s1 := s.modHost fun h => { h with irqStatus := v }
    if v &&& s.host.irqEnable ≠ 0 ∧ s.host.busMaster then s1.emit (.msix 0) else s1

/-! ### Rings (R498 to R512) -/

/-- A failure that stops a ring: ERROR, RING_ERROR, IRQ_STATUS bit 3 (R510). -/
def State.ringError (s : State) (n : Fin 6) (code : Nat) : State :=
  ((s.setRing n { s.host.ring[n] with st := 3, error := code }).raise Ev.RING_ERROR n code).setIrq 3

/-- Entries a ring holds (R500). -/
def Ring.fill (r : Ring) : Nat := (r.prod + 2 ^ 32 - r.cons) % 2 ^ 32

/-- The host produces into the ring (R498). -/
def hostProduces (n : Fin 6) : Bool := n.val == 0 || n.val == 2

/-- RING_DOORBELL: the host moves the index it owns; on a disabled ring the write is counted and ignored; a move backward, or
beyond ENTRIES, puts the ring in ERROR (R500, R501). An index that the device owns is read-only. -/
def State.doorbell (s : State) (n : Fin 6) (isProd : Bool) (v : Nat) : State :=
  let r := s.host.ring[n]
  if !s.hostServes ∨ isProd ≠ hostProduces n then s
  else if r.st = 0 then s.count Obj.BAR0_BAD_ACCESS
  else if r.st = 3 then s
  else
    let r1 : Ring := if isProd then { r with prod := v % 2 ^ 32 } else { r with cons := v % 2 ^ 32 }
    if s.ringCfg n 2 < r1.fill ∨ (isProd ∧ r1.fill < r.fill) ∨ (!isProd ∧ r.fill < r1.fill) then s.ringError n 0x42
    else if isProd then s.setRing n r1
    else
      let r2 := if r1.fill = 0 then { r1 with modCount := 0, modSince := none } else r1
      (s.setRing n r2).drainRings

/-- Why a write of an element of RING_CFG is refused (R499, R507). -/
def State.ringCfgCheck (s : State) (n : Nat) (v : List Int) : Nat :=
  let f := fun i => ((v[i]?).getD 0).toNat
  if v.length ≠ 7 ∨ v.any (· < 0) ∨ 2 ^ 64 ≤ f 0 ∨ 2 ^ 64 ≤ f 1 ∨ f 0 % 4096 ≠ 0 ∨ f 1 % 64 ≠ 0
      ∨ ! [64, 128, 256, 512, 1024, 2048, 4096].contains (f 2) ∨ 7 < f 3 ∨ 1 < f 4 ∨ f 5 = 0 ∨ 256 < f 5 ∨ 1000 < f 6 then 4
  else if s.ringCfg n 4 = 1 ∧ [0, 1, 2, 3, 5, 6].any (fun i => s.ringCfg n i != f i) then 5
  else if f 4 = 1 ∧ !s.host.busMaster then 5
  else if f 4 = 1 ∧ s.cfgN Obj.HOST_RING_FORMAT = 1 ∧ 4 ≤ n then 5
  else 0

/-- A ring is disabled: it loses the records that wait in staging, and they are counted (R511). -/
def State.ringOff (s : State) (n : Fin 6) : State :=
  let k := (s.host.staging.filter fun p => p.1 == n.val).length
  let s1 := if k = 0 then s else s.count Obj.RING_DROPS n 0 k
  s1.modHost fun h => { h with
    staging := h.staging.filter fun p => p.1 != n.val
    bufs := if n.val = 2 then [] else h.bufs
    ring := h.ring.set n ⟨0, 0, h.ring[n].prod, h.ring[n].cons, 0, none⟩ }

/-- A ring is enabled: both indices start at 0; ring 1 then takes the completions held (R500, R511). -/
def State.ringOn (s : State) (n : Fin 6) : State :=
  let s1 := s.setRing n ⟨1, 0, 0, 0, 0, none⟩
  if n.val = 1 then
    (s1.host.held.foldl (fun (s : State) (r : RingRec) => s.postRing 1 r) (s1.modHost fun h => { h with held := [] }))
  else s1

/-- An accepted write of an element of RING_CFG takes effect, while HOST serves (R48, R499). -/
def State.ringCfgPut (s : State) (n : Fin 6) (v : List Int) : State :=
  let was := s.ringCfg n 4
  let s1 := s.cfgPut Obj.RING_CFG ((s.cfgVal Obj.RING_CFG).set n v)
  if !s1.domServes 4 then s1
  else if was = 0 ∧ s1.ringCfg n 4 = 1 then s1.ringOn n else if was = 1 ∧ s1.ringCfg n 4 = 0 then s1.ringOff n else s1

/-- RING_CFG_WRITE of element `n`, by object, or through BAR2, where a write that fails its check is ignored and counted
(R499). -/
def State.ringCfgWrite (s : State) (n : Fin 6) (v : List Int) (bar2 : Bool) : State :=
  if s.ringCfgCheck n v = 0 then (s.ringCfgPut n v).bumpRev Obj.RING_CFG
  else if bar2 then s.count Obj.RING_CFG_REJECTS
  else s

/-- A host-produced ring can be read: it runs, bus mastering is on, the host has announced an entry (R502, R512). -/
def State.canFetch (s : State) (n : Fin 6) : Bool :=
  s.hostServes && s.host.busMaster && s.host.ring[n].st == 1 && s.host.ring[n].fill != 0

/-- The device has read one descriptor: its consumer index moves and is written back (R500). -/
def State.fetched (s : State) (n : Fin 6) : State :=
  let r := s.host.ring[n]
  let c := (r.cons + 1) % 2 ^ 32
  (s.setRing n { r with cons := c }).writeback n c

/-- A ring-0 descriptor completes on ring 1 at once, without becoming a request (R510). -/
def State.complete0 (s : State) (tag status flock : Nat) : State := s.postRing 1 (.dlDone tag status false 0 0 flock (ts96 s.air))

/-- Fetch one ring-0 descriptor, unless R242 stops fetching; a fault of the access, or an unaligned buffer, stops the ring
(R502, R510). Answers whether the descriptor can be worked on. -/
def State.fetch0 (s : State) (buf : Nat) (dmaOk : Bool) : Bool × State :=
  if !s.canFetch 0 ∨ s.domGone 6 ∨ s.hostRoom ≤ s.hostTxns ∨ s.freeTxn = none then (false, s)
  else if !dmaOk then (false, s.ringError 0 0x41)
  else if buf % 64 ≠ 0 then (false, s.ringError 0 0x43)
  else (true, s.fetched 0)

/-- The fields of a chorus request record hold (Table FL-5, R205). -/
def State.chorusOk (s : State) (c : ChorusReq) : Bool :=
  (modeOf c.mode).isSome && c.mode != 0x20 && decide (c.chOffset ≤ 39) && s.sniffOk c.sniff && c.map != 0
    && decide (1 ≤ c.attempts) && decide (c.attempts ≤ 8)

/-- The fields of a DELIVERY descriptor hold (Table FL-2, Table HP-7 to Table HP-9). What else than TYPE, LENGTH and CHORUS fails has no
status of its own: BAD_DESCRIPTOR too (DESIGN CHOICE, log entry 110). -/
def State.deliveryOk (s : State) (d : Bytes) (q : DelReq) : Bool :=
  leAt d 0 1 == 0x01 && decide (1 ≤ leAt d 2 2) && decide (leAt d 2 2 ≤ 1024) && decide (q.priority ≤ 3) && decide (q.gap ≤ 63)
    && ts96Valid (s.descDeadline d) && !(s.ringV1 && q.chorus.isSome)
    && (match q.chorus with | some c => s.chorusOk c | none => true)

/-- DELIVERY: a descriptor of ring 0 becomes a delivery request, or completes at once (R273 to R275, R505, R507, R510). -/
def State.delivery (s : State) (d data : Bytes) (dmaOk : Bool) : State :=
  match s.fetch0 (leAt d 8 8) dmaOk with
  | (false, s1) => s1
  | (true, s1) =>
    let q := s1.reqFrom d data
    if s1.deliveryOk d q then s1.takeReq q else s1.complete0 q.tag 0x40 q.flock

def execDelivery (d data : Bytes) (dmaOk : Bool) (s : State) : Answer State := .next (s.delivery d data dmaOk).settled

/-- The START of a legacy transmission: the one given, or the first slot start + 1,000 µs at least 220 µs ahead (R506). -/
def State.legacyStart (s : State) (start : Nat) : HalfNs :=
  if start ≠ 0 then ts96Half start
  else (s.air + 220 * usHalfNs - 1000 * usHalfNs + s.tSlot - 1) / s.tSlot * s.tSlot + 1000 * usHalfNs

/-- The fields of a LEGACY_TX descriptor hold; format 1 has no such type (R507, Table HP-7). -/
def State.legacyOk (s : State) (d : Bytes) : Bool :=
  leAt d 0 1 == 0x02 && !s.ringV1 && decide (2 ≤ leAt d 2 2) && decide (leAt d 2 2 ≤ 255) && decide (leAt d 20 1 ≤ 3)
    && decide (leAt d 21 1 ≤ 31) && ts96Valid (leAt d 24 12)

/-- The one attempt of a legacy transmission: its transaction, charged and booked (R506). What the duty, dwell and booking rules refuse ends
at once with DUTY_DENIED, DWELL_DENIED or EXPIRED, since no other instant remains (R200, R203, R213, R243). -/
def State.legacySend (s : State) (d data : Bytes) (p : Fin 6) (id : Nat) : State :=
  let psdu := data.take (leAt d 2 2)
  let tag := leAt d 4 4
  let carrier := leAt d 16 4
  let start := s.legacyStart (leAt d 24 12)
  let ms := ceilMs (txDuration 0x20 psdu.length (s.preamble p) false)
  let a := s.accountFor carrier 0x20
  let (ok, s1) := s.dutyReserve (bandOf p) a ms
  if !ok then s1.complete0 tag 0x20 0xFFFFFFFF
  else if !s1.dwellFits (bandOf p) (s1.khzChannel p carrier) carrier 0x20 ms then
    ((s1.dutyRelease (bandOf p) a ms).count (inst Obj.DWELL_DENIALS (bandInst (bandOf p)))).complete0 tag 0x21 0xFFFFFFFF
  else if !s1.mayBook p (2 ^ 32) start (start + txDuration 0x20 psdu.length (s.preamble p) false) then
    (s1.dutyRelease (bandOf p) a ms).complete0 tag 0x27 0xFFFFFFFF
  else
    let req : DelReq :=
      { id := s1.flock.nextReq, tag := tag, flock := 0xFFFFFFFF, priority := 0, flags := 0, gap := 0, deadline := start
        data := psdu, buf := leAt d 8 8, chorus := none, txn := some id, made := 0, sent := 0, skip := 0, lastStatus := 0
        enrol := none }
    let t : Txn :=
      { id := id, kind := .hostData, st := .booked, flock := 0xFFFFFFFF, path := p, start := start, channel := 0, handle := 0
        ms := ms, account := a, attempts := 0, deadline := start, refusal := 0, stage := 0, respond := false, gap := 0
        data := psdu, req := some req.id, nodeTag := 0, mode := 0x20, chOffset := 0, counter := 0, host := true }
    let s2 := { s1 with flock := { s1.flock with nextReq := s1.flock.nextReq + 1, reqs := s1.flock.reqs ++ [req] } }
    (s2.addTxn t).bookCmd p ⟨0, start, carrier, 0x20, psdu.length, false, s2.preamble p, leAt d 21 1, (leAt d 22 1).testBit 0, false,
      .txn id 0, ms, a, .raw psdu, false⟩

/-- LEGACY_TX: one transaction with exactly one attempt in mode 0x20 (R506). -/
def State.legacyTx (s : State) (d data : Bytes) (dmaOk : Bool) : State :=
  let r := s.fetch0 (leAt d 8 8) dmaOk
  if !r.1 then r.2
  else (s.freeTxn.map fun id =>
    if s.legacyOk d then r.2.legacySend d data ⟨leAt d 20 1 % 6, by omega⟩ id
    else r.2.complete0 (leAt d 4 4) 0x40 0xFFFFFFFF).getD r.2

def execLegacyTx (d data : Bytes) (dmaOk : Bool) (s : State) : Answer State := .next (s.legacyTx d data dmaOk).settled

/-- BUFFER: an empty buffer of ring 2 is fetched ahead, at most 64 of them, and records that wait may be written; a descriptor of another
type or with a LENGTH stops the ring (R502, R504, Table HP-9). -/
def State.buffer (s : State) (d : Bytes) (dmaOk : Bool) : State :=
  if !s.canFetch 2 ∨ 64 ≤ s.host.bufs.length then s
  else if !dmaOk then s.ringError 2 0x41
  else if leAt d 0 1 ≠ 0x10 ∨ leAt d 2 2 ≠ 0 then s.ringError 2 0x40
  else if leAt d 8 8 % 64 ≠ 0 then s.ringError 2 0x43
  else ((s.fetched 2).modHost fun h => { h with bufs := h.bufs ++ [leAt d 8 8] }).drainRings

def execBuffer (d : Bytes) (dmaOk : Bool) (s : State) : Answer State := .next (s.buffer d dmaOk)

/-- RING_MODERATION_TIMEOUT: MOD_TIME after the first record since the ring's last message, the message is sent (R509). -/
def State.moderation (s : State) (n : Fin 6) : State :=
  match s.host.ring[n].modSince with
  | none => s
  | some t =>
    if !s.hostServes ∨ !s.host.busMaster ∨ s.host.ring[n].st = 0 then s
    else (s.toMono (t + s.ringCfg n 6 * usHalfNs)).signalRing n

def execRingModerationTimeout (n : Fin 6) (s : State) : Answer State := .next (s.moderation n)

/-! ### Configuration requests (R101, R492) -/

/-- PCIE_CONFIG_REQUEST: answered with Retry Status until SUP serves the dictionary, normally afterwards (R101). `link` is what
the link has trained to (R492), `master` a write of the command register's bus-mastering bit. -/
def State.pcieConfig (s : State) (link : Nat × Nat × Bool) (master : Option Bool) : State :=
  if !s.hostServes then s
  else
    let s1 := s.modHost fun h => { h with link := link }
    if !s.start.cfgServed then s1.emit (.pcieConfig true)
    else
      let s2 := (s1.modHost fun h => { h with busMaster := master.getD h.busMaster }).emit (.pcieConfig false)
      if s2.host.busMaster then s2.drainRings else s2

def execPcieConfigRequest (link : Nat × Nat × Bool) (master : Option Bool) (s : State) : Answer State :=
  .next (s.pcieConfig link master)

/-! ### Ethernet (R513 to R515) -/

/-- The port runs: NET is on and not held, and the port has a mode. -/
def State.ethOn (s : State) (e : Fin 2) : Bool := s.domOn 5 && !s.isHeld 4 && s.cfgN (inst Obj.ETH_MODE e) != 0

/-- The speed of a mode in Mb/s (R513). -/
def ethSpeed (mode : Nat) : Nat := if mode = 2 then 2500 else 1000

/-- The link of a port changes: the event, and PTP on the port waits for the latency measurement (R373, R515). -/
def State.ethLink (s : State) (e : Fin 2) (up : Bool) : State :=
  if s.port.eth[e].up = up ∨ (up ∧ !s.ethOn e) then s
  else
    let v := if up then ethSpeed (s.cfgN (inst Obj.ETH_MODE e)) else 0
    let s1 := { s with port := { s.port with eth := vmod s.port.eth e fun x => { x with up := up, speed := v, measured := false } } }
    if up then s1.raise Ev.ETH_LINK_UP e v else s1.raise Ev.ETH_LINK_DOWN e

def execEthLinkChange (e : Fin 2) (up : Bool) (s : State) : Answer State := .next (s.ethLink e up)

/-- ETH_MAC of a port: its default is the OTP address, ETH1's the ETH0 address + 1 (Table HP-12). -/
def State.ethMac (s : State) (e : Fin 2) : Nat :=
  let v := s.cfgN (inst Obj.ETH_MAC e)
  if v = 0 then (s.fw.otp.mac + e.val) % 2 ^ 48 else v

/-- The link-local IPv6 address formed from ETH_MAC: the modified EUI-64 under fe80::/64 (R514; log entry 10). -/
def State.linkLocal (s : State) (e : Fin 2) : Nat :=
  let m := s.ethMac e
  0xFE80 * 2 ^ 112 + ((m / 2 ^ 24) ^^^ 0x020000) * 2 ^ 40 + 0xFFFE * 2 ^ 24 + m % 2 ^ 24

/-- A frame's contents are traffic that the port accepts (R514). -/
def State.ethAccepts (s : State) (e : Fin 2) (k : EthKind) : Bool :=
  let v4 := s.cfgN (inst Obj.ETH_IPV4 e)
  let v6 := s.cfgN (inst Obj.ETH_IPV6 e)
  match k with
  | .ptpL2 => true
  | .udp _ port => port == 319 || port == 320 || ((s.cfgN Obj.LOREF_UDP_ENABLE).testBit e
      && (port == s.cfgN Obj.LOREF_UDP_PORT2 || port == s.cfgN Obj.LOREF_UDP_PORT1))
  | .arp t _ => v4 != 0 && t == v4
  | .icmpEcho t _ _ => v4 != 0 && t == v4
  | .icmp6Echo t _ _ => (v6 != 0 && t == v6) || t == s.linkLocal e
  | .neighbour t _ => (v6 != 0 && t == v6) || t == s.linkLocal e
  | .pause => false
  | .other => false

/-- Send a frame of a kind: 1 ARP reply, 2 echo reply, 3 ICMPv6 echo reply, 4 neighbour advertisement, each with its destination and source
addresses; 5 a Loref response, with the address and port that it goes to and the port that it comes from. Every frame sent carries ETH_VLAN
when it is not 0 (R79, R514). -/
def State.ethSend (s : State) (e : Fin 2) (kind : Nat) (fields : List Nat) (data : Bytes) : State :=
  (s.count (inst Obj.ETH_COUNTS e) 1).emit (.eth e kind (s.cfgN (inst Obj.ETH_VLAN e)) fields data)

/-- ETH_FRAME: a frame is counted, then accepted or discarded (R513, R514). PTP and Loref frames act by their own commands. -/
def State.ethFrame (s : State) (e : Fin 2) (f : EthArg) : State :=
  let c := inst Obj.ETH_COUNTS e
  let vlan := s.cfgN (inst Obj.ETH_VLAN e)
  if !s.ethOn e ∨ !s.port.eth[e].up then s
  else if !f.fcsOk then s.count c 2
  else
    let s1 := s.count c 0
    if 1522 < f.len ∨ 1 < f.vlans.length ∨ (vlan ≠ 0 ∧ f.vlans ≠ [vlan]) ∨ !s.ethAccepts e f.kind then s1.count c 3
    else match f.kind with
      | .ptpL2 => s1.count c 4
      | .udp _ port => if port = 319 ∨ port = 320 then s1.count c 4 else s1.count c 5
      | .arp t from_ => s1.ethSend e 1 [f.mac, s1.ethMac e, t, from_] []
      | .icmpEcho t from_ data => s1.ethSend e 2 [f.mac, s1.ethMac e, t, from_] data
      | .icmp6Echo t from_ data => s1.ethSend e 3 [f.mac, s1.ethMac e, t, from_] data
      | .neighbour t from_ => s1.ethSend e 4 [f.mac, s1.ethMac e, t, from_] []
      | _ => s1

def execEthFrame (e : Fin 2) (f : EthArg) (s : State) : Answer State := .next (s.ethFrame e f)

/-! ### External memory and flash (R516 to R519) -/

/-- A Flock record is marked BAD: FLOCK_RECORD_BAD, and its transactions end with LINK_LOST (R517). -/
def State.markBad (s : State) (f : Nat) : State :=
  if (s.recOf f).isNone ∨ s.flock.bad.contains f then s
  else
    let s1 := { s with flock := { s.flock with
      bad := s.flock.bad ++ [f], cache := s.flock.cache.erase f, fetching := s.flock.fetching.erase f } }
    (s1.mesh.txns.filter fun t => t.flock == f).foldl (fun (s : State) (t : Txn) => s.endTxn t 0x25)
      (s1.raise Ev.FLOCK_RECORD_BAD 0xFF f)

/-- An uncorrectable error: contained at block level; MEM_ECC_UE with its address (R517). -/
def State.eccUe (s : State) (addr : Nat) (flock : Option Nat) : State :=
  let s1 := ((s.count Obj.MEM_ECC_COUNTS 1).blockContained 5 0 0xFFFF).raise Ev.MEM_ECC_UE 0xFF (addr % 2 ^ 32)
    (addr / 2 ^ 32)
  match flock with | some f => s1.markBad f | none => s1

/-- SCRUB_PASS: a pass over all of memory found `fixed` corrected errors and the uncorrectable ones listed, each with its address
and, when it lies in a Flock record, the Flock number (R517). -/
def State.scrub (s : State) (fixed : Nat) (bad : List (Nat × Option Nat)) : State :=
  if !s.extMem then s
  else
    let s1 := (s.count Obj.MEM_ECC_COUNTS 0 0 fixed).count Obj.CONTAIN_COUNTS 4 0 fixed
    (bad.foldl (fun (s : State) (b : Nat × Option Nat) => s.eccUe b.1 b.2) s1).count Obj.MEM_ECC_COUNTS 2

def execScrubPass (fixed : Nat) (bad : List (Nat × Option Nat)) (s : State) : Answer State := .next (s.scrub fixed bad).settled

/-- A program or erase failed: counted, and FLASH_PROG_FAIL with the address (R519). -/
def State.flashFailed (s : State) (erase : Bool) (addr : Nat) : State :=
  (s.count Obj.MEM_FLASH_COUNTS (if erase then 2 else 1)).raise Ev.FLASH_PROG_FAIL 0xFF addr

/-- The flash address of a boot directory copy (Table SU-4). -/
def dirAddr (k : Nat) : Nat := k * 0x1000

/-- A directory copy whose write has failed is not valid, so the former directory stays current (R107). -/
def State.dirLost (s : State) (addr : Nat) : State :=
  { s with fw := { s.fw with dir := s.fw.dir.mapIdx fun k c => if dirAddr k = addr then [] else c } }

/-- The flash area of the fault records, the 1 MiB after the event archive (R552, Table SU-4). -/
def inRecordArea (addr : Nat) : Bool := decide (0x03100000 ≤ addr) && decide (addr < 0x03200000)

/-- FLASH_OPERATION_DONE: a program or erase that no action object started ends, after `suspends` suspensions, of which one erase takes
at most 16 (R519). A failed one of a directory copy loses that copy (R107). A program in the fault record area is the write of the oldest pending record (R552). -/
def State.flashDone (s : State) (addr : Nat) (erase ok : Bool) (suspends : Nat) : State :=
  if s.port.flashSt ≠ 1 ∨ (erase ∧ 16 < suspends) then s
  else
    let s1 := if suspends = 0 then s else s.count Obj.MEM_FLASH_COUNTS 0 0 suspends
    if !ok then (s1.flashFailed erase addr).dirLost addr
    else if inRecordArea addr ∧ !erase then
      match s1.flt.recPending with
      | r :: rs => s1.modFlt fun x => { x with recPending := rs, recFlash := (r :: x.recFlash).take 4096 }
      | [] => s1
    else s1

def execFlashOperationDone (addr : Nat) (erase ok : Bool) (suspends : Nat) (s : State) : Answer State :=
  .next (s.flashDone addr erase ok suspends)

/-! ### Time-base capture (R496) -/

/-- TS_CAPTURE: every time base at one counter instant, with the counter, whose origin is the model's (log entry 11), and the next
SEQ. -/
def State.tsCapture (s : State) (v : Nat) : State :=
  if !s.domOn 17 ∨ v % 2 = 0 then s
  else s.modHost fun h => { h with
    capture := ((h.capture[0]?).getD 0 + 1) % 65536 :: s.mono % 2 ^ 64
      :: s.time.base.toList.flatMap fun b => [ts96 b.now, b.flags, b.st] }

end Sys2Proof.Machine
end

