-- ==== Sys2Proof/Machine/Uart.lean ====
section
/-!
DEFINITION. The asynchronous serial ports (16_uarts.md) and the test access port (18_signals_and_balls.md R573).
-/

namespace Sys2Proof.Machine

def State.modUart (s : State) (n : Fin 4) (f : Uart → Uart) : State :=
  { s with uart := { s.uart with port := vmod s.uart.port n f } }

/-- A UART setting. -/
def State.uartN (s : State) (n : Fin 4) (base : Nat) (f : Nat := 0) : Nat := s.cfgN (inst base n) 0 f

/-- Loref owns the UART (R525). -/
def State.uartLoref (s : State) (n : Fin 4) : Bool :=
  n.val < 2 && s.cfgN Obj.LOREF_RS485_ENABLE / 2 ^ n.val % 2 == 1

/-- DATA, PARITY and STOP in effect: Loref uses 9-bit mode, no parity, one stop bit (R524, R525). -/
def State.uartFrame (s : State) (n : Fin 4) : Nat × Nat × Nat :=
  if s.uartLoref n then (9, 0, 1)
  else (s.uartN n Obj.UART_FRAME 0, s.uartN n Obj.UART_FRAME 1, s.uartN n Obj.UART_FRAME 2)

/-- The UART region serves. -/
def State.uartServes (s : State) : Bool := s.domServes 1 && !s.isHeld 0xE

/-- The receiver, the transmitter is enabled. -/
def State.uartRxOn (s : State) (n : Fin 4) : Bool := s.uartServes && (s.uartN n Obj.UART_ENABLE).testBit 0
def State.uartTxOn (s : State) (n : Fin 4) : Bool := s.uartServes && (s.uartN n Obj.UART_ENABLE).testBit 1

/-! ### Rates (R523) -/

/-- DIV × 16 nearest to a rate: OSR × rate × DIV = 192 MHz, DIV at least 1. -/
def uartDiv (osr baud : Nat) : Nat :=
  let d := osr * baud
  max 16 ((2 * 192000000 * 16 + d) / (2 * d))

/-- UART_BAUD_ACTUAL for a rate and oversampling ratio (R523). The spec's example rounds to nearest. -/
def uartActual (osr baud : Nat) : Nat :=
  let d := osr * uartDiv osr baud
  (2 * 192000000 * 16 + d) / (2 * d)

/-- The achieved rate lies within 0.5 % of the one asked for, and does not exceed 12 Mb/s (R523). -/
def uartRateOk (osr baud : Nat) : Bool :=
  let d := osr * uartDiv osr baud
  let num := 192000000 * 16
  let diff := (num - baud * d) + (baud * d - num)
  decide (diff * 200 ≤ baud * d) && decide (num ≤ 12000000 * d)

/-- The duration of a bit at a rate: OSR × DIV periods of the kernel clock, 192 MHz, or the 64 MHz RC before the switch to the PLLs (R523). -/
def State.bitTime (s : State) (n : Fin 4) : HalfNs :=
  let osr := s.uartN n Obj.UART_OSR
  osr * uartDiv osr (s.uartN n Obj.UART_BAUD) * secHalfNs / (16 * (if s.start.clock = 0 then 64000000 else 192000000))

/-- The bits of a character: start, data, parity unless none, stop (R524). -/
def frameBits (f : Nat × Nat × Nat) : Nat := 1 + f.1 + (if f.2.1 = 0 then 0 else 1) + f.2.2

/-- The character time (R524). -/
def State.charTime (s : State) (n : Fin 4) : HalfNs := frameBits (s.uartFrame n) * s.bitTime n

/-! ### Flow control (R538) -/

/-- RTS_N after the receive FIFO or a setting has changed. -/
def State.rtsRefresh (s : State) (n : Fin 4) : State :=
  if n.val < 2 then s
  else
    let k := s.uart.port[n].rx.length
    let rts :=
      if s.uartN n Obj.UART_FLOW_ENABLE = 0 ∨ !s.uartRxOn n then false
      else if s.uartN n Obj.UART_RTS_LEVELS 0 ≤ k then false
      else if k ≤ s.uartN n Obj.UART_RTS_LEVELS 1 then true
      else s.uart.port[n].rts
    s.modUart n fun u => { u with rts := rts }

/-! ### Reception (R526 to R535) -/

/-- Put an entry into the receive FIFO; when it holds 64, the entry is lost (R530, R531). -/
def State.rxPush (s : State) (n : Fin 4) (e : Nat) : State :=
  let u := s.uart.port[n]
  let c := inst Obj.UART_COUNTS n
  if 64 ≤ u.rx.length then
    let s1 := (s.modUart n fun u => { u with lost := true, overrun := true }).count c 5
    if u.overrun then s1 else s1.raise Ev.UART_OVERRUN n
  else
    let e := if u.lost then e + 2 ^ 13 else e
    let s1 := (s.modUart n fun u => { u with rx := u.rx ++ [e], lost := false }).rtsRefresh n
    if s.uartN n Obj.UART_RX_NOTIFY ≤ u.rx.length + 1 ∧ !u.ready then
      (s1.modUart n fun u => { u with ready := true }).raise Ev.UART_RX_READY n (u.rx.length + 1)
    else s1

/-- The receiver within a character (R526, R527). Positions count in parts of which `scale` make a bit: OSR on the main clock, 32,768 on the
slow clock; `pos` is that of the sample before, the fractional accumulator of slow-clock mode. `level` is the level after the last edge, `last`
and `before` the two samples before, `centre` the next bit centre once the first edge is confirmed, `votes` the number of high samples among
the three of each bit decided, the latest first. -/
structure Rx where
  level : Bool
  last : Bool
  before : Bool
  pos : Nat
  centre : Option Nat
  votes : List Nat
deriving DecidableEq, Repr

/-- A level change that this sample confirms is an edge, dated to the sample before; it puts the next bit centre half a bit after its date
(R526). -/
def Rx.edge (r : Rx) (scale : Nat) (x : Bool) : Rx :=
  if r.last ≠ r.level ∧ x = r.last then { r with level := x, centre := some (r.pos + scale / 2) } else r

/-- The sample after the one nearest to a bit centre decides the bit, by the three around that centre; the next centre lies one bit later
unless an edge moves it (R526, R527). -/
def Rx.decide (r : Rx) (scale step : Nat) (x : Bool) : Rx :=
  match r.centre with
  | some m =>
    if r.pos = (2 * m + step) / (2 * step) * step then
      { r with centre := some (m + scale), votes := (r.before.toNat + r.last.toNat + x.toNat) :: r.votes }
    else r
  | none => r

/-- One sample, `step` parts after the one before (R526). -/
def Rx.sample (scale step : Nat) (r : Rx) (x : Bool) : Rx :=
  let r1 := (r.edge scale x).decide scale step x
  { r1 with before := r1.last, last := x, pos := r1.pos + step }

/-- The votes of the bits of a character on a line, sampled from the first low sample of its falling edge on; the line was high before
(R526, R527). -/
def rxVotes (scale step : Nat) (line : List Bool) : List Nat :=
  match line with
  | [] => []
  | x :: xs => (xs.foldl (Rx.sample scale step) ⟨true, x, true, 0, none, []⟩).votes.reverse

/-- Parts of a bit, and parts from one sample to the next, of a receiver: UART_OSR samples a bit, or the slow clock while UART0 receives by
it (R526, R540). -/
def State.rxClock (s : State) (n : Fin 4) : Nat × Nat :=
  if n.val = 0 ∧ (s.uart.slowRx ∨ !s.domServes 1) then (32768, s.uart.slowBaud) else (s.uartN n Obj.UART_OSR, 1)

/-- What a character decides to, bit by bit: each bit by the majority of its three samples, of which `samples` gives the number that
were high, the start bit first (R527, R528, Table UA-4). None is a false start. -/
def decideChar (data parity : Nat) (samples : List Nat) : Option Nat :=
  let bit := fun i => decide (2 ≤ (samples[i]?).getD 0)
  if bit 0 then none
  else
    let v := ((List.range data).map fun i => if bit (i + 1) then 2 ^ i else 0).sum
    let ones := ((List.range data).filter fun i => bit (i + 1)).length
    let p := bit (data + 1)
    let pe := match parity with
      | 0 => false
      | 1 => p != (ones % 2 == 1)
      | 2 => p != (ones % 2 == 0)
      | 3 => !p
      | _ => p
    let stop := bit (data + 1 + (if parity = 0 then 0 else 1))
    let noise := (samples.take (data + 2 + (if parity = 0 then 0 else 1))).any fun k => k == 1 || k == 2
    some (v + (if pe then 2 ^ 9 else 0) + (if stop then 0 else 2 ^ 10) + (if noise then 2 ^ 12 else 0))

/-- Count what an entry carries: received, PE, FE, NOISE (Table UA-5). -/
def State.countEntry (s : State) (n : Fin 4) (e : Nat) : State :=
  let c := inst Obj.UART_COUNTS n
  let s1 := s.count c 0
  let s2 := if e.testBit 9 then s1.count c 2 else s1
  let s3 := if e.testBit 10 then s2.count c 3 else s2
  if e.testBit 12 then s3.count c 4 else s3

/-- Address wake is armed (R541). -/
def State.wakeArmed (s : State) : Bool :=
  (s.cfgN Obj.PW_WAKE_ENABLE).testBit 1 && s.uart.slowRx && (s.uart.slowFrame.1 == 9 || s.uartLoref 0) && s.uart.port[0].high

/-- Store a character in the wake buffer of 1,040 entries, or discard and count it (R542). -/
def State.wakeStore (s : State) (e : Nat) (gap : Bool) : State :=
  if s.uart.wake.length < 1040 then { s with uart := { s.uart with wake := s.uart.wake ++ [(e, gap)] } }
  else s.count (inst Obj.UART_COUNTS 0) 8

/-- The bits that a receiver decides in a character: up to and including the first stop bit (R527, R528). -/
def decidedBits (f : Nat × Nat × Nat) : Nat := f.1 + 2 + (if f.2.1 = 0 then 0 else 1)

/-- What a receiver makes of a line: nothing while the character is not whole, or while RX has not been high at all, for that ends as a break
(R532); otherwise the character, or none for a false start (R527). -/
def State.rxDecide (s : State) (n : Fin 4) (f : Nat × Nat × Nat) (line : List Bool) : Option (Option Nat) :=
  let votes := rxVotes (s.rxClock n).1 (s.rxClock n).2 line
  match votes with
  | [] => none
  | v :: _ =>
    if 2 ≤ v then some none
    else if votes.length < decidedBits f ∨ line.all (fun x => !x) then none
    else some (decideChar f.1 f.2.1 votes)

/-- A character at the slow-clock receiver while SYS is not on: it is stored after a match, may be the match, or is discarded
(R541, R542). -/
def State.slowChar (s : State) (line : List Bool) (gap : Bool) : State :=
  match s.rxDecide 0 (if s.uartLoref 0 then (9, 0, 1) else s.uart.slowFrame) line with
  | some (some e) =>
    if s.uart.woken then s.wakeStore e gap
    else if s.wakeArmed ∧ e.testBit 8 ∧ e % 2 ^ 8 = s.uart.slowAddr ∧ s.uart.slowAddr ≠ 0 ∧ !e.testBit 10 then
      ({ s with uart := { s.uart with woken := true, wake := [(e, false)] } }).wakeSource 1
    else s
  | _ => s

/-- DE of a UART is asserted now (R537). -/
def State.deNow (s : State) (n : Fin 4) : Bool := s.uart.port[n].de && decide (s.uart.port[n].deAt ≤ s.mono)

/-- The receiver discards what comes: it is off, the line is in a break or stuck, or DE is asserted without UART_ECHO (R532, R535). -/
def State.rxDeaf (s : State) (n : Fin 4) : Bool :=
  !s.uartRxOn n || decide (2 ≤ s.uart.port[n].line) || (decide (n.val < 2) && s.deNow n && s.uartN n Obj.UART_ECHO == 0)

/-- The end of a character whose stop bit has just been decided at its centre (R82, R528). -/
def State.rxEnds (s : State) (n : Fin 4) : State := s.modUart n fun u => { u with rxEnd := s.mono + s.bitTime n / 2 }

/-- UART_BREAK: RX low for one character time; one entry with BREAK and FE, and none further while the line stays low (R532). -/
def State.uartBreak (s : State) (n : Fin 4) : State :=
  let s1 := s.modUart n fun u => { u with line := if u.line < 2 then 2 else u.line, high := false }
  if !s.uartRxOn n ∨ 2 ≤ s.uart.port[n].line then s1
  else
    let s2 := (s1.count (inst Obj.UART_COUNTS n) 6).raise Ev.UART_BREAK n
    if s.uartLoref n then s2 else s2.rxPush n (2 ^ 11 + 2 ^ 10)

def execUartBreak (n : Fin 4) (s : State) : Answer State := .next (s.uartBreak n)

/-- UART_STUCK: RX low for UART_STUCK_MS (R532). -/
def State.uartStuck (s : State) (n : Fin 4) : State :=
  if !s.uartRxOn n ∨ s.uart.port[n].line = 3 then s
  else (s.modUart n fun u => { u with line := 3, stuck := true, high := false }).raise Ev.UART_STUCK n

def execUartStuck (n : Fin 4) (s : State) : Answer State := .next (s.uartStuck n)

/-- UART_LINE_OK: RX high for one character time; the line is idle again, and UART_LINE_OK is raised if UART_STUCK was (R532,
R541). -/
def State.uartLineOk (s : State) (n : Fin 4) : State :=
  let s1 := s.modUart n fun u => { u with line := 0, stuck := false, high := true }
  if s.uart.port[n].stuck then s1.raise Ev.UART_LINE_OK n else s1

def execUartLineOk (n : Fin 4) (s : State) : Answer State := .next (s.uartLineOk n)

/-- UART_RX_IDLE: RX idle for four character times while entries are held raises UART_RX_READY, once between reads (R533). -/
def State.uartIdle (s : State) (n : Fin 4) : State :=
  let u := s.uart.port[n]
  if !s.uartServes ∨ u.rx.isEmpty ∨ u.ready then s
  else (s.modUart n fun u => { u with ready := true }).raise Ev.UART_RX_READY n u.rx.length

def execUartRxIdle (n : Fin 4) (s : State) : Answer State := .next (s.uartIdle n)

/-- Why a read of UART_RX_DATA is refused: ELEMENT other than 0, or Loref owns the UART (R525, R534). -/
def State.rxDataCheck (s : State) (n : Fin 4) (element : Nat) : Nat :=
  if s.uartLoref n then 2 else if element ≠ 0 then 6 else 0

/-- The entries that a read of UART_RX_DATA takes, 0 for all (R534). -/
def State.rxDataTake (s : State) (n : Fin 4) (k : Nat) : List Nat :=
  if k = 0 then s.uart.port[n].rx else s.uart.port[n].rx.take k

def State.rxDataPut (s : State) (n : Fin 4) (k : Nat) : State :=
  (s.modUart n fun u => { u with
    rx := if k = 0 then [] else u.rx.drop k, overrun := false, ready := false }).rtsRefresh n

/-- UART_RX_DATA: a read takes the oldest `k` entries, all of them for 0 (R534). -/
def State.rxData (s : State) (n : Fin 4) (element k : Nat) : State :=
  if !s.uartServes ∨ s.rxDataCheck n element ≠ 0 then s else (s.rxDataPut n k).emit (.uartRead n (s.rxDataTake n k))

def execUartRxData (n : Fin 4) (element k : Nat) (s : State) : Answer State := .next (s.rxData n element k)

/-! ### Transmission (R536 to R539) -/

/-- When DE is asserted for a first character: at once, for a Loref response no earlier than one character time after the request's last
character (R82, R537). -/
def State.deStart (s : State) (n : Fin 4) : HalfNs :=
  if s.uartLoref n then max s.mono (s.uart.port[n].rxEnd + s.charTime n) else s.mono

/-- Start the next character, when the transmitter is enabled and flow control lets it start: with DE asserted already, at once, otherwise
UART_DE_LEAD bit times after DE (R536 to R538). -/
def State.txKick (s : State) (n : Fin 4) : State :=
  let u := s.uart.port[n]
  match u.sending, u.tx with
  | none, c :: cs =>
    if !s.uartTxOn n ∨ (2 ≤ n.val ∧ s.uartN n Obj.UART_FLOW_ENABLE = 1 ∧ !u.cts) then s
    else
      let de : HalfNs := if u.de then u.deAt else s.deStart n
      let start : HalfNs := if 2 ≤ n.val ∨ u.de then s.mono else de + s.uartN n Obj.UART_DE_LEAD * s.bitTime n
      (s.modUart n fun u => { u with sending := some c, tx := cs, tail := false, de := n.val < 2, deAt := de }).emit (.uart n c start)
  | _, _ => s

/-- Why a write of UART_TX_DATA is refused: too few free entries, or Loref owns the UART (R525, R536). -/
def State.txDataCheck (s : State) (n : Fin 4) (v : List Nat) : Nat :=
  if s.uartLoref n then 2 else if 64 < s.uart.port[n].tx.length + v.length then 0x0D else 0

def State.txDataPut (s : State) (n : Fin 4) (v : List Nat) : State :=
  (s.modUart n fun u => { u with tx := u.tx ++ v.map (· % 512) }).txKick n

/-- UART_TX_DATA: a write appends characters, all or none (R536). -/
def State.txData (s : State) (n : Fin 4) (v : List Nat) : State :=
  if !s.uartServes ∨ s.txDataCheck n v ≠ 0 then s else (s.txDataPut n v).bumpRev (inst Obj.UART_TX_DATA n)

def execUartTxData (n : Fin 4) (v : List Nat) (s : State) : Answer State := .next (s.txData n v)

/-- UART_CHARACTER_SENT: the next character starts at once, or the DE tail begins (R536, R537). -/
def State.charSent (s : State) (n : Fin 4) : State :=
  let u := s.uart.port[n]
  if u.sending.isNone then s
  else
    let s1 := (s.modUart n fun u => { u with sending := none }).count (inst Obj.UART_COUNTS n) 1
    if u.tx.isEmpty then s1.modUart n fun u => { u with tail := u.de } else s1.txKick n

def execUartCharacterSent (n : Fin 4) (s : State) : Answer State := .next (s.charSent n)

/-- DE_TAIL_EXPIRY: DE is released (R537). -/
def execDeTailExpiry (n : Fin 4) (s : State) : Answer State :=
  .next (if s.uart.port[n].tail then s.modUart n fun u => { u with tail := false, de := false } else s)

/-- CTS_N_CHANGE: CTS_N of UART2 or UART3 changes; a character that waits starts once it is low (R538). -/
def State.ctsChange (s : State) (n : Fin 4) (low : Bool) : State :=
  if n.val < 2 then s else (s.modUart n fun u => { u with cts := low }).txKick n

def execCtsNChange (n : Fin 4) (low : Bool) (s : State) : Answer State := .next (s.ctsChange n low)

/-- SYS begins isolation: a transmission in progress is cut, DE is released without its tail, the transmit FIFO is emptied
(R539). -/
def State.uartIsolate (s : State) : State :=
  (List.finRange 4).foldl (fun (s : State) (n : Fin 4) =>
    s.modUart n fun u => { u with sending := none, tx := [], de := false, tail := false, rts := false }) s

/-- The AON copies of UART0's settings and of LOREF_RS485_ADDRESS take their values (R540). -/
def State.uartCopies (s : State) : State :=
  { s with uart := { s.uart with
    slowRx := s.cfgN Obj.UART_SLOW_RX == 1
    slowBaud := s.uartN 0 Obj.UART_BAUD
    slowFrame := (s.uartN 0 Obj.UART_FRAME 0, s.uartN 0 Obj.UART_FRAME 1, s.uartN 0 Obj.UART_FRAME 2)
    slowAddr := s.cfgN Obj.LOREF_RS485_ADDRESS } }

/-- The rates of the slow-clock receiver (Table UA-1). -/
def slowRates : List Nat := [300, 600, 1200, 2400, 4800]

/-! ### The test access port (R573) -/

/-- IDCODE (R573). -/
def idcode : Nat := 0x141605AB

/-- TEST_ACCESS_PORT_INSTRUCTION: 0 BYPASS, 1 IDCODE, 2 SAMPLE/PRELOAD with what is shifted into the cells, 3 EXTEST, which takes
effect only while RST_N is held low and else acts as BYPASS (R573). What the sampled balls read is a free value (log entry 1); any other
code is BYPASS. -/
def State.tapRun (s : State) (code data : Nat) : State :=
  match code with
  | 1 => ({ s with tap := { s.tap with instruction := 1 } }).emit (.jtag 1 idcode)
  | 2 => ({ s.drawn with tap := ⟨2, data⟩ }).emit (.jtag 2 s.draw.1)
  | 3 => if s.start.inReset ∧ s.start.sources.testBit 3 then ({ s with tap := { s.tap with instruction := 3 } }).emit (.jtag 3 s.tap.cells)
    else ({ s with tap := { s.tap with instruction := 0 } }).emit (.jtag 0 0)
  | _ => ({ s with tap := { s.tap with instruction := 0 } }).emit (.jtag 0 0)

def execTestAccessPortInstruction (code data : Nat) (s : State) : Answer State := .next (s.tapRun code data)

end Sys2Proof.Machine
end

