-- ==== Sys2Proof/Machine/PwrCmds.lean ====
section
/-!
DEFINITION. Transitions of the power domains (13_power_domains.md R435 to R457) and the loss of the reference
(19_electrical_and_package.md R584).
-/

namespace Sys2Proof.Machine

/-! ### What a domain loses and gains -/

/-- Stop an engine, or start it. -/
def State.engSt (s : State) (n : Fin 8) (st : Nat) : State := { s with eng := vmod s.eng n fun x => { x with st := st } }

/-- Links of both Ethernet ports are down (R515). -/
def State.ethAllDown (s : State) : State := (s.ethLink 0 false).ethLink 1 false

/-- The rings stop; ENABLE stays as it is in the running configuration (R430, R49). -/
def State.ringsStop (s : State) : State :=
  (List.finRange 6).foldl (fun (s : State) (n : Fin 6) => if s.host.ring[n].st = 0 then s else s.ringOff n) s

/-- A reset of the HOST region clears every ENABLE (R512). -/
def State.ringsOff (s : State) : State :=
  (List.finRange 6).foldl (fun (s : State) (n : Fin 6) =>
    if s.ringCfg n 4 = 1 then s.cfgPut Obj.RING_CFG (valSet (s.cfgVal Obj.RING_CFG) n 4 0) else s) s.ringsStop

/-- The rings take their settings from the running configuration: one that is enabled there starts, one that is not stops (R49, R499). -/
def State.ringsLoad (s : State) : State :=
  (List.finRange 6).foldl (fun (s : State) (n : Fin 6) =>
    if s.ringCfg n 4 = 1 ∧ s.host.ring[n].st = 0 then s.ringOn n
    else if s.ringCfg n 4 = 0 ∧ s.host.ring[n].st ≠ 0 then s.ringOff n else s) s

/-- Counters and status values of a domain's objects return to their Default column as its reset is released (R8, R448, Table PW-4). -/
def State.clearDomainRo (s : State) (d : Nat) : State := { s with ro := s.ro.filter fun p => objDomain p.1 != d }

/-- What the MESH region keeps in registers and loses in off; the maps come from the running configuration, and so do the neighbours, each
as never heard (R202, R226, R430). -/
def State.meshLost (s : State) : State :=
  { s with mesh := { MeshState.reset with
    per := Vector.ofFn fun (p : Fin 6) => { PathMesh.reset with
      map := s.cfgN (inst Obj.MESH_CHMAP p), c0 := s.cfgN (inst Obj.MESH_CHMAP_C0 p), retired := s.mesh.per[p].retired }
    nbr := Vector.ofFn fun (i : Fin 16) => ⟨if s.cfgN Obj.MESH_NBR_CFG i 0 = 0 then 0 else 4, 0, 0, 0, 0⟩
    beaconCtr := s.mesh.beaconCtr, edgeAsn := s.mesh.edgeAsn, replay := s.mesh.replay, ctrOut := s.mesh.ctrOut
    chorusHigh := s.mesh.chorusHigh } }

/-- The TIME domain returns: TB_MONO resumes from the slow clock, the other bases are PROVISIONAL with the value that the AON region
kept, or UNSET (R368, R371). -/
def State.timeStart (s : State) : State :=
  let m := s.mono
  let now := s.rtcTime
  let err := match s.timeUnc with | some u => min 0xFFFFFFFF u | none => 0xFFFFFFFF
  let b0 : Base := if s.aon.doubtful then Base.reset 0 else { Base.reset 1 with now := now, err := err }
  let b3 : Base := if s.aon.doubtful then Base.reset 0
    else { Base.reset 1 with now := ((now : Int) + s.aon.airOffset).toNat, err := err, slew := s.aon.airSlew }
  let mono : Base := { s.time.base[4] with now := m }
  let s1 := s.modTime fun t => { TimeState.reset with
    base := #v[b0, Base.reset 0, Base.reset 0, b3, mono]
    counting := s.start.clock != 0, leap := t.leap, ptp := t.ptp.map fun p => { Ptp.reset with seq := p.seq }, cv := t.cv }
  let s2 := { s1 with mesh := { s1.mesh with edgeAsn := s1.air / s1.tSf } }
  [(0 : Fin 2), 1].foldl (fun (s : State) (k : Fin 2) => s.ptpApplied k) s2

/-- External memory loses its content, and with it the Flock table; requests held there end with a status that the spec does not state (R260,
log entry 1). -/
def State.memoryLost (s : State) : State :=
  let s1 := s.flock.reqs.foldl (fun (s : State) (q : DelReq) =>
    if q.txn.isNone then s.drawn.completeReq q (freeError s.draw.1) false 0 else s) s
  { s1 with flock := { s1.flock with recs := [], cache := [], fetching := [], bad := [] } }

/-- What a domain loses as its logic is unpowered; `off` that it goes off, not into retention (Table PW-1, R456). -/
def State.domainDown (s : State) (d : Fin 18) (off : Bool) : State :=
  match d.val with
  | 1 =>
    let s1 := s.engSt 0 0
    if off then
      let s2 := s1.modFlt fun x => { x with log := [], archPending := [], windows := [] }
      { s2 with
        flock := { s2.flock with cache := [], fetching := [] }
        lop := { s2.lop with mbxBusy := false, waiting := [] }
        isl := { IslState.reset with nextKey := s2.isl.nextKey }
        start := { s2.start with st := 0, cfgServed := false } }
    else s1
  | 2 => let s1 := s.engSt 7 0
         if off then s1.secOff else s1
  | 3 =>
    let s1 := (s.endFrags 0x0D)
    let s2 : State := { s1 with
      port := { s1.port with ddr := if off then 0 else if s1.port.ddr = 2 then 4 else s1.port.ddr, flashSt := 0 } }
    if off then s2.memoryLost else s2
  | 4 =>
    if off then s.ringsStop.modHost fun h => { HostState.reset with held := h.held }
    else s.modHost fun h => { h with busMaster := false }
  | 5 => s.ethAllDown
  | 6 =>
    let s1 := s.mesh.txns.foldl (fun (s : State) (t : Txn) => s.endTxn t 0x0B) s
    let s2 := [(1 : Fin 8), 2, 3, 4].foldl (fun (s : State) (n : Fin 8) => s.engSt n 0) s1
    let s3 := { s2 with mesh := { s2.mesh with accepted := [], retry := [] } }
    if off then s3.meshLost else s3
  | 13 => s.grfOff off
  | 14 => if off then s.gnssStop.notchLost else s.gnssStop
  | 15 =>
    let s1 := ((s.engSt 5 0).engSt 6 0)
    if off then s1.modGnss fun g => { g with ephs := [], ephOnce := [] } else s1
  | 16 => (s.endSnQueue 0x0D)
  | 17 => let s1 := s.modTime fun t => { t with counting := false }
          (s1.tpRefresh 0).tpRefresh 1
  | _ => if h : 7 ≤ d.val ∧ d.val < 13 then
      let p : Fin 6 := ⟨d.val - 7, by omega⟩
      let s1 := s.pathOff p
      if off then (s1.roPut (inst Obj.RF_CAL_STATUS p) (dfltOf (inst Obj.RF_CAL_STATUS p))).modPath p
        fun x => { x with calibrated := false, calQueue := [], tempQueue := [] } else s1
    else s

/-- What a domain starts when it reports on; `fromOff` that nothing was kept (Table PW-5a, R452). -/
def State.domainUp (s : State) (d : Fin 18) (fromOff : Bool) : State :=
  let s := if fromOff then s.clearDomainRo d else s
  match d.val with
  | 1 =>
    let s1 := s.aonDrain.engSt 0 1
    if fromOff then { s1 with start := { s1.start with bootDue := true, st := 0 } } else s1
  | 2 => let s1 := s.engSt 7 1
         if fromOff then s1.restoreRoots else s1.loadGroups
  | 3 =>
    let s1 := { s with port := { s.port with
      flashSt := if s.fw.jedecOk then 1 else 2
      ddr := if s.start.clock = 0 then 0 else if fromOff then 1 else 2 } }
    if fromOff then { s1 with start := { s1.start with ddrTraining := s1.start.clock != 0, ddrTries := 0 } } else s1
  | 6 => let s1 := [(1 : Fin 8), 2, 3, 4].foldl (fun (s : State) (n : Fin 8) => s.engSt n 1) s
         (({ s1 with mesh := { s1.mesh with edgeAsn := s1.air / s1.tSf } } : State).loadBeacon 2 4).loadBeacon 3 5
  | 4 => s.ringsLoad
  | 13 => s.grfOn fromOff
  | 15 => let s1 := (((s.checkBank 1).checkBank 2).engSt 5 1).engSt 6 1
          if s1.cfgN Obj.GN_ENABLE = 1 then s1.gnssStart else s1
  | 17 => (s.checkBank 0).timeStart
  | _ => if h : 7 ≤ d.val ∧ d.val < 13 then
      let p : Fin 6 := ⟨d.val - 7, by omega⟩
      (s.modPath p fun x => { x with polarity := s.cfgN (inst Obj.RF_FE_POLARITY p) }).pathOn p fromOff
    else s

/-- The settings of a domain that was isolated are loaded from the running configuration, after an entry that was aborted (R443, R49). -/
def State.domainLoad (s : State) (d : Fin 18) : State :=
  if h : 7 ≤ d.val ∧ d.val < 13 then
    let p : Fin 6 := ⟨d.val - 7, by omega⟩
    let k := s.cfgN (inst Obj.RF_SLICE_CENTRE p)
    let s1 := if s.cfgN (inst Obj.RF_PATH_ENABLE p) = 0 then s.rxOff p else s
    (if (s1.path p).centre = k then s1 else s1.tune p k 0).settlePath p
  else match d.val with
    | 2 => s.loadGroups
    | 4 => s.ringsLoad
    | 5 => (List.finRange 2).foldl (fun (s : State) (e : Fin 2) =>
        if s.port.eth[e].speed = ethSpeed (s.cfgN (inst Obj.ETH_MODE e)) ∧ s.cfgN (inst Obj.ETH_MODE e) ≠ 0 then s else s.ethLink e false) s
    | 6 => (s.loadBeacon 2 4).loadBeacon 3 5
    | 13 => s.bandsLoad
    | 14 => s.fixedLoad
    | 17 => [(0 : Fin 2), 1].foldl (fun (s : State) (k : Fin 2) => (s.ptpApplied k).tpRefresh k) s
    | _ => s

/-- The isolation of a domain whose entry was aborted is released: its settings are loaded, it is on again, what waited for it goes on
(R441, R443). -/
def State.releaseDomain (s : State) (d : Fin 18) : State :=
  if (s.dom d).release then ((s.modDom d fun x => { x with st := 2, step := 0 }).domainLoad d).resume d else s

/-- The same for every domain. -/
def State.releases (s : State) : State := (List.finRange 18).foldl State.releaseDomain s

/-! ### Targets (R435 to R438) -/

/-- Why a write of a PW_TARGET element is refused: RANGE, or CONFLICT (R435). -/
def State.pwTargetCheck (s : State) (d v : Nat) : Nat :=
  if 2 < v ∨ 18 ≤ d then 4 else if (s.targetRefusal (domFin d) v).isSome then 5 else 0

/-- A refused write is counted with its cause and refuser (R435, R454). -/
def State.pwTargetRefused (s : State) (d v : Nat) : State :=
  match s.targetRefusal (domFin d) v with
  | some (c, r) => s.countRefusal (domFin d) r c
  | none => s

/-- An accepted write of a target takes effect in the AON island (R436). -/
def State.pwTargetPut (s : State) (d v : Nat) : State := s.applyTarget (domFin d) v

/-- PW_TARGET of a domain (R435, R436). -/
def State.pwTarget (s : State) (d v : Nat) : State :=
  match s.pwTargetCheck d v with
  | 0 => (s.bumpRev Obj.PW_TARGET).pwTargetPut d v
  | 5 => s.pwTargetRefused d v
  | _ => s

def execPwTarget (d v : Nat) (s : State) : Answer State := .next (s.pwTarget d v).settled

/-! ### Entry (R439 to R447) -/

/-- The path whose domain quiesces is idle: its queue is empty and it is in RX or STANDBY (R455). -/
def State.domIdle (s : State) (d : Fin 18) : Bool :=
  if h : 7 ≤ d.val ∧ d.val < 13 then
    let x := s.path ⟨d.val - 7, by omega⟩
    x.queue.isEmpty && (x.st == 5 || x.st == 3 || x.st == 0 || x.st == 9)
  else true

/-- QUIESCE_END: the domain reports idle. A wake event aborts the entry here, a refusal condition refuses it; otherwise it is isolated and
waits for its save step (R440, R441, R444, R446). `lanes` is how many lanes of a path were receiving a frame (R457). -/
def State.quiesceEnd (s : State) (d : Fin 18) (lanes : Nat) : State :=
  let x := s.dom d
  if x.st ≠ 3 ∨ x.step ≠ 1 ∨ !s.domIdle d then s
  else if x.wake then (s.countAbort d).resume d
  else match s.lowerRefusal d x.other with
    | some (c, r) => (s.domRefused d (stateLevel x.came) c r).resume d
    | none =>
      let s1 := s.modDom d fun x => { x with step := 2 }
      let s2 := { s1 with pwr := { s1.pwr with saveQ := s1.pwr.saveQ ++ [d.val] } }
      if h : 7 ≤ d.val ∧ d.val < 13 then
        let p : Fin 6 := ⟨d.val - 7, by omega⟩
        if lanes = 0 then s2 else s2.count (inst Obj.RF_RX_PREEMPTED p) 0 0 lanes
      else if d.val = 1 then s2.uartIsolate
      else if d.val = 13 then s2.modGnss fun g => { g with ant := 0 }
      else s2

def execQuiesceEnd (d : Fin 18) (lanes : Nat) (s : State) : Answer State := .next (s.quiesceEnd d lanes)

/-- QUIESCE_TIMEOUT: the domain has not reported idle within PW_QUIESCE_MAX; the entry is refused, and the target returns to the state in
which the entry began (R438, R440). -/
def State.quiesceTimeout (s : State) (d : Fin 18) : State :=
  let x := s.dom d
  if x.st ≠ 3 ∨ x.step ≠ 1 then s else (s.domRefused d (stateLevel x.came) 6 d).resume d

def execQuiesceTimeout (d : Fin 18) (s : State) : Answer State := .next (s.quiesceTimeout d)

/-- What the owners write at the save step of NAV and TIME (R339, R371, R408, R430); logic that is unpowered already writes nothing. -/
def State.saveOwners (s : State) (d : Nat) : State :=
  if (s.dom (domFin d)).came ≠ 2 then s
  else if d = 15 then s.hotSave
  else if d = 17 then
    let s1 := if s.time.base[0].flags.testBit 0 ∨ s.time.base[0].flags.testBit 1 then s.writeAnchor s.aon.anchor.rateErr else s
    s1.modTime fun t => { t with monoSave := some (s1.mono, s1.aon.tick) }
  else s

/-- SAVE_STEP_START: the first domain that waits begins its save step, one at a time (R439, R444). -/
def State.saveStart (s : State) : State :=
  match s.pwr.saving, s.pwr.saveQ with
  | none, d :: q =>
    let s1 := { s with pwr := { s.pwr with saving := some d, saveQ := q } }
    (s1.modDom (domFin d) fun x => { x with step := 3 }).saveOwners d
  | _, _ => s

def execSaveStepStart (s : State) : Answer State := .next s.saveStart

/-- SAVE_STEP_END: the directory entry is VALID for a retention target, bank 3 is sealed. A wake event aborts the entry here: the entry is
cleared and the bank resealed; otherwise the domain waits for its switch step (R439, R441, R447). -/
def State.saveEnd (s : State) : State :=
  match s.pwr.saving with
  | none => s
  | some n =>
    let d := domFin n
    let s1 := { s with pwr := { s.pwr with saving := none } }
    let s2 := (s1.modDom d fun x => { x with valid := x.other == 1, tick := s.aon.tick }).sealBank 3
    if (s2.dom d).wake then (s2.clearSave d).abortEntry d
    else { s2 with pwr := { s2.pwr with switchQ := s2.pwr.switchQ ++ [n] } }

def execSaveStepEnd (s : State) : Answer State := .next s.saveEnd

/-- SWITCH_STEP_START: the first domain that waits passes its switch step; the one before it has ended its own (R439, R444, R456). -/
def State.switchStart (s : State) : State :=
  match s.pwr.switchQ with
  | [] => s
  | d :: q =>
    let s1 := match s.pwr.switching with
      | some e => if (s.dom (domFin e)).step = 4 then s.modDom (domFin e) fun x => { x with step := 5 } else s
      | none => s
    let s2 := { s1 with pwr := { s1.pwr with switching := some d, switchQ := q } }
    (s2.modDom (domFin d) fun x => { x with step := 4 }).domainDown (domFin d) ((s2.dom (domFin d)).other == 0)

def execSwitchStepStart (s : State) : Answer State := .next s.switchStart.settled

/-- The domain's step is 4 or 5: the switch has opened. -/
def State.switched (s : State) (d : Fin 18) : Bool := (s.dom d).st == 3 && ((s.dom d).step == 4 || (s.dom d).step == 5)

def State.freeSwitch (s : State) (d : Fin 18) : State :=
  if s.pwr.switching = some d.val then { s with pwr := { s.pwr with switching := none } } else s

/-- ENTRY_CONFIRM: the ready comparator reports the lower state; a wake event that came too late is followed by the exit at once, else a
held target is acted on (R437, R439, R442). -/
def State.entryConfirm (s : State) (d : Fin 18) : State :=
  if !s.switched d then s
  else
    let x := s.dom d
    let s1 := ((s.freeSwitch d).putDom d { x with st := x.other, step := 0, wake := false }).count Obj.PW_COUNTS d 0
    if x.wake then s1.beginExits else s1.afterTransition d

def execEntryConfirm (d : Fin 18) (s : State) : Answer State := .next (s.entryConfirm d)

/-- Record a failure in PW_COUNTS and PW_LAST_FAIL (Table PW-7): event 1 WAKE_FAIL, 2 ENTRY_FAIL. -/
def State.lastFail (s : State) (d event cause : Nat) : State :=
  s.roPut Obj.PW_LAST_FAIL [[(d : Int), event, cause, ts96 s.mono]]

/-- ENTRY_CONFIRM_TIMEOUT: FAULT, the save area not VALID, ENTRY_FAIL with cause REGULATOR (R445). -/
def State.entryTimeout (s : State) (d : Fin 18) : State :=
  if !s.switched d then s
  else
    let x := s.dom d
    let s0 := if x.other = 1 then (s.freeSwitch d).domainDown d true else s.freeSwitch d
    let s1 := (s0.modDom d fun x => { x with st := 5, step := 0, wake := false, valid := false }).count Obj.PW_COUNTS d 3
    let s2 := (s1.lastFail d 2 1).raise Ev.ENTRY_FAIL d 1
    if x.wake then s2.beginExits else s2.afterTransition d

/-- ENTRY_CONFIRM_TIMEOUT; a domain in FAULT exits as from off: nothing of it is kept (R445). -/
def execEntryConfirmTimeout (d : Fin 18) (s : State) : Answer State := .next (s.entryTimeout d)

/-! ### Exit (R448 to R452) -/

/-- The raises that waited on a provider fail: the target returns to its former value, cause PROVIDER_FAILED (R434, R450). -/
def State.failDependents (s : State) (d : Fin 18) : State :=
  (List.finRange 18).foldl (fun (s : State) (x : Fin 18) =>
    match (s.dom x).former with
    | some f => if (allProviders x).contains d.val ∧ (s.dom x).st ≠ 2 ∧ (s.dom x).st ≠ 4 then
        (s.modDom x fun y => { y with former := none, wake := false }).domRefused x f 8 d else s
    | none => s) s

/-- A domain fails to turn on: WAKE_FAIL with its cause, off, nothing of it kept, what waited on it fails, and a target held meanwhile is
acted on (R437, R450, R451). -/
def State.wakeFail (s : State) (d : Fin 18) (cause : Nat) : State :=
  let s0 := if (s.dom d).other = 1 then s.domainDown d true else s
  let s1 := ((s0.modDom d fun x => { x with st := 0, step := 0, former := none, valid := false }).setTarget d 0).count Obj.PW_COUNTS d 2
  (((s1.lastFail d 1 cause).raise Ev.WAKE_FAIL d cause).failDependents d).afterTransition d

/-- The domains that need the reference: SG0 to SG3, WB0, WB1, GRF, GCOR and NET (R98). -/
def needsRef (d : Nat) : Bool := (7 ≤ d && d ≤ 14) || d == 5

/-- One measurement window of 10 µs passes: its count of reference edges lies within ±4 % of 260 edges for 26 MHz, REF_SEL 0, and of 100
edges for 10 MHz (R98). -/
def windowPasses (refSel k : Nat) : Bool :=
  let n := if refSel = 0 then 260 else 100
  decide (96 * n ≤ 100 * k) && decide (100 * k ≤ 104 * n)

/-- After how many windows the first run of 32 consecutive passing ones ends, the run so far being `run` and the windows so far `n`; none
when the windows end before (R98). -/
def runEnds (refSel : Nat) : List Nat → Nat → Nat → Option Nat
  | [], _, _ => none
  | k :: ks, run, n =>
    if !windowPasses refSel k then runEnds refSel ks 0 (n + 1)
    else if run = 31 then some (n + 1) else runEnds refSel ks (run + 1) (n + 1)

/-- When the reference qualifies, in windows from the start of its qualification, which gives up after 5 ms (R98). -/
def qualifiedAt (refSel : Nat) (counts : List Nat) : Option Nat := runEnds refSel (counts.take 500) 0 0

/-- The reference has qualified: the islands move to the PLLs; every base counts (R96, R100, R365). -/
def State.clockOn (s : State) : State :=
  { s with
    start := { s.start with clock := if s.start.refSel = 0 then 1 else 2 }
    time := { s.time with counting := s.domOn 17 } }

/-- Bank 3 is checked at an exit from retention; when it fails, every domain in retention has lost its save area (R448). -/
def State.checkSave (s : State) (d : Fin 18) : Bool × State :=
  if s.aon.bank[3].st = 1 ∧ s.aon.bank[3].intact then ((s.dom d).valid, s)
  else
    let s1 := s.checkBank 3
    (false, (List.finRange 18).foldl (fun (s : State) (x : Fin 18) =>
      if (s.dom x).st = 1 then s.modDom x fun y => { y with valid := false } else s) s1)

/-- The domain reports on: what it starts, its counts, the raises that waited, a held target (R434, R437, R449, R452). -/
def State.exitDone (s : State) (d : Fin 18) (kept : Bool) : State :=
  let s1 := (s.modDom d fun x => { x with st := 2, step := 0, former := none, valid := false, wake := false }).count Obj.PW_COUNTS d 1
  ((s1.domainUp d (!kept)).beginExits).afterTransition d

/-- DOMAIN_EXIT: an exit runs to its end. While CLOCK_SOURCE is 0 the reference is qualified again for SYS, MEM and the domains that need
it: `counts` are the edges of the measurement windows; without it SYS and MEM complete on the RC and the others return to off (R98, R448,
R449, R451). -/
def State.domainExit (s : State) (d : Fin 18) (counts : List Nat) : State :=
  let x := s.dom d
  let refOk := (qualifiedAt s.start.refSel counts).isSome
  if x.st ≠ 4 then s
  else
    let asks := s.start.clock = 0 ∧ (d.val = 1 ∨ d.val = 3 ∨ needsRef d = true)
    let s := if asks ∧ refOk then s.clockOn else s
    if asks ∧ !refOk ∧ needsRef d then ((s.countRefusal d d 7).raise Ev.DOMAIN_REFUSED d 7 d).wakeFail d 2
    else
      let s1 := if asks ∧ !refOk then
          ((s.count Obj.PW_COUNTS d 2).lastFail d 1 2).raise Ev.WAKE_FAIL d 2 else s
      if x.other = 1 then
        let (ok, s2) := s1.checkSave d
        let s3 := if ok then s2 else (s2.count Obj.PW_COUNTS d 4).domainDown d true
        s3.exitDone d ok
      else s1.exitDone d false

/-- EXIT_CONFIRM_TIMEOUT: the transition is abandoned; the domain and its target are off (R450). -/
def State.exitTimeout (s : State) (d : Fin 18) : State := if (s.dom d).st = 4 then s.wakeFail d 1 else s

def execExitConfirmTimeout (d : Fin 18) (s : State) : Answer State := .next (s.exitTimeout d)

/-- WAKE_EVENT: an event of a wake source (R453). -/
def execWakeEvent (src : Nat) (s : State) : Answer State := .next (if src < 8 then (s.wakeSource src).settled else s)

/-! ### Loss of the reference (R584) -/

/-- A domain is switched off without quiesce. -/
def State.cutDomain (s : State) (d : Fin 18) : State :=
  if (s.dom d).st = 0 then s
  else
    let s1 := (s.domainDown d true).modDom d fun x => { x with st := 0, step := 0, held := none, wake := false, valid := false, former := none, release := false }
    { s1 with pwr := { s1.pwr with
      saveQ := s1.pwr.saveQ.erase d.val, switchQ := s1.pwr.switchQ.erase d.val
      saving := if s1.pwr.saving = some d.val then none else s1.pwr.saving
      switching := if s1.pwr.switching = some d.val then none else s1.pwr.switching } }

/-- Every base but TB_MONO enters HOLDOVER with its error unbounded (R584). -/
def State.allHoldover (s : State) : State :=
  [(0 : Fin 5), 1, 2, 3].foldl (fun (s : State) (i : Fin 5) =>
    s.modBase i fun b => { b with st := 3, err := 0xFFFFFFFF }) s

/-- REFERENCE_LOSS (R584): transmissions are cut with ABORTED, the domains of R98 switch off, memory enters self-refresh, the bases enter
HOLDOVER, the islands run on the RC. -/
def State.refLoss (s : State) : State :=
  if s.start.clock = 0 then s
  else
    let s1 := (List.finRange 6).foldl (fun (s : State) (p : Fin 6) => s.cutTx p 0x09) s
    let s2 := (List.finRange 18).foldl (fun (s : State) (d : Fin 18) => if needsRef d then s.cutDomain d else s) s1
    let s3 := s2.endFrags 0x0D
    let s4 := { s3 with
      port := { s3.port with ddr := if s3.port.ddr = 2 then 4 else s3.port.ddr }
      start := { s3.start with clock := 0 } }
    (s4.allHoldover.lastFail 0xFF 1 2).raise Ev.WAKE_FAIL 0xFF 2

def execReferenceLoss (s : State) : Answer State := .next s.refLoss.settled

end Sys2Proof.Machine
end

