-- ==== Sys2Proof/Machine/Firmware.lean ====
section
/-!
DEFINITION. Boot directory, firmware bundles and their update (03_startup_and_firmware.md R106 to R120).
-/

namespace Sys2Proof.Machine

def State.modFw (s : State) (f : FwState → FwState) : State := { s with fw := f s.fw }
def State.modStart (s : State) (f : StartState → StartState) : State := { s with start := f s.start }

/-! ### The boot directory (R107, R108) -/

/-- The 64 octets of a boot directory copy (Table SU-5). -/
def Directory.bytes (d : Directory) : Bytes :=
  let b := natLe 4 0x52494442 ++ natLe 4 d.seq ++ natLe 1 d.active ++ natLe 1 d.stateA ++ natLe 1 d.stateB ++ natLe 1 0
    ++ natLe 2 d.trialTimeout ++ natLe 1 d.bootOverride ++ List.replicate 45 0
  b ++ natLe 4 (crc32c b)

/-- What a copy holds, none where it is not valid: its MAGIC or its CRC fails, or ACTIVE names no slot (R107, Table SU-5). -/
def parseDir (b : Bytes) : Option Directory :=
  if b.length = 64 ∧ leAt b 0 4 = 0x52494442 ∧ leAt b 60 4 = crc32c (b.take 60) ∧ leAt b 8 1 < 2 then
    some ⟨leAt b 4 4, ⟨leAt b 8 1 % 2, by omega⟩, leAt b 9 1, leAt b 10 1, leAt b 12 2, leAt b 14 1⟩
  else none

/-- The current directory: the valid copy with the higher SEQ (R107). Of two copies with one SEQ, which the alternating rule never makes,
copy 0 is taken (DESIGN CHOICE, log entry 117). -/
def State.curDir (s : State) : Option (Fin 2 × Directory) :=
  match parseDir s.fw.dir[0], parseDir s.fw.dir[1] with
  | some a, some b => if a.seq < b.seq then some (1, b) else some (0, a)
  | some a, none => some (0, a)
  | none, some b => some (1, b)
  | none, none => none

/-- The default directory of R108. Its SEQ and TRIAL_TIMEOUT are not stated there (log entry 12). -/
def Directory.default : Directory := ⟨0, 0, 5, 2, 0, 0xFF⟩

/-- The directory in force: the current one, else the default as bundle selection has changed it since the reset (R107, R108, R112). -/
def State.dir (s : State) : Directory :=
  match s.curDir with
  | some (_, d) => d
  | none => s.fw.ramDir.getD Directory.default

/-- Update the directory: the other copy, with SEQ plus 1 (R107). -/
def State.writeDir (s : State) (d : Directory) : State :=
  let k : Fin 2 := match s.curDir with | some (0, _) => 1 | some (1, _) => 0 | none => 0
  s.modFw fun x => { x with
    dir := x.dir.set k (Directory.bytes { d with seq := (s.dir.seq + 1) % 2 ^ 32 }), ramDir := none }

/-- The state of a slot (Table SU-6). -/
def Directory.slotState (d : Directory) (t : Fin 2) : Nat := if t = 0 then d.stateA else d.stateB

def Directory.withState (d : Directory) (t : Fin 2) (st : Nat) : Directory :=
  if t = 0 then { d with stateA := st } else { d with stateB := st }

/-- The other slot. -/
def otherSlot (t : Fin 2) : Fin 2 := if t = 0 then 1 else 0

/-- A slot with a given state. -/
def Directory.slotIn (d : Directory) (st : Nat) : Option (Fin 2) :=
  if d.stateA = st then some 0 else if d.stateB = st then some 1 else none

/-- A slot is ARMED or TRIAL (R115, R120). -/
def Directory.trying (d : Directory) : Bool := (d.slotIn 3).isSome || (d.slotIn 4).isSome

/-- Byte address of a bundle slot (Table SU-4). -/
def slotAddr (t : Fin 2) : Nat := if t = 0 then 0x00100000 else 0x01100000

/-! ### Bundles (R109 to R111) -/

def bundleLength (b : Bytes) : Nat := leAt b 8 4
def bundleVersion (b : Bytes) : Nat := leAt b 12 4
def bundleSvn (b : Bytes) : Nat := leAt b 16 1
def bundleBuild (b : Bytes) : Nat := leAt b 20 8

/-- A section of a bundle: TARGET, OFFSET, SIZE and DIGEST of an entry of its section table (Table SU-7a). -/
structure Section where
  target : Nat
  offset : Nat
  size : Nat
  digest : Nat
deriving DecidableEq, Repr

def bundleSections (b : Bytes) : List Section :=
  (List.range (leAt b 17 1)).map fun i =>
    ⟨leAt b (64 + 80 * i) 4, leAt b (64 + 80 * i + 4) 4, leAt b (64 + 80 * i + 8) 4, leAt b (64 + 80 * i + 16) 64⟩

/-- An entry names an engine, with at most 262,144 bytes for it, or the fixed-function tables (Table SU-7a). -/
def Section.targetOk (x : Section) : Bool := (decide (x.target ≤ 7) && decide (x.size ≤ 262144)) || x.target == 0x10

/-- The octets of a section. -/
def Section.content (x : Section) (b : Bytes) : Bytes := (b.drop x.offset).take x.size

/-- The revision of this silicon, B1 (Table SU-7a). -/
abbrev siliconRev : Nat := 0xB1

/-- No two sections share a byte. -/
def sectionsApart : List Section → Bool
  | [] => true
  | x :: xs => xs.all (fun (y : Section) => decide (x.offset + x.size ≤ y.offset) || decide (y.offset + y.size ≤ x.offset))
      && sectionsApart xs

/-- The layout of a bundle's sections holds. LENGTH too short for header, KEY and SIGNATURE, content shorter than LENGTH, SECTIONS outside
1 to 16 and an entry's TARGET or SIZE outside its range have no reason of their own in Table SU-8: they count under reason 2 (DESIGN
CHOICE, log entry 119). -/
def layoutOk (b : Bytes) : Bool :=
  let len := bundleLength b
  decide (len ≤ 16777216) && decide (len ≤ b.length) && decide (64 + 7219 ≤ len) && decide (1 ≤ leAt b 17 1)
    && decide (leAt b 17 1 ≤ 16) && (bundleSections b).all (fun x => x.targetOk && decide (x.offset + x.size ≤ len))
    && sectionsApart (bundleSections b)

/-- A public key's digest is an OTP key digest that holds and is not revoked (R111, R112). -/
def State.keyTrusted (s : State) (digest : Nat) : Bool :=
  (List.finRange 2).any fun (k : Fin 2) => s.fw.otp.digestOk[k] && !majority s.fw.otp.revoked[k] && s.fw.otp.digest[k] == digest

/-- The first failing check of Table SU-8 in its order, 0 when all pass; `readOk` that flash was read without an error, the last of them
(R110, R111). -/
def State.bundleReason (s : State) (b : Bytes) (readOk : Bool) : Nat :=
  let len := bundleLength b
  let key := (b.drop (len - 7219)).take 2592
  if leAt b 0 4 ≠ 0x444E5542 ∨ leAt b 4 2 ≠ 2 then 1
  else if !layoutOk b then 2
  else if siliconRev < leAt b 6 1 ∨ leAt b 7 1 < siliconRev then 3
  else if !s.keyTrusted (sha3 key) then 4
  else if bundleSvn b < s.fw.otp.floor then 5
  else if (bundleSections b).any (fun x => sha3 (x.content b) != x.digest) then 6
  else if !Config.mldsaOk key (sha3 (b.take (len - 4627))) ((b.drop (len - 4627)).take 4627) then 7
  else if !readOk then 8
  else 0

/-! ### Selection at a boot (R112, R113) -/

/-- Raise START_FLAGS bits (Table SU-9). -/
def State.startFlag (s : State) (bit : Nat) : State := s.modStart fun x => { x with flags := x.flags ||| 2 ^ bit }

/-- Change the directory during the selection. The default directory is written only after a bundle has verified; until then its change
stands without being written (R108, R112). -/
def State.selectDir (s : State) (d : Directory) : State :=
  if s.curDir.isNone then s.modFw fun x => { x with ramDir := some d } else s.writeDir d

/-- One candidate of the selection under the directory `d`: whether it boots, the directory and the state after it. `bad` holds a bit
per slot whose flash read fails (R111, R112). START_FLAGS bit 3 rises with a bundle that fails or is fallen back to; where no slot holds a
bundle that can be tried it stays clear (DESIGN CHOICE, log entry 120). -/
def State.tryBundle (s : State) (d : Directory) (b : Fin 2) (bad : Nat) : Bool × Directory × State :=
  let st := d.slotState b
  if st = 0 ∨ st = 1 ∨ st = 6 then (false, d, s)
  else
    let r := s.bundleReason s.fw.slot[b] (!bad.testBit b)
    let s1 := s.modFw fun x => { x with reason := x.reason.set b r }
    if r = 0 then
      let d1 := { d with active := b }.withState b 5
      let s2 := if b ≠ d.active ∧ st ≠ 4 then ((s1.raise Ev.BUNDLE_FALLBACK b).writeDir d1).startFlag 3
        else if s.curDir.isNone then s1.writeDir d
        else s1
      (true, d, s2.modStart fun x => { x with bundle := b, trial := st == 4, flags := if st = 4 then x.flags ||| 16 else x.flags })
    else
      let d1 := d.withState b 6
      (false, d1, ((s1.selectDir d1).raise Ev.BUNDLE_INVALID b r).startFlag 3)

/-- The two slots in the order of selection, the directory, and the state that a trial's start or its revert leaves (R112, R118). -/
def State.bundleOrder (s : State) : (Fin 2 × Fin 2) × Directory × State :=
  match s.dir.slotIn 3 with
  | some t => ((t, s.dir.active), s.dir.withState t 4, s.writeDir (s.dir.withState t 4))
  | none => match s.dir.slotIn 4 with
    | some t => ((s.dir.active, t), s.dir.withState t 2, (s.writeDir (s.dir.withState t 2)).raise Ev.TRIAL_REVERTED t)
    | none => ((s.dir.active, otherSlot s.dir.active), s.dir, s)

/-- Bundle selection (R112): whether a bundle boots, and the state after it. -/
def State.selectBundle (s : State) (bad : Nat) : Bool × State :=
  let o := s.bundleOrder
  let a := o.2.2.tryBundle o.2.1 o.1.1 bad
  if a.1 then (true, a.2.2)
  else
    let b := a.2.2.tryBundle a.2.1 o.1.2 bad
    (b.1, b.2.2)

/-! ### The update procedure (R114 to R118) -/

/-- The slot that is not ACTIVE. -/
def State.target0 (s : State) : Fin 2 := otherSlot s.dir.active

/-- Why a write of FW_STAGE_BEGIN is refused (R115). -/
def State.fwStageBeginCheck (s : State) (len : Nat) : Nat :=
  if len = 0 ∨ 16777216 < len then 4 else if s.dir.trying then 5 else 0

/-- The slot goes to STAGING, the staged content is empty, the blocks are being erased (R115, R119). In the recovery state without a valid
directory this writes a directory made from the default one, although no bundle has verified, so that a reset leaves the slot STAGING
(R119; DESIGN CHOICE beside R108, log entry 121). -/
def State.fwStageBeginPut (s : State) (len : Nat) : State :=
  let t := s.target0
  let s1 := s.writeDir (s.dir.withState t 1)
  (s1.modFw fun x => { x with slot := x.slot.set t [], stageLen := len }).flashOp Obj.FW_STAGE_BEGIN (slotAddr t) t []

/-- FW_STAGE_BEGIN. -/
def State.fwStageBegin (s : State) (len : Nat) : State :=
  if s.fwStageBeginCheck len = 0 then (s.fwStageBeginPut len).bumpRev Obj.FW_STAGE_BEGIN else s

def execFwStageBegin (len : Nat) (s : State) : Answer State := .next (s.fwStageBegin len)

/-- Why a write of FW_STAGE is refused: it must start at the current length, while the slot is STAGING (R114). -/
def State.fwStageCheck (s : State) (offset : Nat) (data : Bytes) : Nat :=
  let t := s.target0
  if s.dir.slotState t ≠ 1 ∨ offset ≠ s.fw.slot[t].length ∨ 16777216 < offset + data.length then 6 else 0

def State.fwStagePut (s : State) (data : Bytes) : State :=
  let t := s.target0
  s.modFw fun x => { x with slot := x.slot.set t (x.slot[t] ++ data) }

/-- FW_STAGE: programs bundle bytes at the current length, before its response is sent (R114). -/
def State.fwStage (s : State) (offset : Nat) (data : Bytes) : State :=
  if s.fwStageCheck offset data = 0 then (s.fwStagePut data).bumpRev Obj.FW_STAGE else s

def execFwStage (offset : Nat) (data : Bytes) (s : State) : Answer State := .next (s.fwStage offset data)

/-- Why a write of FW_VERIFY is refused. The staged slot is one that is STAGING or STAGED (log entry 12). -/
def State.fwVerifyCheck (s : State) (v : Nat) : Nat :=
  if v ≠ 0 then 4 else if s.dir.slotState s.target0 = 1 ∨ s.dir.slotState s.target0 = 2 then 0 else 5

/-- The checks of Table SU-8 begin (R116). -/
def State.fwVerifyPut (s : State) : State := s.flashOp Obj.FW_VERIFY (slotAddr s.target0) s.target0 []

/-- FW_VERIFY. -/
def State.fwVerify (s : State) (v : Nat) : State :=
  if s.fwVerifyCheck v = 0 then s.fwVerifyPut.bumpRev Obj.FW_VERIFY else s

def execFwVerify (v : Nat) (s : State) : Answer State := .next (s.fwVerify v)

/-- The end of FW_VERIFY: the slot becomes STAGED or INVALID (R116). -/
def State.fwVerified (s : State) (t : Fin 2) (readOk : Bool) : State :=
  let r := s.bundleReason s.fw.slot[t] readOk
  (s.modFw fun x => { x with verifyReason := r, reason := x.reason.set t r }).writeDir (s.dir.withState t (if r = 0 then 2 else 6))

/-- Why a write of FW_ACTIVATE is refused (R117). -/
def State.fwActivateCheck (s : State) (v : Nat) : Nat :=
  if v = 0 ∨ 2 < v then 4 else if s.dir.slotState s.target0 = 2 then 0 else 5

/-- The slot becomes ARMED; FW_TRIAL_TIMEOUT goes into the directory (R117). -/
def State.fwActivatePut (s : State) : State :=
  s.writeDir ({ s.dir with trialTimeout := s.cfgN Obj.FW_TRIAL_TIMEOUT }.withState s.target0 3)

/-- Why a write of FW_CONFIRM is refused: it is accepted only during a trial (R118). -/
def State.fwConfirmCheck (s : State) (v : Nat) : Nat :=
  if v ≠ 1 then 4 else if s.start.trial then 0 else 5

/-- The trial slot becomes ACTIVE, the former active slot STAGED, the count stops (R118). -/
def State.fwConfirmPut (s : State) : State :=
  match s.dir.slotIn 4 with
  | some t =>
    let d := (s.dir.withState s.dir.active 2).withState t 5
    (({ s with fw := { s.fw with trialEnd := none } }).writeDir { d with active := t }).modStart fun x => { x with trial := false }
  | none => s

/-- FW_CONFIRM. -/
def State.fwConfirm (s : State) (v : Nat) : State :=
  if s.fwConfirmCheck v = 0 then s.fwConfirmPut.accept Obj.FW_CONFIRM (scalar v) else s

def execFwConfirm (v : Nat) (s : State) : Answer State := .next (s.fwConfirm v)

/-- Why a write of ROLLBACK_ADVANCE is refused (R120). -/
def State.rollbackCheck (s : State) (v : Nat) : Nat :=
  if v = 0 ∨ 96 < v then 4
  else if s.dir.trying ∨ v ≤ s.fw.otp.floor ∨ bundleSvn s.fw.slot[s.dir.active] < v then 5 else 0

/-- Steps of the thermometer are programmed one at a time up to the value; a power loss after `steps` of them leaves the floor
there (R112, R120). A step once programmed stays. -/
def State.rollbackPut (s : State) (v steps : Nat) : State :=
  s.modFw fun x => { x with otp := { x.otp with steps := setSteps (min (v - x.otp.floor) steps) x.otp.steps } }

/-- ROLLBACK_ADVANCE; `steps` bounds the steps programmed before a power loss, 96 when there is none. -/
def State.rollback (s : State) (v steps : Nat) : State :=
  if s.rollbackCheck v = 0 then (s.rollbackPut v steps).accept Obj.ROLLBACK_ADVANCE (scalar v) else s

def execRollbackAdvance (v steps : Nat) (s : State) : Answer State := .next (s.rollback v steps)

/-- Why a write of PROFILE_BOOT_OVERRIDE is refused (R86). -/
def bootOverrideCheck (v : Nat) : Nat := if v ≤ 3 ∨ v = 0xFF then 0 else 4

/-- The directory is updated by the alternating rule (R86, R107). -/
def State.bootOverridePut (s : State) (v : Nat) : State := s.writeDir { s.dir with bootOverride := v }

/-- PROFILE_BOOT_OVERRIDE. -/
def State.bootOverride (s : State) (v : Nat) : State :=
  if bootOverrideCheck v = 0 then (s.bootOverridePut v).bumpRev Obj.PROFILE_BOOT_OVERRIDE else s

def execProfileBootOverride (v : Nat) (s : State) : Answer State := .next (s.bootOverride v)

end Sys2Proof.Machine
end

