-- ==== Sys2Proof/Machine/FaultCmds.lean ====
section
/-!
DEFINITION. Errors and their escalation through the levels, summary entries, the event archive, release and clearing of faults, and the
end of flash actions (01_architecture.md R14, R15; 17_faults_and_events.md R548, R549, R555, R557; 02_object_dictionary.md R46).
-/

namespace Sys2Proof.Machine

/-! ### The reset of a block (R14, Table AC-4) -/

/-- A block of region RF restarts: the paths that it serves stop, take their settings and calibrate; the blocks of GNSS RF calibrate
again (Table AC-1, log entry 9). -/
def State.rfBlockReset (s : State) (block : Nat) : State :=
  if block = 9 ∨ block = 10 then (if s.domOn 13 then (s.grfOff false).grfOn true else s)
  else
    (List.finRange 6).foldl (fun (s : State) (p : Fin 6) =>
      if s.domOn (pathDomain p) ∧ (block = p.val ∨ (block = 6 ∧ p.val < 4) ∨ (block = 7 ∧ 4 ≤ p.val) ∨ block = 8) then
        ((s.drawn.stopPath p (freeTxStatus s.draw.1)).pathOff p).pathOn p true
      else s) s

/-- Transactions end with an error status whose code the spec does not state (log entry 1). -/
def State.endTxnsIn (s : State) (which : Txn → Bool) : State :=
  (s.mesh.txns.filter which).foldl (fun (s : State) (t : Txn) => s.drawn.endTxn t (freeError s.draw.1)) s

/-- A block of region MESH restarts: lanes lose the frames in reception, an engine its work in flight, the scheduler its bookings, the
table its transactions (log entry 9). -/
def State.meshBlockReset (s : State) (block : Nat) : State :=
  match block with
  | 0 => { s with mesh := { s.mesh with per := s.mesh.per.mapIdx fun p x => if p < 4 then { x with lanes := [] } else x } }
  | 1 => { s with mesh := { s.mesh with per := s.mesh.per.mapIdx fun p x => if p < 4 then x else { x with lanes := [] } } }
  | 2 => s.engineStops 1
  | 3 => s.engineStops 2
  | 4 => s.engineStops 3
  | 5 => s.engineStops 4
  | 6 => s.endTxnsIn fun t => t.st == .booked
  | 8 => s.endTxnsIn fun _ => true
  | _ => s

/-- A block of region GNSS restarts (log entry 9). -/
def State.gnssBlockReset (s : State) (block : Nat) : State :=
  match block with
  | 0 => s.notchLost.fixedLoad
  | 1 => s.notchLost.fixedLoad
  | 2 => s.modGnss fun g => { g with chans := [] }
  | 3 => s.engineStops 5
  | 4 => s.endSolving
  | 5 => (s.modTime fun t => { t with pulse := Vector.replicate 2 Pulse.reset }).tpRefresh 0 |>.tpRefresh 1
  | _ => s

/-- Actions in progress on the objects of a list end with an error status that the spec does not state (log entry 1). -/
def State.actionsEnd (s : State) (which : List Nat) : State :=
  which.foldl (fun (s : State) (o : Nat) => s.drawn.setAct o (freeError s.draw.1))
    (s.modFw fun x => { x with ops := x.ops.filter fun o => !(which.contains o.index) })

/-- A block of one of the other regions restarts (log entry 9). -/
def State.otherBlockReset (s : State) (region block : Nat) : State :=
  match region, block with
  | 2, 5 => s
  | 2, _ => (s.modSec fun x => { x with deriving_ := [], writing := none, waiting := [], attest := none }).actionsEnd s.secJobs
  | 3, 0 => s.modHost fun h => { h with busMaster := false, link := (0, 0, false) }
  | 3, 1 => s.ringsStop.ringsLoad
  | 3, _ => s.modHost fun h => { h with irqStatus := 0, irqEnable := 0, bar0 := [] }
  | 4, _ => s.ethLink ⟨block % 2, by omega⟩ false
  | 5, 0 => s.endFrags 0x0D
  | 5, 1 => s.actionsEnd (s.fw.ops.map (·.index)).dedup
  | 8, _ => { s with flock := { s.flock with cache := [], fetching := [] } }
  | 10, _ => s.nimbusStop
  | 11, 2 => s.modTime fun t => { t with src := Vector.replicate 4 Src.reset, selected := 0 }
  | 14, _ => (s.modUart ⟨block % 4, by omega⟩ fun _ => Uart.reset).rtsRefresh ⟨block % 4, by omega⟩
  | _, _ => s

/-- The region level contains an error by resetting the block and reloading its configuration from the dictionary; no counter is cleared
(R14, R556, Table AC-4). The work in the block ends. -/
def State.blockReset (s : State) (region block : Nat) : State :=
  match region with
  | 6 => s.rfBlockReset block
  | 7 => s.meshBlockReset block
  | 9 => s.gnssBlockReset block
  | _ => s.otherBlockReset region block

/-! ### Errors and their escalation (R14, R15) -/

/-- A level contains the error (R14, R15): the counter of its level rises; at block level the failed cell is retired and BLOCK_CONTAINED is
raised; at region level the block is reset and REGION_RESTART is raised. -/
def State.contained (s : State) (c : Containment) : State :=
  match c.level with
  | 0 => s.count Obj.CONTAIN_COUNTS (c.region - 1) 0
  | 1 => s.blockContained c.region c.block c.cell
  | _ => ((s.count Obj.CONTAIN_COUNTS (c.region - 1) 2).raise (Ev.REGION_RESTART c.region) 0xFF c.block).blockReset c.region c.block

/-- A level below chip level takes the error on. -/
def State.attempt (s : State) (c : Containment) (ok : Bool) : State :=
  if ok then s.contained c else s.modFlt fun x => { x with containing := x.containing ++ [c] }

/-- ERROR_DETECTED: the lowest level that can contain the error starts containment, and either contains it or is still at it
when its time limit passes; an error that no lower level can take is decided at chip level (R14, R15). -/
def State.errorDetected (s : State) (region block cell level : Nat) (ok : Bool) : State :=
  if region = 0 ∨ 15 < region then s
  else if s.isHeld region then s.count Obj.CONTAIN_COUNTS (region - 1) (min level 3)
  else if 3 ≤ level then s.chipLevel region block cell 0 0xFF
  else s.attempt ⟨region, block, cell, level, 1, s.mono⟩ ok

def execErrorDetected (region block cell level : Nat) (ok : Bool) (s : State) : Answer State :=
  .next (s.errorDetected region block cell level ok).settled

/-- CONTAINMENT_ESCALATION: the n-th error being contained passes its level's time limit and goes to the next level up, which
contains it or takes it on; from region level it goes to chip level (R14, Table AC-4). -/
def State.escalate (s : State) (n : Nat) (ok : Bool) : State :=
  match s.flt.containing[n]? with
  | none => s
  | some c =>
    let s1 := (s.toMono (c.since + levelLimit c.level)).modFlt fun x => { x with containing := x.containing.eraseIdx n }
    if 2 ≤ c.level then s1.chipLevel c.region c.block c.cell c.tries 0xFF
    else s1.attempt { c with level := c.level + 1, tries := c.tries + 1, since := s1.mono } ok

def execContainmentEscalation (n : Nat) (ok : Bool) (s : State) : Answer State := .next (s.escalate n ok).settled

/-! ### Summaries and the archive (R548, R549) -/

/-- One SUMMARY entry for a window (R548). -/
def State.summarise (s : State) (w : EventWindow) : State :=
  (s.logEntry w.code w.inst 4 (ts96 s.mono) w.suppressed 0).count Obj.EVENT_SUPPRESSED 0 0 w.suppressed

/-- SUMMARY_SECOND_END: at the end of the oldest second with suppressed occurrences, one entry per code and INSTANCE with the number
suppressed (R548). -/
def State.summaryEnd (s : State) : State :=
  match (s.flt.windows.filter fun w => w.suppressed != 0).getLast? with
  | none => s
  | some w0 =>
    let s1 := s.toMono ((w0.second + 1) * secHalfNs)
    let ws := (s1.flt.windows.filter fun w => w.suppressed != 0 && w.second == w0.second).reverse
    let s2 := s1.modFlt fun x => { x with windows := x.windows.filter fun w => w.second != w0.second }
    ws.foldl State.summarise s2

def execSummarySecondEnd (s : State) : Answer State := .next s.summaryEnd

/-- ARCHIVE_PAGE_WRITE: with 128 entries pending, or 10 s after the oldest of them, a page of at most 128 entries of 32 bytes goes to
the circular archive of 16 MiB; when the write fails they stay, and it is tried again with the next page (R549). The address of a failed
page is not stated: a free value. -/
def State.archivePage (s : State) (ok : Bool) : State :=
  if s.flt.archPending = [] ∨ s.port.flashSt ≠ 1 then s
  else
    let s1 := if s.flt.archPending.length < 128 then s.toMono (s.flt.archSince + 10 * secHalfNs) else s
    if ok then s1.modFlt fun x =>
      let a := x.archive ++ x.archPending.take 128
      { x with archive := a.drop (a.length - 524288), archPending := x.archPending.drop 128, archSince := s1.mono }
    else
      ((s1.modFlt fun x => { x with archSince := s1.mono }).drawn).flashFailed false (0x02100000 + s1.draw.1 % 4096 * 4096)

def execArchivePageWrite (ok : Bool) (s : State) : Answer State := .next (s.archivePage ok)

/-! ### Release (R555) -/

/-- The domains in which a region's blocks lie (Table AC-1, Table PW-1). -/
def regionDomains : Nat → List Nat
  | 2 => [2]
  | 3 => [4]
  | 4 => [5]
  | 5 => [3]
  | 6 => [7, 8, 9, 10, 11, 12, 13]
  | 7 => [6]
  | 9 => [14, 15]
  | 10 => [16]
  | 11 => [17]
  | _ => []

/-- Counters and status values of a region return to reset with it (R556). -/
def State.clearRegionRo (s : State) (region : Nat) : State :=
  { s with ro := s.ro.filter fun p => idxRegion p.1 != region }

/-- What else a region's reset loses: retired lanes serve again; region FLOCK loses its cache and ends the requests and campaigns that it
holds, the record table staying in external memory; region FAULT its log, its records being read back from flash; the UARTs their FIFOs
(R16, R261, R549, Table FT-5). -/
def State.regionLost (s : State) (region : Nat) : State :=
  match region with
  | 7 => { s with mesh := { s.mesh with per := s.mesh.per.map fun x => { x with retired := 0 } } }
  | 8 =>
    let s1 := s.flock.reqs.foldl (fun (s : State) (q : DelReq) =>
      if q.txn.isNone then s.drawn.completeReq q (freeError s.draw.1) false 0 else s) s
    { s1 with flock := { s1.flock with cache := [], fetching := [], camp := Vector.replicate 4 Campaign.reset } }
  | 14 => { s with uart := { s.uart with port := Vector.replicate 4 Uart.reset } }
  | 15 => s.modFlt fun x => { x with
      log := [], nextSeq := 0, windows := [], archPending := [], records := x.recFlash.take 64, recCount := 0 }
  | _ => s

/-- The reset of a held region: its domains that are on lose their state and start as from off, its settings come from the running
configuration; retired cells serve again and its engines start (R16, R49, R555). -/
def State.regionReset (s : State) (region : Nat) : State :=
  let s1 := s.clearRegionRo region
  let s2 := s1.modFlt fun x => { x with retired := x.retired.filter fun c => c.region != region }
  let s3 := (s2.modArb region fun _ => Arbiter.reset).regionLost region
  (regionDomains region).foldl (fun (s : State) (d : Nat) =>
    if s.domOn d then (s.domainDown (domFin d) true).domainUp (domFin d) true else s) s3

/-- Why a write of FAULT_RELEASE is refused (R555). -/
def State.releaseCheck (s : State) (v : Nat) : Nat :=
  if v < 2 ∨ 15 < v then 4 else if !s.isHeld v || s.flt.refused.contains v then 5 else 0

/-- The region returns to service (R555); FAULT_HELD changes (Table HP-2). -/
def State.releasePut (s : State) (v : Nat) : State :=
  let s1 := s.modFlt fun x => { x with held := x.held.erase v, released := insertKey v s.mono x.released }
  (((s1.regionReset v).raise (Ev.REGION_RELEASED v)).setIrq 1)

/-- FAULT_RELEASE. -/
def State.faultRelease (s : State) (v : Nat) : State :=
  if s.releaseCheck v = 0 then (s.releasePut v).bumpRev Obj.FAULT_RELEASE else s

def execFaultRelease (v : Nat) (s : State) : Answer State := .next (s.faultRelease v).settled

/-! ### Flash actions (R46, R557) -/

/-- FAULT_CLEAR erases the flash record area (Table FT-5). -/
def State.faultClearPut (s : State) : State := s.flashOp Obj.FAULT_CLEAR 0x03100000 0 []

def State.faultClear (s : State) (v : Nat) : State :=
  if v = 1 then s.faultClearPut.bumpRev Obj.FAULT_CLEAR else s

def execFaultClear (v : Nat) (s : State) : Answer State := .next (s.faultClear v)

/-- What a flash action stores when it ends well, and what a verification finds either way. -/
def State.flashEnd (s : State) (o : FlashOp) (ok : Bool) : State :=
  if o.index = Obj.FW_VERIFY then s.fwVerified ⟨o.arg % 2, by omega⟩ ok
  else if o.index = Obj.FL_IMAGE_VERIFY then s.imageVerified o.arg ok
  else if !ok then s.flashFailed true o.addr
  else if o.index = Obj.FAULT_CLEAR then s.modFlt fun x => { x with recFlash := [] }
  else s

/-- FLASH_ACTION_DONE: the flash erase or verification that a write of `index` started ends; the object's R46 status becomes 0, or
an error code that the spec does not state (R46). Profile stores end by PROFILE_STORE_DONE. -/
def State.flashAction (s : State) (index : Nat) (ok : Bool) : State :=
  if index = Obj.PROFILE_COMMIT ∨ index = Obj.PROFILE_SAVE then s
  else match s.fw.ops.find? fun o => o.index == index with
    | none => s
    | some o =>
      let s1 := (s.modFw fun x => { x with ops := x.ops.eraseP fun y => y.index == index }).flashEnd o ok
      if (s1.fw.ops.any fun y => y.index == index) then s1
      else if ok then s1.setAct index 0 else s1.drawn.setAct index (freeError s1.draw.1)

def execFlashActionDone (index : Nat) (ok : Bool) (s : State) : Answer State := .next (s.flashAction index ok)

end Sys2Proof.Machine
end

