-- ==== Sys2Proof/Machine/Values.lean ====
section
/-!
DEFINITION. The values of objects as the dictionary server reads them: what each read-only object reports, and the encoding of a
value on the wire (02_object_dictionary.md R38, R39, R46 to R48, R54).
-/

namespace Sys2Proof.Machine

/-! ### Types on the wire (Table OD-2, R40, R54) -/

/-- Size of a field in octets. -/
def Ty.size : Ty → Nat
  | .bool | .u8 | .i8 => 1
  | .u16 | .i16 => 2
  | .u32 | .i32 | .f32 => 4
  | .u64 | .i64 | .f64 => 8
  | .ts96 => 12
  | .bytes n => n

/-- Type code of Table OD-2. -/
def Ty.code : Ty → Nat
  | .bool => 1
  | .u8 => 2
  | .u16 => 3
  | .u32 => 4
  | .u64 => 5
  | .i8 => 6
  | .i16 => 7
  | .i32 => 8
  | .i64 => 9
  | .f32 => 0x0A
  | .f64 => 0x0B
  | .ts96 => 0x0C
  | .bytes _ => 0x0D

/-- The type is read as two's complement. -/
def Ty.signed : Ty → Bool
  | .i8 | .i16 | .i32 | .i64 => true
  | _ => false

def Ty.encode (t : Ty) (v : Int) : Bytes := intLe t.size v

def Ty.decode (t : Ty) (bs : Bytes) : Int :=
  let n := leNat (bs.take t.size)
  if t.signed && (2 ^ (8 * t.size - 1) ≤ n : Bool) then (n : Int) - (2 ^ (8 * t.size) : Nat) else n

/-- Size of one element. -/
def ObjInfo.elemSize (o : ObjInfo) : Nat := (o.fields.map fun (f : FieldInfo) => f.ty.size).sum

/-- Type code of one element. -/
def ObjInfo.elemCode (o : ObjInfo) : Nat :=
  match o.kind, o.fields with
  | .record, _ => 0x0F
  | _, [f] => f.ty.code
  | _, _ => 0x0F

/-- Size of the whole object, the greatest one for BYTES (R62). -/
def ObjInfo.size (o : ObjInfo) : Nat :=
  match o.kind with
  | .array n => n * o.elemSize
  | .blob n => n
  | _ => o.elemSize

/-- Type code of the whole object. -/
def ObjInfo.code (o : ObjInfo) : Nat :=
  match o.kind with
  | .array _ => 0x10
  | .blob _ => 0x0D
  | .record => 0x0F
  | .scalar => o.elemCode

/-- One element's octets: its fields in order, without padding (R39). -/
def encodeElem : List FieldInfo → List Int → Bytes
  | [], _ => []
  | f :: fs, [] => f.ty.encode 0 ++ encodeElem fs []
  | f :: fs, v :: vs => f.ty.encode v ++ encodeElem fs vs

/-- One element from octets. -/
def decodeElem : List FieldInfo → Bytes → List Int
  | [], _ => []
  | f :: fs, bs => f.ty.decode bs :: decodeElem fs (bs.drop f.ty.size)

/-- `n` elements from octets. -/
def decodeElems (fs : List FieldInfo) (size : Nat) : Nat → Bytes → Val
  | 0, _ => []
  | n + 1, bs => decodeElem fs bs :: decodeElems fs size n (bs.drop size)

/-- The octets of a BYTES object as a value, and back. -/
def bytesVal (bs : Bytes) : Val := bs.map fun (b : Byte) => [(b.toNat : Int)]
def valBytes (v : Val) : Bytes := v.map fun (e : List Int) => BitVec.ofInt 8 (e.headD 0)

/-! ### Small conversions -/

def iofB (b : Bool) : Int := if b then 1 else 0
def ofN (n : Nat) : Int := n

/-- Whole seconds until a TB_MONO time, rounded up; 0 when it has passed. -/
def State.secsTo (s : State) (t : HalfNs) : Nat := (t - s.mono + secHalfNs - 1) / secHalfNs

def finD {n : Nat} [NeZero n] (i : Nat) : Fin n := Fin.ofNat n i

/-! ### Whole-machine values that several objects report -/

/-- A region's state of REGION_INFO (R38): 3 held at chip level, 2 restarting, 1 in service when one of its domains is on, 0
off. -/
def State.regionState (s : State) (region : Nat) : Nat :=
  if s.isHeld region then 3
  else if s.flt.containing.any fun c => c.region == region && c.level == 2 then 2
  else if region = 12 ∨ region = 13 ∨ ([1, 8, 14, 15].contains region && s.domServes 1) ∨ (regionDomains region).any s.domServes then 1
  else 0

/-- The objects of Table SU-9: what the boot ROM serves in the recovery state (R105). -/
def recoveryObjects : List Nat := [
  Obj.RESET_CAUSE, Obj.RESET_COUNT, Obj.START_STATE, Obj.START_FLAGS, Obj.START_TIME, Obj.CHIP_RESET, Obj.PERST_SCOPE,
  Obj.CLOCK_RETRY, Obj.CLOCK_SOURCE, Obj.BOOT_BUNDLE, Obj.BUNDLE_INFO, Obj.ROLLBACK_FLOOR, Obj.FW_STAGE_BEGIN,
  Obj.FW_STAGE, Obj.FW_VERIFY, Obj.FW_VERIFY_REASON, Obj.FW_ACTIVATE, Obj.FW_CONFIRM, Obj.FW_TRIAL_TIMEOUT,
  Obj.FW_TRIAL_REMAINING, Obj.ROLLBACK_ADVANCE]

/-- Session objects that the recovery state serves (R105; which these are is a DESIGN CHOICE, log entry 133). -/
def recoverySession : List Nat := [Obj.SESSION_IDLE_TIMEOUT, Obj.SESSIONS_OPEN, Obj.SESSION_TABLE, Obj.SESSION_END]

/-- In the recovery state only these objects exist (R105). -/
def recoveryServes (index : Nat) : Bool :=
  idxObj index == 0 || recoveryObjects.contains index || recoverySession.contains index

/-- REGION_INFO (R38). -/
def State.regionInfo (s : State) (region : Nat) : List Int :=
  let objs := regionObjects region
  let count := if s.start.st = 5 then (objs.filter fun (o : ObjInfo) => recoveryServes o.index).length + 1
    else objs.length + 1
  [ofN region, ofN (s.regionState region), ofN count, if s.start.st = 5 then 0 else 1]

/-- A profile's magic, format, number, length and CRC hold (R83, R85). -/
def profileHeaderOk (n : Nat) (p : Bytes) : Bool :=
  leAt p 0 4 == 0x4650524C && leAt p 4 2 == 1 && leAt p 6 1 == n && decide (32 ≤ leAt p 8 4) && leAt p 8 4 == p.length
    && decide (p.length ≤ 65536) && leAt p 28 4 == crc32c (p.take 28 ++ natLe 4 0 ++ p.drop 32)

/-- The inert profile P0: a header without entries (R83); its BUILD is the model's own (log entry 13). -/
def profile0 : Bytes :=
  let h := natLe 4 0x4650524C ++ natLe 2 1 ++ natLe 1 0 ++ natLe 1 0 ++ natLe 4 32 ++ natLe 4 0 ++ natLe 8 0 ++ natLe 4 0
  h ++ natLe 4 (crc32c (h ++ natLe 4 0))

/-- The profile in flash at a number; P0 is part of the device (R83). -/
def State.profileAt (s : State) (n : Nat) : Bytes := if n = 0 then profile0 else s.fw.profileOf n

/-- PROFILE_INFO of a profile. -/
def State.profileInfo (s : State) (n : Nat) : List Int :=
  let p := s.profileAt n
  if profileHeaderOk n p then [1, ofN (leAt p 8 4), ofN (leAt p 12 4), ofN (leAt p 16 8), ofN (leAt p 28 4)]
  else [0, 0, 0, 0, 0]

/-- BUNDLE_INFO of a slot (R111). Without a bundle its VERSION, SVN and BUILD read 0 (R121; DESIGN CHOICE, log entry 132). -/
def State.bundleInfo (s : State) (t : Fin 2) : List Int :=
  let b := s.fw.slot[t]
  [ofN (s.dir.slotState t), ofN (bundleVersion b), ofN (bundleSvn b), ofN (bundleBuild b), ofN s.fw.reason[t]]

/-- SESSION_TABLE: the authenticated sessions (Table OD-9). -/
def State.sessionRow (s : State) (e : Nat) : List Int :=
  match (s.lop.sessions.filter (·.auth))[e]? with
  | some x => [ofN x.id, ofN x.role, ofN x.transport, ofN (min 65535 ((s.mono - x.lastAt) / secHalfNs))]
  | none => [0, 0, 0, 0]

/-- ISLAND_PENDING: the islands with writes in flight (R25, R32). -/
def State.islandPending (s : State) : Nat := s.isl.inflight.foldl (fun (m : Nat) (w : Inflight) => m ||| 2 ^ w.island) 0

/-- An event entry as the fields of Table FT-1. -/
def EventEntry.fields (e : EventEntry) : List Int :=
  [ofN e.code, ofN e.inst, ofN e.flags, ofN e.seq, ofN e.time, ofN e.arg0, ofN e.arg1, 0]

/-- Bytes 0 to 251 of a fault record (Table FT-4). -/
def FaultRec.body (r : FaultRec) : Bytes :=
  natLe 4 0x544C5546 ++ natLe 2 1 ++ natLe 2 r.code ++ natLe 1 r.region ++ natLe 1 r.block ++ natLe 2 r.cell
    ++ natLe 1 r.action ++ natLe 1 r.tries ++ natLe 2 0 ++ natLe 12 r.time ++ natLe 4 r.seq ++ natLe 4 r.resetCount
    ++ natLe 4 r.version ++ natLe 24 0 ++ natLe 188 r.detail

/-- A fault record as fields, its CRC computed. -/
def FaultRec.fields (r : FaultRec) : List Int :=
  [0x544C5546, 1, ofN r.code, ofN r.region, ofN r.block, ofN r.cell, ofN r.action, ofN r.tries, 0, ofN r.time, ofN r.seq,
    ofN r.resetCount, ofN r.version, 0, ofN (r.detail % 2 ^ 1504), ofN (crc32c r.body)]

/-! ### Read-only objects whose value the block computes

Each function answers element `e` of the object with base index `b` and instance `i`, none when the object is a counter or a status that
the block keeps in its store of reported values. -/

def State.roSys (s : State) (b i e : Nat) : Option (List Int) :=
  if b = Obj.ENG_STATE then some [ofN (s.eng[(finD i : Fin 8)]).st]
  else if b = Obj.ENG_RESTARTS then some [ofN (s.eng[(finD i : Fin 8)]).restarts]
  else if b = Obj.ENG_LAST_RESTART then some [ofN (s.eng[(finD i : Fin 8)]).last]
  else if b = Obj.ISLAND_PENDING then some [ofN s.islandPending]
  else if b = Obj.LOREF_VERSION then some [0x0201]
  else if b = Obj.SESSIONS_OPEN then some [ofN (s.lop.sessions.filter (·.auth)).length]
  else if b = Obj.SESSION_TABLE then some (s.sessionRow e)
  else if b = Obj.PROFILE_ACTIVE then some [ofN s.start.profileActive]
  else if b = Obj.PROFILE_PINS then some [ofN s.start.profPins]
  else if b = Obj.PROFILE_INFO then some (s.profileInfo e)
  else if b = Obj.RESET_CAUSE then some [ofN s.start.cause]
  else if b = Obj.RESET_COUNT then some [ofN s.start.count]
  else if b = Obj.START_STATE then some [ofN s.start.st]
  else if b = Obj.START_FLAGS then some [ofN s.start.flags]
  else if b = Obj.START_TIME then some [ofN s.start.startTime]
  else if b = Obj.CLOCK_SOURCE then some [ofN s.start.clock]
  else if b = Obj.BOOT_BUNDLE then some [ofN s.start.bundle]
  else if b = Obj.BUNDLE_INFO then some (s.bundleInfo (finD e))
  else if b = Obj.ROLLBACK_FLOOR then some [ofN s.fw.otp.floor]
  else if b = Obj.FW_VERIFY_REASON then some [ofN s.fw.verifyReason]
  else if b = Obj.FW_TRIAL_REMAINING then some [ofN (match s.fw.trialEnd with | some t => s.secsTo t | none => 0)]
  else none

/-- Seconds that the open presence window still runs (R488, R489). -/
def State.presRemaining (s : State) : Nat := if s.sec.presClass = 0 then 0 else min 120 (s.secsTo (s.sec.presAt + 120 * secHalfNs))

def State.roSec (s : State) (b e : Nat) : Option (List Int) :=
  let x := s.sec
  if b = Obj.SEC_SLOT_INFO then some [ofN (x.slot[(finD e : Fin 64)]).st, ofN (x.slot[(finD e : Fin 64)]).gen]
  else if b = Obj.SEC_ROOTS_PRESENT then some [ofN s.rootsPresent]
  else if b = Obj.SEC_ROOT_FPR then some [ofN (s.fingerprint (finD e) % 2 ^ 128)]
  else if b = Obj.SEC_CACHE_STATS then some [ofN s.liveLines, ofN x.hits, ofN x.misses, ofN x.evictions]
  else if b = Obj.SEC_ENTROPY_STATE then some [iofB x.entropyFail]
  else if b = Obj.SEC_TAMPER_LATCH then some [ofN x.latch]
  else if b = Obj.SEC_ZEROISATIONS then some [ofN x.zeroisations]
  else if b = Obj.SEC_LAST_TAMPER then some [ofN x.lastSource, ofN x.lastTick]
  else if b = Obj.SEC_PRES_STATE then
    some [ofN x.presClass, ofN s.presRemaining, if x.presClass = 0 then 0 else ofN (ts96 x.presOpened)]
  else if b = Obj.SEC_NEXT_KEY_WRAP_OUT then some [ofN x.nextWrap.1, ofN x.nextWrap.2]
  else if b = Obj.SEC_ATTEST_STATUS then some [ofN (s.actOf Obj.SEC_ATTEST_STATUS)]
  else none

def State.roPorts (s : State) (b i e : Nat) : Option (List Int) :=
  if b = Obj.HOST_LINK then some [ofN s.host.link.1, ofN s.host.link.2.1, iofB s.host.link.2.2]
  else if b = Obj.RING_STATE then
    let r := s.host.ring[(finD e : Fin 6)]
    some [ofN r.st, ofN r.error, ofN r.prod, ofN r.cons]
  else if b = Obj.RING_HELD then some [ofN s.host.held.length]
  else if b = Obj.ETH_LINK then
    let x := s.port.eth[(finD i : Fin 2)]
    some [iofB x.up, ofN x.speed]
  else if b = Obj.ETH_TS_INT_LAT then
    let x := s.port.eth[(finD i : Fin 2)]
    some [if e = 0 then ofN x.latIn else ofN x.latOut]
  else if b = Obj.MEM_DDR_INFO then some [ofN s.port.ddr, ofN s.port.ddrSize, ofN s.port.ddrRanks]
  else if b = Obj.MEM_FLASH_INFO then some [ofN s.port.flashSt, ofN s.port.flashSize, ofN s.port.jedec]
  else none

/-- A measured temperature as an I8. -/
def toI8 (t : Int) : Int := max (-128) (min 127 t)

/-- GRF objects of Table GN-9 (index with instance 6). -/
def State.roGrf (s : State) (index e : Nat) : Option (List Int) :=
  if index = Obj.GRF_STATE then some [ofN s.gnss.grf]
  else if index = Obj.GRF_CAL_STATUS then some [ofN ((s.gnss.band[(finD (e / 4) : Fin 2)]).cal[(finD e : Fin 4)])]
  else if index = Obj.GN_RF_DELAY then some [ofN (s.gnss.band[(finD e : Fin 2)]).delay]
  else if index = Obj.GN_ANT_STATE then some [ofN s.gnss.ant]
  else if index = Obj.GN_ANT_CURRENT then some [ofN s.gnss.antCurrent]
  else none

def State.roRf (s : State) (index b i e : Nat) : Option (List Int) :=
  let p : Fin 6 := finD i
  if i = 6 then s.roGrf index e
  else if b = Obj.RF_STATE then some [ofN (s.path p).st]
  else if b = Obj.RF_TX_INHIBIT then some [iofB (s.path p).inhibit]
  else if b = Obj.RF_PWR_ANT then some [if pwrValid (s.pwrEntry p e) then s.pAnt p e else -32768]
  else if b = Obj.REG_LOCK_STATE then some [ofN s.lockState]
  else if b = Obj.RF_THERMAL_STEPS then some [ofN s.rf.thermalSteps]
  else if b = Obj.RF_DIE_TEMP then some [toI8 s.rf.dieTemp]
  else none

/-- MESH_LANE_STATE (R173). -/
def State.laneState (s : State) (p : Fin 6) (k : Nat) : Nat :=
  if s.mesh.per[p].retired.testBit k then 2 else if decide (k < laneCount p) && (s.laneCfg p k).testBit 0 then 1 else 0

/-- DUTY_NEXT: seconds until the general budget of an account has 100 ms free (Table LK-6); when no bucket that leaves the window frees
them, no time is stated, a free value (log entry 1). -/
def State.dutyNext (s : State) (b : Fin 2) (a : Nat) : Nat :=
  match s.dutyLimit b a with
  | none => 0
  | some l =>
    let cap := l - beaconReserve l
    let x := s.acct b a
    let free := fun (m : Nat) => decide (x.used m + x.reserved + 100 ≤ cap)
    if free s.minute then 0
    else match (List.range 60).find? fun k => free (s.minute + k + 1) with
      | some k => min 65535 (s.secsTo ((s.minute + k + 1) * 60 * secHalfNs))
      | none => s.draw.1 % 65536

/-- The links in one state. -/
def State.linksIn (s : State) (st : Nat) : Nat := (s.flock.recs.filter fun x => x.2.link.st == st).length

def State.roMesh (s : State) (b i e : Nat) : Option (List Int) :=
  let p : Fin 6 := finD i
  let k : Fin 2 := if i = 4 then 1 else 0
  if b = Obj.MESH_PLAN then some [if s.lockState = 1 then ofN s.lockRegion else 0]
  else if b = Obj.MESH_ASN then some [ofN s.asn]
  else if b = Obj.MESH_SLOT_INDEX then some [ofN (s.absSlot s.air % 64)]
  else if b = Obj.MESH_EPOCH then some [ofN (s.asn / 256)]
  else if b = Obj.MESH_LINKS_RESYNC then some [ofN (s.linksIn 3)]
  else if b = Obj.MESH_NBR_STATE then
    let x := s.mesh.nbr[(finD e : Fin 16)]
    some [ofN x.st, ofN x.misses, ofN x.lastHeard, ofN x.heard, ofN x.missed]
  else if b = Obj.LINK_STATE_COUNTS then some [ofN (s.linksIn e)]
  else if b = Obj.LINK_TXN_INUSE then some [ofN s.txnInUse]
  else if b = Obj.MESH_LANE_STATE then some [ofN (s.laneState p e)]
  else if b = Obj.MESH_SLOTS_FROZEN then some [ofN (s.slotsExcluded p [2])]
  else if b = Obj.MESH_SLOTS_NEIGHBOUR then some [ofN (s.slotsExcluded p [1])]
  else if b = Obj.MESH_CHMAP_PENDING then some [match s.mesh.per[p].update with | some u => ofN u.map | none => 0]
  else if b = Obj.MESH_CHMAP_APPLY_ASN then some [match s.mesh.per[p].update with | some u => ofN u.applyAsn | none => 0]
  else if b = Obj.MESH_CHMAP_UNCONFIRMED then
    some [match s.mesh.per[p].update with | some _ => ofN (s.unconfirmed p) | none => 0]
  else if b = Obj.DUTY_LIMIT_MS then some [match s.dutyLimit k e with | some l => ofN l | none => 0xFFFFFFFF]
  else if b = Obj.DUTY_USED then some [ofN ((s.acct k e).used s.minute + (s.acct k e).reserved)]
  else if b = Obj.DUTY_RESERVE_USED then some [ofN ((s.acct k e).beaconUsed s.minute)]
  else if b = Obj.DUTY_NEXT then some [ofN (s.dutyNext k e)]
  else none

/-- FL_IMAGE_INFO of a slot. -/
def Image.info (x : Image) : List Int :=
  [ofN x.st, ofN x.reason, ofN x.len, ofN (if x.st = 2 then leAt x.content 16 4 else 0),
    ofN (if x.st = 2 then leAt x.content 6 1 else 0)]

/-- FL_CAMPAIGN_STATE of a campaign. -/
def Campaign.row (c : Campaign) : List Int :=
  [ofN c.st, ofN c.reason, ofN c.round, ofN c.sent, ofN c.members.length,
    ofN (c.members.filter fun m => m.st == 2).length, ofN (c.members.filter fun m => m.st == 3).length]

/-- FL_CHORUS_READY: bit 0 time, bit 1 a path in RX or READY with a valid carrier calibration, bit 2 root and counter (R281). -/
def State.chorusReady (s : State) : Nat :=
  bitIf s.chorusTime 0
    + bitIf ((List.finRange 6).any fun (p : Fin 6) => s.chorusPath p (s.path p).centre) 1
    + bitIf (s.chorusRoot (s.absSlot s.air)) 2

/-- A record of FLOCK_TABLE; an empty record reads as zeros. -/
def State.flockRow (s : State) (f : Nat) : List Int :=
  match s.recOf f with
  | some r => r.fields (min 255 (s.dlPending f))
  | none => []

def State.roFlock (s : State) (b e : Nat) : Option (List Int) :=
  if b = Obj.FLOCK_RECORDS then some [ofN s.flock.recs.length]
  else if b = Obj.FLOCK_PINNED then some [ofN s.pinnedCount]
  else if b = Obj.FLOCK_STORE_USED then some [ofN s.flock.reqs.length]
  else if b = Obj.FLOCK_TABLE then some (s.flockRow e)
  else if b = Obj.FLOCK_KEY_WRAP_OUT then some [ofN s.sec.flockWrap.1, ofN s.sec.flockWrap.2.1, ofN s.sec.flockWrap.2.2]
  else if b = Obj.FL_CHORUS_READY then some [ofN s.chorusReady]
  else if b = Obj.FL_IMAGE_INFO then some (s.flock.image[(finD e : Fin 8)]).info
  else if b = Obj.FL_CAMPAIGN_STATE then some (s.flock.camp[(finD e : Fin 4)]).row
  else none

/-- GN_NOTCH_STATE of a cell; the level at a fixed notch is not stated, a free value (log entry 1). -/
def State.notchRow (s : State) (b : Fin 2) (k : Nat) : List Int :=
  let c := s.gnss.band[b].cell[(finD k : Fin 4)]
  if s.notchFixed b k then [1, ofN (s.cfgN (inst Obj.GN_NOTCH_FIXED b) k 1), ofN (s.draw.1 % 256) - 128]
  else if c.used then [2, ofN c.freq, toI8 c.level] else [0, 0, 0]

def posRow (k : Nat) (p : Pos) : List Int := [ofN k, ofN p.x, ofN p.y, ofN p.z, ofN p.acc]

def State.roGnss (s : State) (b i e : Nat) : Option (List Int) :=
  let k : Fin 2 := finD i
  let g := s.gnss
  if b = Obj.GN_AGC_GAIN then some [g.band[k].gain]
  else if b = Obj.GN_JAM_IND then some [ofN g.band[k].jamInd]
  else if b = Obj.GN_JN then some [g.band[k].jn]
  else if b = Obj.GN_NOTCH_STATE then some (s.notchRow k e)
  else if b = Obj.GN_SPECTRUM then some [toI8 ((g.band[k].spectrum[e]?).getD 0)]
  else if b = Obj.GN_BLANK_RATIO then some [ofN g.band[k].ratio]
  else if b = Obj.GN_ACQ_WAITING then some [ofN (min 65535 (g.jobs.length - if s.domOn 16 then 1 else 0))]
  else if b = Obj.GN_CHANNELS_USED then some [ofN g.chans.length]
  else if b = Obj.GN_SYS_OFFSET then some [(g.sysOff[(finD e : Fin 5)]).1, ofN (g.sysOff[(finD e : Fin 5)]).2]
  else if b = Obj.GN_SURVEY_STATE then
    some [ofN g.survey, ofN g.surveyS, ofN g.surveyMean.x, ofN g.surveyMean.y, ofN g.surveyMean.z, ofN g.surveyMean.acc]
  else if b = Obj.GN_REF_POS then some (posRow s.refPos.1 s.refPos.2)
  else if b = Obj.GN_START_TYPE then some [ofN g.startType]
  else if b = Obj.GN_TTFF then some [ofN (g.ttff.getD 0)]
  else if b = Obj.TP_STATE then some [ofN (s.tpState (finD e))]
  else if b = Obj.TP_LAST then
    let x := s.time.pulse[(finD e : Fin 2)]
    some [ofN x.lastTime, ofN x.lastFlags, ofN x.seq]
  else none

/-- SN_RATE: FIX results of the last 10 s, per second and cut to a whole number. -/
def State.snRate (s : State) : Nat := (s.snap.fixes.filter fun t => s.mono < t + 10 * secHalfNs).length / 10

/-- SN_NIMBUS_LOAD: the snapshot time of the last 100 accounting intervals, in percent. -/
def State.snLoad (s : State) : Nat := s.snap.load.sum * 100 / secHalfNs

def State.roNimbus (s : State) (b : Nat) : Option (List Int) :=
  if b = Obj.SN_QUEUE_DEPTH then some [ofN s.snDepth]
  else if b = Obj.SN_QUEUE_PEAK then some [ofN s.snap.peak]
  else if b = Obj.SN_FRAG_HELD then some [ofN s.snap.frags.length]
  else if b = Obj.SN_RATE then some [ofN (min 65535 s.snRate)]
  else if b = Obj.SN_NIMBUS_LOAD then some [ofN (min 255 s.snLoad)]
  else none

/-- PTP_PARENT of an instance. -/
def Ptp.parent (p : Ptp) : List Int :=
  match p.master with
  | some m => [ofN m.identity, ofN m.cls, ofN m.accuracy, ofN m.stepsRemoved, iofB m.timeTraceable]
  | none => [0, 0, 0, 0, 0]

def State.roTime (s : State) (b i e : Nat) : Option (List Int) :=
  let x := s.time.base[(finD i : Fin 5)]
  let p := s.time.ptp[(finD (i + 1) : Fin 2)]
  if b = Obj.TB_NOW then some [ofN (ts96 (if i = 4 then s.mono else x.now))]
  else if b = Obj.TB_STATE then some [ofN x.st]
  else if b = Obj.TB_ERR_EST then some [ofN x.err]
  else if b = Obj.TB_FREQ_OFFSET then some [x.freq]
  else if b = Obj.TB_SLEW_ACC then some [x.slew]
  else if b = Obj.TB_STEPS then some [ofN x.steps]
  else if b = Obj.TB_LAST_STEP then some [ofN x.lastStepAt, x.lastStepSize]
  else if b = Obj.TB_FLAGS then some [ofN x.flags]
  else if b = Obj.TM_SELECTED then some [ofN s.time.selected]
  else if b = Obj.TM_SRC_STATE then
    let y := s.time.src[(finD e : Fin 4)]
    some [iofB y.qualified, iofB y.disagreeing, y.offset, ofN y.err]
  else if b = Obj.TM_CV_RESULT then some (if s.time.cv.isEmpty then [0, 0, 0, 0] else s.time.cv)
  else if b = Obj.PTP_PORT_STATE then some [ofN p.portState]
  else if b = Obj.PTP_PARENT then some p.parent
  else if b = Obj.PTP_OFFSET then some [p.offset]
  else if b = Obj.PTP_MEAN_DELAY then some [p.meanDelay]
  else none

def State.roAon (s : State) (b e : Nat) : Option (List Int) :=
  let a := s.aon
  if b = Obj.RTC_TICK then some [ofN a.tick]
  else if b = Obj.RTC_NOW then
    some [ofN a.cal.sec, ofN a.cal.min, ofN a.cal.hour, ofN a.cal.wday, ofN a.cal.day, ofN a.cal.month, ofN a.cal.year,
      ofN (a.pres % 32768)]
  else if b = Obj.RTC_PENDING then some [ofN a.pending]
  else if b = Obj.RTC_ALARM_STATE then some [ofN a.alarm]
  else if b = Obj.TIME_DOUBTFUL then some [iofB a.doubtful]
  else if b = Obj.AON_TIME_ANCHOR then some [ofN a.anchor.tick, ofN a.anchor.time, a.anchor.rateErr, ofN a.anchor.err]
  else if b = Obj.AON_SUPPLY then some [ofN a.supply]
  else if b = Obj.AON_VBAT_MV then some [ofN a.vbat]
  else if b = Obj.PADDOCK_STATE then
    let x := a.bank[(finD e : Fin 4)]
    some [ofN x.st, ofN x.signature, ofN x.sealedAt]
  else none

def State.roPwr (s : State) (b e : Nat) : Option (List Int) :=
  if b = Obj.PW_STATE then some [ofN (s.dom (domFin e)).st]
  else if b = Obj.PW_STEP then some [ofN (s.dom (domFin e)).step]
  else none

def State.roUart (s : State) (b i : Nat) : Option (List Int) :=
  let n : Fin 4 := finD i
  let u := s.uart.port[n]
  if b = Obj.UART_BAUD_ACTUAL then some [ofN (uartActual (s.uartN n Obj.UART_OSR) (s.uartN n Obj.UART_BAUD))]
  else if b = Obj.UART_STATUS then
    some [ofN u.rx.length, ofN u.tx.length, ofN u.line, iofB (s.uartLoref n), iofB u.rts, iofB u.cts,
      iofB (n == 0 && s.wakeArmed)]
  else none

def State.roFault (s : State) (b e : Nat) : Option (List Int) :=
  if b = Obj.EVENT_LOG then some (match s.flt.log[e]? with | some x => x.fields | none => [])
  else if b = Obj.EVENT_SEQ then
    some [ofN ((s.flt.log.head?.map (·.seq)).getD s.flt.nextSeq), ofN s.flt.nextSeq]
  else if b = Obj.FAULT_RECORD then some (match s.flt.records[e]? with | some r => r.fields | none => [])
  else none

/-- One element of a read-only object (R47): what its block reports, or its counter. -/
def State.roElem (s : State) (index e : Nat) : List Int :=
  let b := idxBase index
  let i := idxInst index
  let computed : Option (List Int) :=
    if idxObj index = 0 then some (s.regionInfo (idxRegion index))
    else match idxRegion index with
      | 1 => s.roSys b i e
      | 2 => s.roSec b e
      | 3 => s.roPorts b i e
      | 4 => s.roPorts b i e
      | 5 => s.roPorts b i e
      | 6 => s.roRf index b i e
      | 7 => s.roMesh b i e
      | 8 => s.roFlock b e
      | 9 => s.roGnss b i e
      | 10 => s.roNimbus b
      | 11 => s.roTime b i e
      | 12 => s.roAon b e
      | 13 => s.roPwr b e
      | 14 => s.roUart b i
      | 15 => s.roFault b e
      | _ => none
  computed.getD (((s.roVal index)[e]?).getD [])

/-! ### BYTES objects -/

/-- The content of a BYTES object (R39, R47). -/
def State.blob (s : State) (index : Nat) : Bytes :=
  if index = Obj.PROFILE_STAGE then s.fw.stage
  else if index = Obj.FW_STAGE then s.fw.slot[s.target0]
  else if index = Obj.FL_IMAGE_STAGE then (s.flock.image[(finD s.flock.imageSlot : Fin 8)]).content
  else if index = Obj.SEC_ATTEST_REPORT then s.sec.report
  else if index = Obj.SEC_ATTEST_PUBKEY then natLe 2592 (Config.mldsaPublic s.attestSeed)
  else if index = Obj.REG_LOCK_RECORD then (s.lockRecord).getD []
  else if index = Obj.GN_MEAS_LAST then s.gnss.measLast
  else if index = Obj.GN_NAV_LAST then s.gnss.navLast
  else if index = Obj.EVENT_ARCHIVE then s.flt.archive.flatMap EventEntry.bytes
  else valBytes (s.cfgVal index)

/-! ### Elements of every object -/

/-- The action objects of Table OD-10. -/
def actionObjects : List Nat := [
  Obj.SESSION_END, Obj.PROFILE_BOOT_OVERRIDE, Obj.PROFILE_STAGE, Obj.PROFILE_COMMIT, Obj.PROFILE_SAVE, Obj.PROFILE_APPLY,
  Obj.CHIP_RESET, Obj.CLOCK_RETRY, Obj.FW_STAGE_BEGIN, Obj.FW_STAGE, Obj.FW_VERIFY, Obj.FW_ACTIVATE, Obj.FW_CONFIRM,
  Obj.ROLLBACK_ADVANCE, Obj.SEC_ZEROISE, Obj.SEC_ROOT_LOAD, Obj.SEC_ROOT_ERASE, Obj.SEC_DISTRICT_SWITCH,
  Obj.SEC_NEXT_KEY_WRAP, Obj.FLOCK_RESTORE, Obj.FLOCK_KEY_WRAP, Obj.FL_IMAGE_BEGIN, Obj.FL_IMAGE_STAGE, Obj.FL_IMAGE_VERIFY,
  Obj.FL_CAMPAIGN_START, Obj.FL_CAMPAIGN_STOP, Obj.TM_HOST_TIME, Obj.PADDOCK_CLEAR, Obj.FAULT_CLEAR]

/-- The action objects whose rule names the R46 status as what a read returns (R46, R47). -/
def statusObjects : List Nat := [
  Obj.SESSION_END, Obj.CLOCK_RETRY, Obj.FW_STAGE_BEGIN, Obj.FW_VERIFY, Obj.SEC_ROOT_LOAD, Obj.SEC_NEXT_KEY_WRAP,
  Obj.FLOCK_KEY_WRAP, Obj.FL_IMAGE_VERIFY, Obj.FAULT_CLEAR]

/-- One element of an object that is no BYTES object, for a read (R47). -/
def State.elem (s : State) (o : ObjInfo) (index e : Nat) : List Int :=
  if o.acc = .ro then s.roElem index e
  else if index = Obj.PROFILE_BOOT_OVERRIDE then [ofN s.dir.bootOverride]
  else if index = Obj.SEC_DISTRICT_SWITCH then [ofN (s.sec.switchAsn.getD 0)]
  else if index = Obj.PW_WAKE_ENABLE then [ofN (s.cfgN index / 2 * 2 + s.cfgN Obj.RTC_ALARM_WAKE)]
  else if index = Obj.FLOCK_CFG then match s.recOf e with | some r => r.cfg.fields | none => []
  else if index = Obj.FLOCK_RESTORE then
    ((((s.cfgVal index).find? fun (x : List Int) => x.head? == some (ofN e))).getD []).tail
  else if idxBase index = Obj.UART_TX_DATA then
    [ofN (((s.uart.port[(finD (idxInst index) : Fin 4)]).tx[e]?).getD 0)]
  else ((s.cfgVal index)[e]?).getD []

/-- `n` elements from element `e`, as octets. -/
def State.elems (s : State) (o : ObjInfo) (index e n : Nat) : Bytes :=
  (List.range n).flatMap fun k => encodeElem o.fields (s.elem o index (e + k))

/-- One field of a RECORD, as octets; fields of BYTES type have their fixed length (R39). -/
def State.field (s : State) (o : ObjInfo) (index f : Nat) : Bytes :=
  match o.fields[f]? with
  | some i => i.ty.encode (((s.elem o index 0)[f]?).getD 0)
  | none => []

end Sys2Proof.Machine
end

