-- ==== Sys2Proof/Machine/Settings.lean ====
section
/-!
DEFINITION. Settings: the checks of a write to an object of the running configuration (02_object_dictionary.md R41, R42, R50 and the
constraints that each chapter states for its objects), and what a setting does when it takes effect (R48, R49).

A check answers a status of Table OD-6, 0 when the write is accepted. `new` is the whole value of the object as it would stand after the
write, `e` and `n` the first element written and their number (fields of a RECORD: `e` 0, `n` 1).
-/

namespace Sys2Proof.Machine

/-! ### Reserved bits (R4) -/

/-- The bits of a field that are not reserved: a write to the others is ignored (R4). -/
def keptBits (b : Nat) : Option Nat :=
  if b = Obj.LOREF_UDP_ENABLE ∨ b = Obj.LOREF_RS485_ENABLE ∨ b = Obj.RF_FE_POLARITY ∨ b = Obj.UART_ENABLE then some 3
  else if b = Obj.MESH_LANE_CFG then some 7
  else if b = Obj.RF_PWR_TABLE then some 0xFFE00000
  else if b = Obj.GN_SYSTEMS then some 0x7F
  else if b = Obj.GN_SIGNALS then some 0x7FFF
  else if b = Obj.RF_CAL_REQUEST then some 0x1FF
  else if b = Obj.PW_WAKE_ENABLE then some 0xFE
  else none

/-- A written element without its reserved bits; bit 0 of PW_WAKE_ENABLE is no storage of its own (Table PW-6). -/
def maskElem (index : Nat) (v : List Int) : List Int :=
  (keptBits (idxBase index)).elim v fun m => v.map fun (x : Int) => ((x.toNat &&& m : Nat) : Int)

/-! ### Range (R41, R42) -/

/-- GN_SPACING of a signal (R319). -/
def spacingOk (e k : Nat) : Bool :=
  (! [1, 3, 6, 10].contains e || k ≤ 8) && (! [2, 4, 7, 11, 14].contains e || 8 ≤ k) && (e != 8 || 2 ≤ k)

/-- The usable span of a GNSS band in kHz (Table GN-3). -/
def inSpan (i khz : Nat) : Bool :=
  if i = 0 then decide (1559000 ≤ khz) && decide (khz ≤ 1610000) else decide (1164000 ≤ khz) && decide (khz ≤ 1189000)

/-- The ranges and enumerations that are more than limits of the fields: element `e` of an object, its fields `v` (the Range columns of
the object maps). -/
def elemOk (index e : Nat) (v : List Int) : Bool :=
  let b := idxBase index
  let i := idxInst index
  let f := fun (k : Nat) => fieldN v k
  let x := f 0
  if b = Obj.SEC_GROUPS then x == 0 || (0xF10000 ≤ x && x ≤ 0xF1FFFF)
  else if b = Obj.HOST_BUF_SIZE then [2048, 4096, 8192, 16384].contains x
  else if b = Obj.UART_OSR then x == 8 || x == 16
  else if b = Obj.GN_MEAS_RATE then [1, 2, 5, 10].contains x
  else if b = Obj.RF_SLICE_CENTRE then sliceOk (finD i) x
  else if b = Obj.MESH_BEACON_MODE then (modeOf x).isSome
  else if b = Obj.MESH_LANE_CFG then decide (i < 4) || decide (e < 4) || x == 0
  else if b = Obj.SN_SIGNALS then x &&& 0x249 == x
  else if b = Obj.PW_WAKE_TARGETS then x &&& 0x3FFFE == x
  else if b = Obj.GN_SPACING then spacingOk e x
  else if b = Obj.TP_PERIOD then decide (0 < x) && 1000000000 % x == 0
  else if b = Obj.GN_NOTCH_FIXED then f 0 == 0 || inSpan i (f 1)
  else if b = Obj.FL_CAMPAIGN_CFG then decide (f 1 < 6) && (modeOf (f 5)).isSome && [256, 512, 1024].contains (f 7)
  else if b = Obj.MESH_NBR_CFG then
    f 0 == 0 || (decide (f 2 < 6) && (modeOf (f 4)).isSome && decide (60 ≤ f 7))
  else if b = Obj.RTC_SET then calFits (calOfFields f)
  else if b = Obj.RTC_ALARM then
    decide (f 0 < 64) && decide (f 1 < 64) && decide (f 2 < 32) && decide (f 3 < 32) && decide (f 4 < 16) && decide (f 5 < 128)
  else if b = Obj.FW_VERIFY then x == 0
  else if b = Obj.PROFILE_BOOT_OVERRIDE then x ≤ 3 || x == 0xFF
  else true

/-- The fields of element `e` are in range. The limits of SEC_GROUPS accept 0 for none, those of an unused or unset entry of
MESH_NBR_CFG and of a disabled GN_NOTCH_FIXED are those of the entry as a whole. -/
def rangeElem (o : ObjInfo) (index e : Nat) (v : List Int) : Bool :=
  (idxBase index == Obj.SEC_GROUPS || fieldsOk o.fields v) && elemOk index e v

/-- The elements written are in range. -/
def rangeVal (o : ObjInfo) (index e n : Nat) (new : Val) : Bool :=
  (List.range n).all fun k => rangeElem o index (e + k) ((new[e + k]?).getD [])

/-! ### Cross-object constraints (R41) -/

/-- R151 for a path: entry 0 valid, no DRIVER above 32, P_ant of the valid entries never decreasing. -/
def State.powerOk (s : State) (p : Fin 6) : Bool :=
  pwrValid (s.pwrEntry p 0) && (List.range 32).all (fun n => decide (pwrDriver (s.pwrEntry p n) ≤ 32))
    && (List.range 31).all fun n => !pwrValid (s.pwrEntry p (n + 1)) ||
      (match s.highestEntry p (fun k => pwrValid (s.pwrEntry p k)) n with
        | some k => decide (s.pAnt p k ≤ s.pAnt p (n + 1))
        | none => true)

/-- R169 for a path: no enabled lane beside a WIDE one, no WIDE or LEGACY on a WB path. -/
def State.lanesOk (s : State) (p : Fin 6) : Bool :=
  (List.range 40).all fun k =>
    if isSub p then
      !(s.laneCfg p k).testBit 1 ||
        (!(decide (0 < k) && (s.laneCfg p (k - 1)).testBit 0) && !(s.laneCfg p (k + 1)).testBit 0)
    else s.laneCfg p k &&& 6 == 0

/-- R376: domain, transport and intervals lie in the column of the profile. -/
def State.ptpProfileOk (s : State) (k : Fin 2) : Bool :=
  let d := s.cfgN (inst Obj.PTP_DOMAIN (k + 1))
  let t := s.cfgN (inst Obj.PTP_TRANSPORT (k + 1))
  let v := fun f => s.ptpCfg k Obj.PTP_LOG_INTERVALS f
  let within := fun (x lo hi : Int) => decide (lo ≤ x) && decide (x ≤ hi)
  match s.cfgN (inst Obj.PTP_PROFILE (k + 1)) with
  | 2 => decide (24 ≤ d) && decide (d ≤ 43) && t == 0 && v 0 == -4 && v 1 == -3 && v 2 == -4
  | 3 => decide (44 ≤ d) && decide (d ≤ 63) && t != 0 && within (v 0) (-7) 0 && within (v 1) (-3) 0 && within (v 2) (-7) 0
  | _ => decide (d ≤ 127) && within (v 0) (-7) 1 && within (v 1) (-3) 3 && within (v 2) (-7) 5

/-- R375: two instances on one port use different domain numbers; an instance that is disabled uses none. -/
def State.ptpDomainsOk (s : State) : Bool :=
  s.ptpRole 0 == 0 || s.ptpRole 1 == 0 || s.ptpPort 0 != s.ptpPort 1
    || s.cfgN (inst Obj.PTP_DOMAIN 1) != s.cfgN (inst Obj.PTP_DOMAIN 2)

/-- R394: every output's width lies from 10 ns to its period less 10 ns. -/
def State.pulseOk (s : State) (n : Nat) : Bool :=
  decide (10 ≤ s.cfgN Obj.TP_WIDTH n) && decide (s.cfgN Obj.TP_WIDTH n + 10 ≤ s.cfgN Obj.TP_PERIOD n)

/-- A beacon of 74 octets ends in time on every path (R199). -/
def State.beaconsFit (s : State) : Bool := (List.finRange 6).all fun (p : Fin 6) => s.beaconFits p 74

/-- The settings of one index that must stand in order: floor, ceiling (04_radio_front_end.md, after R151). -/
def floorPairs : List (Nat × Nat) := [
  (Obj.RF_TXPWR_FLOOR, Obj.RF_TXPWR_CEIL), (Obj.RF_RATE_FLOOR, Obj.RF_RATE_CEIL), (Obj.RF_RXGAIN_FLOOR, Obj.RF_RXGAIN_CEIL)]

/-- The state in which each element before `e` of those written already has its new target. -/
def State.checkTargets (s : State) (e : Nat) (new : Val) : Nat → Nat
  | 0 => 0
  | n + 1 =>
    let c := s.pwTargetCheck e (valN new e)
    if c ≠ 0 then c else (s.setTarget (domFin e) (valN new e)).checkTargets (e + 1) new n

/-- Rings checked one by one. -/
def State.checkRings (s : State) (e : Nat) (new : Val) : Nat → Nat
  | 0 => 0
  | n + 1 =>
    let c := s.ringCfgCheck e ((new[e]?).getD [])
    if c ≠ 0 then c else s.checkRings (e + 1) new n

/-- The first refusal of several elements, each with a check of its own. -/
def firstCode (f : Nat → Nat) (e : Nat) : Nat → Nat
  | 0 => 0
  | n + 1 => if f e ≠ 0 then f e else firstCode f (e + 1) n

def conflictIf (b : Bool) : Nat := if b then 5 else 0

/-- LOCKED for a write of 1 to RF_TX_ENABLE (R157): no lock record is in force, or the path is a WB path and the record does not accept
it; an OTP fault of the record leaves none in force. -/
def State.txLocked (s : State) (p : Fin 6) : Bool := s.lockState != 1 || (!isSub p && !(s.lockFlags.testBit 0))

/-- Constraints of the radio, mesh and Flock settings; `t` is the state with the new value. -/
def State.conflictRadio (s t : State) (index e n : Nat) (new : Val) : Nat :=
  let b := idxBase index
  let p : Fin 6 := finD (idxInst index)
  if [Obj.RF_PWR_TABLE, Obj.RF_PA_GAIN, Obj.RF_PA_BYPASS_GAIN, Obj.RF_ANT_LOSS].contains b then conflictIf (!t.powerOk p)
  else if floorPairs.any (fun q => q.1 == b || q.2 == b) then
    conflictIf (floorPairs.any fun q => (q.1 == b || q.2 == b) && decide (t.cfgN (inst q.2 p) < t.cfgN (inst q.1 p)))
  else if b = Obj.RF_TX_ENABLE then (if valN new = 1 ∧ s.txLocked p then 0x0B else 0)
  else if index = Obj.GN_ANT_OPEN_MA ∨ index = Obj.GN_ANT_SHORT_MA then
    conflictIf (decide (t.cfgN Obj.GN_ANT_SHORT_MA ≤ t.cfgN Obj.GN_ANT_OPEN_MA))
  else if b = Obj.MESH_LANE_CFG then conflictIf (!t.lanesOk p)
  else if b = Obj.MESH_SLOT_MS then conflictIf (s.flock.recs.any (fun x => x.2.link.st != 0) || !t.beaconsFit)
  else if b = Obj.MESH_BEACON_MODE then conflictIf (!t.beaconFits p 74)
  else if b = Obj.MESH_NBR_CFG then
    conflictIf ((List.range n).any fun k => valN new (e + k) 0 == 1 && valN new (e + k) 3 != 0)
  else if b = Obj.MESH_BEACON_ENABLE then conflictIf (valN new == 1 && s.cfgN (inst Obj.MESH_CHMAP p) == 0)
  else if b = Obj.MESH_CHMAP then s.chmapReject p (valN new) (s.cfgN (inst Obj.MESH_CHMAP_C0 p))
  else if b = Obj.MESH_CHMAP_C0 then
    s.c0Reject p (valN new)
  else if b = Obj.FLOCK_CFG then firstCode (fun k => s.flockCfgCheck k (FlockCfg.ofFields ((new[k - e]?).getD []))) e n
  else 0

/-- Constraints of the GNSS, time and snapshot settings. -/
def State.conflictTime (s t : State) (index e n : Nat) (new : Val) : Nat :=
  let b := idxBase index
  let k : Fin 2 := finD (idxInst index + 1)
  if b = Obj.GN_ENABLE then s.gnEnableCheck (valN new)
  else if b = Obj.SN_ENABLE then s.snEnableCheck (valN new)
  else if b = Obj.SN_MIN_SV ∨ b = Obj.SN_HEIGHT_AID then
    conflictIf (t.cfgN Obj.SN_MIN_SV == 3 && t.cfgN Obj.SN_HEIGHT_AID == 0)
  else if b = Obj.TP_WIDTH ∨ b = Obj.TP_PERIOD then conflictIf ((List.range n).any fun j => !t.pulseOk (e + j))
  else if b = Obj.TP_POLARITY then
    conflictIf ((List.range n).any fun j => valN new (e + j) == 1 && s.cfgN Obj.TP_ENABLE (e + j) == 1)
  else if [Obj.PTP_PROFILE, Obj.PTP_DOMAIN, Obj.PTP_TRANSPORT, Obj.PTP_LOG_INTERVALS].contains b then
    conflictIf ((b != Obj.PTP_PROFILE && !t.ptpProfileOk k) || !t.ptpDomainsOk)
  else if b = Obj.PTP_ROLE ∨ b = Obj.PTP_PORT then conflictIf (!t.ptpDomainsOk)
  else 0

/-- Constraints of the ports, UARTs and power settings. -/
def State.conflictPorts (s t : State) (index e n : Nat) (new : Val) : Nat :=
  let b := idxBase index
  let i := idxInst index
  if b = Obj.LOREF_UDP_PORT1 ∨ b = Obj.LOREF_UDP_PORT2 then
    conflictIf (t.cfgN Obj.LOREF_UDP_PORT1 == t.cfgN Obj.LOREF_UDP_PORT2)
  else if b = Obj.RING_CFG then s.checkRings e new n
  else if b = Obj.HOST_RING_FORMAT then conflictIf ((List.range 6).any fun r => s.ringCfg r 4 == 1)
  else if b = Obj.HOST_BUF_SIZE then conflictIf (s.ringCfg 2 4 == 1)
  else if b = Obj.UART_BAUD then
    (if !uartRateOk (s.uartN (finD i) Obj.UART_OSR) (valN new) then 4
    else conflictIf (i == 0 && s.cfgN Obj.UART_SLOW_RX == 1 && !slowRates.contains (valN new)))
  else if b = Obj.UART_FRAME then conflictIf (t.cfgN index 0 0 == 9 && t.cfgN index 0 1 != 0)
  else if b = Obj.UART_SLOW_RX then conflictIf (valN new == 1 && !slowRates.contains (s.cfgN Obj.UART_BAUD))
  else if b = Obj.UART_RTS_LEVELS then conflictIf (decide (t.cfgN index 0 0 ≤ t.cfgN index 0 1))
  else if b = Obj.PW_TARGET then s.checkTargets e new n
  else 0

/-- The cross-object constraints of a setting. -/
def State.conflict (s : State) (index e n : Nat) (new : Val) : Nat :=
  let t := s.cfgPut index new
  match idxRegion index with
  | 6 => s.conflictRadio t index e n new
  | 7 => s.conflictRadio t index e n new
  | 8 => s.conflictRadio s index e n new
  | 9 => s.conflictTime t index e n new
  | 10 => s.conflictTime t index e n new
  | 11 => s.conflictTime t index e n new
  | _ => s.conflictPorts t index e n new

/-- The R41 checks of a setting's new value: range, enumeration, then the constraints. The Flock's elements are checked from the
written part alone. -/
def State.settingCheck (s : State) (o : ObjInfo) (index e n : Nat) (new : Val) : Nat :=
  if index = Obj.SEC_ATTEST_REQUEST then s.attestCheck
  else if idxBase index = Obj.UART_TX_DATA then
    (if rangeVal o index e n new then s.txDataCheck (finD (idxInst index)) (((new.drop e).take n).map fun (v : List Int) => (v.headD 0).toNat)
     else 4)
  else if index = Obj.FLOCK_CFG then
    (if (List.range n).all (fun k => fieldsOk o.fields ((new[k]?).getD [])) then s.conflict index e n new else 4)
  else if !rangeVal o index e n new then 4 else s.conflict index e n new

/-! ### A setting takes effect -/

/-- A neighbour entry that changes starts as never heard; an unused one is cleared (Table SF-4). -/
def State.nbrApplied (before s : State) : State :=
  (List.finRange 16).foldl (fun (s : State) (i : Fin 16) =>
    let row := fun (x : State) => ((x.cfgVal Obj.MESH_NBR_CFG)[i.val]?).getD []
    if row before = row s then s
    else s.setNbr i ⟨if s.cfgN Obj.MESH_NBR_CFG i 0 = 0 then 0 else 4, 0, 0, 0, 0⟩) s

/-- A newly enabled band calibrates, once GRF is on (R301). -/
def State.bandsApplied (before s : State) : State :=
  (List.finRange 2).foldl (fun (s : State) (b : Fin 2) =>
    if s.domOn 13 && s.bandEnabled b && !before.bandEnabled b then
      (s.modBand b fun x => { x with item := 1, itemAt := s.mono, retried := false }).modGnss fun g => { g with grf := 1 }
    else if !s.bandEnabled b && before.bandEnabled b then s.modBand b fun x => { x with item := 0, retried := false }
    else s) s

/-- What an enabled receiver or transmitter of a UART does at once (R526, R536, R541). -/
def State.uartApplied (before s : State) (n : Fin 4) : State :=
  let b := before.uartN n Obj.UART_ENABLE
  let a := s.uartN n Obj.UART_ENABLE
  let s1 := if a.testBit 0 && !b.testBit 0 then s.modUart n fun u => { u with high := false } else s
  (s1.rtsRefresh n).txKick n

/-- What a radio, mesh or security setting does in its domain when it takes effect. -/
def State.appliedRadio (before s : State) (index : Nat) : State :=
  let b := idxBase index
  let p : Fin 6 := finD (idxInst index)
  if b = Obj.RF_SLICE_CENTRE then
    (if (s.path p).st = 5 then s.drawn.tune p (s.cfgN index) (s.draw.1 % (laneCount p + 1)) else s.tune p (s.cfgN index) 0)
  else if b = Obj.RF_PATH_ENABLE then
    (if s.cfgN index = 0 ∧ before.cfgN index = 1 then (s.stopPath p 0x0B).rxOff p else s)
  else if b = Obj.RF_FE_POLARITY then
    (if (s.path p).st = 0 ∨ (s.path p).st = 1 ∨ (s.path p).st = 3 then
      s.modPath p fun x => { x with polarity := s.cfgN index } else s)
  else if b = Obj.MESH_SLOT_MS then { s with mesh := { s.mesh with edgeAsn := s.air / s.tSf } }
  else if b = Obj.MESH_NBR_CFG then before.nbrApplied s
  else if b = Obj.MESH_PAN_ID then (s.deriveBeacon 2 4).deriveBeacon 3 5
  else if b = Obj.MESH_DRIFT_TEMPCO ∨ b = Obj.MESH_DRIFT_TSWING then s.resyncAll
  else s

/-- The same for the GNSS, time and always-on settings. -/
def State.appliedTime (before s : State) (index : Nat) : State :=
  let b := idxBase index
  let k : Fin 2 := finD (idxInst index + 1)
  let changed := decide (before.cfgVal index ≠ s.cfgVal index)
  if b = Obj.GN_NOTCH_FIXED then s.fixedBand (finD (idxInst index))
  else if b = Obj.GN_FIXED_POS then s.modGnss fun g => { g with fixedWritten := true }
  else if b = Obj.GN_SIGNALS ∨ b = Obj.GN_SYSTEMS then s.sigsChanged before.sigsOn
  else if b = Obj.GN_BAND_MODE then (before.bandsApplied s).sigsChanged before.sigsOn
  else if b = Obj.GN_TIMING_MODE then (if changed then s.modGnss fun g => { g with survey := 0, surveyS := 0 } else s)
  else if idxRegion index = 11 ∧ 0x300 ≤ idxObj index then s.ptpApplied k
  else if idxRegion index = 9 ∧ 0x300 ≤ idxObj index then (s.tpRefresh 0).tpRefresh 1
  else if b = Obj.TM_HOLDOVER_ACTION then (s.tpRefresh 0).tpRefresh 1
  else if b = Obj.RTC_SYNC_ENABLE ∨ b = Obj.RTC_SCALE ∨ b = Obj.RTC_ZONE then (if changed then s.forceSync else s)
  else if b = Obj.RTC_SYNC_PERIOD then
    let g := s.time.base[0].now
    s.modAon fun a => { a with syncAt := s.mono + ((g + secHalfNs - 1) / secHalfNs * secHalfNs - g) }
  else s

/-- The same for the ports and UARTs. -/
def State.appliedPorts (before s : State) (index : Nat) : State :=
  let b := idxBase index
  let i := idxInst index
  if b = Obj.ETH_MODE then (if before.cfgN index = s.cfgN index then s else s.ethLink (finD i) false)
  else if b = Obj.UART_ENABLE ∨ b = Obj.UART_FLOW_ENABLE ∨ b = Obj.UART_RTS_LEVELS then before.uartApplied s (finD i)
  else if (i = 0 ∧ (b = Obj.UART_BAUD ∨ b = Obj.UART_FRAME ∨ b = Obj.UART_SLOW_RX)) ∨ b = Obj.LOREF_RS485_ADDRESS then s.uartCopies
  else s

/-- What a setting does once it stands in the running configuration, while its domain serves; one that does not takes it when it turns on
(R48, R49, R443). That a position or a neighbour entry has been written is kept either way. -/
def State.applied (before s : State) (index : Nat) : State :=
  if !s.domServes (objDomain index) then
    (if idxBase index = Obj.RF_SLICE_CENTRE then
      (if (s.path (finD (idxInst index))).st = 0 then s.modPath (finD (idxInst index)) fun x => { x with centre := s.cfgN index } else s)
    else if index = Obj.MESH_NBR_CFG then before.nbrApplied s
    else if index = Obj.GN_FIXED_POS then s.modGnss fun g => { g with fixedWritten := true }
    else s)
  else match idxRegion index with
    | 2 => before.appliedRadio s index
    | 6 => before.appliedRadio s index
    | 7 => before.appliedRadio s index
    | 9 => before.appliedTime s index
    | 11 => before.appliedTime s index
    | 12 => before.appliedTime s index
    | _ => before.appliedPorts s index

/-- An accepted write of a setting takes effect (R48): elements `e` to `e + n − 1` of `new` were written. -/
def State.settingPut (s : State) (index e n : Nat) (new : Val) : State :=
  let b := idxBase index
  let p : Fin 6 := finD (idxInst index)
  let es := (List.range n).map (· + e)
  if b = Obj.PW_TARGET then es.foldl (fun (s : State) (d : Nat) => s.pwTargetPut d (valN new d)) s
  else if b = Obj.RING_CFG then
    es.foldl (fun (s : State) (r : Nat) => s.ringCfgPut (finD r) ((new[r]?).getD [])) s
  else if b = Obj.FLOCK_CFG then
    (List.range n).foldl (fun (s : State) (k : Nat) => s.flockCfgPut (e + k) (FlockCfg.ofFields ((new[k]?).getD []))) s
  else if b = Obj.SEC_ATTEST_REQUEST ∧ n = 32 then s.attestPut (leNat (new.map fun (v : List Int) => (BitVec.ofInt 8 (v.headD 0) : Byte)))
  else if b = Obj.UART_TX_DATA then
    s.txDataPut (finD (idxInst index)) (((new.drop e).take n).map fun (v : List Int) => (v.headD 0).toNat)
  else if b = Obj.MESH_CHMAP then s.chmapPut p (valN new) (s.cfgN (inst Obj.MESH_CHMAP_C0 p))
  else if b = Obj.MESH_CHMAP_C0 then
    (if s.cfgN (inst Obj.MESH_CHMAP p) = 0 then s.cfgPut index new else s.chmapPut p (s.cfgN (inst Obj.MESH_CHMAP p)) (valN new))
  else if b = Obj.SEC_GROUPS then
    let s1 := s.cfgPut index new
    if s1.domServes 2 then es.foldl (fun (s : State) (i : Nat) => if h : i < 40 then s.deriveGroup ⟨i, h⟩ else s) s1 else s1
  else if b = Obj.GN_ENABLE then s.gnEnablePut (valN new)
  else if b = Obj.SN_ENABLE then s.snEnablePut (valN new)
  else if b = Obj.RTC_HALT then s.setHalt (valN new)
  else if b = Obj.RTC_ALARM_ENABLE then s.setAlarmEnable (valN new)
  else if b = Obj.RTC_ALARM then
    s.putAlarm (valN new 0 0) (valN new 0 1) (valN new 0 2) (valN new 0 3) (valN new 0 4) (valN new 0 5)
  else s.applied (s.cfgPut index new) index

end Sys2Proof.Machine
end

