-- ==== Sys2Proof/Machine/Items.lean ====
section
/-!
DEFINITION. The parts of objects that items of requests and entries of profiles name: what a WRITE item would write (02_object_dictionary.md
R54, R55) and what a READ item reads (R46 to R48, R54).
-/

namespace Sys2Proof.Machine

/-- ELEMENT of a whole object (R54). -/
abbrev wholeElement : Nat := 0xFFFFFFFF

/-- The access class of an object at its instance: at instances 2 and 3 every UART object shown as RW is RWA (R544). -/
def objAcc (o : ObjInfo) (index : Nat) : Acc :=
  if o.acc = .rw ∧ idxRegion index = 14 ∧ 2 ≤ idxInst index then .rwa else o.acc

/-- The object whose rule accepts only writes of the whole object (R54, R417). -/
def wholeOnly (index : Nat) : Bool := index == Obj.RTC_SET

/-- Staging objects: a write at an offset is checked and stored as bytes at that offset (R55, R114, R287). -/
def isStaging (index : Nat) : Bool := [Obj.PROFILE_STAGE, Obj.FW_STAGE, Obj.FL_IMAGE_STAGE].contains index

/-- The object is an array too large to be held in the store; its written elements stand alone. -/
def isFlockArray (index : Nat) : Bool := index == Obj.FLOCK_CFG || index == Obj.FLOCK_RESTORE

/-- What a WRITE item would write: elements `e` to `e + n − 1` of `new`, the value after the write. For a BYTES object elements are octets,
`off` is the offset written, none for the whole content, and `data` the whole content after the write, for a staging object the octets
written. -/
structure WPlan where
  o : ObjInfo
  index : Nat
  e : Nat
  n : Nat
  new : Val
  off : Option Nat
  data : Bytes
deriving DecidableEq, Repr

/-- The length of a BYTES object's content at present (R54). -/
def State.blobLength (s : State) (o : ObjInfo) (index : Nat) : Nat :=
  match o.kind with
  | .blob _ => (s.blob index).length
  | _ => 0

/-- Put elements in place of others. -/
def spliceVal (old : Val) (e : Nat) (part : Val) : Val := old.take e ++ part ++ old.drop (e + part.length)

/-- The RECORD of which a write names one field: the setting as it stands; of an action object, whose former content is no setting, the
default (R54, R593; DESIGN CHOICE, log entry 118). -/
def State.recordNow (s : State) (index : Nat) : Val :=
  if actionObjects.contains index then dfltOf index else s.cfgVal index

/-- A WRITE item against its object: TYPE 3 or ELEMENT 6, or what it would write (R41, R54, R55). -/
def State.itemPlan (s : State) (o : ObjInfo) (w : WItem) : Nat ⊕ WPlan :=
  let index := w.index
  let elems := fun (n : Nat) => (decodeElems o.fields o.elemSize n w.value).map (maskElem index)
  let ok := fun (e n : Nat) (new : Val) => Sum.inr (⟨o, index, e, n, new, none, w.value⟩ : WPlan)
  if w.element = wholeElement then
    match o.kind with
    | .blob n =>
      if w.typ ≠ 0x0D ∨ n < w.length then .inl 3
      else ok 0 w.length (bytesVal w.value)
    | .array n =>
      if w.typ ≠ 0x10 ∨ w.length ≠ o.size then .inl 3 else ok 0 n (elems n)
    | _ => if w.typ ≠ o.code ∨ w.length ≠ o.size then .inl 3 else ok 0 1 (elems 1)
  else if wholeOnly index then .inl 6
  else match o.kind with
    | .scalar => .inl 6
    | .record =>
      match o.fields[w.element]? with
      | none => .inl 6
      | some f =>
        if w.typ ≠ f.ty.code then .inl 3
        else if w.length ≠ f.ty.size then .inl 6
        else ok 0 1 [maskElem index (((s.recordNow index).headD []).set w.element (f.ty.decode w.value))]
    | .array n =>
      let k := w.length / o.elemSize
      if w.typ ≠ o.elemCode then .inl 3
      else if k = 0 ∨ w.length ≠ k * o.elemSize ∨ n < w.element + k then .inl 6
      else if isFlockArray index then ok w.element k (elems k)
      else ok w.element k (spliceVal (s.cfgVal index) w.element (elems k))
    | .blob n =>
      if w.typ ≠ 0x0D then .inl 3
      else if s.blobLength o index < w.element ∨ n < w.element + w.length then .inl 6
      else if isStaging index then .inr ⟨o, index, 0, 0, [], some w.element, w.value⟩
      else
        let now := s.blob index
        let after := now.take w.element ++ w.value ++ now.drop (w.element + w.length)
        .inr ⟨o, index, w.element, w.length, bytesVal after, some w.element, after⟩

/-! ### Reading (R46 to R48, R54) -/

/-- The type code of the part an item names (R54). -/
def ObjInfo.partCode (o : ObjInfo) (element : Nat) : Nat :=
  if element = wholeElement then o.code
  else match o.kind with
    | .record => match o.fields[element]? with | some f => f.ty.code | none => o.code
    | .array _ => o.elemCode
    | _ => o.code

/-- The range a READ item names: an ELEMENT or TYPE status, or first element (octet) and number of elements (octets) (R54). A field of a
RECORD is its number with count 0. -/
def ObjInfo.readRange (o : ObjInfo) (cur element length : Nat) : Nat ⊕ (Nat × Nat) :=
  if element = wholeElement then
    match o.kind with
    | .blob n => if length = 0 ∨ length = cur ∨ length = n then .inr (0, cur) else .inl 3
    | .array n => if length = 0 ∨ length = o.size then .inr (0, n) else .inl 3
    | _ => if length = 0 ∨ length = o.size then .inr (0, 1) else .inl 3
  else match o.kind with
    | .scalar => .inl 6
    | .record =>
      match o.fields[element]? with
      | some f => if length = 0 ∨ length = f.ty.size then .inr (element, 0) else .inl 6
      | none => .inl 6
    | .array n =>
      let k := if length = 0 then n - element else length / o.elemSize
      if n ≤ element ∨ n < element + k ∨ (length ≠ 0 ∧ length ≠ k * o.elemSize) then .inl 6 else .inr (element, k)
    | .blob _ =>
      let k := if length = 0 then cur - element else length
      if cur < element + k then .inl 6 else .inr (element, k)

/-- The octets that a READ of a range takes. -/
def ObjInfo.rangeSize (o : ObjInfo) (r : Nat × Nat) : Nat :=
  match o.kind with
  | .blob _ => r.2
  | .record => if r.2 = 0 then (match o.fields[r.1]? with | some f => f.ty.size | none => 0) else o.size
  | _ => r.2 * o.elemSize

/-- The octets of a range. -/
def State.rangeBytes (s : State) (o : ObjInfo) (index : Nat) (r : Nat × Nat) : Bytes :=
  match o.kind with
  | .blob _ => ((s.blob index).drop r.1).take r.2
  | .record => if r.2 = 0 then s.field o index r.1 else s.elems o index 0 1
  | _ => s.elems o index r.1 r.2

/-- A lookup of a Flock record that no longer can be served fails with CAPACITY (R264, R517). -/
def State.flockUnread (s : State) (index e n : Nat) : Bool :=
  (index == Obj.FLOCK_TABLE || index == Obj.FLOCK_CFG) &&
    s.flock.recs.any fun x => decide (e ≤ x.1) && decide (x.1 < e + n) && !s.reachable x.1

/-- Look up every non-empty record of a range: the cache follows (R261, R264). -/
def State.flockLookups (s : State) (index e n : Nat) : State :=
  if index = Obj.FLOCK_TABLE ∨ index = Obj.FLOCK_CFG then
    (s.flock.recs.filter fun x => decide (e ≤ x.1) && decide (x.1 < e + n)).foldl
      (fun (s : State) (x : Nat × FlockRec) => s.lookup x.1) s
  else s

/-- What a READ item would return: a status, or type code, length and the range (R46 to R48, R54). Length 0 at UART_RX_DATA stands for
what the FIFO holds. -/
def State.readPlan (s : State) (it : RItem) : Nat ⊕ (ObjInfo × Nat × Nat × (Nat × Nat)) :=
  match findObj it.index with
  | none => .inl 1
  | some o =>
    if s.start.st = 5 ∧ !recoveryServes (idxBase it.index) then .inl 1
    else if o.acc = .wo ∨ o.acc = .cmd then .inl 2
    else if statusObjects.contains it.index then
      (if it.element ≠ wholeElement then .inl 6 else if 1 < it.length then .inl 3 else .inr (o, 3, 1, (0, 1)))
    else if o.acc = .ro ∧ objDomain it.index ≠ 0 ∧ !s.domServes (objDomain it.index) then .inl 8
    else if idxBase it.index = Obj.UART_RX_DATA then
      let n : Fin 4 := finD (idxInst it.index)
      let c := s.rxDataCheck n (if it.element = wholeElement then 0 else it.element)
      if c ≠ 0 then .inl c
      else if it.length % 2 = 1 then .inl 6
      else
        let held := s.uart.port[n].rx.length
        let k := if it.length = 0 then held else min held (it.length / 2)
        .inr (o, if it.element = wholeElement then 0x10 else 3, 2 * k, (0, k))
    else match o.readRange (s.blobLength o it.index) it.element it.length with
      | .inl c => .inl c
      | .inr r =>
        if s.flockUnread it.index r.1 r.2 then .inl 0x0D
        else .inr (o, o.partCode it.element, o.rangeSize r, r)

/-- Carry out one READ item: its response item, and what reading does (R31, R46, R534). -/
def State.readItem (s : State) (it : RItem) : RespItem × State :=
  match s.readPlan it with
  | .inl c => (⟨c, match findObj it.index with | some o => o.partCode it.element | none => 0, 0, s.revOf it.index, []⟩, s)
  | .inr (o, t, len, r) =>
    if statusObjects.contains it.index then (⟨0, 3, 1, s.revOf it.index, natLe 1 (s.actOf it.index)⟩, s)
    else if idxBase it.index = Obj.UART_RX_DATA then
      let n : Fin 4 := finD (idxInst it.index)
      (⟨0, t, len, s.revOf it.index, (s.rxDataTake n r.2).flatMap fun (x : Nat) => natLe 2 x⟩, s.rxDataPut n r.2)
    else (⟨0, t, len, s.revOf it.index, s.rangeBytes o it.index r⟩, (s.flockLookups it.index r.1 r.2).drawn)

/-- The octets of a READ response item: its head and the value padded to 4 (R57). -/
def itemSize (len : Nat) : Nat := 8 + (len + 3) / 4 * 4

/-- The payload of a READ response before it is made up: it decides SIZE (R57). -/
def State.readSize (s : State) (items : List RItem) : Nat :=
  4 + (items.map fun (it : RItem) => match s.readPlan it with | .inr (_, _, len, _) => itemSize len | .inl _ => 8).sum

/-! ### INFO (R62) -/

/-- A numeric field's type. -/
def Ty.numeric : Ty → Bool
  | .ts96 => false
  | .bytes _ => false
  | _ => true

/-- MIN and MAX of an object: the limits of a numeric scalar, or of the elements of a numeric array; zero otherwise. The range of
RF_SLICE_CENTRE depends on its path (R62, Table RF-1). -/
def ObjInfo.limits (o : ObjInfo) (index : Nat) : Bytes × Bytes :=
  if idxBase index = Obj.RF_SLICE_CENTRE then
    (if idxInst index < 4 then (natLe 8 414000, natLe 8 1016000) else (natLe 8 2410000, natLe 8 2473000))
  else match o.kind, o.fields with
  | .scalar, [f] => if f.ty.numeric then (f.ty.encode f.lo ++ natLe (8 - f.ty.size) 0, f.ty.encode f.hi ++ natLe (8 - f.ty.size) 0)
    else (natLe 8 0, natLe 8 0)
  | .array _, [f] => if f.ty.numeric then (f.ty.encode f.lo ++ natLe (8 - f.ty.size) 0, f.ty.encode f.hi ++ natLe (8 - f.ty.size) 0)
    else (natLe 8 0, natLe 8 0)
  | _, _ => (natLe 8 0, natLe 8 0)

def Acc.code : Acc → Nat
  | .ro => 0
  | .rw => 1
  | .wo => 2
  | .cmd => 3
  | .rwa => 4
  | .rwp => 5

/-- The LOP1 index of an object; 0xFFFF none (R62, R71). -/
def lop1Index (index : Nat) : Nat :=
  if idxInst index = 0 ∧ idxObj index < 0x1000 then idxRegion index * 0x1000 + idxObj index else 0xFFFF

/-- A name in 32 octets. -/
def nameBytes (name : String) : Bytes :=
  let cs := (name.toList.map fun (c : Char) => (BitVec.ofNat 8 c.toNat : Byte)).take 32
  cs ++ List.replicate (32 - cs.length) 0

/-- The 60-byte record of R62. -/
def infoRecord (o : ObjInfo) (index : Nat) : Bytes :=
  natLe 1 o.code ++ natLe 1 (objAcc o index).code ++ natLe 1 (objDomain index) ++ natLe 1 (if o.acc = .rwp then o.presence else 0)
    ++ natLe 4 o.size ++ natLe 2 (lop1Index index) ++ natLe 2 0 ++ (o.limits index).1 ++ (o.limits index).2 ++ nameBytes o.name

/-- One INFO item's response (R57, R62). -/
def State.infoItem (s : State) (it : RItem) : RespItem :=
  match findObj it.index with
  | none => ⟨1, 0, 0, 0, []⟩
  | some o =>
    if s.start.st = 5 ∧ !recoveryServes (idxBase it.index) then ⟨1, 0, 0, 0, []⟩
    else ⟨0, 0x0F, 60, s.revOf it.index, infoRecord o it.index⟩

end Sys2Proof.Machine
end

