-- ==== Sys2Proof/Machine/Profile.lean ====
section
/-!
DEFINITION. Profiles: their layout, the load in three steps, saving the running configuration (02_object_dictionary.md R83 to R88, R593).
-/

namespace Sys2Proof.Machine

/-! ### Entries (Table OD-8) -/

/-- The entries of a profile after its header: `n` of them, none when they do not fill it exactly. -/
def parseEntries : Nat → Bytes → Option (List WItem)
  | 0, bs => if bs.isEmpty then some [] else none
  | n + 1, bs =>
    let len := leAt bs 8 2
    let size := 12 + (len + 3) / 4 * 4
    if bs.length < size then none
    else (parseEntries n (bs.drop size)).map fun es =>
      (⟨leAt bs 0 4, leAt bs 4 4, len, leAt bs 10 1, false, 0, (bs.drop 12).take len⟩ : WItem) :: es

/-- A profile's header holds and its entries fill its length (R83, R85). -/
def profileEntries (n : Nat) (p : Bytes) : Option (List WItem) :=
  if profileHeaderOk n p then parseEntries (leAt p 12 4) (p.drop 32) else none

/-- An object that step 1 of a load leaves alone: what holds no setting, RWP objects, the AON-held settings and the action objects (R84,
R429, R593). -/
def keepsInLoad (o : ObjInfo) (index : Nat) : Bool :=
  (o.acc != .rw && o.acc != .rwa) || idxRegion index == 12 || actionObjects.contains index

/-- A stored value of the running configuration that step 1 of a load resets. -/
def resets (x : Nat × Val) : Bool := match findObj x.1 with | some o => !keepsInLoad o x.1 | none => false

/-- The number of elements of an object's default. -/
def ObjInfo.count (o : ObjInfo) : Nat := o.kind.count

/-- An entry names element `k` of its object; an object that is no array has one part. -/
def names (w : WItem) (index k : Nat) : Bool :=
  w.index == index && match findObj index with
    | some o => match o.kind with
      | .array n => if w.element = wholeElement then decide (k < n)
        else decide (w.element ≤ k) && decide (k < w.element + w.length / o.elemSize)
      | _ => true
    | none => false

/-- Elements of `a` where `f` holds, else of `b`. -/
def mixVal (n : Nat) (f : Nat → Bool) (a b : Val) : Val :=
  (List.range n).map fun k => (((if f k then a else b)[k]?)).getD []

/-! ### The checks of a load (R84, step 2) -/

/-- An entry as one write of a setting: NO_OBJECT, ACCESS, TYPE, ELEMENT and the checks of R41; the plan when it passes. -/
def State.entryPlan (s : State) (w : WItem) : Nat ⊕ WPlan :=
  match findObj w.index with
  | none => .inl 1
  | some o =>
    if (o.acc ≠ .rw ∧ o.acc ≠ .rwa) ∨ actionObjects.contains w.index then .inl 2
    else match s.itemPlan o w with
      | .inl c => .inl c
      | .inr p =>
        let c := s.settingCheck o w.index p.e p.n p.new
        if c = 0 then .inr p else .inl c

/-- The running configuration after step 1, the Flock records among it, without any effect of it. -/
def State.step1 (s : State) : State :=
  { s with cfg := s.cfg.filter fun x => !resets x, flock := { s.flock with recs := [], cache := [], reqs := [] } }

/-- The configuration as an entry leaves it, for the checks of the later ones. -/
def State.planned (s : State) (p : WPlan) : State :=
  if p.index = Obj.FLOCK_CFG then
    (List.range p.n).foldl (fun (s : State) (k : Nat) => s.flockCfgPut (p.e + k) (FlockCfg.ofFields ((p.new[k]?).getD []))) s
  else s.cfgPut p.index p.new

/-- Step 2: every entry is checked as one list, each against the configuration that the earlier ones leave; the first failing code, 0 when
all pass. -/
def State.checkEntries (s : State) : List WItem → Nat
  | [] => 0
  | w :: ws =>
    match s.entryPlan w with
    | .inl c => c
    | .inr p => (s.planned p).checkEntries ws

/-! ### The effects of a load (R84, steps 1 and 3)

The running configuration is set to its defaults as a whole. What no entry names takes effect with its default. A part of an object that an
entry names changes from its former value to the entry's in one write: the default between them does not take effect (R84's design hint;
DEDUCED, log entry 33). -/

/-- An object not named returns to its default and its change takes effect (R84, R88); an empty channel map is no update but the map at
once (log entry 14). -/
def State.toDefault (s : State) (o : ObjInfo) (index : Nat) : State :=
  if idxBase index = Obj.MESH_CHMAP ∨ idxBase index = Obj.MESH_CHMAP_C0 then
    let s2 := s.cfgPut index (dfltOf index)
    let p : Fin 6 := finD (idxInst index)
    { s2 with mesh := { s2.mesh with per := vmod s2.mesh.per p fun x => { x with
        map := s2.cfgN (inst Obj.MESH_CHMAP p), c0 := s2.cfgN (inst Obj.MESH_CHMAP_C0 p), update := none } } }
  else
    let s2 := s.settingPut index 0 o.count (dfltOf index)
    if index = Obj.GN_FIXED_POS then s2.modGnss fun g => { g with fixedWritten := false } else s2

/-- The default of the elements of a named array that no entry names takes effect, one by one; the others stand at `old` meanwhile. -/
def State.defaultRest (s : State) (index : Nat) (rest : List Nat) : State :=
  rest.foldl (fun (t : State) (k : Nat) =>
    t.settingPut index k 1 (mixVal (dfltOf index).length (· == k) (dfltOf index) (t.cfgVal index))) s

/-- Step 1 of one object, whose former value is `old`: its revision rises, and what no entry names takes effect (R84). -/
def State.resetObject (s : State) (all : List WItem) (index : Nat) (old : Val) : State :=
  match findObj index with
  | none => s
  | some o =>
    let s1 := (s.bumpRev index).cfgPut index old
    if all.any fun w => w.index == index then
      let rest := (List.range o.count).filter fun k => ! all.any fun w => names w index k
      (s1.defaultRest index rest).cfgPut index (dfltOf index)
    else s1.toDefault o index

/-- A record of the Flock returns to its default, the empty record: its link and its requests end (R259, Table LK-4 status 0x25). -/
def State.dropRecord (s : State) (f : Nat) : State :=
  let s1 := s.detach f 0x25
  ((s1.flock.reqs.filter fun q => q.flock == f).foldl (fun (t : State) (q : DelReq) => t.completeReq q 0x25 false 0) s1).eraseRec f

/-- Step 1 of FLOCK_CFG: the records that no entry names return to their default (R84, R88). -/
def State.resetFlock (s : State) (all : List WItem) : State :=
  if s.flock.recs = [] then s
  else ((s.flock.recs.map (·.1)).filter fun f => ! all.any fun w => names w Obj.FLOCK_CFG f).foldl
    (fun (t : State) (f : Nat) => t.dropRecord f) (s.bumpRev Obj.FLOCK_CFG)

/-- Step 1 of a load (R84). -/
def State.applyDefaults (s : State) (all : List WItem) : State :=
  (s.cfg.filter resets).foldl (fun (t : State) (x : Nat × Val) => t.resetObject all x.1 x.2)
    (({ s with cfg := s.cfg.filter fun x => !resets x } : State).resetFlock all)

/-- One record of FLOCK_CFG as an entry sets it; where the record as it stands does not allow the change, it has returned to its default
first (R84). -/
def State.entryRecord (s : State) (f : Nat) (c : FlockCfg) : State :=
  if s.flockCfgCheck f c = 0 then s.flockCfgPut f c else (s.dropRecord f).flockCfgPut f c

/-- Step 3 for one entry. `old` is the running configuration before the load, `all` its entries and `past` those applied so far: the parts
still to come take their former values while this entry takes effect. -/
def State.applyEntry (s : State) (old : List (Nat × Val)) (all past : List WItem) (p : WPlan) : State :=
  if p.index = Obj.FLOCK_CFG then
    (List.range p.n).foldl (fun (t : State) (k : Nat) => t.entryRecord (p.e + k) (FlockCfg.ofFields ((p.new[k]?).getD [])))
      (s.bumpRev p.index)
  else
    let former := (({ s with cfg := old } : State).cfgVal p.index)
    let due := fun (k : Nat) => all.any (fun w => names w p.index k) && ! past.any fun w => names w p.index k
    match p.o.kind with
    | .array n =>
      let later := fun (k : Nat) => due k && ! (decide (p.e ≤ k) && decide (k < p.e + p.n))
      let s1 := (s.bumpRev p.index).cfgPut p.index (mixVal n due former (s.cfgVal p.index))
      let s2 := s1.settingPut p.index p.e p.n (mixVal n later former p.new)
      s2.cfgPut p.index (mixVal n later (dfltOf p.index) (s2.cfgVal p.index))
    | _ =>
      let s1 := if due 0 then s.cfgPut p.index former else s
      (s1.bumpRev p.index).settingPut p.index p.e p.n p.new

/-- Step 3: the entries in file order, each as one write (R43, R84). -/
def State.applyEntries (s : State) (old : List (Nat × Val)) (all past : List WItem) : List WItem → State
  | [] => s
  | w :: ws =>
    match findObj w.index with
    | none => s.applyEntries old all past ws
    | some o => match s.itemPlan o w with
      | .inl _ => s.applyEntries old all (w :: past) ws
      | .inr p => (s.applyEntry old all past p).applyEntries old all (w :: past) ws

/-- A load of entries that have passed their checks (R84). -/
def State.loadEntries (s : State) (ws : List WItem) : State := (s.applyDefaults ws).applyEntries s.cfg ws [] ws

/-- The code with which a profile fails, 0 when it can be applied (R85). For a failing header or entries beyond its length no code is
stated, a free value (log entry 1). -/
def State.profileCode (s : State) (n : Nat) (p : Bytes) : Nat :=
  match profileEntries n p with
  | none => freeError s.draw.1
  | some ws => s.step1.checkEntries ws

/-- Load a profile; one that fails is not applied, P0 is loaded and PROFILE_INVALID raised with its number (R84, R85). Answers whether
it was applied. -/
def State.loadProfile (s : State) (n : Nat) : Bool × State :=
  let done := fun (s : State) (k : Nat) => (s.modStart fun x => { x with profileActive := k }).settled
  match profileEntries n (s.profileAt n) with
  | some ws =>
    if s.step1.checkEntries ws = 0 then (true, done (s.loadEntries ws) n)
    else (false, (done (s.loadEntries []) 0).raise Ev.PROFILE_INVALID n)
  | none => (false, (done (s.loadEntries []) 0).raise Ev.PROFILE_INVALID n)

/-- The profile that the pins and the boot directory select (R86). -/
def State.bootProfile (s : State) : Nat :=
  if s.start.profPins = 0 then 0
  else if s.dir.bootOverride ≤ 3 then s.dir.bootOverride else s.start.profPins

/-! ### Storing (R87) -/

/-- One entry of a profile, its value padded to 4 octets (Table OD-8). -/
def entryBytes (index element code : Nat) (v : Bytes) : Bytes :=
  natLe 4 index ++ natLe 4 element ++ natLe 2 v.length ++ natLe 1 code ++ natLe 1 0 ++ v ++ List.replicate ((4 - v.length % 4) % 4) 0

/-- The profile that PROFILE_SAVE makes of the running configuration: an entry per object with another value than its default and one per
Flock record. It names neither RWP nor action objects; AON-held settings are part of the running configuration (R87, R593). -/
def State.saveEntries (s : State) : List Bytes :=
  (s.cfg.filterMap fun (x : Nat × Val) =>
    match findObj x.1 with
    | none => none
    | some o =>
      if (o.acc ≠ .rw ∧ o.acc ≠ .rwa) ∨ actionObjects.contains x.1 ∨ isFlockArray x.1 then none
      else some (entryBytes x.1 wholeElement o.code
        (match o.kind with | .blob _ => valBytes x.2 | _ => x.2.flatMap (encodeElem o.fields))))
  ++ s.flock.recs.map fun x => entryBytes Obj.FLOCK_CFG x.1 0x0F (encodeElem flockCfgFields x.2.cfg.fields)

/-- A profile of entries under a number; BUILD is Felsy's, none for a saved one (log entry 13). -/
def makeProfile (n : Nat) (es : List Bytes) : Bytes :=
  let body := es.flatten
  let head := natLe 4 0x4650524C ++ natLe 2 1 ++ natLe 1 n ++ natLe 1 0 ++ natLe 4 (32 + body.length) ++ natLe 4 es.length
    ++ natLe 8 0 ++ natLe 4 0
  head ++ natLe 4 (crc32c (head ++ natLe 4 0 ++ body)) ++ body

/-- Why a write of PROFILE_COMMIT is refused: RANGE, CONFLICT when NUMBER differs, the failing entry's code (R85, R87). -/
def State.commitCheck (s : State) (n : Nat) : Nat :=
  if n < 1 ∨ 3 < n then 4
  else if 7 ≤ s.fw.stage.length ∧ leAt s.fw.stage 6 1 ≠ n then 5
  else s.profileCode n s.fw.stage

/-- The flash address of slot `k` of a profile, two slots of 64 KiB each (Table SU-4). -/
def profileAddr (n k : Nat) : Nat := 0x00010000 + n * 0x20000 + k * 0x10000

/-- The slot that the next content of a profile takes: the one that does not hold the valid content (R87). -/
def State.profileSlot (s : State) (n : Nat) : Nat :=
  match s.fw.profile[n]? with
  | some v => if v[0] = [] then 0 else 1
  | none => 0

/-- A store of a profile begins in the slot that its old content does not stand in (R87). -/
def State.storeProfile (s : State) (index n : Nat) (p : Bytes) : State := s.flashOp index (profileAddr n (s.profileSlot n)) n p

def State.commitPut (s : State) (n : Nat) : State := s.storeProfile Obj.PROFILE_COMMIT n s.fw.stage

/-- The profile that PROFILE_SAVE stores. -/
def State.savedProfile (s : State) (n : Nat) : Bytes := makeProfile n s.saveEntries

/-- Why a write of PROFILE_SAVE is refused: RANGE (R87), or CAPACITY for a running configuration that makes no profile of at most 65,536
bytes (R83; DESIGN CHOICE, log entry 123). -/
def State.saveCheck (s : State) (n : Nat) : Nat := if n < 1 ∨ 3 < n then 4 else if 65536 < (s.savedProfile n).length then 0x0D else 0

def State.savePut (s : State) (n : Nat) : State := s.storeProfile Obj.PROFILE_SAVE n (s.savedProfile n)

/-- PROFILE_COMMIT: the staged profile is checked and its store begins (R87). -/
def State.commit (s : State) (n : Nat) : State :=
  if s.commitCheck n = 0 then (s.commitPut n).accept Obj.PROFILE_COMMIT (scalar n) else s.drawn

def execProfileCommit (n : Nat) (s : State) : Answer State := .next (s.commit n)

/-- PROFILE_SAVE: a store of the running configuration begins (R87). -/
def State.save (s : State) (n : Nat) : State :=
  if s.saveCheck n = 0 then (s.savePut n).accept Obj.PROFILE_SAVE (scalar n) else s

def execProfileSave (n : Nat) (s : State) : Answer State := .next (s.save n)

/-- The written and verified content of a profile: its slot holds it, and the other one is free for the next (R87; log entry 13). -/
def FwState.storeDone (f : FwState) (o : FlashOp) : FwState :=
  { f with profile := f.profile.mapIdx fun n v =>
      if n = o.arg then (if o.addr = profileAddr n 0 then #v[o.data, []] else #v[[], o.data]) else v }

/-- PROFILE_STORE_DONE: the oldest profile store has been written; with its CRC verified the new content stands, otherwise the old one
(R87). The status of a failed one is a free value. -/
def State.profileStored (s : State) (ok : Bool) : State :=
  match s.fw.ops.find? fun o => o.index == Obj.PROFILE_COMMIT || o.index == Obj.PROFILE_SAVE with
  | none => s
  | some o =>
    let s1 := s.modFw fun f => { f with ops := f.ops.erase o }
    if ok then (s1.modFw fun f => f.storeDone o).setAct o.index 0
    else (s1.flashFailed false o.addr).drawn.setAct o.index (freeError s.draw.1)

def execProfileStoreDone (ok : Bool) (s : State) : Answer State := .next (s.profileStored ok)

/-- PROFILE_APPLY of a profile (R88). -/
def State.applyPut (s : State) (n : Nat) : State := (s.loadProfile n).2

def State.profileApply (s : State) (n : Nat) : State :=
  if n ≤ 3 then (s.applyPut n).accept Obj.PROFILE_APPLY (scalar n) else s

def execProfileApply (n : Nat) (s : State) : Answer State := .next (s.profileApply n)

/-! ### The staging buffer (R55) -/

/-- Why a write into the staging buffer is refused: its offset lies beyond the current length, or it does not fit (R55). -/
def State.stageCheck (s : State) (offset : Nat) (data : Bytes) : Nat :=
  if s.fw.stage.length < offset ∨ 65536 < offset + data.length then 6 else 0

def State.stagePut (s : State) (offset : Nat) (data : Bytes) : State :=
  s.modFw fun f => { f with stage := f.stage.take offset ++ data ++ f.stage.drop (offset + data.length) }

/-- PROFILE_STAGE: bytes at an offset (R55). -/
def State.profileStage (s : State) (offset : Nat) (data : Bytes) : State :=
  if s.stageCheck offset data = 0 then (s.stagePut offset data).bumpRev Obj.PROFILE_STAGE else s

def execProfileStage (offset : Nat) (data : Bytes) (s : State) : Answer State := .next (s.profileStage offset data)

/-- PROFILE_STAGE_CLEAR sets the staging length to 0 (Table OD-9). -/
def State.stageClear (s : State) : State := s.modFw fun f => { f with stage := [] }

def execProfileStageClear (s : State) : Answer State := .next (s.stageClear.bumpRev Obj.PROFILE_STAGE_CLEAR)

end Sys2Proof.Machine
end

