-- ==== Sys2Proof/Machine/Reset.lean ====
section
/-!
DEFINITION. Reset sources and their scopes (03_startup_and_firmware.md R90 to R95, R99, R117, R118, 15_host_and_network_ports.md R512,
17_faults_and_events.md R553).
-/

namespace Sys2Proof.Machine

/-! ### Resets of core scope (R90, R92 to R95) -/

/-- Running-configuration values that a reset of core scope keeps: the AON-held settings and SEC_TAMPER_ENABLE (R84, R95, R429). -/
def keepsInReset (index : Nat) : Bool := idxRegion index == 12 || index == Obj.SEC_TAMPER_ENABLE

/-- Counters and status values that a reset of core scope keeps: those of AON and PWR (R90, R429, R458). -/
def keepsRoInReset (index : Nat) : Bool := idxRegion index == 12 || idxRegion index == 13

/-- What flash keeps of the firmware slots, directory, profiles and OTP (R95, R119). The reason of an INVALID slot returns to 0 (log entry
132). -/
def FwState.coreReset (f : FwState) : FwState :=
  { FwState.reset with
    dir := f.dir, slot := f.slot, otp := f.otp, profile := f.profile, stageLen := f.stageLen, jedecOk := f.jedecOk }

/-- What flash and the AON rail keep of the fault log (R552, R553). -/
def FltState.coreReset (x : FltState) : FltState :=
  { FltState.reset with archive := x.archive, recFlash := x.recFlash, recSeq := x.recSeq, aonCopy := x.aonCopy }

/-- The node images stay in flash (R287). -/
def FlockState.coreReset (x : FlockState) : FlockState := { FlockState.reset with image := x.image, imageSlot := x.imageSlot }

/-- The AON copies of UART0's settings and the wake buffer stay (R540, R542). -/
def UartState.coreReset (x : UartState) : UartState :=
  { UartState.reset with
    slowRx := x.slowRx, slowBaud := x.slowBaud, slowFrame := x.slowFrame, slowAddr := x.slowAddr, wake := x.wake, woken := x.woken }

/-- START_STATE and its neighbours after a reset of core scope: the sources are latched at its release (R92, R94). -/
def StartState.coreReset (x : StartState) (sources count : Nat) : StartState :=
  { StartState.reset with
    sources := sources, count := count, thermalHeld := x.thermalHeld, perst := x.perst, cause := x.cause, profPins := x.profPins
    refSel := x.refSel }

/-- Every region but AON and PWR returns to reset; the wake of the presence window closes first (R90, R95, R489). -/
def State.resetRegions (s : State) (sources count : Nat) : State :=
  { State.reset with
    pending := s.pending, outbox := s.outbox, free := s.free
    cfg := s.cfg.filter fun x => keepsInReset x.1
    ro := s.ro.filter fun x => keepsRoInReset x.1
    start := s.start.coreReset sources count
    fw := s.fw.coreReset, flt := s.flt.coreReset, flock := s.flock.coreReset
    aon := { s.aon with syncAt := 0 }
    sec := s.sec.coreReset, uart := s.uart.coreReset, tap := s.tap }

/-- A reset of core scope from a source of Table SU-1. While a reset is active, a further source joins it (R92, R93); otherwise
RESET_COUNT rises (R94). -/
def State.coreReset (s : State) (source : Nat) : State :=
  if s.start.inReset then s.modStart fun x => { x with sources := x.sources ||| 2 ^ source }
  else
    let s1 := (s.modStart fun x => { x with inReset := true }).closePresence
    s1.resetRegions (2 ^ source) (min 0xFFFFFFFF (s.start.count + 1))

/-- AON_POWER_ON: the whole chip returns to reset; the Paddock contents, states and signatures sit in retention cells, OTP and flash
keep their contents (R90, R412). `vbat` that VBAT feeds the rail. -/
def State.aonPowerOn (s : State) (vbat : Bool) : State :=
  let a := s.aon
  let s1 := s.resetRegions 1 1
  { s1 with
    cfg := [], ro := []
    start := { s1.start with cause := 0, thermalHeld := false, profPins := 0, refSel := 0 }
    flt := { s1.flt with aonCopy := none }
    sec := { SecState.reset with store := s.sec.store }
    uart := UartState.reset, tap := ⟨0, 0⟩
    aon := { AonState.reset with
      bank := a.bank, hot := a.hot, anchor := a.anchor, airOffset := a.airOffset, airSlew := a.airSlew, source := a.source
      savedAt := a.savedAt, supply := if vbat then 1 else 0 } }

def execAonPowerOn (vbat : Bool) (s : State) : Answer State := .next (s.aonPowerOn vbat)

/-- CORE_POWER_ON (source 1). -/
def execCorePowerOn (s : State) : Answer State := .next (s.coreReset 1)

/-- CORE_BROWN_OUT: the core supply stays below its threshold for 2 µs or longer (source 2). -/
def execCoreBrownOut (s : State) : Answer State := .next (s.coreReset 2)

/-- PIN_RESET: RST_N low for `ns`; below 1 µs it is ignored, from 10 µs on it resets, and between them it may or may not, a free
value (R91; log entry 1). -/
def State.pinReset (s : State) (ns : Nat) : State :=
  if ns < 1000 then s
  else if 10000 ≤ ns then s.coreReset 3
  else if s.draw.1 % 2 = 1 then s.drawn.coreReset 3 else s.drawn

def execPinReset (ns : Nat) (s : State) : Answer State := .next (s.pinReset ns)

/-! ### PERST_N (R90, R512) -/

/-- A mailbox request in execution completes, and its response is discarded: it is sent nowhere (R512). -/
abbrev nowhere : Nat := 9

/-- A response that is sent nowhere. -/
def Resp.toNowhere (r : Resp) : Resp :=
  let v : Via := { r.via with transport := nowhere }
  { r with via := v }

/-- The reset of the HOST region under PERST_SCOPE 0: rings disabled, BAR0 registers at their reset values, the response to a mailbox
request discarded; sessions and transactions continue, completions are held (R511, R512). -/
def State.hostReset (s : State) : State :=
  let s1 := (s.ringsOff).clearRegionRo 3
  { s1 with
    host := { HostState.reset with held := s1.host.held }
    lop := { s1.lop with
      mbxBusy := false
      waiting := s1.lop.waiting.filter fun (w : LopReq × HalfNs) => w.1.via.transport != 0 }
    isl := { s1.isl with
      fences := s1.isl.fences.filter fun f => !f.bar0
      responses := s1.isl.responses.map fun (r : RespWait) =>
        if r.resp.via.transport = 0 then { r with resp := r.resp.toNowhere } else r } }

/-- PCIE_RESET: PERST_N is asserted (R90, R92). -/
def State.pcieReset (s : State) : State :=
  if s.start.perst then s
  else
    let s1 := s.modStart fun x => { x with perst := true }
    if s.start.inReset then s1.coreReset 4
    else if s.cfgN Obj.PERST_SCOPE = 1 then s1.coreReset 4
    else (s1.hostReset).modStart fun x => { x with cause := x.cause ||| 16 }

def execPcieReset (s : State) : Answer State := .next s.pcieReset

/-- PERST_N_DEASSERTION: the endpoint starts link training again, and the edge is a wake event (R90, Table PW-6). -/
def State.perstEnd (s : State) : State :=
  if s.start.perst then (s.modStart fun x => { x with perst := false }).wakeSource 5 else s

def execPerstNDeassertion (s : State) : Answer State := .next s.perstEnd

/-! ### Thermal (R90, source 7) -/

/-- THERMAL_RESET: the junction is above 135 °C; the reset is held. -/
def execThermalReset (s : State) : Answer State := .next ((s.coreReset 7).modStart fun x => { x with thermalHeld := true })

/-- THERMAL_RESET_RELEASE: the junction is below 110 °C. -/
def execThermalResetRelease (s : State) : Answer State := .next (s.modStart fun x => { x with thermalHeld := false })

/-! ### Resets that the chip decides (R22, R117, R118, R553) -/

/-- SUP_FAILURE_RESET: as soon as every pending record has reached flash, or 20 ms after the chip-level decision (R553). -/
def State.supFailureReset (s : State) : State :=
  match s.flt.supFailedAt with
  | none => s
  | some t => if s.flt.recPending = [] then s.coreReset 8 else (s.toMono (t + 20 * msHalfNs)).coreReset 8

def execSupFailureReset (s : State) : Answer State := .next s.supFailureReset

/-- TRIAL_TIMEOUT: the count of a trial reaches 0 (R118). -/
def State.trialTimeout (s : State) : State :=
  match s.fw.trialEnd with
  | none => s
  | some t => (s.toMono t).coreReset 9

def execTrialTimeout (s : State) : Answer State := .next s.trialTimeout

/-- CHIP_RESET takes effect (R90, source 5). -/
def State.chipResetPut (s : State) : State := s.coreReset 5

def State.chipReset (s : State) (v : Nat) : State := if v = 1 then s.chipResetPut else s

def execChipReset (v : Nat) (s : State) : Answer State := .next (s.chipReset v)

/-- FW_ACTIVATE takes effect: the slot becomes ARMED, and a value of 2 resets the chip (R117, R90 source 6). -/
def State.activatePut (s : State) (v : Nat) : State := if v = 2 then s.fwActivatePut.coreReset 6 else s.fwActivatePut

def State.activate (s : State) (v : Nat) : State :=
  if s.fwActivateCheck v = 0 then (s.accept Obj.FW_ACTIVATE (scalar v)).activatePut v else s

def execFwActivate (v : Nat) (s : State) : Answer State := .next (s.activate v)

/-! ### The reference again (R99) -/

/-- CLOCK_RETRY: the qualification runs again; the R46 status is 1 while it does. -/
def State.clockRetryPut (s : State) : State :=
  (s.setAct Obj.CLOCK_RETRY 1).modStart fun x => { x with
    qual := some (x.qual.getD .retry), qualAt := if x.qual.isSome then x.qualAt else s.mono }

def State.clockRetry (s : State) (v : Nat) : State :=
  if v = 1 then s.clockRetryPut.bumpRev Obj.CLOCK_RETRY else s

def execClockRetry (v : Nat) (s : State) : Answer State := .next (s.clockRetry v)

end Sys2Proof.Machine
end

