-- ==== Sys2Proof/Machine/Actions.lean ====
section
/-!
DEFINITION. Every write that the dictionary accepts: the check of an action, command or setting and its effect, by the same functions as
the single commands use (02_object_dictionary.md R41, R46 to R50, R593), and the islands that writes cross into
(01_architecture.md R25 to R32).
-/

namespace Sys2Proof.Machine

/-! ### Sessions that SESSION_END names (Table OD-9) -/

/-- An authenticated session. -/
def State.authSession (s : State) (id : Nat) : Option Session := s.lop.sessions.find? fun x => x.id == id && x.auth

/-- Why a write of SESSION_END is refused: it names no authenticated session. -/
def State.sessionEndCheck (s : State) (id : Nat) : Nat := if (s.authSession id).isSome then 0 else 4

/-- SESSION_END takes effect. -/
def State.sessionEndPut (s : State) (id : Nat) : State := (s.endSession id).setAct Obj.SESSION_END 0

/-- SESSION_END. -/
def State.sessionEnd (s : State) (id : Nat) : State :=
  if s.sessionEndCheck id = 0 then (s.sessionEndPut id).bumpRev Obj.SESSION_END else s

def execSessionEnd (id : Nat) (s : State) : Answer State := .next (s.sessionEnd id)

/-! ### Which objects hold a setting (R47, R593) -/

/-- The object's value is part of the running configuration. -/
def isSetting (o : ObjInfo) (index : Nat) : Bool :=
  (o.acc == .rw || o.acc == .rwa || o.acc == .rwp) && !actionObjects.contains index
    && index != Obj.SEC_TAMPER_CLEAR && index != Obj.REG_LOCK_PROGRAM

/-- A read returns the value last accepted (R47): the action objects without an R46 status, but for those whose own rule says what a
read returns. -/
def keepsValue (index : Nat) : Bool :=
  index == Obj.SEC_TAMPER_CLEAR || index == Obj.REG_LOCK_PROGRAM
    || (actionObjects.contains index && !statusObjects.contains index
      && !([Obj.PROFILE_BOOT_OVERRIDE, Obj.PROFILE_STAGE, Obj.FW_STAGE, Obj.FL_IMAGE_STAGE, Obj.SEC_DISTRICT_SWITCH,
        Obj.FLOCK_RESTORE].contains index))

/-- Octets of the KEY field of a SEC_ROOT_LOAD record. -/
def rootKey (new : Val) : Bytes := natLe 40 (valN new 0 2)

/-- A staging write: whole content or bytes at an offset (R55, R114). -/
def WPlan.offset (p : WPlan) : Nat := p.off.getD 0

/-! ### Checks (R41) -/

/-- Checks of the actions and commands of SYS. -/
def State.checkSys (s : State) (p : WPlan) : Nat :=
  let b := p.index
  let x := valN p.new
  if b = Obj.SESSION_END then s.sessionEndCheck x
  else if b = Obj.PROFILE_BOOT_OVERRIDE then bootOverrideCheck x
  else if b = Obj.PROFILE_STAGE then (if p.off.isNone then 0 else s.stageCheck p.offset p.data)
  else if b = Obj.PROFILE_COMMIT then s.commitCheck x
  else if b = Obj.PROFILE_SAVE then s.saveCheck x
  else if b = Obj.FW_STAGE_BEGIN then s.fwStageBeginCheck x
  else if b = Obj.FW_STAGE then (if p.off.isNone then 6 else s.fwStageCheck p.offset p.data)
  else if b = Obj.FW_VERIFY then s.fwVerifyCheck x
  else if b = Obj.FW_ACTIVATE then s.fwActivateCheck x
  else if b = Obj.FW_CONFIRM then s.fwConfirmCheck x
  else if b = Obj.ROLLBACK_ADVANCE then s.rollbackCheck x
  else 0

/-- Checks of the actions and commands of SEC. -/
def State.checkSec (s : State) (p : WPlan) : Nat :=
  let b := p.index
  let x := valN p.new
  if b = Obj.SEC_TAMPER_CLEAR then s.tamperClearCheck x
  else if b = Obj.SEC_ROOT_LOAD then s.rootLoadCheck x (valN p.new 0 1) (rootKey p.new)
  else if b = Obj.SEC_ROOT_ERASE then s.rootEraseCheck x
  else if b = Obj.SEC_DISTRICT_SWITCH then s.districtCheck x
  else if b = Obj.SEC_NEXT_KEY_WRAP then s.nextWrapCheck x
  else 0

/-- Checks of the actions and commands of the other regions. -/
def State.checkRest (s : State) (p : WPlan) : Nat :=
  let b := p.index
  let x := valN p.new
  if b = Obj.REG_LOCK_PROGRAM then (if !lockWriteOk p.data then 4 else if s.lockSlot.isNone then 5 else 0)
  else if b = Obj.FLOCK_RESTORE then
    firstCode (fun k => s.restoreCheck k (FlockRec.ofFields ((p.new[k - p.e]?).getD []))) p.e p.n
  else if b = Obj.FLOCK_KEY_WRAP then s.keyWrapCheck x
  else if b = Obj.FL_IMAGE_BEGIN then s.imageBeginCheck x
  else if b = Obj.FL_IMAGE_STAGE then (if p.off.isNone then 6 else s.imageStageCheck p.offset p.data)
  else if b = Obj.FL_IMAGE_VERIFY then s.imageVerifyCheck x
  else if b = Obj.FL_CAMPAIGN_START then s.campStartCheck x
  else if b = Obj.PADDOCK_CLEAR then s.paddockCheck x
  else if b = Obj.FAULT_RELEASE then s.releaseCheck x
  else 0

/-- The values of an action or command within their ranges. -/
def WPlan.inRange (p : WPlan) : Bool :=
  match p.o.kind with
  | .blob _ => true
  | _ => if p.index = Obj.FLOCK_RESTORE then p.new.all (fun (v : List Int) => fieldsOk p.o.fields v)
    else rangeVal p.o p.index p.e p.n p.new

/-- The check of any write: the first failing code, 0 when it is accepted (R41). -/
def State.writeCheck (s : State) (p : WPlan) : Nat :=
  if isSetting p.o p.index then s.settingCheck p.o p.index p.e p.n p.new
  else if !p.inRange then 4
  else match idxRegion p.index with
    | 1 => s.checkSys p
    | 2 => s.checkSec p
    | _ => s.checkRest p

/-! ### Effects -/

/-- Effects of the actions and commands of SYS. The steps of ROLLBACK_ADVANCE are programmed without a power loss. -/
def State.putSys (s : State) (p : WPlan) : State :=
  let b := p.index
  let x := valN p.new
  if b = Obj.SESSION_END then s.sessionEndPut x
  else if b = Obj.PROFILE_BOOT_OVERRIDE then s.bootOverridePut x
  else if b = Obj.PROFILE_STAGE then (if p.off.isNone then s.stageClear.stagePut 0 p.data else s.stagePut p.offset p.data)
  else if b = Obj.PROFILE_STAGE_CLEAR then s.stageClear
  else if b = Obj.PROFILE_COMMIT then s.commitPut x
  else if b = Obj.PROFILE_SAVE then s.savePut x
  else if b = Obj.PROFILE_APPLY then s.applyPut x
  else if b = Obj.CHIP_RESET then s.chipResetPut
  else if b = Obj.CLOCK_RETRY then s.clockRetryPut
  else if b = Obj.FW_STAGE_BEGIN then s.fwStageBeginPut x
  else if b = Obj.FW_STAGE then s.fwStagePut p.data
  else if b = Obj.FW_VERIFY then s.fwVerifyPut
  else if b = Obj.FW_ACTIVATE then s.activatePut x
  else if b = Obj.FW_CONFIRM then s.fwConfirmPut
  else if b = Obj.ROLLBACK_ADVANCE then s.rollbackPut x 96
  else s

/-- Effects of the actions and commands of SEC. -/
def State.putSec (s : State) (p : WPlan) : State :=
  let b := p.index
  let x := valN p.new
  if b = Obj.SEC_TAMPER_CLEAR then s.tamperClearPut x
  else if b = Obj.SEC_ZEROISE then s.zeroise 64
  else if b = Obj.SEC_PRES_CLOSE then s.closePresence
  else if b = Obj.SEC_ROOT_LOAD then s.rootLoadPut x (valN p.new 0 1) (rootKey p.new)
  else if b = Obj.SEC_ROOT_ERASE then s.rootErasePut x
  else if b = Obj.SEC_DISTRICT_SWITCH then s.districtPut x
  else if b = Obj.SEC_NEXT_KEY_WRAP then s.nextWrapPut x
  else s

/-- FLOCK_RESTORE of one record, with what a read of it returns (R47). -/
def State.restoreElem (s : State) (f : Nat) (v : List Int) : State :=
  (s.restorePut f (FlockRec.ofFields v)).cfgPut Obj.FLOCK_RESTORE
    (((f : Int) :: restoreMask v) :: (s.cfgVal Obj.FLOCK_RESTORE).filter fun e => e.head? != some (f : Int))

/-- Effects of the actions and commands of the other regions. -/
def State.putRest (s : State) (p : WPlan) : State :=
  let b := p.index
  let x := valN p.new
  if idxBase b = Obj.RF_TX_REARM then s.txRearm (finD (idxInst b)) x
  else if idxBase b = Obj.RF_CAL_REQUEST then s.calRequest (finD (idxInst b)) x
  else if b = Obj.REG_LOCK_PROGRAM then s.lockProgram p.data
  else if b = Obj.LINK_REMOVE then s.queueDisassoc x 2
  else if b = Obj.LINK_TXN_CANCEL then s.txnCancel x
  else if b = Obj.FLOCK_RESTORE then
    (List.range p.n).foldl (fun (s : State) (k : Nat) => s.restoreElem (p.e + k) ((p.new[k]?).getD [])) s
  else if b = Obj.FLOCK_KEY_WRAP then s.keyWrapPut x
  else if b = Obj.FL_IMAGE_BEGIN then s.imageBeginPut x
  else if b = Obj.FL_IMAGE_STAGE then s.imageStagePut p.data
  else if b = Obj.FL_IMAGE_VERIFY then s.imageVerifyPut x
  else if b = Obj.FL_CAMPAIGN_START then s.campStartPut (finD x)
  else if b = Obj.FL_CAMPAIGN_STOP then s.campStopPut (finD x)
  else if b = Obj.TM_ACCEPT_STEP then s.acceptStep x
  else if b = Obj.TM_HOST_TIME then s.hostTime x
  else if b = Obj.TM_CV_PEER then s.cvPeerPut p.data
  else if b = Obj.RTC_SET then s.adjust (calOfFields fun i => valN p.new 0 i) (valN p.new 0 7)
  else if b = Obj.PADDOCK_CLEAR then s.paddockPut x
  else if b = Obj.FAULT_RELEASE then s.releasePut x
  else if b = Obj.FAULT_CLEAR then s.faultClearPut
  else s

/-- The AON copies of the settings that R540 names are written by a write of their own (R31). -/
def hasAonCopy (index : Nat) : Bool :=
  [Obj.UART_BAUD, Obj.UART_FRAME, Obj.UART_SLOW_RX, Obj.LOREF_RS485_ADDRESS].contains index

/-- The copy of one of them takes its value (R540). -/
def State.copyPut (s : State) (index : Nat) (v : Val) : State :=
  let u := s.uart
  { s with uart :=
    if index = Obj.UART_SLOW_RX then { u with slowRx := valN v == 1 }
    else if index = Obj.UART_BAUD then { u with slowBaud := valN v }
    else if index = Obj.UART_FRAME then { u with slowFrame := (valN v 0 0, valN v 0 1, valN v 0 2) }
    else { u with slowAddr := valN v } }

/-- The value of the whole object, the elements written put into what stands there now. -/
def State.merged (s : State) (p : WPlan) : Val :=
  match p.o.kind with
  | .array _ => if isFlockArray p.index then p.new else spliceVal (s.cfgVal p.index) p.e ((p.new.drop p.e).take p.n)
  | _ => p.new

/-- A setting takes effect in its own island; an AON copy of it follows by its own write. -/
def State.settingEffect (s : State) (p : WPlan) : State :=
  let t := s.settingPut p.index p.e p.n (s.merged p)
  if hasAonCopy p.index then
    { t with uart := { t.uart with
        slowRx := s.uart.slowRx, slowBaud := s.uart.slowBaud, slowFrame := s.uart.slowFrame, slowAddr := s.uart.slowAddr } }
  else t

/-- An accepted write takes effect; its revision has risen when it was issued (R43, R47). -/
def State.writePut (s : State) (p : WPlan) : State :=
  if isSetting p.o p.index then s.settingEffect p
  else
    let s1 := if keepsValue p.index then s.cfgPut p.index p.new else s
    match idxRegion p.index with
    | 1 => s1.putSys p
    | 2 => s1.putSec p
    | _ => s1.putRest p

/-! ### Islands (Table AC-1, Table AC-9) -/

/-- The island of an object. -/
def objIsland (index : Nat) : Nat :=
  match idxRegion index with
  | 2 => 1
  | 3 => 2
  | 4 => 3
  | 5 => 4
  | 6 => if idxInst index = 6 then 6 else 5
  | 7 => 5
  | 9 => 6
  | 10 => 7
  | 11 => 8
  | 12 => 9
  | 13 => 9
  | _ => 0

end Sys2Proof.Machine
end

