-- ==== Sys2Proof/Machine/Islands.lean ====
section
/-!
DEFINITION. Writes crossing into the islands, fences, and the responses that wait for them (01_architecture.md R25 to R32); how a Loref
response leaves (02_object_dictionary.md R57, R67, R68, R76 to R82).
-/

namespace Sys2Proof.Machine

def State.modIsl (s : State) (f : IslState → IslState) : State := { s with isl := f s.isl }
def State.modLop (s : State) (f : LopState → LopState) : State := { s with lop := f s.lop }

/-- Change one session. -/
def State.modSession (s : State) (id : Nat) (f : Session → Session) : State :=
  s.modLop fun l => { l with sessions := l.sessions.map fun x => if x.id = id then f x else x }

/-- A session by its identifier. -/
def State.session (s : State) (id : Nat) : Option Session := s.lop.sessions.find? fun x => x.id == id

/-! ### The octets of a response (R51, R52, R57, R72, R594 to R596) -/

/-- The response is one of LOP1. -/
def Resp.lop1 (r : Resp) : Bool := r.opcode == 0x181 || r.opcode == 0x182

/-- One item of a response: its head and its value, padded to 4 octets (R57). -/
def RespItem.octets (i : RespItem) : Bytes :=
  natLe 1 i.status ++ natLe 1 i.typ ++ natLe 2 i.length ++ natLe 2 i.rev ++ [0, 0] ++ i.value
    ++ List.replicate ((4 - i.value.length % 4) % 4) 0

/-- The payload of a LOP2 response. An AUTH that is answered BUSY carries the head of R57, a CLOSE its STATUS (DESIGN CHOICE, log entry
124). -/
def Resp.payload (r : Resp) (eui : Nat) : Bytes :=
  if r.opcode = 0x90 then natLe 1 r.status ++ [0, 0, 0] ++ natLe 4 r.reqId ++ natLe 16 r.nonce ++ natLe 8 eui
  else if r.opcode = 0x91 ∧ r.status = 0 then natLe 16 r.nonce
  else if r.opcode = 0x92 then natLe 1 r.status ++ [0, 0, 0]
  else natLe 2 r.reqId ++ natLe 1 r.status ++ natLe 1 r.items.length ++ r.items.flatMap RespItem.octets

/-- The header of a LOP2 frame (Table OD-4). -/
def lop2Head (op plen session seq : Nat) : Bytes := natLe 1 2 ++ natLe 1 op ++ natLe 2 plen ++ natLe 4 session ++ natLe 8 seq

/-- A LOP1 frame before its CRC-16 (R72). -/
def lop1Body (op index status : Nat) (value : Bytes) : Bytes :=
  natLe 1 1 ++ natLe 1 op ++ natLe 2 index ++ natLe 1 value.length ++ natLe 1 status ++ value

/-- The root key of a role (Table SE-3). -/
def State.roleKey (s : State) (role : Nat) : Nat :=
  if role = 1 then s.sec.slot[0].key else if role = 2 then s.sec.slot[1].key
  else kdf s.fw.otp.deviceRoot 5 [s.fw.otp.eui]

/-- The key of a session: in its slot, or what AUTH will put there (R595, Table SE-3, Table SE-4). -/
def State.sessKey (s : State) (x : Session) : Bytes :=
  natLe 32 (if x.auth then (s.sec.slot[(finD x.keySlot : Fin 64)]).key
    else kdf (s.roleKey x.role) 4 [x.clientNonce, x.deviceNonce, x.id])

/-- The octets of a response: with its CRC-16, in plaintext, or encrypted under its session's key with a tag over header and payload. A
session that is gone leaves nothing to send it under (R52, R69, R72, R594). -/
def State.respFrame (s : State) (r : Resp) : Bytes :=
  if r.lop1 then
    let b := lop1Body (r.opcode % 256) r.reqId r.status (r.items.flatMap fun (i : RespItem) => i.value)
    b ++ natLe 2 (crc16 b)
  else
    let p := r.payload s.fw.otp.eui
    let h := lop2Head r.opcode p.length r.session r.seq
    if r.opcode = 0x90 then h ++ p
    else match s.session r.session with
      | none => []
      | some x =>
        let text := gcmCrypt (s.sessKey x) (h.drop 4) p
        h ++ text ++ gcmTag (s.sessKey x) (h.drop 4) h text

/-! ### Responses leave (R57, R67, R76 to R82) -/

/-- A mailbox request that is discarded, or whose answer is ready, is no longer outstanding. -/
def State.mbxFree (s : State) (transport : Nat) : State :=
  if transport = 0 then s.modLop fun l => { l with mbxBusy := false } else s

/-- The response area of the mailbox takes a frame; response-ready with its length, and the interrupt (R77, Table HP-2). -/
def State.mbxAnswer (s : State) (f : Bytes) : State :=
  (s.modHost fun h => { h with
    mbxResp := f ++ h.mbxResp.drop f.length, bar0 := insertKey 0x18 (2 + f.length * 2 ^ 16) h.bar0 }).setIrq 0

/-- A response as a UDP datagram, from the port that received the request to the request's source (R79): kind 5 with the IP version, the
destination address and port and the source port. -/
def State.udpAnswer (s : State) (e : Fin 2) (v : Via) (lop1 : Bool) (f : Bytes) : State :=
  s.ethSend e 5 [if v.v6 then 6 else 4, v.addr, v.port, s.cfgN (if lop1 then Obj.LOREF_UDP_PORT1 else Obj.LOREF_UDP_PORT2)] f

/-- The characters of an RS-485 transfer: the address with the ninth bit set, the frame and, for LOP2, its CRC-32C (R80). -/
def rs485Chars (addr : Nat) (lop1 : Bool) (f : Bytes) : List Nat :=
  (0x100 + addr) :: (f ++ if lop1 then [] else natLe 4 (crc32c f)).map fun (b : Byte) => b.toNat

/-- A response as an RS-485 transfer: its characters enter the transmitter, which asserts DE (R80, R82, R525). -/
def State.rs485Answer (s : State) (n : Fin 4) (lop1 : Bool) (f : Bytes) : State :=
  (s.modUart n fun u => { u with tx := u.tx ++ rs485Chars (s.cfgN Obj.LOREF_RS485_ADDRESS) lop1 f }).txKick n

/-- A response leaves by the transport of its request; where the transport does not serve, it is lost (R76 to R82). -/
def State.sendOut (s : State) (r : Resp) : State :=
  let f := s.respFrame r
  let s1 := s.mbxFree r.via.transport
  if f = [] then s1
  else match r.via.transport with
    | 0 => if s1.barServes then (s1.mbxAnswer f).emit (.lop r.via f) else s1
    | 1 => if s1.ethOn 0 && s1.port.eth[0].up then (s1.udpAnswer 0 r.via r.lop1 f).emit (.lop r.via f) else s1
    | 2 => if s1.ethOn 1 && s1.port.eth[1].up then (s1.udpAnswer 1 r.via r.lop1 f).emit (.lop r.via f) else s1
    | 3 => if s1.uartTxOn 0 && s1.uartLoref 0 then (s1.rs485Answer 0 r.lop1 f).emit (.lop r.via f) else s1
    | 4 => if s1.uartTxOn 1 && s1.uartLoref 1 then (s1.rs485Answer 1 r.lop1 f).emit (.lop r.via f) else s1
    | _ => s1

/-- A session ends before either of its sequences reaches 2⁶³ (R67). -/
abbrev lastSeq : Nat := 2 ^ 63 - 1

/-- Send a response. In a session it takes the device's next SEQ, and is kept for repetitions of its REQ_ID (R67, R68). -/
def State.send (s : State) (r : Resp) (keep : Bool) : State :=
  match s.session r.session with
  | none => s.sendOut r
  | some x =>
    let r1 := { r with seq := 2 ^ 63 + (x.txSeq + 1) }
    let s1 := (s.modSession r.session fun y => { y with
      txSeq := y.txSeq + 1, kept := if keep then (r1 :: y.kept).take 8 else y.kept }).sendOut r1
    if lastSeq ≤ x.txSeq + 1 ∨ lastSeq ≤ x.rxSeq then s1.endSession r.session else s1

/-! ### Issue (R25, R31, R32) -/

/-- Writes to AON in flight. -/
def State.aonInflight (s : State) : Nat := (s.isl.inflight.filter fun w => w.island == 9).length

/-- A write is accepted on the interconnect; a fifth one to AON is held there (R25, R32). -/
def State.issueTo (s : State) (w : Inflight) : State :=
  if w.island = 9 ∧ (4 ≤ s.aonInflight ∨ s.isl.aonHeld ≠ []) then s.modIsl fun i => { i with aonHeld := i.aonHeld ++ [w] }
  else s.modIsl fun i => { i with inflight := i.inflight ++ [w] }

/-- An accepted write of an object is issued to its island, and to AON too when AON holds a copy of it (R31); FENCE crosses into none
(R30). Its revision rises (R43). -/
def State.issue (s : State) (who key : Nat) (p : WPlan) : State :=
  let w := fun (island : Nat) => (⟨who, island, p.index, p.e, p.n, p.new, p.off, p.data, key⟩ : Inflight)
  let s1 := s.bumpRev p.index
  if p.index = Obj.FENCE then s1
  else
    let s2 := s1.issueTo (w (objIsland p.index))
    if hasAonCopy p.index then s2.issueTo (w 9) else s2

/-! ### Completion (R25, R27, R30, R31) -/

/-- A BAR0 write takes effect: the RTC registers and the W1C bits of RTC_STATUS in AON; the other registers in HOST (Tables AO-2, HP-2). -/
def State.bar0Effect (s : State) (offset v : Nat) : State :=
  if offset = 0x2014 then s.modAon fun a => { a with status := a.status - (a.status &&& (v % 256 / 16 * 16)) }
  else if offset = 0x2018 then s.rtcCtrl v
  else if offset = 0x2020 then s.modAon fun a => { a with setTime := maskTime v }
  else if offset = 0x2024 then s.rtcSetDate v
  else if offset = 0x2028 then s.modAon fun a => { a with alarmTime := maskAlarmTime v }
  else if offset = 0x202C then s.rtcAlarmDate v
  else if offset = 0x20 then s.modHost fun h => { h with irqEnable := v % 32 }
  else if 0x8000 ≤ offset ∧ offset < 0x8080 then
    s.modHost fun h => { h with bar0 := if v = 0 then eraseKey offset h.bar0 else insertKey offset v h.bar0 }
  else s

/-- The plan that a write in flight carries. -/
def Inflight.plan (w : Inflight) : Option WPlan := (findObj w.index).map fun o => ⟨o, w.index, w.e, w.n, w.value, w.off, w.data⟩

/-- A write takes effect in its island. The end of the writing session itself waits until the response has been sent (Table OD-9). -/
def State.takeEffect (s : State) (w : Inflight) : State :=
  if w.who = 0 then s.bar0Effect w.index (valN w.value)
  else if w.island = 9 ∧ hasAonCopy w.index then s.copyPut w.index w.value
  else if w.index = Obj.SESSION_END ∧ valN w.value = w.who then s.setAct Obj.SESSION_END 0
  else match w.plan with
    | some p => s.writePut p
    | none => s

/-- Some write of a request is still in flight or held. -/
def State.outstanding (s : State) (p : Inflight → Bool) : Bool := s.isl.inflight.any p || s.isl.aonHeld.any p

/-- A response whose writes have all taken effect is sent (R31); a session that it was to close ends (Table OD-9). -/
def State.sendWaiting (s : State) (r : RespWait) : State :=
  let s1 := (s.modIsl fun i => { i with responses := i.responses.filter fun x => x.key != r.key }).send r.resp r.keep
  match r.closes with
  | some id => s1.endSession id
  | none => s1

/-- A fence completes: a BAR0 read of FENCE returns 0, a FENCE write is answered (R30). -/
def State.fenceEnd (s : State) (f : FenceWait) : State :=
  (s.modIsl fun i => { i with fences := i.fences.erase f }).emit (if f.bar0 then .bar0Read 0x10 0 else .fenceDone f.who)

/-- Send every response and end every fence whose earlier writes have completed (R30, R31). -/
def State.release (s : State) : State :=
  let s1 := (s.isl.responses.filter fun r => !s.outstanding fun w => w.resp == r.key).foldl State.sendWaiting s
  (s1.isl.fences.filter fun f => !s1.outstanding fun w => w.who == f.who).foldl State.fenceEnd s1

/-- The `i`-th write in flight takes effect, unless an earlier one of its initiator to its island is still in flight (R27). -/
def State.complete (s : State) (i : Nat) : State :=
  match s.isl.inflight[i]? with
  | none => s
  | some w =>
    if (s.isl.inflight.take i).any fun (x : Inflight) => x.who == w.who && x.island == w.island then s
    else (((s.modIsl fun x => { x with inflight := x.inflight.eraseIdx i }).takeEffect w).settled).release

/-- ISLAND_WRITE_COMPLETE (R25). -/
def execIslandWriteComplete (i : Nat) (s : State) : Answer State := .next (s.complete i)

/-- The oldest write held at the interconnect enters AON when a place is free (R32). -/
def State.admitAon (s : State) : State :=
  match s.isl.aonHeld with
  | [] => s
  | w :: ws => if 4 ≤ s.aonInflight then s else s.modIsl fun i => { i with inflight := i.inflight ++ [w], aonHeld := ws }

/-- AON_WRITE_ADMITTED (R32). -/
def execAonWriteAdmitted (s : State) : Answer State := .next s.admitAon

/-- SUP goes on to the next request only when the present one has been answered: its writes take effect, oldest first (R31, R60). -/
def State.drainWrites : Nat → State → State
  | 0, s => s
  | n + 1, s =>
    if s.isl.responses = [] then s
    else if s.isl.inflight = [] then (if s.isl.aonHeld = [] then s.release else State.drainWrites n s.admitAon)
    else State.drainWrites n (s.complete 0)

/-- Every response that waits is sent. -/
def State.drained (s : State) : State := State.drainWrites (2 * (s.isl.inflight.length + s.isl.aonHeld.length) + 1) s

/-! ### Fences (R30) -/

/-- FENCE: a fence of a session starts; it completes once the session's earlier writes have. -/
def State.fence (s : State) (who : Nat) : State :=
  if (s.authSession who).isNone then s
  else ((s.bumpRev Obj.FENCE).modIsl fun i => { i with fences := i.fences ++ [⟨who, false, 0⟩] }).release

def execFence (who : Nat) (s : State) : Answer State := .next (s.fence who)

/-- BAR0_FENCE_READ: the read completes after a fence of the BAR0 writes, and returns 0. -/
def State.bar0Fence (s : State) : State :=
  if s.barServes then (s.modIsl fun i => { i with fences := i.fences ++ [⟨0, true, 0⟩] }).release else s

def execBar0FenceRead (s : State) : Answer State := .next s.bar0Fence

/-! ### BAR0 accesses in order (R27, R29, R493, R494, R423) -/

/-- A posted BAR0 write is in flight to its island (R25, R32). -/
def State.bar0Issue (s : State) (island offset v : Nat) : State :=
  s.issueTo ⟨0, island, offset, 0, 1, scalar (v % 2 ^ 32 : Nat), none, [], 0⟩

/-- A posted BAR0 write of an RTC register, while BAR0 serves (R32, R423). -/
def State.rtcWrite (s : State) (offset v : Nat) : State := if s.barServes then s.bar0Issue 9 offset v else s

/-- An access of BAR0 to an island finds every earlier BAR0 write to that island in effect (R27, R29). -/
def State.bar0Sync (island : Nat) : Nat → State → State
  | 0, s => s
  | n + 1, s =>
    if !s.outstanding (fun w => w.who == 0 && w.island == island) then s
    else match s.isl.inflight.findIdx? fun w => w.who == 0 && w.island == island with
      | some i => State.bar0Sync island n (s.complete i)
      | none => match s.isl.inflight.findIdx? fun w => w.island == 9 with
        | some i => State.bar0Sync island n (s.complete i).admitAon
        | none => State.bar0Sync island n s.admitAon

/-- The state that a BAR0 or BAR2 access to an island finds; `f` what it does there, once the endpoint serves them (R101, R493). -/
def State.bar0Access (s : State) (island : Nat) (f : State → State) : State :=
  if s.barServes then f (State.bar0Sync island (2 * (s.isl.inflight.length + s.isl.aonHeld.length)) s) else s

/-- RTC_SET_DATE_WRITE (R417, R423). -/
def execRtcSetDate (w : Nat) (s : State) : Answer State := .next (s.rtcWrite 0x2024 w)

/-- RTC_CTRL_WRITE (R423). -/
def execRtcCtrl (w : Nat) (s : State) : Answer State := .next (s.rtcWrite 0x2018 w)

/-- RTC_ALARM_DATE_WRITE (R423). -/
def execRtcAlarmDate (w : Nat) (s : State) : Answer State := .next (s.rtcWrite 0x202C w)

/-- RTC_SUBSEC_READ (R424). -/
def execRtcSubsecRead (s : State) : Answer State := .next (s.bar0Access 9 State.subsecRead)

/-- RTC_TICK_HI_READ (R424). -/
def execRtcTickHiRead (s : State) : Answer State := .next (s.bar0Access 9 State.tickHiRead)

/-- IRQ_STATUS_WRITE (R495). -/
def execIrqStatusWrite (m : Nat) (s : State) : Answer State := .next (s.bar0Access 2 fun s => s.irqClear m)

/-- RING_DOORBELL (R500, R501). -/
def execRingDoorbell (n : Fin 6) (isProd : Bool) (v : Nat) (s : State) : Answer State :=
  .next (s.bar0Access 2 fun s => s.doorbell n isProd v).settled

/-- TS_CAPTURE (R496). -/
def execTsCapture (v : Nat) (s : State) : Answer State := .next (s.bar0Access 8 fun s => s.tsCapture v)

/-- RING_CFG_WRITE, by object or through BAR2 (R27, R499). -/
def execRingCfgWrite (n : Fin 6) (v : List Int) (bar2 : Bool) (s : State) : Answer State :=
  .next (if bar2 then s.bar0Access 2 fun s => s.ringCfgWrite n v true else s.ringCfgWrite n v false).settled

end Sys2Proof.Machine
end

