-- ==== Sys2Proof/Machine/Loref.lean ====
section
/-!
DEFINITION. The Loref server: requests and their responses, both protocol generations (02_object_dictionary.md R38 to R74).
-/

namespace Sys2Proof.Machine

/-! ### Checks of a WRITE item (R41, R44, R48, R56, R58) -/

/-- A write by a role: RWA for ADMIN and for INSTALLER of a PROVISION window, RWP within an open window of the object's class (R44, R544,
Table OD-3). -/
def State.roleCheck (s : State) (x : Session) (o : ObjInfo) (index : Nat) : Nat :=
  match objAcc o index with
  | .ro => 2
  | .rwa => if x.role = 2 ∨ (x.role = 3 ∧ x.presClass = 1) then 0 else 9
  | .rwp => if s.sec.presClass = o.presence then 0 else 0x0A
  | _ => 0

/-- A CMD or action write to a block that is not on (R48); RF_CAL_REQUEST is held until its domain turns on (04_radio_front_end.md). -/
def State.domainCheck (s : State) (o : ObjInfo) (index : Nat) : Nat :=
  if (o.acc = .cmd ∨ actionObjects.contains index) ∧ idxBase index ≠ Obj.RF_CAL_REQUEST ∧ objDomain index ≠ 0
      ∧ !s.domServes (objDomain index) then 8 else 0

/-- The object that an item names; the recovery state serves a few (R105). -/
def State.served (s : State) (index : Nat) : Option ObjInfo :=
  match findObj index with
  | some o => if s.start.st = 5 ∧ !recoveryServes (idxBase index) then none else some o
  | none => none

/-- Check one WRITE item: its failing code, or what it writes. -/
def State.itemCheck (s : State) (x : Session) (w : WItem) : Nat ⊕ WPlan :=
  match s.served w.index with
  | none => .inl 1
  | some o =>
    let c := s.roleCheck x o w.index
    let d := s.domainCheck o w.index
    if c ≠ 0 then .inl c
    else if d ≠ 0 then .inl d
    else match s.itemPlan o w with
      | .inl t => .inl t
      | .inr p =>
        let v := s.writeCheck p
        if v ≠ 0 then .inl v
        else if w.cond ∧ w.rev ≠ s.revOf w.index then .inl 0x0C
        else .inr p

/-- What the later items of a list are checked against: the settings and revisions that the earlier ones leave (R58). -/
def State.afterItem (s : State) (p : WPlan) : State :=
  let s1 := s.bumpRev p.index
  if isFlockArray p.index then s1
  else if p.index = Obj.PW_TARGET then
    (List.range p.n).foldl (fun (s : State) (k : Nat) => s.setTarget (p.e + k) (valN p.new (p.e + k))) s1
  else if isSetting p.o p.index then s1.cfgPut p.index p.new
  else s1

/-- The checks of a list: every plan with the revision after it, or the number of the first failing item, its code, and what it was checked
against. -/
def State.listCheck (s : State) (x : Session) (n : Nat) : List WItem → (Nat × Nat × State) ⊕ List (WPlan × Nat)
  | [] => .inr []
  | w :: ws =>
    match s.itemCheck x w with
    | .inl c => .inl (n, c, s)
    | .inr p =>
      match (s.afterItem p).listCheck x (n + 1) ws with
      | .inl f => .inl f
      | .inr ps => .inr ((p, (s.afterItem p).revOf p.index) :: ps)

/-- A refused target is counted with its cause (R435, R454). -/
def State.countTargets (s : State) (o : State) (w : WItem) : State :=
  match (findObj w.index).map fun (i : ObjInfo) => o.itemPlan i w with
  | some (.inr p) =>
    match (List.range p.n).find? fun k => (o.targetRefusal (domFin (p.e + k)) (valN p.new (p.e + k))).isSome with
    | some k => match o.targetRefusal (domFin (p.e + k)) (valN p.new (p.e + k)) with
      | some (c, r) => s.countRefusal (domFin (p.e + k)) r c
      | none => s
    | none => s
  | _ => s

/-! ### Requests and responses (R53, R57) -/

/-- A response to a request of a session; its SEQ is given when it is sent. -/
def LopReq.resp (q : LopReq) (opcode reqId status : Nat) (items : List RespItem) : Resp :=
  ⟨q.via, opcode, q.session, 0, reqId, status, items, 0⟩

/-- The REQ_ID that a response carries: 0 when the payload is shorter than 2 bytes (R57). -/
def LopReq.reqId (q : LopReq) : Nat := if q.payload.length < 2 then 0 else leAt q.payload 0 2

/-- COUNT of a request's payload. -/
def LopReq.count (q : LopReq) : Nat := leAt q.payload 3 1

/-- READ and INFO items that fill what is left of a payload exactly; one that leaves octets over is malformed (R53; DESIGN CHOICE, log entry
125). -/
def parseReads : Nat → Bytes → Option (List RItem)
  | 0, b => if b = [] then some [] else none
  | n + 1, b =>
    if b.length < 12 then none
    else (parseReads n (b.drop 12)).map fun is => (⟨leAt b 0 4, leAt b 4 4, leAt b 8 2⟩ : RItem) :: is

/-- WRITE items with their values, each padded to 4 octets (R53). -/
def parseWrites : Nat → Bytes → Option (List WItem)
  | 0, b => if b = [] then some [] else none
  | n + 1, b =>
    let len := leAt b 8 2
    let size := 16 + (len + 3) / 4 * 4
    if b.length < size then none
    else (parseWrites n (b.drop size)).map fun is =>
      (⟨leAt b 0 4, leAt b 4 4, len, leAt b 10 1, leAt b 11 1 % 2 == 1, leAt b 12 2, (b.drop 16).take len⟩ : WItem) :: is

/-- The items of a request with 1 to 16 of them, none of a malformed payload (R53). -/
def LopReq.reads (q : LopReq) : Option (List RItem) :=
  if q.payload.length < 4 ∨ q.count < 1 ∨ 16 < q.count then none else parseReads q.count (q.payload.drop 4)

def LopReq.writes (q : LopReq) : Option (List WItem) :=
  if q.payload.length < 4 ∨ q.count < 1 ∨ 16 < q.count then none else parseWrites q.count (q.payload.drop 4)

/-- Frame limit of a way (Table OD-7). -/
def frameLimit (transport : Nat) (v6 : Bool) : Nat :=
  match transport with
  | 0 => 4096
  | 1 => if v6 then 1452 else 1472
  | 2 => if v6 then 1452 else 1472
  | _ => 1024

/-- The frame limit of a request's way. -/
def LopReq.limit (q : LopReq) : Nat := frameLimit q.via.transport q.via.v6

/-- The first failing item's code (R57). -/
def firstFailure : List RespItem → Nat
  | [] => 0
  | i :: is => if i.status = 0 then firstFailure is else i.status

/-! ### Execution of READ, INFO and WRITE (R54 to R62, R68) -/

/-- READ: all items, or SIZE when the response would exceed the frame limit; header and tag take 32 octets (R57). -/
def State.runRead (s : State) (q : LopReq) (items : List RItem) : State :=
  if q.limit < s.readSize items + 32 then s.send (q.resp 0x81 q.reqId 0x0E []) true
  else
    let r := items.foldl (fun (a : List RespItem × State) (it : RItem) => ((a.1 ++ [(a.2.readItem it).1]), (a.2.readItem it).2)) ([], s)
    r.2.send (q.resp 0x81 q.reqId (firstFailure r.1) r.1) true

/-- INFO. -/
def State.runInfo (s : State) (q : LopReq) (items : List RItem) : State :=
  let rs := items.map s.infoItem
  if q.limit < 36 + (rs.map fun (i : RespItem) => itemSize i.length).sum then s.send (q.resp 0x83 q.reqId 0x0E []) true
  else s.send (q.resp 0x83 q.reqId (firstFailure rs) rs) true

/-- A WRITE list that fails: the failing item carries its own code, every other one NOT_APPLIED (R58). -/
def State.writeFailed (s : State) (q : LopReq) (items : List WItem) (n code : Nat) (o : State) : State :=
  let rs := items.mapIdx fun i (w : WItem) =>
    (⟨if i = n then code else 0x11, match findObj w.index with | some o => o.partCode w.element | none => 0, 0, s.revOf w.index, []⟩ :
      RespItem)
  let s1 := match items[n]? with
    | some w => if w.index = Obj.PW_TARGET ∧ code = 5 then s.countTargets o w else s
    | none => s
  s1.send (q.resp 0x82 q.reqId code rs) true

/-- A WRITE list that passes: its items are issued in order, and the response waits for their effects (R31, R59). A session that ends
itself ends after the response (Table OD-9). -/
def State.writePassed (s : State) (q : LopReq) (items : List WItem) (ps : List (WPlan × Nat)) : State :=
  let key := s.isl.nextKey
  let rs := (items.zip ps).map fun (x : WItem × (WPlan × Nat)) => (⟨0, x.2.1.o.partCode x.1.element, 0, x.2.2, []⟩ : RespItem)
  let self := ps.any fun x => x.1.index == Obj.SESSION_END && valN x.1.new == q.session
  let s1 := s.modIsl fun i => { i with
    nextKey := key + 1
    responses := i.responses ++ [⟨key, q.resp 0x82 q.reqId 0 rs, true, if self then some q.session else none⟩] }
  (ps.foldl (fun (s : State) (x : WPlan × Nat) => s.issue q.session key x.1) s1).release

/-- WRITE. -/
def State.runWrite (s : State) (x : Session) (q : LopReq) (items : List WItem) : State :=
  match s.listCheck x 0 items with
  | .inl (n, c, o) => s.drawn.writeFailed q items n c o
  | .inr ps => s.drawn.writePassed q items ps

/-- A request of a session: repeated, malformed, or executed (R57, R68). -/
def State.inSession (s : State) (q : LopReq) (opcode : Nat) (run : Option (State → Session → State)) : State :=
  match s.authSession q.session with
  | none => s.mbxFree q.via.transport
  | some x =>
    match if q.payload.length < 2 then none else x.kept.find? fun r => r.reqId == q.reqId with
    | some r => s.send { r with via := q.via } false
    | none =>
      match run with
      | some f => f s x
      | none => (s.count Obj.LOREF_FORMAT_ERR).send (q.resp opcode q.reqId 0x0F []) (decide (2 ≤ q.payload.length))

/-! ### Sessions (R63 to R69, R594 to R596) -/

/-- Pending and authenticated sessions (R63). -/
def State.pendingCount (s : State) : Nat := (s.lop.sessions.filter fun x => !x.auth).length
def State.authCount (s : State) : Nat := (s.lop.sessions.filter fun x => x.auth).length

/-- The root of a role can be used: slot 0 or 1, or the device root and an open window; no role is keyed from the device root when its check
or that of the identity seed has failed (R45, R64, R104, Table SU-3). -/
def State.roleRoot (s : State) (role : Nat) : Bool :=
  s.domOn 2 && !s.isHeld 2 &&
    (if role = 1 then s.sec.slot[0].st != 0 else if role = 2 then s.sec.slot[1].st != 0
    else s.sec.presClass != 0 && s.fw.otp.deviceRootOk && s.fw.otp.identityOk)

/-- Why an OPEN is refused: RANGE, NO_ROOT or BUSY (R63, R64, R594). In the recovery state OPERATOR cannot open, with a status that is not
stated (R105; log entry 1). -/
def State.openCheck (s : State) (role : Nat) : Nat :=
  if role = 0 ∨ 3 < role then 4
  else if s.start.st = 5 ∧ role = 1 then freeError s.draw.1
  else if !s.roleRoot role then 0x10
  else if 4 ≤ s.pendingCount ∨ 8 ≤ s.authCount then 7
  else 0

/-- An unused, non-zero session identifier. -/
def freshId (used : List Nat) : Nat → Nat → Nat
  | 0, x => x
  | n + 1, x => if used.contains x then freshId used n (x % (2 ^ 32 - 1) + 1) else x

/-- An OPEN response (R594). -/
def openResp (v : Via) (id status nonce : Nat) : Resp := ⟨v, 0x90, 0, 2 ^ 63, id, status, [], nonce⟩

/-- OPEN: ROLE in octet 0 and the client nonce in octets 4 to 19 of its payload make a pending session, answered in plaintext (R594). Session
identifier and device nonce are the block's to choose: free values (log entry 1). -/
def State.runOpen (s : State) (q : LopReq) : State :=
  let role := leAt q.payload 0 1
  let c := s.openCheck role
  let s1 := s.drawn
  let id := freshId (s.lop.sessions.map fun x => x.id) 13 (s1.draw.1 % (2 ^ 32 - 1) + 1)
  let s2 := s1.drawn
  let nonce := s2.draw.1 % 2 ^ 128
  let s3 := s2.drawn
  if c = 0 then
    (s3.modLop fun l => { l with sessions := l.sessions ++ [⟨id, role, q.via.transport, if role = 3 then s.sec.presClass else 0, false,
      s.mono, s.mono, 0, 0, 0, leAt q.payload 4 16, nonce, 0, []⟩] }).sendOut (openResp q.via id 0 nonce)
  else (if c = 7 then s3.count Obj.LOREF_BUSY else s3).sendOut (openResp q.via 0 c nonce)

/-- A session-key slot that no session holds and no containment has retired (R16, Table SE-4). -/
def State.freeKeySlot (s : State) : Option Nat :=
  ((List.range 12).map (· + 12)).find? fun k =>
    !s.slotRetired k && !(s.lop.sessions.any fun x => x.auth && x.keySlot == k)

/-- The answer to an AUTH. -/
def LopReq.authAnswer (q : LopReq) (x : Session) : Resp := ⟨q.via, 0x91, q.session, 0, 0, 0, [], x.deviceNonce⟩

/-- A pending session becomes authenticated: its key is derived into its slot (R595, Table SE-3, Table SE-4). -/
def State.authenticate (s : State) (q : LopReq) (x : Session) (k : Nat) : State :=
  let key := kdf (s.roleKey x.role) 4 [x.clientNonce, x.deviceNonce, x.id]
  let s1 := s.modSession x.id fun y => { y with auth := true, keySlot := k, lastAt := s.mono }
  (s1.writeSlot (finD k) 2 key).send (q.authAnswer x) false

/-- An AUTH whose session cannot be kept is discarded with the session (R63). -/
def State.authBusy (s : State) (q : LopReq) (x : Session) : State := ((s.count Obj.LOREF_BUSY).endSession x.id).mbxFree q.via.transport

/-- The payload of an AUTH is the client nonce of its session. -/
def LopReq.nonceOk (q : LopReq) (x : Session) : Bool := q.payload.length == 16 && leNat q.payload == x.clientNonce

/-- AUTH, accepted under R67 (R63, R595). -/
def State.runAuth (s : State) (q : LopReq) : State :=
  match s.session q.session with
  | none => s.mbxFree q.via.transport
  | some x =>
    if x.auth then
      (if q.nonceOk x then s.send (q.authAnswer x) false else (s.count Obj.LOREF_AUTH_FAIL).mbxFree q.via.transport)
    else if !q.nonceOk x then ((s.count Obj.LOREF_AUTH_FAIL).endSession x.id).mbxFree q.via.transport
    else if 8 ≤ s.authCount then s.authBusy q x
    else match s.freeKeySlot with
      | some k => s.authenticate q x k
      | none => s.authBusy q x

/-- CLOSE: answered with STATUS 0, then the session ends (R596). A payload that it should not carry is not looked at (DESIGN CHOICE, log
entry 126). -/
def State.runClose (s : State) (q : LopReq) : State :=
  if (s.authSession q.session).isNone then s.mbxFree q.via.transport
  else (s.send (q.resp 0x92 0 0 []) false).endSession q.session

/-! ### LOP1 (R70 to R75) -/

/-- The LOP1 equivalent of a status (Table OD-6). -/
def lop1Status (c : Nat) : Nat :=
  lookupD c 2 [(0, 0), (1, 1), (2, 2), (3, 3), (4, 4), (5, 4), (6, 3), (7, 7), (8, 5), (0x0A, 6), (0x0E, 3), (0x0F, 3)]

/-- The object index of a LOP1 index (R71). -/
def lop1Object (i : Nat) : Nat := i / 0x1000 % 16 * 2 ^ 24 + i % 0x1000

/-- A LOP1 response. -/
def lop1Resp (v : Via) (opcode index status : Nat) (value : Bytes) : Resp :=
  ⟨v, opcode, 0, 0, index, status, if value = [] then [] else [⟨0, 0, value.length, 0, value⟩], 0⟩

/-- The answer of a LOP1 READ to what the object's read gave: the whole object, unless it is larger than 240 bytes (R73). -/
def State.lop1ReadOf (s : State) (v : Via) (index : Nat) (r : RespItem × State) : Option ObjInfo → State
  | none => s.sendOut (lop1Resp v 0x181 index 1 [])
  | some o =>
    if r.1.status ≠ 0 then s.sendOut (lop1Resp v 0x181 index (lop1Status r.1.status) [])
    else if 240 < o.size then s.sendOut (lop1Resp v 0x181 index 3 [])
    else r.2.sendOut (lop1Resp v 0x181 index 0 r.1.value)

/-- LOP1 READ (R73). -/
def State.runLop1Read (s : State) (v : Via) (index : Nat) : State :=
  s.lop1ReadOf v index (s.readItem ⟨lop1Object index, wholeElement, 0⟩) (findObj (lop1Object index))

/-- Whether LOP1 may write an object: its status, 0 when it may; while SEC is held, LOP1 is read-only (R17, R74). -/
def State.lop1Access (s : State) (o : ObjInfo) : Nat :=
  if s.sec.presClass = 0 then 6
  else if s.isHeld 2 then 2
  else match o.acc with
    | .rw => if s.sec.presClass = 2 then 0 else 2
    | .rwp => if s.sec.presClass = o.presence then 0 else 2
    | _ => 2

/-- The initiator of a LOP1 write. -/
def lop1Who (transport : Nat) : Nat := 2 ^ 32 + transport

/-- A LOP1 WRITE that passes its checks waits for its effect and is then answered (R31, R74). -/
def State.lop1Issue (s : State) (v : Via) (index : Nat) (p : WPlan) : State :=
  let key := s.isl.nextKey
  let s1 := s.modIsl fun i => { i with
    nextKey := key + 1, responses := i.responses ++ [⟨key, lop1Resp v 0x182 index 0 [], false, none⟩] }
  (s1.issue (lop1Who v.transport) key p).release

/-- A LOP1 WRITE of an object: refused with its status, or issued (R74). -/
def State.lop1WriteOf (s : State) (v : Via) (index : Nat) (value : Bytes) : Option ObjInfo → State
  | none => s.sendOut (lop1Resp v 0x182 index 1 [])
  | some o =>
    if s.lop1Access o ≠ 0 then s.sendOut (lop1Resp v 0x182 index (s.lop1Access o) [])
    else match s.itemPlan o ⟨lop1Object index, wholeElement, value.length, o.code, false, 0, value⟩ with
      | .inl c => s.sendOut (lop1Resp v 0x182 index (lop1Status c) [])
      | .inr p =>
        if s.writeCheck p ≠ 0 then s.sendOut (lop1Resp v 0x182 index (lop1Status (s.writeCheck p)) [])
        else s.lop1Issue v index p

/-- LOP1 WRITE of the whole object (R31, R74). -/
def State.runLop1Write (s : State) (v : Via) (index : Nat) (value : Bytes) : State :=
  s.lop1WriteOf v index value (findObj (lop1Object index))

/-! ### SUP executes one request at a time (R60, R61, R101) -/

/-- Execute a request. -/
def State.execute (s : State) (q : LopReq) : State :=
  match q.op with
  | 0x01 => s.inSession q 0x81 (q.reads.map fun is s _ => State.runRead s q is)
  | 0x02 => s.inSession q 0x82 (q.writes.map fun is s x => State.runWrite s x q is)
  | 0x03 => s.inSession q 0x83 (q.reads.map fun is s _ => State.runInfo s q is)
  | 0x10 => s.runOpen q
  | 0x11 => s.runAuth q
  | 0x12 => s.runClose q
  | 0x101 => s.runLop1Read q.via q.session
  | 0x102 => s.runLop1Write q.via q.session q.payload
  | _ => s.mbxFree q.via.transport

/-- SUP can start a request: it runs, and the profile is loaded, or the boot ROM serves the recovery state (R20, R101, R105). -/
def State.supServes (s : State) : Bool := s.start.st == 5 || (3 ≤ s.start.st && s.eng[0].st == 1 && s.domServes 1)

/-- The BUSY answer to a request that was not started in time (R61). -/
def State.busyReply (s : State) (q : LopReq) : State :=
  let s := s.count Obj.LOREF_BUSY
  let inSess := fun (op id : Nat) =>
    if (s.session q.session).isNone then s.mbxFree q.via.transport else s.send (q.resp op id 7 []) false
  match q.op with
  | 0x01 => inSess 0x81 q.reqId
  | 0x02 => inSess 0x82 q.reqId
  | 0x03 => inSess 0x83 q.reqId
  | 0x10 => s.sendOut (openResp q.via 0 7 0)
  | 0x11 => inSess 0x91 0
  | 0x12 => inSess 0x92 0
  | 0x101 => s.sendOut (lop1Resp q.via 0x181 q.session 7 [])
  | 0x102 => s.sendOut (lop1Resp q.via 0x182 q.session 7 [])
  | _ => s.mbxFree q.via.transport

/-- An accepted request starts at once, or waits for SUP (R60, R61). -/
def State.enqueue (s : State) (q : LopReq) : State :=
  if s.supServes then s.drained.execute q else s.modLop fun l => { l with waiting := l.waiting ++ [(q, s.mono)] }

/-- SUP serves again: the waiting requests start in order; those that have waited longer than 50 ms are answered BUSY (R60, R61). -/
def State.serveWaiting (s : State) : State :=
  if s.supServes then
    s.lop.waiting.foldl (fun (t : State) (w : LopReq × HalfNs) =>
      if w.2 + 50 * msHalfNs < t.mono then t.busyReply w.1 else t.drained.execute w.1) (s.modLop fun l => { l with waiting := [] })
  else s

/-- REQUEST_WAIT_TIMEOUT: the `i`-th waiting request has waited 50 ms (R61). -/
def State.waitTimeout (s : State) (i : Nat) : State :=
  match s.lop.waiting[i]? with
  | none => s
  | some (q, t) => ((s.toMono (t + 50 * msHalfNs)).modLop fun l => { l with waiting := l.waiting.eraseIdx i }).busyReply q

def execRequestWaitTimeout (i : Nat) (s : State) : Answer State := .next (s.waitTimeout i)

/-- A restarting engine runs again; SUP takes up the requests that waited for it (R19 to R21, R61). -/
def State.engineRuns (s : State) (n : Fin 8) : State :=
  if s.eng[n].st = 2 then ({ s with eng := s.eng.set n { s.eng[n] with st := 1 } } : State).serveWaiting else s

/-- ENGINE_RESTART_DONE. -/
def execEngineRestartDone (n : Fin 8) (s : State) : Answer State := .next (s.engineRuns n)

/-! ### Admission of frames (R51, R52, R66, R67, R72, R76, R594, R595) -/

/-- A frame is discarded without an answer and counted. -/
def State.refuse (s : State) (v : Via) (counter : Nat) : State := (s.count counter).mbxFree v.transport

/-- The opcodes of an authenticated request (Table OD-5). -/
def authOpcodes : List Nat := [0x01, 0x02, 0x03, 0x11, 0x12]

/-- The length of a frame by its own length field, none when it is too short to hold one or its VER is unknown (R51, R72). -/
def frameLength (b : Bytes) : Option Nat :=
  if leAt b 0 1 = 2 ∧ 4 ≤ b.length then some (16 + leAt b 2 2 + if leAt b 1 1 = 0x10 then 0 else 16)
  else if leAt b 0 1 = 1 ∧ 5 ≤ b.length then some (8 + leAt b 4 1)
  else none

/-- An authenticated frame, `h` its header: accepted, or discarded and counted: direction, session, tag, sequence (R52, R66, R67, R595). -/
def State.takeIn (s : State) (v : Via) (h text tag : Bytes) : State :=
  let op := leAt h 1 1
  let id := leAt h 4 4
  let seq := leAt h 8 8
  if 2 ^ 63 ≤ seq then s.refuse v Obj.LOREF_FORMAT_ERR
  else match s.session id with
    | none => s.refuse v Obj.LOREF_AUTH_FAIL
    | some x =>
      if !x.auth ∧ op ≠ 0x11 then s.refuse v Obj.LOREF_AUTH_FAIL
      else if gcmTag (s.sessKey x) (h.drop 4) h text ≠ tag then
        let s1 := s.refuse v Obj.LOREF_AUTH_FAIL
        if 15 ≤ x.tagFails then s1.endSession x.id else s1.modSession x.id fun y => { y with tagFails := y.tagFails + 1 }
      else if seq ≤ x.rxSeq then s.refuse v Obj.LOREF_REPLAY
      else (s.modSession x.id fun y => { y with rxSeq := seq, lastAt := s.mono }).enqueue
        ⟨v, op, id, gcmCrypt (s.sessKey x) (h.drop 4) text⟩

/-- A LOP2 frame: OPEN in plaintext with SESSION 0, SEQ 0 and 20 octets, any other opcode of Table OD-5 with its tag (R51, R594). -/
def State.lop2Frame (s : State) (v : Via) (b : Bytes) : State :=
  let h := b.take 16
  let plen := leAt b 2 2
  if b.length < 16 ∨ frameLength b ≠ some b.length then s.refuse v Obj.LOREF_FORMAT_ERR
  else if leAt b 1 1 = 0x10 then
    (if leAt b 4 4 ≠ 0 ∨ leAt b 8 8 ≠ 0 ∨ plen ≠ 20 then s.refuse v Obj.LOREF_FORMAT_ERR else s.enqueue ⟨v, 0x10, 0, b.drop 16⟩)
  else if authOpcodes.contains (leAt b 1 1) then s.takeIn v h ((b.drop 16).take plen) (b.drop (16 + plen))
  else s.refuse v Obj.LOREF_FORMAT_ERR

/-- A LOP1 frame: discarded without an answer while LOP1_ENABLE is 0, and when its CRC fails (R72, R73, R75). -/
def State.lop1Frame (s : State) (v : Via) (b : Bytes) : State :=
  let n := b.length
  if s.cfgN Obj.LOP1_ENABLE = 0 then s.mbxFree v.transport
  else if n < 8 ∨ frameLength b ≠ some n ∨ 240 < leAt b 4 1 then s.refuse v Obj.LOREF_FORMAT_ERR
  else if crc16 (b.take (n - 2)) ≠ leAt b (n - 2) 2 then s.mbxFree v.transport
  else if leAt b 1 1 = 1 then s.enqueue ⟨v, 0x101, leAt b 2 2, []⟩
  else if leAt b 1 1 = 2 then s.enqueue ⟨v, 0x102, leAt b 2 2, (b.drop 6).take (leAt b 4 1)⟩
  else s.refuse v Obj.LOREF_FORMAT_ERR

/-- A frame arrives by a way that serves it (R76). -/
def State.arrive (s : State) (v : Via) (b : Bytes) : State :=
  if frameLimit v.transport v.v6 < b.length then s.refuse v Obj.LOREF_FORMAT_ERR
  else if leAt b 0 1 = 2 then s.lop2Frame v b
  else if leAt b 0 1 = 1 then s.lop1Frame v b
  else s.refuse v Obj.LOREF_FORMAT_ERR

/-! ### Transports (R76 to R82, Table OD-7) -/

/-- The octets that the host has written into the request area (R77); octets never written read as 0 (DESIGN CHOICE, log entry 127). -/
def State.mailFrame (s : State) (length : Nat) : Bytes := s.host.mbxReq.take length ++ List.replicate (length - s.host.mbxReq.length) 0

/-- MBX_DOORBELL: the request area, of which `area` has been written, holds a frame of a length; while a request is outstanding it is an
overlap (R77, R78, Table HP-2). -/
def State.mailbox (s : State) (length : Nat) (area : Bytes) : State :=
  let s0 := s.modHost fun h => { h with mbxReq := (area ++ h.mbxReq.drop area.length).take 4096 }
  if length = 0 ∨ 4096 < length then s0
  else if s.lop.mbxBusy then s0.count Obj.LOREF_MBX_OVERLAP
  else
    let s1 := (s0.modLop fun l => { l with mbxBusy := true }).modHost fun h => { h with bar0 := eraseKey 0x18 h.bar0 }
    s1.arrive ⟨0, false, 0, 0⟩ (s0.mailFrame length)

def execMbxDoorbell (length : Nat) (area : Bytes) (s : State) : Answer State :=
  .next (s.bar0Access 2 fun s => s.mailbox length area)

/-- LOREF_UDP_DATAGRAM: a datagram on Ethernet port `e` from an address and port to a UDP port; one whose length is not its frame's, or a
fragmented one, is discarded (R79, Table OD-7). The other protocol's frame on a port is a frame that is not accepted (DESIGN CHOICE, log
entry 128). -/
def State.udpFrame (s : State) (e : Fin 2) (v6 frag : Bool) (addr source port : Nat) (data : Bytes) : State :=
  let v : Via := ⟨1 + e, v6, addr, source⟩
  if !s.ethOn e ∨ !s.port.eth[e].up ∨ !(s.cfgN Obj.LOREF_UDP_ENABLE).testBit e ∨ frag ∨ frameLength data ≠ some data.length then s
  else if port = s.cfgN Obj.LOREF_UDP_PORT2 then
    (if leAt data 0 1 = 2 then s.arrive v data else s.refuse v Obj.LOREF_FORMAT_ERR)
  else if port = s.cfgN Obj.LOREF_UDP_PORT1 then
    (if leAt data 0 1 = 1 then s.arrive v data else s.refuse v Obj.LOREF_FORMAT_ERR)
  else s

def execLorefUdpDatagram (e : Fin 2) (v6 frag : Bool) (addr source port : Nat) (data : Bytes) (s : State) : Answer State :=
  .next (s.udpFrame e v6 frag addr source port data)

/-- The UART of an RS-485 transport. -/
def uartOf (n : Fin 2) : Fin 4 := ⟨n, by omega⟩

/-- A UART takes Loref transfers: Loref owns it and its receiver is enabled (R525). -/
def State.rs485On (s : State) (n : Fin 2) : Bool := s.uartLoref (uartOf n) && s.uartRxOn (uartOf n)

def State.setRs485 (s : State) (n : Fin 2) (x : Option Bytes) : State := s.modLop fun l => { l with rs485 := l.rs485.set n x }

/-- The octets of a transfer after its address character, known once the length field has come: the frame and, for LOP2, its CRC-32C
(R80). -/
def transferLength (b : Bytes) : Option Nat := (frameLength b).map fun n => if leAt b 0 1 = 2 then n + 4 else n

/-- A transfer is whole: the CRC-32C of a LOP2 frame is checked, then the frame arrives (R80, R81). -/
def State.rs485Whole (s : State) (n : Fin 2) (b : Bytes) : State :=
  let v : Via := ⟨3 + n, false, 0, 0⟩
  let f := b.take (b.length - 4)
  if leAt b 0 1 = 2 then
    (if crc32c f = leAt b (b.length - 4) 4 then s.arrive v f else s.count Obj.LOREF_RS485_ERR)
  else s.arrive v b

/-- One more octet of a transfer in progress: it ends where its length field says; a VER of neither protocol, or a frame beyond the limit, is
discarded at once (R76, R80). -/
def State.rs485Octet (s : State) (n : Fin 2) (b : Bytes) : State :=
  let s1 := s.setRs485 n none
  if leAt b 0 1 ≠ 1 ∧ leAt b 0 1 ≠ 2 then s1.count Obj.LOREF_FORMAT_ERR
  else match transferLength b with
    | none => s.setRs485 n (some b)
    | some k =>
      if (if leAt b 0 1 = 2 then 1028 else 1024) < k then s1.count Obj.LOREF_FORMAT_ERR
      else if b.length < k then s.setRs485 n (some b)
      else s1.rs485Whole n b

/-- A character of a transfer on a UART that Loref owns: an address character starts one or is for another device, also amid a transfer
(DESIGN CHOICE, log entry 129); `gap` that it came more than 10 character times after the one before (R80, R81). -/
def State.rs485Char (s : State) (n : Fin 2) (e : Nat) (gap : Bool) : State :=
  let own := s.cfgN Obj.LOREF_RS485_ADDRESS
  if e.testBit 8 then s.setRs485 n (if e % 256 = own ∧ own ≠ 0 then some [] else none)
  else match s.lop.rs485[n] with
    | none => s
    | some b => if gap then (s.setRs485 n none).count Obj.LOREF_RS485_ERR else s.rs485Octet n (b ++ [BitVec.ofNat 8 e])

/-- A received character is counted and enters the receive FIFO, or the transfer of a UART that Loref owns (R525, R529 to R531). -/
def State.rxTake (s : State) (n : Fin 4) (e : Nat) (gap : Bool) : State :=
  let s1 := s.countEntry n e
  if s.uartLoref n then s1.rs485Char (finD n) e gap else s1.rxPush n e

/-- RS485_TRANSFER: characters without a gap among them, the last one ending now (R80 to R82). -/
def State.rs485Transfer (s : State) (n : Fin 2) (chars : List Nat) : State :=
  if !s.rs485On n then s
  else chars.foldl (fun (t : State) (c : Nat) => t.rxTake (uartOf n) (c % 512) false)
    (s.modUart (uartOf n) fun u => { u with rxEnd := s.mono })

def execRs485Transfer (n : Fin 2) (chars : List Nat) (s : State) : Answer State := .next (s.rs485Transfer n chars)

/-- RS485_GAP_TIMEOUT: the transfer in progress is discarded and counted (R81). -/
def State.rs485Gap (s : State) (n : Fin 2) : State :=
  if s.lop.rs485[n].isSome then (s.setRs485 n none).count Obj.LOREF_RS485_ERR else s

def execRs485GapTimeout (n : Fin 2) (s : State) : Answer State := .next (s.rs485Gap n)

/-- UART_CHARACTER: a character on RX of UARTn, by the samples of its line; `gap` is the gap check of R81 before it. It enters the receive
FIFO, belongs to a Loref transfer, or goes to the slow-clock receiver (R525 to R531, R535, R541, R542). -/
def State.uartChar (s : State) (n : Fin 4) (line : List Bool) (gap : Bool) : State :=
  if !s.domServes 1 then (if n.val = 0 ∧ s.uart.slowRx then s.slowChar line gap else s)
  else if s.rxDeaf n then s
  else match s.rxDecide n (s.uartFrame n) line with
    | none => s
    | some none => s.count (inst Obj.UART_COUNTS n) 7
    | some (some e) => (s.rxEnds n).rxTake n e gap

def execUartCharacter (n : Fin 4) (line : List Bool) (gap : Bool) (s : State) : Answer State := .next (s.uartChar n line gap)

/-- The buffered characters enter the receive path when UART0 is configured after a wake, or are discarded and counted (R542). -/
def State.wakeDrain (s : State) : State :=
  let w := s.uart.wake
  let s1 : State := { s with uart := { s.uart with wake := [], woken := false } }
  if !s1.uartRxOn 0 then (if w.isEmpty then s1 else s1.count (inst Obj.UART_COUNTS 0) 8 0 w.length)
  else w.foldl (fun (s : State) (x : Nat × Bool) => s.rxTake 0 x.1 x.2) s1

/-- SYS is on and configured: what the wake buffer holds follows (R542). -/
def State.woke (s : State) : State :=
  if s.uart.woken ∧ s.domServes 1 ∧ !s.start.bootDue ∧ 3 ≤ s.start.st then s.wakeDrain else s

/-- DOMAIN_EXIT (R443 to R451). -/
def execDomainExit (d : Fin 18) (counts : List Nat) (s : State) : Answer State := .next (s.domainExit d counts).woke.settled

/-! ### LOP2 and LOP1 frames by the way that they name -/

/-- An authenticated request frame (R51). -/
def lop2Octets (op : Nat) (f : SecFrame) : Bytes :=
  lop2Head op f.cipher.length f.session f.seq ++ f.cipher ++ (f.tag ++ List.replicate 16 0).take 16

/-- An OPEN frame (R594). -/
def openOctets (session seq : Nat) (payload : Bytes) : Bytes := lop2Head 0x10 payload.length session seq ++ payload

/-- A LOP1 request frame with a CRC (R72). -/
def lop1Octets (op index status : Nat) (value : Bytes) (crc : Nat) : Bytes := lop1Body op index status value ++ natLe 2 crc

/-- A frame by the transport of its way: the mailbox, or its port's own rules met (Table OD-7). -/
def State.transfer (s : State) (v : Via) (b : Bytes) : State :=
  let lop1 := leAt b 0 1 == 1
  let port := s.cfgN (if lop1 then Obj.LOREF_UDP_PORT1 else Obj.LOREF_UDP_PORT2)
  match v.transport with
  | 0 => s.bar0Access 2 fun s => s.mailbox b.length b
  | 1 => s.udpFrame 0 v.v6 false v.addr v.port port b
  | 2 => s.udpFrame 1 v.v6 false v.addr v.port port b
  | 3 => s.rs485Transfer 0 (rs485Chars (s.cfgN Obj.LOREF_RS485_ADDRESS) lop1 b)
  | 4 => s.rs485Transfer 1 (rs485Chars (s.cfgN Obj.LOREF_RS485_ADDRESS) lop1 b)
  | _ => s

/-- READ (R54, R57). -/
def execRead (v : Via) (f : SecFrame) (s : State) : Answer State := .next (s.transfer v (lop2Octets 0x01 f))

/-- WRITE (R56, R58, R59). -/
def execWrite (v : Via) (f : SecFrame) (s : State) : Answer State := .next (s.transfer v (lop2Octets 0x02 f))

/-- INFO (R62). -/
def execInfo (v : Via) (f : SecFrame) (s : State) : Answer State := .next (s.transfer v (lop2Octets 0x03 f))

/-- OPEN (R594). -/
def execOpen (v : Via) (session seq : Nat) (payload : Bytes) (s : State) : Answer State :=
  .next (s.transfer v (openOctets session seq payload))

/-- AUTH (R595). -/
def execAuth (v : Via) (f : SecFrame) (s : State) : Answer State := .next (s.transfer v (lop2Octets 0x11 f))

/-- CLOSE (R596). -/
def execClose (v : Via) (f : SecFrame) (s : State) : Answer State := .next (s.transfer v (lop2Octets 0x12 f))

/-- LOP1_READ (R73). -/
def execLop1Read (v : Via) (index status : Nat) (value : Bytes) (crc : Nat) (s : State) : Answer State :=
  .next (s.transfer v (lop1Octets 1 index status value crc))

/-- LOP1_WRITE (R74). -/
def execLop1Write (v : Via) (index status : Nat) (value : Bytes) (crc : Nat) (s : State) : Answer State :=
  .next (s.transfer v (lop1Octets 2 index status value crc))

/-! ### BAR0 (R493, R494, R496, R500, Table HP-1) -/

/-- A BAR0 write to a register with an effect of its own, in its island (Tables HP-2, HP-3, HP-6). -/
def State.bar0Act (s : State) (offset v : Nat) : State :=
  if offset = 0x14 then s.bar0Access 2 fun s => s.mailbox (v % 0x2000) []
  else if offset = 0x1C then s.bar0Access 2 fun s => s.irqClear v
  else if offset = 0x1000 then s.bar0Access 8 fun s => s.tsCapture v
  else if 0x4000 ≤ offset ∧ offset < 0x4060 then
    (if offset % 16 = 0 then s.bar0Access 2 fun s => s.doorbell (finD ((offset - 0x4000) / 16)) true v
    else if offset % 16 = 4 then s.bar0Access 2 fun s => s.doorbell (finD ((offset - 0x4000) / 16)) false v
    else s)
  else s

/-- BAR0_REGISTER_WRITE: a write of `width` bytes at an offset. Any other width or alignment is ignored and counted; reserved and read-only
offsets are ignored (R4, R493). -/
def State.bar0Write (s : State) (offset width v : Nat) : State :=
  if !s.barServes then s
  else if width ≠ 4 ∨ offset % 4 ≠ 0 then s.count Obj.BAR0_BAD_ACCESS
  else if [0x2014, 0x2018, 0x2020, 0x2024, 0x2028, 0x202C].contains offset then s.bar0Issue 9 offset v
  else if offset = 0x20 ∨ (0x8000 ≤ offset ∧ offset < 0x8080) then s.bar0Issue 2 offset v
  else (s.bar0Act offset (v % 2 ^ 32)).settled

def execBar0RegisterWrite (offset width v : Nat) (s : State) : Answer State := .next (s.bar0Write offset width v)

/-- A captured time base in the registers of Table HP-3: TS96 as nanoseconds, seconds and fraction, then its flags and state. -/
def captureReg (t flags st : Nat) (k : Nat) : Nat :=
  match k with
  | 0 => t / 2 ^ 16 % 2 ^ 32
  | 1 => t / 2 ^ 48 % 2 ^ 32
  | 2 => t / 2 ^ 80 + t % 2 ^ 16 * 2 ^ 16
  | _ => flags + st * 2 ^ 8

/-- The capture block (Table HP-3); nothing before the first capture. -/
def State.captureBlock (s : State) (offset : Nat) : Nat :=
  let x := fun (k : Nat) => (s.host.capture[k]?).getD 0
  if s.host.capture = [] then 0
  else if offset = 0x1000 then 0x100 + x 0 * 2 ^ 16
  else if offset = 0x1008 then x 1 % 2 ^ 32
  else if offset = 0x100C then x 1 / 2 ^ 32
  else if 0x1010 ≤ offset ∧ offset < 0x1060 then
    let n := (offset - 0x1010) / 16
    captureReg (x (2 + 3 * n)) (x (3 + 3 * n)) (x (4 + 3 * n)) ((offset - 0x1010) / 4 % 4)
  else 0

/-- The RTC block (Table AO-2). -/
def State.rtcBlock (s : State) (offset : Nat) : Nat :=
  let a := s.aon
  if offset < 0x2014 then s.groupReg ((offset - 0x2000) / 4)
  else if offset = 0x2014 then s.rtcStatus
  else if offset = 0x2018 then s.cfgN Obj.RTC_HALT + 2 * s.cfgN Obj.RTC_ALARM_ENABLE + 4 * s.cfgN Obj.RTC_ALARM_WAKE
  else if offset = 0x2020 then a.setTime
  else if offset = 0x2024 then a.setDate
  else if offset = 0x2028 then a.alarmTime
  else if offset = 0x202C then a.alarmDate
  else 0

/-- The fault summary (Table HP-4). -/
def State.faultBlock (s : State) (offset : Nat) : Nat :=
  if offset = 0x3000 then ((List.range 15).map fun n => bitIf (s.isHeld (n + 1)) (n + 1)).sum
  else if offset = 0x3004 then s.flt.recCount % 2 ^ 32
  else if offset = 0x3008 then s.flt.nextSeq % 2 ^ 32
  else if offset = 0x300C then (match s.flt.records.head? with | some r => r.code | none => 0)
  else if offset = 0x3010 then ((List.finRange 8).map fun (n : Fin 8) => s.eng[n].st * 4 ^ n.val).sum
  else if offset = 0x3014 then ((List.finRange 18).map fun (d : Fin 18) => bitIf (s.domOn d) d).sum
  else 0

/-- The doorbell block (Table HP-6). -/
def State.ringBlock (s : State) (offset : Nat) : Nat :=
  let r := s.host.ring[(finD ((offset - 0x4000) / 16) : Fin 6)]
  match (offset - 0x4000) / 4 % 4 with
  | 0 => r.prod
  | 1 => r.cons
  | 2 => r.st + r.error * 2 ^ 8 + min 65535 r.fill * 2 ^ 16
  | _ => 0

/-- What a 32-bit read of a BAR0 register returns (Tables HP-1 to HP-6, AO-2): a view of the state. The reads that do something are commands
of their own (BAR0_FENCE_READ, RTC_SUBSEC_READ, RTC_TICK_HI_READ). Reserved offsets read 0 (R4). -/
def State.bar0Reg (s : State) (offset : Nat) : Nat :=
  if offset = 0x00 then 0x4160B102
  else if offset = 0x04 then s.fw.otp.eui % 2 ^ 32
  else if offset = 0x08 then s.fw.otp.eui / 2 ^ 32
  else if offset = 0x0C then s.start.st + (if s.start.st = 4 then 16 else 0) + s.start.flags * 2 ^ 16
  else if offset = 0x18 then (if s.lop.mbxBusy then 1 else 0) + ((s.host.bar0.find? fun x => x.1 == 0x18).map fun x => x.2).getD 0
  else if offset = 0x1C then s.host.irqStatus
  else if offset = 0x20 then s.host.irqEnable
  else if 0x1000 ≤ offset ∧ offset < 0x2000 then s.captureBlock offset
  else if 0x2000 ≤ offset ∧ offset < 0x2030 then s.rtcBlock offset
  else if 0x3000 ≤ offset ∧ offset < 0x4000 then s.faultBlock offset
  else if 0x4000 ≤ offset ∧ offset < 0x4060 then s.ringBlock offset
  else if 0x8000 ≤ offset ∧ offset < 0x8080 then ((s.host.bar0.find? fun x => x.1 == offset).map fun x => x.2).getD 0
  else 0

/-- A read of BAR0: one of another size or alignment returns all ones and is counted (R493); nothing is read before the endpoint answers
configuration requests (R101, R494). -/
def State.bar0Read (s : State) (offset width : Nat) : Option Nat × State :=
  if !s.barServes then (none, s)
  else if width ≠ 4 ∨ offset % 4 ≠ 0 then (some 0xFFFFFFFF, s.count Obj.BAR0_BAD_ACCESS)
  else (some (s.bar0Reg offset), s)

/-! ### Time limits of sessions (R65) -/

/-- PENDING_SESSION_TIMEOUT: not authenticated within 5 s of its OPEN response. -/
def State.pendingTimeout (s : State) (id : Nat) : State :=
  match s.session id with
  | none => s
  | some x => if x.auth then s else (s.toMono (x.openedAt + 5 * secHalfNs)).endSession id

def execPendingSessionTimeout (id : Nat) (s : State) : Answer State := .next (s.pendingTimeout id)

/-- SESSION_IDLE_EXPIRY: no accepted frame for SESSION_IDLE_TIMEOUT. -/
def State.idleExpiry (s : State) (id : Nat) : State :=
  match s.authSession id with
  | none => s
  | some x => (s.toMono (x.lastAt + s.cfgN Obj.SESSION_IDLE_TIMEOUT * secHalfNs)).endSession id

def execSessionIdleExpiry (id : Nat) (s : State) : Answer State := .next (s.idleExpiry id)

end Sys2Proof.Machine
end

