-- ==== Sys2Proof/Machine/Startup.lean ====
section
/-!
DEFINITION. The start-up sequence and its failures (03_startup_and_firmware.md R96 to R105, R113).
-/

namespace Sys2Proof.Machine

/-! ### Steps (Table SU-2, Table SU-3) -/

/-- The recovery state (R105): no engine, no bundle. The boot ROM restores the roots and serves the mailbox. -/
def State.recovery (s : State) : State :=
  let s1 := (List.finRange 18).foldl (fun (s : State) (d : Fin 18) => if 5 ≤ d.val then s.cutDomain d else s) s
  let s2 : State := { s1 with eng := s1.eng.map fun e => { e with st := 0 } }
  let s3 := s2.modStart fun x => { x with st := 5, bundle := 0xFF, trial := false, qual := none, cfgServed := true }
  s3.restoreRoots.serveWaiting

/-- An OTP check fails: OTP_FAULT names the field, START_FLAGS bit 5 (R104). -/
def State.otpFault (s : State) (bad : Bool) (field : Nat) : State :=
  if bad then (s.raise Ev.OTP_FAULT 0xFF field).startFlag 5 else s

/-- No firmware key digest passes its check. -/
def State.noDigest (s : State) : Bool := s.fw.otp.digestOk.all fun b => !b

/-- Start-up from the OTP step to the reference qualification (R96, R104, R108). `jedec` is the flash's identification and size, none
when three attempts bring no valid one. -/
def State.bootSteps (s : State) (jedec : Option (Nat × Nat)) : State :=
  let s1 := s.otpFault (s.lockState == 2) 1
  let s2 := s1.otpFault s1.noDigest 2
  let s3 := s2.otpFault (!s2.fw.otp.deviceRootOk || !s2.fw.otp.identityOk) 3
  if s3.noDigest then s3.recovery
  else match jedec with
    | none =>
      (({ s3 with port := { s3.port with flashSt := 2, jedec := 0, flashSize := 0 }, fw := { s3.fw with jedecOk := false } } : State).raise
        Ev.FLASH_FAULT).recovery
    | some (id, size) =>
      let s4 : State := { s3 with
        port := { s3.port with flashSt := 1, jedec := id, flashSize := size }, fw := { s3.fw with jedecOk := true } }
      let s5 := if s4.curDir.isNone then s4.raise Ev.BUNDLE_INVALID 0xFF 9 else s4
      s5.modStart fun x => { x with qual := some .startUp, qualAt := s5.mono }

/-- Reset release: RESET_CAUSE takes every source that was active, the pins are sampled (R86, R92). -/
def State.resetRelease (s : State) (pins refSel : Nat) : State :=
  (s.modStart fun x => { x with
    inReset := false, sources := 0, cause := x.sources ||| (if x.perst then 16 else 0)
    profPins := pins % 4, refSel := refSel % 2, releasedAt := s.mono }).aonDrain

/-- A boot after SYS was off: from the OTP step, with RESET_CAUSE and the pins as they are; the running configuration has not survived,
SEC, MEM and HOST are on (R103, R113, Table PW-5a). -/
def State.sysBoot (s : State) : State :=
  let t := s.modStart fun x => { x with
    bootDue := false, clock := 0, flags := 0, bundle := 0xFF, trial := false, releasedAt := s.mono, st := 0 }
  let s1 : State := { t with
    fw := { t.fw with trialEnd := none }
    cfg := t.cfg.filter fun x => keepsInReset x.1 || x.1 == Obj.PW_TARGET }
  [(2 : Fin 18), 3, 4].foldl (fun (s : State) (d : Fin 18) =>
    let s := s.setTarget d 2
    if (s.dom d).st = 2 then s
    else ((s.modDom d fun x => { x with st := 2, step := 0, held := none, valid := false, former := none }).domainUp d true)) s1

/-- STARTUP_SEQUENCE: at reset release, or after SYS has turned on from off (R96, Table PW-5a). -/
def State.startup (s : State) (pins refSel : Nat) (jedec : Option (Nat × Nat)) : State :=
  if s.start.inReset then
    (if s.start.thermalHeld then s else (s.resetRelease pins refSel).bootSteps jedec)
  else if s.start.bootDue then s.sysBoot.bootSteps jedec
  else s

def execStartupSequence (pins refSel : Nat) (jedec : Option (Nat × Nat)) (s : State) : Answer State :=
  .next (s.startup pins refSel jedec).settled

/-! ### Bundle, engines, external memory, profile -/

/-- Fault records are reloaded from flash; a record that only the AON registers hold is written again (R553, Table FT-5). -/
def State.reloadRecords (s : State) : State :=
  s.modFlt fun x =>
    let lost := match x.aonCopy with
      | some r => if x.recFlash.any fun y => y.seq == r.seq then [] else [r]
      | none => []
    { x with records := (lost ++ x.recFlash).take 64, recPending := lost }

/-- The engines start, those of a mask fail to start within 20 ms (R19, R22, R104, Table SU-2). -/
def State.enginesStart (s : State) (failed : Nat) : State :=
  let s1 : State := { s with eng := s.eng.map fun e => { e with st := 1 } }
  (List.finRange 8).foldl (fun (s : State) (n : Fin 8) => if failed.testBit n then s.watchdog n else s) s1

/-- Profile selection and load (R85, R86, R97); the buffered UART0 characters follow, and the waiting requests (R101, R542). -/
def State.profileStep (s : State) : State :=
  let s1 := s.modStart fun x => { x with st := 3 }
  let r := s1.loadProfile s1.bootProfile
  let s2 := if r.1 then r.2 else r.2.startFlag 2
  s2.wakeDrain.serveWaiting

/-- External memory training begins. -/
def State.trainStart (s : State) : State :=
  { s with port := { s.port with ddr := 1 }, start := { s.start with ddrTraining := true, ddrTries := 0 } }

/-- The reference has qualified or not, at a start-up: WAKE_FAIL with cause OSCILLATOR, no external memory; then bundle selection, Paddock,
engines (R97, R98, R104, R112, R427, R476). -/
def State.qualified (s : State) (ok : Bool) (badRead failed : Nat) : State :=
  let s1 := s.modStart fun x => { x with qual := none, st := 1 }
  let s2 := if ok then s1.clockOn
    else ((((s1.lastFail 0xFF 1 2).raise Ev.WAKE_FAIL 0xFF 2).startFlag 0).startFlag 1)
  let r := s2.selectBundle badRead
  if !r.1 then r.2.recovery
  else
    let s3 := r.2.modStart fun x => { x with st := 2, cfgServed := true }
    let s4 := [(0 : Fin 4), 1, 2, 3].foldl (fun (s : State) (i : Fin 4) => s.checkBank i) s3
    let s5 := (s4.enginesStart failed).restoreRoots.reloadRecords
    if ok then s5.trainStart else s5.profileStep

/-- A qualification of CLOCK_RETRY ends: the islands move to the PLLs and memory is trained, or nothing changes (R99). -/
def State.retried (s : State) (ok : Bool) : State :=
  let s1 := s.modStart fun x => { x with qual := none }
  if !ok then s1.setAct Obj.CLOCK_RETRY 0x12
  else
    let s2 := (if s1.start.clock = 0 then s1.clockOn else s1).setAct Obj.CLOCK_RETRY 0
    if s2.port.ddr ≠ 2 ∧ s2.domOn 3 then s2.trainStart else s2

/-- When a qualification with these window counts ends: with its 32nd passing window of 10 µs in a row, or after 5 ms (R98). -/
def State.qualEndAt (s : State) (counts : List Nat) : HalfNs :=
  s.start.qualAt + ((qualifiedAt s.start.refSel counts).getD 500) * 10 * usHalfNs

/-- REF_QUALIFICATION_END: after 32 passing windows in a row, or after 5 ms without (R98, R99). `counts` are the edges of the measurement
windows; `badRead` holds a bit per bundle slot whose flash read fails, `failed` one per engine that does not start. -/
def State.refQualEnd (s : State) (counts : List Nat) (badRead failed : Nat) : State :=
  let ok := (qualifiedAt s.start.refSel counts).isSome
  match s.start.qual with
  | some .startUp => (s.toMono (s.qualEndAt counts)).qualified ok badRead failed
  | some .retry => (s.toMono (s.qualEndAt counts)).retried ok
  | none => s

def execRefQualificationEnd (counts : List Nat) (badRead failed : Nat) (s : State) : Answer State :=
  .next (s.refQualEnd counts badRead failed).settled

/-- What follows training at a start-up: the profile. -/
def State.afterTraining (s : State) : State := if s.start.st = 2 then s.profileStep else s

/-- DDR_TRAINING_ATTEMPT_END: in service with size and ranks, or another attempt; after three, DDR_TRAIN_FAIL and no external memory
(R104). -/
def State.ddrEnd (s : State) (ok : Bool) (size ranks : Nat) : State :=
  if !s.start.ddrTraining then s
  else if ok then
    ({ s with
      port := { s.port with ddr := 2, ddrSize := size, ddrRanks := ranks }
      start := { s.start with ddrTraining := false, ddrTries := s.start.ddrTries + 1 } } : State).afterTraining
  else if s.start.ddrTries + 1 < 3 then s.modStart fun x => { x with ddrTries := x.ddrTries + 1 }
  else
    let s1 : State := { s with
      port := { s.port with ddr := 3 }, start := { s.start with ddrTraining := false, ddrTries := 3 } }
    let s2 := s1.raise Ev.DDR_TRAIN_FAIL 0xFF 3
    (if s2.start.st = 2 then s2.startFlag 1 else s2).afterTraining

def execDdrTrainingAttemptEnd (ok : Bool) (size ranks : Nat) (s : State) : Answer State := .next (s.ddrEnd ok size ranks).settled

/-- START_DONE: every domain that the profile turns on has reported on or refused; the chip is in service, and the count of a trial
begins (R96, R102, R118). -/
def State.startDone (s : State) : State :=
  if s.start.st ≠ 3 ∨ s.pwr.dom.any (fun x => x.st == 4) then s
  else
    let us := (s.mono - s.start.releasedAt) / usHalfNs
    let s1 := s.modStart fun x => { x with st := 4, startTime := us % 2 ^ 32 }
    let s2 := (s1.raise Ev.START_DONE 0xFF s1.start.flags s1.start.startTime).setIrq 4
    if s2.start.trial then s2.modFw fun x => { x with trialEnd := some (s2.mono + s2.dir.trialTimeout * secHalfNs) } else s2

def execStartDone (s : State) : Answer State := .next s.startDone.settled

end Sys2Proof.Machine
end

