-- ==== Sys2Proof/Machine/Dispatch.lean ====
section
/-!
DEFINITION. The meaning of every command: one arm per constructor of `Instr`, each a direct call of its own meaning.
-/

namespace Sys2Proof.Machine

/-- The effect of a command on everything but the queue. -/
def exec (i : Instr) (s : State) : Host.Outcome State Fault Refusal :=
  match i with
  | .requestPromotion region who cls => Sys2Proof.Machine.execRequestPromotion region who cls s
  | .errorDetected region block cell level ok => Sys2Proof.Machine.execErrorDetected region block cell level ok s
  | .containmentEscalation n ok => Sys2Proof.Machine.execContainmentEscalation n ok s
  | .engineWatchdogExpiry n => Sys2Proof.Machine.execEngineWatchdogExpiry n s
  | .supWatchdogExpiry => Sys2Proof.Machine.execSupWatchdogExpiry s
  | .engineRestartDone n => Sys2Proof.Machine.execEngineRestartDone n s
  | .islandWriteComplete w => Sys2Proof.Machine.execIslandWriteComplete w s
  | .aonWriteAdmitted => Sys2Proof.Machine.execAonWriteAdmitted s
  | .fence who => Sys2Proof.Machine.execFence who s
  | .bar0FenceRead => Sys2Proof.Machine.execBar0FenceRead s
  | .read v f => Sys2Proof.Machine.execRead v f s
  | .write v f => Sys2Proof.Machine.execWrite v f s
  | .info v f => Sys2Proof.Machine.execInfo v f s
  | .openSession v session seq payload => Sys2Proof.Machine.execOpen v session seq payload s
  | .auth v f => Sys2Proof.Machine.execAuth v f s
  | .close v f => Sys2Proof.Machine.execClose v f s
  | .pendingSessionTimeout id => Sys2Proof.Machine.execPendingSessionTimeout id s
  | .sessionIdleExpiry id => Sys2Proof.Machine.execSessionIdleExpiry id s
  | .requestWaitTimeout i0 => Sys2Proof.Machine.execRequestWaitTimeout i0 s
  | .lop1Read v index status value crc => Sys2Proof.Machine.execLop1Read v index status value crc s
  | .lop1Write v index status value crc => Sys2Proof.Machine.execLop1Write v index status value crc s
  | .mbxDoorbell length area => Sys2Proof.Machine.execMbxDoorbell length area s
  | .lorefUdpDatagram e v6 frag addr source port data => Sys2Proof.Machine.execLorefUdpDatagram e v6 frag addr source port data s
  | .rs485Transfer n chars => Sys2Proof.Machine.execRs485Transfer n chars s
  | .rs485GapTimeout n => Sys2Proof.Machine.execRs485GapTimeout n s
  | .profileApply n => Sys2Proof.Machine.execProfileApply n s
  | .profileCommit n => Sys2Proof.Machine.execProfileCommit n s
  | .profileSave n => Sys2Proof.Machine.execProfileSave n s
  | .profileStoreDone ok => Sys2Proof.Machine.execProfileStoreDone ok s
  | .profileStage offset data => Sys2Proof.Machine.execProfileStage offset data s
  | .profileStageClear => Sys2Proof.Machine.execProfileStageClear s
  | .profileBootOverride v => Sys2Proof.Machine.execProfileBootOverride v s
  | .sessionEnd id => Sys2Proof.Machine.execSessionEnd id s
  | .aonPowerOn vbat => Sys2Proof.Machine.execAonPowerOn vbat s
  | .corePowerOn => Sys2Proof.Machine.execCorePowerOn s
  | .coreBrownOut => Sys2Proof.Machine.execCoreBrownOut s
  | .pinReset ns => Sys2Proof.Machine.execPinReset ns s
  | .pcieReset => Sys2Proof.Machine.execPcieReset s
  | .chipReset v => Sys2Proof.Machine.execChipReset v s
  | .thermalReset => Sys2Proof.Machine.execThermalReset s
  | .thermalResetRelease => Sys2Proof.Machine.execThermalResetRelease s
  | .supFailureReset => Sys2Proof.Machine.execSupFailureReset s
  | .trialTimeout => Sys2Proof.Machine.execTrialTimeout s
  | .startupSequence pins refSel jedec => Sys2Proof.Machine.execStartupSequence pins refSel jedec s
  | .refQualificationEnd counts badRead failed => Sys2Proof.Machine.execRefQualificationEnd counts badRead failed s
  | .ddrTrainingAttemptEnd ok size ranks => Sys2Proof.Machine.execDdrTrainingAttemptEnd ok size ranks s
  | .startDone => Sys2Proof.Machine.execStartDone s
  | .clockRetry v => Sys2Proof.Machine.execClockRetry v s
  | .pcieConfigRequest link master => Sys2Proof.Machine.execPcieConfigRequest link master s
  | .fwStageBegin len => Sys2Proof.Machine.execFwStageBegin len s
  | .fwStage offset data => Sys2Proof.Machine.execFwStage offset data s
  | .fwVerify v => Sys2Proof.Machine.execFwVerify v s
  | .fwActivate v => Sys2Proof.Machine.execFwActivate v s
  | .fwConfirm v => Sys2Proof.Machine.execFwConfirm v s
  | .rollbackAdvance v steps => Sys2Proof.Machine.execRollbackAdvance v steps s
  | .flashActionDone index ok => Sys2Proof.Machine.execFlashActionDone index ok s
  | .txCommand p r => Sys2Proof.Machine.execTxCommand p r s
  | .txAbort p handle => Sys2Proof.Machine.execTxAbort p handle s
  | .rxOn p => Sys2Proof.Machine.execRxOn p s
  | .rxOff p => Sys2Proof.Machine.execRxOff p s
  | .tune p khz frames => Sys2Proof.Machine.execTune p khz frames s
  | .calRequest p bits => Sys2Proof.Machine.execCalRequest p bits s
  | .txDue p => Sys2Proof.Machine.execTxDue p s
  | .txDeadline p rssi => Sys2Proof.Machine.execTxDeadline p rssi s
  | .txSetupStart p frames => Sys2Proof.Machine.execTxSetupStart p frames s
  | .txStart p => Sys2Proof.Machine.execTxStart p s
  | .txEnd p => Sys2Proof.Machine.execTxEnd p s
  | .turnRxEnd p => Sys2Proof.Machine.execTurnRxEnd p s
  | .lockAchieved p => Sys2Proof.Machine.execLockAchieved p s
  | .lockTimeout p => Sys2Proof.Machine.execLockTimeout p s
  | .synthLockLoss p => Sys2Proof.Machine.execSynthLockLoss p s
  | .calStepEnd p last pass val rx => Sys2Proof.Machine.execCalStepEnd p last pass val rx s
  | .txTimeout p => Sys2Proof.Machine.execTxTimeout p s
  | .rfTxRearm p v => Sys2Proof.Machine.execRfTxRearm p v s
  | .dieTempMeasurement t => Sys2Proof.Machine.execDieTempMeasurement t s
  | .regLockProgram r => Sys2Proof.Machine.execRegLockProgram r s
  | .frameReceived f => Sys2Proof.Machine.execFrameReceived f s
  | .legacyFrameReceived f => Sys2Proof.Machine.execLegacyFrameReceived f s
  | .superframeEdge => Sys2Proof.Machine.execSuperframeEdge s
  | .nbrBeaconWindowEnd relay i0 => Sys2Proof.Machine.execNbrBeaconWindowEnd relay i0 s
  | .nbrSupervisionExpiry relay i0 => Sys2Proof.Machine.execNbrSupervisionExpiry relay i0 s
  | .neighbourBeacon => Sys2Proof.Machine.execNeighbourBeacon s
  | .listenWindowEnd f retry => Sys2Proof.Machine.execListenWindowEnd f retry s
  | .assocReq => Sys2Proof.Machine.execAssocReq s
  | .disassoc => Sys2Proof.Machine.execDisassoc s
  | .chmapAck => Sys2Proof.Machine.execChmapAck s
  | .hostDataFrame => Sys2Proof.Machine.execHostDataFrame s
  | .keepAlive => Sys2Proof.Machine.execKeepAlive s
  | .alertResponse => Sys2Proof.Machine.execAlertResponse s
  | .ackReceived => Sys2Proof.Machine.execAckReceived s
  | .replyWindowEnd id => Sys2Proof.Machine.execReplyWindowEnd id s
  | .linkSupervisionTimeout f => Sys2Proof.Machine.execLinkSupervisionTimeout f s
  | .linkRemove f => Sys2Proof.Machine.execLinkRemove f s
  | .meshChmapWrite p first v => Sys2Proof.Machine.execMeshChmapWrite p first v s
  | .txnBooking id => Sys2Proof.Machine.execTxnBooking id s
  | .txnDeadline id => Sys2Proof.Machine.execTxnDeadline id s
  | .linkTxnCancel id => Sys2Proof.Machine.execLinkTxnCancel id s
  | .dutyBucketRoll b => Sys2Proof.Machine.execDutyBucketRoll b s
  | .flockCfgWrite f v => Sys2Proof.Machine.execFlockCfgWrite f v s
  | .flockRestore f v => Sys2Proof.Machine.execFlockRestore f v s
  | .flockPrefetch => Sys2Proof.Machine.execFlockPrefetch s
  | .flockFetchDone f => Sys2Proof.Machine.execFlockFetchDone f s
  | .flockFetchLate f => Sys2Proof.Machine.execFlockFetchLate f s
  | .flockKeyWrap v => Sys2Proof.Machine.execFlockKeyWrap v s
  | .delivery d x dmaOk => Sys2Proof.Machine.execDelivery d x dmaOk s
  | .heldRequestDeadline id => Sys2Proof.Machine.execHeldRequestDeadline id s
  | .chorusAttempt id => Sys2Proof.Machine.execChorusAttempt id s
  | .flImageBegin v => Sys2Proof.Machine.execFlImageBegin v s
  | .flImageStage offset data => Sys2Proof.Machine.execFlImageStage offset data s
  | .flImageVerify n => Sys2Proof.Machine.execFlImageVerify n s
  | .flCampaignStart n => Sys2Proof.Machine.execFlCampaignStart n s
  | .flCampaignStop n => Sys2Proof.Machine.execFlCampaignStop n s
  | .campaignBlock n => Sys2Proof.Machine.execCampaignBlock n s
  | .gnEnableWrite v => Sys2Proof.Machine.execGnEnableWrite v s
  | .grfCalItemEnd b ok value => Sys2Proof.Machine.execGrfCalItemEnd b ok value s
  | .agcUpdate g0 g1 => Sys2Proof.Machine.execAgcUpdate g0 g1 s
  | .antBiasMeasurement ma => Sys2Proof.Machine.execAntBiasMeasurement ma s
  | .antRetryExpiry => Sys2Proof.Machine.execAntRetryExpiry s
  | .notchEvaluation b spectrum fine => Sys2Proof.Machine.execNotchEvaluation b spectrum fine s
  | .blankIntervalEnd b samples => Sys2Proof.Machine.execBlankIntervalEnd b samples s
  | .jamIndicatorUpdate b corr => Sys2Proof.Machine.execJamIndicatorUpdate b corr s
  | .nimbusInterval => Sys2Proof.Machine.execNimbusInterval s
  | .acqJobDone sig sv power again elev => Sys2Proof.Machine.execAcqJobDone sig sv power again elev s
  | .nimbAutoOff => Sys2Proof.Machine.execNimbAutoOff s
  | .channelRelease n => Sys2Proof.Machine.execChannelRelease n s
  | .reacqExpiry sig sv => Sys2Proof.Machine.execReacqExpiry sig sv s
  | .loopOpenTimeout n => Sys2Proof.Machine.execLoopOpenTimeout n s
  | .ephemerisDecoded a => Sys2Proof.Machine.execEphemerisDecoded a s
  | .measurementEpoch a => Sys2Proof.Machine.execMeasurementEpoch a s
  | .hotstartSave => Sys2Proof.Machine.execHotstartSave s
  | .snapshotFragment sky => Sys2Proof.Machine.execSnapshotFragment sky s
  | .fragTimeout flock => Sys2Proof.Machine.execFragTimeout flock s
  | .nimbusJobStart => Sys2Proof.Machine.execNimbusJobStart s
  | .snapshotDeadline => Sys2Proof.Machine.execSnapshotDeadline s
  | .nimbusJobDone => Sys2Proof.Machine.execNimbusJobDone s
  | .snapshotSolution k a => Sys2Proof.Machine.execSnapshotSolution k a s
  | .snEnableWrite v => Sys2Proof.Machine.execSnEnableWrite v s
  | .ptpSync k origin corr => Sys2Proof.Machine.execPtpSync k origin corr s
  | .ptpAnnounce k m => Sys2Proof.Machine.execPtpAnnounce k m s
  | .ptpDelayReq k from_ seq corr => Sys2Proof.Machine.execPtpDelayReq k from_ seq corr s
  | .ptpDelayResp k t => Sys2Proof.Machine.execPtpDelayResp k t s
  | .ptpMessageTransmit k => Sys2Proof.Machine.execPtpMessageTransmit k s
  | .announceReceiptTimeout k => Sys2Proof.Machine.execAnnounceReceiptTimeout k s
  | .stepPendingEnd k => Sys2Proof.Machine.execStepPendingEnd k s
  | .pcsLatencyMeasured e latIn latOut => Sys2Proof.Machine.execPcsLatencyMeasured e latIn latOut s
  | .bellwetherTick => Sys2Proof.Machine.execBellwetherTick s
  | .sourceDisqualified => Sys2Proof.Machine.execSourceDisqualified s
  | .tbGnssStep => Sys2Proof.Machine.execTbGnssStep s
  | .steppedClear => Sys2Proof.Machine.execSteppedClear s
  | .tmHostTime t => Sys2Proof.Machine.execTmHostTime t s
  | .tmAcceptStep v => Sys2Proof.Machine.execTmAcceptStep v s
  | .tmCvPeer bs => Sys2Proof.Machine.execTmCvPeer bs s
  | .timePulseEdge n => Sys2Proof.Machine.execTimePulseEdge n s
  | .timePulseEnd n => Sys2Proof.Machine.execTimePulseEnd n s
  | .timeAnchorWrite rate => Sys2Proof.Machine.execTimeAnchorWrite rate s
  | .tsCapture v => Sys2Proof.Machine.execTsCapture v s
  | .slowClockLoss => Sys2Proof.Machine.execSlowClockLoss s
  | .slowClockReturn => Sys2Proof.Machine.execSlowClockReturn s
  | .slowClockStartTimeout => Sys2Proof.Machine.execSlowClockStartTimeout s
  | .calendarSecond => Sys2Proof.Machine.execCalendarSecond s
  | .autotrimMeasurement ticks => Sys2Proof.Machine.execAutotrimMeasurement ticks s
  | .supplySwitch vbat below => Sys2Proof.Machine.execSupplySwitch vbat below s
  | .holdupExpiry => Sys2Proof.Machine.execHoldupExpiry s
  | .vbatMeasurement mv => Sys2Proof.Machine.execVbatMeasurement mv s
  | .rtcSet v => Sys2Proof.Machine.execRtcSet v s
  | .rtcSetDate w => Sys2Proof.Machine.execRtcSetDate w s
  | .rtcHalt b => Sys2Proof.Machine.execRtcHalt b s
  | .rtcCtrl w => Sys2Proof.Machine.execRtcCtrl w s
  | .rtcAlarm v => Sys2Proof.Machine.execRtcAlarm v s
  | .rtcAlarmEnable b => Sys2Proof.Machine.execRtcAlarmEnable b s
  | .rtcAlarmDate w => Sys2Proof.Machine.execRtcAlarmDate w s
  | .rtcSubsecRead => Sys2Proof.Machine.execRtcSubsecRead s
  | .rtcTickHiRead => Sys2Proof.Machine.execRtcTickHiRead s
  | .shadowExpired => Sys2Proof.Machine.execShadowExpired s
  | .rtcSyncWrite => Sys2Proof.Machine.execRtcSyncWrite s
  | .paddockClear m => Sys2Proof.Machine.execPaddockClear m s
  | .pwTarget d v => Sys2Proof.Machine.execPwTarget d v s
  | .quiesceEnd d lanes => Sys2Proof.Machine.execQuiesceEnd d lanes s
  | .quiesceTimeout d => Sys2Proof.Machine.execQuiesceTimeout d s
  | .saveStepStart => Sys2Proof.Machine.execSaveStepStart s
  | .switchStepStart => Sys2Proof.Machine.execSwitchStepStart s
  | .entryConfirm d => Sys2Proof.Machine.execEntryConfirm d s
  | .entryConfirmTimeout d => Sys2Proof.Machine.execEntryConfirmTimeout d s
  | .domainExit d counts => Sys2Proof.Machine.execDomainExit d counts s
  | .exitConfirmTimeout d => Sys2Proof.Machine.execExitConfirmTimeout d s
  | .wakeEvent src => Sys2Proof.Machine.execWakeEvent src s
  | .referenceLoss => Sys2Proof.Machine.execReferenceLoss s
  | .keyDerivationDone => Sys2Proof.Machine.execKeyDerivationDone s
  | .drbgReseed => Sys2Proof.Machine.execDrbgReseed s
  | .entropyTestFail => Sys2Proof.Machine.execEntropyTestFail s
  | .secRootLoad slot form key => Sys2Proof.Machine.execSecRootLoad slot form key s
  | .rootStoreWriteDone ok => Sys2Proof.Machine.execRootStoreWriteDone ok s
  | .secRootErase m => Sys2Proof.Machine.execSecRootErase m s
  | .secNextKeyWrap n => Sys2Proof.Machine.execSecNextKeyWrap n s
  | .secDistrictSwitch a => Sys2Proof.Machine.execSecDistrictSwitch a s
  | .sealLoopBit agrees => Sys2Proof.Machine.execSealLoopBit agrees s
  | .tamperAlarm bit => Sys2Proof.Machine.execTamperAlarm bit s
  | .secZeroise v => Sys2Proof.Machine.execSecZeroise v s
  | .secTamperClear m => Sys2Proof.Machine.execSecTamperClear m s
  | .secAttestRequest nonce => Sys2Proof.Machine.execSecAttestRequest nonce s
  | .attestReportReady => Sys2Proof.Machine.execAttestReportReady s
  | .presencePress jumper ms => Sys2Proof.Machine.execPresencePress jumper ms s
  | .presStuck => Sys2Proof.Machine.execPresStuck s
  | .presenceWindowExpiry => Sys2Proof.Machine.execPresenceWindowExpiry s
  | .secPresClose => Sys2Proof.Machine.execSecPresClose s
  | .irqStatusWrite m => Sys2Proof.Machine.execIrqStatusWrite m s
  | .ringDoorbell n isProd v => Sys2Proof.Machine.execRingDoorbell n isProd v s
  | .ringCfgWrite n v bar2 => Sys2Proof.Machine.execRingCfgWrite n v bar2 s
  | .legacyTx d x dmaOk => Sys2Proof.Machine.execLegacyTx d x dmaOk s
  | .buffer d dmaOk => Sys2Proof.Machine.execBuffer d dmaOk s
  | .ringModerationTimeout n => Sys2Proof.Machine.execRingModerationTimeout n s
  | .ethLinkChange e up => Sys2Proof.Machine.execEthLinkChange e up s
  | .ethFrame e f => Sys2Proof.Machine.execEthFrame e f s
  | .scrubPass fixed bad => Sys2Proof.Machine.execScrubPass fixed bad s
  | .flashOperationDone addr erase ok suspends => Sys2Proof.Machine.execFlashOperationDone addr erase ok suspends s
  | .archivePageWrite ok => Sys2Proof.Machine.execArchivePageWrite ok s
  | .summarySecondEnd => Sys2Proof.Machine.execSummarySecondEnd s
  | .faultRelease v => Sys2Proof.Machine.execFaultRelease v s
  | .faultClear v => Sys2Proof.Machine.execFaultClear v s
  | .uartCharacter n line gap => Sys2Proof.Machine.execUartCharacter n line gap s
  | .uartBreak n => Sys2Proof.Machine.execUartBreak n s
  | .uartStuck n => Sys2Proof.Machine.execUartStuck n s
  | .uartLineOk n => Sys2Proof.Machine.execUartLineOk n s
  | .uartRxIdle n => Sys2Proof.Machine.execUartRxIdle n s
  | .uartRxData n element k => Sys2Proof.Machine.execUartRxData n element k s
  | .uartTxData n v => Sys2Proof.Machine.execUartTxData n v s
  | .deTailExpiry n => Sys2Proof.Machine.execDeTailExpiry n s
  | .bar0RegisterWrite offset width v => Sys2Proof.Machine.execBar0RegisterWrite offset width v s
  | .dwellBucketRoll b ch => Sys2Proof.Machine.execDwellBucketRoll b ch s
  | .offsetHistoryEntry => Sys2Proof.Machine.execOffsetHistoryEntry s
  | .coherentIntervalEnd n cn0 pli half period => Sys2Proof.Machine.execCoherentIntervalEnd n cn0 pli half period s
  | .catchUpSecond => Sys2Proof.Machine.execCatchUpSecond s
  | .saveStepEnd => Sys2Proof.Machine.execSaveStepEnd s
  | .tamperSourceInactive bit => Sys2Proof.Machine.execTamperSourceInactive bit s
  | .entropyRecovery => Sys2Proof.Machine.execEntropyRecovery s
  | .perstNDeassertion => Sys2Proof.Machine.execPerstNDeassertion s
  | .ctsNChange n low => Sys2Proof.Machine.execCtsNChange n low s
  | .uartCharacterSent n => Sys2Proof.Machine.execUartCharacterSent n s
  | .testAccessPortInstruction code data => Sys2Proof.Machine.execTestAccessPortInstruction code data s

end Sys2Proof.Machine
end

