-- ==== Sys2Proof/Machine/Idle.lean ====
section
/-!
DEFINITION. What the block does by itself when no command waits: time passes, and what has been waiting for the present state goes on (log
entry 15).
-/

namespace Sys2Proof.Machine

/-- An idle step: 0.5 ns pass; calibration runs that may start do (R132, R147), each arbiter grants one request (R11, R12), held work of a
domain that has turned on is released (R49), and the characters of the wake buffer follow once UART0 is configured (R542). -/
def State.idle (s : State) : State := s.tick.startCals.grants.releases.woke

end Sys2Proof.Machine
end

