-- ==== Sys2Proof/Safety.lean ====
section
/-!
DEFINITION. What the claims call a sound state: the stores of object values in their canonical form, the session limits, and a step that
does not stop.
-/

namespace Sys2Proof.Machine

/-- The keys of a list of pairs rise strictly, starting above a bound. -/
def rising {β : Type} : Option Nat → List (Nat × β) → Bool
  | _, [] => true
  | none, (k, _) :: m => rising (some k) m
  | some j, (k, _) :: m => decide (j < k) && rising (some k) m

/-- The canonical form of a store of object values: strictly rising indices, no entry equal to its object's default. -/
def Store.wf (m : Store) : Bool := rising none m && m.all fun x => x.2 != dfltOf x.1

/-- The canonical form of a list of numbers by index: strictly rising indices, none zero. -/
def numsWf (m : List (Nat × Nat)) : Bool := rising none m && m.all fun x => x.2 != 0

/-- All four stores are in canonical form: settings, reported values, revisions, action statuses. -/
def State.storesWf (s : State) : Bool := s.cfg.wf && s.ro.wf && numsWf s.rev && numsWf s.act

/-- Session identifiers are non-zero and differ, at most 8 sessions are authenticated and at most 4 pending (R63, R594). -/
def State.sessionsWf (s : State) : Bool :=
  decide ((s.lop.sessions.map (·.id)).Nodup) && s.lop.sessions.all (fun x => x.id != 0)
    && decide (s.authCount ≤ 8) && decide (s.pendingCount ≤ 4)

/-- The limits of the lists that the block keeps: 4,096 event log entries and 16 MiB of archive entries (R549), 64 fault records on chip and
4,096 in flash (R552), 4,096 derived keys (R467), 16,384 cached Flock records (R261), eight events and four writes in AON (R414, R32). -/
def State.boundsWf (s : State) : Bool :=
  decide (s.flt.log.length ≤ 4096) && decide (s.flt.archive.length ≤ 524288) && decide (s.flt.records.length ≤ 64)
    && decide (s.flt.recFlash.length ≤ 4096) && decide (s.sec.cache.length ≤ 4096) && decide (s.flock.cache.length ≤ 16384)
    && decide (s.aon.queue.length ≤ 8) && decide (s.aonInflight ≤ 4) && s.isl.aonHeld.all fun w => w.island == 9

/-- The mailbox can take a request and SUP starts it at once: the endpoint serves BAR accesses, SUP serves, no request is outstanding, no
response waits, no BAR0 write to HOST is in flight (R60, R78, R101). -/
def State.mailboxReady (s : State) : Bool :=
  s.barServes && s.supServes && !s.lop.mbxBusy && s.isl.responses.isEmpty && !s.outstanding fun w => w.who == 0 && w.island == 2

/-- The state after a mailbox doorbell with a frame: it stands in the request area, a request is outstanding and RESPONSE_READY is 0 (R77,
Table HP-2). -/
def State.doorbellRung (s : State) (b : Bytes) : State :=
  { s with
    lop := { s.lop with mbxBusy := true }
    host := { s.host with mbxReq := (b ++ s.host.mbxReq.drop b.length).take 4096, bar0 := eraseKey 0x18 s.host.bar0 } }

/-- The state in which SUP starts an accepted session frame that came by the mailbox: the session has its SEQ and its time (R65, R67). -/
def State.accepted (s : State) (op : Nat) (f : SecFrame) : State :=
  (s.doorbellRung (lop2Octets op f)).modSession f.session fun y => { y with rxSeq := f.seq, lastAt := s.mono }

/-- The header of a session frame: the additional data of its tag, from octet 4 on its nonce (R52). -/
def frameHead (op : Nat) (f : SecFrame) : Bytes := lop2Head op f.cipher.length f.session f.seq

/-- A frame that the mailbox can carry and that a session accepts: its length, direction, tag under the session's key, and sequence (R52, R66,
R67, R76). A pending session accepts AUTH alone (R595). -/
def State.acceptable (s : State) (op : Nat) (f : SecFrame) : Bool :=
  decide (f.cipher.length ≤ 4064) && decide (f.session < 2 ^ 32) && decide (f.seq < 2 ^ 63) && decide (f.tag.length = 16)
    && (s.session f.session).any fun x => (x.auth || op == 0x11) && decide (x.rxSeq < f.seq)
      && gcmTag (s.sessKey x) ((frameHead op f).drop 4) (frameHead op f) f.cipher == f.tag

/-- The request that an accepted frame of the mailbox makes: its payload in plaintext (R52). -/
def State.requestOf (s : State) (op : Nat) (f : SecFrame) : LopReq :=
  ⟨⟨0, false, 0, 0⟩, op, f.session, match s.session f.session with
    | some x => gcmCrypt (s.sessKey x) ((frameHead op f).drop 4) f.cipher
    | none => []⟩

/-- What a reset of core scope leaves that a further step can rely on: it is latched with its source and counted; firmware slots, profiles,
OTP, archive, node images, root store, calendar alarm and Paddock banks stay; sessions, transactions, records, revisions and statuses go
(R90, R94, R95). -/
def State.resetBy (s t : State) (source : Nat) : Prop :=
  t.start.inReset = true ∧ t.start.sources = 2 ^ source ∧ t.start.count = min 0xFFFFFFFF (s.start.count + 1)
    ∧ t.fw.otp = s.fw.otp ∧ t.fw.slot = s.fw.slot ∧ t.fw.profile = s.fw.profile ∧ t.flt.archive = s.flt.archive
    ∧ t.flt.recFlash = s.flt.recFlash ∧ t.flock.image = s.flock.image ∧ t.sec.store = s.sec.store ∧ t.aon.bank = s.aon.bank
    ∧ t.aon.alarm = s.aon.alarm ∧ t.aon.doubtful = s.aon.doubtful ∧ t.lop.sessions = [] ∧ t.mesh.txns = [] ∧ t.flock.recs = []
    ∧ t.rev = [] ∧ t.act = [] ∧ t.pending = s.pending

/-- No BAR0 write to an island is outstanding. -/
def State.bar0Quiet (s : State) (island : Nat) : Bool := !s.outstanding fun w => w.who == 0 && w.island == island

/-- A step answers a next state. -/
def goesOn (a : Host.Outcome State Fault Refusal) : Prop := ∃ t, a = .next t

end Sys2Proof.Machine
end

