-- ==== Sys2Proof/Certificates/Slice0/Obligations.lean ====
section
/-!
DEFINITION. The statements for the provers: what a step does, what reset leaves, what each command does and leaves alone, and what every
step keeps. In each, `s` is any state: no statement asks that a run reaches it.
-/

open Sys2Proof Sys2Proof.Machine

/-! ### Steps and reset -/

/-- A step takes the command at the front of the queue and runs it with the rest of the queue (the model's convention for a block). -/
def Obligations.StepRunsTheFront : Prop :=
  (∀ (s : State) (c : Instr) (rest : List Instr), s.pending = c :: rest → step s = exec c { s with pending := rest })
    ∧ ∀ (s : State) (c : Instr), step { s with pending := c :: s.pending } = exec c s

/-- On an empty queue the block idles (the model's choice, log entry 15): half a nanosecond passes, so that TB_MONO and, while the time bases
count, every other base moves by one unit; and where nothing waits for the present state (no calibration, no request at an arbiter, no work
held for a domain, no character of a wake), nothing but time and the slow clock changes. -/
def Obligations.EmptyQueueTicks : Prop :=
  (∀ s : State, s.pending = [] → step s = .next s.idle)
    ∧ (∀ s : State, s.tick = { s with time := s.tick.time, aon := s.tick.aon } ∧ s.tick.time.base[4].now = s.time.base[4].now + 1
      ∧ (s.time.counting = true → s.tick.time.base[3].now = s.time.base[3].now + 1)
      ∧ (s.time.counting = false → s.tick.time.base[3].now = s.time.base[3].now) ∧ s.tick.aon.cal = s.aon.cal)
    ∧ ∀ s : State, (∀ p : Fin 6, (s.path p).cal = none ∧ (s.path p).calQueue = [] ∧ (s.path p).tempQueue = []) →
        (∀ i : Fin 15, (s.arb[i]).waiting = []) → (∀ d : Fin 18, (s.dom d).release = false) → s.uart.woken = false → s.idle = s.tick

/-- What reset leaves, where the spec gives it: every setting, counter and revision at its default, the TB_MONO base running from 0, the tick
counter at 0 with the calendar at 1 January of year 0 and TIME_DOUBTFUL set, the domains AON, SYS, SEC, MEM and HOST on and every other
off, no session, no transaction, no Flock record, no event, RESET_COUNT 1. -/
def Obligations.ResetLeaves : Prop :=
  (∀ index, State.reset.cfgVal index = dfltOf index ∧ State.reset.roVal index = dfltOf index
      ∧ State.reset.revOf index = 0 ∧ State.reset.actOf index = 0)
    ∧ State.reset.mono = 0 ∧ State.reset.aon.tick = 0 ∧ State.reset.aon.cal = ⟨0, 0, 0, 0, 1, 1, 0⟩
    ∧ State.reset.aon.doubtful = true ∧ State.reset.start.count = 1 ∧ State.reset.start.inReset = true
    ∧ (∀ d : Fin 18, (State.reset.pwr.dom[d]).st = if d.val ≤ 4 then 2 else 0)
    ∧ State.reset.lop.sessions = [] ∧ State.reset.mesh.txns = [] ∧ State.reset.flock.recs = [] ∧ State.reset.flt.log = []
    ∧ State.reset.pending = []

/-- The stores of object values are in canonical form at reset, the session limits hold, and every list is within its size. -/
def Obligations.ResetIsSound : Prop :=
  State.reset.storesWf = true ∧ State.reset.sessionsWf = true ∧ State.reset.boundsWf = true

/-! ### Arbitration, containment, engines -/

/-- An arbiter grants the waiting request of the lowest class, within one class the one whose turn is next after the last granted; nothing is
granted only where nothing waits (R11). -/
def Obligations.ArbitersGrantByClass : Prop :=
  ∀ a : Arbiter, (a.next = none ↔ a.waiting = [])
    ∧ ∀ g, a.next = some g → g ∈ a.waiting ∧ (∀ q ∈ a.waiting, g.cls ≤ q.cls ∧ (q.cls = g.cls → a.turn g ≤ a.turn q))
        ∧ a.grant.waiting.length + 1 = a.waiting.length

/-- Promotion and containment complete (REQUEST_PROMOTION, ERROR_DETECTED, CONTAINMENT_ESCALATION): a request of class 2 to 4 is promoted one
class, waits with it at its region's arbiter, and the region's promotion counter rises; an error that its level contains is counted there, with
an event from block level up and the block's reset at region level; one that it cannot contain goes to the next level at the time limit of
Table AC-4, and is handled once.
Engines restart (ENGINE_WATCHDOG_EXPIRY, SUP_WATCHDOG_EXPIRY, ENGINE_RESTART_DONE): an engine with fewer than three restarts in the last
60 s restarts, its restart is counted, timed and reported, and its work in flight ends; with three it is held in the failed state, a
chip-level error of its region; SUP's restart changes nothing else of the block; an engine that was restarting runs again, and requests that
waited for SUP are then taken up. -/
def Obligations.ContainmentAndEngines : Prop :=
  ((∀ (s : State) (region who cls : Nat), 1 ≤ region → region ≤ 15 → 2 ≤ cls → cls ≤ 4 →
      ∃ t, exec (.requestPromotion region who cls) s = .next t ∧ t = { s with arb := t.arb, ro := t.ro, outbox := t.outbox }
        ∧ t.ro = (s.count Obj.ARB_PROMOTIONS (region - 1)).ro ∧ t.outbox = .promoted region (cls - 1) :: s.outbox
        ∧ (∀ i : Fin 15, i.val + 1 = region → ∃ q ∈ (t.arb[i]).waiting, q.who = who ∧ q.cls = cls - 1)
        ∧ ∀ i : Fin 15, i.val + 1 ≠ region → t.arb[i] = s.arb[i])
    ∧ (∀ (s : State) (region who cls : Nat), ¬(2 ≤ cls ∧ cls ≤ 4 ∧ 1 ≤ region ∧ region ≤ 15) →
        exec (.requestPromotion region who cls) s = .next s)
    ∧ (∀ (s : State) (region block cell : Nat), 1 ≤ region → region ≤ 15 → s.isHeld region = false →
        exec (.errorDetected region block cell 0 true) s = .next (s.count Obj.CONTAIN_COUNTS (region - 1) 0).settled
        ∧ exec (.errorDetected region block 0xFFFF 1 true) s
            = .next ((s.count Obj.CONTAIN_COUNTS (region - 1) 1).raise (Ev.BLOCK_CONTAINED region) 0xFF block 0xFFFF).settled
        ∧ exec (.errorDetected region block cell 2 true) s
            = .next (((s.count Obj.CONTAIN_COUNTS (region - 1) 2).raise (Ev.REGION_RESTART region) 0xFF block).blockReset region block).settled)
    ∧ (∀ (s : State) (region block cell level : Nat), 1 ≤ region → region ≤ 15 → s.isHeld region = false → level < 3 →
        exec (.errorDetected region block cell level false) s
          = .next (State.settled { s with flt := { s.flt with
              containing := s.flt.containing ++ [⟨region, block, cell, level, 1, s.mono⟩] } }))
    ∧ (∀ (s : State) (region block cell level : Nat) (ok : Bool), 1 ≤ region → region ≤ 15 → s.isHeld region = true →
        exec (.errorDetected region block cell level ok) s
          = .next (s.count Obj.CONTAIN_COUNTS (region - 1) (min level 3)).settled)
    ∧ ∀ (s : State) (n : Nat) (c : Containment), s.flt.containing[n]? = some c → c.level < 2 →
        exec (.containmentEscalation n false) s
          = .next (State.settled (let u := s.toMono (c.since + levelLimit c.level);
              { u with flt := { u.flt with containing := u.flt.containing.eraseIdx n
                  ++ [{ c with level := c.level + 1, tries := c.tries + 1, since := u.mono }] } })))
    ∧ ((∀ (s : State) (n : Fin 8), n.val ≠ 0 → (s.eng[n]).st = 1 → (s.recentRestarts s.eng[n]).length < 3 →
      exec (.engineWatchdogExpiry n) s = .next (State.settled (State.engineStops (State.raise
        { s with eng := s.eng.set n ⟨2, min ((s.eng[n]).restarts + 1) 0xFFFFFFFF, ts96 s.mono, s.mono :: s.recentRestarts s.eng[n]⟩ }
        Ev.ENGINE_RESTART n) n)))
    ∧ (∀ (s : State) (n : Fin 8), n.val ≠ 0 → (s.eng[n]).st = 1 → 3 ≤ (s.recentRestarts s.eng[n]).length →
        exec (.engineWatchdogExpiry n) s = .next (State.settled (State.chipLevel
          (State.engineStops { s with eng := s.eng.set n { s.eng[n] with st := 3 } } n) (engineRegion n) 0 0xFFFF 0 n)))
    ∧ (∀ s : State, (s.eng[0]).st = 1 → (s.recentRestarts s.eng[0]).length < 3 →
        exec .supWatchdogExpiry s = .next (State.raise
          { s with eng := s.eng.set 0 ⟨2, min ((s.eng[0]).restarts + 1) 0xFFFFFFFF, ts96 s.mono, s.mono :: s.recentRestarts s.eng[0]⟩ }
          Ev.ENGINE_RESTART 0))
    ∧ (∀ (s : State) (n : Fin 8), (s.eng[n]).st = 2 →
        exec (.engineRestartDone n) s = .next (State.serveWaiting { s with eng := s.eng.set n { s.eng[n] with st := 1 } }))
    ∧ ∀ (s : State) (n : Fin 8), (s.eng[n]).st ≠ 2 → exec (.engineRestartDone n) s = .next s)

/-! ### Writes into the islands, fences -/

/-- Writes and fences complete (ISLAND_WRITE_COMPLETE, AON_WRITE_ADMITTED, FENCE, BAR0_FENCE_READ, BAR0_REGISTER_WRITE): a write takes effect
only after the earlier writes of its initiator to its island; a held write enters AON when fewer than four are in flight there; a fence ends
at once when its initiator has no write outstanding, and waits otherwise; while BAR0 serves, a write of an RTC register, of IRQ_ENABLE or of
the MSI-X table enters its island, one of another register acts or is ignored, one of another size or alignment is ignored and counted. -/
def Obligations.WritesAndFences : Prop :=
  (∀ (s : State) (i : Nat) (w : Inflight), s.isl.inflight[i]? = some w →
      (s.isl.inflight.take i).any (fun x => x.who == w.who && x.island == w.island) = false →
      exec (.islandWriteComplete i) s = .next (State.release (State.settled (State.takeEffect
        { s with isl := { s.isl with inflight := s.isl.inflight.eraseIdx i } } w))))
    ∧ (∀ (s : State) (i : Nat) (w : Inflight), s.isl.inflight[i]? = some w →
        (s.isl.inflight.take i).any (fun x => x.who == w.who && x.island == w.island) = true →
        exec (.islandWriteComplete i) s = .next s)
    ∧ (∀ (s : State) (w : Inflight) (ws : List Inflight), s.isl.aonHeld = w :: ws →
        exec .aonWriteAdmitted s = .next (if s.aonInflight < 4 then
          { s with isl := { s.isl with inflight := s.isl.inflight ++ [w], aonHeld := ws } } else s))
    ∧ (∀ (s : State) (who : Nat), (s.authSession who).isSome = true → s.isl.fences = [] → s.isl.responses = [] →
        ∃ t, exec (.fence who) s = .next t ∧ t.rev = (s.bumpRev Obj.FENCE).rev
          ∧ t = { s with rev := t.rev, isl := t.isl, outbox := t.outbox }
          ∧ (if s.outstanding (fun w => w.who == who) = true then
              t.isl = { s.isl with fences := [⟨who, false, 0⟩] } ∧ t.outbox = s.outbox
            else t.isl = s.isl ∧ t.outbox = .fenceDone who :: s.outbox))
    ∧ (∀ s : State, s.barServes = true → s.isl.fences = [] → s.isl.responses = [] →
        exec .bar0FenceRead s = .next (if s.outstanding (fun w => w.who == 0) = true then
          { s with isl := { s.isl with fences := [⟨0, true, 0⟩] } } else { s with outbox := .bar0Read 0x10 0 :: s.outbox }))
    ∧ (∀ s : State, s.barServes = false → exec .bar0FenceRead s = .next s)
    ∧ (∀ (s : State) (offset width v : Nat), s.barServes = false → exec (.bar0RegisterWrite offset width v) s = .next s)
    ∧ (∀ (s : State) (offset width v : Nat), s.barServes = true → (width ≠ 4 ∨ offset % 4 ≠ 0) →
        exec (.bar0RegisterWrite offset width v) s = .next (s.count Obj.BAR0_BAD_ACCESS))
    ∧ (∀ (s : State) (offset v : Nat), s.barServes = true → offset ∈ [0x2014, 0x2018, 0x2020, 0x2024, 0x2028, 0x202C] →
        exec (.bar0RegisterWrite offset 4 v) s = .next (s.issueTo ⟨0, 9, offset, 0, 1, scalar (v % 2 ^ 32 : Nat), none, [], 0⟩))
    ∧ (∀ (s : State) (offset v : Nat), s.barServes = true → offset % 4 = 0 → (offset = 0x20 ∨ (0x8000 ≤ offset ∧ offset < 0x8080)) →
        exec (.bar0RegisterWrite offset 4 v) s = .next (s.issueTo ⟨0, 2, offset, 0, 1, scalar (v % 2 ^ 32 : Nat), none, [], 0⟩))
    ∧ (∀ (s : State) (v : Nat), s.barServes = true → s.bar0Quiet 2 = true →
        exec (.bar0RegisterWrite 0x1C 4 v) s = .next (s.irqClear (v % 2 ^ 32)).settled)
    ∧ ∀ (s : State) (offset v : Nat), s.barServes = true → offset % 4 = 0 → offset ∉ [0x14, 0x1C, 0x20, 0x1000] → offset < 0x2000 →
        exec (.bar0RegisterWrite offset 4 v) s = .next s.settled

/-- The AON island takes at most four writes: whatever is issued to it, and however many are admitted, at most four are in flight there when at
most four were. -/
def Obligations.AonIslandTakesFour : Prop :=
  (∀ (s : State) (w : Inflight), s.aonInflight ≤ 4 → (s.issueTo w).aonInflight ≤ 4)
    ∧ (∀ s t : State, s.aonInflight ≤ 4 → (∀ w ∈ s.isl.aonHeld, w.island = 9) → exec .aonWriteAdmitted s = .next t →
        t.aonInflight ≤ 4 ∧ ∀ w ∈ t.isl.aonHeld, w.island = 9)
    ∧ ∀ (s : State) (w : Inflight), w.island = 9 → s.aonInflight = 4 →
        (s.issueTo w).isl.inflight = s.isl.inflight ∧ (s.issueTo w).isl.aonHeld = s.isl.aonHeld ++ [w]

/-! ### The always-on region -/

/-- The calendar advances by one second as R416 says, field by field. -/
def Obligations.CalendarProcedure : Prop :=
  (∀ month year : Nat, month < 16 → monthLength month year =
      if month = 2 then (if year % 4 = 0 then 29 else 28) else if month ∈ [4, 6, 9, 11] then 30 else 31)
    ∧ (∀ c : Cal, c.sec ≠ 59 → c.sec ≠ 63 → c.next = { c with sec := c.sec + 1 })
    ∧ (∀ c : Cal, (c.sec = 59 ∨ c.sec = 63) → c.min ≠ 59 → c.min ≠ 63 → c.next = { c with sec := 0, min := c.min + 1 })
    ∧ (∀ c : Cal, (c.sec = 59 ∨ c.sec = 63) → (c.min = 59 ∨ c.min = 63) → c.hour ≠ 23 → c.hour ≠ 31 →
        c.next = { c with sec := 0, min := 0, hour := c.hour + 1 })
    ∧ ∀ c : Cal, (c.sec = 59 ∨ c.sec = 63) → (c.min = 59 ∨ c.min = 63) → (c.hour = 23 ∨ c.hour = 31) →
        c.next.sec = 0 ∧ c.next.min = 0 ∧ c.next.hour = 0 ∧ c.next.wday = (if 6 ≤ c.wday then 0 else c.wday + 1)
        ∧ (c.day = 0 → c.next.day = 1 ∧ c.next.month = c.month ∧ c.next.year = c.year)
        ∧ (c.day ≠ 0 → c.day ≠ monthLength c.month c.year → c.day ≠ 31 →
            c.next.day = c.day + 1 ∧ c.next.month = c.month ∧ c.next.year = c.year)
        ∧ (c.day ≠ 0 → (c.day = monthLength c.month c.year ∨ c.day = 31) → c.month < 12 →
            c.next.day = 1 ∧ c.next.month = c.month + 1 ∧ c.next.year = c.year)
        ∧ (c.day ≠ 0 → (c.day = monthLength c.month c.year ∨ c.day = 31) → 12 ≤ c.month →
            c.next.day = 1 ∧ c.next.month = 1 ∧ c.next.year = if c.year = 99 ∨ c.year = 127 then 0 else c.year + 1)

/-- Seconds and the shadow complete (CALENDAR_SECOND, CATCH_UP_SECOND, SHADOW_EXPIRED): a completed second advances a running calendar, joins
RTC_PENDING of a halted one up to 15, and beyond is lost, reported once a halt; a pending second is applied at a tick; an expired shadow is
released and counted. Carried forward to its second, the prescaler completes it at its tick: with trims in their range it reads 32,768, or
32,769 where the last tick carried a correction. -/
def Obligations.SecondsComplete : Prop :=
  (∀ s : State, s.aon.stopped = false → 32768 ≤ s.aon.pres → s.cfgN Obj.RTC_HALT ≠ 1 → s.aon.catchUp = false →
      exec .calendarSecond s
        = .next (State.alarmCheck { s with aon := { s.aon with pres := s.aon.pres - 32768, cal := s.aon.cal.next } }))
    ∧ (∀ s : State, s.aon.stopped = false → 32768 ≤ s.aon.pres → s.cfgN Obj.RTC_HALT = 1 → s.aon.pending < 15 →
        exec .calendarSecond s
          = .next { s with aon := { s.aon with pres := s.aon.pres - 32768, pending := s.aon.pending + 1 } })
    ∧ (∀ s : State, s.aon.stopped = false → 32768 ≤ s.aon.pres → s.cfgN Obj.RTC_HALT = 1 → 15 ≤ s.aon.pending →
        exec .calendarSecond s = .next (if s.aon.overrun then { s with aon := { s.aon with pres := s.aon.pres - 32768 } }
          else (State.raise { s with aon := { s.aon with
            pres := s.aon.pres - 32768, overrun := true, status := s.aon.status ||| 0x40 } } Ev.HALT_OVERRUN).count Obj.RTC_COUNTS 1))
    ∧ (∀ s : State, s.aon.stopped = false → s.aon.pres < 32768 → s.aon.pres = 32767 → s.aon.part < secHalfNs → s.aon.trim = 0
        → s.cfgI Obj.RTC_TRIM = 0 → s.aon.tick < 2 ^ 48 - 1 → s.cfgN Obj.RTC_HALT ≠ 1 → s.aon.catchUp = false → s.aon.alarm ≠ 1 →
        ∃ t, exec .calendarSecond s = .next t ∧ t = { s with aon := t.aon, time := t.time }
          ∧ t.aon.cal = s.aon.cal.next ∧ t.aon.pres = 0 ∧ t.aon.tick = s.aon.tick + 1)
    ∧ (∀ s : State, s.aon.catchUp = true → s.aon.pending ≠ 0 → s.aon.stopped = false →
        exec .catchUpSecond s = .next (State.applySecond
          (let u := s.advance ((secHalfNs - s.aon.part + 32767) / 32768);
            { u with aon := { u.aon with pending := u.aon.pending - 1, catchUp := decide (1 < u.aon.pending) } })))
    ∧ (∀ s : State, s.aon.shadow = none → exec .shadowExpired s = .next s)
    ∧ (∀ (s : State) (k : Nat) (v : List Nat), s.aon.shadow = some (k, v) →
        ∃ t u, exec .shadowExpired s = .next t ∧ t = State.count u Obj.RTC_COUNTS 0 ∧ u = { s with aon := u.aon, time := u.time }
          ∧ u.aon.shadow = none ∧ u.aon.cal = s.aon.cal)
    ∧ ∀ s : State, s.aon.stopped = false → s.aon.pres < 32768 → s.aon.part < secHalfNs → s.aon.tick < 2 ^ 48
        → -255 ≤ s.aon.trim → s.aon.trim ≤ 255 → -255 ≤ s.cfgI Obj.RTC_TRIM → s.cfgI Obj.RTC_TRIM ≤ 255
        → 32768 ≤ (s.toSecond 24).aon.pres ∧ (s.toSecond 24).aon.pres ≤ 32769

/-- The calendar objects complete (RTC_SET, RTC_HALT, RTC_ALARM_ENABLE, RTC_ALARM, PADDOCK_CLEAR): a value that fits sets every field and the
prescaler and drops the pending seconds, one that does not has no effect; a halt and its release; arming and disarming the alarm; a bank
that is cleared reads INVALID.
The calendar's BAR0 group completes (RTC_SET_DATE_WRITE, RTC_CTRL_WRITE, RTC_ALARM_DATE_WRITE, RTC_SUBSEC_READ, RTC_TICK_HI_READ), while BAR0
serves: a write is posted, in flight to AON or, as a fifth one, held, and has its effect when it completes there; the group is read at one
tick, from the shadow while one is active. -/
def Obligations.CalendarCompletes : Prop :=
  ((∀ (s : State) (c : Cal) (sub : Nat), calFits c = true → sub < 32768 → s.aon.alarm ≠ 1 →
      exec (.rtcSet [c.sec, c.min, c.hour, c.wday, c.day, c.month, c.year, sub]) s
        = .next ((State.count { s with aon := { s.aon with cal := c, pres := sub, pending := 0, catchUp := false } }
            Obj.RTC_COUNTS 3).bumpRev Obj.RTC_SET))
    ∧ (∀ (s : State) (c : Cal) (sub : Nat), (calFits c = false ∨ 32768 ≤ sub) →
        exec (.rtcSet [c.sec, c.min, c.hour, c.wday, c.day, c.month, c.year, sub]) s = .next s)
    ∧ (∀ s : State, s.cfgN Obj.RTC_HALT = 0 →
        exec (.rtcHalt 1) s = .next (State.bumpRev
          (let u := s.cfgPut Obj.RTC_HALT (scalar 1); { u with aon := { u.aon with overrun := false, catchUp := false } }) Obj.RTC_HALT))
    ∧ (∀ s : State, s.cfgN Obj.RTC_HALT = 1 →
        exec (.rtcHalt 0) s = .next (State.bumpRev
          (let u := s.cfgPut Obj.RTC_HALT (scalar 0); { u with aon := { u.aon with catchUp := decide (0 < u.aon.pending) } }) Obj.RTC_HALT))
    ∧ (∀ (s : State) (b : Nat), 1 < b → exec (.rtcHalt b) s = .next s ∧ exec (.rtcAlarmEnable b) s = .next s)
    ∧ (∀ s : State, ∃ t, exec (.rtcAlarmEnable 0) s = .next t ∧ t = { s with cfg := t.cfg, rev := t.rev, aon := { s.aon with alarm := 0 } })
    ∧ (∀ s : State, s.cfgN Obj.RTC_ALARM_ENABLE = 0 → ∃ t, exec (.rtcAlarmEnable 1) s = .next t
        ∧ t = { s with cfg := t.cfg, rev := t.rev, aon := { s.aon with alarm := 1 } })
    ∧ (∀ (s : State) (sec min hour day month year : Nat), sec < 64 → min < 64 → hour < 32 → day < 32 → month < 16 → year < 128 →
        exec (.rtcAlarm [sec, min, hour, day, month, year]) s
          = .next ((s.putAlarm sec min hour day month year).bumpRev Obj.RTC_ALARM)
        ∧ (s.putAlarm sec min hour day month year).aon.alarm = 1)
    ∧ ∀ (s : State) (m : Nat), m < 16 → (m.testBit 3 = false ∨ s.pwr.dom.any (fun x => x.st == 1) = false) →
        ∃ t, exec (.paddockClear m) s = .next t
          ∧ (∀ i : Fin 4, m.testBit i = true → (t.aon.bank[i]).st = 0 ∧ (t.aon.bank[i]).intact = false)
          ∧ (∀ i : Fin 4, m.testBit i = false → t.aon.bank[i] = s.aon.bank[i]))
    ∧ (∀ (s : State) (w : Nat), s.barServes = true → w < 2 ^ 32 → s.isl.inflight = [] → s.isl.aonHeld = [] →
        (∃ t, exec (.rtcSetDate w) s = .next t ∧ t = { s with isl := t.isl } ∧ exec (.islandWriteComplete 0) t = .next (State.release
          (State.settled (State.adjust { s with aon := { s.aon with setDate := maskDate w } } (calOfWords s.aon.setTime w) 0))))
        ∧ (∃ t, exec (.rtcCtrl w) s = .next t ∧ t = { s with isl := t.isl } ∧ exec (.islandWriteComplete 0) t = .next (State.release
          (State.settled (State.bumpRev (State.cfgPut
            (((((s.setHalt (wbits w 0 1)).bumpRev Obj.RTC_HALT).setAlarmEnable (wbits w 1 1))).bumpRev Obj.RTC_ALARM_ENABLE)
            Obj.RTC_ALARM_WAKE (scalar (wbits w 2 1 : Nat))) Obj.RTC_ALARM_WAKE))))
        ∧ ∃ t, exec (.rtcAlarmDate w) s = .next t ∧ t = { s with isl := t.isl } ∧ exec (.islandWriteComplete 0) t = .next (State.release
          (State.settled (State.bumpRev (s.putAlarm (wbits s.aon.alarmTime 0 6) (wbits s.aon.alarmTime 8 6) (wbits s.aon.alarmTime 16 5)
            (wbits w 0 5) (wbits w 8 4) (wbits w 16 7)) Obj.RTC_ALARM))))
    ∧ (∀ (s : State) (w : Nat), s.barServes = true → s.aonInflight = 4 → ∃ t, exec (.rtcCtrl w) s = .next t
        ∧ t = { s with isl := t.isl } ∧ t.isl.inflight = s.isl.inflight ∧ t.isl.aonHeld.length = s.isl.aonHeld.length + 1)
    ∧ ∀ s : State, s.barServes = true → s.bar0Quiet 9 = true →
        exec .rtcSubsecRead s = .next { s with aon := { s.aon with shadow := some (s.aon.tick, s.aon.live) }
                                               outbox := .bar0Read 0x2000 (s.aon.pres % 32768 + s.aon.pending * 2 ^ 16) :: s.outbox }
        ∧ (s.aon.shadow = none → exec .rtcTickHiRead s = .next { s with outbox := .bar0Read 0x2010 (s.aon.tick / 2 ^ 32) :: s.outbox })
        ∧ ∀ (k : Nat) (v : List Nat), s.aon.shadow = some (k, v) → exec .rtcTickHiRead s
            = .next { s with aon := { s.aon with shadow := none }, outbox := .bar0Read 0x2010 ((v[4]?).getD 0) :: s.outbox }

/-- The slow clock and the supply complete (SLOW_CLOCK_LOSS, SLOW_CLOCK_RETURN, SLOW_CLOCK_START_TIMEOUT, SUPPLY_SWITCH, HOLDUP_EXPIRY,
VBAT_MEASUREMENT, AUTOTRIM_MEASUREMENT).
The anchor and the synchronisation complete (TIME_ANCHOR_WRITE, RTC_SYNC_WRITE): while TB_GNSS is traceable or in holdover the anchor takes
the tick, TB_GNSS's time, rate and error and bank 0 is sealed; a forced write at a whole second sets the calendar to that second in the
scale of RTC_SCALE, a year outside 2000 to 2099 raises RTC_SYNC_RANGE. -/
def Obligations.SlowClockSupplyAndAnchor : Prop :=
  ((∀ s : State, s.aon.slowRc = false → exec .slowClockLoss s
      = .next (State.raise { s with aon := { s.aon with slowRc := true, doubtful := true, failed := true } } Ev.SLOW_CLK_FAIL))
    ∧ (∀ s : State, s.aon.slowRc = true → s.aon.failed = true → exec .slowClockReturn s
        = .next (State.raise { s with aon := { s.aon with slowRc := false, starting := false, failed := false } } Ev.SLOW_CLK_OK))
    ∧ (∀ s : State, s.aon.slowRc = true → s.aon.failed = false → exec .slowClockReturn s
        = .next { s with aon := { s.aon with slowRc := false, starting := false, failed := false } })
    ∧ (∀ s : State, s.aon.slowRc = true → s.aon.starting = true → s.aon.failed = false → exec .slowClockStartTimeout s
        = .next (State.raise { s with aon := { s.aon with failed := true } } Ev.SLOW_CLK_FAIL))
    ∧ (∀ s : State, s.aon.supply = 0 → s.aon.holdup = false → exec (.supplySwitch true false) s
        = .next ((State.count { s with aon := { s.aon with supply := 1 } } Obj.AON_COUNTS 0).raise Ev.AON_ON_VBAT))
    ∧ (∀ s : State, s.aon.supply = 1 → s.aon.holdup = false → exec (.supplySwitch false false) s
        = .next (((State.count { s with aon := { s.aon with supply := 0 } } Obj.AON_COUNTS 1).raise Ev.AON_ON_MAIN).wakeSource 6))
    ∧ (∀ s : State, exec .holdupExpiry s = .next { s with aon := { s.aon with stopped := true, doubtful := true, holdup := true } })
    ∧ (∀ (s : State) (mv : Nat), 100 ≤ mv → mv < s.cfgN Obj.AON_VBAT_LOW_MV → s.aon.vbatRuns < 2 →
        exec (.vbatMeasurement mv) s = .next { s with aon := { s.aon with vbat := mv, vbatRuns := s.aon.vbatRuns + 1 } })
    ∧ (∀ (s : State) (mv : Nat), 100 ≤ mv → mv < s.cfgN Obj.AON_VBAT_LOW_MV → 2 ≤ s.aon.vbatRuns → s.aon.vbatArmed = true →
        exec (.vbatMeasurement mv) s = .next ((State.raise { s with aon := { s.aon with
          vbat := mv, vbatRuns := s.aon.vbatRuns + 1, vbatArmed := false, status := s.aon.status ||| 0x80 } }
          Ev.VBAT_LOW 0xFF mv).wakeSource 7))
    ∧ (∀ (s : State) (mv : Nat), s.cfgN Obj.AON_VBAT_LOW_MV + 100 ≤ mv →
        exec (.vbatMeasurement mv) s = .next { s with aon := { s.aon with vbat := mv, vbatRuns := 0, vbatArmed := true } })
    ∧ (∀ (s : State) (mv : Nat), (mv < 100 ∨ s.cfgN Obj.AON_VBAT_LOW_MV ≤ mv) → mv < s.cfgN Obj.AON_VBAT_LOW_MV + 100 →
        exec (.vbatMeasurement mv) s = .next { s with aon := { s.aon with vbat := mv, vbatRuns := 0 } })
    ∧ (∀ (s : State) (ticks : Nat), s.cfgN Obj.RTC_AUTOTRIM_ENABLE ≠ 0 → (s.time.base[0]).flags.testBit 0 = true →
        exec (.autotrimMeasurement ticks) s = .next (if -255 ≤ trimFor ticks ∧ trimFor ticks ≤ 255
          then s.cfgPut Obj.RTC_TRIM (scalar (trimFor ticks)) else s.raise Ev.RTC_TRIM_LIMIT))
    ∧ (∀ ticks : Nat, 0 < ticks → -(ticks : Int) < 2 * ticks * trimFor ticks - 2 ^ 21 * (2 ^ 25 - (ticks : Int))
        ∧ 2 * ticks * trimFor ticks - 2 ^ 21 * (2 ^ 25 - (ticks : Int)) ≤ ticks))
    ∧ ((∀ (s : State) (rate : Int), ((s.time.base[0]).flags.testBit 0 = true ∨ (s.time.base[0]).flags.testBit 1 = true) →
      ∃ t, exec (.timeAnchorWrite rate) s = .next t ∧ t = { s with aon := t.aon }
        ∧ t.aon.anchor = ⟨s.aon.tick, ts96 (s.time.base[0]).now, rate, (s.time.base[0]).err⟩
        ∧ (t.aon.bank[0]).st = 1 ∧ (t.aon.bank[0]).intact = true)
    ∧ (∀ (s : State) (rate : Int), (s.time.base[0]).flags.testBit 0 = false → (s.time.base[0]).flags.testBit 1 = false →
        exec (.timeAnchorWrite rate) s = .next s)
    ∧ (∀ s : State, (s.cfgN Obj.RTC_SYNC_ENABLE = 0 ∨ s.time.established = false) → exec .rtcSyncWrite s = .next s)
    ∧ ∀ (s u : State), s.cfgN Obj.RTC_SYNC_ENABLE ≠ 0 → s.time.established = true →
        u = s.advance (((s.time.base[0]).now + secHalfNs - 1) / secHalfNs * secHalfNs - (s.time.base[0]).now) →
        s.aon.syncForce = true →
        exec .rtcSyncWrite s = .next (
          match u.syncCal ((u.time.base[0]).now / secHalfNs) with
          | some c => State.adjust { u with aon := { u.aon with syncForce := false, syncAt := u.mono } } c 0
          | none => State.raise { u with aon := { u.aon with syncForce := false, syncAt := u.mono } } Ev.RTC_SYNC_RANGE))

/-! ### The Loref server -/

/-- Requests of a session complete (READ, WRITE, INFO, AUTH, CLOSE): a frame with the session's tag and a fresh SEQ, accepted by a mailbox that
is ready, is decrypted and executed in the session that it names, in the state that acceptance leaves: a READ, WRITE or INFO runs its own
list, one whose payload does not parse is answered FORMAT and counted, one whose REQ_ID is among the last eight answered in its session gets
the kept response again. A frame that the session does not accept is discarded without an answer. -/
def Obligations.RequestsAreServed : Prop :=
  (∀ (s : State) (f : SecFrame) (x : Session), s.mailboxReady = true → s.session f.session = some x → x.auth = true →
    (s.acceptable 0x01 f = true →
      (∀ items, (s.requestOf 0x01 f).reads = some items → x.kept.find? (fun r => r.reqId == (s.requestOf 0x01 f).reqId) = none →
        exec (.read ⟨0, false, 0, 0⟩ f) s = .next ((s.accepted 0x01 f).runRead (s.requestOf 0x01 f) items))
      ∧ (∀ r, 2 ≤ (s.requestOf 0x01 f).payload.length → x.kept.find? (fun r => r.reqId == (s.requestOf 0x01 f).reqId) = some r →
        exec (.read ⟨0, false, 0, 0⟩ f) s = .next ((s.accepted 0x01 f).send { r with via := ⟨0, false, 0, 0⟩ } false)))
    ∧ (s.acceptable 0x02 f = true →
      (∀ items, (s.requestOf 0x02 f).writes = some items → x.kept.find? (fun r => r.reqId == (s.requestOf 0x02 f).reqId) = none →
        exec (.write ⟨0, false, 0, 0⟩ f) s
          = .next ((s.accepted 0x02 f).runWrite { x with rxSeq := f.seq, lastAt := s.mono } (s.requestOf 0x02 f) items))
      ∧ (∀ r, 2 ≤ (s.requestOf 0x02 f).payload.length → x.kept.find? (fun r => r.reqId == (s.requestOf 0x02 f).reqId) = some r →
        exec (.write ⟨0, false, 0, 0⟩ f) s = .next ((s.accepted 0x02 f).send { r with via := ⟨0, false, 0, 0⟩ } false))
      ∧ (2 ≤ (s.requestOf 0x02 f).payload.length → (s.requestOf 0x02 f).writes = none →
        x.kept.find? (fun r => r.reqId == (s.requestOf 0x02 f).reqId) = none → exec (.write ⟨0, false, 0, 0⟩ f) s
          = .next (((s.accepted 0x02 f).count Obj.LOREF_FORMAT_ERR).send
            ((s.requestOf 0x02 f).resp 0x82 (s.requestOf 0x02 f).reqId 0x0F []) true)))
    ∧ (s.acceptable 0x03 f = true →
      ∀ items, (s.requestOf 0x03 f).reads = some items → x.kept.find? (fun r => r.reqId == (s.requestOf 0x03 f).reqId) = none →
        exec (.info ⟨0, false, 0, 0⟩ f) s = .next ((s.accepted 0x03 f).runInfo (s.requestOf 0x03 f) items))
    ∧ (s.acceptable 0x12 f = true → exec (.close ⟨0, false, 0, 0⟩ f) s = .next ((s.accepted 0x12 f).runClose (s.requestOf 0x12 f))))
    ∧ (∀ (s : State) (f : SecFrame), s.mailboxReady = true → s.acceptable 0x11 f = true →
        exec (.auth ⟨0, false, 0, 0⟩ f) s = .next ((s.accepted 0x11 f).runAuth (s.requestOf 0x11 f)))
    ∧ ∀ (s : State) (f : SecFrame), s.mailboxReady = true → f.cipher.length ≤ 4064 → f.session < 2 ^ 32 → f.seq < 2 ^ 63 →
        s.session f.session = none → exec (.read ⟨0, false, 0, 0⟩ f) s
          = .next (((s.doorbellRung (lop2Octets 0x01 f)).count Obj.LOREF_AUTH_FAIL).mbxFree 0)

/-- A WRITE list of which an item fails changes no setting, no revision, no status, and sends no write on its way (R58). -/
def Obligations.RefusedListChangesNothing : Prop :=
  ∀ (s : State) (x : Session) (q : LopReq) (items : List WItem) (n c : Nat) (o : State), s.listCheck x 0 items = .inl (n, c, o) →
    (s.runWrite x q items).cfg = s.cfg ∧ (s.runWrite x q items).rev = s.rev ∧ (s.runWrite x q items).act = s.act
    ∧ (s.runWrite x q items).isl.inflight = s.isl.inflight ∧ (s.runWrite x q items).isl.aonHeld = s.isl.aonHeld
    ∧ (s.runWrite x q items).fw = s.fw ∧ (s.runWrite x q items).flock = s.flock

/-- OPEN completes (OPEN): by a ready mailbox, for a role that can be opened, a pending session is added whose identifier is not zero and is no
other session's, and the answer with identifier, device nonce and EUI-64 is sent in plaintext; a role that cannot be opened is answered with
the failing status and no session is added. AUTH and CLOSE by their rules: a pending session that proves its nonce becomes authenticated, its
derived key in a key slot of its own, and is answered; one that does not ends and is counted; a closed session no longer exists. -/
def Obligations.SessionsOpen : Prop :=
  (∀ (s : State) (b : Bytes), s.mailboxReady = true → s.sessionsWf = true → b.length = 20 →
    (s.openCheck (leAt b 0 1) = 0 → ∃ t id nonce, exec (.openSession ⟨0, false, 0, 0⟩ 0 0 b) s = .next t ∧ id ≠ 0
      ∧ (∀ x ∈ s.lop.sessions, x.id ≠ id)
      ∧ t.lop.sessions = s.lop.sessions ++ [⟨id, leAt b 0 1, 0, if leAt b 0 1 = 3 then s.sec.presClass else 0, false, s.mono, s.mono, 0, 0, 0,
          leAt b 4 16, nonce, 0, []⟩]
      ∧ t.lop.mbxBusy = false ∧ t.cfg = s.cfg ∧ t.rev = s.rev ∧ t.sec = s.sec
      ∧ Out.lop ⟨0, false, 0, 0⟩ (lop2Head 0x90 32 0 (2 ^ 63) ++ (natLe 1 0 ++ [0, 0, 0] ++ natLe 4 id ++ natLe 16 nonce ++ natLe 8 s.fw.otp.eui))
          ∈ t.outbox)
    ∧ (s.openCheck (leAt b 0 1) ≠ 0 → ∃ t nonce, exec (.openSession ⟨0, false, 0, 0⟩ 0 0 b) s = .next t ∧ t.lop.sessions = s.lop.sessions
      ∧ t.cfg = s.cfg ∧ t.sec = s.sec
      ∧ Out.lop ⟨0, false, 0, 0⟩ (lop2Head 0x90 32 0 (2 ^ 63)
          ++ (natLe 1 (s.openCheck (leAt b 0 1)) ++ [0, 0, 0] ++ natLe 4 0 ++ natLe 16 nonce ++ natLe 8 s.fw.otp.eui)) ∈ t.outbox))
    ∧ (∀ (s : State) (q : LopReq) (x : Session) (k : Fin 64), s.session q.session = some x → x.auth = false → q.nonceOk x = true →
        s.authCount < 8 → s.freeKeySlot = some k.val → x.txSeq + 2 < 2 ^ 63 → x.rxSeq + 1 < 2 ^ 63 →
        ∃ y, (s.runAuth q).session q.session = some y ∧ y.auth = true ∧ y.keySlot = k.val ∧ y.role = x.role
          ∧ (s.runAuth q).sec.slot[k].key = kdf (s.roleKey x.role) 4 [x.clientNonce, x.deviceNonce, x.id] ∧ (s.runAuth q).sec.slot[k].st = 2)
    ∧ (∀ (s : State) (q : LopReq) (x : Session), s.session q.session = some x → x.auth = false → q.nonceOk x = false →
        (s.runAuth q).session q.session = none
        ∧ (s.runAuth q).roN Obj.LOREF_AUTH_FAIL = (s.count Obj.LOREF_AUTH_FAIL).roN Obj.LOREF_AUTH_FAIL)
    ∧ ∀ (s : State) (q : LopReq) (x : Session), s.authSession q.session = some x → (s.runClose q).session q.session = none

/-- Sessions end (SESSION_END, PENDING_SESSION_TIMEOUT, SESSION_IDLE_EXPIRY): one named by SESSION_END ends, an unknown one changes nothing; a
pending session ends 5 s after its OPEN, an idle one after SESSION_IDLE_TIMEOUT. Requests wait and are turned away (REQUEST_WAIT_TIMEOUT,
MBX_DOORBELL): a request that has waited 50 ms is answered BUSY; a doorbell takes the frame in the request area, and while a request is
outstanding it is counted. -/
def Obligations.SessionsEnd : Prop :=
  (∀ (s : State) (id : Nat), (s.authSession id).isSome = true → ∃ t, exec (.sessionEnd id) s = .next t ∧ t.session id = none
      ∧ (∀ j, j ≠ id → t.session j = s.session j) ∧ t.rev = (s.bumpRev Obj.SESSION_END).rev ∧ t.cfg = s.cfg)
    ∧ (∀ (s : State) (id : Nat), s.authSession id = none → exec (.sessionEnd id) s = .next s)
    ∧ (∀ (s : State) (id : Nat) (x : Session), s.session id = some x → x.auth = false →
        exec (.pendingSessionTimeout id) s = .next ((s.toMono (x.openedAt + 5 * secHalfNs)).endSession id)
        ∧ ((s.toMono (x.openedAt + 5 * secHalfNs)).endSession id).session id = none)
    ∧ (∀ (s : State) (id : Nat) (x : Session), s.authSession id = some x →
        exec (.sessionIdleExpiry id) s = .next ((s.toMono (x.lastAt + s.cfgN Obj.SESSION_IDLE_TIMEOUT * secHalfNs)).endSession id)
        ∧ ((s.toMono (x.lastAt + s.cfgN Obj.SESSION_IDLE_TIMEOUT * secHalfNs)).endSession id).session id = none)
    ∧ (∀ (s : State) (i : Nat) (q : LopReq) (k : HalfNs), s.lop.waiting[i]? = some (q, k) →
        exec (.requestWaitTimeout i) s = .next (State.busyReply
          (let u := s.toMono (k + 50 * msHalfNs); { u with lop := { u.lop with waiting := u.lop.waiting.eraseIdx i } }) q))
    ∧ (∀ (s : State) (length : Nat) (area : Bytes), s.barServes = true → s.bar0Quiet 2 = true → 1 ≤ length → length ≤ 4096 →
        s.lop.mbxBusy = true → exec (.mbxDoorbell length area) s = .next (State.count
          { s with host := { s.host with mbxReq := (area ++ s.host.mbxReq.drop area.length).take 4096 } } Obj.LOREF_MBX_OVERLAP))
    ∧ (∀ (s : State) (length : Nat) (area : Bytes), s.barServes = true → s.bar0Quiet 2 = true → 1 ≤ length → length ≤ 4096 →
        s.lop.mbxBusy = false → exec (.mbxDoorbell length area) s
          = .next ((s.doorbellRung area).arrive ⟨0, false, 0, 0⟩ ((s.doorbellRung area).mailFrame length)))
    ∧ ∀ (s : State) (length : Nat) (area : Bytes), s.barServes = false → exec (.mbxDoorbell length area) s = .next s

/-- The other transports and LOP1 complete (LOREF_UDP_DATAGRAM, RS485_TRANSFER, RS485_GAP_TIMEOUT, LOP1_READ, LOP1_WRITE): a datagram or a
transfer that its port takes arrives as its frame, a fragment or a datagram of another length than its frame's is discarded; a transfer with a
bad CRC or a gap is discarded and counted; while LOP1_ENABLE is 1 a LOP1 frame with a good CRC is executed, otherwise it is discarded without an
answer. -/
def Obligations.TransportsDeliver : Prop :=
  (∀ (s : State) (e : Fin 2) (v6 : Bool) (addr source : Nat) (b : Bytes), s.ethOn e = true → (s.port.eth[e]).up = true →
      (s.cfgN Obj.LOREF_UDP_ENABLE).testBit e = true → frameLength b = some b.length → leAt b 0 1 = 2 →
      exec (.lorefUdpDatagram e v6 false addr source (s.cfgN Obj.LOREF_UDP_PORT2) b) s = .next (s.arrive ⟨1 + e, v6, addr, source⟩ b))
    ∧ (∀ (s : State) (e : Fin 2) (v6 : Bool) (addr source : Nat) (b : Bytes), s.ethOn e = true → (s.port.eth[e]).up = true →
        (s.cfgN Obj.LOREF_UDP_ENABLE).testBit e = true → frameLength b = some b.length → leAt b 0 1 = 1 →
        s.cfgN Obj.LOREF_UDP_PORT1 ≠ s.cfgN Obj.LOREF_UDP_PORT2 →
        exec (.lorefUdpDatagram e v6 false addr source (s.cfgN Obj.LOREF_UDP_PORT1) b) s = .next (s.arrive ⟨1 + e, v6, addr, source⟩ b))
    ∧ (∀ (s : State) (e : Fin 2) (v6 frag : Bool) (addr source port : Nat) (b : Bytes), (frag = true ∨ frameLength b ≠ some b.length) →
        exec (.lorefUdpDatagram e v6 frag addr source port b) s = .next s)
    ∧ (∀ (s : State) (n : Fin 2) (b : Bytes), s.rs485On n = true → 1 ≤ s.cfgN Obj.LOREF_RS485_ADDRESS → s.cfgN Obj.LOREF_RS485_ADDRESS < 256 →
        frameLength b = some b.length → b.length ≤ 1024 →
        ∃ u : State, exec (.rs485Transfer n (rs485Chars (s.cfgN Obj.LOREF_RS485_ADDRESS) (leAt b 0 1 == 1) b)) s
            = .next (u.arrive ⟨3 + n, false, 0, 0⟩ b)
          ∧ u = { s with ro := u.ro, uart := u.uart, lop := { s.lop with rs485 := s.lop.rs485.set n none } })
    ∧ (∀ (s : State) (n : Fin 2) (b : Bytes) (c : Nat), s.rs485On n = true → 1 ≤ s.cfgN Obj.LOREF_RS485_ADDRESS →
        s.cfgN Obj.LOREF_RS485_ADDRESS < 256 → frameLength b = some b.length → leAt b 0 1 = 2 → b.length ≤ 1024 → c < 2 ^ 32 → c ≠ crc32c b →
        ∃ u : State, exec (.rs485Transfer n ((0x100 + s.cfgN Obj.LOREF_RS485_ADDRESS) :: (b ++ natLe 4 c).map fun (x : Byte) => x.toNat)) s
            = .next (u.count Obj.LOREF_RS485_ERR)
          ∧ u = { s with ro := u.ro, uart := u.uart, lop := { s.lop with rs485 := s.lop.rs485.set n none } })
    ∧ (∀ (s : State) (n : Fin 2) (a : Nat) (b : Bytes), s.rs485On n = true → a < 256 → a ≠ s.cfgN Obj.LOREF_RS485_ADDRESS →
        ∃ t : State, exec (.rs485Transfer n ((0x100 + a) :: b.map fun (x : Byte) => x.toNat)) s = .next t
          ∧ t = { s with ro := t.ro, uart := t.uart, lop := { s.lop with rs485 := s.lop.rs485.set n none } })
    ∧ (∀ (s : State) (n : Fin 2) (b : Bytes), s.lop.rs485[n] = some b → exec (.rs485GapTimeout n) s
        = .next (State.count { s with lop := { s.lop with rs485 := s.lop.rs485.set n none } } Obj.LOREF_RS485_ERR))
    ∧ (∀ (s : State) (n : Fin 2), s.lop.rs485[n] = none → exec (.rs485GapTimeout n) s = .next s)
    ∧ ∀ (s : State) (index status crc : Nat) (value : Bytes), s.mailboxReady = true → index < 2 ^ 16 → value.length ≤ 240 →
        (s.cfgN Obj.LOP1_ENABLE ≠ 0 →
          (crc = crc16 (lop1Body 1 index status value) → exec (.lop1Read ⟨0, false, 0, 0⟩ index status value crc) s
            = .next ((s.doorbellRung (lop1Octets 1 index status value crc)).runLop1Read ⟨0, false, 0, 0⟩ index))
          ∧ (crc = crc16 (lop1Body 2 index status value) → exec (.lop1Write ⟨0, false, 0, 0⟩ index status value crc) s
            = .next ((s.doorbellRung (lop1Octets 2 index status value crc)).runLop1Write ⟨0, false, 0, 0⟩ index value))
          ∧ (crc < 2 ^ 16 → crc ≠ crc16 (lop1Body 2 index status value) → exec (.lop1Write ⟨0, false, 0, 0⟩ index status value crc) s
            = .next ((s.doorbellRung (lop1Octets 2 index status value crc)).mbxFree 0)))
        ∧ (s.cfgN Obj.LOP1_ENABLE = 0 →
          exec (.lop1Read ⟨0, false, 0, 0⟩ index status value crc) s
            = .next ((s.doorbellRung (lop1Octets 1 index status value crc)).mbxFree 0)
          ∧ exec (.lop1Write ⟨0, false, 0, 0⟩ index status value crc) s
            = .next ((s.doorbellRung (lop1Octets 2 index status value crc)).mbxFree 0))

/-! ### Reset -/

/-- RESET_COUNT reads 1 after an AON power-on, rises by 1 at every later reset of core scope, and saturates. -/
def Obligations.ResetCountCounts : Prop :=
  (∀ (s : State) (vbat : Bool), ∃ t, exec (.aonPowerOn vbat) s = .next t ∧ t.start.count = 1)
    ∧ (∀ s : State, s.start.inReset = false → ∀ c ∈ [Instr.corePowerOn, .coreBrownOut, .pinReset 10000, .chipReset 1, .thermalReset],
        ∃ t, exec c s = .next t ∧ t.start.count = min 0xFFFFFFFF (s.start.count + 1))
    ∧ (∀ s : State, s.start.inReset = false → s.start.perst = false → s.cfgN Obj.PERST_SCOPE = 1 →
        ∃ t, exec .pcieReset s = .next t ∧ t.start.count = min 0xFFFFFFFF (s.start.count + 1))
    ∧ (∀ s : State, s.start.inReset = false → s.flt.supFailedAt.isSome = true →
        ∃ t, exec .supFailureReset s = .next t ∧ t.start.count = min 0xFFFFFFFF (s.start.count + 1))
    ∧ (∀ s : State, s.start.inReset = false → s.fw.trialEnd.isSome = true →
        ∃ t, exec .trialTimeout s = .next t ∧ t.start.count = min 0xFFFFFFFF (s.start.count + 1))
    ∧ ∀ s : State, s.start.inReset = false → s.fwActivateCheck 2 = 0 →
        ∃ t, exec (.fwActivate 2) s = .next t ∧ t.start.count = min 0xFFFFFFFF (s.start.count + 1)

/-- Resets of core scope complete (CORE_POWER_ON, CORE_BROWN_OUT, PIN_RESET, CHIP_RESET, THERMAL_RESET, SUP_FAILURE_RESET, TRIAL_TIMEOUT), each
with its source, keeping what flash, OTP and the AON region hold; a pin pulse below 1 µs does nothing; while a reset is active a further
source only joins it. The seal loop is not suspended by a presence window, whose end would zeroise.
The remaining resets complete (AON_POWER_ON, PCIE_RESET, PERST_N_DEASSERTION, THERMAL_RESET_RELEASE): an AON power-on restarts the tick
counter and the calendar, sets TIME_DOUBTFUL and keeps the Paddock banks, OTP and flash; PERST_N under PERST_SCOPE 0 resets HOST and
leaves sessions and transactions; its release and the release of a thermal reset end what they held. -/
def Obligations.ResetsComplete : Prop :=
  (∀ s : State, (s.sec.presClass ≠ 3 ∨ s.sec.sealHeld = false) →
    (s.start.inReset = false →
      (∃ t, exec .corePowerOn s = .next t ∧ s.resetBy t 1) ∧ (∃ t, exec .coreBrownOut s = .next t ∧ s.resetBy t 2)
      ∧ (∀ ns, 10000 ≤ ns → ∃ t, exec (.pinReset ns) s = .next t ∧ s.resetBy t 3)
      ∧ (∃ t, exec (.chipReset 1) s = .next t ∧ s.resetBy t 5)
      ∧ (∃ t, exec .thermalReset s = .next t ∧ s.resetBy t 7 ∧ t.start.thermalHeld = true)
      ∧ (s.flt.supFailedAt.isSome = true → ∃ t, exec .supFailureReset s = .next t ∧ s.resetBy t 8)
      ∧ (s.fw.trialEnd.isSome = true → ∃ t, exec .trialTimeout s = .next t ∧ s.resetBy t 9))
    ∧ (∀ ns, ns < 1000 → exec (.pinReset ns) s = .next s)
    ∧ (∀ ns, 1000 ≤ ns → ns < 10000 → exec (.pinReset ns) s = .next s.drawn ∨ exec (.pinReset ns) s = .next (s.drawn.coreReset 3))
    ∧ (∀ v, v ≠ 1 → exec (.chipReset v) s = .next s)
    ∧ (s.start.inReset = true → exec .coreBrownOut s = .next { s with start := { s.start with sources := s.start.sources ||| 4 } }))
    ∧ ((∀ (s : State) (vbat : Bool), ∃ t, exec (.aonPowerOn vbat) s = .next t ∧ t.aon.tick = 0 ∧ t.aon.cal = ⟨0, 0, 0, 0, 1, 1, 0⟩
      ∧ t.aon.doubtful = true ∧ t.aon.bank = s.aon.bank ∧ t.aon.hot = s.aon.hot ∧ t.fw.otp = s.fw.otp ∧ t.fw.slot = s.fw.slot
      ∧ t.flt.recFlash = s.flt.recFlash ∧ t.sec.store = s.sec.store ∧ t.cfg = [] ∧ t.ro = [] ∧ t.start.inReset = true
      ∧ t.aon.supply = if vbat then 1 else 0)
    ∧ (∀ s : State, s.start.perst = false → s.start.inReset = false → s.cfgN Obj.PERST_SCOPE ≠ 1 →
        ∃ t, exec .pcieReset s = .next t ∧ t.start.perst = true ∧ t.start.cause = s.start.cause ||| 16 ∧ t.start.count = s.start.count
          ∧ t.lop.sessions = s.lop.sessions ∧ t.mesh = s.mesh ∧ t.flock = s.flock ∧ t.rf = s.rf ∧ t.host.bar0 = [] ∧ t.host.irqStatus = 0
          ∧ t.host.busMaster = false ∧ t.lop.mbxBusy = false)
    ∧ (∀ s : State, s.start.perst = true → exec .pcieReset s = .next s)
    ∧ (∀ s : State, s.start.perst = true →
        exec .perstNDeassertion s = .next (State.wakeSource { s with start := { s.start with perst := false } } 5))
    ∧ ∀ s : State, exec .thermalResetRelease s = .next { s with start := { s.start with thermalHeld := false } })

/-! ### Start-up -/

/-- Start-up completes (STARTUP_SEQUENCE, REF_QUALIFICATION_END, DDR_TRAINING_ATTEMPT_END, START_DONE, CLOCK_RETRY): the release latches causes
and pins and goes through the OTP and flash steps, and so does SYS on its return from off; a held thermal reset is not released; a
qualification ends with its 32nd passing window in a row, each within 4 % of 260 or 100 edges, or after 5 ms, and goes on with its start-up or
its retry; a training attempt brings memory into service or another attempt; START_DONE is reached when no domain is still exiting. -/
def Obligations.StartUpCompletes : Prop :=
  (∀ (s : State) (pins ref : Nat) (j : Option (Nat × Nat)), s.start.inReset = true → s.start.thermalHeld = false →
      exec (.startupSequence pins ref j) s = .next (State.settled (State.bootSteps (State.aonDrain
        { s with start := { s.start with inReset := false, sources := 0, cause := s.start.sources ||| (if s.start.perst then 16 else 0)
                                         profPins := pins % 4, refSel := ref % 2, releasedAt := s.mono } }) j)))
    ∧ (∀ (s : State) (pins ref : Nat) (j : Option (Nat × Nat)), s.start.inReset = true → s.start.thermalHeld = true →
        exec (.startupSequence pins ref j) s = .next s.settled)
    ∧ (∀ (s : State) (pins ref : Nat) (j : Option (Nat × Nat)), s.start.inReset = false → s.start.bootDue = true →
        exec (.startupSequence pins ref j) s = .next (s.sysBoot.bootSteps j).settled)
    ∧ (∀ (s : State) (counts : List Nat) (bad failed : Nat), s.start.qual = some .startUp →
        exec (.refQualificationEnd counts bad failed) s = .next (State.settled (State.qualified (s.toMono (s.qualEndAt counts))
          (qualifiedAt s.start.refSel counts).isSome bad failed)))
    ∧ (∀ (s : State) (counts : List Nat) (bad failed : Nat), s.start.qual = some .retry → qualifiedAt s.start.refSel counts = none →
        exec (.refQualificationEnd counts bad failed) s = .next (State.settled (State.setAct
          { s.toMono (s.start.qualAt + 5 * msHalfNs) with start := { s.start with qual := none } } Obj.CLOCK_RETRY 0x12)))
    ∧ (∀ (ref n : Nat) (counts : List Nat), qualifiedAt ref counts = some n → 32 ≤ n ∧ n ≤ 500
        ∧ ∀ i, n - 32 ≤ i → i < n → ∃ k, counts[i]? = some k ∧ windowPasses ref k = true)
    ∧ (∀ k : Nat, (windowPasses 0 k = true ↔ 249600 ≤ 1000 * k ∧ 1000 * k ≤ 270400)
        ∧ (windowPasses 1 k = true ↔ 96000 ≤ 1000 * k ∧ 1000 * k ≤ 104000))
    ∧ (∀ (s : State) (size ranks : Nat), s.start.ddrTraining = true → s.start.st ≠ 2 → exec (.ddrTrainingAttemptEnd true size ranks) s
        = .next (State.settled { s with port := { s.port with ddr := 2, ddrSize := size, ddrRanks := ranks }
                                        start := { s.start with ddrTraining := false, ddrTries := s.start.ddrTries + 1 } }))
    ∧ (∀ (s : State) (size ranks : Nat), s.start.ddrTraining = true → s.start.ddrTries < 2 → exec (.ddrTrainingAttemptEnd false size ranks) s
        = .next (State.settled { s with start := { s.start with ddrTries := s.start.ddrTries + 1 } }))
    ∧ (∀ s : State, s.start.st = 3 → s.pwr.dom.any (fun x => x.st == 4) = false → s.start.trial = false →
        exec .startDone s = .next (State.settled (State.setIrq (State.raise
          { s with start := { s.start with st := 4, startTime := (s.mono - s.start.releasedAt) / usHalfNs % 2 ^ 32 } }
          Ev.START_DONE 0xFF s.start.flags ((s.mono - s.start.releasedAt) / usHalfNs % 2 ^ 32)) 4)))
    ∧ (∀ s : State, s.start.st ≠ 3 → exec .startDone s = .next s.settled)
    ∧ ∀ s : State, s.start.qual = none → ∃ t, exec (.clockRetry 1) s = .next t ∧ t = { s with act := t.act, rev := t.rev, start := t.start }
        ∧ t.start = { s.start with qual := some .retry, qualAt := s.mono } ∧ t.act = (s.setAct Obj.CLOCK_RETRY 1).act ∧ t.rev = (s.bumpRev Obj.CLOCK_RETRY).rev

/-! ### Firmware and profiles -/

/-- The firmware update completes (FW_STAGE_BEGIN, FW_STAGE, FW_VERIFY, FW_ACTIVATE, FW_CONFIRM): each in its slot state, and refused with no
effect in any other.
ROLLBACK_ADVANCE programs the steps of the thermometer up to its value, or those programmed before a power loss, when the value lies above the
floor and not above the running bundle's SVN, and no step is ever cleared; any other value changes nothing. -/
def Obligations.FirmwareUpdate : Prop :=
  ((∀ (s : State) (len : Nat), 1 ≤ len → len ≤ 16777216 → s.dir.trying = false → s.dir.seq + 1 < 2 ^ 32 →
      ∃ t, exec (.fwStageBegin len) s = .next t ∧ t = { s with fw := t.fw, act := t.act, rev := t.rev }
        ∧ t.dir.slotState s.target0 = 1 ∧ t.fw.slot[s.target0] = [] ∧ t.fw.stageLen = len
        ∧ t.fw.ops = s.fw.ops ++ [⟨Obj.FW_STAGE_BEGIN, slotAddr s.target0, s.target0, []⟩] ∧ t.actOf Obj.FW_STAGE_BEGIN = 1)
    ∧ (∀ (s : State) (len : Nat), (len = 0 ∨ 16777216 < len ∨ s.dir.trying = true) → exec (.fwStageBegin len) s = .next s)
    ∧ (∀ (s : State) (data : Bytes), s.dir.slotState s.target0 = 1 → (s.fw.slot[s.target0]).length + data.length ≤ 16777216 →
        exec (.fwStage (s.fw.slot[s.target0]).length data) s = .next (State.bumpRev
          { s with fw := { s.fw with slot := s.fw.slot.set s.target0 (s.fw.slot[s.target0] ++ data) } } Obj.FW_STAGE))
    ∧ (∀ (s : State) (offset : Nat) (data : Bytes), (s.dir.slotState s.target0 ≠ 1 ∨ offset ≠ (s.fw.slot[s.target0]).length) →
        exec (.fwStage offset data) s = .next s)
    ∧ (∀ s : State, (s.dir.slotState s.target0 = 1 ∨ s.dir.slotState s.target0 = 2) →
        exec (.fwVerify 0) s = .next (State.bumpRev (State.setAct
          { s with fw := { s.fw with ops := s.fw.ops ++ [⟨Obj.FW_VERIFY, slotAddr s.target0, s.target0, []⟩] } } Obj.FW_VERIFY 1) Obj.FW_VERIFY))
    ∧ (∀ s : State, s.dir.slotState s.target0 = 2 → s.dir.seq + 1 < 2 ^ 32 → ∃ t, exec (.fwActivate 1) s = .next t
        ∧ t = { s with cfg := t.cfg, rev := t.rev, fw := { s.fw with dir := t.fw.dir, ramDir := none } } ∧ t.dir.slotState s.target0 = 3)
    ∧ (∀ (s : State) (k : Fin 2), s.start.trial = true → s.dir.slotIn 4 = some k → k ≠ s.dir.active → s.dir.seq + 1 < 2 ^ 32 →
        ∃ t, exec (.fwConfirm 1) s = .next t
        ∧ t.dir.active = k ∧ t.dir.slotState k = 5 ∧ t.dir.slotState s.dir.active = 2 ∧ t.fw.trialEnd = none ∧ t.start.trial = false)
    ∧ ∀ (s : State) (v : Nat), s.start.trial = false → exec (.fwConfirm v) s = .next s)
    ∧ ((∀ (s : State) (v steps : Nat), s.rollbackCheck v = 0 → s.fw.otp.steps.length = 96 → ∃ t : State, exec (.rollbackAdvance v steps) s = .next t
        ∧ t = { s with cfg := t.cfg, rev := t.rev, fw := { s.fw with otp := { s.fw.otp with steps := t.fw.otp.steps } } }
        ∧ t.fw.otp.floor = min v (s.fw.otp.floor + steps) ∧ t.fw.otp.steps.length = 96
        ∧ ∀ (i : Nat) x, s.fw.otp.steps[i]? = some x → majority x = true → t.fw.otp.steps[i]? = some x)
      ∧ (∀ (s : State) (v steps : Nat), (v = 0 ∨ 96 < v ∨ v ≤ s.fw.otp.floor ∨ bundleSvn (s.fw.slot[s.dir.active]) < v ∨ s.dir.trying = true) →
        exec (.rollbackAdvance v steps) s = .next s)
      ∧ ∀ (s : State) (v : Nat), s.rollbackCheck v = 0 → s.fw.otp.steps.length = 96 →
          ∃ t, exec (.rollbackAdvance v 96) s = .next t ∧ t.fw.otp.floor = v)

/-- Profiles complete (PROFILE_APPLY, PROFILE_COMMIT, PROFILE_SAVE, PROFILE_STORE_DONE, PROFILE_STAGE, PROFILE_STAGE_CLEAR,
PROFILE_BOOT_OVERRIDE): a load runs and is counted as a write; a store begins in the slot that the old content does not stand in, and the new
content stands only once it is verified; staged
bytes enter at an offset within the content. -/
def Obligations.ProfilesComplete : Prop :=
  (∀ (s : State) (n : Nat), n ≤ 3 → exec (.profileApply n) s = .next ((s.loadProfile n).2.accept Obj.PROFILE_APPLY (scalar n)))
    ∧ (∀ (s : State) (n : Nat), 3 < n → exec (.profileApply n) s = .next s)
    ∧ (∀ (s : State) (n : Nat), s.commitCheck n = 0 → ∃ t, exec (.profileCommit n) s = .next t
        ∧ t = { s with cfg := t.cfg, rev := t.rev, act := t.act, fw := t.fw } ∧ t.fw.profile = s.fw.profile
        ∧ t.fw.ops = s.fw.ops ++ [⟨Obj.PROFILE_COMMIT, profileAddr n (s.profileSlot n), n, s.fw.stage⟩])
    ∧ (∀ (s : State) (n : Nat), s.commitCheck n ≠ 0 → exec (.profileCommit n) s = .next s.drawn)
    ∧ (∀ (s : State) (n : Nat), 1 ≤ n → n ≤ 3 → (s.savedProfile n).length ≤ 65536 → ∃ t, exec (.profileSave n) s = .next t
        ∧ t = { s with cfg := t.cfg, rev := t.rev, act := t.act, fw := t.fw } ∧ t.fw.profile = s.fw.profile
        ∧ t.fw.ops = s.fw.ops ++ [⟨Obj.PROFILE_SAVE, profileAddr n (s.profileSlot n), n, s.savedProfile n⟩])
    ∧ (∀ (s : State) (o : FlashOp), s.fw.ops.find? (fun o => o.index == Obj.PROFILE_COMMIT || o.index == Obj.PROFILE_SAVE) = some o → o.arg < 4 →
        numsWf s.act = true →
        (∃ t, exec (.profileStoreDone true) s = .next t ∧ t.fw.profileOf o.arg = o.data ∧ (∀ k, k ≠ o.arg → t.fw.profile[k]? = s.fw.profile[k]?)
          ∧ t.actOf o.index = 0)
        ∧ ∃ t, exec (.profileStoreDone false) s = .next t ∧ t.fw.profile = s.fw.profile ∧ t.actOf o.index ≠ 0)
    ∧ (∀ (s : State) (offset : Nat) (data : Bytes), offset ≤ s.fw.stage.length → offset + data.length ≤ 65536 →
        exec (.profileStage offset data) s = .next (State.bumpRev { s with fw := { s.fw with
          stage := s.fw.stage.take offset ++ data ++ s.fw.stage.drop (offset + data.length) } } Obj.PROFILE_STAGE))
    ∧ (∀ (s : State) (offset : Nat) (data : Bytes), s.fw.stage.length < offset → exec (.profileStage offset data) s = .next s)
    ∧ (∀ s : State, exec .profileStageClear s = .next (State.bumpRev { s with fw := { s.fw with stage := [] } } Obj.PROFILE_STAGE_CLEAR))
    ∧ ∀ (s : State) (v : Nat), (v ≤ 3 ∨ v = 0xFF) → s.dir.seq + 1 < 2 ^ 32 → ∃ t, exec (.profileBootOverride v) s = .next t
        ∧ t = { s with fw := { s.fw with dir := t.fw.dir, ramDir := none }, rev := t.rev } ∧ t.dir.bootOverride = v ∧ t.dir.active = s.dir.active

/-! ### Faults and events -/

/-- The fault region completes (SUMMARY_SECOND_END, ARCHIVE_PAGE_WRITE, FAULT_RELEASE, FAULT_CLEAR, FLASH_ACTION_DONE): a second with suppressed
occurrences is summed up; a page of at most 128 pending entries goes to the archive; a held region is released; the record area is
erased when its flash action ends well. -/
def Obligations.FaultRegionCompletes : Prop :=
  (∀ s : State, s.flt.windows.filter (fun w => w.suppressed != 0) = [] → exec .summarySecondEnd s = .next s)
    ∧ (∀ (s : State) (w0 : EventWindow), (s.flt.windows.filter fun w => w.suppressed != 0).getLast? = some w0 → s.time.monoSave = none →
        s.flt.windows.length ≤ 4096 → ∃ t : State, exec .summarySecondEnd s = .next t ∧ t.mono = max s.mono ((w0.second + 1) * secHalfNs)
          ∧ t.flt.windows = s.flt.windows.filter (fun w => w.second != w0.second)
          ∧ (∀ w ∈ s.flt.windows, w.suppressed ≠ 0 → w.second = w0.second → ∃ q, ⟨w.code, w.inst, 4, q, ts96 t.mono, w.suppressed, 0⟩ ∈ t.flt.log)
          ∧ t.flt.nextSeq = (s.flt.nextSeq + (s.flt.windows.filter fun w => w.suppressed != 0 && w.second == w0.second).length) % 2 ^ 32)
    ∧ (∀ s : State, s.flt.archPending ≠ [] → s.port.flashSt = 1 → 128 ≤ s.flt.archPending.length →
        exec (.archivePageWrite true) s = .next { s with flt := { s.flt with
          archive := (s.flt.archive ++ s.flt.archPending.take 128).drop ((s.flt.archive ++ s.flt.archPending.take 128).length - 524288)
          archPending := s.flt.archPending.drop 128, archSince := s.mono } })
    ∧ (∀ s : State, s.flt.archPending = [] → ∀ ok : Bool, exec (.archivePageWrite ok) s = .next s)
    ∧ (∀ (s : State) (v : Nat), s.releaseCheck v = 0 → exec (.faultRelease v) s
        = .next (State.settled (((State.regionReset { s with flt := { s.flt with
            held := s.flt.held.erase v, released := insertKey v s.mono s.flt.released } } v).raise (Ev.REGION_RELEASED v)).setIrq 1
            |>.bumpRev Obj.FAULT_RELEASE)))
    ∧ (∀ (s : State) (v : Nat), s.isHeld v = false → exec (.faultRelease v) s = .next s.settled)
    ∧ (∀ s : State, exec (.faultClear 1) s = .next (State.bumpRev (State.setAct
        { s with fw := { s.fw with ops := s.fw.ops ++ [⟨Obj.FAULT_CLEAR, 0x03100000, 0, []⟩] } } Obj.FAULT_CLEAR 1) Obj.FAULT_CLEAR))
    ∧ (∀ s : State, s.fw.ops = [⟨Obj.FAULT_CLEAR, 0x03100000, 0, []⟩] → numsWf s.act = true →
        ∃ t, exec (.flashActionDone Obj.FAULT_CLEAR true) s = .next t ∧ t.flt.recFlash = [] ∧ t.flt.records = s.flt.records ∧ t.fw.ops = []
          ∧ t.actOf Obj.FAULT_CLEAR = 0)
    ∧ ∀ (s : State) (index : Nat) (ok : Bool), s.fw.ops = [] → exec (.flashActionDone index ok) s = .next s

/-- Events are limited: within one second of TB_MONO the first 16 occurrences of a code and INSTANCE of class below 3 are logged, each further
one is only counted as suppressed; the log keeps the latest 4,096 entries. -/
def Obligations.EventsAreLimited : Prop :=
  (∀ (s : State) (code inst a b : Nat), s.sysUp = true → 16 ≤ (s.windowOf code inst).logged → eventClass code < 3 →
      (s.raise code inst a b).flt.log = s.flt.log ∧ ((s.raise code inst a b).windowOf code inst).suppressed = (s.windowOf code inst).suppressed + 1)
    ∧ (∀ (s : State) (code inst a b : Nat), s.sysUp = true → (s.windowOf code inst).logged < 16 →
        ⟨code, inst, 0, s.flt.nextSeq, ts96 s.mono, a, b⟩ ∈ (s.raise code inst a b).flt.log
        ∧ (s.raise code inst a b).flt.nextSeq = (s.flt.nextSeq + 1) % 2 ^ 32)
    ∧ (∀ (s : State) (code inst a b : Nat), s.flt.log.length ≤ 4096 → (s.raise code inst a b).flt.log.length ≤ 4096)
    ∧ ∀ (s : State) (code inst a b : Nat), s.sysUp = false → aonEvent code = true → s.aon.queue.length < 8 →
        s.raise code inst a b = { s with aon := { s.aon with queue := s.aon.queue ++ [⟨code, inst, 0, a, b, s.aon.tick⟩] } }

/-! ### Radio paths -/

/-- Commands to a path complete (TX_COMMAND, TX_ABORT, RX_ON, RX_OFF, TUNE, CAL_REQUEST): an accepted transmit command is queued in the order of
its start, a refused one ends at once with its status; each of the others acts as the path's state says. -/
def Obligations.PathCommandsComplete : Prop :=
  (∀ (s : State) (p : Fin 6) (r : TxReq), s.txAllowed = true →
      s.txReject p { s.txOfReq p r with handle := s.rf.nextHandle } = none →
      ∃ t : State, exec (.txCommand p r) s = .next (State.settled t) ∧ t = { s with rf := t.rf } ∧ (∀ q, q ≠ p → t.path q = s.path q)
        ∧ (t.path p).queue = insertByStart { s.txOfReq p r with handle := s.rf.nextHandle } (s.path p).queue
        ∧ (t.path p).st = (s.path p).st ∧ t.rf.nextHandle = s.rf.nextHandle + 1)
    ∧ (∀ (s : State) (p : Fin 6) (r : TxReq) (st : Nat), (s.path p).st = 0 → s.txReject p { s.txOfReq p r with handle := s.rf.nextHandle } = some st →
        st = 0x0B ∧ exec (.txCommand p r) s = .next (State.settled (State.endCmd { s with rf := { s.rf with nextHandle := s.rf.nextHandle + 1 } } p
          { s.txOfReq p r with handle := s.rf.nextHandle } st s.air s.air)))
    ∧ (∀ (s : State) (p : Fin 6) (h : Nat), 3 ≤ (s.path p).st → (s.path p).st ≤ 6 → (s.path p).running = none →
        exec (.txAbort p (some h)) s = .next (s.abortPending p h).settled)
    ∧ (∀ (s : State) (p : Fin 6) (r : Running), (s.path p).st = 7 → (s.path p).running = some r →
        exec (.txAbort p (some r.cmd.handle)) s = .next (s.cutTx p 0x09).settled ∧ exec (.txAbort p none) s = .next (s.cutTx p 0x09).settled)
    ∧ (∀ (s : State) (p : Fin 6) (h : Option Nat), ((s.path p).st = 0 ∨ (s.path p).st = 1 ∨ (s.path p).st = 9) →
        exec (.txAbort p h) s = .next s)
    ∧ (∀ (s : State) (p : Fin 6), (s.path p).st = 0 → exec (.rxOn p) s = .next { s with outbox := .txEnd p 0 0x0B none :: s.outbox })
    ∧ (∀ (s : State) (p : Fin 6), (s.path p).st = 9 → s.cfgN (inst Obj.RF_PATH_ENABLE p) ≠ 0 →
        exec (.rxOn p) s = .next { s with outbox := .txEnd p 0 0x0A none :: s.outbox })
    ∧ (∀ (s : State) (p : Fin 6), (s.path p).st = 3 → s.cfgN (inst Obj.RF_PATH_ENABLE p) ≠ 0 →
        exec (.rxOn p) s = .next ((s.putPath p { s.path p with rxEnabled := true }).settlePath p))
    ∧ (∀ (s : State) (p : Fin 6), (s.path p).st = 5 → s.cfgN (inst Obj.RF_PATH_ENABLE p) ≠ 0 → exec (.rxOn p) s = .next s)
    ∧ (∀ (s : State) (p : Fin 6), (s.path p).st = 5 → exec (.rxOff p) s
        = .next ((s.putPath p { s.path p with rxEnabled := false, waitRxOn := false, st := 3 }).settlePath p))
    ∧ (∀ (s : State) (p : Fin 6), ((s.path p).st = 0 ∨ (s.path p).st = 3) → exec (.rxOff p) s = .next s)
    ∧ (∀ (s : State) (p : Fin 6) (khz frames : Nat), sliceOk p khz = false → exec (.tune p khz frames) s = .next s)
    ∧ (∀ (s : State) (p : Fin 6) (khz frames : Nat), sliceOk p khz = true → (s.path p).st = 1 → ∃ t : State, exec (.tune p khz frames) s = .next (State.settled t)
        ∧ t = { s with cfg := t.cfg, rev := t.rev, rf := t.rf } ∧ (t.path p).centre = khz ∧ (∀ q, q ≠ p → t.path q = s.path q)
        ∧ t.rev = (s.bumpRev (inst Obj.RF_SLICE_CENTRE p)).rev)
    ∧ (∀ (s : State) (p : Fin 6) (bits : Nat), bits.testBit 0 = true → ((s.path p).st = 0 ∨ (s.path p).st = 1) →
        ∃ t : State, exec (.calRequest p bits) s = .next ((State.settled t).bumpRev (inst Obj.RF_CAL_REQUEST p)) ∧ 1 ∈ (t.path p).calQueue ∧ (∀ i ∈ (s.path p).calQueue, i < 10 → 0 < i → i ∈ (t.path p).calQueue))
    ∧ ∀ (s : State) (p : Fin 6) (bits : Nat), bits % 512 = 0 →
        exec (.calRequest p bits) s = .next (s.settled.bumpRev (inst Obj.RF_CAL_REQUEST p))

/-- A transmission runs its course (TX_DUE, TX_DEADLINE, TX_SETUP_START, TX_START, TX_END, TURN_RX_END): due at S − 220 µs, set up at S − 48 µs
with the lanes blanked, on air at S with the entry that the power rules choose, done at E, receiving again at E + 48 µs. -/
def Obligations.TransmissionRuns : Prop :=
  (∀ (s : State) (p : Fin 6) (c : TxCmd) (q : List TxCmd), (s.path p).queue = c :: q → s.firstBooked p = none →
      exec (.txDue p) s = .next ((s.toAir (c.start - 220 * usHalfNs)).headDue p).settled)
    ∧ (∀ (s : State) (p : Fin 6), (s.path p).queue = [] → s.firstBooked p = none → exec (.txDue p) s = .next s.settled)
    ∧ (∀ (s : State) (p : Fin 6) (rssi : Int), (s.path p).queue = [] → (s.path p).st ≠ 6 → exec (.txDeadline p rssi) s = .next s.settled)
    ∧ (∀ (s u : State) (p : Fin 6) (c : TxCmd) (q : List TxCmd) (rssi : Int), (s.path p).queue = c :: q → (s.path p).st ≠ 6 →
        u = (s.toAir (c.start - s.lead p)).putPath p { s.path p with due := true } → s.air ≤ c.start - s.lead p →
        u.startBar p c = none → u.readyFor p c = true → u.lbtBusy c rssi = false →
        exec (.txDeadline p rssi) s = .next (State.settled (u.putPath p { s.path p with due := true, late := false, judged := true })))
    ∧ (∀ (s : State) (p : Fin 6) (frames : Nat) (c : TxCmd) (q : List TxCmd), (s.path p).queue = c :: q → (s.path p).st = 5 → (s.path p).late = false →
        inSlice p (s.path p).centre c.carrier = true → s.air ≤ c.start - 48 * usHalfNs →
        exec (.txSetupStart p frames) s
          = .next (State.settled (((s.toAir (c.start - 48 * usHalfNs)).count (inst Obj.RF_RX_PREEMPTED p) 0 0 frames).putPath p
          { s.path p with queue := q, due := false, judged := false, late := false, st := 6, running := some ⟨c, c.start, 0, false, (s.path p).judged⟩ })))
    ∧ (∀ (s : State) (p : Fin 6) (frames : Nat), (s.path p).st ≠ 5 → (s.path p).st ≠ 8 → exec (.txSetupStart p frames) s = .next s.settled)
    ∧ (∀ (s u : State) (p : Fin 6) (r : Running) (n : Nat) (k : PwrPick), (s.path p).st = 6 → (s.path p).running = some r → u = s.toAir r.start →
        k = u.pickPower p r.cmd.carrier r.cmd.mode r.cmd.pwr → k.entry = some n →
        exec (.txStart p) s = .next (State.settled (State.emit (State.countPower (u.putPath p { s.path p with
          st := 7, running := some { r with entry := n, onAir := true } }) p k)
          (.air p r.start r.cmd.carrier r.cmd.mode n r.cmd.frame (s.phyOf p r.cmd)))))
    ∧ (∀ (s u : State) (p : Fin 6) (r : Running), (s.path p).st = 6 → (s.path p).running = some r → u = s.toAir r.start →
        (u.pickPower p r.cmd.carrier r.cmd.mode r.cmd.pwr).entry = none →
        exec (.txStart p) s = .next (State.settled ((u.endCmd p r.cmd (u.pickPower p r.cmd.carrier r.cmd.mode r.cmd.pwr).status r.start r.start).afterTx p false)))
    ∧ (∀ (s u : State) (p : Fin 6) (r : Running), (s.path p).st = 7 → (s.path p).running = some r → u = s.toAir (r.start + r.cmd.duration) →
        exec (.txEnd p) s = .next (State.settled ((u.endCmd p r.cmd 0 r.start u.air).afterTx p true)))
    ∧ (∀ (s : State) (p : Fin 6), (s.path p).st = 8 → exec (.turnRxEnd p) s = .next (State.settled (State.settlePath
        ((s.toAir ((s.path p).turnAt + 48 * usHalfNs)).putPath p { s.path p with st := if (s.path p).rxEnabled then 5 else 3 }) p)))
    ∧ ∀ (s : State) (p : Fin 6), (s.path p).st ≠ 7 → (s.path p).st ≠ 8 →
        exec (.txEnd p) s = .next s.settled ∧ exec (.turnRxEnd p) s = .next s.settled

/-- Locks and transmitter guards complete (LOCK_ACHIEVED, LOCK_TIMEOUT, SYNTH_LOCK_LOSS, TX_TIMEOUT, RF_TX_REARM): a lock brings the path to RX or
STANDBY when nothing is due; it is tried twice, then the path is in FAULT; a transmitter left on is cut, the path inhibited until it is rearmed.
Calibration, temperature and the lock record complete (CAL_STEP_END, DIE_TEMP_MEASUREMENT, REG_LOCK_PROGRAM): a step that is not the last
counts; an item that fails is tried again, then falls back to its OTP values; a junction temperature sets the thermal steps; a valid record
is programmed into the first slot that may take it, while a PROVISION window is open, and no other write of it has an effect. -/
def Obligations.LocksGuardsAndCalibration : Prop :=
  ((∀ (s : State) (p : Fin 6), (s.path p).st = 4 → (s.path p).queue = [] → (s.path p).lockCarrier = none →
      exec (.lockAchieved p) s = .next (State.settled (State.settlePath (s.putPath p { s.path p with
        lockedAt := s.air, st := if (s.path p).rxEnabled then 5 else 3, lockCarrier := none }) p)))
    ∧ (∀ (s : State) (p : Fin 6), (s.path p).st ≠ 4 → exec (.lockAchieved p) s = .next s.settled ∧ exec (.lockTimeout p) s = .next s.settled)
    ∧ (∀ (s : State) (p : Fin 6), (s.path p).st = 4 → (s.path p).lockTry < 2 → s.time.counting = true →
        exec (.lockTimeout p) s = .next (State.settled (((s.toAir ((s.path p).lockAt + 150 * usHalfNs)).putPath p { s.path p with
          lockTry := 2, lockAt := max s.air ((s.path p).lockAt + 150 * usHalfNs) }).raise Ev.SYNTH_UNLOCK p 1)))
    ∧ (∀ (s : State) (p : Fin 6), (s.path p).st = 4 → 2 ≤ (s.path p).lockTry →
        exec (.lockTimeout p) s = .next (State.settled (State.endQueue (((s.toAir ((s.path p).lockAt + 150 * usHalfNs)).putPath p
          { s.path p with st := 9, lockCarrier := none, cal := none }).raise Ev.SYNTH_UNLOCK p 2) p 0x0A)))
    ∧ (∀ (s : State) (p : Fin 6), (s.path p).st = 7 → exec (.synthLockLoss p) s = .next (s.cutTx p 0x09).settled)
    ∧ (∀ (s : State) (p : Fin 6) (r : Running), (s.path p).st = 7 → (s.path p).running = some r → r.onAir = true →
        s.cutTx p 0x09 = State.afterTx (State.endCmd (s.advance (4 * usHalfNs)) p r.cmd 0x09 r.start (s.advance (4 * usHalfNs)).air) p true)
    ∧ (∀ (s : State) (p : Fin 6), (s.path p).st ≠ 7 → exec (.synthLockLoss p) s = .next s ∧ exec (.txTimeout p) s = .next s.settled)
    ∧ (∀ (s u : State) (p : Fin 6) (r : Running), (s.path p).st = 7 → (s.path p).running = some r →
        u = s.toAir (min (r.start + r.cmd.duration + 100 * usHalfNs) (r.start + s.cfgN (inst Obj.RF_TX_MAX_MS p) * msHalfNs)) →
        exec (.txTimeout p) s = .next (State.settled (State.count (State.raise (State.endQueue (State.afterTx
          ((u.endCmd p r.cmd 0x0C r.start u.air).putPath p { s.path p with inhibit := true }) p true) p 0x07) Ev.TX_TIMEOUT p)
          (inst Obj.RF_TX_TIMEOUTS p))))
    ∧ (∀ (s : State) (p : Fin 6), exec (.rfTxRearm p 1) s
        = .next ((s.putPath p { s.path p with inhibit := false }).bumpRev (inst Obj.RF_TX_REARM p)))
    ∧ ∀ (s : State) (p : Fin 6) (v : Nat), v ≠ 1 → exec (.rfTxRearm p v) s = .next s)
    ∧ ((∀ (s : State) (p : Fin 6) (c : CalRun) (i : Nat) (is : List Nat) (pass : Bool) (v : Nat) (rx : List Nat), (s.path p).st = 2 →
        (s.path p).cal = some c → c.items = i :: is → (c.startUp = true ∨ (s.path p).due = false) → exec (.calStepEnd p false pass v rx) s
          = .next (State.settled ((s.putPath p { s.path p with cal := some { c with steps := c.steps + 1 } }).stepDone p c i)))
    ∧ (∀ (s : State) (p : Fin 6) (c : CalRun) (i : Nat) (is : List Nat) (v : Nat) (rx : List Nat), (s.path p).st = 2 → (s.path p).cal = some c →
        c.items = i :: is → c.retried = false → (c.startUp = true ∨ (s.path p).due = false) → exec (.calStepEnd p true false v rx) s
          = .next (State.settled ((s.putPath p { s.path p with cal := some { c with retried := true, steps := 0 } }).stepDone p c i)))
    ∧ (∀ (s : State) (p : Fin 6) (c : CalRun) (i : Nat) (is : List Nat) (last pass : Bool) (v : Nat) (rx : List Nat), (s.path p).st = 2 →
        (s.path p).cal = some c → c.items = i :: is → (last && (pass || c.retried)) = false → c.startUp = false → (s.path p).due = true →
        exec (.calStepEnd p last pass v rx) s = .next (s.preemptCal p c i).settled)
    ∧ (∀ (s : State) (p : Fin 6) (c : CalRun) (i : Nat) (is : List Nat) (v : Nat) (rx : List Nat), (s.path p).st = 2 → (s.path p).cal = some c →
        c.items = i :: is → c.retried = true →
        (∀ w, s.factory p i = some w → exec (.calStepEnd p true false v rx) s
          = .next (State.settled ((((s.calResult p i 2).calValue p i w).raise Ev.CAL_FALLBACK p i).nextItem p c i)))
        ∧ (s.factory p i = none → i ≤ 3 → exec (.calStepEnd p true false v rx) s = .next (State.settled (State.endQueue
            (State.putPath ((s.calResult p i 3).raise Ev.CAL_FAIL p i) p
              { (s.calResult p i 3).path p with st := 9, cal := none, running := none }) p 0x0A))))
    ∧ (∀ (s : State) (p : Fin 6) (c : CalRun) (i : Nat) (is : List Nat) (v : Nat) (rx : List Nat), (s.path p).st = 2 → (s.path p).cal = some c →
        c.items = i :: is →
        exec (.calStepEnd p true true v rx) s = .next (State.settled (((s.calResult p i 1).calValue p i ⟨v, rx⟩).nextItem p c i)))
    ∧ (∀ (s : State) (p : Fin 6) (l a : Bool) (v : Nat) (rx : List Nat), (s.path p).st ≠ 2 → exec (.calStepEnd p l a v rx) s = .next s.settled)
    ∧ (∀ (s : State) (x : Int), (∀ p : Fin 6, (s.path p).st = 0) → exec (.dieTempMeasurement x) s = .next { s with rf := { s.rf with
        dieTemp := max (-128) (min 127 x), thermalSteps := thermalSteps s.rf.thermalSteps (s.cfgN Obj.RF_THERMAL_BACKOFF_T) x } })
    ∧ (∀ (s : State) (r : Bytes) (i : Fin 2), s.sec.presClass = 1 → lockWriteOk r = true → s.lockSlot = some i →
        ∃ t, exec (.regLockProgram r) s = .next t ∧ t = { s with cfg := t.cfg, rev := t.rev, fw := { s.fw with otp := t.fw.otp } }
          ∧ t.fw.otp = { s.fw.otp with lock := s.fw.otp.lock.set i r })
    ∧ ∀ (s : State) (r : Bytes), (s.sec.presClass ≠ 1 ∨ lockWriteOk r = false ∨ s.lockSlot = none) → exec (.regLockProgram r) s = .next s)

/-- Frames are received (FRAME_RECEIVED, LEGACY_FRAME_RECEIVED): only by a lane that hears them and is free; the twin with the lower RSSI is
counted and dropped; one with a bad FCS, an invalid length or a bad header is counted and discarded; one that passes every check is delivered
and its counter kept; a legacy frame with a good CRC goes to ring 3 with its record, one with a bad CRC is counted. -/
def Obligations.FramesReceived : Prop :=
  (∀ (s : State) (f : AirFrame), s.laneHears f.path f.lane f.mode f.cfo = false → exec (.frameReceived f) s = .next s)
    ∧ (∀ (s : State) (f0 f : AirFrame), f = { f0 with stamp := s.antennaTime f0.path f0.mode f0.stamp } →
        s.laneHears f.path f.lane f.mode f.cfo = true → s.cfgN Obj.MESH_PAN_ID ≠ 0xFFFF → s.isHeld 7 = false →
        s.laneBusy f.path f.lane f.stamp = true → exec (.frameReceived f0) s = .next (s.count (inst Obj.MESH_LANE_BUSY f.path) f.lane))
    ∧ (∀ (s u : State) (f0 f : AirFrame), f = { f0 with stamp := s.antennaTime f0.path f0.mode f0.stamp } →
        s.laneHears f.path f.lane f.mode f.cfo = true → s.cfgN Obj.MESH_PAN_ID ≠ 0xFFFF → s.isHeld 7 = false →
        s.laneBusy f.path f.lane f.stamp = false →
        u = ((s.laneTaken f.path f.lane f.stamp (f.stamp + (airTime f.mode f.len (s.preamble f.path) f.fec - tShr f.mode (s.preamble f.path)))).agc
          f.path f.agc).count (inst Obj.MESH_LANE_BUSY f.path) f.lane 0 f.busy →
        (u.beaten f.path f.lane f.mode f.stamp (airPhr f) f.rssi f.twins = true →
          exec (.frameReceived f0) s = .next (u.count (inst Obj.MESH_DUP_LANE f.path)))
        ∧ (u.beaten f.path f.lane f.mode f.stamp (airPhr f) f.rssi f.twins = false →
          (f.fcsOk = false → exec (.frameReceived f0) s = .next (u.count (inst Obj.MESH_FCS_ERR f.path) f.lane))
          ∧ (f.fcsOk = true → (f.ms = true ∨ f.len = 0) → exec (.frameReceived f0) s = .next (u.count (inst Obj.MESH_PHR_ERR f.path) f.lane))
          ∧ (f.fcsOk = true → phrOk f = true → fcOk f.fc = false → exec (.frameReceived f0) s = .next (u.count (inst Obj.MESH_MHR_ERR f.path)))
          ∧ ∀ (w x : State) (valid : Bool) (top seen key asn : Nat) (a : Option Nat), f.fcsOk = true → phrOk f = true → fcOk f.fc = true →
            f.pan = u.cfgN Obj.MESH_PAN_ID → some f.secCtrl = secCtrlFor f.fc → iesOk f = true →
            w = u.count (inst Obj.MESH_IE_SKIPPED f.path) 0 0 (unknownIes f.ies) →
            (fcPre f.fc = true ∨ (tagInvalid ((addrOf f.ies).getD (0xFFFFFF, 0)).1 = false
              ∧ tagInvalid ((addrOf f.ies).getD (0xFFFFFF, 0)).2 = false ∧ w.destOk ((addrOf f.ies).getD (0xFFFFFF, 0)).1 = true)) →
            w.srcKnown f = true → w.replayOf (srcKey f) f.key = (valid, top, seen) → replayCheck valid top seen f.counter = .fresh →
            w.isHeld 2 = false → w.secServes = true → w.frameKey f = some key → w.micCheck f key = (some (asn, a), x) → payloadOk f = true →
            exec (.frameReceived f0) s = .next (State.deliver (x.putReplay (srcKey f) f.key (replayNext valid top seen f.counter).1
              (replayNext valid top seen f.counter).2) f ⟨asn, a, false⟩)))
    ∧ (∀ (s : State) (f : AirFrame) (top seen : Nat), s.replayOf (srcKey f) f.key = (true, top, seen) →
        replayCheck true top seen f.counter = .replay → s.secureCheck f = s.count Obj.LINK_REPLAY)
    ∧ (∀ (s : State) (f : LegacyFrame), s.laneHears f.path f.lane 0x20 f.cfo = false → exec (.legacyFrameReceived f) s = .next s)
    ∧ ∀ (s u : State) (f0 f : LegacyFrame), f = { f0 with stamp := s.antennaTime f0.path 0x20 f0.stamp } →
        s.laneHears f.path f.lane 0x20 f.cfo = true → s.laneBusy f.path f.lane f.stamp = false →
        u = ((s.laneTaken f.path f.lane f.stamp (f.stamp + unitsAt (8 * (f.psdu.length + 1)) 50)).agc f.path f.agc).count
          (inst Obj.MESH_LANE_BUSY f.path) f.lane 0 f.busy →
        u.beaten f.path f.lane 0x20 f.stamp f.psdu.length f.rssi f.twins = false → psduOk 0x20 f.psdu.length = true →
        exec (.legacyFrameReceived f0) s = .next (
          if crc16 (BitVec.ofNat 8 f.psdu.length :: f.psdu.take (f.psdu.length - 2)) = leAt f.psdu (f.psdu.length - 2) 2 then
            (u.count (inst Obj.MESH_RX_FRAMES f.path) f.lane).postRing 3 (.ulFrame 0xFFFFFFFF 2 false
              (u.rxRecord f.path f.lane 0x20 f.stamp f.rssi f.snr f.cfo false false true) 0 f.psdu)
          else u.count (inst Obj.MESH_FCS_ERR f.path) f.lane)

/-- The replay window: once a counter has been accepted, no frame with that counter is NEW again, a counter 64 or more below the highest is a
REPLAY, and the highest counter never falls. -/
def Obligations.ReplayWindow : Prop :=
  ∀ (valid : Bool) (top seen k : Nat), replayCheck valid top seen k = .fresh → seen < 2 ^ 64 →
    replayCheck true (replayNext valid top seen k).1 (replayNext valid top seen k).2 k = .duplicate
    ∧ (∀ j, j + 64 ≤ (replayNext valid top seen k).1 → replayCheck true (replayNext valid top seen k).1 (replayNext valid top seen k).2 j = .replay)
    ∧ (∀ j, valid = true → replayCheck true top seen j ≠ .fresh →
        replayCheck true (replayNext valid top seen k).1 (replayNext valid top seen k).2 j ≠ .fresh)
    ∧ (valid = true → top ≤ (replayNext valid top seen k).1)

/-! ### Mesh and links -/

/-- Accepted node frames are worked on (HOST_DATA_FRAME, KEEP_ALIVE, ALERT_RESPONSE, ACK_RECEIVED, ASSOC_REQ, DISASSOC, CHMAP_ACK,
NEIGHBOUR_BEACON): the oldest accepted frame of the kind leaves the list and has its effect, application data goes to ring 3 exactly once;
without one nothing changes. -/
def Obligations.NodeFramesComplete : Prop :=
  (∀ (s u : State) (x : RxFrame), s.takeFrame (isData 1) = some (x, u) → exec .hostDataFrame s = .next (State.settled (
      if x.dup then u.dataFrame x else (u.dataFrame x).postRing 3 (.ulFrame x.record 1 x.via.isSome x.recordBytes x.src x.data))))
    ∧ (∀ (s u : State) (x : RxFrame), s.takeFrame (isData 4) = some (x, u) → exec .keepAlive s = .next (u.dataFrame x).settled)
    ∧ (∀ (s u : State) (x : RxFrame), s.takeFrame (isData 5) = some (x, u) → u.alertOf x = none → exec .alertResponse s = .next (u.dataFrame x).settled)
    ∧ (∀ (s u v : State) (x : RxFrame) (t : Txn) (r : FlockRec) (e : Int), s.takeFrame (isData 5) = some (x, u) → x.untimed = false →
        u.alertOf x = some t → u.recOf x.record = some r →
        e = timingError x.stamp (u.replyExp r (t.start - 4 * usHalfNs) t.mode x.path) (r.drift.pendC * 1000) →
        v = ((u.countUplink x.record).contact x.record x.stamp e (some (x.temp, x.supply, x.missed))).etxEvent x.record true →
        exec .alertResponse s = .next (State.settled (if t.gap = 0 then v.sendTxnReply x.path (v.replyCarrier x) t (x.last + 464 * usHalfNs) 1
          else (v.putTxn { t with st := .onAir, stage := 1 }).answer x e)))
    ∧ (∀ (s u : State) (x : RxFrame), s.takeFrame (fun x => x.frameType == 2) = some (x, u) → u.ackedTxn x = none →
        exec .ackReceived s = .next u.settled)
    ∧ (∀ (s u v : State) (x : RxFrame) (t : Txn), s.takeFrame (fun x => x.frameType == 2) = some (x, u) → u.ackedTxn x = some t → t.kind = .hostData →
        v = (u.ackContact x t).endTxn { t with attempts := t.attempts + 1 } 0 (((u.recOf t.flock).map (·.link.relayed)).getD false) →
        (∀ r, v.recOf t.flock = some r → r.cfg.cls ≠ 0x0A) → exec .ackReceived s = .next v.settled)
    ∧ (∀ (s u : State) (x : RxFrame), s.takeFrame (isCommand 0x80) = some (x, u) → (x.dup = true ∨ u.assocForUs x = false) →
        exec .assocReq s = .next u.settled)
    ∧ (∀ (s u : State) (x : RxFrame) (st : Nat), s.takeFrame (isCommand 0x80) = some (x, u) → x.dup = false → u.assocForUs x = true →
        u.assocStatus ((u.findEui x.eui).bind u.recOf) (leAt x.data 0 1) x.path (leAt x.data 1 2) = st → st ≠ 0 →
        exec .assocReq s = .next ((u.count Obj.LINK_ASSOC_COUNTS st).refuseAssoc x (u.findEui x.eui) st).settled)
    ∧ (∀ (s u : State) (x : RxFrame) (f : Nat) (r : FlockRec), s.takeFrame (isCommand 0x80) = some (x, u) → x.dup = false → u.assocForUs x = true →
        u.findEui x.eui = some f → u.recOf f = some r → u.assocStatus (some r) (leAt x.data 0 1) x.path (leAt x.data 1 2) = 0 →
        r.cfg.cls = leAt x.data 0 1 →
        exec .assocReq s = .next (State.settled (((u.count Obj.LINK_ASSOC_COUNTS 0).setRec f r).acceptAssoc x f r
          (leAt x.data 1 2) (leAt x.data 3 1) (leAt x.data 4 4))))
    ∧ (∀ (s u : State) (x : RxFrame), s.takeFrame (isCommand 0x82) = some (x, u) →
        exec .disassoc s = .next (State.settled (if x.dup then u.dataFrame x else (u.dataFrame x).detach x.record 0x25)))
    ∧ (∀ (s u : State) (x : RxFrame) (r : FlockRec) (c : ChUpdate), s.takeFrame (isCommand 0x83) = some (x, u) →
        u.recOf x.record = some r → u.mesh.per[x.path].update = some c →
        exec .chmapAck s = .next (State.settled (State.dataFrame (if r.link.path = x.path.val ∧ sentValue r c (leAt x.data 0 2) = true then
          u.modRec x.record fun r => { r with link := { r.link with confirmed := true } } else u) x)))
    ∧ (∀ (s u : State) (x : RxFrame), s.takeFrame (isCommand 0x83) = some (x, u) → u.mesh.per[x.path].update = none →
        exec .chmapAck s = .next (u.dataFrame x).settled)
    ∧ (∀ (s u : State) (x : RxFrame) (i : Fin 16), s.takeFrame (fun x => x.frameType == 0) = some (x, u) →
        (List.finRange 16).find? (fun (i : Fin 16) => u.cfgN Obj.MESH_NBR_CFG i 0 != 0 && u.cfgN Obj.MESH_NBR_CFG i 1 == x.src) = some i →
        (u.nbrHears (u.nbrView i) x = false → exec .neighbourBeacon s = .next u)
        ∧ (u.nbrHears (u.nbrView i) x = true → exec .neighbourBeacon s = .next (
          let v := u.setNbr i ⟨1, 0, ts96 x.stamp, min ((u.mesh.nbr[i]).heard + 1) 0xFFFFFFFF, (u.mesh.nbr[i]).missed⟩;
          if (u.mesh.nbr[i]).st = 2 ∨ (u.mesh.nbr[i]).st = 3 then v.raise Ev.NBR_RETURNED i else v)))
    ∧ ∀ s : State, s.mesh.accepted = [] → ∀ k ∈ [Instr.hostDataFrame, .keepAlive, .alertResponse, .ackReceived, .assocReq, .disassoc, .chmapAck],
        exec k s = .next s.settled

/-- An accepted association gives the node a JOINING link with the next generation of its tag, a mode that both sides serve, and a slot from 1
to 61; an existing link of the node ends first. -/
def Obligations.AssociationGivesALink : Prop :=
  ∀ (s : State) (x : RxFrame) (f : Nat) (r : FlockRec) (caps drift fw : Nat), s.linkModes x.path caps ≠ [] → x.via = none → r.link.st = 0 →
    s.recOf f = some r →
    ∃ q, (s.acceptAssoc x f r caps drift fw).recOf f = some q ∧ q.link.st = 1
      ∧ q.link.gen = (if r.link.gen = 0xF then 0 else (r.link.gen + 1) % 15) ∧ q.link.mode ∈ s.linkModes x.path caps
      ∧ 1 ≤ q.link.slot ∧ q.link.slot ≤ 61 ∧ 1 ≤ q.link.period ∧ q.link.path = x.path.val ∧ q.cfg = r.cfg ∧ q.drift.misses = 0

/-- Windows, supervision and the transaction table (NBR_BEACON_WINDOW_END, NBR_SUPERVISION_EXPIRY, LISTEN_WINDOW_END,
LINK_SUPERVISION_TIMEOUT, REPLY_WINDOW_END, TXN_BOOKING, TXN_DEADLINE): each acts on the neighbour, link or transaction it names; one that
names none changes nothing but what can move on. -/
def Obligations.MeshTimersComplete : Prop :=
  (∀ (s u : State) (i : Fin 16), s.cfgN Obj.MESH_NBR_CFG i 0 ≠ 0 → u = s.toNbrEnd (s.nbrView i) →
      (u.deaf (s.nbrView i) = true → exec (.nbrBeaconWindowEnd none i) s = .next u)
      ∧ (u.deaf (s.nbrView i) = false → (s.mesh.nbr[i]).misses < 2 → exec (.nbrBeaconWindowEnd none i) s = .next (u.setNbr i { s.mesh.nbr[i] with
          misses := (s.mesh.nbr[i]).misses + 1, missed := min ((s.mesh.nbr[i]).missed + 1) 0xFFFFFFFF }))
      ∧ (u.deaf (s.nbrView i) = false → (s.mesh.nbr[i]).misses = 2 → (s.mesh.nbr[i]).st = 1 →
          exec (.nbrBeaconWindowEnd none i) s = .next ((u.setNbr i { s.mesh.nbr[i] with
            misses := 3, missed := min ((s.mesh.nbr[i]).missed + 1) 0xFFFFFFFF, st := 2 }).raise Ev.NBR_LOST i)))
    ∧ (∀ (s u : State) (i : Fin 16) (f : Nat) (r : FlockRec), s.recOf f = some r → r.cfg.cls = 0x0C → r.link.st ≠ 0 →
        u = s.toNbrEnd (relayView r) → u.deaf (relayView r) = false → exec (.nbrBeaconWindowEnd (some f) i) s = .next (u.relayMiss f))
    ∧ (∀ (s : State) (i : Fin 16), (s.mesh.nbr[i]).st = 2 → exec (.nbrSupervisionExpiry none i) s = .next (
        let u := s.toAir (ts96Half (s.mesh.nbr[i]).lastHeard + s.cfgN Obj.MESH_NBR_CFG i 7 * secHalfNs);
        (u.setNbr i { s.mesh.nbr[i] with st := 3 }).raise Ev.NBR_EXPIRED i))
    ∧ (∀ (s : State) (i : Fin 16), (s.mesh.nbr[i]).st ≠ 2 → exec (.nbrSupervisionExpiry none i) s = .next s)
    ∧ (∀ (s : State) (f : Nat) (retry : Bool), s.recOf f = none → exec (.listenWindowEnd f retry) s = .next s.settled
        ∧ exec (.linkSupervisionTimeout f) s = .next s.settled)
    ∧ (∀ (s u : State) (f : Nat) (r : FlockRec), s.recOf f = some r → r.link.st ≠ 0 → (r.link.path < 6 → s.domOn (7 + r.link.path) = true) →
        s.mesh.retry = [⟨f, s.asn, 1⟩] → u = s.toAir (s.window r (s.slotAt s.asn r.link.slot)).2.toNat → exec (.listenWindowEnd f true) s
          = .next (State.settled { u with mesh := { u.mesh with retry := [⟨f, (s.asn + 1) % 2 ^ 40, 0⟩] } }))
    ∧ (∀ (s u v : State) (f : Nat) (r : FlockRec) (w : Int × Int), s.recOf f = some r → r.link.st = 2 →
        (r.link.path < 6 → s.domOn (7 + r.link.path) = true) → r.drift.misses + 1 < s.cfgN Obj.MESH_RESYNC_MISSES →
        w = s.window r (s.slotAt (s.endingWindow f r) r.link.slot) →
        u = (s.toAir w.2.toNat).openRetry f (s.endingWindow f r) false →
        v = (u.modRec f fun r => { r with drift := { r.drift with misses := min (r.drift.misses + 1) 255 } }) →
        exec (.listenWindowEnd f false) s = .next (State.settled (State.resyncCheck
          (if u.beaconOverlap (linkPath r) w.1.toNat w.2.toNat then v else v.etxEvent f false) f)))
    ∧ (∀ (s : State) (f : Nat) (r : FlockRec), s.recOf f = some r → r.link.st = 2 → exec (.linkSupervisionTimeout f) s
        = .next (State.settled ((((s.toAir (r.superv + s.supervision r)).detach f 0x25).raise Ev.LINK_TIMEOUT 0xFF f).count Obj.LINK_TIMEOUTS)))
    ∧ (∀ (s : State) (id : Nat), s.txnOf id = none → exec (.replyWindowEnd id) s = .next s.settled ∧ exec (.txnBooking id) s = .next s.settled
        ∧ exec (.txnDeadline id) s = .next s.settled)
    ∧ (∀ (s u : State) (id : Nat) (t : Txn), s.txnOf id = some t → t.st = .awaitReply →
        u = s.toAir (t.start - 4 * usHalfNs + 464 * usHalfNs + tShr t.mode (s.preamble t.path) + 30 * usHalfNs) →
        exec (.replyWindowEnd id) s = .next (State.settled ((u.etxEvent (u.replyHop t) false).attemptEnd t
          (if u.opensWithAlert t = true ∧ t.respond = true ∧ t.stage = 0 then 0x24 else 0x23) true)))
    ∧ (∀ (s : State) (id : Nat) (t : Txn), s.txnOf id = some t → (t.st = .queued ∨ t.st = .booked) → exec (.txnDeadline id) s
        = .next (State.settled (((s.toAir t.deadline).endTxn t (if t.refusal = 0 then 0x27 else t.refusal)).disassocEnd t)))
    ∧ (∀ (s : State) (id : Nat) (t : Txn), s.txnOf id = some t → t.st ≠ .queued → exec (.txnBooking id) s = .next s.settled)
    ∧ ∀ (s : State) (id : Nat) (t : Txn) (n step hop ref : Nat) (r own : FlockRec) (pl : Plan), s.txnOf id = some t → t.st = .queued →
        2 ≤ (s.time.base[3]).st → s.isHeld 6 = false → s.isHeld 7 = false →
        s.opportunity t (s.absSlot (s.air + 220 * usHalfNs) + 1) = some (n, step) → s.routeTo t.flock = some hop → s.recOf hop = some r →
        s.recOf t.flock = some own → own.ctr.own + 2 ≤ ctrMax →
        (s.lookup hop).findPlan { t with nodeTag := own.tag t.flock, mode := r.link.mode, chOffset := r.link.chOffset } hop r step
          ((t.deadline - (s.lookup hop).air) / (step * (s.lookup hop).tSlot) + 1) n t.refusal = (some pl, ref) →
        exec (.txnBooking id) s = .next (State.settled (State.bookPlan
          ((s.lookup hop).noteRefusal { t with nodeTag := own.tag t.flock, mode := r.link.mode, chOffset := r.link.chOffset } hop r n ref pl.path)
          { t with nodeTag := own.tag t.flock, mode := r.link.mode, chOffset := r.link.chOffset, refusal := ref } r.link.mode pl))

/-- Link commands and budgets (LINK_REMOVE, MESH_CHMAP_WRITE, LINK_TXN_CANCEL, DUTY_BUCKET_ROLL, DWELL_BUCKET_ROLL): a link's removal is queued;
a map that fails its checks changes nothing, one that passes takes effect or becomes the pending update; buckets leave their window. -/
def Obligations.LinkCommandsComplete : Prop :=
  (∀ (s : State) (f : Nat) (r : FlockRec), f < 2 ^ 20 → s.recOf f = some r → r.link.st ≠ 0 →
      ∃ t : State, exec (.linkRemove f) s = .next (State.settled (t.bumpRev Obj.LINK_REMOVE)) ∧ t = { s with flock := t.flock }
        ∧ t.recOf f = some { r with link := { r.link with leave := some 2 }, dirty := true } ∧ (∀ g, g ≠ f → t.recOf g = s.recOf g))
    ∧ (∀ (s : State) (f reason i : Nat) (r : FlockRec), s.flock.recs = [(f, r)] → r.link.leave = some reason → s.freeTxn = some i →
        ∃ x, s.removals.mesh.txns = s.mesh.txns ++ [x] ∧ x.id = i ∧ x.kind = .disassoc reason ∧ x.st = .queued ∧ x.flock = f)
    ∧ (∀ (s : State) (f : Nat), 2 ^ 20 ≤ f → exec (.linkRemove f) s = .next s)
    ∧ (∀ (s : State) (f : Nat), f < 2 ^ 20 → s.recOf f = none → exec (.linkRemove f) s = .next (s.bumpRev Obj.LINK_REMOVE).settled)
    ∧ (∀ (s : State) (p : Fin 6) (map : Nat), s.chmapReject p map (s.cfgN (inst Obj.MESH_CHMAP_C0 p)) ≠ 0 →
        exec (.meshChmapWrite p false map) s = .next s)
    ∧ (∀ (s : State) (p : Fin 6) (map : Nat), s.chmapReject p map (s.cfgN (inst Obj.MESH_CHMAP_C0 p)) = 0 →
        s.cfgN (inst Obj.MESH_BEACON_ENABLE p) = 0 → s.flock.recs = [] →
        ∃ t, exec (.meshChmapWrite p false map) s = .next t ∧ t = { s with cfg := t.cfg, rev := t.rev, mesh := t.mesh }
          ∧ (t.mesh.per[p]).map = map ∧ (t.mesh.per[p]).c0 = s.cfgN (inst Obj.MESH_CHMAP_C0 p) ∧ t.mesh.txns = s.mesh.txns
          ∧ t.rev = (s.bumpRev (inst Obj.MESH_CHMAP p)).rev)
    ∧ (∀ (s : State) (p : Fin 6) (map : Nat), s.chmapReject p map (s.cfgN (inst Obj.MESH_CHMAP_C0 p)) = 0 →
        s.cfgN (inst Obj.MESH_BEACON_ENABLE p) ≠ 0 →
        ∃ t, exec (.meshChmapWrite p false map) s = .next t ∧ (t.mesh.per[p]).map = (s.mesh.per[p]).map ∧ (t.mesh.per[p]).update
          = some ⟨map, s.cfgN (inst Obj.MESH_CHMAP_C0 p), (s.asn + s.cfgN Obj.LINK_CHMAP_LEAD) % 2 ^ 40, false⟩)
    ∧ (∀ (s : State) (b : Fin 2), ∃ t, exec (.dutyBucketRoll b) s = .next t ∧ t = { s with time := t.time, aon := t.aon, mesh := t.mesh }
        ∧ t.mesh.txns = s.mesh.txns ∧ (∀ c : Fin 2, c ≠ b → t.mesh.band[c] = s.mesh.band[c]) ∧ (t.mesh.band[b]).dwell = (s.mesh.band[b]).dwell
        ∧ ∀ (a : Fin 9), ∀ k ∈ ((t.mesh.band[b]).acct[a]).buckets, k ∈ ((s.mesh.band[b]).acct[a]).buckets ∧ t.minute < k.minute + 60)
    ∧ (∀ (s : State) (b : Fin 2) (ch : Nat), s.channelKhz (if b = 0 then 0 else 4) ch = none → exec (.dwellBucketRoll b ch) s = .next s)
    ∧ ∀ (s : State) (b : Fin 2) (ch khz n : Nat) (e : LockEntry), s.channelKhz (if b = 0 then 0 else 4) ch = some khz →
        s.lockFor khz (if b = 0 then 1 else 0x10) = some (n, e) → e.dwellWin ≠ 0 →
        ∃ t, exec (.dwellBucketRoll b ch) s = .next t ∧ t = { s with time := t.time, aon := t.aon, mesh := t.mesh }
          ∧ (∀ w ∈ (t.mesh.band[b]).dwell, w ∈ (s.mesh.band[b]).dwell) ∧ (∀ w ∈ (s.mesh.band[b]).dwell, w.channel ≠ ch → w ∈ (t.mesh.band[b]).dwell)

/-! ### Flock records, deliveries, images -/

/-- Flock writes complete (FLOCK_CFG_WRITE, FLOCK_RESTORE): an accepted write creates, changes or empties the one record it names, and a refused
one has no effect; a new record is DETACHED with counters of zero; a restored one has the counter margin added. -/
def Obligations.FlockWritesComplete : Prop :=
  (∀ (s : State) (f : Nat) (v : List Int), (2 ^ 20 ≤ f ∨ v.length ≠ 9 ∨ fieldsOk flockCfgFields v = false ∨ s.flockCfgCheck f (FlockCfg.ofFields v) ≠ 0) →
      exec (.flockCfgWrite f v) s = .next s)
    ∧ (∀ (s : State) (f : Nat) (v : List Int), f < 2 ^ 20 → v.length = 9 → fieldsOk flockCfgFields v = true →
        s.flockCfgCheck f (FlockCfg.ofFields v) = 0 →
        ((FlockCfg.ofFields v).cls ≠ 0 → s.recOf f = none → ∃ t r, exec (.flockCfgWrite f v) s = .next t ∧ t.recOf f = some r
          ∧ r.cfg = FlockCfg.ofFields v ∧ r.link.st = 0 ∧ r.ctr.own = 0 ∧ r.ctr.valid = false ∧ (∀ j, j ≠ f → t.recOf j = s.recOf j)
          ∧ t.rev = (s.bumpRev Obj.FLOCK_CFG).rev)
        ∧ (∀ o, (FlockCfg.ofFields v).cls ≠ 0 → s.recOf f = some o → ∃ t r, exec (.flockCfgWrite f v) s = .next t ∧ t.recOf f = some r
          ∧ (o.cfg.eui = fieldN v 0 → o.cfg.keyEpoch = fieldN v 4 → r = { o with cfg := FlockCfg.ofFields v, dirty := true })
          ∧ ((o.cfg.eui ≠ fieldN v 0 ∨ o.cfg.keyEpoch ≠ fieldN v 4) → r = { o with
              cfg := FlockCfg.ofFields v, dirty := true, ctr := ⟨0, 0, 0, 0, false⟩ }) ∧ (∀ j, j ≠ f → t.recOf j = s.recOf j))
        ∧ ((FlockCfg.ofFields v).cls = 0 → s.recOf f = none → exec (.flockCfgWrite f v) s = .next (s.bumpRev Obj.FLOCK_CFG)))
    ∧ (∀ (s : State) (f : Nat) (v : List Int),
        (2 ^ 20 ≤ f ∨ v.length ≠ 46 ∨ fieldsOk flockTableFields v = false ∨ s.restoreCheck f (FlockRec.ofFields v) ≠ 0) →
        exec (.flockRestore f v) s = .next s.settled)
    ∧ ∀ (s : State) (f : Nat) (v : List Int), f < 2 ^ 20 → v.length = 46 → fieldsOk flockTableFields v = true →
        s.restoreCheck f (FlockRec.ofFields v) = 0 → (FlockRec.ofFields v).cfg.cls ≠ 0 → (FlockRec.ofFields v).link.st = 0 →
        (FlockRec.ofFields v).ctr.own + s.cfgN Obj.LINK_CTR_MARGIN < 0xFFFFF000 →
        ∃ t r, exec (.flockRestore f v) s = .next (State.settled t) ∧ t.recOf f = some r ∧ r.cfg = (FlockRec.ofFields v).cfg
          ∧ r.link = (FlockRec.ofFields v).link ∧ r.ctr.own = (FlockRec.ofFields v).ctr.own + s.cfgN Obj.LINK_CTR_MARGIN
          ∧ (∀ j, j ≠ f → t.recOf j = s.recOf j)

/-- The Flock cache completes (FLOCK_PREFETCH, FLOCK_FETCH_DONE, FLOCK_FETCH_LATE): a fetched record enters the front of the cache, a full cache
first loses its least recently used unpinned line; a late record is counted and its booked attempts are queued again.
Held requests and chorus attempts complete (HELD_REQUEST_DEADLINE, CHORUS_ATTEMPT, LINK_TXN_CANCEL): a request still held at its deadline
completes with NO_ROUTE or EXPIRED; a chorus attempt is booked with its alert and command, or skipped with its reason; a transaction that is
not on air can be cancelled. -/
def Obligations.FlockCacheAndRequests : Prop :=
  ((∀ s : State, s.flock.recs = [] → exec .flockPrefetch s = .next s)
    ∧ (∀ (s : State) (f : Nat) (r : FlockRec), s.flock.recs = [(f, r)] → s.worksSoon f r = true → s.flock.cache.contains f = false →
        exec .flockPrefetch s = .next (s.lookup f))
    ∧ (∀ (s : State) (f : Nat), s.flock.fetching.contains f = false → exec (.flockFetchDone f) s = .next s)
    ∧ (∀ (s : State) (f : Nat), s.flock.fetching.contains f = true → s.extMem = true → (s.recOf f).isSome = true →
        s.flock.cache.contains f = false → s.flock.cache.length < s.flockLines →
        exec (.flockFetchDone f) s = .next { s with flock := { s.flock with fetching := s.flock.fetching.erase f, cache := f :: s.flock.cache } })
    ∧ (∀ (s : State) (f : Nat), s.flock.cache.contains f = true → exec (.flockFetchLate f) s = .next s)
    ∧ ∀ (s : State) (f : Nat), s.flock.cache.contains f = false → s.mesh.txns.filter (fun t => t.flock == f && t.st == .booked) = [] →
        exec (.flockFetchLate f) s = .next (s.count Obj.FLOCK_LATE_FETCH))
    ∧ ((∀ (s : State) (id : Nat), s.reqOf id = none → exec (.heldRequestDeadline id) s = .next s)
    ∧ (∀ (s : State) (id : Nat) (q : DelReq), s.reqOf id = some q → q.txn.isSome = true → exec (.heldRequestDeadline id) s = .next s)
    ∧ (∀ (s : State) (id : Nat) (q : DelReq), s.reqOf id = some q → q.txn = none → exec (.heldRequestDeadline id) s
        = .next ((s.toAir q.deadline).completeReq q (if ((s.toAir q.deadline).routeTo q.flock).isNone then 0x34 else 0x27) false 0))
    ∧ (∀ (s : State) (id : Nat), s.txnOf id = none → exec (.chorusAttempt id) s = .next s.settled)
    ∧ (∀ (s : State) (id : Nat), s.txnOf id = none → id < 512 → exec (.linkTxnCancel id) s = .next (s.bumpRev Obj.LINK_TXN_CANCEL).settled)
    ∧ (∀ (s : State) (id : Nat), 512 ≤ id → exec (.linkTxnCancel id) s = .next s)
    ∧ (∀ (s u : State) (id n : Nat) (t : Txn) (q q1 : DelReq) (c : ChorusReq), s.txnOf id = some t → t.req.bind s.reqOf = some q →
        q.chorus = some c → t.st = .queued → q.made < c.attempts → s.chorusSlot c q.made = some n → q1 = { q with made := q.made + 1 } →
        u = (s.toAir (n * s.tSlot + 1000 * usHalfNs - 220 * usHalfNs)).putReq q1 → s.chorusStart n ≤ t.deadline →
        u.air + 48 * usHalfNs ≤ s.chorusStart n →
        (∀ (p : Fin 6) (khz : Nat), (u.yieldBlocks n).chorusCheck q1 c n = .inr (p, khz) → exec (.chorusAttempt id) s = .next (State.settled
          ((u.yieldBlocks n).chorusBook t q1 c p khz n ((u.chorusCtr n 0).getD 0) ((u.chorusCtr n 1).getD 0))))
        ∧ ∀ reason : Nat, (u.yieldBlocks n).chorusCheck q1 c n = .inl reason →
            exec (.chorusAttempt id) s = .next (State.settled (u.chorusEnd t (skipBase + reason))))
    ∧ (∀ (s : State) (id : Nat) (t : Txn), id < 512 → s.txnOf id = some t → t.st = .queued → t.kind = .hostData →
        exec (.linkTxnCancel id) s = .next ((s.endTxn t 0x28).bumpRev Obj.LINK_TXN_CANCEL).settled)
    ∧ ∀ (s : State) (id : Nat) (t : Txn), id < 512 → s.txnOf id = some t → (t.st = .onAir ∨ t.st = .awaitReply) →
        exec (.linkTxnCancel id) s = .next (s.bumpRev Obj.LINK_TXN_CANCEL).settled)

/-- Node images and campaigns complete (FL_IMAGE_BEGIN, FL_IMAGE_STAGE, FL_IMAGE_VERIFY, FL_CAMPAIGN_START, FL_CAMPAIGN_STOP, CAMPAIGN_BLOCK):
an image slot is erased and staged from its current end, unless a running campaign uses it; a campaign starts, or is refused with no effect;
a stopped one is STOPPED; a campaign that does not run sends nothing. -/
def Obligations.ImagesAndCampaigns : Prop :=
  (∀ (s : State) (v : Nat), s.domServes 3 = true → v % 2 ^ 21 ≤ 1048576 → s.imageBusy (beginSlot v) = false →
      ∃ t, exec (.flImageBegin v) s = .next t ∧ (t.flock.image[beginSlot v]) = ⟨1, 0, v % 2 ^ 21, []⟩ ∧ t.flock.imageSlot = beginSlot v
        ∧ (∀ k : Fin 8, k ≠ beginSlot v → t.flock.image[k] = s.flock.image[k]) ∧ t.actOf Obj.FL_IMAGE_BEGIN = 1 ∧ t.flock.recs = s.flock.recs)
    ∧ (∀ (s : State) (v : Nat), (s.domServes 3 = false ∨ 1048576 < v % 2 ^ 21 ∨ s.imageBusy (beginSlot v) = true) →
        exec (.flImageBegin v) s = .next s)
    ∧ (∀ (s : State) (k : Fin 8) (data : Bytes), s.domServes 3 = true → s.flock.imageSlot = k.val → (s.flock.image[k]).st = 1 →
        (s.flock.image[k]).content.length + data.length ≤ 1048576 → s.imageBusy k = false →
        exec (.flImageStage (s.flock.image[k]).content.length data) s = .next (State.bumpRev
          { s with flock := { s.flock with image := s.flock.image.set k { s.flock.image[k] with content := (s.flock.image[k]).content ++ data } } }
          Obj.FL_IMAGE_STAGE))
    ∧ (∀ (s : State) (k : Fin 8) (offset : Nat) (data : Bytes), s.flock.imageSlot = k.val → offset ≠ (s.flock.image[k]).content.length →
        exec (.flImageStage offset data) s = .next s)
    ∧ (∀ (s : State) (n : Nat), s.domServes 3 = true → n ≤ 7 → s.imageBusy n = false →
        exec (.flImageVerify n) s = .next (State.bumpRev (State.setAct { s with fw := { s.fw with
          ops := s.fw.ops ++ [⟨Obj.FL_IMAGE_VERIFY, 0x03200000 + n * 0x100000, n, []⟩] } } Obj.FL_IMAGE_VERIFY 1) Obj.FL_IMAGE_VERIFY))
    ∧ (∀ (s : State) (n : Nat), s.campStartCheck n ≠ 0 → exec (.flCampaignStart n) s = .next s.settled)
    ∧ (∀ (s : State) (n : Fin 4), s.campStartCheck n = 0 →
        exec (.flCampaignStart n) s = .next ((s.campStartPut n).accept Obj.FL_CAMPAIGN_START (scalar (n.val : Nat))).settled)
    ∧ (∀ (s : State) (n : Fin 4), (s.flock.camp[n]).runs = true →
        exec (.flCampaignStop n) s = .next ((s.campEnd n 5 0).accept Obj.FL_CAMPAIGN_STOP (scalar (n.val : Nat))).settled)
    ∧ (∀ (s : State) (n : Nat), 3 < n → exec (.flCampaignStop n) s = .next s.settled)
    ∧ (∀ (s : State) (n : Fin 4), (s.flock.camp[n]).runs = false → exec (.campaignBlock n) s = .next (s.campReview n).settled)
    ∧ ∀ (s u : State) (n : Fin 4) (h : fieldAt (s.flock.camp[n]).cfg 1 < 6) (k b : Nat), s.campReview n = s → (s.flock.camp[n]).runs = true →
        k = (s.flock.camp[n]).firstAsn * 64 + fieldAt (s.flock.camp[n]).cfg 2 →
        s.air + 220 * usHalfNs ≤ k * s.tSlot + 1000 * usHalfNs → (s.air + 220 * usHalfNs) / s.tSf ≤ (s.flock.camp[n]).firstAsn →
        u = s.toAir (k * s.tSlot + 1000 * usHalfNs - 220 * usHalfNs) →
        u.extMem = true → u.secServes = true → u.domOn (pathDomain ⟨fieldAt (s.flock.camp[n]).cfg 1, h⟩) = true → u.chorusInSlot k = false →
        (u.flock.camp[n]).nextBlock ((u.flock.camp[n]).blocks + 1) (u.flock.camp[n]).next = some b →
        (let v := u.sendBlock n ⟨fieldAt (s.flock.camp[n]).cfg 1, h⟩ k b;
          (v.flock.camp[n]).nextBlock ((v.flock.camp[n]).blocks + 1) (b + 1)).isSome = true →
        exec (.campaignBlock n) s = .next (u.sendBlock n ⟨fieldAt (s.flock.camp[n]).cfg 1, h⟩ k b).settled

/-! ### Host, network and memory ports, UARTs -/

/-- Doorbells move rings (RING_DOORBELL, R500, R501): on a disabled ring the write is counted and ignored; a move backward or beyond
ENTRIES puts the ring in ERROR; a good producer index is entered and nothing else moves; a write of an index that the device owns is
ignored. -/
def Obligations.DoorbellsMoveRings : Prop :=
  (∀ (s : State) (n : Fin 6) (b : Bool) (v : Nat), s.barServes = false → exec (.ringDoorbell n b v) s = .next s.settled)
    ∧ ∀ (s : State) (n : Fin 6) (v : Nat), s.barServes = true → s.bar0Quiet 2 = true →
    (∀ b, s.host.ring[n].st = 0 → b = hostProduces n → exec (.ringDoorbell n b v) s = .next (s.count Obj.BAR0_BAD_ACCESS).settled)
    ∧ (∀ b, (s.host.ring[n].st = 1 ∨ s.host.ring[n].st = 2) → b = hostProduces n →
        (b = true → (v % 2 ^ 32 + 2 ^ 32 - s.host.ring[n].cons) % 2 ^ 32 < s.host.ring[n].fill
          ∨ s.ringCfg n 2 < (v % 2 ^ 32 + 2 ^ 32 - s.host.ring[n].cons) % 2 ^ 32) →
        (b = false → s.host.ring[n].fill < (s.host.ring[n].prod + 2 ^ 32 - v % 2 ^ 32) % 2 ^ 32) →
        ∃ t, exec (.ringDoorbell n b v) s = .next (State.settled t) ∧ t.host.ring[n].st = 3 ∧ t.host.ring[n].error = 0x42
          ∧ t.host.ring[n].prod = s.host.ring[n].prod ∧ t.host.ring[n].cons = s.host.ring[n].cons ∧ t.host.irqStatus.testBit 3 = true)
    ∧ ((s.host.ring[n].st = 1 ∨ s.host.ring[n].st = 2) → hostProduces n = true →
        s.host.ring[n].fill ≤ (v % 2 ^ 32 + 2 ^ 32 - s.host.ring[n].cons) % 2 ^ 32 →
        (v % 2 ^ 32 + 2 ^ 32 - s.host.ring[n].cons) % 2 ^ 32 ≤ s.ringCfg n 2 →
        exec (.ringDoorbell n true v) s
          = .next (State.settled { s with host := { s.host with ring := s.host.ring.set n { s.host.ring[n] with prod := v % 2 ^ 32 } } }))
    ∧ (∀ k : Nat, (s.host.ring[n].st = 1 ∨ s.host.ring[n].st = 2) → hostProduces n = false →
        k = (s.host.ring[n].prod + 2 ^ 32 - v % 2 ^ 32) % 2 ^ 32 → k ≤ s.host.ring[n].fill → k ≤ s.ringCfg n 2 →
        exec (.ringDoorbell n false v) s = .next (State.settled (State.drainRings (s.setRing n { s.host.ring[n] with
          cons := v % 2 ^ 32, modCount := if k = 0 then 0 else s.host.ring[n].modCount
          modSince := if k = 0 then none else s.host.ring[n].modSince }))))
    ∧ ∀ b, b ≠ hostProduces n → exec (.ringDoorbell n b v) s = .next s.settled

/-- Interrupts and ring settings complete (IRQ_STATUS_WRITE, RING_CFG_WRITE, RING_MODERATION_TIMEOUT, PCIE_CONFIG_REQUEST, TS_CAPTURE): bits
written as 1 are cleared and vector 0 is sent again while an enabled bit stays set; a refused ring setting changes nothing, or through BAR2 is
counted; an accepted one enters the running configuration; a moderation time that has run sends the ring's message.
Descriptors of rings 0 and 2 are fetched (DELIVERY, LEGACY_TX, BUFFER): nothing is fetched from a ring that stands or is empty; an access that
fails, or an unaligned buffer, puts the ring in ERROR; a delivery that passes its checks becomes a request, one that does not completes with 0x40
on ring 1; a legacy transmission becomes one booked attempt; a buffer of ring 2 is kept ahead. -/
def Obligations.HostSettingsAndDescriptors : Prop :=
  ((∀ (s : State) (m : Nat), s.barServes = true → s.bar0Quiet 2 = true → ∃ t : State, exec (.irqStatusWrite m) s = .next t
      ∧ t = { s with host := { s.host with irqStatus := t.host.irqStatus }, outbox := t.outbox }
      ∧ (∀ b, t.host.irqStatus.testBit b = (s.host.irqStatus.testBit b && !m.testBit b))
      ∧ t.outbox = (if t.host.irqStatus &&& s.host.irqEnable ≠ 0 ∧ s.host.busMaster = true then .msix 0 :: s.outbox else s.outbox))
    ∧ (∀ (s : State) (n : Fin 6) (v : List Int), s.ringCfgCheck n v ≠ 0 → exec (.ringCfgWrite n v false) s = .next s.settled
        ∧ (s.barServes = true → s.bar0Quiet 2 = true → exec (.ringCfgWrite n v true) s = .next (s.count Obj.RING_CFG_REJECTS).settled))
    ∧ (∀ (s : State) (n : Fin 6) (v : List Int) (b : Bool), s.cfg.wf = true → (b = true → s.barServes = true ∧ s.bar0Quiet 2 = true) →
        s.ringCfgCheck n v = 0 →
        (((v[4]?).getD 0).toNat = s.ringCfg n 4 → exec (.ringCfgWrite n v b) s
          = .next (State.settled ((s.cfgPut Obj.RING_CFG ((s.cfgVal Obj.RING_CFG).set n v)).bumpRev Obj.RING_CFG)))
        ∧ (n.val ≠ 1 → s.domServes 4 = true → n.val < (s.cfgVal Obj.RING_CFG).length → s.ringCfg n 4 = 0 → v[4]? = some 1 →
          exec (.ringCfgWrite n v b) s = .next (State.settled (State.bumpRev
            ((s.cfgPut Obj.RING_CFG ((s.cfgVal Obj.RING_CFG).set n v)).setRing n ⟨1, 0, 0, 0, 0, none⟩) Obj.RING_CFG))))
    ∧ (∀ (s : State) (n : Fin 6), s.host.ring[n].modSince = none → exec (.ringModerationTimeout n) s = .next s)
    ∧ (∀ (s : State) (n : Fin 6) (since : Nat), s.host.ring[n].modSince = some since → s.hostServes = true → s.host.busMaster = true →
        s.host.ring[n].st ≠ 0 → exec (.ringModerationTimeout n) s = .next ((s.toMono (since + s.ringCfg n 6 * usHalfNs)).signalRing n))
    ∧ (∀ (s : State) (l : Nat × Nat × Bool) (m : Option Bool), s.hostServes = true → s.start.cfgServed = false →
        exec (.pcieConfigRequest l m) s = .next { s with host := { s.host with link := l }, outbox := .pcieConfig true :: s.outbox })
    ∧ (∀ (s : State) (l : Nat × Nat × Bool), s.hostServes = true → s.start.cfgServed = true →
        exec (.pcieConfigRequest l (some false)) s
          = .next { s with host := { s.host with link := l, busMaster := false }, outbox := .pcieConfig false :: s.outbox })
    ∧ (∀ (s : State) (v : Nat), v % 2 = 1 → s.barServes = true → s.bar0Quiet 8 = true → s.domOn 17 = true → ∃ t : State, exec (.tsCapture v) s = .next t
        ∧ t = { s with host := { s.host with capture := t.host.capture } } ∧ t.host.capture.length = 17
        ∧ t.host.capture[0]? = some (((s.host.capture[0]?).getD 0 + 1) % 65536) ∧ t.host.capture[1]? = some (s.mono % 2 ^ 64)
        ∧ ∀ b : Fin 5, t.host.capture[2 + 3 * b.val]? = some (ts96 s.time.base[b].now))
    ∧ ∀ (s : State) (v : Nat), (s.barServes = false ∨ (v % 2 = 0 ∧ s.bar0Quiet 8 = true)) → exec (.tsCapture v) s = .next s)
    ∧ ((∀ (s : State) (d data : Bytes) (ok : Bool), s.canFetch 0 = false →
      exec (.delivery d data ok) s = .next s.settled ∧ exec (.legacyTx d data ok) s = .next s.settled)
    ∧ (∀ (s : State) (d data : Bytes) (id : Nat), s.canFetch 0 = true → s.domGone 6 = false → s.hostTxns < s.hostRoom → s.freeTxn = some id →
        (exec (.delivery d data false) s = .next (s.ringError 0 0x41).settled ∧ exec (.legacyTx d data false) s = .next (s.ringError 0 0x41).settled)
        ∧ (leAt d 8 8 % 64 ≠ 0 → exec (.delivery d data true) s = .next (s.ringError 0 0x43).settled
          ∧ exec (.legacyTx d data true) s = .next (s.ringError 0 0x43).settled)
        ∧ (leAt d 8 8 % 64 = 0 →
          ((leAt d 0 1 ≠ 1 ∨ leAt d 2 2 = 0 ∨ 1024 < leAt d 2 2 ∨ 3 < leAt d 20 1 ∨ 63 < leAt d 22 1) → exec (.delivery d data true) s
            = .next (State.settled ((s.fetched 0).postRing 1 (.dlDone (leAt d 4 4) 0x40 false 0 0 (leAt d 16 4) (ts96 (s.fetched 0).air)))))
          ∧ ((s.fetched 0).deliveryOk d ((s.fetched 0).reqFrom d data) = true → exec (.delivery d data true) s
            = .next (((s.fetched 0).takeReq ((s.fetched 0).reqFrom d data)).settled))
          ∧ (s.legacyOk d = true → exec (.legacyTx d data true) s
            = .next (((s.fetched 0).legacySend d data ⟨leAt d 20 1 % 6, by omega⟩ id).settled))
          ∧ (s.legacyOk d = false → exec (.legacyTx d data true) s
            = .next (State.settled ((s.fetched 0).postRing 1 (.dlDone (leAt d 4 4) 0x40 false 0 0 0xFFFFFFFF (ts96 (s.fetched 0).air)))))))
    ∧ (∀ (s : State) (d : Bytes) (ok : Bool), (s.canFetch 2 = false ∨ 64 ≤ s.host.bufs.length) → exec (.buffer d ok) s = .next s)
    ∧ (∀ (s : State) (d : Bytes), s.canFetch 2 = true → s.host.bufs.length < 64 →
        exec (.buffer d false) s = .next (s.ringError 2 0x41)
        ∧ ((leAt d 0 1 ≠ 0x10 ∨ leAt d 2 2 ≠ 0) → exec (.buffer d true) s = .next (s.ringError 2 0x40))
        ∧ (leAt d 0 1 = 0x10 → leAt d 2 2 = 0 → leAt d 8 8 % 64 ≠ 0 → exec (.buffer d true) s = .next (s.ringError 2 0x43)))
    ∧ ∀ (s : State) (d : Bytes), s.canFetch 2 = true → s.host.bufs.length < 64 → leAt d 0 1 = 0x10 → leAt d 2 2 = 0 → leAt d 8 8 % 64 = 0 →
        s.host.staging = [] → (∀ n : Fin 6, s.host.ring[n].st ≠ 2) → s.ringCfg 2 1 = 0 →
        exec (.buffer d true) s = .next { s with host := { s.host with
          bufs := s.host.bufs ++ [leAt d 8 8]
          ring := s.host.ring.set 2 { s.host.ring[(2 : Fin 6)] with cons := (s.host.ring[(2 : Fin 6)].cons + 1) % 2 ^ 32 } } })

/-- The network and memory ports complete (ETH_LINK_CHANGE, ETH_FRAME, SCRUB_PASS, FLASH_OPERATION_DONE): a change of a link raises its event; a
frame is counted, an accepted request is answered; a scrub counts what it corrected and its pass; a program or erase that fails is counted and
raises FLASH_PROG_FAIL. -/
def Obligations.NetworkAndMemoryComplete : Prop :=
  (∀ (s : State) (e : Fin 2), s.port.eth[e].up = false → s.ethOn e = true → exec (.ethLinkChange e true) s
      = .next (State.raise { s with port := { s.port with eth := s.port.eth.set e { s.port.eth[e] with up := true, speed := ethSpeed (s.cfgN (inst Obj.ETH_MODE e)), measured := false } } }
        Ev.ETH_LINK_UP e (ethSpeed (s.cfgN (inst Obj.ETH_MODE e)))))
    ∧ (∀ (s : State) (e : Fin 2), s.port.eth[e].up = true → exec (.ethLinkChange e false) s
      = .next (State.raise { s with port := { s.port with eth := s.port.eth.set e { s.port.eth[e] with up := false, speed := 0, measured := false } } }
        Ev.ETH_LINK_DOWN e 0))
    ∧ (∀ (s : State) (e : Fin 2) (b : Bool), s.port.eth[e].up = b → exec (.ethLinkChange e b) s = .next s)
    ∧ (∀ (s : State) (e : Fin 2) (f : EthArg), s.ethOn e = true → s.port.eth[e].up = true →
        (f.fcsOk = false → exec (.ethFrame e f) s = .next (s.count (inst Obj.ETH_COUNTS e) 2))
        ∧ (f.fcsOk = true → (1522 < f.len ∨ 1 < f.vlans.length ∨ f.kind = .pause ∨ f.kind = .other) →
            exec (.ethFrame e f) s = .next ((s.count (inst Obj.ETH_COUNTS e) 0).count (inst Obj.ETH_COUNTS e) 3))
        ∧ (f.fcsOk = true → f.len ≤ 1522 → f.vlans = [] → s.cfgN (inst Obj.ETH_VLAN e) = 0 → f.kind = .ptpL2 →
            exec (.ethFrame e f) s = .next ((s.count (inst Obj.ETH_COUNTS e) 0).count (inst Obj.ETH_COUNTS e) 4))
        ∧ ∀ a m : Nat, f.fcsOk = true → f.len ≤ 1522 → f.vlans = [] → s.cfgN (inst Obj.ETH_VLAN e) = 0 → a ≠ 0 → s.cfgN (inst Obj.ETH_IPV4 e) = a →
            (∀ d, f.kind = .icmpEcho a m d → exec (.ethFrame e f) s
              = .next (State.ethSend (s.count (inst Obj.ETH_COUNTS e) 0) e 2 [f.mac, s.ethMac e, a, m] d))
            ∧ (f.kind = .arp a m → exec (.ethFrame e f) s
              = .next (State.ethSend (s.count (inst Obj.ETH_COUNTS e) 0) e 1 [f.mac, s.ethMac e, a, m] [])))
    ∧ (∀ (s : State) (e : Fin 2) (f : EthArg), (s.ethOn e = false ∨ s.port.eth[e].up = false) → exec (.ethFrame e f) s = .next s)
    ∧ (∀ (s : State) (k : Nat), s.extMem = true → exec (.scrubPass k []) s = .next (State.settled
        (((s.count Obj.MEM_ECC_COUNTS 0 0 k).count Obj.CONTAIN_COUNTS 4 0 k).count Obj.MEM_ECC_COUNTS 2)))
    ∧ (∀ (s : State) (k : Nat) (l : List (Nat × Option Nat)), s.extMem = false → exec (.scrubPass k l) s = .next s.settled)
    ∧ (∀ (s : State) (a n : Nat) (e ok : Bool), (s.port.flashSt ≠ 1 ∨ (e = true ∧ 16 < n)) → exec (.flashOperationDone a e ok n) s = .next s)
    ∧ (∀ (s : State) (a : Nat) (e : Bool), s.port.flashSt = 1 → exec (.flashOperationDone a e false 0) s
        = .next ((s.count Obj.MEM_FLASH_COUNTS (if e = true then 2 else 1)).raise Ev.FLASH_PROG_FAIL 0xFF a |>.dirLost a))
    ∧ (∀ (s : State) (a : Nat), s.port.flashSt = 1 → exec (.flashOperationDone a true true 0) s = .next s)
    ∧ ∀ (s : State) (a : Nat) (r : FaultRec) (rs : List FaultRec), s.port.flashSt = 1 → 0x03100000 ≤ a → a < 0x03200000 →
        s.flt.recPending = r :: rs → exec (.flashOperationDone a false true 0) s
          = .next { s with flt := { s.flt with recPending := rs, recFlash := (r :: s.flt.recFlash).take 4096 } }

/-- A character that a receiver decides, on a UART that Loref does not own, is counted and enters a receive
FIFO that has room, below its notification level; the 65th entry of a full FIFO is lost (UART_CHARACTER, R527 to R531).
The rest of the UARTs and the test access port complete (UART_BREAK, UART_STUCK, UART_LINE_OK, UART_RX_IDLE, UART_RX_DATA, UART_TX_DATA,
UART_CHARACTER_SENT, DE_TAIL_EXPIRY, CTS_N_CHANGE, TEST_ACCESS_PORT_INSTRUCTION). -/
def Obligations.UartsComplete : Prop :=
  ((∀ (s : State) (n : Fin 4) (line : List Bool) (g : Bool) (e : Nat), s.domServes 1 = true → s.rxDeaf n = false → s.uartLoref n = false →
      s.rxDecide n (s.uartFrame n) line = some (some e) → s.uart.port[n].rx.length < 64 → s.uart.port[n].lost = false →
      (s.uart.port[n].rx.length + 1 < s.uartN n Obj.UART_RX_NOTIFY ∨ s.uart.port[n].ready = true) →
      ∃ t : State, exec (.uartCharacter n line g) s = .next t
        ∧ t.uart.port[n].rx = s.uart.port[n].rx ++ [e] ∧ (∀ m : Fin 4, m ≠ n → t.uart.port[m] = s.uart.port[m])
        ∧ t = { s with ro := t.ro, uart := t.uart } ∧ t.ro = (s.countEntry n e).ro)
    ∧ (∀ votes : List Nat, votes.length = 10 → (∀ k ∈ votes, k = 0 ∨ k = 3) → votes[0]? = some 0 → votes[9]? = some 3 →
        ∃ e, decideChar 8 0 votes = some e ∧ e < 256 ∧ ∀ i < 8, e.testBit i = (votes[i + 1]? == some 3))
    ∧ (∀ (s : State) (n : Fin 4) (line : List Bool) (g : Bool), s.domServes 1 = true → s.rxDeaf n = false →
        (s.rxDecide n (s.uartFrame n) line = some none → exec (.uartCharacter n line g) s = .next (s.count (inst Obj.UART_COUNTS n) 7))
        ∧ (s.rxDecide n (s.uartFrame n) line = none → exec (.uartCharacter n line g) s = .next s))
    ∧ (∀ (s : State) (n : Fin 4) (line : List Bool) (g : Bool), s.domServes 1 = true → s.rxDeaf n = true →
        exec (.uartCharacter n line g) s = .next s)
    ∧ ∀ (s : State) (n : Fin 4) (e : Nat), 64 ≤ s.uart.port[n].rx.length → (s.rxPush n e).uart.port[n].rx = s.uart.port[n].rx
        ∧ (s.rxPush n e).uart.port[n].overrun = true ∧ (s.rxPush n e).uart.port[n].lost = true)
    ∧ ((∀ (s : State) (n : Fin 4), s.uartRxOn n = true → s.uart.port[n].line < 2 → s.uartLoref n = true →
      exec (.uartBreak n) s = .next (State.raise ((s.modUart n fun u => { u with line := 2, high := false }).count (inst Obj.UART_COUNTS n) 6) Ev.UART_BREAK n))
    ∧ (∀ (s : State) (n : Fin 4), s.uartRxOn n = true → s.uart.port[n].line < 2 → s.uartLoref n = false →
      exec (.uartBreak n) s = .next (State.rxPush (State.raise ((s.modUart n fun u => { u with line := 2, high := false }).count
        (inst Obj.UART_COUNTS n) 6) Ev.UART_BREAK n) n 0xC00))
    ∧ (∀ (s : State) (n : Fin 4), s.uartRxOn n = true → s.uart.port[n].line ≠ 3 →
        exec (.uartStuck n) s = .next (State.raise (s.modUart n fun u => { u with line := 3, stuck := true, high := false }) Ev.UART_STUCK n))
    ∧ (∀ (s : State) (n : Fin 4), exec (.uartLineOk n) s = .next (
        if s.uart.port[n].stuck = true then (s.modUart n fun u => { u with line := 0, stuck := false, high := true }).raise Ev.UART_LINE_OK n
        else s.modUart n fun u => { u with line := 0, stuck := false, high := true }))
    ∧ (∀ (s : State) (n : Fin 4), s.uartServes = true → s.uart.port[n].rx ≠ [] → s.uart.port[n].ready = false → exec (.uartRxIdle n) s
        = .next ((s.modUart n fun u => { u with ready := true }).raise Ev.UART_RX_READY n s.uart.port[n].rx.length))
    ∧ (∀ (s : State) (n : Fin 4), (s.uart.port[n].rx = [] ∨ s.uart.port[n].ready = true) → exec (.uartRxIdle n) s = .next s)
    ∧ (∀ (s : State) (n : Fin 4) (k : Nat), s.uartServes = true → s.uartLoref n = false → 0 < k →
        exec (.uartRxData n 0 k) s = .next (State.emit (State.rtsRefresh (s.modUart n fun u => { u with
          rx := u.rx.drop k, overrun := false, ready := false }) n) (.uartRead n (s.uart.port[n].rx.take k))))
    ∧ (∀ (s : State) (n : Fin 4), s.uartServes = true → s.uartLoref n = false →
        exec (.uartRxData n 0 0) s = .next (State.emit (State.rtsRefresh (s.modUart n fun u => { u with rx := [], overrun := false, ready := false }) n)
          (.uartRead n s.uart.port[n].rx)))
    ∧ (∀ (s : State) (n : Fin 4) (e k : Nat) (v : List Nat), s.uartLoref n = true →
        exec (.uartRxData n e k) s = .next s ∧ exec (.uartTxData n v) s = .next s)
    ∧ (∀ (s : State) (n : Fin 4) (v : List Nat), 64 < s.uart.port[n].tx.length + v.length → exec (.uartTxData n v) s = .next s)
    ∧ (∀ (s : State) (n : Fin 4) (v : List Nat) (x : Nat), s.uartServes = true → s.uartLoref n = false → s.uart.port[n].sending = some x →
        s.uart.port[n].tx.length + v.length ≤ 64 → exec (.uartTxData n v) s
          = .next (State.bumpRev (s.modUart n fun u => { u with tx := u.tx ++ v.map (· % 512) }) (inst Obj.UART_TX_DATA n)))
    ∧ (∀ (s : State) (n : Fin 4) (c : Nat) (cs : List Nat) (d : HalfNs), n.val < 2 → s.uart.port[n].sending = none → s.uart.port[n].tx = c :: cs →
        s.uartTxOn n = true → d = (if s.uart.port[n].de = true then s.uart.port[n].deAt else s.deStart n) →
        s.txKick n = State.emit (s.modUart n fun u => { u with sending := some c, tx := cs, tail := false, de := true, deAt := d })
          (.uart n c (if s.uart.port[n].de = true then s.mono else d + s.uartN n Obj.UART_DE_LEAD * s.bitTime n)))
    ∧ (∀ (s : State) (n : Fin 4), s.uart.port[n].sending = none → exec (.uartCharacterSent n) s = .next s)
    ∧ (∀ (s : State) (n : Fin 4) (x : Nat), s.uart.port[n].sending = some x → s.uart.port[n].tx = [] → exec (.uartCharacterSent n) s
        = .next (State.modUart ((s.modUart n fun u => { u with sending := none }).count (inst Obj.UART_COUNTS n) 1) n fun u => { u with tail := u.de }))
    ∧ (∀ (s : State) (n : Fin 4), s.uart.port[n].tail = true → exec (.deTailExpiry n) s = .next (s.modUart n fun u => { u with tail := false, de := false }))
    ∧ (∀ (s : State) (n : Fin 4), s.uart.port[n].tail = false → exec (.deTailExpiry n) s = .next s)
    ∧ (∀ (s : State) (n : Fin 4) (b : Bool), n.val < 2 → exec (.ctsNChange n b) s = .next s)
    ∧ (∀ (s : State) (n : Fin 4) (b : Bool), 2 ≤ n.val → s.uart.port[n].tx = [] → exec (.ctsNChange n b) s = .next (s.modUart n fun u => { u with cts := b }))
    ∧ (∀ (s : State) (d : Nat), exec (.testAccessPortInstruction 0 d) s
        = .next { s with tap := { s.tap with instruction := 0 }, outbox := .jtag 0 0 :: s.outbox })
    ∧ (∀ (s : State) (d : Nat), exec (.testAccessPortInstruction 1 d) s
        = .next { s with tap := { s.tap with instruction := 1 }, outbox := .jtag 1 0x141605AB :: s.outbox })
    ∧ (∀ (s : State) (d : Nat), ∃ x, exec (.testAccessPortInstruction 2 d) s
        = .next { s with tap := ⟨2, d⟩, free := s.free + 1, outbox := .jtag 2 x :: s.outbox })
    ∧ ∀ (s : State) (d : Nat), (s.start.inReset = true ∧ s.start.sources.testBit 3 = true → exec (.testAccessPortInstruction 3 d) s
          = .next { s with tap := { s.tap with instruction := 3 }, outbox := .jtag 3 s.tap.cells :: s.outbox })
        ∧ (s.start.inReset = false → exec (.testAccessPortInstruction 3 d) s
          = .next { s with tap := { s.tap with instruction := 0 }, outbox := .jtag 0 0 :: s.outbox }))

/-! ### Power domains -/

/-- Targets of power domains (PW_TARGET, R435 to R437): a value out of range has no effect; a refused one is counted with its cause and refuser;
an accepted lower target of a domain that is on starts its entry; a target that meets a transition is held, unless the transition leads there; a
target of on for a domain that is on only drops what is held, and raises one that is not, with its providers. -/
def Obligations.PowerTargets : Prop :=
  (∀ (s : State) (d v : Nat), (2 < v ∨ 18 ≤ d) → exec (.pwTarget d v) s = .next s.settled)
    ∧ (∀ (s : State) (d : Fin 18) (v c r : Nat), v ≤ 2 → s.targetRefusal d v = some (c, r) →
        exec (.pwTarget d v) s = .next (s.countRefusal d r c).settled)
    ∧ (∀ s : State, s.targetRefusal 0 0 = some (9, 0) ∧ s.targetRefusal 0 1 = some (9, 0) ∧ s.targetRefusal 0 2 = none)
    ∧ (∀ (s : State) (d : Fin 18), d ≠ 0 → ((s.dom d).st = 0 ∨ (s.dom d).st = 5) → s.targetRefusal d 1 = some (10, d.val))
    ∧ (∀ (s : State) (d : Fin 18) (v : Nat), v < 2 → s.targetRefusal d v = none → (s.dom d).st = 2 → (d.val < 7 ∨ 13 ≤ d.val) →
        exec (.pwTarget d v) s = .next (State.settled (((s.bumpRev Obj.PW_TARGET).setTarget d v).putDom d
          { s.dom d with st := 3, step := 1, other := v, came := 2, wake := false, held := none, former := none, release := false })))
    ∧ (∀ (s : State) (d : Fin 18) (v : Nat), v < 2 → s.targetRefusal d v = none → ((s.dom d).st = 3 ∨ (s.dom d).st = 4) →
        exec (.pwTarget d v) s = .next (State.settled (((s.bumpRev Obj.PW_TARGET).setTarget d v).putDom d { s.dom d with
          held := if (s.dom d).st = 3 ∧ (s.dom d).other = v ∧ (s.dom d).wake = false ∧ (s.dom d).release = false then none else some v })))
    ∧ (∀ (s : State) (d : Fin 18), d ≠ 0 → ((s.dom d).st = 2 ∨ (s.dom d).st = 4) → exec (.pwTarget d 2) s
        = .next (State.settled (((s.bumpRev Obj.PW_TARGET).setTarget d 2).putDom d { s.dom d with held := none })))
    ∧ ∀ (s : State) (d : Fin 18), d ≠ 0 → ((s.dom d).st = 0 ∨ (s.dom d).st = 1 ∨ (s.dom d).st = 5) → (s.dom d).release = false →
        exec (.pwTarget d 2) s = .next (State.settled ((s.bumpRev Obj.PW_TARGET).raiseDom d))

/-- No domain refuses a target for a dependent that already is no higher, and one is refused, with cause DEPENDENT and the lowest dependent that
blocks, while a dependent's effective level is above it (R432, R433). -/
def Obligations.DependentsRefuse : Prop :=
  (∀ (s : State) (d x : Fin 18) (v : Nat), d ≠ 0 → v < 2 → (v = 0 ∨ ((s.dom d).st ≠ 0 ∧ (s.dom d).st ≠ 5)) → d.val ∈ providers x → v < s.level x →
      (∀ y : Fin 18, y < x → d.val ∈ providers y → s.level y ≤ v) → s.targetRefusal d v = some (1, x.val))
    ∧ ∀ (s : State) (d : Fin 18) (v r : Nat), s.targetRefusal d v = some (1, r) → ∃ x : Fin 18, x.val = r ∧ d.val ∈ providers x ∧ v < s.level x

/-- The entry of a domain runs its steps (QUIESCE_END, QUIESCE_TIMEOUT, SAVE_STEP_START, SAVE_STEP_END, SWITCH_STEP_START, ENTRY_CONFIRM,
ENTRY_CONFIRM_TIMEOUT, R439 to R445): idle, it is isolated and waits for its save step, unless a wake event aborts it or a condition refuses it;
then it is saved, waits for its switch step, is switched, and confirmed or found in FAULT; one save and one switch step run at a time.
The exit of a domain ends (DOMAIN_EXIT, EXIT_CONFIRM_TIMEOUT, WAKE_EVENT, REFERENCE_LOSS, R448 to R454, R584): a domain that is not exiting stays
as it is; one that exits reports on, and without the reference one that needs it fails; a regulator that does not confirm leaves the domain off, with its target off and WAKE_FAIL; a wake event that is
not enabled has no effect; without the reference, a further loss has none. -/
def Obligations.EntriesAndExitsComplete : Prop :=
  ((∀ (s : State) (d : Fin 18) (n : Nat), ((s.dom d).st ≠ 3 ∨ (s.dom d).step ≠ 1) →
      exec (.quiesceEnd d n) s = .next s ∧ exec (.quiesceTimeout d) s = .next s)
    ∧ (∀ (s : State) (d : Fin 18) (n : Nat), (s.dom d).st = 3 → (s.dom d).step = 1 → s.domIdle d = true → (s.dom d).wake = true →
        exec (.quiesceEnd d n) s = .next ((s.countAbort d).resume d))
    ∧ (∀ (s : State) (d : Fin 18) (n c r : Nat), (s.dom d).st = 3 → (s.dom d).step = 1 → s.domIdle d = true → (s.dom d).wake = false →
        s.lowerRefusal d (s.dom d).other = some (c, r) →
        exec (.quiesceEnd d n) s = .next ((s.domRefused d (stateLevel (s.dom d).came) c r).resume d))
    ∧ (∀ (s : State) (d : Fin 18), (s.dom d).came = 2 → (s.dom d).held = none → ((s.resume d).dom d).st = 2 ∧ ((s.resume d).dom d).step = 0
        ∧ ((s.resume d).dom d).wake = false)
    ∧ (∀ (s : State) (d : Fin 18) (n : Nat), (s.dom d).st = 3 → (s.dom d).step = 1 → (s.dom d).wake = false → s.lowerRefusal d (s.dom d).other = none →
        (d.val ≠ 1 ∧ d.val ≠ 13 ∧ (d.val < 7 ∨ 13 ≤ d.val)) → exec (.quiesceEnd d n) s = .next { s with pwr := { s.pwr with
          dom := s.pwr.dom.set d { s.dom d with step := 2 }, saveQ := s.pwr.saveQ ++ [d.val] } })
    ∧ (∀ (s : State) (p : Fin 6) (d : Fin 18) (n : Nat), d.val = 7 + p.val → (s.dom d).st = 3 → (s.dom d).step = 1 → s.domIdle d = true →
        (s.dom d).wake = false → s.lowerRefusal d (s.dom d).other = none → 0 < n → exec (.quiesceEnd d n) s = .next (State.count
          { s with pwr := { s.pwr with dom := s.pwr.dom.set d { s.dom d with step := 2 }, saveQ := s.pwr.saveQ ++ [d.val] } }
          (inst Obj.RF_RX_PREEMPTED p) 0 0 n))
    ∧ (∀ (s : State) (d : Fin 18), (s.dom d).st = 3 → (s.dom d).step = 1 →
        exec (.quiesceTimeout d) s = .next ((s.domRefused d (stateLevel (s.dom d).came) 6 d).resume d))
    ∧ (∀ (s : State) (d : Nat) (q : List Nat), s.pwr.saving = none → s.pwr.saveQ = d :: q → d ≠ 15 → d ≠ 17 →
        exec .saveStepStart s = .next { s with pwr := { s.pwr with
          saving := some d, saveQ := q, dom := s.pwr.dom.set (domFin d) { s.dom (domFin d) with step := 3 } } })
    ∧ (∀ s : State, (s.pwr.saving.isSome = true ∨ s.pwr.saveQ = []) → exec .saveStepStart s = .next s)
    ∧ (∀ s : State, s.pwr.saving = none → exec .saveStepEnd s = .next s)
    ∧ (∀ (s : State) (d : Fin 18), s.pwr.saving = some d.val → (s.dom d).wake = false → ∃ t, exec .saveStepEnd s = .next t
        ∧ t = { s with pwr := t.pwr, aon := t.aon, free := s.free + 1 } ∧ t.pwr.saving = none ∧ t.pwr.switchQ = s.pwr.switchQ ++ [d.val]
        ∧ t.dom d = { s.dom d with valid := (s.dom d).other == 1, tick := s.aon.tick } ∧ t.aon.bank[3].st = 1 ∧ t.aon.bank[3].intact = true
        ∧ t.aon.bank[3].sealedAt = s.aon.tick)
    ∧ (∀ s : State, s.pwr.switchQ = [] → exec .switchStepStart s = .next s.settled)
    ∧ (∀ (s : State) (q : List Nat), s.pwr.switchQ = 5 :: q → s.pwr.switching = none → s.port.eth[0].up = false → s.port.eth[1].up = false →
        exec .switchStepStart s = .next (State.settled { s with pwr := { s.pwr with
          switching := some 5, switchQ := q, dom := s.pwr.dom.set 5 { s.dom 5 with step := 4 } } }))
    ∧ (∀ (s : State) (d : Fin 18), (s.dom d).st = 3 → ((s.dom d).step = 4 ∨ (s.dom d).step = 5) → (s.dom d).wake = false → (s.dom d).held = none →
        exec (.entryConfirm d) s = .next (((s.freeSwitch d).putDom d { s.dom d with st := (s.dom d).other, step := 0, wake := false }).count
          Obj.PW_COUNTS d 0))
    ∧ (∀ (s : State) (d : Fin 18), ((s.dom d).st ≠ 3 ∨ (s.dom d).step < 4) → (s.dom d).step ≤ 5 →
        exec (.entryConfirm d) s = .next s ∧ exec (.entryConfirmTimeout d) s = .next s)
    ∧ ∀ (s : State) (d : Fin 18), (s.dom d).st = 3 → ((s.dom d).step = 4 ∨ (s.dom d).step = 5) → (s.dom d).wake = false → (s.dom d).held = none →
        (s.dom d).other = 0 → ∃ t, exec (.entryConfirmTimeout d) s = .next t ∧ (t.dom d).st = 5 ∧ (t.dom d).valid = false
          ∧ ∀ e, e ≠ d → t.dom e = s.dom e)
    ∧ ((∀ (s : State) (d : Fin 18) (k : List Nat), (s.dom d).st ≠ 4 →
        exec (.domainExit d k) s = .next s.woke.settled ∧ exec (.exitConfirmTimeout d) s = .next s)
    ∧ (∀ (s : State) (d : Fin 18) (k : List Nat), (s.dom d).st = 4 → s.start.clock ≠ 0 →
        ((s.dom d).other = 0 → exec (.domainExit d k) s = .next (s.exitDone d false).woke.settled)
        ∧ ((s.dom d).other = 1 → s.aon.bank[3].st = 1 → s.aon.bank[3].intact = true → (s.dom d).valid = true →
          exec (.domainExit d k) s = .next (s.exitDone d true).woke.settled))
    ∧ (∀ (s : State) (d : Fin 18) (k : List Nat), (s.dom d).st = 4 → s.start.clock = 0 → needsRef d = true →
        (qualifiedAt s.start.refSel k).isSome = false →
        exec (.domainExit d k) s = .next (State.settled (State.woke (((s.countRefusal d d 7).raise Ev.DOMAIN_REFUSED d 7 d).wakeFail d 2))))
    ∧ (∀ (s : State) (b : Bool) (d : Fin 18), (d = 4 ∨ d = 16) → (s.dom d).held = none →
        ((s.exitDone d b).dom d).st = 2 ∧ ((s.exitDone d b).dom d).step = 0 ∧ ((s.exitDone d b).dom d).former = none)
    ∧ (∀ (s : State) (d : Fin 18), (s.dom d).st = 4 → (s.dom d).other = 0 → (s.dom d).held = none → (∀ x : Fin 18, (s.dom x).former = none) →
        exec (.exitConfirmTimeout d) s
        = .next (State.raise (State.lastFail (State.count ((s.putDom d { s.dom d with st := 0, step := 0, former := none, valid := false }).setTarget d 0)
          Obj.PW_COUNTS d 2) d 1 1) Ev.WAKE_FAIL d 1))
    ∧ (∀ (s : State) (n : Nat), 8 ≤ n → exec (.wakeEvent n) s = .next s)
    ∧ (∀ s : State, s.cfgN Obj.RTC_ALARM_WAKE ≠ 1 → exec (.wakeEvent 0) s = .next s.settled)
    ∧ (∀ (s : State) (n : Nat), 0 < n → n < 8 → (s.cfgN Obj.PW_WAKE_ENABLE).testBit n = false → exec (.wakeEvent n) s = .next s.settled)
    ∧ (∀ (s u : State) (n : Nat) (d : Fin 18), 0 < n → n < 8 → d ≠ 0 → (s.cfgN Obj.PW_WAKE_ENABLE).testBit n = true →
        s.cfgN Obj.PW_WAKE_TARGETS n = 2 ^ d.val →
        u = ((s.count Obj.PW_WAKE_COUNTS n).roSet Obj.PW_WAKE_LAST 0 0 n).roSet Obj.PW_WAKE_LAST 0 1 s.aon.tick →
        exec (.wakeEvent n) s = .next (u.raiseDom d).settled)
    ∧ (∀ s : State, s.start.clock = 0 → exec .referenceLoss s = .next s.settled)
    ∧ ∀ s : State, s.start.clock ≠ 0 → ∃ t, exec .referenceLoss s = .next (State.settled t) ∧ t.start.clock = 0 ∧ t.port.ddr ≠ 2
        ∧ ∀ i : Fin 4, t.time.base[i.castSucc].st = 3 ∧ t.time.base[i.castSucc].err = 0xFFFFFFFF)

/-! ### Security -/

/-- Roots are loaded, erased and stored (SEC_ROOT_LOAD, SEC_ROOT_ERASE, ROOT_STORE_WRITE_DONE, R473, R474, R477): a refused write has no effect; an
operator or administrator root in plain form enters its slot with the next generation, and the action runs until the store is written.
Key wraps and the district switch (SEC_NEXT_KEY_WRAP, FLOCK_KEY_WRAP, SEC_DISTRICT_SWITCH, SUPERFRAME_EDGE, R267, R478, R479): each is refused
under its conditions and otherwise answers with its output; at the superframe the switch names, slots 3 and 5 move to 2 and 4. -/
def Obligations.RootsWrapsAndDistrictSwitch : Prop :=
  ((∀ (s : State) (n f : Nat) (k : Bytes), (s.domServes 2 = false ∨ s.rootLoadCheck n f k ≠ 0) → exec (.secRootLoad n f k) s = .next s)
    ∧ (∀ (s : State) (n : Fin 64) (k : Bytes), n.val < 2 → s.domServes 2 = true → s.tamperActive = false → s.slotRetired n = false → k.length = 40 →
        (∀ b ∈ k.drop 32, b = 0) → s.sec.sealValue ≠ 0 → s.sec.erasePending = false → s.sec.writing = none →
        ∃ t, exec (.secRootLoad n 0 k) s = .next t ∧ t = { s with sec := t.sec, rev := t.rev, act := t.act }
          ∧ t.sec.slot[n] = ⟨1, (s.sec.slot[n].gen + 1) % 2 ^ 32, leNat (k.take 32)⟩ ∧ (∀ i, i ≠ n → t.sec.slot[i] = s.sec.slot[i])
          ∧ t.actOf Obj.SEC_ROOT_LOAD = 1 ∧ t.rev = (s.bumpRev Obj.SEC_ROOT_LOAD).rev ∧ t.sec.writing.isSome = true)
    ∧ (∀ (s : State) (n : Nat) (f : Nat) (k : Bytes), (3 < n ∨ 1 < f) → s.rootLoadCheck n f k = 4)
    ∧ (∀ (s : State) (n : Nat) (k : Bytes), n ≤ 3 → k.length = 40 → (∃ b ∈ k.drop 32, b ≠ 0) → s.rootLoadCheck n 0 k = 3)
    ∧ (∀ (s : State) (n : Nat) (k : Bytes), n ≤ 3 → k.length = 40 → s.tamperActive = true → s.rootLoadCheck n 1 k = 5)
    ∧ (∀ (s : State) (k : Bytes), k.length = 40 → (∃ x ∈ s.flock.recs, x.2.link.st ≠ 0) → s.rootLoadCheck 2 1 k = 5)
    ∧ (∀ (s : State) (k : Bytes), k.length = 40 → s.sec.switchAsn.isSome = true → s.rootLoadCheck 3 1 k = 5)
    ∧ (∀ (s : State) (n : Nat) (k : Bytes), n < 2 → k.length = 40 → s.tamperActive = false → s.slotRetired n = true → s.rootLoadCheck n 1 k = 0x0D)
    ∧ (∀ (s : State) (m : Nat), (s.domServes 2 = false ∨ 16 ≤ m) → exec (.secRootErase m) s = .next s)
    ∧ (∀ s : State, s.domServes 2 = true → s.sec.writing = none → ∃ t, exec (.secRootErase 3) s = .next t
        ∧ t = { s with sec := t.sec, cfg := t.cfg, rev := t.rev, act := t.act }
        ∧ (∀ i : Fin 64, i.val < 2 → t.sec.slot[i] = ⟨0, (s.sec.slot[i].gen + 1) % 2 ^ 32, 0⟩)
        ∧ (∀ i : Fin 64, 2 ≤ i.val → t.sec.slot[i] = s.sec.slot[i]) ∧ t.sec.writing.isSome = true)
    ∧ (∀ (s : State) (b : Bool), s.sec.writing = none → exec (.rootStoreWriteDone b) s = .next s)
    ∧ (∀ (s : State) (i : Fin 2) (c : Bytes) (o : Nat), s.sec.writing = some (i, c, [o]) → s.sec.waiting = [] → exec (.rootStoreWriteDone true) s
        = .next (State.setAct { s with sec := { s.sec with writing := none, waiting := [], store := s.sec.store.set i c } } o 0))
    ∧ ∀ (s : State) (i : Fin 2) (c : Bytes) (o : Nat), s.sec.writing = some (i, c, [o]) → s.sec.waiting = [] →
        ∃ e, 2 ≤ e ∧ e < 19 ∧ exec (.rootStoreWriteDone false) s = .next (State.setAct (State.drawn (State.raise (State.count
          { s with sec := { s.sec with writing := none, waiting := [], store := s.sec.store.set i [] } } Obj.MEM_FLASH_COUNTS 1)
          Ev.FLASH_PROG_FAIL)) o e))
    ∧ ((∀ (s : State) (n : Nat), (s.domServes 2 = false ∨ s.nextWrapCheck n ≠ 0) → exec (.secNextKeyWrap n) s = .next s)
    ∧ (∀ (s : State) (n : Nat), n < 2 ^ 20 → (s.sec.slot[(3 : Fin 64)].st = 0 ∨ s.recOf n = none) → s.nextWrapCheck n = 5)
    ∧ (∀ (s : State) (n : Nat) (r : FlockRec), n < 2 ^ 20 → s.domServes 2 = true → s.sec.slot[(3 : Fin 64)].st ≠ 0 → s.recOf n = some r →
        (r.link.st = 2 ∨ r.link.st = 3) → ∃ t, exec (.secNextKeyWrap n) s = .next t ∧ t = { s with sec := t.sec, rev := t.rev, act := t.act }
          ∧ t.sec.nextWrap = (n, leNat (keyWrap (natLe 16 (kdf s.sec.slot[(2 : Fin 64)].key 0 [r.cfg.eui, r.cfg.keyEpoch]))
            (natLe 16 (kdf s.sec.slot[(3 : Fin 64)].key 0 [r.cfg.eui, r.cfg.keyEpoch])))) ∧ t.sec.slot = s.sec.slot)
    ∧ (∀ (s : State) (v : Nat), (s.domServes 2 = false ∨ s.keyWrapCheck v ≠ 0) → exec (.flockKeyWrap v) s = .next s)
    ∧ (∀ (s : State) (v : Nat) (r x : FlockRec), s.domServes 2 = true → s.recOf (v / 2 ^ 32 % 2 ^ 20) = some r → s.recOf (v % 2 ^ 20) = some x →
        r.cfg.cls = 0x0C → r.link.st = 2 → x.link.st ≠ 0 → ∃ t, exec (.flockKeyWrap v) s = .next t
          ∧ t = { s with sec := t.sec, rev := t.rev, act := t.act } ∧ t.sec.slot = s.sec.slot
          ∧ t.sec.flockWrap = (v % 2 ^ 20, x.tag (v % 2 ^ 20),
            leNat (keyWrap (natLe 16 (kdf s.sec.slot[(2 : Fin 64)].key 0 [r.cfg.eui, r.cfg.keyEpoch]))
              (natLe 16 (kdf s.sec.slot[(2 : Fin 64)].key 0 [x.cfg.eui, x.cfg.keyEpoch])))))
    ∧ (∀ (s : State) (a : Nat), (s.domServes 2 = false ∨ s.sec.slot[(3 : Fin 64)].st = 0 ∨ a < s.asn + 64) → exec (.secDistrictSwitch a) s = .next s)
    ∧ (∀ (s : State) (a : Nat), s.domServes 2 = true → s.sec.slot[(3 : Fin 64)].st ≠ 0 → s.asn + 64 ≤ a → (∀ x ∈ s.flock.recs, x.2.link.st = 0) →
        exec (.secDistrictSwitch a) s = .next (State.bumpRev { s with sec := { s.sec with switchAsn := some a } } Obj.SEC_DISTRICT_SWITCH))
    ∧ (∀ s : State, exec .superframeEdge s = .next (s.superframe.districtSwitch.edgeWork).settled)
    ∧ (∀ s : State, s.sec.switchAsn = none → s.districtSwitch = s)
    ∧ (∀ (s : State) (a : Nat), s.sec.switchAsn = some a → s.asn ≠ a % 2 ^ 40 → s.districtSwitch = s)
    ∧ ∀ (s : State) (a : Nat), s.sec.switchAsn = some a → s.asn = a % 2 ^ 40 → s.flock.recs = [] → (∀ k : Fin 4, s.flock.camp[k].st = 0) →
        (∀ i : Fin 64, 24 ≤ i.val → s.sec.slot[i].st = 0) → (∀ i < 40, s.cfgN Obj.SEC_GROUPS i = 0) →
        (∀ i < 6, s.slotRetired i = false) → ∃ t, s.districtSwitch = t ∧ t.sec.switchAsn = none
          ∧ t.sec.slot[(2 : Fin 64)] = ⟨s.sec.slot[(3 : Fin 64)].st, (s.sec.slot[(2 : Fin 64)].gen + 1) % 2 ^ 32, s.sec.slot[(3 : Fin 64)].key⟩
          ∧ t.sec.slot[(4 : Fin 64)] = ⟨s.sec.slot[(5 : Fin 64)].st, (s.sec.slot[(4 : Fin 64)].gen + 1) % 2 ^ 32, s.sec.slot[(5 : Fin 64)].key⟩
          ∧ t.sec.slot[(3 : Fin 64)] = ⟨0, (s.sec.slot[(3 : Fin 64)].gen + 1) % 2 ^ 32, 0⟩
          ∧ t.sec.slot[(5 : Fin 64)] = ⟨0, (s.sec.slot[(5 : Fin 64)].gen + 1) % 2 ^ 32, 0⟩
          ∧ (∀ i : Fin 64, i.val < 2 ∨ 6 ≤ i.val → t.sec.slot[i] = s.sec.slot[i])
          ∧ t.mesh.beaconCtr = 0 ∧ t.mesh.replay = [] ∧ t.cfg = (s.cfgPut Obj.FL_CHORUS_BASE_SLOT (scalar (64 * a : Nat))).cfg)

/-- The key cache, the random source and attestation complete (KEY_DERIVATION_DONE, DRBG_RESEED, ENTROPY_TEST_FAIL, ENTROPY_RECOVERY,
SEC_ATTEST_REQUEST, ATTEST_REPORT_READY, R462, R467, R485). -/
def Obligations.CacheEntropyAttestation : Prop :=
  (∀ s : State, s.sec.deriving_ = [] → exec .keyDerivationDone s = .next s)
    ∧ (∀ (s : State) (k : DerivedKey) (ks v : List DerivedKey) (h : k.root < 64), s.sec.deriving_ = k :: ks →
        s.sec.slot[(⟨k.root, h⟩ : Fin 64)].gen = k.gen → v = s.sec.cache.filter s.keyLive → v.length < s.keyLines →
        exec .keyDerivationDone s = .next { s with sec := { s.sec with deriving_ := ks, cache := k :: v } })
    ∧ (∀ (s : State) (k : DerivedKey) (ks v : List DerivedKey) (h : k.root < 64), s.sec.deriving_ = k :: ks →
        s.sec.slot[(⟨k.root, h⟩ : Fin 64)].gen = k.gen → v = s.sec.cache.filter s.keyLive → 0 < s.keyLines → v.length = s.keyLines →
        exec .keyDerivationDone s = .next { s with sec := { s.sec with deriving_ := ks, cache := k :: v.dropLast
                                                                       evictions := s.sec.evictions + 1 } })
    ∧ (∀ (s : State) (k : DerivedKey) (ks : List DerivedKey) (h : k.root < 64), s.sec.deriving_ = k :: ks →
        s.sec.slot[(⟨k.root, h⟩ : Fin 64)].gen ≠ k.gen →
        exec .keyDerivationDone s = .next { s with sec := { s.sec with deriving_ := ks, cache := s.sec.cache.filter s.keyLive } })
    ∧ (∀ s : State, s.sec.cache.length ≤ s.keyLines → s.derivationDone.sec.cache.length ≤ s.keyLines)
    ∧ (∀ s : State, s.keyLines ≤ 4096)
    ∧ (∀ s : State, s.sec.entropyFail = false → exec .drbgReseed s = .next { s with sec := { s.sec with reseedAt := s.mono } })
    ∧ (∀ s : State, s.sec.entropyFail = true → exec .drbgReseed s = .next s ∧ exec .entropyTestFail s = .next s)
    ∧ (∀ s : State, s.sec.entropyFail = false →
        exec .entropyTestFail s = .next (State.raise { s with sec := { s.sec with entropyFail := true } } Ev.ENTROPY_FAIL))
    ∧ (∀ s : State, exec .entropyRecovery s = .next { s with sec := { s.sec with entropyFail := false } })
    ∧ (∀ (s : State) (n : Nat), s.sec.attest.isSome = true → exec (.secAttestRequest n) s = .next s)
    ∧ (∀ (s : State) (n : Nat), s.sec.attest = none → n < 2 ^ 256 → s.domOn 2 = true → ∃ t, exec (.secAttestRequest n) s = .next t
        ∧ t = { s with cfg := t.cfg, rev := t.rev, act := t.act, sec := { s.sec with attest := some n } }
        ∧ t.actOf Obj.SEC_ATTEST_STATUS = 1 ∧ t.rev = (s.bumpRev Obj.SEC_ATTEST_REQUEST).rev)
    ∧ (∀ s : State, s.sec.attest = none → exec .attestReportReady s = .next s)
    ∧ ∀ (s : State) (n : Nat), s.sec.attest = some n → ∃ t, exec .attestReportReady s = .next t
        ∧ t = { s with act := t.act, sec := { s.sec with attest := none, report := t.sec.report } }
        ∧ t.sec.report = s.attestBody n ++ natLe 4627 (Config.mldsaSign s.attestSeed (sha3 (s.attestBody n)))
        ∧ t.sec.report.length = 4819 ∧ t.sec.report.take 8 = natLe 4 0x54415445 ++ natLe 2 1 ++ [0xB1, 0]
        ∧ (t.sec.report.take 16).drop 8 = natLe 8 s.fw.otp.eui ∧ (t.sec.report.drop 16).take 32 = natLe 32 n
        ∧ (t.sec.report.drop 48).take 12 = natLe 12 (ts96 s.mono)

/-- Zeroisation (SEC_ZEROISE, R480 to R482): every slot is empty with the next generation, the derived-key cache and the seal register are clear,
every session has ended, bit 6 of the latch is set and the zeroisation is counted; a write of another value has no effect. -/
def Obligations.ZeroisationErases : Prop :=
  (∀ s : State, ∃ t, exec (.secZeroise 1) s = .next (State.settled t)
      ∧ (∀ i : Fin 64, t.sec.slot[i] = ⟨0, (s.sec.slot[i].gen + 1) % 2 ^ 32, 0⟩) ∧ t.sec.cache = [] ∧ t.sec.sealValue = 0 ∧ t.lop.sessions = []
      ∧ t.sec.latch = s.sec.latch ||| 64 ∧ t.sec.zeroisations = min 0xFFFFFFFF (s.sec.zeroisations + 1) ∧ t.sec.active = s.sec.active
      ∧ t.sec.writing = none ∧ t.sec.attest = none ∧ (s.domOn 2 = true → t.sec.store = Vector.replicate 2 [])
      ∧ (s.domOn 2 = false → t.sec.erasePending = true) ∧ t.fw.slot = s.fw.slot ∧ t.fw.otp = s.fw.otp ∧ t.aon.bank = s.aon.bank)
    ∧ ∀ (s : State) (v : Nat), v ≠ 1 → exec (.secZeroise v) s = .next s.settled

/-- Alarm sources (TAMPER_ALARM, TAMPER_SOURCE_INACTIVE, SEAL_LOOP_BIT, SEC_TAMPER_CLEAR, R480, R484, R490): one alarm for each activation; a source
that is not enabled gives none; two bits in a row make or end an activation of the seal loop; the latch is cleared in a window of class 3, never
a bit of an active source.
Presence windows (PRESENCE_PRESS, PRES_STUCK, PRESENCE_WINDOW_EXPIRY, SEC_PRES_CLOSE, R487 to R489): a press selects its class and opens a window, or
restarts the time of the same window; a stuck press opens none; the window closes with its event and the INSTALLER sessions end. -/
def Obligations.AlarmsAndPresence : Prop :=
  ((∀ (s : State) (b : Nat), (6 ≤ b ∨ s.sec.active.testBit b = true) → exec (.tamperAlarm b) s = .next s.settled)
    ∧ (∀ (s : State) (b : Nat), 2 ≤ b → b < 6 → s.sec.active.testBit b = false → exec (.tamperAlarm b) s
        = .next (State.settled (State.zeroise { s with sec := { s.sec with active := s.sec.active ||| 2 ^ b } } (2 ^ b))))
    ∧ (∀ s : State, s.sec.active.testBit 1 = false → (s.cfgN Obj.SEC_TAMPER_ENABLE).testBit 1 = false →
        exec (.tamperAlarm 1) s = .next (State.settled { s with sec := { s.sec with active := s.sec.active ||| 2 } }))
    ∧ (∀ s : State, s.sec.active.testBit 0 = false → (s.cfgN Obj.SEC_TAMPER_ENABLE).testBit 0 = true → s.sec.presClass = 3 →
        (s.cfgN Obj.PW_WAKE_ENABLE).testBit 3 = false → exec (.tamperAlarm 0) s
          = .next (State.settled (State.raise { s with sec := { s.sec with active := s.sec.active ||| 1, sealHeld := true } } Ev.SEAL_OPENED)))
    ∧ (∀ (s : State) (b : Nat), 0 < b → s.sec.active.testBit b = true → exec (.tamperSourceInactive b) s
        = .next (State.settled { s with sec := { s.sec with active := s.sec.active - 2 ^ b } }))
    ∧ (∀ s : State, s.sec.active.testBit 0 = true → exec (.tamperSourceInactive 0) s
        = .next (State.settled { s with sec := { s.sec with active := s.sec.active - 1, sealHeld := false } }))
    ∧ (∀ (s : State) (b : Nat), s.sec.active.testBit b = false → exec (.tamperSourceInactive b) s = .next s.settled)
    ∧ (∀ s : State, s.sec.mismatches = 0 → exec (.sealLoopBit false) s
        = .next (State.settled { s with sec := { s.sec with mismatches := 1, matches_ := 0 } }))
    ∧ (∀ s : State, s.sec.matches_ = 0 → exec (.sealLoopBit true) s
        = .next (State.settled { s with sec := { s.sec with mismatches := 0, matches_ := 1 } }))
    ∧ (∀ s : State, s.sec.mismatches = 1 → exec (.sealLoopBit false) s
        = .next (State.settled (State.tamper { s with sec := { s.sec with mismatches := 2, matches_ := 0 } } 0)))
    ∧ (∀ s : State, s.sec.matches_ = 1 → exec (.sealLoopBit true) s
        = .next (State.settled (State.tamperEnd { s with sec := { s.sec with mismatches := 0, matches_ := 2 } } 0)))
    ∧ (∀ (s : State) (m : Nat), (s.sec.presClass ≠ 3 ∨ m &&& s.sec.active ≠ 0) → exec (.secTamperClear m) s = .next s)
    ∧ ∀ (s : State) (m : Nat), s.sec.presClass = 3 → m &&& s.sec.active = 0 → ∃ t, exec (.secTamperClear m) s = .next t
        ∧ t = { s with sec := { s.sec with latch := t.sec.latch }, cfg := t.cfg, rev := t.rev }
        ∧ ∀ i, t.sec.latch.testBit i = (s.sec.latch.testBit i && !m.testBit i))
    ∧ ((∀ (s : State) (j : Bool) (ms k : Nat), ms < 30000 → (s.cfgN Obj.PW_WAKE_ENABLE).testBit 2 = false → s.sec.stuck = false → s.sec.presClass = 0 →
      k = (if j = true then 1 else if ms < 5000 then 2 else 3) → exec (.presencePress j ms) s
        = .next (State.settled (State.raise (State.count { s with sec := { s.sec with presClass := k, presAt := s.mono, presOpened := s.mono } }
          Obj.SEC_PRES_COUNTS (k - 1)) Ev.PRESENCE_OPEN k)))
    ∧ (∀ (s : State) (j : Bool) (ms : Nat), ms < 30000 → (s.cfgN Obj.PW_WAKE_ENABLE).testBit 2 = false → s.sec.stuck = false →
        s.sec.presClass = (if j = true then 1 else if ms < 5000 then 2 else 3) →
        exec (.presencePress j ms) s = .next (State.settled { s with sec := { s.sec with presAt := s.mono } }))
    ∧ (∀ (s : State) (j : Bool) (ms : Nat), (s.cfgN Obj.PW_WAKE_ENABLE).testBit 2 = false → s.sec.stuck = true →
        exec (.presencePress j ms) s = .next (State.settled { s with sec := { s.sec with stuck := false } }))
    ∧ (∀ (s : State) (j : Bool) (ms : Nat), 30000 ≤ ms → (s.cfgN Obj.PW_WAKE_ENABLE).testBit 2 = false → s.sec.stuck = false →
        exec (.presencePress j ms) s = .next (State.settled ((s.count Obj.SEC_PRES_COUNTS 3).raise Ev.PRES_STUCK)))
    ∧ (∀ s : State, s.sec.stuck = true → exec .presStuck s = .next s)
    ∧ (∀ s : State, s.sec.stuck = false → exec .presStuck s
        = .next ((State.count { s with sec := { s.sec with stuck := true } } Obj.SEC_PRES_COUNTS 3).raise Ev.PRES_STUCK))
    ∧ (∀ s : State, s.sec.presClass = 0 → exec .presenceWindowExpiry s = .next s.settled
        ∧ exec .secPresClose s = .next (s.settled.bumpRev Obj.SEC_PRES_CLOSE))
    ∧ (∀ s : State, (s.sec.presClass = 1 ∨ s.sec.presClass = 2) → exec .secPresClose s = .next (State.bumpRev
        (State.settled (State.endSessions (State.raise { s with sec := { s.sec with presClass := 0 } } Ev.PRESENCE_CLOSE s.sec.presClass)
          fun x => x.role == 3)) Obj.SEC_PRES_CLOSE))
    ∧ ∀ s : State, s.sec.presClass ≠ 0 →
        exec .presenceWindowExpiry s = .next ((s.toMono (s.sec.presAt + 120 * secHalfNs)).closePresence).settled)

/-! ### Time -/

/-- Bellwether's second (BELLWETHER_TICK, R366, R384, R386, R389 to R391): once time is established, TB_GNSS and TB_AIR each gain or lose at most
25 ns against TB_MONO in it and do not run backward, a PTP base that is not in master role follows TB_MONO, and the count of steps stays. Time goes
on by at most 50 ns more than the second, while a base that lost stood still (the model's choice, log entry 69). -/
def Obligations.BellwetherSlewsSlowly : Prop :=
  ∀ s u : State, s.time.established = true → s.time.counting = true → s.time.monoSave = none → u = s.toMono (s.time.lastTick + secHalfNs) →
    ∃ t, exec .bellwetherTick s = .next t ∧ u.mono ≤ t.mono ∧ t.mono ≤ u.mono + 100
      ∧ (∀ i : Fin 5, i = 0 ∨ i = 3 → u.time.base[i].now ≤ t.time.base[i].now ∧ t.time.base[i].now + u.mono ≤ u.time.base[i].now + t.mono + 50
        ∧ u.time.base[i].now + t.mono ≤ t.time.base[i].now + u.mono + 50)
      ∧ (∀ k : Fin 2, s.time.ptp[k].portState ≠ 6 →
        t.time.base[ptpBase k] = { u.time.base[ptpBase k] with now := u.time.base[ptpBase k].now + (t.mono - u.mono) })
      ∧ t.time.base[(0 : Fin 5)].steps = u.time.base[(0 : Fin 5)].steps ∧ t.time.established = true ∧ t.time.lastTick = u.mono

/-- A step of TB_GNSS is at a whole second, counts, and never moves TB_AIR, TB_MONO or a PTP base that is not in master role (TB_GNSS_STEP, R389,
R390). -/
def Obligations.StepsMoveGnssOnly : Prop :=
  (∀ s : State, s.time.stepDue = none → exec .tbGnssStep s = .next s)
    ∧ ∀ (s u : State) (e : Int) (g : Nat), s.time.stepDue = some e → g = s.time.base[0].now →
        u = s.advance ((g + secHalfNs - 1) / secHalfNs * secHalfNs - g) → ∃ t, exec .tbGnssStep s = .next t
          ∧ t.time.base[0].now = ((u.time.base[0].now : Int) + e).toNat ∧ t.time.base[0].slew = u.time.base[0].slew
          ∧ t.time.base[0].steps = min (u.time.base[0].steps + 1) 0xFFFFFFFF ∧ t.time.base[3].now = u.time.base[3].now ∧ t.time.base[4] = u.time.base[4]
          ∧ (s.time.ptp[0].portState ≠ 6 → t.time.base[1] = u.time.base[1]) ∧ (s.time.ptp[1].portState ≠ 6 → t.time.base[2] = u.time.base[2])
          ∧ (s.time.ptp[0].portState = 6 → t.time.base[1].now = ((u.time.base[1].now : Int) + e).toNat)
          ∧ t.time.stepDue = none ∧ t.time.steppedEnd = some (u.mono + 60 * secHalfNs)

/-- Sources and host time complete (SOURCE_DISQUALIFIED, STEPPED_CLEAR, TM_HOST_TIME, TM_ACCEPT_STEP, SUPERFRAME_EDGE's slew; R383, R385, R389, R391):
a selected source that no longer qualifies is replaced at once, the offset of its successor taken; a held step is applied only by a write of 1;
TB_AIR slews by at most 10 µs in a superframe. -/
def Obligations.SourcesComplete : Prop :=
  (∀ s : State, s.time.selected = 0 → exec .sourceDisqualified s = .next s)
    ∧ (∀ (s : State) (i : Fin 4), s.time.selected = i.val + 1 → i ≠ 3 → s.srcQualified i = true → exec .sourceDisqualified s = .next s)
    ∧ (∀ (s t : State) (i : Fin 4), s.time.selected = i.val + 1 → s.srcQualified i = false → t = (s.select s.choose).takeOffset.refreshFlags →
        exec .sourceDisqualified s = .next ((t.tpRefresh 0).tpRefresh 1))
    ∧ (∀ s u t : State, s.time.selected = 4 → s.srcQualified 3 = true →
        u = s.toMono (s.time.src[(3 : Fin 4)].sampleAt + s.cfgN Obj.TM_HOST_VALID * secHalfNs + 1) → u.srcQualified 3 = false →
        t = (u.select u.choose).takeOffset.refreshFlags → exec .sourceDisqualified s = .next ((t.tpRefresh 0).tpRefresh 1))
    ∧ (∀ (s : State) (i : Fin 4), s.time.selected = i.val + 1 → (∀ j, s.srcQualified j = false) → s.choose = 0)
    ∧ (∀ s : State, s.time.steppedEnd = none → exec .steppedClear s = .next s)
    ∧ (∀ (s : State) (e : Nat), s.time.steppedEnd = some e → exec .steppedClear s
        = .next (State.refreshFlags { s.toMono e with time := { (s.toMono e).time with steppedEnd := none } }))
    ∧ (∀ (s : State) (v : Nat), ts96Valid v = true → exec (.tmHostTime v) s
        = .next (State.accept { s with time := { s.time with src := s.time.src.set 3 { s.time.src[(3 : Fin 4)] with
          sample := ts96Half v, sampleAt := s.mono, present := true, sampleErr := s.cfgN Obj.TM_HOST_UNC * 2000 } } } Obj.TM_HOST_TIME (scalar v)))
    ∧ (∀ (s : State) (v : Nat), ts96Valid v = false → exec (.tmHostTime v) s = .next s)
    ∧ (∀ (s : State) (v : Nat), (s.time.heldStep = none ∨ v ≠ 1) → exec (.tmAcceptStep v) s = .next s)
    ∧ (∀ (s : State) (e : Int), s.time.heldStep = some e →
        exec (.tmAcceptStep 1) s = .next { s with time := { s.time with stepDue := some e } })
    ∧ (∀ s : State, s.airSuperframe.time.base[(3 : Fin 5)].now ≤ s.time.base[(3 : Fin 5)].now + 20000
        ∧ (s.time.counting = true → s.time.base[(3 : Fin 5)].now ≤ s.airSuperframe.time.base[(3 : Fin 5)].now))
    ∧ (∀ s : State, s.time.established = false → s.airSuperframe = s)
    ∧ ∀ s u : State, s.time.established = false → s.sec.switchAsn = none → s.flock.recs = [] → s.flock.reqs = [] → s.rf.ended = [] →
        (∀ p : Fin 6, s.mesh.per[p].update = none ∧ s.cfgN (inst Obj.MESH_BEACON_ENABLE p) = 0) → u = s.toEdge.recordSlew →
        u.asn / 256 = s.mesh.guardEpoch → exec .superframeEdge s = .next { u with mesh := { u.mesh with
          edgeAsn := u.air / u.tSf, search := u.mesh.search.filter fun x => decide (u.asn ≤ x.2 + 1) } }

/-- PTP messages complete (PTP_SYNC, STEP_PENDING_END, PTP_ANNOUNCE, ANNOUNCE_RECEIPT_TIMEOUT, PTP_DELAY_REQ, PTP_DELAY_RESP, PTP_MESSAGE_TRANSMIT,
PCS_LATENCY_MEASURED; R373 to R381): an offset beyond 1 ms makes a step pending, during which none is applied; a lost master leaves the base in
holdover; a master answers delay requests.
The time pulse (TIME_PULSE_EDGE, TIME_PULSE_END, R394 to R397): an output that does not run gives no edge; an edge lies where the source base plus
TP_PHASE is a whole multiple of TP_PERIOD, and is recorded, or omitted and counted when it would follow the last by less than half a period;
the pulse ends TP_WIDTH after it. -/
def Obligations.PtpAndPulsesComplete : Prop :=
  ((∀ (s : State) (k : Fin 2) (o c : Int), (s.ptpRuns k = false ∨ (s.time.ptp[k].portState ≠ 8 ∧ s.time.ptp[k].portState ≠ 9)) →
      exec (.ptpSync k o c) s = .next s)
    ∧ (∀ (s : State) (k : Fin 2) (o c x : Int) (l : List Int), s.ptpRuns k = true → (s.time.ptp[k].portState = 8 ∨ s.time.ptp[k].portState = 9) →
        s.time.ptp[k].pendingStep = some l →
        x = o + c + s.time.ptp[k].meanDelay + s.cfgI (inst Obj.ETH_TS_ASYM (s.ptpPort k)) - s.ptpIngress k →
        exec (.ptpSync k o c) s = .next { s with time := { s.time with
          ptp := s.time.ptp.set k { s.time.ptp[k] with syncAt := s.ptpIngress k, syncCorr := o + c, pendingStep := some (l ++ [x]) } } })
    ∧ (∀ (s : State) (k : Fin 2) (o c x : Int), s.ptpRuns k = true → (s.time.ptp[k].portState = 8 ∨ s.time.ptp[k].portState = 9) →
        s.time.ptp[k].pendingStep = none →
        x = o + c + s.time.ptp[k].meanDelay + s.cfgI (inst Obj.ETH_TS_ASYM (s.ptpPort k)) - s.ptpIngress k → msHalfNs < x.natAbs →
        exec (.ptpSync k o c) s = .next { s with time := { s.time with
          ptp := s.time.ptp.set k { s.time.ptp[k] with syncAt := s.ptpIngress k, syncCorr := o + c, pendingStep := some [x], pendAt := s.mono }
          base := s.time.base.set (ptpBase k) { s.time.base[ptpBase k] with st := 4 } } })
    ∧ (∀ (s : State) (k : Fin 2) (o c x : Int), s.ptpRuns k = true → (s.time.ptp[k].portState = 8 ∨ s.time.ptp[k].portState = 9) →
        s.time.ptp[k].pendingStep = none →
        x = o + c + s.time.ptp[k].meanDelay + s.cfgI (inst Obj.ETH_TS_ASYM (s.ptpPort k)) - s.ptpIngress k → x.natAbs ≤ msHalfNs →
        ∃ t, exec (.ptpSync k o c) s = .next t ∧ t = { s with time := t.time, free := s.free + 3 } ∧ t.time.ptp[k].portState = 9
          ∧ t.time.ptp[k].slaveFor = s.time.ptp[k].slaveFor + 1 ∧ t.time.base[ptpBase k].st = 2
          ∧ t.time.base[ptpBase k].now ≤ s.time.base[ptpBase k].now + s.syncInterval k / 10000
          ∧ s.time.base[ptpBase k].now ≤ t.time.base[ptpBase k].now + s.syncInterval k / 10000
          ∧ ∀ i, i ≠ ptpBase k → t.time.base[i] = s.time.base[i])
    ∧ (∀ (s : State) (k : Fin 2), s.time.ptp[k].pendingStep = none → exec (.stepPendingEnd k) s = .next s)
    ∧ (∀ (s u : State) (k : Fin 2) (l : List Int), s.time.ptp[k].pendingStep = some l → u = s.toMono (s.time.ptp[k].pendAt + 8 * s.syncInterval k) →
        ((∃ o ∈ l, o.natAbs ≤ msHalfNs) → exec (.stepPendingEnd k) s = .next (State.count { u with time := { u.time with
          ptp := u.time.ptp.set k { u.time.ptp[k] with pendingStep := none }
          base := u.time.base.set (ptpBase k) { u.time.base[ptpBase k] with st := 2 } } } (inst Obj.PTP_COUNTS (k + 1)) 1))
        ∧ ((∀ o ∈ l, msHalfNs < o.natAbs) → l.length < 4 → exec (.stepPendingEnd k) s = .next { u with time := { u.time with
          ptp := u.time.ptp.set k { u.time.ptp[k] with pendingStep := some [], pendAt := u.mono } } })
        ∧ (∀ v : Int, l = [v, v, v, v] → msHalfNs < v.natAbs → ∃ t, exec (.stepPendingEnd k) s = .next t
          ∧ t.time.base[ptpBase k].now = ((u.time.base[ptpBase k].now : Int) + v).toNat ∧ t.time.base[ptpBase k].st = 2
          ∧ t.time.base[ptpBase k].steps = min (u.time.base[ptpBase k].steps + 1) 0xFFFFFFFF
          ∧ (∀ i, i ≠ ptpBase k → t.time.base[i] = u.time.base[i]) ∧ t.time.ptp[k].portState = 8 ∧ t.time.ptp[k].pendingStep = none))
    ∧ (∀ (s : State) (k : Fin 2) (m : Master), (s.ptpRuns k = false ∨ s.ptpRole k = 2) → exec (.ptpAnnounce k m) s = .next s)
    ∧ (∀ (s : State) (k : Fin 2) (m : Master), s.ptpRuns k = true → s.ptpRole k = 1 → s.cfgN (inst Obj.PTP_PROFILE (k + 1)) < 2 →
        s.time.ptp[k].master = none → exec (.ptpAnnounce k m) s = .next (State.count { s with free := s.free + 1, time := { s.time with
          ptp := s.time.ptp.set k { s.time.ptp[k] with master := some m, portState := 8, slaveFor := 0, pendingStep := none, offsets := [], annAt := s.mono } } }
          (inst Obj.PTP_COUNTS (k + 1)) 2))
    ∧ (∀ (s : State) (k : Fin 2), s.time.ptp[k].master = none → (s.ptpRole k ≠ 3 ∨ s.time.established = false ∨ s.time.ptp[k].portState ≠ 4) →
        exec (.announceReceiptTimeout k) s = .next s)
    ∧ (∀ (s : State) (k : Fin 2), s.time.ptp[k].master = none → s.ptpRole k = 3 → s.time.established = true → s.ptpRuns k = true →
        s.time.ptp[k].portState = 4 → exec (.announceReceiptTimeout k) s = .next (State.syncMasters { s with time := { s.time with
          ptp := s.time.ptp.set k { s.time.ptp[k] with portState := 6 } } }))
    ∧ (∀ (s u : State) (k : Fin 2) (m : Master), s.time.ptp[k].master = some m → s.ptpRole k = 1 →
        u = s.toMono (s.time.ptp[k].annAt + s.cfgN (inst Obj.PTP_ANNOUNCE_TIMEOUT (k + 1)) * s.announceInterval k) →
        exec (.announceReceiptTimeout k) s = .next (State.count { u with time := { u.time with
          ptp := u.time.ptp.set k { u.time.ptp[k] with master := none, slaveFor := 0, pendingStep := none, portState := 4 }
          base := u.time.base.set (ptpBase k) { u.time.base[ptpBase k] with st := 3, flags := 2 } } } (inst Obj.PTP_COUNTS (k + 1)) 3))
    ∧ (∀ (s : State) (k : Fin 2) (a q : Nat) (c : Int), s.ptpRuns k = true → s.time.ptp[k].portState = 6 →
        s.cfgN (inst Obj.PTP_PROFILE (k + 1)) ≠ 1 → s.cfgN (inst Obj.PTP_PROFILE (k + 1)) ≠ 3 → exec (.ptpDelayReq k a q c) s
          = .next ((s.count (inst Obj.ETH_COUNTS (s.ptpPort k)) 1).emit (.ptp k 9 [(a : Int), q, s.ptpIngress k, c])))
    ∧ (∀ (s : State) (k : Fin 2) (a q : Nat) (c : Int), s.ptpRuns k = true → s.cfgN (inst Obj.PTP_PROFILE (k + 1)) = 1 →
        exec (.ptpDelayReq k a q c) s = .next ((((s.count (inst Obj.ETH_COUNTS (s.ptpPort k)) 1).emit (.ptp k 3 [(a : Int), q, s.ptpIngress k])).count
          (inst Obj.ETH_COUNTS (s.ptpPort k)) 1).emit (.ptp k 10 [(a : Int), q, s.ptpEgress k, c])))
    ∧ (∀ (s : State) (k : Fin 2) (a q : Nat) (c : Int), (s.ptpRuns k = false
        ∨ (s.cfgN (inst Obj.PTP_PROFILE (k + 1)) ≠ 1 ∧ s.time.ptp[k].portState ≠ 6)) → exec (.ptpDelayReq k a q c) s = .next s)
    ∧ (∀ (s : State) (k : Fin 2) (x : Int), s.time.ptp[k].reqAt = none → exec (.ptpDelayResp k x) s = .next s)
    ∧ (∀ (s : State) (k : Fin 2) (x r d : Int), s.time.ptp[k].reqAt = some r → s.ptpRuns k = true → s.cfgN (inst Obj.PTP_PROFILE (k + 1)) ≠ 1 →
        (s.time.ptp[k].syncAt - s.time.ptp[k].syncCorr) + (x - r) = 2 * d →
        exec (.ptpDelayResp k x) s = .next { s with free := s.free + 1, time := { s.time with
          ptp := s.time.ptp.set k { s.time.ptp[k] with meanDelay := d, reqAt := none } } })
    ∧ (∀ (s : State) (k : Fin 2), s.ptpRuns k = false → s.ptpRole k ≠ 2 → s.time.ptp[k].portState ≠ 6 → exec (.ptpMessageTransmit k) s = .next s)
    ∧ (∀ (s : State) (k : Fin 2), s.ptpRuns k = true → s.ptpRole k = 1 → (s.time.ptp[k].portState = 8 ∨ s.time.ptp[k].portState = 9) →
        s.cfgN (inst Obj.PTP_PROFILE (k + 1)) = 0 → exec (.ptpMessageTransmit k) s = .next (State.emit (State.count { s with time := { s.time with
          ptp := s.time.ptp.set k { s.time.ptp[k] with seq := (s.time.ptp[k].seq + 1) % 65536, reqAt := some (s.ptpEgress k) } } }
          (inst Obj.ETH_COUNTS (s.ptpPort k)) 1) (.ptp k 1 [(s.time.ptp[k].seq : Int), s.ptpEgress k])))
    ∧ (∀ (s : State) (e : Fin 2) (a b : Nat), s.port.eth[e].up = false → exec (.pcsLatencyMeasured e a b) s = .next s)
    ∧ ∀ (s : State) (e : Fin 2) (a b : Nat), s.port.eth[e].up = true → s.ptpPort 0 ≠ e → s.ptpPort 1 ≠ e → exec (.pcsLatencyMeasured e a b) s
        = .next { s with port := { s.port with eth := s.port.eth.set e { s.port.eth[e] with latIn := a, latOut := b, measured := true } } })
    ∧ ((∀ (s : State) (n : Fin 2), s.tpState n ≠ 1 → s.tpState n ≠ 2 → exec (.timePulseEdge n) s = .next { s with time := { s.time with
      pulse := s.time.pulse.set n { s.time.pulse[n] with since := none, active := false } } })
    ∧ (∀ (s : State) (n : Fin 2) (b : Nat), 0 < s.tpPeriod n → 0 ≤ (b : Int) + s.cfgI Obj.TP_PHASE n →
        ((s.nextEdge n b : Int) + s.cfgI Obj.TP_PHASE n) % (s.tpPeriod n : Int) = 0 ∧ b ≤ s.nextEdge n b ∧ s.nextEdge n b < b + s.tpPeriod n)
    ∧ (∀ (s : State) (n : Fin 2) (x : Nat), (s.tpState n = 1 ∨ s.tpState n = 2) → s.time.pulse[n].since = some x → s.time.pulse[n].active = false →
        s.time.pulse[n].lastEdge = none → s.time.counting = true → s.time.monoSave = none → ∃ t d, exec (.timePulseEdge n) s = .next t
          ∧ t = { s.advance d with time := t.time, outbox := .pulse n true :: s.outbox } ∧ t.time.pulse[n].active = true
          ∧ t.time.pulse[n].seq = (s.time.pulse[n].seq + 1) % 2 ^ 32 ∧ t.time.pulse[n].lastEdge = some t.mono
          ∧ t.time.base = (s.advance d).time.base)
    ∧ (∀ (s : State) (n : Fin 2), (s.time.pulse[n].active = false ∨ s.time.pulse[n].lastEdge = none) → exec (.timePulseEnd n) s = .next s)
    ∧ ∀ (s u : State) (n : Fin 2) (e : Nat), s.time.pulse[n].active = true → s.time.pulse[n].lastEdge = some e →
        u = s.toMono (e + 2 * s.cfgN Obj.TP_WIDTH n) → exec (.timePulseEnd n) s = .next { u with
          outbox := .pulse n false :: s.outbox, time := { u.time with pulse := u.time.pulse.set n { s.time.pulse[n] with active := false } } })

/-! ### Satellite navigation -/

/-- GNSS starts and stops (GN_ENABLE_WRITE, R299, R340): a refused write has no effect; it is refused while GRF, GCOR or NAV is not on or no signal is
enabled; a write of 1 starts the receiver, a write of 0 releases every channel; a write of the present value raises only the revision.
The GNSS front end (GRF_CAL_ITEM_END, AGC_UPDATE, ANT_BIAS_MEASUREMENT, ANT_RETRY_EXPIRY, R301 to R304): an item that passes is followed by the next
one, a first failure repeats it, a second takes factory values with CAL_FALLBACK; the gain stays within 0 to 60 dB; a bias current above
GN_ANT_SHORT_MA opens the switch, which closes again after GN_ANT_RETRY. -/
def Obligations.GnssStartsAndFrontEnd : Prop :=
  ((∀ (s : State) (v : Nat), s.gnEnableCheck v ≠ 0 → exec (.gnEnableWrite v) s = .next s)
    ∧ (∀ (s : State) (v : Nat), 1 < v → s.gnEnableCheck v = 4)
    ∧ (∀ s : State, (s.domOn 13 = false ∨ s.domOn 14 = false ∨ s.domOn 15 = false ∨ s.cfgN Obj.GN_SYSTEMS = 0 ∨ s.sigsOn = []) → s.gnEnableCheck 1 = 5)
    ∧ (∀ s : State, s.gnEnableCheck 0 = 0)
    ∧ (∀ s : State, s.cfgN Obj.GN_ENABLE = 1 → ∃ t, exec (.gnEnableWrite 0) s = .next t
        ∧ t = { s with gnss := t.gnss, time := t.time, cfg := t.cfg, rev := t.rev } ∧ t.gnss.chans = [] ∧ t.gnss.jobs = [] ∧ t.gnss.used = []
        ∧ t.time.src[(0 : Fin 4)].traceable = false ∧ t.rev = (s.bumpRev Obj.GN_ENABLE).rev)
    ∧ (∀ s : State, s.gnEnableCheck 1 = 0 → s.cfgN Obj.GN_ENABLE = 0 →
        exec (.gnEnableWrite 1) s = .next ((s.cfgPut Obj.GN_ENABLE (scalar 1)).gnssStart.bumpRev Obj.GN_ENABLE))
    ∧ ∀ s : State, s.gnEnableCheck 1 = 0 → s.cfgN Obj.GN_ENABLE = 1 →
        exec (.gnEnableWrite 1) s = .next ((s.cfgPut Obj.GN_ENABLE (scalar 1)).bumpRev Obj.GN_ENABLE))
    ∧ ((∀ (s : State) (b : Fin 2) (a : Bool) (v : Nat), (s.gnss.band[b].item = 0 ∨ 4 < s.gnss.band[b].item) →
        exec (.grfCalItemEnd b a v) s = .next s)
    ∧ (∀ (s u : State) (b : Fin 2) (v : Nat) (i : Fin 4) (x : GBand), s.gnss.band[b].item = i.val + 1 →
        u = s.toMono (s.gnss.band[b].itemAt + grfItemTime s.gnss.band[b].item) →
        x = { s.gnss.band[b] with cal := s.gnss.band[b].cal.set i 1, delay := if i = 3 then min v 0xFFFFFFFF else s.gnss.band[b].delay } →
        ∃ t, exec (.grfCalItemEnd b true v) s = .next t ∧ t = { u with gnss := { s.gnss with band := t.gnss.band, grf := t.gnss.grf } }
          ∧ t.gnss.band[b] = { x with item := if i.val < 3 then x.firstItem (i.val + 2) else 0, itemAt := u.mono, retried := false }
          ∧ (∀ e, e ≠ b → t.gnss.band[e] = s.gnss.band[e])
          ∧ (s.gnss.grf = 1 → (t.gnss.grf = if t.gnss.band[(0 : Fin 2)].item = 0 ∧ t.gnss.band[(1 : Fin 2)].item = 0 then 2 else 1)))
    ∧ (∀ (s u : State) (b : Fin 2) (v : Nat) (i : Fin 4), s.gnss.band[b].item = i.val + 1 → s.gnss.band[b].retried = false →
        u = s.toMono (s.gnss.band[b].itemAt + grfItemTime s.gnss.band[b].item) → exec (.grfCalItemEnd b false v) s
          = .next { u with gnss := { s.gnss with band := s.gnss.band.set b { s.gnss.band[b] with retried := true, itemAt := u.mono } } })
    ∧ (∀ (s : State) (b : Fin 2) (v : Nat), s.gnss.band[b].item = 1 → s.gnss.band[b].retried = true → s.fw.otp.grf[b][(0 : Fin 4)] = none → ∃ t,
        exec (.grfCalItemEnd b false v) s = .next t ∧ t.gnss.grf = 3 ∧ t.gnss.band[b].fault = true ∧ t.gnss.band[b].item = 0
          ∧ t.gnss.band[b].cal = s.gnss.band[b].cal.set 0 3)
    ∧ (∀ (s : State) (b : Fin 2) (v : Nat) (i : Fin 4), s.gnss.band[b].item = i.val + 1 → s.gnss.band[b].retried = true →
        (i ≠ 0 ∨ s.fw.otp.grf[b][i] ≠ none) → ∃ t, exec (.grfCalItemEnd b false v) s = .next t ∧ t.gnss.band[b].cal = s.gnss.band[b].cal.set i 2
          ∧ t.gnss.band[b].retried = false ∧ (i = 3 → t.gnss.band[b].delay = (s.fw.otp.grf[b][i]).getD 0))
    ∧ (∀ (s : State) (g h : Int), s.bandRuns 0 = true → s.bandRuns 1 = true → ∃ t, exec (.agcUpdate g h) s = .next t
        ∧ t = { s with gnss := { s.gnss with band := t.gnss.band } } ∧ t.gnss.band[(0 : Fin 2)].gain = max 0 (min 600 g)
        ∧ t.gnss.band[(1 : Fin 2)].gain = max 0 (min 600 h))
    ∧ (∀ (s : State) (g h : Int), s.bandRuns 0 = false → s.bandRuns 1 = false → exec (.agcUpdate g h) s = .next s)
    ∧ (∀ (s : State) (m : Nat), s.domOn 13 = false → exec (.antBiasMeasurement m) s = .next s)
    ∧ (∀ (s : State) (m : Nat), s.domOn 13 = true → s.cfgN Obj.GN_ANT_BIAS_ENABLE ≠ 0 → s.gnss.antOpen = false → s.cfgN Obj.GN_ANT_SHORT_MA < m →
        exec (.antBiasMeasurement m) s = .next (State.raise { s with gnss := { s.gnss with
          antCurrent := min m 0xFFFF, ant := 4, antOpen := true, antShort := true, antLow := 0
          antRetryAt := s.mono + s.cfgN Obj.GN_ANT_RETRY * secHalfNs } } Ev.ANT_SHORT 0xFF m))
    ∧ (∀ (s : State) (m : Nat), s.domOn 13 = true → s.cfgN Obj.GN_ANT_BIAS_ENABLE ≠ 0 → s.gnss.antOpen = false → s.gnss.ant = 1 →
        s.cfgN Obj.GN_ANT_OPEN_MA ≤ m → m ≤ s.cfgN Obj.GN_ANT_SHORT_MA → exec (.antBiasMeasurement m) s
          = .next { s with gnss := { s.gnss with antCurrent := min m 0xFFFF, ant := 1, antLow := 0, antShort := false } })
    ∧ (∀ s : State, s.gnss.ant = 4 → s.gnss.antOpen = true → exec .antRetryExpiry s
        = .next { s.toMono s.gnss.antRetryAt with gnss := { s.gnss with antOpen := false, antLow := 0 } })
    ∧ ∀ s : State, (s.gnss.ant ≠ 4 ∨ s.gnss.antOpen = false) → exec .antRetryExpiry s = .next s)

/-- Interference (NOTCH_EVALUATION, BLANK_INTERVAL_END, JAM_INDICATOR_UPDATE, R305 to R312): a spectrum without lines leaves idle cells idle; a line of
the threshold takes a free adaptive cell; blanking beyond GN_BLANK_MAX is counted and suspended; the tenth indicator in a row at the threshold
raises GNSS_JAMMED. -/
def Obligations.InterferenceComplete : Prop :=
  (∀ (s : State) (b : Fin 2) (sp : List Int) (p : List Nat) (r : List (Nat × Nat)) (g : Int), s.bandRuns b = false →
      exec (.notchEvaluation b sp p) s = .next s ∧ exec (.blankIntervalEnd b r) s = .next s ∧ exec (.jamIndicatorUpdate b g) s = .next s)
    ∧ (∀ (s : State) (b : Fin 2) (p : List Nat) (n : Nat) (v : Int), s.bandRuns b = true → 0 < s.cfgN (inst Obj.GN_NOTCH_THRESH b) →
        (∀ i : Fin 4, s.gnss.band[b].cell[i] = ⟨false, 0, 0, 0, 0⟩) → exec (.notchEvaluation b (List.replicate n v) p) s
          = .next { s with gnss := { s.gnss with band := s.gnss.band.set b { s.gnss.band[b] with spectrum := List.replicate (min 1024 n) 0 } } })
    ∧ (∀ (s : State) (b : Fin 2) (k m f : Nat) (v l : Int), s.bandRuns b = true → (∀ i : Fin 4, s.gnss.band[b].cell[i] = ⟨false, 0, 0, 0, 0⟩) →
        (∀ i < 4, s.notchFixed b i = false) → 0 < s.cfgN (inst Obj.GN_NOTCH_THRESH b) → (s.cfgN (inst Obj.GN_NOTCH_THRESH b) : Int) ≤ l →
        0 < k → 0 < m → k + 1 + m ≤ 1024 → specBin b f = k → ∃ t,
        exec (.notchEvaluation b (List.replicate k v ++ (v + l) :: List.replicate m v) [f]) s = .next t
          ∧ t = { s with gnss := { s.gnss with band := t.gnss.band } } ∧ t.gnss.band[b].cell[(0 : Fin 4)] = ⟨true, f, f, l, 0⟩
          ∧ (∀ i : Fin 4, i ≠ 0 → t.gnss.band[b].cell[i] = ⟨false, 0, 0, 0, 0⟩) ∧ ∀ e, e ≠ b → t.gnss.band[e] = s.gnss.band[e])
    ∧ (∀ (s : State) (b : Fin 2) (l : List (Nat × Nat)) (n : Nat × Nat) (r : Nat), s.bandRuns b = true →
        s.cfgN (inst Obj.GN_BLANK_ENABLE b) = 1 → s.gnss.band[b].suspended = false →
        n = blankRun (s.cfgN (inst Obj.GN_BLANK_THRESH b)) (s.cfgN (inst Obj.GN_BLANK_HOLD b) * 64 / 1000) (b.val + 1) l 0 s.gnss.band[b].hold →
        r = n.1 * 10000 / max 1 l.length →
        (r ≤ s.cfgN (inst Obj.GN_BLANK_MAX b) * 100 → exec (.blankIntervalEnd b l) s = .next { s with gnss := { s.gnss with
          band := s.gnss.band.set b { s.gnss.band[b] with ratio := r, suspended := false, hold := n.2 } } })
        ∧ (s.cfgN (inst Obj.GN_BLANK_MAX b) * 100 < r → exec (.blankIntervalEnd b l) s = .next (State.count { s with gnss := { s.gnss with
          band := s.gnss.band.set b { s.gnss.band[b] with ratio := r, suspended := true, hold := n.2 } } } (inst Obj.GN_BLANK_SATURATED b))))
    ∧ (∀ (s : State) (b : Fin 2) (l : List (Nat × Nat)), s.bandRuns b = true →
        (s.gnss.band[b].suspended = true ∨ s.cfgN (inst Obj.GN_BLANK_ENABLE b) ≠ 1) → exec (.blankIntervalEnd b l) s = .next { s with
          gnss := { s.gnss with band := s.gnss.band.set b { s.gnss.band[b] with ratio := 0, suspended := false, hold := 0 } } })
    ∧ (∀ (th h p : Nat) (l : List (Nat × Nat)), (∀ x ∈ l, 16 * x.1 ≤ th * th * x.2) → (blankRun th h p l 0 0).1 = 0)
    ∧ (∀ (th h p : Nat) (l : List (Nat × Nat)), (∀ x ∈ l, th * th * x.2 < 16 * x.1) → (blankRun th h p l 0 0).1 = l.length)
    ∧ (∀ (s : State) (b : Fin 2) (g : Int), s.bandRuns b = true → s.fw.otp.gref[b] + g ≤ s.cfgI Obj.GN_EXT_GAIN b + s.gnss.band[b].gain →
        s.gnss.band[b].jammed = false → 0 < s.cfgN (inst Obj.GN_JAM_THRESH b) → ∃ t, exec (.jamIndicatorUpdate b g) s = .next t
          ∧ t = { s with free := s.free + 1, gnss := { s.gnss with band := t.gnss.band } } ∧ t.gnss.band[b].jamInd = 0 ∧ t.gnss.band[b].high = 0
          ∧ t.gnss.band[b].jammed = false ∧ ∀ e, e ≠ b → t.gnss.band[e] = s.gnss.band[e])
    ∧ (∀ (s : State) (b : Fin 2) (g : Int) (n : Nat), s.bandRuns b = true → s.gnss.band[b].jammed = false → s.gnss.band[b].high = 9 →
        n = min 255 (4 * (s.fw.otp.gref[b] + g - s.cfgI Obj.GN_EXT_GAIN b - s.gnss.band[b].gain).toNat / 10) →
        s.cfgN (inst Obj.GN_JAM_THRESH b) ≤ n → ∃ u, exec (.jamIndicatorUpdate b g) s = .next (State.raise u Ev.GNSS_JAMMED b n)
          ∧ u = { s with free := s.free + 1, gnss := { s.gnss with band := u.gnss.band } } ∧ u.gnss.band[b].jammed = true ∧ u.gnss.band[b].jamInd = n)
    ∧ ∀ (s : State) (b : Fin 2) (g : Int) (n : Nat), s.bandRuns b = true → s.gnss.band[b].jammed = true → s.gnss.band[b].low = 49 →
        n = min 255 (4 * (s.fw.otp.gref[b] + g - s.cfgI Obj.GN_EXT_GAIN b - s.gnss.band[b].gain).toNat / 10) →
        n + 8 < s.cfgN (inst Obj.GN_JAM_THRESH b) → ∃ u, exec (.jamIndicatorUpdate b g) s = .next (State.raise u Ev.GNSS_JAM_CLEAR b)
          ∧ u = { s with free := s.free + 1, gnss := { s.gnss with band := u.gnss.band } } ∧ u.gnss.band[b].jammed = false ∧ u.gnss.band[b].jamInd = n

/-- Acquisition and tracking (ACQ_JOB_DONE, NIMB_AUTO_OFF, CHANNEL_RELEASE, REACQ_EXPIRY, LOOP_OPEN_TIMEOUT, COHERENT_INTERVAL_END, R314 to R322): a verified
detection takes a channel, a missed one ends the job; a lost channel goes to reacquisition; each coherent interval judges lock. -/
def Obligations.AcquisitionAndTracking : Prop :=
  (∀ (s : State) (g v p q : Nat) (e : Int), (s.gnssOn = false ∨ s.bandRuns (sigOf g).band = false) → exec (.acqJobDone g v p q e) s = .next s)
    ∧ (∀ (s : State) (g v p q : Nat) (e : Int), s.gnss.reacq = [] → s.gnss.jobs = [] → exec (.acqJobDone g v p q e) s = .next s)
    ∧ (∀ (s u : State) (p q : Nat) (e : Int) (j : AcqJob), s.gnssOn = true → s.bandRuns (sigOf j.sig).band = true → s.domOn 16 = true →
        s.gnss.reacq = [] → s.gnss.jobs = [j] →
        u = s.toMono (max j.madeAt s.gnss.lastJobEnd + j.time (decide (s.cfgN Obj.GN_ACQ_THRESH ≤ p))) →
        (p < s.cfgN Obj.GN_ACQ_THRESH → ∃ t, exec (.acqJobDone j.sig j.sv p q e) s = .next t
          ∧ t = { u with free := s.free + 1, gnss := { s.gnss with lastJobEnd := u.mono, jobs := t.gnss.jobs } }
          ∧ (t.gnss.jobs = [] ∨ t.gnss.jobs = [{ j with madeAt := u.mono }]))
        ∧ (s.cfgN Obj.GN_ACQ_THRESH ≤ p → q < s.cfgN Obj.GN_ACQ_THRESH → exec (.acqJobDone j.sig j.sv p q e) s
          = .next { u with gnss := { s.gnss with lastJobEnd := u.mono, jobs := [{ j with madeAt := u.mono }] } })
        ∧ (s.cfgN Obj.GN_ACQ_THRESH ≤ p → s.cfgN Obj.GN_ACQ_THRESH ≤ q → s.gnss.chans = [] → s.gnss.waiting = [] → s.flt.retired = [] →
          s.sigsOn = [j.sig] → ∃ t x, exec (.acqJobDone j.sig j.sv p q e) s = .next t
          ∧ t = { u with gnss := { s.gnss with lastJobEnd := u.mono, jobs := [], chans := [x] } }
          ∧ x.num = 0 ∧ x.sig = j.sig ∧ x.sv = j.sv ∧ x.elev = e ∧ x.since = u.mono))
    ∧ (∀ s : State, (s.cfgN Obj.GN_NIMB_AUTO ≠ 1 ∨ s.gnss.jobs ≠ [] ∨ s.cfgN Obj.SN_ENABLE ≠ 0 ∨ s.domOn 16 = false) → exec .nimbAutoOff s = .next s)
    ∧ (∀ s u : State, s.cfgN Obj.GN_NIMB_AUTO = 1 → s.gnss.jobs = [] → s.cfgN Obj.SN_ENABLE = 0 → s.domOn 16 = true →
        u = s.toMono (s.gnss.lastJobEnd + secHalfNs) → (u.targetRefusal 16 0 = none → exec .nimbAutoOff s = .next (u.applyTarget 16 0))
          ∧ ∀ r, u.targetRefusal 16 0 = some r → exec .nimbAutoOff s = .next (u.countRefusal 16 r.2 r.1))
    ∧ (∀ (s : State) (n : Nat), s.chanOf n = none → exec (.channelRelease n) s = .next s ∧ exec (.loopOpenTimeout n) s = .next s
        ∧ ∀ c p h m, exec (.coherentIntervalEnd n c p h m) s = .next s)
    ∧ (∀ (s : State) (n x : Nat) (c : Channel), s.chanOf n = some c → c.lostAt = some x → s.gnss.waiting = [] → exec (.channelRelease n) s
        = .next { s.toMono (x + 2 * secHalfNs) with gnss := { s.gnss with
            chans := s.gnss.chans.filter (fun y => y.num != c.num)
            reacq := s.gnss.reacq ++ [(c.sig, c.sv, (s.toMono (x + 2 * secHalfNs)).mono)] } })
    ∧ (∀ (s : State) (n x : Nat) (c : Channel), s.chanOf n = some c → c.openAt = some x → s.gnss.waiting = [] → exec (.loopOpenTimeout n) s
        = .next { s.toMono (x + 100 * msHalfNs + 1) with gnss := { s.gnss with
            chans := s.gnss.chans.filter (fun y => y.num != c.num)
            reacq := s.gnss.reacq ++ [(c.sig, c.sv, (s.toMono (x + 100 * msHalfNs + 1)).mono)] } })
    ∧ (∀ (s : State) (g v : Nat), s.gnss.reacq = [] → exec (.reacqExpiry g v) s = .next s)
    ∧ (∀ (s u : State) (g v x : Nat), s.gnss.reacq = [(g, v, x)] → s.gnss.chans = [] → s.sigsOn = [g] → s.gnss.jobs = [] → s.domOn 16 = true →
        u = s.toMono (x + 10 * secHalfNs) → ∃ t m, exec (.reacqExpiry g v) s = .next t
          ∧ t = { u with gnss := { s.gnss with reacq := [], jobs := [⟨g, v, m, u.mono⟩] } })
    ∧ (∀ (s : State) (n cn0 : Nat) (p : Int) (h : Bool) (m : Option Nat) (c : Channel), s.chanOf n = some c →
        (s.navServes = false ∨ s.bandRuns (sigOf c.sig).band = false) → exec (.coherentIntervalEnd n cn0 p h m) s = .next s)
    ∧ ∀ (s u : State) (n cn0 : Nat) (p : Int) (h : Bool) (m : Option Nat) (c : Channel), s.chanOf n = some c → s.navServes = true →
        s.bandRuns (sigOf c.sig).band = true → u = s.toMono (c.cohAt + c.coh * msHalfNs) → ∃ t x,
        exec (.coherentIntervalEnd n cn0 p h m) s = .next t ∧ t = { u with gnss := { s.gnss with chans := t.gnss.chans } } ∧ t.chanOf n = some x
          ∧ x.num = c.num ∧ x.sig = c.sig ∧ x.sv = c.sv ∧ (x.codeLock = true ↔ s.cfgN Obj.GN_TRACK_DROP ≤ cn0) ∧ (x.phaseLock = true ↔ 800 ≤ p)
          ∧ (x.codeLock = true → x.lostAt = none) ∧ (x.codeLock = false → x.lostAt = some (c.lostAt.getD u.mono)) ∧ x.openAt = none
          ∧ x.cohAt = u.mono ∧ x.coh = s.cohMs c.sig m ∧ x.spacing = s.cfgN Obj.GN_SPACING c.sig
          ∧ (c.phaseLock = true → x.phaseLock = false → x.phaseLoop = false ∧ x.since = u.mono)

/-- Ephemerides and records (EPHEMERIS_DECODED, MEASUREMENT_EPOCH, HOTSTART_SAVE, TM_CV_PEER, OFFSET_HISTORY_ENTRY; R322 to R325, R336, R339, R348,
R393): a decode that fails its checks is rejected, counted, and never replaces a set; each epoch raises SEQ, produced or not; a peer's epoch without
an own one gives status 1. -/
def Obligations.EphemeridesAndEpochs : Prop :=
  (∀ (s : State) (a : EphArg), s.gnssOn = true → s.navServes = true → (a.parityOk = false ∨ a.iodOk = false) → exec (.ephemerisDecoded a) s
      = .next ((s.raise Ev.EPH_REJECTED 0xFF a.code a.sv).count Obj.GN_EPH_REJECTED))
    ∧ (∀ (s : State) (a : EphArg), (s.gnssOn = false ∨ s.navServes = false) → exec (.ephemerisDecoded a) s = .next s)
    ∧ (∀ (s : State) (a : EphArg), s.gnssOn = true → s.navServes = true → a.parityOk = true → a.iodOk = true → a.distAlm = none →
        s.gnss.ephs = [] → s.gnss.spare = 0 → s.gnss.ephOnce = [] → exec (.ephemerisDecoded a) s
          = .next { s with gnss := { s.gnss with ephOnce := [⟨a.sys, a.sv, a.toe, a.iod, a.healthy, a.content⟩] } })
    ∧ (∀ (s : State) (a : EphArg), s.gnssOn = true → s.navServes = true → a.parityOk = true → a.iodOk = true → a.distAlm = none →
        s.gnss.ephs = [] → s.gnss.spare = 0 → s.gnss.ephOnce = [⟨a.sys, a.sv, a.toe, a.iod, a.healthy, a.content⟩] → ∃ t,
        exec (.ephemerisDecoded a) s = .next t ∧ t = { s with gnss := t.gnss, aon := t.aon, free := s.free + 2 }
          ∧ t.gnss.ephs = [⟨a.sys, a.sv, a.toe, a.iod, a.healthy, a.content⟩] ∧ t.gnss.setNo = (s.gnss.setNo + 1) % 65536 ∧ t.gnss.ephOnce = [])
    ∧ (∀ (s : State) (a : GnSolve), s.gnssOn = false → exec (.measurementEpoch a) s = .next s)
    ∧ (∀ (s : State) (a : GnSolve), s.gnssOn = true → ∃ t, exec (.measurementEpoch a) s = .next t ∧ t.gnss.seq = (s.gnss.seq + 1) % 65536
        ∧ t.gnss.epochAt = some s.toEpoch.time.base[(0 : Fin 5)].now ∧ t.time.base = s.toEpoch.time.base)
    ∧ (∀ (s : State) (a : GnSolve), s.gnssOn = true → s.navServes = false → exec (.measurementEpoch a) s = .next { s.toEpoch with gnss :=
        { s.gnss with seq := (s.gnss.seq + 1) % 65536, epochAt := some s.toEpoch.time.base[(0 : Fin 5)].now } })
    ∧ (∀ (s : State) (a : GnSolve), s.gnssOn = true → s.navServes = true → s.gnss.chans = [] → s.cfgN Obj.GN_TIMING_MODE = 0 → s.cfgN Obj.GN_MEAS_ENABLE = 0 →
        a.entries = [] → ∃ t, exec (.measurementEpoch a) s = .next t ∧ t = { s.toEpoch with gnss := t.gnss, time := t.time }
          ∧ t.gnss.seq = (s.gnss.seq + 1) % 65536 ∧ t.gnss.used = [] ∧ t.gnss.spare = 0 ∧ t.time.src[(0 : Fin 4)].present = false
          ∧ t.time.base = s.toEpoch.time.base)
    ∧ (∀ (s : State) (p : Nat), p = secHalfNs / max 1 (s.cfgN Obj.GN_MEAS_RATE) → 0 < p → s.time.counting = true →
        s.toEpoch.time.base[(0 : Fin 5)].now % p = 0 ∧ s.time.base[(0 : Fin 5)].now ≤ s.toEpoch.time.base[(0 : Fin 5)].now
        ∧ s.toEpoch.time.base[(0 : Fin 5)].now < s.time.base[(0 : Fin 5)].now + (if s.gnss.epochAt = none then p else 2 * p)
        ∧ s.gnss.epochAt ≠ some s.toEpoch.time.base[(0 : Fin 5)].now)
    ∧ (∀ s : State, (s.cfgN Obj.GN_ENABLE = 0 ∨ s.domOn 15 = false) → exec .hotstartSave s = .next s)
    ∧ (∀ s : State, s.cfgN Obj.GN_ENABLE = 1 → s.domOn 15 = true → ∃ t, exec .hotstartSave s = .next t
        ∧ t = { s with aon := t.aon, free := t.free } ∧ t.aon.savedAt = s.rtcTime / secHalfNs ∧ t.aon.hot.refSource = s.refPos.1
        ∧ t.aon.hot.ref = s.refPos.2 ∧ t.aon.bank[1].intact = true ∧ t.aon.bank[2].intact = true ∧ t.aon.bank[3] = s.aon.bank[3])
    ∧ (∀ (s : State) (b : Bytes), 9248 < b.length → exec (.tmCvPeer b) s = .next s)
    ∧ (∀ (s u : State) (b : Bytes), b.length ≤ 9248 → u = s.cfgPut Obj.TM_CV_PEER (b.map fun x => [(x.toNat : Int)]) →
        (epochWhole b = false → exec (.tmCvPeer b) s = .next (u.bumpRev Obj.TM_CV_PEER))
        ∧ (epochWhole b = true → s.time.epochs.find? (fun p => p.1 == leAt b 0 12) = none →
          exec (.tmCvPeer b) s = .next (State.bumpRev { u with time := { s.time with cv := [1, 0, 0, 0] } } Obj.TM_CV_PEER))
        ∧ ∀ (e n : Nat) (own : List (Nat × Int)), epochWhole b = true → s.time.epochs.find? (fun p => p.1 == leAt b 0 12) = some (e, own) →
          n = ((own.map (·.1)).eraseDups.filter fun k => (peerEntries (leAt b 22 1) (b.drop 32)).any fun p => p.1 == k).length →
          (n < 4 → exec (.tmCvPeer b) s = .next (State.bumpRev { u with time := { s.time with cv := [2, (n : Int), 0, 0] } } Obj.TM_CV_PEER))
          ∧ (4 ≤ n → ∃ (mean : Int) (err : Nat), err ≤ 65535 ∧ exec (.tmCvPeer b) s = .next (State.bumpRev
            { u with free := s.free + 1, time := { s.time with cv := [0, (n : Int), mean, (err : Int)] } } Obj.TM_CV_PEER)))
    ∧ (∀ s : State, (s.time.established = false ∨ s.isHeld 0xB = true) → exec .offsetHistoryEntry s = .next s)
    ∧ ∀ s : State, s.time.established = true → s.isHeld 0xB = false → s.time.history = [] → exec .offsetHistoryEntry s
        = .next { s with time := { s.time with history := [(s.air, (s.air : Int) - s.time.base[(0 : Fin 5)].now, s.airTraceable)] } }

/-! ### Snapshot positioning -/

/-- The checks of a capture run in the order of their codes (SNAPSHOT_FRAGMENT, R353, Table SN-3): a fragment that fails one of the first three
ends with its code, counted and with one record; a lone second half ends with FRAG_MISMATCH.
Captures run through Nimbus (FRAG_TIMEOUT, NIMBUS_INTERVAL, NIMBUS_JOB_START, SNAPSHOT_DEADLINE, NIMBUS_JOB_DONE, SNAPSHOT_SOLUTION, SN_ENABLE_WRITE;
R355 to R361): each ends with its status and one record, or goes on to the next stage. -/
def Obligations.SnapshotsComplete : Prop :=
  ((∀ (s : State) (f : SnFrag) (l : Bool) (y : List SkySat), s.cfgN Obj.SN_ENABLE = 0 → s.intake f l y = s.fragEnd f 1)
    ∧ (∀ (s : State) (f : SnFrag) (l : Bool) (y : List SkySat), s.cfgN Obj.SN_ENABLE ≠ 0 →
        (l = false ∨ headerOk f.ctrl f.offset s.tSlot = false) → s.intake f l y = s.fragEnd f 2)
    ∧ (∀ (s : State) (f : SnFrag) (y : List SkySat), s.cfgN Obj.SN_ENABLE ≠ 0 → headerOk f.ctrl f.offset s.tSlot = true → f.ctrl.testBit 4 = false →
        (1024 < f.m → s.intake f true y = s.fragEnd f 2) ∧ (f.m < 960 → s.intake f true y = s.fragEnd f 3))
    ∧ (∀ (s : State) (f : SnFrag) (y : List SkySat), s.cfgN Obj.SN_ENABLE ≠ 0 → headerOk f.ctrl f.offset s.tSlot = true →
        960 ≤ f.m → f.m ≤ 1024 → f.ctrl.testBit 4 = true → s.snap.frags = [] → s.intake f true y = s.fragEnd f 4)
    ∧ (∀ (s : State) (f : SnFrag) (y : List SkySat), s.cfgN Obj.SN_ENABLE ≠ 0 → headerOk f.ctrl f.offset s.tSlot = true →
        960 ≤ f.m → f.m ≤ 1024 → f.ctrl.testBit 4 = false → f.ctrl.testBit 5 = true → s.extMem = true →
        (∀ x ∈ s.snap.frags, x.flock ≠ f.flock) → s.snap.frags.length < 4096 →
        s.intake f true y = { s with snap := { s.snap with frags := s.snap.frags ++ [f] } })
    ∧ (∀ (s : State) (f : SnFrag) (y : List SkySat), s.cfgN Obj.SN_ENABLE ≠ 0 → headerOk f.ctrl f.offset s.tSlot = true →
        960 ≤ f.m → f.m ≤ 1024 → f.ctrl.testBit 4 = false → f.ctrl.testBit 5 = false → (∀ x ∈ s.snap.frags, x.flock ≠ f.flock) →
        s.intake f true y = s.capture f f y)
    ∧ (∀ (s : State) (f g : SnFrag) (y : List SkySat), s.capAir f = none → s.capture f g y
        = s.snEnd (SnRecord.bare f.flock f.capId 7 (fragFlags f ||| fragFlags g)) [])
    ∧ (∀ (s : State) (f g : SnFrag) (y : List SkySat) (t : Int), s.capAir f = some t →
        (s.capFault f g t ≠ 0 → s.capture f g y = s.capFail f g t (s.capFault f g t))
        ∧ (s.capFault f g t = 0 → s.queueFault f (s.capSats t y) ≠ 0 → s.capture f g y
          = State.jobEnd { s with free := s.free + 1 } (s.capJob f g t (s.capSats t y)) (s.queueFault f (s.capSats t y)))
        ∧ (s.capFault f g t = 0 → s.queueFault f (s.capSats t y) = 0 → ∃ (u : State) (p : Nat), s.snap.peak ≤ p
          ∧ u = { s with snap := { s.snap with queue := s.snap.queue ++ [s.capJob f g t (s.capSats t y)], peak := p } }
          ∧ s.capture f g y = { u with free := s.free + 1 }))
    ∧ (∀ (s : State) (f g : SnFrag) (t : Int), t + s.cfgN Obj.SN_MAX_AGE * secHalfNs < g.stamp → s.capFault f g t = 6)
    ∧ (∀ (s : State) (f g : SnFrag) (t : Int), (g.stamp : Int) ≤ t + s.cfgN Obj.SN_MAX_AGE * secHalfNs → s.time.established = false → s.capFault f g t = 7)
    ∧ (∀ (s : State) (f : SnFrag) (l : List (Nat × SkySat)), l.length < s.cfgN Obj.SN_MIN_SV → s.queueFault f l = 0x0E)
    ∧ (∀ (s : State) (y : List SkySat), s.mesh.accepted.find? (isData 2) = none → exec (.snapshotFragment y) s = .next s.settled)
    ∧ (∀ (s u : State) (x : RxFrame) (y : List SkySat), s.mesh.accepted.find? (isData 2) = some x → x.dup = true →
        u = { s with mesh := { s.mesh with accepted := s.mesh.accepted.eraseP (isData 2) } } →
        exec (.snapshotFragment y) s = .next (u.dataFrame x).settled)
    ∧ ∀ (s u : State) (x : RxFrame) (y : List SkySat), s.mesh.accepted.find? (isData 2) = some x → x.dup = false →
        u = { s with mesh := { s.mesh with accepted := s.mesh.accepted.eraseP (isData 2) } } →
        exec (.snapshotFragment y) s = .next (State.settled ((u.dataFrame x).intake
          ⟨x.record, leAt x.data 0 1, leAt x.data 1 1, leAt x.data 2 4, leAt x.data 6 3, leAt x.data 9 2, x.data.drop 12, x.stamp,
            x.untimed || x.unref, x.cfo, u.laneKhz x.path x.lane, u.mono⟩ (decide (12 ≤ x.data.length)) y)))
    ∧ ((∀ (s : State) (n : Nat), s.snap.frags.find? (fun x => x.flock == n) = none → exec (.fragTimeout n) s = .next s)
    ∧ (∀ (s u : State) (n : Nat) (f : SnFrag), s.snap.frags = [f] → f.flock = n → u = s.toMono (f.heldAt + s.cfgN Obj.SN_FRAG_WAIT * secHalfNs) →
        exec (.fragTimeout n) s = .next (State.fragEnd { u with snap := { s.snap with frags := [] } } f 5))
    ∧ (∀ (s u : State), u = s.toMono (s.snap.since + 10 * msHalfNs) → exec .nimbusInterval s
        = .next { u with snap := { s.snap with since := u.mono, load := (s.snap.usedNow :: s.snap.load).take 100, usedNow := 0 } })
    ∧ (∀ s : State, (s.snap.queue = [] ∨ s.snap.running.isSome = true) → exec .nimbusJobStart s = .next s)
    ∧ (∀ (s : State) (j : SnJob) (q : List SnJob), s.snap.queue = j :: q → s.snap.running = none →
        (s.mono ≤ j.queuedAt + s.cfgN Obj.SN_QUEUE_DEADLINE * msHalfNs → (s.domOn 16 = true → s.snapShare = true →
          exec .nimbusJobStart s = .next { s with snap := { s.snap with
            queue := q, running := some { j with startedAt := s.mono }, usedNow := s.snap.usedNow + j.jobHalf } })
          ∧ ((s.domOn 16 = false ∨ s.snapShare = false) → exec .nimbusJobStart s = .next s))
        ∧ (j.queuedAt + s.cfgN Obj.SN_QUEUE_DEADLINE * msHalfNs < s.mono → exec .nimbusJobStart s
          = .next (State.jobEnd { s with snap := { s.snap with queue := q } } j 0x10)))
    ∧ (∀ s : State, s.snap.queue = [] → exec .snapshotDeadline s = .next s)
    ∧ (∀ (s u : State) (j : SnJob) (q : List SnJob), s.snap.queue = j :: q → u = s.toMono (j.queuedAt + s.cfgN Obj.SN_QUEUE_DEADLINE * msHalfNs) →
        exec .snapshotDeadline s = .next (State.jobEnd { u with snap := { s.snap with queue := q } } j 0x10))
    ∧ (∀ s : State, s.snap.running = none → exec .nimbusJobDone s = .next s)
    ∧ (∀ (s u : State) (j : SnJob), s.snap.running = some j → u = s.toMono (j.startedAt + j.jobHalf) → ∃ (x : List (Nat × Nat)) (l : List Nat),
        l = List.zipWith j.peak j.sats j.assist
          ∧ (∀ p, p ∈ x ↔ ∃ i : Nat, j.sats[i]? = some p ∧ s.cfgN Obj.SN_DET_THRESH ≤ (l[i]?).getD 0)
          ∧ (s.eng[(6 : Fin 8)].st = 1 → exec .nimbusJobDone s = .next { u with snap := { s.snap with
              running := none, solving := s.snap.solving ++ [{ j with found := x, peaks := l }] } })
          ∧ (s.eng[(6 : Fin 8)].st ≠ 1 → exec .nimbusJobDone s
            = .next (State.jobEnd { u with snap := { s.snap with running := none } } { j with found := x, peaks := l } 0x0D)))
    ∧ (∀ (s : State) (k : Fin 2) (a : SnSolve), s.snap.solving.length ≤ k.val → exec (.snapshotSolution k a) s = .next s)
    ∧ (∀ (s : State) (k : Fin 2) (a : SnSolve), (s.eng[(5 : Fin 8)].st ≠ 1 ∨ s.eng[(6 : Fin 8)].st ≠ 1) → exec (.snapshotSolution k a) s = .next s)
    ∧ (∀ (s : State) (k : Fin 2) (a : SnSolve) (j : SnJob), s.snap.solving[k.val]? = some j → s.eng[(5 : Fin 8)].st = 1 → s.eng[(6 : Fin 8)].st = 1 →
        s.cfgN Obj.SN_HEIGHT_AID = 0 → s.gnss.mismatch = false →
        (j.found.length < 4 → exec (.snapshotSolution k a) s = .next (State.snEnd
          { s with snap := { s.snap with solving := s.snap.solving.eraseIdx k.val } } { j.record 0x11 with flags := j.flags }
          (j.detail (fun _ => 0) [] [])))
        ∧ ∀ r : Nat, max 4 (s.cfgN Obj.SN_MIN_SV) ≤ j.found.length → a.converged = true → a.dist ≤ s.cfgN Obj.SN_MAX_RANGE * 10 + 3 * a.hAcc →
          (j.found.length = 4 ∧ r = 0 ∨ 5 ≤ j.found.length ∧ r = 1 ∧ (a.tests.head?.map (·.1)) = some true) →
          exec (.snapshotSolution k a) s = .next (State.snEnd
            { s with snap := { s.snap with solving := s.snap.solving.eraseIdx k.val } }
            { j.record 0 with fix := 1, flags := j.flags + r, used := j.found.length, pos := a.pos, hAcc := a.hAcc, vAcc := a.vAcc, pdop := a.pdop
                              clkErr := a.clkErr, freqResid := a.freqResid }
            (j.detail (fun p => ((a.peaks.find? fun q => q.1 == 256 * p.1 + p.2).map (·.2)).getD 0) j.found [])))
    ∧ (∀ (s : State) (v : Nat), s.snEnableCheck v ≠ 0 → exec (.snEnableWrite v) s = .next s)
    ∧ (∀ s : State, (s.domOn 16 = false ∨ s.domOn 15 = false) → s.snEnableCheck 1 = 5)
    ∧ (∀ s : State, s.domOn 16 = true → s.domOn 15 = true → exec (.snEnableWrite 1) s
        = .next ((s.cfgPut Obj.SN_ENABLE (scalar 1)).bumpRev Obj.SN_ENABLE))
    ∧ ∀ s : State, s.snap.frags = [] → s.snap.queue = [] → exec (.snEnableWrite 0) s
        = .next ((s.cfgPut Obj.SN_ENABLE (scalar 0)).bumpRev Obj.SN_ENABLE))

/-! ### Stores of object values, and what every step keeps -/

/-- Object values are stored and read back: a value put under an index in canonical stores is read there and nowhere else, a counter rises and
saturates at its type's maximum, a revision rises by 1 modulo 65,536, a status reads as it was set, and each keeps the canonical form (R43, R46, R556). -/
def Obligations.StoredValuesReadBack : Prop :=
  ∀ (s : State) (i : Nat), s.storesWf = true →
    (∀ v : Val, (s.cfgPut i v).cfgVal i = v ∧ (∀ j, j ≠ i → (s.cfgPut i v).cfgVal j = s.cfgVal j) ∧ (s.cfgPut i v).storesWf = true)
    ∧ (∀ v : Val, (s.roPut i v).roVal i = v ∧ (∀ j, j ≠ i → (s.roPut i v).roVal j = s.roVal j) ∧ (s.roPut i v).storesWf = true)
    ∧ (∀ (e f k : Nat) (row : List Int) (x : Int), (s.roVal i)[e]? = some row → row[f]? = some x →
        valI ((s.count i e f k).roVal i) e f = min (x + k) (fieldTy i f).max
        ∧ (∀ j, j ≠ i → (s.count i e f k).roVal j = s.roVal j) ∧ (s.count i e f k).storesWf = true)
    ∧ ((s.bumpRev i).revOf i = (s.revOf i + 1) % 65536 ∧ (∀ j, j ≠ i → (s.bumpRev i).revOf j = s.revOf j) ∧ (s.bumpRev i).storesWf = true)
    ∧ ∀ k : Nat, (s.setAct i k).actOf i = k ∧ (∀ j, j ≠ i → (s.setAct i k).actOf j = s.actOf j) ∧ (s.setAct i k).storesWf = true

/-- Every step keeps the stores of object values in canonical form. -/
def Obligations.StepsKeepTheStores : Prop :=
  ∀ s t : State, s.storesWf = true → step s = .next t → t.storesWf = true

/-- Every step keeps what the block can hold: session identifiers are non-zero and differ, at most 8 sessions are authenticated and at most 4
pending; the event log, the archive, the fault records, the derived keys, the cached Flock records and AON's queues stay within their
sizes. And no step changes the commands that wait: it takes the one at the front. -/
def Obligations.StepsKeepTheLimits : Prop :=
  ∀ s t : State, step s = .next t →
    (s.sessionsWf = true → t.sessionsWf = true) ∧ (s.boundsWf = true → t.boundsWf = true) ∧ t.pending = s.pending.tail

/-- OTP is only ever programmed, resets and power-ons included: no step lowers the rollback floor or clears a step of its thermometer, none changes
a lock record slot that is not blank, and none changes the firmware keys' digests and revocations, the device root, the identity seed, the
device's addresses or its factory values (R112, R120, R155, R158). -/
def Obligations.StepsOnlyProgramOtp : Prop :=
  ∀ s t : State, step s = .next t →
    s.fw.otp.floor ≤ t.fw.otp.floor ∧ t.fw.otp.steps.length = s.fw.otp.steps.length
      ∧ (∀ (i x : Nat), s.fw.otp.steps[i]? = some x → majority x = true → ∃ y, t.fw.otp.steps[i]? = some y ∧ majority y = true)
      ∧ (∀ i : Fin 2, s.fw.otp.lock[i] ≠ [] → t.fw.otp.lock[i] = s.fw.otp.lock[i])
      ∧ t.fw.otp = { s.fw.otp with steps := t.fw.otp.steps, lock := t.fw.otp.lock }
end

