-- ==== Sys2Proof/Laws/Store.lean ====
section
/-!
SUPPORT. The lists that hold object values, counters, revisions and statuses: what entering and removing a key does to every look-up, and
that both keep the canonical form.
-/

namespace Sys2Proof.Machine

variable {β : Type}

/-! ### Keys that rise -/

/-- A bound of rising keys may be lowered. -/
theorem rising_weaken (m : List (Nat × β)) (i j : Nat) (h : rising (some j) m = true) (hij : i ≤ j) : rising (some i) m = true := by
  cases m with
  | nil => rfl
  | cons x m =>
    obtain ⟨k, v⟩ := x
    simp only [rising, Bool.and_eq_true, decide_eq_true_eq] at h ⊢
    exact ⟨by omega, h.2⟩

theorem rising_tail (b : Option Nat) (x : Nat × β) (m : List (Nat × β)) (h : rising b (x :: m) = true) : rising (some x.1) m = true := by
  obtain ⟨k, v⟩ := x
  cases b with
  | none => exact h
  | some j =>
    simp only [rising, Bool.and_eq_true] at h
    exact h.2

/-- No key at or below the bound occurs. -/
theorem rising_key_lt (m : List (Nat × β)) (j : Nat) (h : rising (some j) m = true) : ∀ x ∈ m, j < x.1 := by
  induction m generalizing j with
  | nil => simp
  | cons y m ih =>
    obtain ⟨k, v⟩ := y
    simp only [rising, Bool.and_eq_true, decide_eq_true_eq] at h
    intro x hx
    rcases List.mem_cons.mp hx with rfl | hx
    · exact h.1
    · exact Nat.lt_trans h.1 (ih k h.2 x hx)

theorem rising_none (m : List (Nat × β)) (j : Nat) (h : rising (some j) m = true) : rising none m = true := by
  cases m with
  | nil => rfl
  | cons x m => exact rising_tail _ x m h

/-- Removing entries keeps the keys rising. -/
theorem rising_filter (p : Nat × β → Bool) (m : List (Nat × β)) : ∀ b, rising b m = true → rising b (m.filter p) = true := by
  induction m with
  | nil => intro b h; exact h
  | cons x m ih =>
    intro b h
    have ht := rising_tail b x m h
    obtain ⟨k, v⟩ := x
    rw [List.filter_cons]
    split
    · cases b with
      | none => exact ih _ ht
      | some j =>
        simp only [rising, Bool.and_eq_true, decide_eq_true_eq] at h ⊢
        exact ⟨h.1, ih _ h.2⟩
    · cases b with
      | none => exact rising_none _ _ (ih _ ht)
      | some j =>
        simp only [rising, Bool.and_eq_true, decide_eq_true_eq] at h
        exact rising_weaken _ _ _ (ih _ ht) (Nat.le_of_lt h.1)

/-! ### Entering a key -/

theorem insertKey_rising (k : Nat) (v : β) (m : List (Nat × β)) :
    ∀ b, rising b m = true → (∀ j, b = some j → j < k) → rising b (insertKey k v m) = true := by
  induction m with
  | nil =>
    intro b _ hb
    cases b with
    | none => rfl
    | some j => simp [insertKey, rising, hb j rfl]
  | cons x m ih =>
    intro b h hb
    have ht := rising_tail b x m h
    obtain ⟨j, w⟩ := x
    simp only [insertKey]
    split
    · cases b with
      | none => simp_all [rising]
      | some i => simp_all [rising]
    · split
      · subst_vars
        cases b with
        | none => simp_all [rising]
        | some i => simp_all [rising]
      · have hk : j < k := by omega
        have := ih (some j) ht (by intro i hi; simp at hi; omega)
        cases b with
        | none => simpa [rising] using this
        | some i =>
          simp only [rising, Bool.and_eq_true, decide_eq_true_eq] at h ⊢
          exact ⟨h.1, this⟩

/-- After entering a key, that key finds its value and every other key what it found before. -/
theorem insertKey_find (k j : Nat) (v : β) (m : List (Nat × β)) :
    (insertKey k v m).find? (fun p => p.1 == j) = if j = k then some (k, v) else m.find? (fun p => p.1 == j) := by
  induction m with
  | nil =>
    simp only [insertKey, List.find?_cons, List.find?_nil]
    by_cases h : j = k
    · simp [h]
    · have : (k == j) = false := by simp; omega
      simp [h, this]
  | cons x m ih =>
    obtain ⟨i, w⟩ := x
    simp only [insertKey]
    split
    · simp only [List.find?_cons]
      by_cases h : j = k
      · simp [h]
      · have : (k == j) = false := by simp; omega
        simp [h, this]
    · split
      · subst_vars
        simp only [List.find?_cons]
        by_cases h : j = i
        · simp [h]
        · have : (i == j) = false := by simp; omega
          simp [h, this]
      · simp only [List.find?_cons, ih]
        by_cases h : j = k
        · have : (i == j) = false := by simp; omega
          simp [h, show (i == k) = false by simp; omega]
        · simp [h]

theorem mem_insertKey (k : Nat) (v : β) (m : List (Nat × β)) (x : Nat × β) (h : x ∈ insertKey k v m) : x = (k, v) ∨ x ∈ m := by
  induction m with
  | nil => simpa [insertKey] using h
  | cons y m ih =>
    obtain ⟨j, w⟩ := y
    simp only [insertKey] at h
    split at h
    · simpa using h
    · split at h
      · rcases List.mem_cons.mp h with h | h
        · exact .inl h
        · exact .inr (List.mem_cons_of_mem _ h)
      · rcases List.mem_cons.mp h with h | h
        · exact .inr (by simp [h])
        · rcases ih h with h | h
          · exact .inl h
          · exact .inr (List.mem_cons_of_mem _ h)

/-! ### Removing a key -/

theorem mem_eraseKey (k : Nat) (m : List (Nat × β)) (x : Nat × β) (h : x ∈ eraseKey k m) : x ∈ m := by
  induction m with
  | nil => exact h
  | cons y m ih =>
    obtain ⟨j, w⟩ := y
    simp only [eraseKey] at h
    split at h
    · exact List.mem_cons_of_mem _ h
    · rcases List.mem_cons.mp h with h | h
      · simp [h]
      · exact List.mem_cons_of_mem _ (ih h)

theorem eraseKey_rising (k : Nat) (m : List (Nat × β)) : ∀ b, rising b m = true → rising b (eraseKey k m) = true := by
  induction m with
  | nil => intro b h; exact h
  | cons x m ih =>
    intro b h
    have ht := rising_tail b x m h
    obtain ⟨j, w⟩ := x
    simp only [eraseKey]
    split
    · cases b with
      | none => exact rising_none _ _ ht
      | some i =>
        simp only [rising, Bool.and_eq_true, decide_eq_true_eq] at h
        exact rising_weaken _ _ _ h.2 (Nat.le_of_lt h.1)
    · cases b with
      | none => exact ih _ ht
      | some i =>
        simp only [rising, Bool.and_eq_true, decide_eq_true_eq] at h ⊢
        exact ⟨h.1, ih _ h.2⟩

/-- After removing a key from rising keys, that key finds nothing and every other key what it found before. -/
theorem eraseKey_find (k j : Nat) (m : List (Nat × β)) (h : rising none m = true) :
    (eraseKey k m).find? (fun p => p.1 == j) = if j = k then none else m.find? (fun p => p.1 == j) := by
  induction m with
  | nil => simp [eraseKey]
  | cons x m ih =>
    have ht := rising_tail none x m h
    obtain ⟨i, w⟩ := x
    simp only [eraseKey]
    split
    · subst_vars
      simp only [List.find?_cons]
      by_cases hj : j = i
      · subst hj
        simp only [if_true]
        apply List.find?_eq_none.mpr
        intro y hy
        have := rising_key_lt m j ht y hy
        simp
        omega
      · have : (i == j) = false := by simp; omega
        simp [hj, this]
    · simp only [List.find?_cons, ih (rising_none _ _ ht)]
      by_cases hj : j = k
      · simp [hj, show (i == k) = false by simp; omega]
      · simp [hj]

/-! ### Stores of object values -/

theorem Store.wf_iff (m : Store) : m.wf = true ↔ rising none m = true ∧ ∀ x ∈ m, x.2 ≠ dfltOf x.1 := by
  simp [Store.wf, List.all_eq_true]

/-- Entering a value keeps the canonical form. -/
theorem storePut_wf (i : Nat) (v : Val) (m : Store) (h : m.wf = true) : (storePut i v (dfltOf i) m : Store).wf = true := by
  rw [Store.wf_iff] at h ⊢
  unfold storePut
  split
  · exact ⟨eraseKey_rising _ _ _ h.1, fun x hx => h.2 x (mem_eraseKey _ _ _ hx)⟩
  · refine ⟨insertKey_rising _ _ _ _ h.1 (by simp), fun x hx => ?_⟩
    rcases mem_insertKey _ _ _ _ hx with rfl | hx
    · assumption
    · exact h.2 x hx

/-- Removing entries keeps the canonical form. -/
theorem Store.wf_filter (m : Store) (p : Nat × Val → Bool) (h : m.wf = true) : Store.wf (m.filter p) = true := by
  rw [Store.wf_iff] at h ⊢
  exact ⟨rising_filter p m _ h.1, fun x hx => h.2 x (List.mem_of_mem_filter hx)⟩

theorem Store.wf_eraseKey (m : Store) (i : Nat) (h : m.wf = true) : Store.wf (eraseKey i m) = true := by
  rw [Store.wf_iff] at h ⊢
  exact ⟨eraseKey_rising _ _ _ h.1, fun x hx => h.2 x (mem_eraseKey _ _ _ hx)⟩

/-- What every index finds after a value was entered in a canonical store: the default where nothing is listed. -/
theorem storePut_find (i j : Nat) (v : Val) (m : Store) (h : m.wf = true) :
    (((storePut i v (dfltOf i) m).find? (fun p => p.1 == j)).map (·.2)).getD (dfltOf j)
      = if j = i then v else ((m.find? (fun p => p.1 == j)).map (·.2)).getD (dfltOf j) := by
  rw [Store.wf_iff] at h
  unfold storePut
  split
  · rw [eraseKey_find _ _ _ h.1]
    split <;> simp_all
  · rw [insertKey_find]
    split <;> simp_all

/-! ### Numbers by index -/

theorem numsWf_iff (m : List (Nat × Nat)) : numsWf m = true ↔ rising none m = true ∧ ∀ x ∈ m, x.2 ≠ 0 := by
  simp [numsWf, List.all_eq_true]

theorem numsWf_insertKey (m : List (Nat × Nat)) (i k : Nat) (h : numsWf m = true) (hk : k ≠ 0) : numsWf (insertKey i k m) = true := by
  rw [numsWf_iff] at h ⊢
  refine ⟨insertKey_rising _ _ _ _ h.1 (by simp), fun x hx => ?_⟩
  rcases mem_insertKey _ _ _ _ hx with rfl | hx
  · exact hk
  · exact h.2 x hx

theorem numsWf_eraseKey (m : List (Nat × Nat)) (i : Nat) (h : numsWf m = true) : numsWf (eraseKey i m) = true := by
  rw [numsWf_iff] at h ⊢
  exact ⟨eraseKey_rising _ _ _ h.1, fun x hx => h.2 x (mem_eraseKey _ _ _ hx)⟩

/-- A look-up with a default is the first entry of the key. -/
theorem lookupD_eq_find (k : Nat) (d : β) (m : List (Nat × β)) : lookupD k d m = ((m.find? (fun p => p.1 == k)).map (·.2)).getD d := by
  induction m with
  | nil => rfl
  | cons x m ih =>
    obtain ⟨j, w⟩ := x
    simp only [lookupD, List.find?_cons]
    by_cases h : j = k
    · simp [h]
    · simp [h, ih, show (j == k) = false by simp; omega]

theorem lookupD_insertKey (k j : Nat) (v d : β) (m : List (Nat × β)) : lookupD j d (insertKey k v m) = if j = k then v else lookupD j d m := by
  rw [lookupD_eq_find, lookupD_eq_find, insertKey_find]
  split <;> simp_all

theorem lookupD_eraseKey (k j : Nat) (d : β) (m : List (Nat × β)) (h : rising none m = true) :
    lookupD j d (eraseKey k m) = if j = k then d else lookupD j d m := by
  rw [lookupD_eq_find, lookupD_eq_find, eraseKey_find _ _ _ h]
  split <;> simp_all

/-! ### The four stores of the state -/

theorem State.storesWf_iff (s : State) :
    s.storesWf = true ↔ s.cfg.wf = true ∧ s.ro.wf = true ∧ numsWf s.rev = true ∧ numsWf s.act = true := by
  simp [State.storesWf, and_assoc]

/-- A state with the same four stores is as sound. -/
theorem State.storesWf_congr (s t : State) (h : s.storesWf = true) (hc : t.cfg = s.cfg) (hr : t.ro = s.ro) (hv : t.rev = s.rev)
    (ha : t.act = s.act) : t.storesWf = true := by
  rw [State.storesWf_iff] at h ⊢
  rw [hc, hr, hv, ha]
  exact h

theorem State.cfgPut_cfg_wf (s : State) (i : Nat) (v : Val) (h : s.cfg.wf = true) : (s.cfgPut i v).cfg.wf = true := storePut_wf i v _ h

theorem State.roPut_ro_wf (s : State) (i : Nat) (v : Val) (h : s.ro.wf = true) : (s.roPut i v).ro.wf = true := storePut_wf i v _ h

theorem State.roSet_ro_wf (s : State) (i e f : Nat) (x : Int) (h : s.ro.wf = true) : (s.roSet i e f x).ro.wf = true := storePut_wf i _ _ h

theorem State.count_ro_wf (s : State) (i e f k : Nat) (h : s.ro.wf = true) : (s.count i e f k).ro.wf = true := storePut_wf i _ _ h

theorem State.bumpRev_rev_wf (s : State) (i : Nat) (h : numsWf s.rev = true) : numsWf (s.bumpRev i).rev = true := by
  simp only [State.bumpRev]
  split
  · exact numsWf_eraseKey _ _ h
  · exact numsWf_insertKey _ _ _ h (by assumption)

theorem State.setAct_act_wf (s : State) (i k : Nat) (h : numsWf s.act = true) : numsWf (s.setAct i k).act = true := by
  simp only [State.setAct]
  split
  · exact numsWf_eraseKey _ _ h
  · exact numsWf_insertKey _ _ _ h (by assumption)

theorem State.cfgVal_eq (s : State) (i : Nat) : s.cfgVal i = ((s.cfg.find? (fun p => p.1 == i)).map (·.2)).getD (dfltOf i) := by
  unfold State.cfgVal
  split <;> rename_i h <;> rw [h] <;> rfl

theorem State.roVal_eq (s : State) (i : Nat) : s.roVal i = ((s.ro.find? (fun p => p.1 == i)).map (·.2)).getD (dfltOf i) := by
  unfold State.roVal
  split <;> rename_i h <;> rw [h] <;> rfl

end Sys2Proof.Machine
end

