-- ==== Sys2Proof/Laws/State.lean ====
section
/-!
SUPPORT. What each update of the state leaves as it is, field by field, so that no proof unfolds a record update; and what the shared
operations say, once each.
-/

namespace Sys2Proof.Machine

/-! ### cfgPut -/

@[simp] theorem State.cfgPut_pending (s : State) (i : Nat) (v : Val) : (s.cfgPut i v).pending = s.pending := rfl
@[simp] theorem State.cfgPut_outbox (s : State) (i : Nat) (v : Val) : (s.cfgPut i v).outbox = s.outbox := rfl
@[simp] theorem State.cfgPut_free (s : State) (i : Nat) (v : Val) : (s.cfgPut i v).free = s.free := rfl
@[simp] theorem State.cfgPut_cfg (s : State) (i : Nat) (v : Val) : (s.cfgPut i v).cfg = storePut i v (dfltOf i) s.cfg := rfl
@[simp] theorem State.cfgPut_ro (s : State) (i : Nat) (v : Val) : (s.cfgPut i v).ro = s.ro := rfl
@[simp] theorem State.cfgPut_rev (s : State) (i : Nat) (v : Val) : (s.cfgPut i v).rev = s.rev := rfl
@[simp] theorem State.cfgPut_act (s : State) (i : Nat) (v : Val) : (s.cfgPut i v).act = s.act := rfl
@[simp] theorem State.cfgPut_start (s : State) (i : Nat) (v : Val) : (s.cfgPut i v).start = s.start := rfl
@[simp] theorem State.cfgPut_fw (s : State) (i : Nat) (v : Val) : (s.cfgPut i v).fw = s.fw := rfl
@[simp] theorem State.cfgPut_eng (s : State) (i : Nat) (v : Val) : (s.cfgPut i v).eng = s.eng := rfl
@[simp] theorem State.cfgPut_arb (s : State) (i : Nat) (v : Val) : (s.cfgPut i v).arb = s.arb := rfl
@[simp] theorem State.cfgPut_isl (s : State) (i : Nat) (v : Val) : (s.cfgPut i v).isl = s.isl := rfl
@[simp] theorem State.cfgPut_lop (s : State) (i : Nat) (v : Val) : (s.cfgPut i v).lop = s.lop := rfl
@[simp] theorem State.cfgPut_flt (s : State) (i : Nat) (v : Val) : (s.cfgPut i v).flt = s.flt := rfl
@[simp] theorem State.cfgPut_rf (s : State) (i : Nat) (v : Val) : (s.cfgPut i v).rf = s.rf := rfl
@[simp] theorem State.cfgPut_mesh (s : State) (i : Nat) (v : Val) : (s.cfgPut i v).mesh = s.mesh := rfl
@[simp] theorem State.cfgPut_flock (s : State) (i : Nat) (v : Val) : (s.cfgPut i v).flock = s.flock := rfl
@[simp] theorem State.cfgPut_host (s : State) (i : Nat) (v : Val) : (s.cfgPut i v).host = s.host := rfl
@[simp] theorem State.cfgPut_port (s : State) (i : Nat) (v : Val) : (s.cfgPut i v).port = s.port := rfl
@[simp] theorem State.cfgPut_time (s : State) (i : Nat) (v : Val) : (s.cfgPut i v).time = s.time := rfl
@[simp] theorem State.cfgPut_aon (s : State) (i : Nat) (v : Val) : (s.cfgPut i v).aon = s.aon := rfl
@[simp] theorem State.cfgPut_pwr (s : State) (i : Nat) (v : Val) : (s.cfgPut i v).pwr = s.pwr := rfl
@[simp] theorem State.cfgPut_sec (s : State) (i : Nat) (v : Val) : (s.cfgPut i v).sec = s.sec := rfl
@[simp] theorem State.cfgPut_gnss (s : State) (i : Nat) (v : Val) : (s.cfgPut i v).gnss = s.gnss := rfl
@[simp] theorem State.cfgPut_snap (s : State) (i : Nat) (v : Val) : (s.cfgPut i v).snap = s.snap := rfl
@[simp] theorem State.cfgPut_uart (s : State) (i : Nat) (v : Val) : (s.cfgPut i v).uart = s.uart := rfl
@[simp] theorem State.cfgPut_tap (s : State) (i : Nat) (v : Val) : (s.cfgPut i v).tap = s.tap := rfl

/-! ### roPut -/

@[simp] theorem State.roPut_pending (s : State) (i : Nat) (v : Val) : (s.roPut i v).pending = s.pending := rfl
@[simp] theorem State.roPut_outbox (s : State) (i : Nat) (v : Val) : (s.roPut i v).outbox = s.outbox := rfl
@[simp] theorem State.roPut_free (s : State) (i : Nat) (v : Val) : (s.roPut i v).free = s.free := rfl
@[simp] theorem State.roPut_cfg (s : State) (i : Nat) (v : Val) : (s.roPut i v).cfg = s.cfg := rfl
@[simp] theorem State.roPut_ro (s : State) (i : Nat) (v : Val) : (s.roPut i v).ro = storePut i v (dfltOf i) s.ro := rfl
@[simp] theorem State.roPut_rev (s : State) (i : Nat) (v : Val) : (s.roPut i v).rev = s.rev := rfl
@[simp] theorem State.roPut_act (s : State) (i : Nat) (v : Val) : (s.roPut i v).act = s.act := rfl
@[simp] theorem State.roPut_start (s : State) (i : Nat) (v : Val) : (s.roPut i v).start = s.start := rfl
@[simp] theorem State.roPut_fw (s : State) (i : Nat) (v : Val) : (s.roPut i v).fw = s.fw := rfl
@[simp] theorem State.roPut_eng (s : State) (i : Nat) (v : Val) : (s.roPut i v).eng = s.eng := rfl
@[simp] theorem State.roPut_arb (s : State) (i : Nat) (v : Val) : (s.roPut i v).arb = s.arb := rfl
@[simp] theorem State.roPut_isl (s : State) (i : Nat) (v : Val) : (s.roPut i v).isl = s.isl := rfl
@[simp] theorem State.roPut_lop (s : State) (i : Nat) (v : Val) : (s.roPut i v).lop = s.lop := rfl
@[simp] theorem State.roPut_flt (s : State) (i : Nat) (v : Val) : (s.roPut i v).flt = s.flt := rfl
@[simp] theorem State.roPut_rf (s : State) (i : Nat) (v : Val) : (s.roPut i v).rf = s.rf := rfl
@[simp] theorem State.roPut_mesh (s : State) (i : Nat) (v : Val) : (s.roPut i v).mesh = s.mesh := rfl
@[simp] theorem State.roPut_flock (s : State) (i : Nat) (v : Val) : (s.roPut i v).flock = s.flock := rfl
@[simp] theorem State.roPut_host (s : State) (i : Nat) (v : Val) : (s.roPut i v).host = s.host := rfl
@[simp] theorem State.roPut_port (s : State) (i : Nat) (v : Val) : (s.roPut i v).port = s.port := rfl
@[simp] theorem State.roPut_time (s : State) (i : Nat) (v : Val) : (s.roPut i v).time = s.time := rfl
@[simp] theorem State.roPut_aon (s : State) (i : Nat) (v : Val) : (s.roPut i v).aon = s.aon := rfl
@[simp] theorem State.roPut_pwr (s : State) (i : Nat) (v : Val) : (s.roPut i v).pwr = s.pwr := rfl
@[simp] theorem State.roPut_sec (s : State) (i : Nat) (v : Val) : (s.roPut i v).sec = s.sec := rfl
@[simp] theorem State.roPut_gnss (s : State) (i : Nat) (v : Val) : (s.roPut i v).gnss = s.gnss := rfl
@[simp] theorem State.roPut_snap (s : State) (i : Nat) (v : Val) : (s.roPut i v).snap = s.snap := rfl
@[simp] theorem State.roPut_uart (s : State) (i : Nat) (v : Val) : (s.roPut i v).uart = s.uart := rfl
@[simp] theorem State.roPut_tap (s : State) (i : Nat) (v : Val) : (s.roPut i v).tap = s.tap := rfl

/-! ### roSet -/

@[simp] theorem State.roSet_pending (s : State) (i e k : Nat) (x : Int) : (s.roSet i e k x).pending = s.pending := rfl
@[simp] theorem State.roSet_outbox (s : State) (i e k : Nat) (x : Int) : (s.roSet i e k x).outbox = s.outbox := rfl
@[simp] theorem State.roSet_free (s : State) (i e k : Nat) (x : Int) : (s.roSet i e k x).free = s.free := rfl
@[simp] theorem State.roSet_cfg (s : State) (i e k : Nat) (x : Int) : (s.roSet i e k x).cfg = s.cfg := rfl
@[simp] theorem State.roSet_ro (s : State) (i e k : Nat) (x : Int) : (s.roSet i e k x).ro = storePut i (valSet (s.roVal i) e k x) (dfltOf i) s.ro := rfl
@[simp] theorem State.roSet_rev (s : State) (i e k : Nat) (x : Int) : (s.roSet i e k x).rev = s.rev := rfl
@[simp] theorem State.roSet_act (s : State) (i e k : Nat) (x : Int) : (s.roSet i e k x).act = s.act := rfl
@[simp] theorem State.roSet_start (s : State) (i e k : Nat) (x : Int) : (s.roSet i e k x).start = s.start := rfl
@[simp] theorem State.roSet_fw (s : State) (i e k : Nat) (x : Int) : (s.roSet i e k x).fw = s.fw := rfl
@[simp] theorem State.roSet_eng (s : State) (i e k : Nat) (x : Int) : (s.roSet i e k x).eng = s.eng := rfl
@[simp] theorem State.roSet_arb (s : State) (i e k : Nat) (x : Int) : (s.roSet i e k x).arb = s.arb := rfl
@[simp] theorem State.roSet_isl (s : State) (i e k : Nat) (x : Int) : (s.roSet i e k x).isl = s.isl := rfl
@[simp] theorem State.roSet_lop (s : State) (i e k : Nat) (x : Int) : (s.roSet i e k x).lop = s.lop := rfl
@[simp] theorem State.roSet_flt (s : State) (i e k : Nat) (x : Int) : (s.roSet i e k x).flt = s.flt := rfl
@[simp] theorem State.roSet_rf (s : State) (i e k : Nat) (x : Int) : (s.roSet i e k x).rf = s.rf := rfl
@[simp] theorem State.roSet_mesh (s : State) (i e k : Nat) (x : Int) : (s.roSet i e k x).mesh = s.mesh := rfl
@[simp] theorem State.roSet_flock (s : State) (i e k : Nat) (x : Int) : (s.roSet i e k x).flock = s.flock := rfl
@[simp] theorem State.roSet_host (s : State) (i e k : Nat) (x : Int) : (s.roSet i e k x).host = s.host := rfl
@[simp] theorem State.roSet_port (s : State) (i e k : Nat) (x : Int) : (s.roSet i e k x).port = s.port := rfl
@[simp] theorem State.roSet_time (s : State) (i e k : Nat) (x : Int) : (s.roSet i e k x).time = s.time := rfl
@[simp] theorem State.roSet_aon (s : State) (i e k : Nat) (x : Int) : (s.roSet i e k x).aon = s.aon := rfl
@[simp] theorem State.roSet_pwr (s : State) (i e k : Nat) (x : Int) : (s.roSet i e k x).pwr = s.pwr := rfl
@[simp] theorem State.roSet_sec (s : State) (i e k : Nat) (x : Int) : (s.roSet i e k x).sec = s.sec := rfl
@[simp] theorem State.roSet_gnss (s : State) (i e k : Nat) (x : Int) : (s.roSet i e k x).gnss = s.gnss := rfl
@[simp] theorem State.roSet_snap (s : State) (i e k : Nat) (x : Int) : (s.roSet i e k x).snap = s.snap := rfl
@[simp] theorem State.roSet_uart (s : State) (i e k : Nat) (x : Int) : (s.roSet i e k x).uart = s.uart := rfl
@[simp] theorem State.roSet_tap (s : State) (i e k : Nat) (x : Int) : (s.roSet i e k x).tap = s.tap := rfl

/-! ### count -/

@[simp] theorem State.count_pending (s : State) (i e k n : Nat) : (s.count i e k n).pending = s.pending := rfl
@[simp] theorem State.count_outbox (s : State) (i e k n : Nat) : (s.count i e k n).outbox = s.outbox := rfl
@[simp] theorem State.count_free (s : State) (i e k n : Nat) : (s.count i e k n).free = s.free := rfl
@[simp] theorem State.count_cfg (s : State) (i e k n : Nat) : (s.count i e k n).cfg = s.cfg := rfl
@[simp] theorem State.count_rev (s : State) (i e k n : Nat) : (s.count i e k n).rev = s.rev := rfl
@[simp] theorem State.count_act (s : State) (i e k n : Nat) : (s.count i e k n).act = s.act := rfl
@[simp] theorem State.count_start (s : State) (i e k n : Nat) : (s.count i e k n).start = s.start := rfl
@[simp] theorem State.count_fw (s : State) (i e k n : Nat) : (s.count i e k n).fw = s.fw := rfl
@[simp] theorem State.count_eng (s : State) (i e k n : Nat) : (s.count i e k n).eng = s.eng := rfl
@[simp] theorem State.count_arb (s : State) (i e k n : Nat) : (s.count i e k n).arb = s.arb := rfl
@[simp] theorem State.count_isl (s : State) (i e k n : Nat) : (s.count i e k n).isl = s.isl := rfl
@[simp] theorem State.count_lop (s : State) (i e k n : Nat) : (s.count i e k n).lop = s.lop := rfl
@[simp] theorem State.count_flt (s : State) (i e k n : Nat) : (s.count i e k n).flt = s.flt := rfl
@[simp] theorem State.count_rf (s : State) (i e k n : Nat) : (s.count i e k n).rf = s.rf := rfl
@[simp] theorem State.count_mesh (s : State) (i e k n : Nat) : (s.count i e k n).mesh = s.mesh := rfl
@[simp] theorem State.count_flock (s : State) (i e k n : Nat) : (s.count i e k n).flock = s.flock := rfl
@[simp] theorem State.count_host (s : State) (i e k n : Nat) : (s.count i e k n).host = s.host := rfl
@[simp] theorem State.count_port (s : State) (i e k n : Nat) : (s.count i e k n).port = s.port := rfl
@[simp] theorem State.count_time (s : State) (i e k n : Nat) : (s.count i e k n).time = s.time := rfl
@[simp] theorem State.count_aon (s : State) (i e k n : Nat) : (s.count i e k n).aon = s.aon := rfl
@[simp] theorem State.count_pwr (s : State) (i e k n : Nat) : (s.count i e k n).pwr = s.pwr := rfl
@[simp] theorem State.count_sec (s : State) (i e k n : Nat) : (s.count i e k n).sec = s.sec := rfl
@[simp] theorem State.count_gnss (s : State) (i e k n : Nat) : (s.count i e k n).gnss = s.gnss := rfl
@[simp] theorem State.count_snap (s : State) (i e k n : Nat) : (s.count i e k n).snap = s.snap := rfl
@[simp] theorem State.count_uart (s : State) (i e k n : Nat) : (s.count i e k n).uart = s.uart := rfl
@[simp] theorem State.count_tap (s : State) (i e k n : Nat) : (s.count i e k n).tap = s.tap := rfl

/-! ### bumpRev -/

@[simp] theorem State.bumpRev_pending (s : State) (i : Nat) : (s.bumpRev i).pending = s.pending := rfl
@[simp] theorem State.bumpRev_outbox (s : State) (i : Nat) : (s.bumpRev i).outbox = s.outbox := rfl
@[simp] theorem State.bumpRev_free (s : State) (i : Nat) : (s.bumpRev i).free = s.free := rfl
@[simp] theorem State.bumpRev_cfg (s : State) (i : Nat) : (s.bumpRev i).cfg = s.cfg := rfl
@[simp] theorem State.bumpRev_ro (s : State) (i : Nat) : (s.bumpRev i).ro = s.ro := rfl
@[simp] theorem State.bumpRev_act (s : State) (i : Nat) : (s.bumpRev i).act = s.act := rfl
@[simp] theorem State.bumpRev_start (s : State) (i : Nat) : (s.bumpRev i).start = s.start := rfl
@[simp] theorem State.bumpRev_fw (s : State) (i : Nat) : (s.bumpRev i).fw = s.fw := rfl
@[simp] theorem State.bumpRev_eng (s : State) (i : Nat) : (s.bumpRev i).eng = s.eng := rfl
@[simp] theorem State.bumpRev_arb (s : State) (i : Nat) : (s.bumpRev i).arb = s.arb := rfl
@[simp] theorem State.bumpRev_isl (s : State) (i : Nat) : (s.bumpRev i).isl = s.isl := rfl
@[simp] theorem State.bumpRev_lop (s : State) (i : Nat) : (s.bumpRev i).lop = s.lop := rfl
@[simp] theorem State.bumpRev_flt (s : State) (i : Nat) : (s.bumpRev i).flt = s.flt := rfl
@[simp] theorem State.bumpRev_rf (s : State) (i : Nat) : (s.bumpRev i).rf = s.rf := rfl
@[simp] theorem State.bumpRev_mesh (s : State) (i : Nat) : (s.bumpRev i).mesh = s.mesh := rfl
@[simp] theorem State.bumpRev_flock (s : State) (i : Nat) : (s.bumpRev i).flock = s.flock := rfl
@[simp] theorem State.bumpRev_host (s : State) (i : Nat) : (s.bumpRev i).host = s.host := rfl
@[simp] theorem State.bumpRev_port (s : State) (i : Nat) : (s.bumpRev i).port = s.port := rfl
@[simp] theorem State.bumpRev_time (s : State) (i : Nat) : (s.bumpRev i).time = s.time := rfl
@[simp] theorem State.bumpRev_aon (s : State) (i : Nat) : (s.bumpRev i).aon = s.aon := rfl
@[simp] theorem State.bumpRev_pwr (s : State) (i : Nat) : (s.bumpRev i).pwr = s.pwr := rfl
@[simp] theorem State.bumpRev_sec (s : State) (i : Nat) : (s.bumpRev i).sec = s.sec := rfl
@[simp] theorem State.bumpRev_gnss (s : State) (i : Nat) : (s.bumpRev i).gnss = s.gnss := rfl
@[simp] theorem State.bumpRev_snap (s : State) (i : Nat) : (s.bumpRev i).snap = s.snap := rfl
@[simp] theorem State.bumpRev_uart (s : State) (i : Nat) : (s.bumpRev i).uart = s.uart := rfl
@[simp] theorem State.bumpRev_tap (s : State) (i : Nat) : (s.bumpRev i).tap = s.tap := rfl

/-! ### setAct -/

@[simp] theorem State.setAct_pending (s : State) (i k : Nat) : (s.setAct i k).pending = s.pending := rfl
@[simp] theorem State.setAct_outbox (s : State) (i k : Nat) : (s.setAct i k).outbox = s.outbox := rfl
@[simp] theorem State.setAct_free (s : State) (i k : Nat) : (s.setAct i k).free = s.free := rfl
@[simp] theorem State.setAct_cfg (s : State) (i k : Nat) : (s.setAct i k).cfg = s.cfg := rfl
@[simp] theorem State.setAct_ro (s : State) (i k : Nat) : (s.setAct i k).ro = s.ro := rfl
@[simp] theorem State.setAct_rev (s : State) (i k : Nat) : (s.setAct i k).rev = s.rev := rfl
@[simp] theorem State.setAct_act (s : State) (i k : Nat) : (s.setAct i k).act = if k = 0 then eraseKey i s.act else insertKey i k s.act := rfl
@[simp] theorem State.setAct_start (s : State) (i k : Nat) : (s.setAct i k).start = s.start := rfl
@[simp] theorem State.setAct_fw (s : State) (i k : Nat) : (s.setAct i k).fw = s.fw := rfl
@[simp] theorem State.setAct_eng (s : State) (i k : Nat) : (s.setAct i k).eng = s.eng := rfl
@[simp] theorem State.setAct_arb (s : State) (i k : Nat) : (s.setAct i k).arb = s.arb := rfl
@[simp] theorem State.setAct_isl (s : State) (i k : Nat) : (s.setAct i k).isl = s.isl := rfl
@[simp] theorem State.setAct_lop (s : State) (i k : Nat) : (s.setAct i k).lop = s.lop := rfl
@[simp] theorem State.setAct_flt (s : State) (i k : Nat) : (s.setAct i k).flt = s.flt := rfl
@[simp] theorem State.setAct_rf (s : State) (i k : Nat) : (s.setAct i k).rf = s.rf := rfl
@[simp] theorem State.setAct_mesh (s : State) (i k : Nat) : (s.setAct i k).mesh = s.mesh := rfl
@[simp] theorem State.setAct_flock (s : State) (i k : Nat) : (s.setAct i k).flock = s.flock := rfl
@[simp] theorem State.setAct_host (s : State) (i k : Nat) : (s.setAct i k).host = s.host := rfl
@[simp] theorem State.setAct_port (s : State) (i k : Nat) : (s.setAct i k).port = s.port := rfl
@[simp] theorem State.setAct_time (s : State) (i k : Nat) : (s.setAct i k).time = s.time := rfl
@[simp] theorem State.setAct_aon (s : State) (i k : Nat) : (s.setAct i k).aon = s.aon := rfl
@[simp] theorem State.setAct_pwr (s : State) (i k : Nat) : (s.setAct i k).pwr = s.pwr := rfl
@[simp] theorem State.setAct_sec (s : State) (i k : Nat) : (s.setAct i k).sec = s.sec := rfl
@[simp] theorem State.setAct_gnss (s : State) (i k : Nat) : (s.setAct i k).gnss = s.gnss := rfl
@[simp] theorem State.setAct_snap (s : State) (i k : Nat) : (s.setAct i k).snap = s.snap := rfl
@[simp] theorem State.setAct_uart (s : State) (i k : Nat) : (s.setAct i k).uart = s.uart := rfl
@[simp] theorem State.setAct_tap (s : State) (i k : Nat) : (s.setAct i k).tap = s.tap := rfl

/-! ### accept -/

@[simp] theorem State.accept_pending (s : State) (i : Nat) (v : Val) : (s.accept i v).pending = s.pending := rfl
@[simp] theorem State.accept_outbox (s : State) (i : Nat) (v : Val) : (s.accept i v).outbox = s.outbox := rfl
@[simp] theorem State.accept_free (s : State) (i : Nat) (v : Val) : (s.accept i v).free = s.free := rfl
@[simp] theorem State.accept_ro (s : State) (i : Nat) (v : Val) : (s.accept i v).ro = s.ro := rfl
@[simp] theorem State.accept_act (s : State) (i : Nat) (v : Val) : (s.accept i v).act = s.act := rfl
@[simp] theorem State.accept_start (s : State) (i : Nat) (v : Val) : (s.accept i v).start = s.start := rfl
@[simp] theorem State.accept_fw (s : State) (i : Nat) (v : Val) : (s.accept i v).fw = s.fw := rfl
@[simp] theorem State.accept_eng (s : State) (i : Nat) (v : Val) : (s.accept i v).eng = s.eng := rfl
@[simp] theorem State.accept_arb (s : State) (i : Nat) (v : Val) : (s.accept i v).arb = s.arb := rfl
@[simp] theorem State.accept_isl (s : State) (i : Nat) (v : Val) : (s.accept i v).isl = s.isl := rfl
@[simp] theorem State.accept_lop (s : State) (i : Nat) (v : Val) : (s.accept i v).lop = s.lop := rfl
@[simp] theorem State.accept_flt (s : State) (i : Nat) (v : Val) : (s.accept i v).flt = s.flt := rfl
@[simp] theorem State.accept_rf (s : State) (i : Nat) (v : Val) : (s.accept i v).rf = s.rf := rfl
@[simp] theorem State.accept_mesh (s : State) (i : Nat) (v : Val) : (s.accept i v).mesh = s.mesh := rfl
@[simp] theorem State.accept_flock (s : State) (i : Nat) (v : Val) : (s.accept i v).flock = s.flock := rfl
@[simp] theorem State.accept_host (s : State) (i : Nat) (v : Val) : (s.accept i v).host = s.host := rfl
@[simp] theorem State.accept_port (s : State) (i : Nat) (v : Val) : (s.accept i v).port = s.port := rfl
@[simp] theorem State.accept_time (s : State) (i : Nat) (v : Val) : (s.accept i v).time = s.time := rfl
@[simp] theorem State.accept_aon (s : State) (i : Nat) (v : Val) : (s.accept i v).aon = s.aon := rfl
@[simp] theorem State.accept_pwr (s : State) (i : Nat) (v : Val) : (s.accept i v).pwr = s.pwr := rfl
@[simp] theorem State.accept_sec (s : State) (i : Nat) (v : Val) : (s.accept i v).sec = s.sec := rfl
@[simp] theorem State.accept_gnss (s : State) (i : Nat) (v : Val) : (s.accept i v).gnss = s.gnss := rfl
@[simp] theorem State.accept_snap (s : State) (i : Nat) (v : Val) : (s.accept i v).snap = s.snap := rfl
@[simp] theorem State.accept_uart (s : State) (i : Nat) (v : Val) : (s.accept i v).uart = s.uart := rfl
@[simp] theorem State.accept_tap (s : State) (i : Nat) (v : Val) : (s.accept i v).tap = s.tap := rfl

/-! ### emit -/

@[simp] theorem State.emit_pending (s : State) (o : Out) : (s.emit o).pending = s.pending := rfl
@[simp] theorem State.emit_outbox (s : State) (o : Out) : (s.emit o).outbox = o :: s.outbox := rfl
@[simp] theorem State.emit_free (s : State) (o : Out) : (s.emit o).free = s.free := rfl
@[simp] theorem State.emit_cfg (s : State) (o : Out) : (s.emit o).cfg = s.cfg := rfl
@[simp] theorem State.emit_ro (s : State) (o : Out) : (s.emit o).ro = s.ro := rfl
@[simp] theorem State.emit_rev (s : State) (o : Out) : (s.emit o).rev = s.rev := rfl
@[simp] theorem State.emit_act (s : State) (o : Out) : (s.emit o).act = s.act := rfl
@[simp] theorem State.emit_start (s : State) (o : Out) : (s.emit o).start = s.start := rfl
@[simp] theorem State.emit_fw (s : State) (o : Out) : (s.emit o).fw = s.fw := rfl
@[simp] theorem State.emit_eng (s : State) (o : Out) : (s.emit o).eng = s.eng := rfl
@[simp] theorem State.emit_arb (s : State) (o : Out) : (s.emit o).arb = s.arb := rfl
@[simp] theorem State.emit_isl (s : State) (o : Out) : (s.emit o).isl = s.isl := rfl
@[simp] theorem State.emit_lop (s : State) (o : Out) : (s.emit o).lop = s.lop := rfl
@[simp] theorem State.emit_flt (s : State) (o : Out) : (s.emit o).flt = s.flt := rfl
@[simp] theorem State.emit_rf (s : State) (o : Out) : (s.emit o).rf = s.rf := rfl
@[simp] theorem State.emit_mesh (s : State) (o : Out) : (s.emit o).mesh = s.mesh := rfl
@[simp] theorem State.emit_flock (s : State) (o : Out) : (s.emit o).flock = s.flock := rfl
@[simp] theorem State.emit_host (s : State) (o : Out) : (s.emit o).host = s.host := rfl
@[simp] theorem State.emit_port (s : State) (o : Out) : (s.emit o).port = s.port := rfl
@[simp] theorem State.emit_time (s : State) (o : Out) : (s.emit o).time = s.time := rfl
@[simp] theorem State.emit_aon (s : State) (o : Out) : (s.emit o).aon = s.aon := rfl
@[simp] theorem State.emit_pwr (s : State) (o : Out) : (s.emit o).pwr = s.pwr := rfl
@[simp] theorem State.emit_sec (s : State) (o : Out) : (s.emit o).sec = s.sec := rfl
@[simp] theorem State.emit_gnss (s : State) (o : Out) : (s.emit o).gnss = s.gnss := rfl
@[simp] theorem State.emit_snap (s : State) (o : Out) : (s.emit o).snap = s.snap := rfl
@[simp] theorem State.emit_uart (s : State) (o : Out) : (s.emit o).uart = s.uart := rfl
@[simp] theorem State.emit_tap (s : State) (o : Out) : (s.emit o).tap = s.tap := rfl

/-! ### drawn -/

@[simp] theorem State.drawn_pending (s : State) : (s.drawn).pending = s.pending := rfl
@[simp] theorem State.drawn_outbox (s : State) : (s.drawn).outbox = s.outbox := rfl
@[simp] theorem State.drawn_free (s : State) : (s.drawn).free = s.free + 1 := rfl
@[simp] theorem State.drawn_cfg (s : State) : (s.drawn).cfg = s.cfg := rfl
@[simp] theorem State.drawn_ro (s : State) : (s.drawn).ro = s.ro := rfl
@[simp] theorem State.drawn_rev (s : State) : (s.drawn).rev = s.rev := rfl
@[simp] theorem State.drawn_act (s : State) : (s.drawn).act = s.act := rfl
@[simp] theorem State.drawn_start (s : State) : (s.drawn).start = s.start := rfl
@[simp] theorem State.drawn_fw (s : State) : (s.drawn).fw = s.fw := rfl
@[simp] theorem State.drawn_eng (s : State) : (s.drawn).eng = s.eng := rfl
@[simp] theorem State.drawn_arb (s : State) : (s.drawn).arb = s.arb := rfl
@[simp] theorem State.drawn_isl (s : State) : (s.drawn).isl = s.isl := rfl
@[simp] theorem State.drawn_lop (s : State) : (s.drawn).lop = s.lop := rfl
@[simp] theorem State.drawn_flt (s : State) : (s.drawn).flt = s.flt := rfl
@[simp] theorem State.drawn_rf (s : State) : (s.drawn).rf = s.rf := rfl
@[simp] theorem State.drawn_mesh (s : State) : (s.drawn).mesh = s.mesh := rfl
@[simp] theorem State.drawn_flock (s : State) : (s.drawn).flock = s.flock := rfl
@[simp] theorem State.drawn_host (s : State) : (s.drawn).host = s.host := rfl
@[simp] theorem State.drawn_port (s : State) : (s.drawn).port = s.port := rfl
@[simp] theorem State.drawn_time (s : State) : (s.drawn).time = s.time := rfl
@[simp] theorem State.drawn_aon (s : State) : (s.drawn).aon = s.aon := rfl
@[simp] theorem State.drawn_pwr (s : State) : (s.drawn).pwr = s.pwr := rfl
@[simp] theorem State.drawn_sec (s : State) : (s.drawn).sec = s.sec := rfl
@[simp] theorem State.drawn_gnss (s : State) : (s.drawn).gnss = s.gnss := rfl
@[simp] theorem State.drawn_snap (s : State) : (s.drawn).snap = s.snap := rfl
@[simp] theorem State.drawn_uart (s : State) : (s.drawn).uart = s.uart := rfl
@[simp] theorem State.drawn_tap (s : State) : (s.drawn).tap = s.tap := rfl

/-! ### modTime -/

@[simp] theorem State.modTime_pending (s : State) (f : TimeState → TimeState) : (s.modTime f).pending = s.pending := rfl
@[simp] theorem State.modTime_outbox (s : State) (f : TimeState → TimeState) : (s.modTime f).outbox = s.outbox := rfl
@[simp] theorem State.modTime_free (s : State) (f : TimeState → TimeState) : (s.modTime f).free = s.free := rfl
@[simp] theorem State.modTime_cfg (s : State) (f : TimeState → TimeState) : (s.modTime f).cfg = s.cfg := rfl
@[simp] theorem State.modTime_ro (s : State) (f : TimeState → TimeState) : (s.modTime f).ro = s.ro := rfl
@[simp] theorem State.modTime_rev (s : State) (f : TimeState → TimeState) : (s.modTime f).rev = s.rev := rfl
@[simp] theorem State.modTime_act (s : State) (f : TimeState → TimeState) : (s.modTime f).act = s.act := rfl
@[simp] theorem State.modTime_start (s : State) (f : TimeState → TimeState) : (s.modTime f).start = s.start := rfl
@[simp] theorem State.modTime_fw (s : State) (f : TimeState → TimeState) : (s.modTime f).fw = s.fw := rfl
@[simp] theorem State.modTime_eng (s : State) (f : TimeState → TimeState) : (s.modTime f).eng = s.eng := rfl
@[simp] theorem State.modTime_arb (s : State) (f : TimeState → TimeState) : (s.modTime f).arb = s.arb := rfl
@[simp] theorem State.modTime_isl (s : State) (f : TimeState → TimeState) : (s.modTime f).isl = s.isl := rfl
@[simp] theorem State.modTime_lop (s : State) (f : TimeState → TimeState) : (s.modTime f).lop = s.lop := rfl
@[simp] theorem State.modTime_flt (s : State) (f : TimeState → TimeState) : (s.modTime f).flt = s.flt := rfl
@[simp] theorem State.modTime_rf (s : State) (f : TimeState → TimeState) : (s.modTime f).rf = s.rf := rfl
@[simp] theorem State.modTime_mesh (s : State) (f : TimeState → TimeState) : (s.modTime f).mesh = s.mesh := rfl
@[simp] theorem State.modTime_flock (s : State) (f : TimeState → TimeState) : (s.modTime f).flock = s.flock := rfl
@[simp] theorem State.modTime_host (s : State) (f : TimeState → TimeState) : (s.modTime f).host = s.host := rfl
@[simp] theorem State.modTime_port (s : State) (f : TimeState → TimeState) : (s.modTime f).port = s.port := rfl
@[simp] theorem State.modTime_time (s : State) (f : TimeState → TimeState) : (s.modTime f).time = f s.time := rfl
@[simp] theorem State.modTime_aon (s : State) (f : TimeState → TimeState) : (s.modTime f).aon = s.aon := rfl
@[simp] theorem State.modTime_pwr (s : State) (f : TimeState → TimeState) : (s.modTime f).pwr = s.pwr := rfl
@[simp] theorem State.modTime_sec (s : State) (f : TimeState → TimeState) : (s.modTime f).sec = s.sec := rfl
@[simp] theorem State.modTime_gnss (s : State) (f : TimeState → TimeState) : (s.modTime f).gnss = s.gnss := rfl
@[simp] theorem State.modTime_snap (s : State) (f : TimeState → TimeState) : (s.modTime f).snap = s.snap := rfl
@[simp] theorem State.modTime_uart (s : State) (f : TimeState → TimeState) : (s.modTime f).uart = s.uart := rfl
@[simp] theorem State.modTime_tap (s : State) (f : TimeState → TimeState) : (s.modTime f).tap = s.tap := rfl

/-! ### modBase -/

@[simp] theorem State.modBase_pending (s : State) (i : Fin 5) (f : Base → Base) : (s.modBase i f).pending = s.pending := rfl
@[simp] theorem State.modBase_outbox (s : State) (i : Fin 5) (f : Base → Base) : (s.modBase i f).outbox = s.outbox := rfl
@[simp] theorem State.modBase_free (s : State) (i : Fin 5) (f : Base → Base) : (s.modBase i f).free = s.free := rfl
@[simp] theorem State.modBase_cfg (s : State) (i : Fin 5) (f : Base → Base) : (s.modBase i f).cfg = s.cfg := rfl
@[simp] theorem State.modBase_ro (s : State) (i : Fin 5) (f : Base → Base) : (s.modBase i f).ro = s.ro := rfl
@[simp] theorem State.modBase_rev (s : State) (i : Fin 5) (f : Base → Base) : (s.modBase i f).rev = s.rev := rfl
@[simp] theorem State.modBase_act (s : State) (i : Fin 5) (f : Base → Base) : (s.modBase i f).act = s.act := rfl
@[simp] theorem State.modBase_start (s : State) (i : Fin 5) (f : Base → Base) : (s.modBase i f).start = s.start := rfl
@[simp] theorem State.modBase_fw (s : State) (i : Fin 5) (f : Base → Base) : (s.modBase i f).fw = s.fw := rfl
@[simp] theorem State.modBase_eng (s : State) (i : Fin 5) (f : Base → Base) : (s.modBase i f).eng = s.eng := rfl
@[simp] theorem State.modBase_arb (s : State) (i : Fin 5) (f : Base → Base) : (s.modBase i f).arb = s.arb := rfl
@[simp] theorem State.modBase_isl (s : State) (i : Fin 5) (f : Base → Base) : (s.modBase i f).isl = s.isl := rfl
@[simp] theorem State.modBase_lop (s : State) (i : Fin 5) (f : Base → Base) : (s.modBase i f).lop = s.lop := rfl
@[simp] theorem State.modBase_flt (s : State) (i : Fin 5) (f : Base → Base) : (s.modBase i f).flt = s.flt := rfl
@[simp] theorem State.modBase_rf (s : State) (i : Fin 5) (f : Base → Base) : (s.modBase i f).rf = s.rf := rfl
@[simp] theorem State.modBase_mesh (s : State) (i : Fin 5) (f : Base → Base) : (s.modBase i f).mesh = s.mesh := rfl
@[simp] theorem State.modBase_flock (s : State) (i : Fin 5) (f : Base → Base) : (s.modBase i f).flock = s.flock := rfl
@[simp] theorem State.modBase_host (s : State) (i : Fin 5) (f : Base → Base) : (s.modBase i f).host = s.host := rfl
@[simp] theorem State.modBase_port (s : State) (i : Fin 5) (f : Base → Base) : (s.modBase i f).port = s.port := rfl
@[simp] theorem State.modBase_aon (s : State) (i : Fin 5) (f : Base → Base) : (s.modBase i f).aon = s.aon := rfl
@[simp] theorem State.modBase_pwr (s : State) (i : Fin 5) (f : Base → Base) : (s.modBase i f).pwr = s.pwr := rfl
@[simp] theorem State.modBase_sec (s : State) (i : Fin 5) (f : Base → Base) : (s.modBase i f).sec = s.sec := rfl
@[simp] theorem State.modBase_gnss (s : State) (i : Fin 5) (f : Base → Base) : (s.modBase i f).gnss = s.gnss := rfl
@[simp] theorem State.modBase_snap (s : State) (i : Fin 5) (f : Base → Base) : (s.modBase i f).snap = s.snap := rfl
@[simp] theorem State.modBase_uart (s : State) (i : Fin 5) (f : Base → Base) : (s.modBase i f).uart = s.uart := rfl
@[simp] theorem State.modBase_tap (s : State) (i : Fin 5) (f : Base → Base) : (s.modBase i f).tap = s.tap := rfl

/-! ### modSrc -/

@[simp] theorem State.modSrc_pending (s : State) (i : Fin 4) (f : Src → Src) : (s.modSrc i f).pending = s.pending := rfl
@[simp] theorem State.modSrc_outbox (s : State) (i : Fin 4) (f : Src → Src) : (s.modSrc i f).outbox = s.outbox := rfl
@[simp] theorem State.modSrc_free (s : State) (i : Fin 4) (f : Src → Src) : (s.modSrc i f).free = s.free := rfl
@[simp] theorem State.modSrc_cfg (s : State) (i : Fin 4) (f : Src → Src) : (s.modSrc i f).cfg = s.cfg := rfl
@[simp] theorem State.modSrc_ro (s : State) (i : Fin 4) (f : Src → Src) : (s.modSrc i f).ro = s.ro := rfl
@[simp] theorem State.modSrc_rev (s : State) (i : Fin 4) (f : Src → Src) : (s.modSrc i f).rev = s.rev := rfl
@[simp] theorem State.modSrc_act (s : State) (i : Fin 4) (f : Src → Src) : (s.modSrc i f).act = s.act := rfl
@[simp] theorem State.modSrc_start (s : State) (i : Fin 4) (f : Src → Src) : (s.modSrc i f).start = s.start := rfl
@[simp] theorem State.modSrc_fw (s : State) (i : Fin 4) (f : Src → Src) : (s.modSrc i f).fw = s.fw := rfl
@[simp] theorem State.modSrc_eng (s : State) (i : Fin 4) (f : Src → Src) : (s.modSrc i f).eng = s.eng := rfl
@[simp] theorem State.modSrc_arb (s : State) (i : Fin 4) (f : Src → Src) : (s.modSrc i f).arb = s.arb := rfl
@[simp] theorem State.modSrc_isl (s : State) (i : Fin 4) (f : Src → Src) : (s.modSrc i f).isl = s.isl := rfl
@[simp] theorem State.modSrc_lop (s : State) (i : Fin 4) (f : Src → Src) : (s.modSrc i f).lop = s.lop := rfl
@[simp] theorem State.modSrc_flt (s : State) (i : Fin 4) (f : Src → Src) : (s.modSrc i f).flt = s.flt := rfl
@[simp] theorem State.modSrc_rf (s : State) (i : Fin 4) (f : Src → Src) : (s.modSrc i f).rf = s.rf := rfl
@[simp] theorem State.modSrc_mesh (s : State) (i : Fin 4) (f : Src → Src) : (s.modSrc i f).mesh = s.mesh := rfl
@[simp] theorem State.modSrc_flock (s : State) (i : Fin 4) (f : Src → Src) : (s.modSrc i f).flock = s.flock := rfl
@[simp] theorem State.modSrc_host (s : State) (i : Fin 4) (f : Src → Src) : (s.modSrc i f).host = s.host := rfl
@[simp] theorem State.modSrc_port (s : State) (i : Fin 4) (f : Src → Src) : (s.modSrc i f).port = s.port := rfl
@[simp] theorem State.modSrc_time (s : State) (i : Fin 4) (f : Src → Src) : (s.modSrc i f).time = { s.time with src := vmod s.time.src i f } := rfl
@[simp] theorem State.modSrc_aon (s : State) (i : Fin 4) (f : Src → Src) : (s.modSrc i f).aon = s.aon := rfl
@[simp] theorem State.modSrc_pwr (s : State) (i : Fin 4) (f : Src → Src) : (s.modSrc i f).pwr = s.pwr := rfl
@[simp] theorem State.modSrc_sec (s : State) (i : Fin 4) (f : Src → Src) : (s.modSrc i f).sec = s.sec := rfl
@[simp] theorem State.modSrc_gnss (s : State) (i : Fin 4) (f : Src → Src) : (s.modSrc i f).gnss = s.gnss := rfl
@[simp] theorem State.modSrc_snap (s : State) (i : Fin 4) (f : Src → Src) : (s.modSrc i f).snap = s.snap := rfl
@[simp] theorem State.modSrc_uart (s : State) (i : Fin 4) (f : Src → Src) : (s.modSrc i f).uart = s.uart := rfl
@[simp] theorem State.modSrc_tap (s : State) (i : Fin 4) (f : Src → Src) : (s.modSrc i f).tap = s.tap := rfl

/-! ### modPtp -/

@[simp] theorem State.modPtp_pending (s : State) (k : Fin 2) (f : Ptp → Ptp) : (s.modPtp k f).pending = s.pending := rfl
@[simp] theorem State.modPtp_outbox (s : State) (k : Fin 2) (f : Ptp → Ptp) : (s.modPtp k f).outbox = s.outbox := rfl
@[simp] theorem State.modPtp_free (s : State) (k : Fin 2) (f : Ptp → Ptp) : (s.modPtp k f).free = s.free := rfl
@[simp] theorem State.modPtp_cfg (s : State) (k : Fin 2) (f : Ptp → Ptp) : (s.modPtp k f).cfg = s.cfg := rfl
@[simp] theorem State.modPtp_ro (s : State) (k : Fin 2) (f : Ptp → Ptp) : (s.modPtp k f).ro = s.ro := rfl
@[simp] theorem State.modPtp_rev (s : State) (k : Fin 2) (f : Ptp → Ptp) : (s.modPtp k f).rev = s.rev := rfl
@[simp] theorem State.modPtp_act (s : State) (k : Fin 2) (f : Ptp → Ptp) : (s.modPtp k f).act = s.act := rfl
@[simp] theorem State.modPtp_start (s : State) (k : Fin 2) (f : Ptp → Ptp) : (s.modPtp k f).start = s.start := rfl
@[simp] theorem State.modPtp_fw (s : State) (k : Fin 2) (f : Ptp → Ptp) : (s.modPtp k f).fw = s.fw := rfl
@[simp] theorem State.modPtp_eng (s : State) (k : Fin 2) (f : Ptp → Ptp) : (s.modPtp k f).eng = s.eng := rfl
@[simp] theorem State.modPtp_arb (s : State) (k : Fin 2) (f : Ptp → Ptp) : (s.modPtp k f).arb = s.arb := rfl
@[simp] theorem State.modPtp_isl (s : State) (k : Fin 2) (f : Ptp → Ptp) : (s.modPtp k f).isl = s.isl := rfl
@[simp] theorem State.modPtp_lop (s : State) (k : Fin 2) (f : Ptp → Ptp) : (s.modPtp k f).lop = s.lop := rfl
@[simp] theorem State.modPtp_flt (s : State) (k : Fin 2) (f : Ptp → Ptp) : (s.modPtp k f).flt = s.flt := rfl
@[simp] theorem State.modPtp_rf (s : State) (k : Fin 2) (f : Ptp → Ptp) : (s.modPtp k f).rf = s.rf := rfl
@[simp] theorem State.modPtp_mesh (s : State) (k : Fin 2) (f : Ptp → Ptp) : (s.modPtp k f).mesh = s.mesh := rfl
@[simp] theorem State.modPtp_flock (s : State) (k : Fin 2) (f : Ptp → Ptp) : (s.modPtp k f).flock = s.flock := rfl
@[simp] theorem State.modPtp_host (s : State) (k : Fin 2) (f : Ptp → Ptp) : (s.modPtp k f).host = s.host := rfl
@[simp] theorem State.modPtp_port (s : State) (k : Fin 2) (f : Ptp → Ptp) : (s.modPtp k f).port = s.port := rfl
@[simp] theorem State.modPtp_time (s : State) (k : Fin 2) (f : Ptp → Ptp) : (s.modPtp k f).time = { s.time with ptp := vmod s.time.ptp k f } := rfl
@[simp] theorem State.modPtp_aon (s : State) (k : Fin 2) (f : Ptp → Ptp) : (s.modPtp k f).aon = s.aon := rfl
@[simp] theorem State.modPtp_pwr (s : State) (k : Fin 2) (f : Ptp → Ptp) : (s.modPtp k f).pwr = s.pwr := rfl
@[simp] theorem State.modPtp_sec (s : State) (k : Fin 2) (f : Ptp → Ptp) : (s.modPtp k f).sec = s.sec := rfl
@[simp] theorem State.modPtp_gnss (s : State) (k : Fin 2) (f : Ptp → Ptp) : (s.modPtp k f).gnss = s.gnss := rfl
@[simp] theorem State.modPtp_snap (s : State) (k : Fin 2) (f : Ptp → Ptp) : (s.modPtp k f).snap = s.snap := rfl
@[simp] theorem State.modPtp_uart (s : State) (k : Fin 2) (f : Ptp → Ptp) : (s.modPtp k f).uart = s.uart := rfl
@[simp] theorem State.modPtp_tap (s : State) (k : Fin 2) (f : Ptp → Ptp) : (s.modPtp k f).tap = s.tap := rfl

/-! ### modPulse -/

@[simp] theorem State.modPulse_pending (s : State) (n : Fin 2) (f : Pulse → Pulse) : (s.modPulse n f).pending = s.pending := rfl
@[simp] theorem State.modPulse_outbox (s : State) (n : Fin 2) (f : Pulse → Pulse) : (s.modPulse n f).outbox = s.outbox := rfl
@[simp] theorem State.modPulse_free (s : State) (n : Fin 2) (f : Pulse → Pulse) : (s.modPulse n f).free = s.free := rfl
@[simp] theorem State.modPulse_cfg (s : State) (n : Fin 2) (f : Pulse → Pulse) : (s.modPulse n f).cfg = s.cfg := rfl
@[simp] theorem State.modPulse_ro (s : State) (n : Fin 2) (f : Pulse → Pulse) : (s.modPulse n f).ro = s.ro := rfl
@[simp] theorem State.modPulse_rev (s : State) (n : Fin 2) (f : Pulse → Pulse) : (s.modPulse n f).rev = s.rev := rfl
@[simp] theorem State.modPulse_act (s : State) (n : Fin 2) (f : Pulse → Pulse) : (s.modPulse n f).act = s.act := rfl
@[simp] theorem State.modPulse_start (s : State) (n : Fin 2) (f : Pulse → Pulse) : (s.modPulse n f).start = s.start := rfl
@[simp] theorem State.modPulse_fw (s : State) (n : Fin 2) (f : Pulse → Pulse) : (s.modPulse n f).fw = s.fw := rfl
@[simp] theorem State.modPulse_eng (s : State) (n : Fin 2) (f : Pulse → Pulse) : (s.modPulse n f).eng = s.eng := rfl
@[simp] theorem State.modPulse_arb (s : State) (n : Fin 2) (f : Pulse → Pulse) : (s.modPulse n f).arb = s.arb := rfl
@[simp] theorem State.modPulse_isl (s : State) (n : Fin 2) (f : Pulse → Pulse) : (s.modPulse n f).isl = s.isl := rfl
@[simp] theorem State.modPulse_lop (s : State) (n : Fin 2) (f : Pulse → Pulse) : (s.modPulse n f).lop = s.lop := rfl
@[simp] theorem State.modPulse_flt (s : State) (n : Fin 2) (f : Pulse → Pulse) : (s.modPulse n f).flt = s.flt := rfl
@[simp] theorem State.modPulse_rf (s : State) (n : Fin 2) (f : Pulse → Pulse) : (s.modPulse n f).rf = s.rf := rfl
@[simp] theorem State.modPulse_mesh (s : State) (n : Fin 2) (f : Pulse → Pulse) : (s.modPulse n f).mesh = s.mesh := rfl
@[simp] theorem State.modPulse_flock (s : State) (n : Fin 2) (f : Pulse → Pulse) : (s.modPulse n f).flock = s.flock := rfl
@[simp] theorem State.modPulse_host (s : State) (n : Fin 2) (f : Pulse → Pulse) : (s.modPulse n f).host = s.host := rfl
@[simp] theorem State.modPulse_port (s : State) (n : Fin 2) (f : Pulse → Pulse) : (s.modPulse n f).port = s.port := rfl
@[simp] theorem State.modPulse_aon (s : State) (n : Fin 2) (f : Pulse → Pulse) : (s.modPulse n f).aon = s.aon := rfl
@[simp] theorem State.modPulse_pwr (s : State) (n : Fin 2) (f : Pulse → Pulse) : (s.modPulse n f).pwr = s.pwr := rfl
@[simp] theorem State.modPulse_sec (s : State) (n : Fin 2) (f : Pulse → Pulse) : (s.modPulse n f).sec = s.sec := rfl
@[simp] theorem State.modPulse_gnss (s : State) (n : Fin 2) (f : Pulse → Pulse) : (s.modPulse n f).gnss = s.gnss := rfl
@[simp] theorem State.modPulse_snap (s : State) (n : Fin 2) (f : Pulse → Pulse) : (s.modPulse n f).snap = s.snap := rfl
@[simp] theorem State.modPulse_uart (s : State) (n : Fin 2) (f : Pulse → Pulse) : (s.modPulse n f).uart = s.uart := rfl
@[simp] theorem State.modPulse_tap (s : State) (n : Fin 2) (f : Pulse → Pulse) : (s.modPulse n f).tap = s.tap := rfl

/-! ### modAon -/

@[simp] theorem State.modAon_pending (s : State) (f : AonState → AonState) : (s.modAon f).pending = s.pending := rfl
@[simp] theorem State.modAon_outbox (s : State) (f : AonState → AonState) : (s.modAon f).outbox = s.outbox := rfl
@[simp] theorem State.modAon_free (s : State) (f : AonState → AonState) : (s.modAon f).free = s.free := rfl
@[simp] theorem State.modAon_cfg (s : State) (f : AonState → AonState) : (s.modAon f).cfg = s.cfg := rfl
@[simp] theorem State.modAon_ro (s : State) (f : AonState → AonState) : (s.modAon f).ro = s.ro := rfl
@[simp] theorem State.modAon_rev (s : State) (f : AonState → AonState) : (s.modAon f).rev = s.rev := rfl
@[simp] theorem State.modAon_act (s : State) (f : AonState → AonState) : (s.modAon f).act = s.act := rfl
@[simp] theorem State.modAon_start (s : State) (f : AonState → AonState) : (s.modAon f).start = s.start := rfl
@[simp] theorem State.modAon_fw (s : State) (f : AonState → AonState) : (s.modAon f).fw = s.fw := rfl
@[simp] theorem State.modAon_eng (s : State) (f : AonState → AonState) : (s.modAon f).eng = s.eng := rfl
@[simp] theorem State.modAon_arb (s : State) (f : AonState → AonState) : (s.modAon f).arb = s.arb := rfl
@[simp] theorem State.modAon_isl (s : State) (f : AonState → AonState) : (s.modAon f).isl = s.isl := rfl
@[simp] theorem State.modAon_lop (s : State) (f : AonState → AonState) : (s.modAon f).lop = s.lop := rfl
@[simp] theorem State.modAon_flt (s : State) (f : AonState → AonState) : (s.modAon f).flt = s.flt := rfl
@[simp] theorem State.modAon_rf (s : State) (f : AonState → AonState) : (s.modAon f).rf = s.rf := rfl
@[simp] theorem State.modAon_mesh (s : State) (f : AonState → AonState) : (s.modAon f).mesh = s.mesh := rfl
@[simp] theorem State.modAon_flock (s : State) (f : AonState → AonState) : (s.modAon f).flock = s.flock := rfl
@[simp] theorem State.modAon_host (s : State) (f : AonState → AonState) : (s.modAon f).host = s.host := rfl
@[simp] theorem State.modAon_port (s : State) (f : AonState → AonState) : (s.modAon f).port = s.port := rfl
@[simp] theorem State.modAon_time (s : State) (f : AonState → AonState) : (s.modAon f).time = s.time := rfl
@[simp] theorem State.modAon_aon (s : State) (f : AonState → AonState) : (s.modAon f).aon = f s.aon := rfl
@[simp] theorem State.modAon_pwr (s : State) (f : AonState → AonState) : (s.modAon f).pwr = s.pwr := rfl
@[simp] theorem State.modAon_sec (s : State) (f : AonState → AonState) : (s.modAon f).sec = s.sec := rfl
@[simp] theorem State.modAon_gnss (s : State) (f : AonState → AonState) : (s.modAon f).gnss = s.gnss := rfl
@[simp] theorem State.modAon_snap (s : State) (f : AonState → AonState) : (s.modAon f).snap = s.snap := rfl
@[simp] theorem State.modAon_uart (s : State) (f : AonState → AonState) : (s.modAon f).uart = s.uart := rfl
@[simp] theorem State.modAon_tap (s : State) (f : AonState → AonState) : (s.modAon f).tap = s.tap := rfl

/-! ### modBank -/

@[simp] theorem State.modBank_pending (s : State) (i : Fin 4) (f : Bank → Bank) : (s.modBank i f).pending = s.pending := rfl
@[simp] theorem State.modBank_outbox (s : State) (i : Fin 4) (f : Bank → Bank) : (s.modBank i f).outbox = s.outbox := rfl
@[simp] theorem State.modBank_free (s : State) (i : Fin 4) (f : Bank → Bank) : (s.modBank i f).free = s.free := rfl
@[simp] theorem State.modBank_cfg (s : State) (i : Fin 4) (f : Bank → Bank) : (s.modBank i f).cfg = s.cfg := rfl
@[simp] theorem State.modBank_ro (s : State) (i : Fin 4) (f : Bank → Bank) : (s.modBank i f).ro = s.ro := rfl
@[simp] theorem State.modBank_rev (s : State) (i : Fin 4) (f : Bank → Bank) : (s.modBank i f).rev = s.rev := rfl
@[simp] theorem State.modBank_act (s : State) (i : Fin 4) (f : Bank → Bank) : (s.modBank i f).act = s.act := rfl
@[simp] theorem State.modBank_start (s : State) (i : Fin 4) (f : Bank → Bank) : (s.modBank i f).start = s.start := rfl
@[simp] theorem State.modBank_fw (s : State) (i : Fin 4) (f : Bank → Bank) : (s.modBank i f).fw = s.fw := rfl
@[simp] theorem State.modBank_eng (s : State) (i : Fin 4) (f : Bank → Bank) : (s.modBank i f).eng = s.eng := rfl
@[simp] theorem State.modBank_arb (s : State) (i : Fin 4) (f : Bank → Bank) : (s.modBank i f).arb = s.arb := rfl
@[simp] theorem State.modBank_isl (s : State) (i : Fin 4) (f : Bank → Bank) : (s.modBank i f).isl = s.isl := rfl
@[simp] theorem State.modBank_lop (s : State) (i : Fin 4) (f : Bank → Bank) : (s.modBank i f).lop = s.lop := rfl
@[simp] theorem State.modBank_flt (s : State) (i : Fin 4) (f : Bank → Bank) : (s.modBank i f).flt = s.flt := rfl
@[simp] theorem State.modBank_rf (s : State) (i : Fin 4) (f : Bank → Bank) : (s.modBank i f).rf = s.rf := rfl
@[simp] theorem State.modBank_mesh (s : State) (i : Fin 4) (f : Bank → Bank) : (s.modBank i f).mesh = s.mesh := rfl
@[simp] theorem State.modBank_flock (s : State) (i : Fin 4) (f : Bank → Bank) : (s.modBank i f).flock = s.flock := rfl
@[simp] theorem State.modBank_host (s : State) (i : Fin 4) (f : Bank → Bank) : (s.modBank i f).host = s.host := rfl
@[simp] theorem State.modBank_port (s : State) (i : Fin 4) (f : Bank → Bank) : (s.modBank i f).port = s.port := rfl
@[simp] theorem State.modBank_time (s : State) (i : Fin 4) (f : Bank → Bank) : (s.modBank i f).time = s.time := rfl
@[simp] theorem State.modBank_pwr (s : State) (i : Fin 4) (f : Bank → Bank) : (s.modBank i f).pwr = s.pwr := rfl
@[simp] theorem State.modBank_sec (s : State) (i : Fin 4) (f : Bank → Bank) : (s.modBank i f).sec = s.sec := rfl
@[simp] theorem State.modBank_gnss (s : State) (i : Fin 4) (f : Bank → Bank) : (s.modBank i f).gnss = s.gnss := rfl
@[simp] theorem State.modBank_snap (s : State) (i : Fin 4) (f : Bank → Bank) : (s.modBank i f).snap = s.snap := rfl
@[simp] theorem State.modBank_uart (s : State) (i : Fin 4) (f : Bank → Bank) : (s.modBank i f).uart = s.uart := rfl
@[simp] theorem State.modBank_tap (s : State) (i : Fin 4) (f : Bank → Bank) : (s.modBank i f).tap = s.tap := rfl

/-! ### modGnss -/

@[simp] theorem State.modGnss_pending (s : State) (f : GnssState → GnssState) : (s.modGnss f).pending = s.pending := rfl
@[simp] theorem State.modGnss_outbox (s : State) (f : GnssState → GnssState) : (s.modGnss f).outbox = s.outbox := rfl
@[simp] theorem State.modGnss_free (s : State) (f : GnssState → GnssState) : (s.modGnss f).free = s.free := rfl
@[simp] theorem State.modGnss_cfg (s : State) (f : GnssState → GnssState) : (s.modGnss f).cfg = s.cfg := rfl
@[simp] theorem State.modGnss_ro (s : State) (f : GnssState → GnssState) : (s.modGnss f).ro = s.ro := rfl
@[simp] theorem State.modGnss_rev (s : State) (f : GnssState → GnssState) : (s.modGnss f).rev = s.rev := rfl
@[simp] theorem State.modGnss_act (s : State) (f : GnssState → GnssState) : (s.modGnss f).act = s.act := rfl
@[simp] theorem State.modGnss_start (s : State) (f : GnssState → GnssState) : (s.modGnss f).start = s.start := rfl
@[simp] theorem State.modGnss_fw (s : State) (f : GnssState → GnssState) : (s.modGnss f).fw = s.fw := rfl
@[simp] theorem State.modGnss_eng (s : State) (f : GnssState → GnssState) : (s.modGnss f).eng = s.eng := rfl
@[simp] theorem State.modGnss_arb (s : State) (f : GnssState → GnssState) : (s.modGnss f).arb = s.arb := rfl
@[simp] theorem State.modGnss_isl (s : State) (f : GnssState → GnssState) : (s.modGnss f).isl = s.isl := rfl
@[simp] theorem State.modGnss_lop (s : State) (f : GnssState → GnssState) : (s.modGnss f).lop = s.lop := rfl
@[simp] theorem State.modGnss_flt (s : State) (f : GnssState → GnssState) : (s.modGnss f).flt = s.flt := rfl
@[simp] theorem State.modGnss_rf (s : State) (f : GnssState → GnssState) : (s.modGnss f).rf = s.rf := rfl
@[simp] theorem State.modGnss_mesh (s : State) (f : GnssState → GnssState) : (s.modGnss f).mesh = s.mesh := rfl
@[simp] theorem State.modGnss_flock (s : State) (f : GnssState → GnssState) : (s.modGnss f).flock = s.flock := rfl
@[simp] theorem State.modGnss_host (s : State) (f : GnssState → GnssState) : (s.modGnss f).host = s.host := rfl
@[simp] theorem State.modGnss_port (s : State) (f : GnssState → GnssState) : (s.modGnss f).port = s.port := rfl
@[simp] theorem State.modGnss_time (s : State) (f : GnssState → GnssState) : (s.modGnss f).time = s.time := rfl
@[simp] theorem State.modGnss_aon (s : State) (f : GnssState → GnssState) : (s.modGnss f).aon = s.aon := rfl
@[simp] theorem State.modGnss_pwr (s : State) (f : GnssState → GnssState) : (s.modGnss f).pwr = s.pwr := rfl
@[simp] theorem State.modGnss_sec (s : State) (f : GnssState → GnssState) : (s.modGnss f).sec = s.sec := rfl
@[simp] theorem State.modGnss_gnss (s : State) (f : GnssState → GnssState) : (s.modGnss f).gnss = f s.gnss := rfl
@[simp] theorem State.modGnss_snap (s : State) (f : GnssState → GnssState) : (s.modGnss f).snap = s.snap := rfl
@[simp] theorem State.modGnss_uart (s : State) (f : GnssState → GnssState) : (s.modGnss f).uart = s.uart := rfl
@[simp] theorem State.modGnss_tap (s : State) (f : GnssState → GnssState) : (s.modGnss f).tap = s.tap := rfl

/-! ### modBand -/

@[simp] theorem State.modBand_pending (s : State) (b : Fin 2) (f : GBand → GBand) : (s.modBand b f).pending = s.pending := rfl
@[simp] theorem State.modBand_outbox (s : State) (b : Fin 2) (f : GBand → GBand) : (s.modBand b f).outbox = s.outbox := rfl
@[simp] theorem State.modBand_free (s : State) (b : Fin 2) (f : GBand → GBand) : (s.modBand b f).free = s.free := rfl
@[simp] theorem State.modBand_cfg (s : State) (b : Fin 2) (f : GBand → GBand) : (s.modBand b f).cfg = s.cfg := rfl
@[simp] theorem State.modBand_ro (s : State) (b : Fin 2) (f : GBand → GBand) : (s.modBand b f).ro = s.ro := rfl
@[simp] theorem State.modBand_rev (s : State) (b : Fin 2) (f : GBand → GBand) : (s.modBand b f).rev = s.rev := rfl
@[simp] theorem State.modBand_act (s : State) (b : Fin 2) (f : GBand → GBand) : (s.modBand b f).act = s.act := rfl
@[simp] theorem State.modBand_start (s : State) (b : Fin 2) (f : GBand → GBand) : (s.modBand b f).start = s.start := rfl
@[simp] theorem State.modBand_fw (s : State) (b : Fin 2) (f : GBand → GBand) : (s.modBand b f).fw = s.fw := rfl
@[simp] theorem State.modBand_eng (s : State) (b : Fin 2) (f : GBand → GBand) : (s.modBand b f).eng = s.eng := rfl
@[simp] theorem State.modBand_arb (s : State) (b : Fin 2) (f : GBand → GBand) : (s.modBand b f).arb = s.arb := rfl
@[simp] theorem State.modBand_isl (s : State) (b : Fin 2) (f : GBand → GBand) : (s.modBand b f).isl = s.isl := rfl
@[simp] theorem State.modBand_lop (s : State) (b : Fin 2) (f : GBand → GBand) : (s.modBand b f).lop = s.lop := rfl
@[simp] theorem State.modBand_flt (s : State) (b : Fin 2) (f : GBand → GBand) : (s.modBand b f).flt = s.flt := rfl
@[simp] theorem State.modBand_rf (s : State) (b : Fin 2) (f : GBand → GBand) : (s.modBand b f).rf = s.rf := rfl
@[simp] theorem State.modBand_mesh (s : State) (b : Fin 2) (f : GBand → GBand) : (s.modBand b f).mesh = s.mesh := rfl
@[simp] theorem State.modBand_flock (s : State) (b : Fin 2) (f : GBand → GBand) : (s.modBand b f).flock = s.flock := rfl
@[simp] theorem State.modBand_host (s : State) (b : Fin 2) (f : GBand → GBand) : (s.modBand b f).host = s.host := rfl
@[simp] theorem State.modBand_port (s : State) (b : Fin 2) (f : GBand → GBand) : (s.modBand b f).port = s.port := rfl
@[simp] theorem State.modBand_time (s : State) (b : Fin 2) (f : GBand → GBand) : (s.modBand b f).time = s.time := rfl
@[simp] theorem State.modBand_aon (s : State) (b : Fin 2) (f : GBand → GBand) : (s.modBand b f).aon = s.aon := rfl
@[simp] theorem State.modBand_pwr (s : State) (b : Fin 2) (f : GBand → GBand) : (s.modBand b f).pwr = s.pwr := rfl
@[simp] theorem State.modBand_sec (s : State) (b : Fin 2) (f : GBand → GBand) : (s.modBand b f).sec = s.sec := rfl
@[simp] theorem State.modBand_gnss (s : State) (b : Fin 2) (f : GBand → GBand) : (s.modBand b f).gnss = { s.gnss with band := vmod s.gnss.band b f } := rfl
@[simp] theorem State.modBand_snap (s : State) (b : Fin 2) (f : GBand → GBand) : (s.modBand b f).snap = s.snap := rfl
@[simp] theorem State.modBand_uart (s : State) (b : Fin 2) (f : GBand → GBand) : (s.modBand b f).uart = s.uart := rfl
@[simp] theorem State.modBand_tap (s : State) (b : Fin 2) (f : GBand → GBand) : (s.modBand b f).tap = s.tap := rfl

/-! ### modSnap -/

@[simp] theorem State.modSnap_pending (s : State) (f : SnapState → SnapState) : (s.modSnap f).pending = s.pending := rfl
@[simp] theorem State.modSnap_outbox (s : State) (f : SnapState → SnapState) : (s.modSnap f).outbox = s.outbox := rfl
@[simp] theorem State.modSnap_free (s : State) (f : SnapState → SnapState) : (s.modSnap f).free = s.free := rfl
@[simp] theorem State.modSnap_cfg (s : State) (f : SnapState → SnapState) : (s.modSnap f).cfg = s.cfg := rfl
@[simp] theorem State.modSnap_ro (s : State) (f : SnapState → SnapState) : (s.modSnap f).ro = s.ro := rfl
@[simp] theorem State.modSnap_rev (s : State) (f : SnapState → SnapState) : (s.modSnap f).rev = s.rev := rfl
@[simp] theorem State.modSnap_act (s : State) (f : SnapState → SnapState) : (s.modSnap f).act = s.act := rfl
@[simp] theorem State.modSnap_start (s : State) (f : SnapState → SnapState) : (s.modSnap f).start = s.start := rfl
@[simp] theorem State.modSnap_fw (s : State) (f : SnapState → SnapState) : (s.modSnap f).fw = s.fw := rfl
@[simp] theorem State.modSnap_eng (s : State) (f : SnapState → SnapState) : (s.modSnap f).eng = s.eng := rfl
@[simp] theorem State.modSnap_arb (s : State) (f : SnapState → SnapState) : (s.modSnap f).arb = s.arb := rfl
@[simp] theorem State.modSnap_isl (s : State) (f : SnapState → SnapState) : (s.modSnap f).isl = s.isl := rfl
@[simp] theorem State.modSnap_lop (s : State) (f : SnapState → SnapState) : (s.modSnap f).lop = s.lop := rfl
@[simp] theorem State.modSnap_flt (s : State) (f : SnapState → SnapState) : (s.modSnap f).flt = s.flt := rfl
@[simp] theorem State.modSnap_rf (s : State) (f : SnapState → SnapState) : (s.modSnap f).rf = s.rf := rfl
@[simp] theorem State.modSnap_mesh (s : State) (f : SnapState → SnapState) : (s.modSnap f).mesh = s.mesh := rfl
@[simp] theorem State.modSnap_flock (s : State) (f : SnapState → SnapState) : (s.modSnap f).flock = s.flock := rfl
@[simp] theorem State.modSnap_host (s : State) (f : SnapState → SnapState) : (s.modSnap f).host = s.host := rfl
@[simp] theorem State.modSnap_port (s : State) (f : SnapState → SnapState) : (s.modSnap f).port = s.port := rfl
@[simp] theorem State.modSnap_time (s : State) (f : SnapState → SnapState) : (s.modSnap f).time = s.time := rfl
@[simp] theorem State.modSnap_aon (s : State) (f : SnapState → SnapState) : (s.modSnap f).aon = s.aon := rfl
@[simp] theorem State.modSnap_pwr (s : State) (f : SnapState → SnapState) : (s.modSnap f).pwr = s.pwr := rfl
@[simp] theorem State.modSnap_sec (s : State) (f : SnapState → SnapState) : (s.modSnap f).sec = s.sec := rfl
@[simp] theorem State.modSnap_gnss (s : State) (f : SnapState → SnapState) : (s.modSnap f).gnss = s.gnss := rfl
@[simp] theorem State.modSnap_snap (s : State) (f : SnapState → SnapState) : (s.modSnap f).snap = f s.snap := rfl
@[simp] theorem State.modSnap_uart (s : State) (f : SnapState → SnapState) : (s.modSnap f).uart = s.uart := rfl
@[simp] theorem State.modSnap_tap (s : State) (f : SnapState → SnapState) : (s.modSnap f).tap = s.tap := rfl

/-! ### modSec -/

@[simp] theorem State.modSec_pending (s : State) (f : SecState → SecState) : (s.modSec f).pending = s.pending := rfl
@[simp] theorem State.modSec_outbox (s : State) (f : SecState → SecState) : (s.modSec f).outbox = s.outbox := rfl
@[simp] theorem State.modSec_free (s : State) (f : SecState → SecState) : (s.modSec f).free = s.free := rfl
@[simp] theorem State.modSec_cfg (s : State) (f : SecState → SecState) : (s.modSec f).cfg = s.cfg := rfl
@[simp] theorem State.modSec_ro (s : State) (f : SecState → SecState) : (s.modSec f).ro = s.ro := rfl
@[simp] theorem State.modSec_rev (s : State) (f : SecState → SecState) : (s.modSec f).rev = s.rev := rfl
@[simp] theorem State.modSec_act (s : State) (f : SecState → SecState) : (s.modSec f).act = s.act := rfl
@[simp] theorem State.modSec_start (s : State) (f : SecState → SecState) : (s.modSec f).start = s.start := rfl
@[simp] theorem State.modSec_fw (s : State) (f : SecState → SecState) : (s.modSec f).fw = s.fw := rfl
@[simp] theorem State.modSec_eng (s : State) (f : SecState → SecState) : (s.modSec f).eng = s.eng := rfl
@[simp] theorem State.modSec_arb (s : State) (f : SecState → SecState) : (s.modSec f).arb = s.arb := rfl
@[simp] theorem State.modSec_isl (s : State) (f : SecState → SecState) : (s.modSec f).isl = s.isl := rfl
@[simp] theorem State.modSec_lop (s : State) (f : SecState → SecState) : (s.modSec f).lop = s.lop := rfl
@[simp] theorem State.modSec_flt (s : State) (f : SecState → SecState) : (s.modSec f).flt = s.flt := rfl
@[simp] theorem State.modSec_rf (s : State) (f : SecState → SecState) : (s.modSec f).rf = s.rf := rfl
@[simp] theorem State.modSec_mesh (s : State) (f : SecState → SecState) : (s.modSec f).mesh = s.mesh := rfl
@[simp] theorem State.modSec_flock (s : State) (f : SecState → SecState) : (s.modSec f).flock = s.flock := rfl
@[simp] theorem State.modSec_host (s : State) (f : SecState → SecState) : (s.modSec f).host = s.host := rfl
@[simp] theorem State.modSec_port (s : State) (f : SecState → SecState) : (s.modSec f).port = s.port := rfl
@[simp] theorem State.modSec_time (s : State) (f : SecState → SecState) : (s.modSec f).time = s.time := rfl
@[simp] theorem State.modSec_aon (s : State) (f : SecState → SecState) : (s.modSec f).aon = s.aon := rfl
@[simp] theorem State.modSec_pwr (s : State) (f : SecState → SecState) : (s.modSec f).pwr = s.pwr := rfl
@[simp] theorem State.modSec_sec (s : State) (f : SecState → SecState) : (s.modSec f).sec = f s.sec := rfl
@[simp] theorem State.modSec_gnss (s : State) (f : SecState → SecState) : (s.modSec f).gnss = s.gnss := rfl
@[simp] theorem State.modSec_snap (s : State) (f : SecState → SecState) : (s.modSec f).snap = s.snap := rfl
@[simp] theorem State.modSec_uart (s : State) (f : SecState → SecState) : (s.modSec f).uart = s.uart := rfl
@[simp] theorem State.modSec_tap (s : State) (f : SecState → SecState) : (s.modSec f).tap = s.tap := rfl

/-! ### modImage -/

@[simp] theorem State.modImage_pending (s : State) (n : Fin 8) (f : Image → Image) : (s.modImage n f).pending = s.pending := rfl
@[simp] theorem State.modImage_outbox (s : State) (n : Fin 8) (f : Image → Image) : (s.modImage n f).outbox = s.outbox := rfl
@[simp] theorem State.modImage_free (s : State) (n : Fin 8) (f : Image → Image) : (s.modImage n f).free = s.free := rfl
@[simp] theorem State.modImage_cfg (s : State) (n : Fin 8) (f : Image → Image) : (s.modImage n f).cfg = s.cfg := rfl
@[simp] theorem State.modImage_ro (s : State) (n : Fin 8) (f : Image → Image) : (s.modImage n f).ro = s.ro := rfl
@[simp] theorem State.modImage_rev (s : State) (n : Fin 8) (f : Image → Image) : (s.modImage n f).rev = s.rev := rfl
@[simp] theorem State.modImage_act (s : State) (n : Fin 8) (f : Image → Image) : (s.modImage n f).act = s.act := rfl
@[simp] theorem State.modImage_start (s : State) (n : Fin 8) (f : Image → Image) : (s.modImage n f).start = s.start := rfl
@[simp] theorem State.modImage_fw (s : State) (n : Fin 8) (f : Image → Image) : (s.modImage n f).fw = s.fw := rfl
@[simp] theorem State.modImage_eng (s : State) (n : Fin 8) (f : Image → Image) : (s.modImage n f).eng = s.eng := rfl
@[simp] theorem State.modImage_arb (s : State) (n : Fin 8) (f : Image → Image) : (s.modImage n f).arb = s.arb := rfl
@[simp] theorem State.modImage_isl (s : State) (n : Fin 8) (f : Image → Image) : (s.modImage n f).isl = s.isl := rfl
@[simp] theorem State.modImage_lop (s : State) (n : Fin 8) (f : Image → Image) : (s.modImage n f).lop = s.lop := rfl
@[simp] theorem State.modImage_flt (s : State) (n : Fin 8) (f : Image → Image) : (s.modImage n f).flt = s.flt := rfl
@[simp] theorem State.modImage_rf (s : State) (n : Fin 8) (f : Image → Image) : (s.modImage n f).rf = s.rf := rfl
@[simp] theorem State.modImage_mesh (s : State) (n : Fin 8) (f : Image → Image) : (s.modImage n f).mesh = s.mesh := rfl
@[simp] theorem State.modImage_host (s : State) (n : Fin 8) (f : Image → Image) : (s.modImage n f).host = s.host := rfl
@[simp] theorem State.modImage_port (s : State) (n : Fin 8) (f : Image → Image) : (s.modImage n f).port = s.port := rfl
@[simp] theorem State.modImage_time (s : State) (n : Fin 8) (f : Image → Image) : (s.modImage n f).time = s.time := rfl
@[simp] theorem State.modImage_aon (s : State) (n : Fin 8) (f : Image → Image) : (s.modImage n f).aon = s.aon := rfl
@[simp] theorem State.modImage_pwr (s : State) (n : Fin 8) (f : Image → Image) : (s.modImage n f).pwr = s.pwr := rfl
@[simp] theorem State.modImage_sec (s : State) (n : Fin 8) (f : Image → Image) : (s.modImage n f).sec = s.sec := rfl
@[simp] theorem State.modImage_gnss (s : State) (n : Fin 8) (f : Image → Image) : (s.modImage n f).gnss = s.gnss := rfl
@[simp] theorem State.modImage_snap (s : State) (n : Fin 8) (f : Image → Image) : (s.modImage n f).snap = s.snap := rfl
@[simp] theorem State.modImage_uart (s : State) (n : Fin 8) (f : Image → Image) : (s.modImage n f).uart = s.uart := rfl
@[simp] theorem State.modImage_tap (s : State) (n : Fin 8) (f : Image → Image) : (s.modImage n f).tap = s.tap := rfl

/-! ### modFlt -/

@[simp] theorem State.modFlt_pending (s : State) (f : FltState → FltState) : (s.modFlt f).pending = s.pending := rfl
@[simp] theorem State.modFlt_outbox (s : State) (f : FltState → FltState) : (s.modFlt f).outbox = s.outbox := rfl
@[simp] theorem State.modFlt_free (s : State) (f : FltState → FltState) : (s.modFlt f).free = s.free := rfl
@[simp] theorem State.modFlt_cfg (s : State) (f : FltState → FltState) : (s.modFlt f).cfg = s.cfg := rfl
@[simp] theorem State.modFlt_ro (s : State) (f : FltState → FltState) : (s.modFlt f).ro = s.ro := rfl
@[simp] theorem State.modFlt_rev (s : State) (f : FltState → FltState) : (s.modFlt f).rev = s.rev := rfl
@[simp] theorem State.modFlt_act (s : State) (f : FltState → FltState) : (s.modFlt f).act = s.act := rfl
@[simp] theorem State.modFlt_start (s : State) (f : FltState → FltState) : (s.modFlt f).start = s.start := rfl
@[simp] theorem State.modFlt_fw (s : State) (f : FltState → FltState) : (s.modFlt f).fw = s.fw := rfl
@[simp] theorem State.modFlt_eng (s : State) (f : FltState → FltState) : (s.modFlt f).eng = s.eng := rfl
@[simp] theorem State.modFlt_arb (s : State) (f : FltState → FltState) : (s.modFlt f).arb = s.arb := rfl
@[simp] theorem State.modFlt_isl (s : State) (f : FltState → FltState) : (s.modFlt f).isl = s.isl := rfl
@[simp] theorem State.modFlt_lop (s : State) (f : FltState → FltState) : (s.modFlt f).lop = s.lop := rfl
@[simp] theorem State.modFlt_flt (s : State) (f : FltState → FltState) : (s.modFlt f).flt = f s.flt := rfl
@[simp] theorem State.modFlt_rf (s : State) (f : FltState → FltState) : (s.modFlt f).rf = s.rf := rfl
@[simp] theorem State.modFlt_mesh (s : State) (f : FltState → FltState) : (s.modFlt f).mesh = s.mesh := rfl
@[simp] theorem State.modFlt_flock (s : State) (f : FltState → FltState) : (s.modFlt f).flock = s.flock := rfl
@[simp] theorem State.modFlt_host (s : State) (f : FltState → FltState) : (s.modFlt f).host = s.host := rfl
@[simp] theorem State.modFlt_port (s : State) (f : FltState → FltState) : (s.modFlt f).port = s.port := rfl
@[simp] theorem State.modFlt_time (s : State) (f : FltState → FltState) : (s.modFlt f).time = s.time := rfl
@[simp] theorem State.modFlt_aon (s : State) (f : FltState → FltState) : (s.modFlt f).aon = s.aon := rfl
@[simp] theorem State.modFlt_pwr (s : State) (f : FltState → FltState) : (s.modFlt f).pwr = s.pwr := rfl
@[simp] theorem State.modFlt_sec (s : State) (f : FltState → FltState) : (s.modFlt f).sec = s.sec := rfl
@[simp] theorem State.modFlt_gnss (s : State) (f : FltState → FltState) : (s.modFlt f).gnss = s.gnss := rfl
@[simp] theorem State.modFlt_snap (s : State) (f : FltState → FltState) : (s.modFlt f).snap = s.snap := rfl
@[simp] theorem State.modFlt_uart (s : State) (f : FltState → FltState) : (s.modFlt f).uart = s.uart := rfl
@[simp] theorem State.modFlt_tap (s : State) (f : FltState → FltState) : (s.modFlt f).tap = s.tap := rfl

/-! ### modHost -/

@[simp] theorem State.modHost_pending (s : State) (f : HostState → HostState) : (s.modHost f).pending = s.pending := rfl
@[simp] theorem State.modHost_outbox (s : State) (f : HostState → HostState) : (s.modHost f).outbox = s.outbox := rfl
@[simp] theorem State.modHost_free (s : State) (f : HostState → HostState) : (s.modHost f).free = s.free := rfl
@[simp] theorem State.modHost_cfg (s : State) (f : HostState → HostState) : (s.modHost f).cfg = s.cfg := rfl
@[simp] theorem State.modHost_ro (s : State) (f : HostState → HostState) : (s.modHost f).ro = s.ro := rfl
@[simp] theorem State.modHost_rev (s : State) (f : HostState → HostState) : (s.modHost f).rev = s.rev := rfl
@[simp] theorem State.modHost_act (s : State) (f : HostState → HostState) : (s.modHost f).act = s.act := rfl
@[simp] theorem State.modHost_start (s : State) (f : HostState → HostState) : (s.modHost f).start = s.start := rfl
@[simp] theorem State.modHost_fw (s : State) (f : HostState → HostState) : (s.modHost f).fw = s.fw := rfl
@[simp] theorem State.modHost_eng (s : State) (f : HostState → HostState) : (s.modHost f).eng = s.eng := rfl
@[simp] theorem State.modHost_arb (s : State) (f : HostState → HostState) : (s.modHost f).arb = s.arb := rfl
@[simp] theorem State.modHost_isl (s : State) (f : HostState → HostState) : (s.modHost f).isl = s.isl := rfl
@[simp] theorem State.modHost_lop (s : State) (f : HostState → HostState) : (s.modHost f).lop = s.lop := rfl
@[simp] theorem State.modHost_flt (s : State) (f : HostState → HostState) : (s.modHost f).flt = s.flt := rfl
@[simp] theorem State.modHost_rf (s : State) (f : HostState → HostState) : (s.modHost f).rf = s.rf := rfl
@[simp] theorem State.modHost_mesh (s : State) (f : HostState → HostState) : (s.modHost f).mesh = s.mesh := rfl
@[simp] theorem State.modHost_flock (s : State) (f : HostState → HostState) : (s.modHost f).flock = s.flock := rfl
@[simp] theorem State.modHost_host (s : State) (f : HostState → HostState) : (s.modHost f).host = f s.host := rfl
@[simp] theorem State.modHost_port (s : State) (f : HostState → HostState) : (s.modHost f).port = s.port := rfl
@[simp] theorem State.modHost_time (s : State) (f : HostState → HostState) : (s.modHost f).time = s.time := rfl
@[simp] theorem State.modHost_aon (s : State) (f : HostState → HostState) : (s.modHost f).aon = s.aon := rfl
@[simp] theorem State.modHost_pwr (s : State) (f : HostState → HostState) : (s.modHost f).pwr = s.pwr := rfl
@[simp] theorem State.modHost_sec (s : State) (f : HostState → HostState) : (s.modHost f).sec = s.sec := rfl
@[simp] theorem State.modHost_gnss (s : State) (f : HostState → HostState) : (s.modHost f).gnss = s.gnss := rfl
@[simp] theorem State.modHost_snap (s : State) (f : HostState → HostState) : (s.modHost f).snap = s.snap := rfl
@[simp] theorem State.modHost_uart (s : State) (f : HostState → HostState) : (s.modHost f).uart = s.uart := rfl
@[simp] theorem State.modHost_tap (s : State) (f : HostState → HostState) : (s.modHost f).tap = s.tap := rfl

/-! ### modUart -/

@[simp] theorem State.modUart_pending (s : State) (n : Fin 4) (f : Uart → Uart) : (s.modUart n f).pending = s.pending := rfl
@[simp] theorem State.modUart_outbox (s : State) (n : Fin 4) (f : Uart → Uart) : (s.modUart n f).outbox = s.outbox := rfl
@[simp] theorem State.modUart_free (s : State) (n : Fin 4) (f : Uart → Uart) : (s.modUart n f).free = s.free := rfl
@[simp] theorem State.modUart_cfg (s : State) (n : Fin 4) (f : Uart → Uart) : (s.modUart n f).cfg = s.cfg := rfl
@[simp] theorem State.modUart_ro (s : State) (n : Fin 4) (f : Uart → Uart) : (s.modUart n f).ro = s.ro := rfl
@[simp] theorem State.modUart_rev (s : State) (n : Fin 4) (f : Uart → Uart) : (s.modUart n f).rev = s.rev := rfl
@[simp] theorem State.modUart_act (s : State) (n : Fin 4) (f : Uart → Uart) : (s.modUart n f).act = s.act := rfl
@[simp] theorem State.modUart_start (s : State) (n : Fin 4) (f : Uart → Uart) : (s.modUart n f).start = s.start := rfl
@[simp] theorem State.modUart_fw (s : State) (n : Fin 4) (f : Uart → Uart) : (s.modUart n f).fw = s.fw := rfl
@[simp] theorem State.modUart_eng (s : State) (n : Fin 4) (f : Uart → Uart) : (s.modUart n f).eng = s.eng := rfl
@[simp] theorem State.modUart_arb (s : State) (n : Fin 4) (f : Uart → Uart) : (s.modUart n f).arb = s.arb := rfl
@[simp] theorem State.modUart_isl (s : State) (n : Fin 4) (f : Uart → Uart) : (s.modUart n f).isl = s.isl := rfl
@[simp] theorem State.modUart_lop (s : State) (n : Fin 4) (f : Uart → Uart) : (s.modUart n f).lop = s.lop := rfl
@[simp] theorem State.modUart_flt (s : State) (n : Fin 4) (f : Uart → Uart) : (s.modUart n f).flt = s.flt := rfl
@[simp] theorem State.modUart_rf (s : State) (n : Fin 4) (f : Uart → Uart) : (s.modUart n f).rf = s.rf := rfl
@[simp] theorem State.modUart_mesh (s : State) (n : Fin 4) (f : Uart → Uart) : (s.modUart n f).mesh = s.mesh := rfl
@[simp] theorem State.modUart_flock (s : State) (n : Fin 4) (f : Uart → Uart) : (s.modUart n f).flock = s.flock := rfl
@[simp] theorem State.modUart_host (s : State) (n : Fin 4) (f : Uart → Uart) : (s.modUart n f).host = s.host := rfl
@[simp] theorem State.modUart_port (s : State) (n : Fin 4) (f : Uart → Uart) : (s.modUart n f).port = s.port := rfl
@[simp] theorem State.modUart_time (s : State) (n : Fin 4) (f : Uart → Uart) : (s.modUart n f).time = s.time := rfl
@[simp] theorem State.modUart_aon (s : State) (n : Fin 4) (f : Uart → Uart) : (s.modUart n f).aon = s.aon := rfl
@[simp] theorem State.modUart_pwr (s : State) (n : Fin 4) (f : Uart → Uart) : (s.modUart n f).pwr = s.pwr := rfl
@[simp] theorem State.modUart_sec (s : State) (n : Fin 4) (f : Uart → Uart) : (s.modUart n f).sec = s.sec := rfl
@[simp] theorem State.modUart_gnss (s : State) (n : Fin 4) (f : Uart → Uart) : (s.modUart n f).gnss = s.gnss := rfl
@[simp] theorem State.modUart_snap (s : State) (n : Fin 4) (f : Uart → Uart) : (s.modUart n f).snap = s.snap := rfl
@[simp] theorem State.modUart_tap (s : State) (n : Fin 4) (f : Uart → Uart) : (s.modUart n f).tap = s.tap := rfl

/-! ### modFw -/

@[simp] theorem State.modFw_pending (s : State) (f : FwState → FwState) : (s.modFw f).pending = s.pending := rfl
@[simp] theorem State.modFw_outbox (s : State) (f : FwState → FwState) : (s.modFw f).outbox = s.outbox := rfl
@[simp] theorem State.modFw_free (s : State) (f : FwState → FwState) : (s.modFw f).free = s.free := rfl
@[simp] theorem State.modFw_cfg (s : State) (f : FwState → FwState) : (s.modFw f).cfg = s.cfg := rfl
@[simp] theorem State.modFw_ro (s : State) (f : FwState → FwState) : (s.modFw f).ro = s.ro := rfl
@[simp] theorem State.modFw_rev (s : State) (f : FwState → FwState) : (s.modFw f).rev = s.rev := rfl
@[simp] theorem State.modFw_act (s : State) (f : FwState → FwState) : (s.modFw f).act = s.act := rfl
@[simp] theorem State.modFw_start (s : State) (f : FwState → FwState) : (s.modFw f).start = s.start := rfl
@[simp] theorem State.modFw_fw (s : State) (f : FwState → FwState) : (s.modFw f).fw = f s.fw := rfl
@[simp] theorem State.modFw_eng (s : State) (f : FwState → FwState) : (s.modFw f).eng = s.eng := rfl
@[simp] theorem State.modFw_arb (s : State) (f : FwState → FwState) : (s.modFw f).arb = s.arb := rfl
@[simp] theorem State.modFw_isl (s : State) (f : FwState → FwState) : (s.modFw f).isl = s.isl := rfl
@[simp] theorem State.modFw_lop (s : State) (f : FwState → FwState) : (s.modFw f).lop = s.lop := rfl
@[simp] theorem State.modFw_flt (s : State) (f : FwState → FwState) : (s.modFw f).flt = s.flt := rfl
@[simp] theorem State.modFw_rf (s : State) (f : FwState → FwState) : (s.modFw f).rf = s.rf := rfl
@[simp] theorem State.modFw_mesh (s : State) (f : FwState → FwState) : (s.modFw f).mesh = s.mesh := rfl
@[simp] theorem State.modFw_flock (s : State) (f : FwState → FwState) : (s.modFw f).flock = s.flock := rfl
@[simp] theorem State.modFw_host (s : State) (f : FwState → FwState) : (s.modFw f).host = s.host := rfl
@[simp] theorem State.modFw_port (s : State) (f : FwState → FwState) : (s.modFw f).port = s.port := rfl
@[simp] theorem State.modFw_time (s : State) (f : FwState → FwState) : (s.modFw f).time = s.time := rfl
@[simp] theorem State.modFw_aon (s : State) (f : FwState → FwState) : (s.modFw f).aon = s.aon := rfl
@[simp] theorem State.modFw_pwr (s : State) (f : FwState → FwState) : (s.modFw f).pwr = s.pwr := rfl
@[simp] theorem State.modFw_sec (s : State) (f : FwState → FwState) : (s.modFw f).sec = s.sec := rfl
@[simp] theorem State.modFw_gnss (s : State) (f : FwState → FwState) : (s.modFw f).gnss = s.gnss := rfl
@[simp] theorem State.modFw_snap (s : State) (f : FwState → FwState) : (s.modFw f).snap = s.snap := rfl
@[simp] theorem State.modFw_uart (s : State) (f : FwState → FwState) : (s.modFw f).uart = s.uart := rfl
@[simp] theorem State.modFw_tap (s : State) (f : FwState → FwState) : (s.modFw f).tap = s.tap := rfl

/-! ### modStart -/

@[simp] theorem State.modStart_pending (s : State) (f : StartState → StartState) : (s.modStart f).pending = s.pending := rfl
@[simp] theorem State.modStart_outbox (s : State) (f : StartState → StartState) : (s.modStart f).outbox = s.outbox := rfl
@[simp] theorem State.modStart_free (s : State) (f : StartState → StartState) : (s.modStart f).free = s.free := rfl
@[simp] theorem State.modStart_cfg (s : State) (f : StartState → StartState) : (s.modStart f).cfg = s.cfg := rfl
@[simp] theorem State.modStart_ro (s : State) (f : StartState → StartState) : (s.modStart f).ro = s.ro := rfl
@[simp] theorem State.modStart_rev (s : State) (f : StartState → StartState) : (s.modStart f).rev = s.rev := rfl
@[simp] theorem State.modStart_act (s : State) (f : StartState → StartState) : (s.modStart f).act = s.act := rfl
@[simp] theorem State.modStart_start (s : State) (f : StartState → StartState) : (s.modStart f).start = f s.start := rfl
@[simp] theorem State.modStart_fw (s : State) (f : StartState → StartState) : (s.modStart f).fw = s.fw := rfl
@[simp] theorem State.modStart_eng (s : State) (f : StartState → StartState) : (s.modStart f).eng = s.eng := rfl
@[simp] theorem State.modStart_arb (s : State) (f : StartState → StartState) : (s.modStart f).arb = s.arb := rfl
@[simp] theorem State.modStart_isl (s : State) (f : StartState → StartState) : (s.modStart f).isl = s.isl := rfl
@[simp] theorem State.modStart_lop (s : State) (f : StartState → StartState) : (s.modStart f).lop = s.lop := rfl
@[simp] theorem State.modStart_flt (s : State) (f : StartState → StartState) : (s.modStart f).flt = s.flt := rfl
@[simp] theorem State.modStart_rf (s : State) (f : StartState → StartState) : (s.modStart f).rf = s.rf := rfl
@[simp] theorem State.modStart_mesh (s : State) (f : StartState → StartState) : (s.modStart f).mesh = s.mesh := rfl
@[simp] theorem State.modStart_flock (s : State) (f : StartState → StartState) : (s.modStart f).flock = s.flock := rfl
@[simp] theorem State.modStart_host (s : State) (f : StartState → StartState) : (s.modStart f).host = s.host := rfl
@[simp] theorem State.modStart_port (s : State) (f : StartState → StartState) : (s.modStart f).port = s.port := rfl
@[simp] theorem State.modStart_time (s : State) (f : StartState → StartState) : (s.modStart f).time = s.time := rfl
@[simp] theorem State.modStart_aon (s : State) (f : StartState → StartState) : (s.modStart f).aon = s.aon := rfl
@[simp] theorem State.modStart_pwr (s : State) (f : StartState → StartState) : (s.modStart f).pwr = s.pwr := rfl
@[simp] theorem State.modStart_sec (s : State) (f : StartState → StartState) : (s.modStart f).sec = s.sec := rfl
@[simp] theorem State.modStart_gnss (s : State) (f : StartState → StartState) : (s.modStart f).gnss = s.gnss := rfl
@[simp] theorem State.modStart_snap (s : State) (f : StartState → StartState) : (s.modStart f).snap = s.snap := rfl
@[simp] theorem State.modStart_uart (s : State) (f : StartState → StartState) : (s.modStart f).uart = s.uart := rfl
@[simp] theorem State.modStart_tap (s : State) (f : StartState → StartState) : (s.modStart f).tap = s.tap := rfl

/-! ### modIsl -/

@[simp] theorem State.modIsl_pending (s : State) (f : IslState → IslState) : (s.modIsl f).pending = s.pending := rfl
@[simp] theorem State.modIsl_outbox (s : State) (f : IslState → IslState) : (s.modIsl f).outbox = s.outbox := rfl
@[simp] theorem State.modIsl_free (s : State) (f : IslState → IslState) : (s.modIsl f).free = s.free := rfl
@[simp] theorem State.modIsl_cfg (s : State) (f : IslState → IslState) : (s.modIsl f).cfg = s.cfg := rfl
@[simp] theorem State.modIsl_ro (s : State) (f : IslState → IslState) : (s.modIsl f).ro = s.ro := rfl
@[simp] theorem State.modIsl_rev (s : State) (f : IslState → IslState) : (s.modIsl f).rev = s.rev := rfl
@[simp] theorem State.modIsl_act (s : State) (f : IslState → IslState) : (s.modIsl f).act = s.act := rfl
@[simp] theorem State.modIsl_start (s : State) (f : IslState → IslState) : (s.modIsl f).start = s.start := rfl
@[simp] theorem State.modIsl_fw (s : State) (f : IslState → IslState) : (s.modIsl f).fw = s.fw := rfl
@[simp] theorem State.modIsl_eng (s : State) (f : IslState → IslState) : (s.modIsl f).eng = s.eng := rfl
@[simp] theorem State.modIsl_arb (s : State) (f : IslState → IslState) : (s.modIsl f).arb = s.arb := rfl
@[simp] theorem State.modIsl_isl (s : State) (f : IslState → IslState) : (s.modIsl f).isl = f s.isl := rfl
@[simp] theorem State.modIsl_lop (s : State) (f : IslState → IslState) : (s.modIsl f).lop = s.lop := rfl
@[simp] theorem State.modIsl_flt (s : State) (f : IslState → IslState) : (s.modIsl f).flt = s.flt := rfl
@[simp] theorem State.modIsl_rf (s : State) (f : IslState → IslState) : (s.modIsl f).rf = s.rf := rfl
@[simp] theorem State.modIsl_mesh (s : State) (f : IslState → IslState) : (s.modIsl f).mesh = s.mesh := rfl
@[simp] theorem State.modIsl_flock (s : State) (f : IslState → IslState) : (s.modIsl f).flock = s.flock := rfl
@[simp] theorem State.modIsl_host (s : State) (f : IslState → IslState) : (s.modIsl f).host = s.host := rfl
@[simp] theorem State.modIsl_port (s : State) (f : IslState → IslState) : (s.modIsl f).port = s.port := rfl
@[simp] theorem State.modIsl_time (s : State) (f : IslState → IslState) : (s.modIsl f).time = s.time := rfl
@[simp] theorem State.modIsl_aon (s : State) (f : IslState → IslState) : (s.modIsl f).aon = s.aon := rfl
@[simp] theorem State.modIsl_pwr (s : State) (f : IslState → IslState) : (s.modIsl f).pwr = s.pwr := rfl
@[simp] theorem State.modIsl_sec (s : State) (f : IslState → IslState) : (s.modIsl f).sec = s.sec := rfl
@[simp] theorem State.modIsl_gnss (s : State) (f : IslState → IslState) : (s.modIsl f).gnss = s.gnss := rfl
@[simp] theorem State.modIsl_snap (s : State) (f : IslState → IslState) : (s.modIsl f).snap = s.snap := rfl
@[simp] theorem State.modIsl_uart (s : State) (f : IslState → IslState) : (s.modIsl f).uart = s.uart := rfl
@[simp] theorem State.modIsl_tap (s : State) (f : IslState → IslState) : (s.modIsl f).tap = s.tap := rfl

/-! ### modLop -/

@[simp] theorem State.modLop_pending (s : State) (f : LopState → LopState) : (s.modLop f).pending = s.pending := rfl
@[simp] theorem State.modLop_outbox (s : State) (f : LopState → LopState) : (s.modLop f).outbox = s.outbox := rfl
@[simp] theorem State.modLop_free (s : State) (f : LopState → LopState) : (s.modLop f).free = s.free := rfl
@[simp] theorem State.modLop_cfg (s : State) (f : LopState → LopState) : (s.modLop f).cfg = s.cfg := rfl
@[simp] theorem State.modLop_ro (s : State) (f : LopState → LopState) : (s.modLop f).ro = s.ro := rfl
@[simp] theorem State.modLop_rev (s : State) (f : LopState → LopState) : (s.modLop f).rev = s.rev := rfl
@[simp] theorem State.modLop_act (s : State) (f : LopState → LopState) : (s.modLop f).act = s.act := rfl
@[simp] theorem State.modLop_start (s : State) (f : LopState → LopState) : (s.modLop f).start = s.start := rfl
@[simp] theorem State.modLop_fw (s : State) (f : LopState → LopState) : (s.modLop f).fw = s.fw := rfl
@[simp] theorem State.modLop_eng (s : State) (f : LopState → LopState) : (s.modLop f).eng = s.eng := rfl
@[simp] theorem State.modLop_arb (s : State) (f : LopState → LopState) : (s.modLop f).arb = s.arb := rfl
@[simp] theorem State.modLop_isl (s : State) (f : LopState → LopState) : (s.modLop f).isl = s.isl := rfl
@[simp] theorem State.modLop_lop (s : State) (f : LopState → LopState) : (s.modLop f).lop = f s.lop := rfl
@[simp] theorem State.modLop_flt (s : State) (f : LopState → LopState) : (s.modLop f).flt = s.flt := rfl
@[simp] theorem State.modLop_rf (s : State) (f : LopState → LopState) : (s.modLop f).rf = s.rf := rfl
@[simp] theorem State.modLop_mesh (s : State) (f : LopState → LopState) : (s.modLop f).mesh = s.mesh := rfl
@[simp] theorem State.modLop_flock (s : State) (f : LopState → LopState) : (s.modLop f).flock = s.flock := rfl
@[simp] theorem State.modLop_host (s : State) (f : LopState → LopState) : (s.modLop f).host = s.host := rfl
@[simp] theorem State.modLop_port (s : State) (f : LopState → LopState) : (s.modLop f).port = s.port := rfl
@[simp] theorem State.modLop_time (s : State) (f : LopState → LopState) : (s.modLop f).time = s.time := rfl
@[simp] theorem State.modLop_aon (s : State) (f : LopState → LopState) : (s.modLop f).aon = s.aon := rfl
@[simp] theorem State.modLop_pwr (s : State) (f : LopState → LopState) : (s.modLop f).pwr = s.pwr := rfl
@[simp] theorem State.modLop_sec (s : State) (f : LopState → LopState) : (s.modLop f).sec = s.sec := rfl
@[simp] theorem State.modLop_gnss (s : State) (f : LopState → LopState) : (s.modLop f).gnss = s.gnss := rfl
@[simp] theorem State.modLop_snap (s : State) (f : LopState → LopState) : (s.modLop f).snap = s.snap := rfl
@[simp] theorem State.modLop_uart (s : State) (f : LopState → LopState) : (s.modLop f).uart = s.uart := rfl
@[simp] theorem State.modLop_tap (s : State) (f : LopState → LopState) : (s.modLop f).tap = s.tap := rfl

/-! ### putPath -/

@[simp] theorem State.putPath_pending (s : State) (p : Fin 6) (x : Path) : (s.putPath p x).pending = s.pending := rfl
@[simp] theorem State.putPath_outbox (s : State) (p : Fin 6) (x : Path) : (s.putPath p x).outbox = s.outbox := rfl
@[simp] theorem State.putPath_free (s : State) (p : Fin 6) (x : Path) : (s.putPath p x).free = s.free := rfl
@[simp] theorem State.putPath_cfg (s : State) (p : Fin 6) (x : Path) : (s.putPath p x).cfg = s.cfg := rfl
@[simp] theorem State.putPath_ro (s : State) (p : Fin 6) (x : Path) : (s.putPath p x).ro = s.ro := rfl
@[simp] theorem State.putPath_rev (s : State) (p : Fin 6) (x : Path) : (s.putPath p x).rev = s.rev := rfl
@[simp] theorem State.putPath_act (s : State) (p : Fin 6) (x : Path) : (s.putPath p x).act = s.act := rfl
@[simp] theorem State.putPath_start (s : State) (p : Fin 6) (x : Path) : (s.putPath p x).start = s.start := rfl
@[simp] theorem State.putPath_fw (s : State) (p : Fin 6) (x : Path) : (s.putPath p x).fw = s.fw := rfl
@[simp] theorem State.putPath_eng (s : State) (p : Fin 6) (x : Path) : (s.putPath p x).eng = s.eng := rfl
@[simp] theorem State.putPath_arb (s : State) (p : Fin 6) (x : Path) : (s.putPath p x).arb = s.arb := rfl
@[simp] theorem State.putPath_isl (s : State) (p : Fin 6) (x : Path) : (s.putPath p x).isl = s.isl := rfl
@[simp] theorem State.putPath_lop (s : State) (p : Fin 6) (x : Path) : (s.putPath p x).lop = s.lop := rfl
@[simp] theorem State.putPath_flt (s : State) (p : Fin 6) (x : Path) : (s.putPath p x).flt = s.flt := rfl
@[simp] theorem State.putPath_mesh (s : State) (p : Fin 6) (x : Path) : (s.putPath p x).mesh = s.mesh := rfl
@[simp] theorem State.putPath_flock (s : State) (p : Fin 6) (x : Path) : (s.putPath p x).flock = s.flock := rfl
@[simp] theorem State.putPath_host (s : State) (p : Fin 6) (x : Path) : (s.putPath p x).host = s.host := rfl
@[simp] theorem State.putPath_port (s : State) (p : Fin 6) (x : Path) : (s.putPath p x).port = s.port := rfl
@[simp] theorem State.putPath_time (s : State) (p : Fin 6) (x : Path) : (s.putPath p x).time = s.time := rfl
@[simp] theorem State.putPath_aon (s : State) (p : Fin 6) (x : Path) : (s.putPath p x).aon = s.aon := rfl
@[simp] theorem State.putPath_pwr (s : State) (p : Fin 6) (x : Path) : (s.putPath p x).pwr = s.pwr := rfl
@[simp] theorem State.putPath_sec (s : State) (p : Fin 6) (x : Path) : (s.putPath p x).sec = s.sec := rfl
@[simp] theorem State.putPath_gnss (s : State) (p : Fin 6) (x : Path) : (s.putPath p x).gnss = s.gnss := rfl
@[simp] theorem State.putPath_snap (s : State) (p : Fin 6) (x : Path) : (s.putPath p x).snap = s.snap := rfl
@[simp] theorem State.putPath_uart (s : State) (p : Fin 6) (x : Path) : (s.putPath p x).uart = s.uart := rfl
@[simp] theorem State.putPath_tap (s : State) (p : Fin 6) (x : Path) : (s.putPath p x).tap = s.tap := rfl

/-! ### putDom -/

@[simp] theorem State.putDom_pending (s : State) (d : Fin 18) (x : Domain) : (s.putDom d x).pending = s.pending := rfl
@[simp] theorem State.putDom_outbox (s : State) (d : Fin 18) (x : Domain) : (s.putDom d x).outbox = s.outbox := rfl
@[simp] theorem State.putDom_free (s : State) (d : Fin 18) (x : Domain) : (s.putDom d x).free = s.free := rfl
@[simp] theorem State.putDom_cfg (s : State) (d : Fin 18) (x : Domain) : (s.putDom d x).cfg = s.cfg := rfl
@[simp] theorem State.putDom_ro (s : State) (d : Fin 18) (x : Domain) : (s.putDom d x).ro = s.ro := rfl
@[simp] theorem State.putDom_rev (s : State) (d : Fin 18) (x : Domain) : (s.putDom d x).rev = s.rev := rfl
@[simp] theorem State.putDom_act (s : State) (d : Fin 18) (x : Domain) : (s.putDom d x).act = s.act := rfl
@[simp] theorem State.putDom_start (s : State) (d : Fin 18) (x : Domain) : (s.putDom d x).start = s.start := rfl
@[simp] theorem State.putDom_fw (s : State) (d : Fin 18) (x : Domain) : (s.putDom d x).fw = s.fw := rfl
@[simp] theorem State.putDom_eng (s : State) (d : Fin 18) (x : Domain) : (s.putDom d x).eng = s.eng := rfl
@[simp] theorem State.putDom_arb (s : State) (d : Fin 18) (x : Domain) : (s.putDom d x).arb = s.arb := rfl
@[simp] theorem State.putDom_isl (s : State) (d : Fin 18) (x : Domain) : (s.putDom d x).isl = s.isl := rfl
@[simp] theorem State.putDom_lop (s : State) (d : Fin 18) (x : Domain) : (s.putDom d x).lop = s.lop := rfl
@[simp] theorem State.putDom_flt (s : State) (d : Fin 18) (x : Domain) : (s.putDom d x).flt = s.flt := rfl
@[simp] theorem State.putDom_rf (s : State) (d : Fin 18) (x : Domain) : (s.putDom d x).rf = s.rf := rfl
@[simp] theorem State.putDom_mesh (s : State) (d : Fin 18) (x : Domain) : (s.putDom d x).mesh = s.mesh := rfl
@[simp] theorem State.putDom_flock (s : State) (d : Fin 18) (x : Domain) : (s.putDom d x).flock = s.flock := rfl
@[simp] theorem State.putDom_host (s : State) (d : Fin 18) (x : Domain) : (s.putDom d x).host = s.host := rfl
@[simp] theorem State.putDom_port (s : State) (d : Fin 18) (x : Domain) : (s.putDom d x).port = s.port := rfl
@[simp] theorem State.putDom_time (s : State) (d : Fin 18) (x : Domain) : (s.putDom d x).time = s.time := rfl
@[simp] theorem State.putDom_aon (s : State) (d : Fin 18) (x : Domain) : (s.putDom d x).aon = s.aon := rfl
@[simp] theorem State.putDom_sec (s : State) (d : Fin 18) (x : Domain) : (s.putDom d x).sec = s.sec := rfl
@[simp] theorem State.putDom_gnss (s : State) (d : Fin 18) (x : Domain) : (s.putDom d x).gnss = s.gnss := rfl
@[simp] theorem State.putDom_snap (s : State) (d : Fin 18) (x : Domain) : (s.putDom d x).snap = s.snap := rfl
@[simp] theorem State.putDom_uart (s : State) (d : Fin 18) (x : Domain) : (s.putDom d x).uart = s.uart := rfl
@[simp] theorem State.putDom_tap (s : State) (d : Fin 18) (x : Domain) : (s.putDom d x).tap = s.tap := rfl

/-! ### setRing -/

@[simp] theorem State.setRing_pending (s : State) (n : Fin 6) (r : Ring) : (s.setRing n r).pending = s.pending := rfl
@[simp] theorem State.setRing_outbox (s : State) (n : Fin 6) (r : Ring) : (s.setRing n r).outbox = s.outbox := rfl
@[simp] theorem State.setRing_free (s : State) (n : Fin 6) (r : Ring) : (s.setRing n r).free = s.free := rfl
@[simp] theorem State.setRing_cfg (s : State) (n : Fin 6) (r : Ring) : (s.setRing n r).cfg = s.cfg := rfl
@[simp] theorem State.setRing_ro (s : State) (n : Fin 6) (r : Ring) : (s.setRing n r).ro = s.ro := rfl
@[simp] theorem State.setRing_rev (s : State) (n : Fin 6) (r : Ring) : (s.setRing n r).rev = s.rev := rfl
@[simp] theorem State.setRing_act (s : State) (n : Fin 6) (r : Ring) : (s.setRing n r).act = s.act := rfl
@[simp] theorem State.setRing_start (s : State) (n : Fin 6) (r : Ring) : (s.setRing n r).start = s.start := rfl
@[simp] theorem State.setRing_fw (s : State) (n : Fin 6) (r : Ring) : (s.setRing n r).fw = s.fw := rfl
@[simp] theorem State.setRing_eng (s : State) (n : Fin 6) (r : Ring) : (s.setRing n r).eng = s.eng := rfl
@[simp] theorem State.setRing_arb (s : State) (n : Fin 6) (r : Ring) : (s.setRing n r).arb = s.arb := rfl
@[simp] theorem State.setRing_isl (s : State) (n : Fin 6) (r : Ring) : (s.setRing n r).isl = s.isl := rfl
@[simp] theorem State.setRing_lop (s : State) (n : Fin 6) (r : Ring) : (s.setRing n r).lop = s.lop := rfl
@[simp] theorem State.setRing_flt (s : State) (n : Fin 6) (r : Ring) : (s.setRing n r).flt = s.flt := rfl
@[simp] theorem State.setRing_rf (s : State) (n : Fin 6) (r : Ring) : (s.setRing n r).rf = s.rf := rfl
@[simp] theorem State.setRing_mesh (s : State) (n : Fin 6) (r : Ring) : (s.setRing n r).mesh = s.mesh := rfl
@[simp] theorem State.setRing_flock (s : State) (n : Fin 6) (r : Ring) : (s.setRing n r).flock = s.flock := rfl
@[simp] theorem State.setRing_port (s : State) (n : Fin 6) (r : Ring) : (s.setRing n r).port = s.port := rfl
@[simp] theorem State.setRing_time (s : State) (n : Fin 6) (r : Ring) : (s.setRing n r).time = s.time := rfl
@[simp] theorem State.setRing_aon (s : State) (n : Fin 6) (r : Ring) : (s.setRing n r).aon = s.aon := rfl
@[simp] theorem State.setRing_pwr (s : State) (n : Fin 6) (r : Ring) : (s.setRing n r).pwr = s.pwr := rfl
@[simp] theorem State.setRing_sec (s : State) (n : Fin 6) (r : Ring) : (s.setRing n r).sec = s.sec := rfl
@[simp] theorem State.setRing_gnss (s : State) (n : Fin 6) (r : Ring) : (s.setRing n r).gnss = s.gnss := rfl
@[simp] theorem State.setRing_snap (s : State) (n : Fin 6) (r : Ring) : (s.setRing n r).snap = s.snap := rfl
@[simp] theorem State.setRing_uart (s : State) (n : Fin 6) (r : Ring) : (s.setRing n r).uart = s.uart := rfl
@[simp] theorem State.setRing_tap (s : State) (n : Fin 6) (r : Ring) : (s.setRing n r).tap = s.tap := rfl

/-! ### setAcct -/

@[simp] theorem State.setAcct_pending (s : State) (b : Fin 2) (a : Nat) (x : Account) : (s.setAcct b a x).pending = s.pending := rfl
@[simp] theorem State.setAcct_outbox (s : State) (b : Fin 2) (a : Nat) (x : Account) : (s.setAcct b a x).outbox = s.outbox := rfl
@[simp] theorem State.setAcct_free (s : State) (b : Fin 2) (a : Nat) (x : Account) : (s.setAcct b a x).free = s.free := rfl
@[simp] theorem State.setAcct_cfg (s : State) (b : Fin 2) (a : Nat) (x : Account) : (s.setAcct b a x).cfg = s.cfg := rfl
@[simp] theorem State.setAcct_ro (s : State) (b : Fin 2) (a : Nat) (x : Account) : (s.setAcct b a x).ro = s.ro := rfl
@[simp] theorem State.setAcct_rev (s : State) (b : Fin 2) (a : Nat) (x : Account) : (s.setAcct b a x).rev = s.rev := rfl
@[simp] theorem State.setAcct_act (s : State) (b : Fin 2) (a : Nat) (x : Account) : (s.setAcct b a x).act = s.act := rfl
@[simp] theorem State.setAcct_start (s : State) (b : Fin 2) (a : Nat) (x : Account) : (s.setAcct b a x).start = s.start := rfl
@[simp] theorem State.setAcct_fw (s : State) (b : Fin 2) (a : Nat) (x : Account) : (s.setAcct b a x).fw = s.fw := rfl
@[simp] theorem State.setAcct_eng (s : State) (b : Fin 2) (a : Nat) (x : Account) : (s.setAcct b a x).eng = s.eng := rfl
@[simp] theorem State.setAcct_arb (s : State) (b : Fin 2) (a : Nat) (x : Account) : (s.setAcct b a x).arb = s.arb := rfl
@[simp] theorem State.setAcct_isl (s : State) (b : Fin 2) (a : Nat) (x : Account) : (s.setAcct b a x).isl = s.isl := rfl
@[simp] theorem State.setAcct_lop (s : State) (b : Fin 2) (a : Nat) (x : Account) : (s.setAcct b a x).lop = s.lop := rfl
@[simp] theorem State.setAcct_flt (s : State) (b : Fin 2) (a : Nat) (x : Account) : (s.setAcct b a x).flt = s.flt := rfl
@[simp] theorem State.setAcct_rf (s : State) (b : Fin 2) (a : Nat) (x : Account) : (s.setAcct b a x).rf = s.rf := rfl
@[simp] theorem State.setAcct_flock (s : State) (b : Fin 2) (a : Nat) (x : Account) : (s.setAcct b a x).flock = s.flock := rfl
@[simp] theorem State.setAcct_host (s : State) (b : Fin 2) (a : Nat) (x : Account) : (s.setAcct b a x).host = s.host := rfl
@[simp] theorem State.setAcct_port (s : State) (b : Fin 2) (a : Nat) (x : Account) : (s.setAcct b a x).port = s.port := rfl
@[simp] theorem State.setAcct_time (s : State) (b : Fin 2) (a : Nat) (x : Account) : (s.setAcct b a x).time = s.time := rfl
@[simp] theorem State.setAcct_aon (s : State) (b : Fin 2) (a : Nat) (x : Account) : (s.setAcct b a x).aon = s.aon := rfl
@[simp] theorem State.setAcct_pwr (s : State) (b : Fin 2) (a : Nat) (x : Account) : (s.setAcct b a x).pwr = s.pwr := rfl
@[simp] theorem State.setAcct_sec (s : State) (b : Fin 2) (a : Nat) (x : Account) : (s.setAcct b a x).sec = s.sec := rfl
@[simp] theorem State.setAcct_gnss (s : State) (b : Fin 2) (a : Nat) (x : Account) : (s.setAcct b a x).gnss = s.gnss := rfl
@[simp] theorem State.setAcct_snap (s : State) (b : Fin 2) (a : Nat) (x : Account) : (s.setAcct b a x).snap = s.snap := rfl
@[simp] theorem State.setAcct_uart (s : State) (b : Fin 2) (a : Nat) (x : Account) : (s.setAcct b a x).uart = s.uart := rfl
@[simp] theorem State.setAcct_tap (s : State) (b : Fin 2) (a : Nat) (x : Account) : (s.setAcct b a x).tap = s.tap := rfl

/-! ### setRec -/

@[simp] theorem State.setRec_pending (s : State) (f : Nat) (r : FlockRec) : (s.setRec f r).pending = s.pending := rfl
@[simp] theorem State.setRec_outbox (s : State) (f : Nat) (r : FlockRec) : (s.setRec f r).outbox = s.outbox := rfl
@[simp] theorem State.setRec_free (s : State) (f : Nat) (r : FlockRec) : (s.setRec f r).free = s.free := rfl
@[simp] theorem State.setRec_cfg (s : State) (f : Nat) (r : FlockRec) : (s.setRec f r).cfg = s.cfg := rfl
@[simp] theorem State.setRec_ro (s : State) (f : Nat) (r : FlockRec) : (s.setRec f r).ro = s.ro := rfl
@[simp] theorem State.setRec_rev (s : State) (f : Nat) (r : FlockRec) : (s.setRec f r).rev = s.rev := rfl
@[simp] theorem State.setRec_act (s : State) (f : Nat) (r : FlockRec) : (s.setRec f r).act = s.act := rfl
@[simp] theorem State.setRec_start (s : State) (f : Nat) (r : FlockRec) : (s.setRec f r).start = s.start := rfl
@[simp] theorem State.setRec_fw (s : State) (f : Nat) (r : FlockRec) : (s.setRec f r).fw = s.fw := rfl
@[simp] theorem State.setRec_eng (s : State) (f : Nat) (r : FlockRec) : (s.setRec f r).eng = s.eng := rfl
@[simp] theorem State.setRec_arb (s : State) (f : Nat) (r : FlockRec) : (s.setRec f r).arb = s.arb := rfl
@[simp] theorem State.setRec_isl (s : State) (f : Nat) (r : FlockRec) : (s.setRec f r).isl = s.isl := rfl
@[simp] theorem State.setRec_lop (s : State) (f : Nat) (r : FlockRec) : (s.setRec f r).lop = s.lop := rfl
@[simp] theorem State.setRec_flt (s : State) (f : Nat) (r : FlockRec) : (s.setRec f r).flt = s.flt := rfl
@[simp] theorem State.setRec_rf (s : State) (f : Nat) (r : FlockRec) : (s.setRec f r).rf = s.rf := rfl
@[simp] theorem State.setRec_mesh (s : State) (f : Nat) (r : FlockRec) : (s.setRec f r).mesh = s.mesh := rfl
@[simp] theorem State.setRec_host (s : State) (f : Nat) (r : FlockRec) : (s.setRec f r).host = s.host := rfl
@[simp] theorem State.setRec_port (s : State) (f : Nat) (r : FlockRec) : (s.setRec f r).port = s.port := rfl
@[simp] theorem State.setRec_time (s : State) (f : Nat) (r : FlockRec) : (s.setRec f r).time = s.time := rfl
@[simp] theorem State.setRec_aon (s : State) (f : Nat) (r : FlockRec) : (s.setRec f r).aon = s.aon := rfl
@[simp] theorem State.setRec_pwr (s : State) (f : Nat) (r : FlockRec) : (s.setRec f r).pwr = s.pwr := rfl
@[simp] theorem State.setRec_sec (s : State) (f : Nat) (r : FlockRec) : (s.setRec f r).sec = s.sec := rfl
@[simp] theorem State.setRec_gnss (s : State) (f : Nat) (r : FlockRec) : (s.setRec f r).gnss = s.gnss := rfl
@[simp] theorem State.setRec_snap (s : State) (f : Nat) (r : FlockRec) : (s.setRec f r).snap = s.snap := rfl
@[simp] theorem State.setRec_uart (s : State) (f : Nat) (r : FlockRec) : (s.setRec f r).uart = s.uart := rfl
@[simp] theorem State.setRec_tap (s : State) (f : Nat) (r : FlockRec) : (s.setRec f r).tap = s.tap := rfl

/-! ### putTxn -/

@[simp] theorem State.putTxn_pending (s : State) (t : Txn) : (s.putTxn t).pending = s.pending := rfl
@[simp] theorem State.putTxn_outbox (s : State) (t : Txn) : (s.putTxn t).outbox = s.outbox := rfl
@[simp] theorem State.putTxn_free (s : State) (t : Txn) : (s.putTxn t).free = s.free := rfl
@[simp] theorem State.putTxn_cfg (s : State) (t : Txn) : (s.putTxn t).cfg = s.cfg := rfl
@[simp] theorem State.putTxn_ro (s : State) (t : Txn) : (s.putTxn t).ro = s.ro := rfl
@[simp] theorem State.putTxn_rev (s : State) (t : Txn) : (s.putTxn t).rev = s.rev := rfl
@[simp] theorem State.putTxn_act (s : State) (t : Txn) : (s.putTxn t).act = s.act := rfl
@[simp] theorem State.putTxn_start (s : State) (t : Txn) : (s.putTxn t).start = s.start := rfl
@[simp] theorem State.putTxn_fw (s : State) (t : Txn) : (s.putTxn t).fw = s.fw := rfl
@[simp] theorem State.putTxn_eng (s : State) (t : Txn) : (s.putTxn t).eng = s.eng := rfl
@[simp] theorem State.putTxn_arb (s : State) (t : Txn) : (s.putTxn t).arb = s.arb := rfl
@[simp] theorem State.putTxn_isl (s : State) (t : Txn) : (s.putTxn t).isl = s.isl := rfl
@[simp] theorem State.putTxn_lop (s : State) (t : Txn) : (s.putTxn t).lop = s.lop := rfl
@[simp] theorem State.putTxn_flt (s : State) (t : Txn) : (s.putTxn t).flt = s.flt := rfl
@[simp] theorem State.putTxn_rf (s : State) (t : Txn) : (s.putTxn t).rf = s.rf := rfl
@[simp] theorem State.putTxn_flock (s : State) (t : Txn) : (s.putTxn t).flock = s.flock := rfl
@[simp] theorem State.putTxn_host (s : State) (t : Txn) : (s.putTxn t).host = s.host := rfl
@[simp] theorem State.putTxn_port (s : State) (t : Txn) : (s.putTxn t).port = s.port := rfl
@[simp] theorem State.putTxn_time (s : State) (t : Txn) : (s.putTxn t).time = s.time := rfl
@[simp] theorem State.putTxn_aon (s : State) (t : Txn) : (s.putTxn t).aon = s.aon := rfl
@[simp] theorem State.putTxn_pwr (s : State) (t : Txn) : (s.putTxn t).pwr = s.pwr := rfl
@[simp] theorem State.putTxn_sec (s : State) (t : Txn) : (s.putTxn t).sec = s.sec := rfl
@[simp] theorem State.putTxn_gnss (s : State) (t : Txn) : (s.putTxn t).gnss = s.gnss := rfl
@[simp] theorem State.putTxn_snap (s : State) (t : Txn) : (s.putTxn t).snap = s.snap := rfl
@[simp] theorem State.putTxn_uart (s : State) (t : Txn) : (s.putTxn t).uart = s.uart := rfl
@[simp] theorem State.putTxn_tap (s : State) (t : Txn) : (s.putTxn t).tap = s.tap := rfl

/-! ### putReq -/

@[simp] theorem State.putReq_pending (s : State) (q : DelReq) : (s.putReq q).pending = s.pending := rfl
@[simp] theorem State.putReq_outbox (s : State) (q : DelReq) : (s.putReq q).outbox = s.outbox := rfl
@[simp] theorem State.putReq_free (s : State) (q : DelReq) : (s.putReq q).free = s.free := rfl
@[simp] theorem State.putReq_cfg (s : State) (q : DelReq) : (s.putReq q).cfg = s.cfg := rfl
@[simp] theorem State.putReq_ro (s : State) (q : DelReq) : (s.putReq q).ro = s.ro := rfl
@[simp] theorem State.putReq_rev (s : State) (q : DelReq) : (s.putReq q).rev = s.rev := rfl
@[simp] theorem State.putReq_act (s : State) (q : DelReq) : (s.putReq q).act = s.act := rfl
@[simp] theorem State.putReq_start (s : State) (q : DelReq) : (s.putReq q).start = s.start := rfl
@[simp] theorem State.putReq_fw (s : State) (q : DelReq) : (s.putReq q).fw = s.fw := rfl
@[simp] theorem State.putReq_eng (s : State) (q : DelReq) : (s.putReq q).eng = s.eng := rfl
@[simp] theorem State.putReq_arb (s : State) (q : DelReq) : (s.putReq q).arb = s.arb := rfl
@[simp] theorem State.putReq_isl (s : State) (q : DelReq) : (s.putReq q).isl = s.isl := rfl
@[simp] theorem State.putReq_lop (s : State) (q : DelReq) : (s.putReq q).lop = s.lop := rfl
@[simp] theorem State.putReq_flt (s : State) (q : DelReq) : (s.putReq q).flt = s.flt := rfl
@[simp] theorem State.putReq_rf (s : State) (q : DelReq) : (s.putReq q).rf = s.rf := rfl
@[simp] theorem State.putReq_mesh (s : State) (q : DelReq) : (s.putReq q).mesh = s.mesh := rfl
@[simp] theorem State.putReq_host (s : State) (q : DelReq) : (s.putReq q).host = s.host := rfl
@[simp] theorem State.putReq_port (s : State) (q : DelReq) : (s.putReq q).port = s.port := rfl
@[simp] theorem State.putReq_time (s : State) (q : DelReq) : (s.putReq q).time = s.time := rfl
@[simp] theorem State.putReq_aon (s : State) (q : DelReq) : (s.putReq q).aon = s.aon := rfl
@[simp] theorem State.putReq_pwr (s : State) (q : DelReq) : (s.putReq q).pwr = s.pwr := rfl
@[simp] theorem State.putReq_sec (s : State) (q : DelReq) : (s.putReq q).sec = s.sec := rfl
@[simp] theorem State.putReq_gnss (s : State) (q : DelReq) : (s.putReq q).gnss = s.gnss := rfl
@[simp] theorem State.putReq_snap (s : State) (q : DelReq) : (s.putReq q).snap = s.snap := rfl
@[simp] theorem State.putReq_uart (s : State) (q : DelReq) : (s.putReq q).uart = s.uart := rfl
@[simp] theorem State.putReq_tap (s : State) (q : DelReq) : (s.putReq q).tap = s.tap := rfl

/-! ### setNbr -/

@[simp] theorem State.setNbr_pending (s : State) (i : Fin 16) (n : Nbr) : (s.setNbr i n).pending = s.pending := rfl
@[simp] theorem State.setNbr_outbox (s : State) (i : Fin 16) (n : Nbr) : (s.setNbr i n).outbox = s.outbox := rfl
@[simp] theorem State.setNbr_free (s : State) (i : Fin 16) (n : Nbr) : (s.setNbr i n).free = s.free := rfl
@[simp] theorem State.setNbr_cfg (s : State) (i : Fin 16) (n : Nbr) : (s.setNbr i n).cfg = s.cfg := rfl
@[simp] theorem State.setNbr_ro (s : State) (i : Fin 16) (n : Nbr) : (s.setNbr i n).ro = s.ro := rfl
@[simp] theorem State.setNbr_rev (s : State) (i : Fin 16) (n : Nbr) : (s.setNbr i n).rev = s.rev := rfl
@[simp] theorem State.setNbr_act (s : State) (i : Fin 16) (n : Nbr) : (s.setNbr i n).act = s.act := rfl
@[simp] theorem State.setNbr_start (s : State) (i : Fin 16) (n : Nbr) : (s.setNbr i n).start = s.start := rfl
@[simp] theorem State.setNbr_fw (s : State) (i : Fin 16) (n : Nbr) : (s.setNbr i n).fw = s.fw := rfl
@[simp] theorem State.setNbr_eng (s : State) (i : Fin 16) (n : Nbr) : (s.setNbr i n).eng = s.eng := rfl
@[simp] theorem State.setNbr_arb (s : State) (i : Fin 16) (n : Nbr) : (s.setNbr i n).arb = s.arb := rfl
@[simp] theorem State.setNbr_isl (s : State) (i : Fin 16) (n : Nbr) : (s.setNbr i n).isl = s.isl := rfl
@[simp] theorem State.setNbr_lop (s : State) (i : Fin 16) (n : Nbr) : (s.setNbr i n).lop = s.lop := rfl
@[simp] theorem State.setNbr_flt (s : State) (i : Fin 16) (n : Nbr) : (s.setNbr i n).flt = s.flt := rfl
@[simp] theorem State.setNbr_rf (s : State) (i : Fin 16) (n : Nbr) : (s.setNbr i n).rf = s.rf := rfl
@[simp] theorem State.setNbr_flock (s : State) (i : Fin 16) (n : Nbr) : (s.setNbr i n).flock = s.flock := rfl
@[simp] theorem State.setNbr_host (s : State) (i : Fin 16) (n : Nbr) : (s.setNbr i n).host = s.host := rfl
@[simp] theorem State.setNbr_port (s : State) (i : Fin 16) (n : Nbr) : (s.setNbr i n).port = s.port := rfl
@[simp] theorem State.setNbr_time (s : State) (i : Fin 16) (n : Nbr) : (s.setNbr i n).time = s.time := rfl
@[simp] theorem State.setNbr_aon (s : State) (i : Fin 16) (n : Nbr) : (s.setNbr i n).aon = s.aon := rfl
@[simp] theorem State.setNbr_pwr (s : State) (i : Fin 16) (n : Nbr) : (s.setNbr i n).pwr = s.pwr := rfl
@[simp] theorem State.setNbr_sec (s : State) (i : Fin 16) (n : Nbr) : (s.setNbr i n).sec = s.sec := rfl
@[simp] theorem State.setNbr_gnss (s : State) (i : Fin 16) (n : Nbr) : (s.setNbr i n).gnss = s.gnss := rfl
@[simp] theorem State.setNbr_snap (s : State) (i : Fin 16) (n : Nbr) : (s.setNbr i n).snap = s.snap := rfl
@[simp] theorem State.setNbr_uart (s : State) (i : Fin 16) (n : Nbr) : (s.setNbr i n).uart = s.uart := rfl
@[simp] theorem State.setNbr_tap (s : State) (i : Fin 16) (n : Nbr) : (s.setNbr i n).tap = s.tap := rfl

/-! ### What the shared reads find after the shared writes (R43, R47, R556) -/

/-- A running-configuration value after one was entered. -/
theorem State.cfgVal_cfgPut (s : State) (i j : Nat) (v : Val) (h : s.cfg.wf = true) :
    (s.cfgPut i v).cfgVal j = if j = i then v else s.cfgVal j := by
  rw [State.cfgVal_eq, State.cfgVal_eq, State.cfgPut_cfg, storePut_find _ _ _ _ h]

/-- A reported value after one was entered. -/
theorem State.roVal_roPut (s : State) (i j : Nat) (v : Val) (h : s.ro.wf = true) :
    (s.roPut i v).roVal j = if j = i then v else s.roVal j := by
  rw [State.roVal_eq, State.roVal_eq, State.roPut_ro, storePut_find _ _ _ _ h]

/-- A revision after an accepted write: 1 more, modulo 65,536 (R43). -/
theorem State.revOf_bumpRev (s : State) (i j : Nat) (h : numsWf s.rev = true) :
    (s.bumpRev i).revOf j = if j = i then (s.revOf i + 1) % 65536 else s.revOf j := by
  have hr := ((numsWf_iff _).mp h).1
  have key : ∀ r, lookupD j 0 (if r = 0 then eraseKey i s.rev else insertKey i r s.rev) = if j = i then r else lookupD j 0 s.rev := by
    intro r
    split
    · rename_i e
      rw [lookupD_eraseKey _ _ _ _ hr, e]
    · rw [lookupD_insertKey]
  exact key _

/-- The status of an action object after it was entered (R46). -/
theorem State.actOf_setAct (s : State) (i j k : Nat) (h : numsWf s.act = true) :
    (s.setAct i k).actOf j = if j = i then k else s.actOf j := by
  have hr := ((numsWf_iff _).mp h).1
  simp only [State.setAct, State.actOf]
  split
  · rename_i e
    rw [lookupD_eraseKey _ _ _ _ hr, e]
  · rw [lookupD_insertKey]

/-- An event that is raised while SYS serves, outside the limit of its window, is logged and counted in the window (R551). -/
theorem State.raise_logged (s : State) (code inst a b : Nat) (h : s.sysUp = true) (hw : (s.windowOf code inst).logged < 16) :
    s.raise code inst a b = (s.setWindow { s.windowOf code inst with logged := (s.windowOf code inst).logged + 1 }).logEntry
      code inst 0 (ts96 s.mono) a b := by
  unfold State.raise State.raiseF
  rw [if_neg (by simp [h])]
  exact if_neg fun k => absurd k.1 (by omega)

/-! ### Paths, domains, sessions, settlement -/

/-- A path after one was put: the instant since which it is deaf is kept by the state (R126). -/
@[simp] theorem State.path_putPath (s : State) (p q : Fin 6) (x : Path) : (s.putPath p x).path q
    = if p = q then { x with deafAt := if x.deaf && !(s.path p).deaf then s.air else x.deafAt } else s.path q := by
  simp only [State.path, State.putPath, Fin.getElem_fin, Vector.getElem_set, Fin.ext_iff]

@[simp] theorem State.dom_putDom (s : State) (d e : Fin 18) (x : Domain) : (s.putDom d x).dom e = if d = e then x else s.dom e := by
  simp only [State.dom, State.putDom, Fin.getElem_fin, Vector.getElem_set, Fin.ext_iff]

/-- With no command ended, no removal that waits and no request held, a step settles nothing. -/
theorem State.settled_idle (s : State) (h : s.rf.ended = []) (hl : ∀ x ∈ s.flock.recs, x.2.link.leave = none) (hr : s.flock.reqs = []) :
    s.settled = s := by
  have e : s.settleEnded 64 = s := by
    unfold State.settleEnded
    rw [h]
  have k : s.removals = s := by
    have : s.flock.recs.filter (fun x => x.2.link.leave.isSome) = [] := by
      rw [List.filter_eq_nil_iff]
      intro x hx
      rw [hl x hx]
      decide
    rw [State.removals, this, List.foldl_nil]
  rw [State.settled, e, k, State.promoted, hr, List.foldl_nil]

/-- A response without a session goes out as it is. -/
theorem State.send_bare (s : State) (r : Resp) (keep : Bool) (h : s.session r.session = none) : s.send r keep = s.sendOut r := by
  unfold State.send
  rw [h]

/-- A write issued to an island other than AON is in flight at once (R26). -/
theorem State.issueTo_flies (s : State) (w : Inflight) (h : w.island ≠ 9) :
    s.issueTo w = s.modIsl fun i => { i with inflight := i.inflight ++ [w] } := if_neg fun k => h k.1

end Sys2Proof.Machine
end

