-- ==== Sys2Proof/Machine/Balls.lean ====
section
/-!
DEFINITION. What the digital output balls show: a view of the state (18_signals_and_balls.md R559 to R561, R564, R570 to R572,
13_power_domains.md R446, Table PW-3). Supplies are taken as present.
-/

namespace Sys2Proof.Machine

/-- The output balls of Tables SG-3 to SG-8 whose level a rule gives: PA_EN_x, PA_G[k]_x, TR_x and LNA_BYP_x of a path; TP0 and TP1; TX, DE
and RTS_N of the UARTs; the flash and memory controls; SEAL_A; the serial lanes of PCIe and Ethernet. -/
inductive Ball where
  | paEn (p : Fin 6)
  | paG (p : Fin 6) (k : Fin 3)
  | tr (p : Fin 6)
  | lnaByp (p : Fin 6)
  | tp (n : Fin 2)
  | tx (n : Fin 4)
  | de (n : Fin 2)
  | rtsN (n : Fin 2)
  | ospiResetN
  | ospiCsN
  | ddrCke
  | ddrResetN
  | sealA
  | pcieTx
  | ethTx (e : Fin 2)
deriving DecidableEq, Repr

/-- What a ball shows: driven low or high, not driven with its pull up or down, electrical idle, or what a rule leaves to its unit (the AGC, a
character, a bit pattern, a memory or serial lane access). -/
inductive Level where
  | low | high | pullUp | pullDown | idle | unit
deriving DecidableEq, Repr

def Level.ofBool (b : Bool) : Level := if b then .high else .low

/-- Tables SG-3 to SG-8: the reset state. -/
def Ball.resetLevel (s : State) : Ball → Level
  | .paEn _ => .pullDown
  | .paG _ _ => .pullDown
  | .tr _ => .pullDown
  | .lnaByp _ => .pullDown
  | .tp _ => .pullDown
  | .tx n => if n = 0 then .high else .pullUp
  | .de n => if n = 0 then .low else .pullDown
  | .rtsN _ => .pullUp
  | .ospiResetN => .low
  | .ospiCsN => .pullUp
  | .ddrCke => .low
  | .ddrResetN => .low
  | .sealA => if (s.cfgN Obj.SEC_TAMPER_ENABLE).testBit 0 then .unit else .low
  | .pcieTx => .idle
  | .ethTx _ => .idle

/-- The inactive level of a time pulse by its polarity (R394). -/
def State.tpIdle (s : State) (n : Fin 2) : Bool := s.cfgN Obj.TP_POLARITY n == 1

/-- A path's controls: its pins, with the LNA bypass under AGC control outside a transmission (Table RF-6), or the clamps. -/
def Pins.level (x : Pins) : Ball → Level
  | .paEn _ => Level.ofBool x.paEn
  | .paG _ k => Level.ofBool (x.paGain.testBit k)
  | .tr _ => Level.ofBool x.trHigh
  | _ => match x.lnaHigh with | some b => Level.ofBool b | none => .unit

/-- A transmit line: mark while nothing is sent, the AON region's mark on TX0 while SYS is not on (R539, R571, Table PW-3). -/
def State.txLevel (s : State) (n : Fin 4) : Level :=
  if s.domServes 1 && s.uart.port[n].sending.isSome then .unit else .high

/-- The level of a ball: its reset state during a reset of core scope, the clamp of its domain, or what its function drives (R559 to R561). -/
def State.ball (s : State) (b : Ball) : Level :=
  if s.start.inReset then b.resetLevel s
  else match b with
    | .paEn p => (s.pins p).level b
    | .paG p _ => (s.pins p).level b
    | .tr p => (s.pins p).level b
    | .lnaByp p => (s.pins p).level b
    | .tp n => Level.ofBool (s.tpIdle n != (s.domServes 17 && s.time.pulse[n].active))
    | .tx n => s.txLevel n
    | .de n => Level.ofBool (s.domServes 1 && s.deNow ⟨n, by omega⟩)
    | .rtsN n => Level.ofBool (! (s.domServes 1 && s.uart.port[(⟨n.val + 2, by omega⟩ : Fin 4)].rts))
    | .ospiResetN => Level.ofBool (decide (s.start.releasedAt + 10 * usHalfNs ≤ s.mono))
    | .ospiCsN => if s.domServes 3 then .unit else .high
    | .ddrCke => if s.domServes 3 && s.port.ddr == 2 then .unit else .low
    | .ddrResetN => Level.ofBool ((s.dom 3).st != 0)
    | .sealA => b.resetLevel s
    | .pcieTx => if s.domServes 4 then .unit else .idle
    | .ethTx e => if s.ethOn e then .unit else .idle

end Sys2Proof.Machine
end

