-- ==== Sys2Proof/WellFormed.lean ====
section
/-!
DEFINITION. Operands that can come from outside: the widths of the fields that a frame or a register access carries.
-/

namespace Sys2Proof

/-- A transport of Table OD-7; a UDP source's address and port fit. -/
def Via.fits (v : Via) : Bool :=
  decide (v.transport < 5) && decide (v.addr < 2 ^ (if v.v6 then 128 else 32)) && decide (v.port < 2 ^ 16)

/-- The fields of an authenticated LOP2 frame fit their widths (R51, Table OD-4). -/
def SecFrame.fits (f : SecFrame) : Bool :=
  decide (f.session < 2 ^ 32) && decide (f.seq < 2 ^ 64) && decide (f.cipher.length < 2 ^ 16) && decide (f.tag.length = 16)

/-- The fields of a LOP1 frame fit their widths (R72). -/
def lop1Fits (index status : Nat) (value : Bytes) (crc : Nat) : Bool :=
  decide (index < 2 ^ 16) && decide (status < 2 ^ 8) && decide (value.length ≤ 240) && decide (crc < 2 ^ 16)

/-- A ring descriptor of format 1 or 2 (R505, R507). -/
def descFits (d : Bytes) : Bool := decide (d.length = 64) || decide (d.length = 32)

/-- The command's operands fit the fields that carry them. -/
def Instr.wellFormed : Instr → Bool
  | .requestPromotion region _ cls => decide (1 ≤ region) && decide (region ≤ 15) && decide (cls ≤ 4)
  | .errorDetected region _ _ level _ => decide (1 ≤ region) && decide (region ≤ 15) && decide (level ≤ 3)
  | .containmentEscalation _ _ => true
  | .engineWatchdogExpiry _ => true
  | .supWatchdogExpiry => true
  | .engineRestartDone _ => true
  | .islandWriteComplete _ => true
  | .aonWriteAdmitted => true
  | .fence _ => true
  | .bar0FenceRead => true
  | .read v f => v.fits && f.fits
  | .write v f => v.fits && f.fits
  | .info v f => v.fits && f.fits
  | .openSession v session seq p => v.fits && decide (session < 2 ^ 32) && decide (seq < 2 ^ 64) && decide (p.length < 2 ^ 16)
  | .auth v f => v.fits && f.fits
  | .close v f => v.fits && f.fits
  | .pendingSessionTimeout _ => true
  | .sessionIdleExpiry _ => true
  | .requestWaitTimeout _ => true
  | .lop1Read v index status value crc => v.fits && lop1Fits index status value crc
  | .lop1Write v index status value crc => v.fits && lop1Fits index status value crc
  | .mbxDoorbell length area => decide (length < 2 ^ 32) && decide (area.length ≤ 4096)
  | .lorefUdpDatagram _ v6 _ addr source port _ =>
    decide (addr < 2 ^ (if v6 then 128 else 32)) && decide (source < 2 ^ 16) && decide (port < 2 ^ 16)
  | .rs485Transfer _ chars => chars.all fun x => decide (x < 512)
  | .rs485GapTimeout _ => true
  | .profileApply _ => true
  | .profileCommit _ => true
  | .profileSave _ => true
  | .profileStoreDone _ => true
  | .profileStage _ _ => true
  | .profileStageClear => true
  | .profileBootOverride _ => true
  | .sessionEnd _ => true
  | .aonPowerOn _ => true
  | .corePowerOn => true
  | .coreBrownOut => true
  | .pinReset _ => true
  | .pcieReset => true
  | .chipReset _ => true
  | .thermalReset => true
  | .thermalResetRelease => true
  | .supFailureReset => true
  | .trialTimeout => true
  | .startupSequence _ _ _ => true
  | .refQualificationEnd _ _ _ => true
  | .ddrTrainingAttemptEnd _ _ _ => true
  | .startDone => true
  | .clockRetry _ => true
  | .pcieConfigRequest _ _ => true
  | .fwStageBegin _ => true
  | .fwStage _ _ => true
  | .fwVerify _ => true
  | .fwActivate _ => true
  | .fwConfirm _ => true
  | .rollbackAdvance _ _ => true
  | .flashActionDone _ _ => true
  | .txCommand _ _ => true
  | .txAbort _ _ => true
  | .rxOn _ => true
  | .rxOff _ => true
  | .tune _ _ _ => true
  | .calRequest _ _ => true
  | .txDue _ => true
  | .txDeadline _ _ => true
  | .txSetupStart _ _ => true
  | .txStart _ => true
  | .txEnd _ => true
  | .turnRxEnd _ => true
  | .lockAchieved _ => true
  | .lockTimeout _ => true
  | .synthLockLoss _ => true
  | .calStepEnd _ _ _ _ _ => true
  | .txTimeout _ => true
  | .rfTxRearm _ _ => true
  | .dieTempMeasurement _ => true
  | .regLockProgram _ => true
  | .frameReceived _ => true
  | .legacyFrameReceived _ => true
  | .superframeEdge => true
  | .nbrBeaconWindowEnd _ _ => true
  | .nbrSupervisionExpiry _ _ => true
  | .neighbourBeacon => true
  | .listenWindowEnd _ _ => true
  | .assocReq => true
  | .disassoc => true
  | .chmapAck => true
  | .hostDataFrame => true
  | .keepAlive => true
  | .alertResponse => true
  | .ackReceived => true
  | .replyWindowEnd _ => true
  | .linkSupervisionTimeout _ => true
  | .linkRemove _ => true
  | .meshChmapWrite _ _ _ => true
  | .txnBooking _ => true
  | .txnDeadline _ => true
  | .linkTxnCancel _ => true
  | .dutyBucketRoll _ => true
  | .flockCfgWrite _ _ => true
  | .flockRestore _ _ => true
  | .flockPrefetch => true
  | .flockFetchDone _ => true
  | .flockFetchLate _ => true
  | .flockKeyWrap _ => true
  | .delivery d x _ => descFits d && decide (x.length ≤ 1064)
  | .heldRequestDeadline _ => true
  | .chorusAttempt _ => true
  | .flImageBegin _ => true
  | .flImageStage _ _ => true
  | .flImageVerify _ => true
  | .flCampaignStart _ => true
  | .flCampaignStop _ => true
  | .campaignBlock _ => true
  | .gnEnableWrite _ => true
  | .grfCalItemEnd _ _ _ => true
  | .agcUpdate _ _ => true
  | .antBiasMeasurement _ => true
  | .antRetryExpiry => true
  | .notchEvaluation _ _ _ => true
  | .blankIntervalEnd _ _ => true
  | .jamIndicatorUpdate _ _ => true
  | .nimbusInterval => true
  | .acqJobDone _ _ _ _ _ => true
  | .nimbAutoOff => true
  | .channelRelease _ => true
  | .reacqExpiry _ _ => true
  | .loopOpenTimeout _ => true
  | .ephemerisDecoded _ => true
  | .measurementEpoch a => decide (a.tests.length = 4)
  | .hotstartSave => true
  | .snapshotFragment _ => true
  | .fragTimeout _ => true
  | .nimbusJobStart => true
  | .snapshotDeadline => true
  | .nimbusJobDone => true
  | .snapshotSolution _ a => decide (a.tests.length = 4)
  | .snEnableWrite _ => true
  | .ptpSync _ _ _ => true
  | .ptpAnnounce _ _ => true
  | .ptpDelayReq _ _ _ _ => true
  | .ptpDelayResp _ _ => true
  | .ptpMessageTransmit _ => true
  | .announceReceiptTimeout _ => true
  | .stepPendingEnd _ => true
  | .pcsLatencyMeasured _ _ _ => true
  | .bellwetherTick => true
  | .sourceDisqualified => true
  | .tbGnssStep => true
  | .steppedClear => true
  | .tmHostTime _ => true
  | .tmAcceptStep _ => true
  | .tmCvPeer _ => true
  | .timePulseEdge _ => true
  | .timePulseEnd _ => true
  | .timeAnchorWrite _ => true
  | .tsCapture _ => true
  | .slowClockLoss => true
  | .slowClockReturn => true
  | .slowClockStartTimeout => true
  | .calendarSecond => true
  | .autotrimMeasurement _ => true
  | .supplySwitch _ _ => true
  | .holdupExpiry => true
  | .vbatMeasurement _ => true
  | .rtcSet _ => true
  | .rtcSetDate w => decide (w < 2 ^ 32)
  | .rtcHalt _ => true
  | .rtcCtrl w => decide (w < 2 ^ 32)
  | .rtcAlarm _ => true
  | .rtcAlarmEnable _ => true
  | .rtcAlarmDate w => decide (w < 2 ^ 32)
  | .rtcSubsecRead => true
  | .rtcTickHiRead => true
  | .shadowExpired => true
  | .rtcSyncWrite => true
  | .paddockClear _ => true
  | .pwTarget _ _ => true
  | .quiesceEnd _ _ => true
  | .quiesceTimeout _ => true
  | .saveStepStart => true
  | .switchStepStart => true
  | .entryConfirm _ => true
  | .entryConfirmTimeout _ => true
  | .domainExit _ _ => true
  | .exitConfirmTimeout _ => true
  | .wakeEvent src => decide (src < 8)
  | .referenceLoss => true
  | .keyDerivationDone => true
  | .drbgReseed => true
  | .entropyTestFail => true
  | .secRootLoad _ _ _ => true
  | .rootStoreWriteDone _ => true
  | .secRootErase _ => true
  | .secNextKeyWrap _ => true
  | .secDistrictSwitch _ => true
  | .sealLoopBit _ => true
  | .tamperAlarm bit => decide (bit < 7)
  | .secZeroise _ => true
  | .secTamperClear _ => true
  | .secAttestRequest _ => true
  | .attestReportReady => true
  | .presencePress _ _ => true
  | .presStuck => true
  | .presenceWindowExpiry => true
  | .secPresClose => true
  | .irqStatusWrite m => decide (m < 2 ^ 32)
  | .ringDoorbell _ _ v => decide (v < 2 ^ 32)
  | .ringCfgWrite _ _ _ => true
  | .legacyTx d x _ => descFits d && decide (x.length ≤ 255)
  | .buffer d _ => descFits d
  | .ringModerationTimeout _ => true
  | .ethLinkChange _ _ => true
  | .ethFrame _ _ => true
  | .scrubPass _ _ => true
  | .flashOperationDone _ _ _ _ => true
  | .archivePageWrite _ => true
  | .summarySecondEnd => true
  | .faultRelease _ => true
  | .faultClear _ => true
  | .uartCharacter _ _ _ => true
  | .uartBreak _ => true
  | .uartStuck _ => true
  | .uartLineOk _ => true
  | .uartRxIdle _ => true
  | .uartRxData _ _ _ => true
  | .uartTxData _ _ => true
  | .deTailExpiry _ => true
  | .bar0RegisterWrite offset width v => decide (offset < 2 ^ 16) && [1, 2, 4, 8].contains width && decide (v < 2 ^ (8 * width))
  | .dwellBucketRoll _ _ => true
  | .offsetHistoryEntry => true
  | .coherentIntervalEnd _ _ _ _ _ => true
  | .catchUpSecond => true
  | .saveStepEnd => true
  | .tamperSourceInactive bit => decide (bit < 7)
  | .entropyRecovery => true
  | .perstNDeassertion => true
  | .ctsNChange _ _ => true
  | .uartCharacterSent _ => true
  | .testAccessPortInstruction _ _ => true

end Sys2Proof
end

