-- ==== Sys2Proof/Tests/Slice0.lean ====
section
/-!
SUPPORT. Tests: results of single commands worked out by hand from the spec's rules and tables, ill-formed commands that the check refuses,
and, for each statement of Certificates/Slice0/Obligations.lean, states and operands that meet the hypotheses of its clauses together.
-/

open Sys2Proof Sys2Proof.Machine

namespace Sys2Proof.Tests

set_option Elab.async false

/-! ### States -/

/-- The block after start-up: every domain on, every engine running, the time bases counting. -/
def up : State :=
  let s := State.reset
  { s with
    eng := Vector.replicate 8 { Engine.reset with st := 1 }
    start := { s.start with inReset := false, st := 4, cfgServed := true, clock := 1 }
    pwr := { s.pwr with dom := Vector.replicate 18 (Domain.reset 2) }
    time := { s.time with counting := true } }

/-- The state that a command leaves. -/
def after (c : Instr) (s : State) : State :=
  match exec c s with
  | .next t => t
  | _ => s

/-- A setting of one element at a value. -/
def cfgd (i : Nat) (v : Int) : State := up.cfgPut i (scalar v)

/-- Path 0 changed. -/
def pth (f : Path → Path) : State := up.modPath 0 f

/-- A session whose proof has come, and the block with one session. -/
def sess : Session := ⟨7, 1, 0, 0, true, 0, 0, 1, 1, 0, 3, 4, 12, []⟩
def inSess (x : Session) : State := up.modLop fun l => { l with sessions := [x] }

/-- A frame of a session under its key. -/
def frameOf (x : Session) (op : Nat) (p : Bytes) : SecFrame :=
  let h := lop2Head op p.length x.id (x.rxSeq + 1)
  let c := gcmCrypt (up.sessKey x) (h.drop 4) p
  ⟨x.id, x.rxSeq + 1, c, gcmTag (up.sessKey x) (h.drop 4) h c⟩

/-- The mailbox, and a write in flight to AON. -/
def mbx : Via := ⟨0, false, 0, 0⟩
def aonWrite : Inflight := ⟨0, 9, 0x2014, 0, 1, [[0]], none, [], 0⟩

/-- Some writes in flight to AON. -/
def writing (n : Nat) : State := up.modIsl fun i => { i with inflight := List.replicate n aonWrite }


/-! ### Values worked out in the spec, and standard check values -/

/-- Worked example SC-1: the twelve octets of TB_NOW decode to 1,782,520,864.500 000 000 5 s (R5, R6). -/
theorem test_ts96_decodes :
    let x := leNat [0x00, 0x80, 0x00, 0x65, 0xCD, 0x1D, 0x20, 0x1C, 0x3F, 0x6A, 0x00, 0x00]
    ts96Half x = 1782520864500000000 * 2 + 1 ∧ ts96Valid x = true ∧ ts96 (ts96Half x) = x := by decide +kernel

/-- Worked example OD-1: the header of the request and of the response, whose SEQ 49 carries bit 63. -/
theorem test_lop2_head :
    lop2Head 0x02 24 0x0A13 42 = [2, 2, 0x18, 0, 0x13, 0x0A, 0, 0, 0x2A, 0, 0, 0, 0, 0, 0, 0]
    ∧ lop2Head 0x82 12 0x0A13 (49 + 2 ^ 63) = [2, 0x82, 0x0C, 0, 0x13, 0x0A, 0, 0, 0x31, 0, 0, 0, 0, 0, 0, 0x80] := by decide +kernel

/-- CRC-32C and CRC-16/CCITT of the nine digits, their published check values. -/
theorem test_crc_check_values :
    crc32c ((List.range 9).map fun i => BitVec.ofNat 8 (0x31 + i)) = 0xE3069283
    ∧ crc16 ((List.range 9).map fun i => BitVec.ofNat 8 (0x31 + i)) = 0x29B1 := by decide +kernel

/-- The AES-256 example of FIPS 197, appendix C.3. -/
theorem test_aes256_example :
    aes ((List.range 32).map fun i => BitVec.ofNat 8 i) ((List.range 16).map fun i => BitVec.ofNat 8 (0x11 * i))
      = [0x8E, 0xA2, 0xB7, 0xCA, 0x51, 0x67, 0x45, 0xBF, 0xEA, 0xFC, 0x49, 0x90, 0x4B, 0x49, 0x60, 0x89] := by decide +kernel

/-- SHA3-512 of the empty message begins A6 9F 73 CC (FIPS 202). -/
theorem test_sha3_empty : (natLe 64 (sha3 [])).take 8 = [0xA6, 0x9F, 0x73, 0xCC, 0xA2, 0x3A, 0x9A, 0xC5] := by decide +kernel

/-- Worked example SE-1: the input of the link key's derivation. -/
theorem test_link_key_input : kdfInput 1 0 [0x0A1F4C000003A2C1, 1]
    = [0, 0, 0, 1, 0x5A, 0x4E, 0x2D, 0x4C, 0x49, 0x4E, 0x4B, 0, 0xC1, 0xA2, 3, 0, 0, 0x4C, 0x1F, 0x0A, 1, 0, 0, 0, 0, 0, 0, 0x80] := by
  decide +kernel

/-- Worked example PH-1: the nonce of a district unlock. -/
theorem test_district_nonce : nonceOctets none 0xF00008 0x1F3C07A2 0x1A2B 0x4E
    = [0x08, 0x00, 0xF0, 0xA2, 0x07, 0x3C, 0x1F, 0x00, 0x2B, 0x1A, 0x00, 0x00, 0x06] := by decide +kernel

/-- Worked examples PH-1 and LK-1: T_SHR 800 µs; 53 octets end at 5,200 µs and 45 octets at 4,560 µs in mode 0x02. -/
theorem test_air_times : tShr 2 8 = 800 * 2000 ∧ airTime 2 53 8 false = 5200 * 2000 ∧ airTime 2 45 8 false = 4560 * 2000 := by decide +kernel

/-- Worked examples SF-1 and LK-1: the channels of a link at offset 9 under seed 469 over the 35 channels of Europe. -/
theorem test_hops : hopChannel (2 ^ 35 - 1) 0 469 33537779841 9 = 29 ∧ hopChannel (2 ^ 35 - 1) 0 469 33537779873 9 = 26
    ∧ hopChannel (2 ^ 35 - 1) 0 469 33537779905 9 = 23 := by decide +kernel

/-- Worked example SF-2: the guard time, the TIMING field and the learned bound of a parking tag. -/
theorem test_guard_and_bound : guardUs 540 1801600000000 = 5073 ∧ toTiming 6200000 = 6200 ∧ learnBound 320 6200000 1801600000000 10 32 = 309 := by
  decide +kernel

/-- Worked example SN-1: 11 satellites of a 2 ms capture take 249.6 µs of Nimbus. -/
theorem test_job_time : jobTime false 11 = 499296 ∧ (499296 + 1000) / 2000 = 250 := by decide +kernel

/-- Worked example GN-2: which ephemerides are current at 04:28 (in seconds of the day). -/
theorem test_ephemerides_current :
    let at_ := 4 * 3600 + 28 * 60
    ephCurrent at_ ⟨0, 12, 4 * 3600, 0, true, 0⟩ = true ∧ ephCurrent at_ ⟨0, 5, 2 * 3600, 0, true, 0⟩ = false
    ∧ ephCurrent at_ ⟨1, 3, 110 * 60, 0, true, 0⟩ = true ∧ ephCurrent at_ ⟨1, 26, 100 * 60, 0, true, 0⟩ = true
    ∧ ephCurrent at_ ⟨3, 23, 2 * 3600, 0, true, 0⟩ = false ∧ ephCurrent at_ ⟨2, 7, 105 * 60, 0, true, 0⟩ = false := by decide +kernel

/-- R98: 260 edges ± 4 % at 26 MHz, 100 edges ± 4 % at 10 MHz. -/
theorem test_reference_windows : windowPasses 0 250 = true ∧ windowPasses 0 249 = false ∧ windowPasses 0 270 = true ∧ windowPasses 0 271 = false
    ∧ windowPasses 1 96 = true ∧ windowPasses 1 105 = false := by decide +kernel

/-- R235: TOP follows a higher counter, SEEN keeps 64 of them. -/
theorem test_replay_window : replayCheck true 100 1 36 = .replay ∧ replayCheck true 100 1 100 = .duplicate ∧ replayCheck true 100 1 37 = .fresh
    ∧ replayNext true 100 1 102 = (102, 5) ∧ replayNext true 100 1 98 = (100, 5) := by decide +kernel

/-- R416: 29 February follows 28 February of a leap year, and a year ends in January. -/
theorem test_calendar_procedure : (⟨59, 59, 23, 3, 28, 2, 24⟩ : Cal).next = ⟨0, 0, 0, 4, 29, 2, 24⟩
    ∧ (⟨59, 59, 23, 6, 31, 12, 25⟩ : Cal).next = ⟨0, 0, 0, 0, 1, 1, 26⟩ := by decide +kernel

/-! ### Single commands -/

/-- R12: a request of class 2 that has waited through 64 grants waits on in class 1, and the region counts it. -/
theorem test_promotion_raises_one_class : ((after (.requestPromotion 3 7 2) up).arb[(2 : Fin 15)]).waiting = [⟨7, 1, 0⟩]
    ∧ ((after (.requestPromotion 3 7 2) up).arb[(3 : Fin 15)]).waiting = [] := by
  decide +kernel

/-- R484: two mismatched bits make an alarm, one does not. -/
theorem test_seal_loop : (after (.sealLoopBit false) up).sec.active = 0
    ∧ (after (.sealLoopBit false) (after (.sealLoopBit false) (cfgd Obj.SEC_TAMPER_ENABLE 1))).sec.active = 1 := by decide +kernel

/-- R482: zeroisation empties every root and raises its generation. -/
theorem test_zeroise : (after (.secZeroise 1) (up.modSec fun x => { x with slot := x.slot.set 0 ⟨1, 4, 77⟩ })).sec.slot[(0 : Fin 64)] = ⟨0, 5, 0⟩ := by
  decide +kernel

/-- R433: COREA does not turn off while a domain above it stays on; NIMB, which has no dependent, does. -/
theorem test_targets : (after (.pwTarget 1 0) up).dom 1 = up.dom 1 ∧ ((after (.pwTarget 16 0) up).dom 16).st = 3 := by decide +kernel

/-- R412, R416: the calendar moves by one second. -/
theorem test_calendar_second :
    (after .calendarSecond (up.modAon fun a => { a with pres := 32768 })).aon.cal = ⟨1, 0, 0, 0, 1, 1, 0⟩ := by
  decide +kernel

/-- R304: a bias current above GN_ANT_SHORT_MA opens the switch. -/
theorem test_antenna_short :
    let s := after (.antBiasMeasurement 60000) (cfgd Obj.GN_ANT_BIAS_ENABLE 1)
    s.gnss.antOpen = true ∧ s.gnss.ant = 4 ∧ s.gnss.antCurrent = 60000 := by decide +kernel

/-- R303: the gain of a band stays within 0 to 60 dB. -/
theorem test_agc_bounds :
    let s := after (.agcUpdate 700 (-5)) up
    s.gnss.band[(0 : Fin 2)].gain = 600 ∧ s.gnss.band[(1 : Fin 2)].gain = 0 := by decide +kernel

/-- R6, R383: host time with nanoseconds above 999,999,999 is not taken. -/
theorem test_host_time : (after (.tmHostTime (1000000000 * 2 ^ 16)) up).time.src[(3 : Fin 4)].present = false
    ∧ (after (.tmHostTime (5 * 2 ^ 48)) up).time.src[(3 : Fin 4)].sample = 5 * secHalfNs := by decide +kernel

/-- R361: SN_ENABLE takes 1 while NIMB and NAV are on, and raises its revision. -/
theorem test_sn_enable : (after (.snEnableWrite 1) up).cfgN Obj.SN_ENABLE = 1 ∧ (after (.snEnableWrite 1) up).revOf Obj.SN_ENABLE = 1
    ∧ (after (.snEnableWrite 2) up).cfgN Obj.SN_ENABLE = 0 := by decide +kernel

/-! ### Ill-formed commands are refused -/

theorem refuses_foreign_regions : (Instr.requestPromotion 0 0 2).wellFormed = false ∧ (Instr.requestPromotion 16 0 2).wellFormed = false
    ∧ (Instr.requestPromotion 1 0 5).wellFormed = false ∧ (Instr.errorDetected 0 0 0 0 true).wellFormed = false
    ∧ (Instr.errorDetected 16 0 0 0 true).wellFormed = false ∧ (Instr.errorDetected 1 0 0 4 true).wellFormed = false := by decide

theorem refuses_foreign_transports : (⟨5, false, 0, 0⟩ : Via).fits = false ∧ (⟨1, false, 2 ^ 32, 0⟩ : Via).fits = false
    ∧ (⟨1, true, 2 ^ 128, 0⟩ : Via).fits = false ∧ (⟨1, true, 2 ^ 32, 2 ^ 16⟩ : Via).fits = false
    ∧ (⟨1, true, 2 ^ 32, 0⟩ : Via).fits = true := by decide

theorem refuses_wide_frames : (⟨2 ^ 32, 0, [], List.replicate 16 0⟩ : SecFrame).fits = false
  ∧ (⟨0, 2 ^ 64, [], List.replicate 16 0⟩ : SecFrame).fits = false
    ∧ (⟨0, 0, [], []⟩ : SecFrame).fits = false := by decide +kernel

theorem refuses_long_payloads : (⟨0, 0, List.replicate 65536 0, List.replicate 16 0⟩ : SecFrame).fits = false
    ∧ (Instr.openSession mbx 0 0 (List.replicate 65536 0)).wellFormed = false := by simp [-List.reduceReplicate, SecFrame.fits, Instr.wellFormed]

theorem refuses_requests_by_frame :
    let f : SecFrame := ⟨0, 0, [], []⟩
    let g : SecFrame := ⟨0, 0, [], List.replicate 16 0⟩
    let v : Via := ⟨5, false, 0, 0⟩
    (Instr.read mbx f).wellFormed = false ∧ (Instr.read v g).wellFormed = false ∧ (Instr.write mbx f).wellFormed = false
    ∧ (Instr.write v g).wellFormed = false ∧ (Instr.info mbx f).wellFormed = false ∧ (Instr.info v g).wellFormed = false
    ∧ (Instr.auth mbx f).wellFormed = false ∧ (Instr.auth v g).wellFormed = false ∧ (Instr.close mbx f).wellFormed = false
    ∧ (Instr.close v g).wellFormed = false ∧ (Instr.read mbx g).wellFormed = true := by decide

theorem refuses_wide_opens : (Instr.openSession ⟨5, false, 0, 0⟩ 0 0 []).wellFormed = false ∧ (Instr.openSession mbx (2 ^ 32) 0 []).wellFormed = false
    ∧ (Instr.openSession mbx 0 (2 ^ 64) []).wellFormed = false := by decide +kernel

theorem refuses_wide_lop1 :
    (Instr.lop1Read ⟨5, false, 0, 0⟩ 0 0 [] 0).wellFormed = false ∧ (Instr.lop1Read mbx 65536 0 [] 0).wellFormed = false
    ∧ (Instr.lop1Read mbx 0 256 [] 0).wellFormed = false ∧ (Instr.lop1Read mbx 0 0 (List.replicate 241 0) 0).wellFormed = false
    ∧ (Instr.lop1Write mbx 0 0 [] 65536).wellFormed = false ∧ (Instr.lop1Write ⟨5, false, 0, 0⟩ 0 0 [] 0).wellFormed = false := by decide +kernel

theorem refuses_wide_transports : (Instr.mbxDoorbell (2 ^ 32) []).wellFormed = false
  ∧ (Instr.mbxDoorbell 0 (List.replicate 4097 0)).wellFormed = false
    ∧ (Instr.lorefUdpDatagram 0 false false (2 ^ 32) 0 0 []).wellFormed = false
    ∧ (Instr.lorefUdpDatagram 0 true false (2 ^ 128) 0 0 []).wellFormed = false
    ∧ (Instr.lorefUdpDatagram 0 false false 0 65536 0 []).wellFormed = false ∧ (Instr.lorefUdpDatagram 0 false false 0 0 65536 []).wellFormed = false
    ∧ (Instr.rs485Transfer 0 [512]).wellFormed = false := by decide +kernel

theorem refuses_descriptors_of_no_format : (Instr.delivery [] [] true).wellFormed = false
    ∧ (Instr.delivery (List.replicate 64 0) (List.replicate 1065 0) true).wellFormed = false ∧ (Instr.legacyTx [] [] true).wellFormed = false
    ∧ (Instr.legacyTx (List.replicate 32 0) (List.replicate 256 0) true).wellFormed = false
    ∧ (Instr.buffer [] 0).wellFormed = false := by decide +kernel

theorem refuses_missing_tests : (Instr.measurementEpoch ⟨[], [], 0, 0, [], [], 0, 0, 0, 0, [], [], 0, false, 0, false, 0, 0, 0⟩).wellFormed = false
    ∧ (Instr.snapshotSolution 0 ⟨true, [], [], 0, 0, 0, 0, 0, 0, []⟩).wellFormed = false := by decide

theorem refuses_wide_registers : (Instr.rtcSetDate (2 ^ 32)).wellFormed = false ∧ (Instr.rtcCtrl (2 ^ 32)).wellFormed = false
    ∧ (Instr.rtcAlarmDate (2 ^ 32)).wellFormed = false ∧ (Instr.irqStatusWrite (2 ^ 32)).wellFormed = false
    ∧ (Instr.ringDoorbell 0 true (2 ^ 32)).wellFormed = false ∧ (Instr.bar0RegisterWrite 65536 4 0).wellFormed = false
    ∧ (Instr.bar0RegisterWrite 0 3 0).wellFormed = false ∧ (Instr.bar0RegisterWrite 0 4 (2 ^ 32)).wellFormed = false := by decide

theorem refuses_foreign_sources : (Instr.wakeEvent 8).wellFormed = false ∧ (Instr.tamperAlarm 7).wellFormed = false
    ∧ (Instr.tamperSourceInactive 7).wellFormed = false := by decide

/-! ### Hypotheses that are met -/


/-- The hypotheses of `StepRunsTheFront` can be met. -/
theorem meets_StepRunsTheFront :
    ({ up with pending := [.corePowerOn] } : State).pending = [.corePowerOn] := by
  decide +kernel

/-- The hypotheses of `EmptyQueueTicks` can be met. -/
theorem meets_EmptyQueueTicks :
    (up.pending = [])
    ∧ (up.time.counting = true)
    ∧ (State.reset.time.counting = false)
    ∧ ((∀ p : Fin 6, (up.path p).cal = none ∧ (up.path p).calQueue = [] ∧ (up.path p).tempQueue = []))
    ∧ ((∀ i : Fin 15, (up.arb[i]).waiting = []) ∧ (∀ d : Fin 18, (up.dom d).release = false) ∧ up.uart.woken = false) := by
  decide +kernel

/-- The hypotheses of `ArbitersGrantByClass` can be met. -/
theorem meets_ArbitersGrantByClass :
    ((⟨[⟨9, 3, 0⟩, ⟨4, 1, 2⟩, ⟨5, 1, 0⟩], Vector.replicate 5 0⟩ : Arbiter).next = some ⟨4, 1, 2⟩)
    ∧ ((⟨[⟨4, 1, 2⟩, ⟨5, 1, 0⟩], Vector.replicate 5 4⟩ : Arbiter).next = some ⟨5, 1, 0⟩) := by
  decide +kernel

/-- The hypotheses of `ContainmentAndEngines` can be met, the first clauses. -/
theorem meets_ContainmentAndEngines :
    ((1 : Nat) ≤ 15 ∧ (2 : Nat) ≤ 4 ∧ ¬(2 ≤ (1 : Nat) ∧ (1 : Nat) ≤ 4 ∧ (1 : Nat) ≤ 1 ∧ (1 : Nat) ≤ 15))
    ∧ (up.isHeld 1 = false ∧ up.isHeld 15 = false)
    ∧ ((up.modFlt fun x => { x with held := [7] }).isHeld 7 = true)
    ∧ ((up.modFlt fun x => { x with containing := [⟨7, 1, 0, 1, 1, 0⟩] }).flt.containing[0]? = some ⟨7, 1, 0, 1, 1, 0⟩ ∧ (1 : Nat) < 2)
    ∧ ((1 : Fin 8).val ≠ 0 ∧ (up.eng[(1 : Fin 8)]).st = 1 ∧ (up.recentRestarts up.eng[(1 : Fin 8)]).length < 3)
    ∧ (let e : Engine := ⟨1, 3, 0, [0, 0, 0]⟩;
        let s := { up with eng := up.eng.set 1 e };
        (s.eng[(1 : Fin 8)]).st = 1 ∧ 3 ≤ (s.recentRestarts s.eng[(1 : Fin 8)]).length)
    ∧ ((up.eng[(0 : Fin 8)]).st = 1 ∧ (up.recentRestarts up.eng[(0 : Fin 8)]).length < 3) := by
  decide +kernel

/-- The hypotheses of `ContainmentAndEngines` can be met, further clauses. -/
theorem meets_ContainmentAndEngines_2 :
    (({ up with eng := up.eng.set 7 ⟨2, 1, 0, [0]⟩ } : State).eng[(7 : Fin 8)]).st = 2 ∧ (up.eng[(7 : Fin 8)]).st ≠ 2 := by
  decide +kernel

/-- The hypotheses of `WritesAndFences` can be met, the first clauses. -/
theorem meets_WritesAndFences :
    (let s := writing 2;
        s.isl.inflight[0]? = some aonWrite ∧ (s.isl.inflight.take 0).any (fun x => x.who == aonWrite.who && x.island == aonWrite.island) = false)
    ∧ (let s := writing 2;
        s.isl.inflight[1]? = some aonWrite ∧ (s.isl.inflight.take 1).any (fun x => x.who == aonWrite.who && x.island == aonWrite.island) = true)
    ∧ ((up.modIsl fun i => { i with aonHeld := [aonWrite] }).isl.aonHeld = aonWrite :: [])
    ∧ (((inSess sess).authSession 7).isSome = true ∧ (inSess sess).isl.fences = [] ∧ (inSess sess).isl.responses = [])
    ∧ (up.barServes = true ∧ up.isl.fences = [] ∧ up.isl.responses = [])
    ∧ (State.reset.barServes = false)
    ∧ (up.barServes = true ∧ ((2 : Nat) ≠ 4 ∨ 0x14 % 4 ≠ 0)) := by
  decide +kernel

/-- The hypotheses of `WritesAndFences` can be met, further clauses. -/
theorem meets_WritesAndFences_2 :
    (up.barServes = true ∧ 0x2014 ∈ [0x2014, 0x2018, 0x2020, 0x2024, 0x2028, 0x202C] ∧ 0x2028 ∈ [0x2014, 0x2018, 0x2020, 0x2024, 0x2028, 0x202C])
    ∧ (up.barServes = true ∧ 0x20 % 4 = 0 ∧ (0x8000 ≤ 0x807C ∧ 0x807C < 0x8080) ∧ 0x807C % 4 = 0)
    ∧ (up.barServes = true ∧ up.bar0Quiet 2 = true)
    ∧ (up.barServes = true ∧ 0x1FFC % 4 = 0 ∧ 0x1FFC ∉ [0x14, 0x1C, 0x20, 0x1000] ∧ 0x1FFC < 0x2000) := by
  decide +kernel

/-- The hypotheses of `AonIslandTakesFour` can be met. -/
theorem meets_AonIslandTakesFour :
    ((writing 4).aonInflight ≤ 4 ∧ (writing 4).aonInflight = 4 ∧ aonWrite.island = 9)
    ∧ ((∀ w ∈ (writing 4).isl.aonHeld, w.island = 9)) := by
  decide +kernel

/-- The hypotheses of `CalendarProcedure` can be met. -/
theorem meets_CalendarProcedure :
    ((12 : Nat) < 16)
    ∧ ((⟨58, 0, 0, 0, 1, 1, 0⟩ : Cal).sec ≠ 59 ∧ (⟨58, 0, 0, 0, 1, 1, 0⟩ : Cal).sec ≠ 63)
    ∧ ((⟨59, 58, 0, 0, 1, 1, 0⟩ : Cal).sec = 59 ∧ (⟨59, 58, 0, 0, 1, 1, 0⟩ : Cal).min ≠ 59 ∧ (⟨59, 58, 0, 0, 1, 1, 0⟩ : Cal).min ≠ 63)
    ∧ ((⟨63, 63, 22, 0, 1, 1, 0⟩ : Cal).min = 63 ∧ (⟨63, 63, 22, 0, 1, 1, 0⟩ : Cal).hour ≠ 23 ∧ (⟨63, 63, 22, 0, 1, 1, 0⟩ : Cal).hour ≠ 31)
    ∧ ((⟨59, 59, 23, 6, 0, 2, 0⟩ : Cal).day = 0 ∧ (⟨59, 59, 31, 6, 28, 2, 4⟩ : Cal).day ≠ monthLength 2 4 ∧ (28 : Nat) ≠ 31)
    ∧ ((⟨59, 59, 23, 6, 29, 2, 4⟩ : Cal).day = monthLength 2 4 ∧ (2 : Nat) < 12 ∧ (12 : Nat) ≤ (⟨59, 59, 23, 6, 31, 12, 99⟩ : Cal).month) := by
  decide +kernel

/-- The hypotheses of `SecondsComplete` can be met, the first clauses. -/
theorem meets_SecondsComplete :
    (let s := up.modAon fun a => { a with pres := 32768 };
        s.aon.stopped = false ∧ 32768 ≤ s.aon.pres ∧ s.cfgN Obj.RTC_HALT ≠ 1 ∧ s.aon.catchUp = false)
    ∧ (let s := (cfgd Obj.RTC_HALT 1).modAon fun a => { a with pres := 32768, pending := 14 };
        s.aon.stopped = false ∧ 32768 ≤ s.aon.pres ∧ s.cfgN Obj.RTC_HALT = 1 ∧ s.aon.pending < 15)
    ∧ (let s := (cfgd Obj.RTC_HALT 1).modAon fun a => { a with pres := 32768, pending := 15 };
        s.aon.stopped = false ∧ 32768 ≤ s.aon.pres ∧ s.cfgN Obj.RTC_HALT = 1 ∧ 15 ≤ s.aon.pending)
    ∧ (let s := up.modAon fun a => { a with pres := 32767 };
        s.aon.stopped = false ∧ s.aon.pres < 32768 ∧ s.aon.pres = 32767 ∧ s.aon.part < secHalfNs ∧ s.aon.trim = 0 ∧ s.cfgI Obj.RTC_TRIM = 0
        ∧ s.aon.tick < 2 ^ 48 - 1 ∧ s.cfgN Obj.RTC_HALT ≠ 1 ∧ s.aon.catchUp = false ∧ s.aon.alarm ≠ 1)
    ∧ (let s := up.modAon fun a => { a with catchUp := true, pending := 1 };
        s.aon.catchUp = true ∧ s.aon.pending ≠ 0 ∧ s.aon.stopped = false)
    ∧ (up.aon.shadow = none)
    ∧ ((up.modAon fun a => { a with shadow := some (0, []) }).aon.shadow = some (0, [])) := by
  decide +kernel

/-- The hypotheses of `SecondsComplete` can be met, further clauses. -/
theorem meets_SecondsComplete_2 :
    let s := (cfgd Obj.RTC_TRIM (-255)).modAon fun a => { a with trim := 255 };
        s.aon.stopped = false ∧ s.aon.pres < 32768 ∧ s.aon.part < secHalfNs ∧ s.aon.tick < 2 ^ 48 ∧ -255 ≤ s.aon.trim ∧ s.aon.trim ≤ 255
        ∧ -255 ≤ s.cfgI Obj.RTC_TRIM ∧ s.cfgI Obj.RTC_TRIM ≤ 255 := by
  decide +kernel

/-- The hypotheses of `CalendarCompletes` can be met, the first clauses. -/
theorem meets_CalendarCompletes :
    (calFits ⟨63, 63, 31, 6, 31, 12, 99⟩ = true ∧ (32767 : Nat) < 32768 ∧ up.aon.alarm ≠ 1)
    ∧ (calFits ⟨0, 0, 0, 0, 1, 16, 0⟩ = false ∧ (32768 : Nat) ≤ 32768)
    ∧ (up.cfgN Obj.RTC_HALT = 0 ∧ (cfgd Obj.RTC_HALT 1).cfgN Obj.RTC_HALT = 1 ∧ (1 : Nat) < 2)
    ∧ (up.cfgN Obj.RTC_ALARM_ENABLE = 0)
    ∧ ((63 : Nat) < 64 ∧ (31 : Nat) < 32 ∧ (15 : Nat) < 16 ∧ (127 : Nat) < 128)
    ∧ ((15 : Nat) < 16 ∧ (15 : Nat).testBit 3 = true ∧ up.pwr.dom.any (fun x => x.st == 1) = false)
    ∧ (up.barServes = true ∧ (2 ^ 32 - 1 : Nat) < 2 ^ 32 ∧ up.isl.inflight = [] ∧ up.isl.aonHeld = []) := by
  decide +kernel

/-- The hypotheses of `CalendarCompletes` can be met, further clauses. -/
theorem meets_CalendarCompletes_2 :
    ((writing 4).barServes = true ∧ (writing 4).aonInflight = 4)
    ∧ (up.barServes = true ∧ up.bar0Quiet 9 = true ∧ up.aon.shadow = none) := by
  decide +kernel

/-- The hypotheses of `SlowClockSupplyAndAnchor` can be met, the first clauses. -/
theorem meets_SlowClockSupplyAndAnchor :
    ((up.modAon fun a => { a with slowRc := false }).aon.slowRc = false)
    ∧ ((up.modAon fun a => { a with failed := true }).aon.slowRc = true ∧ (up.modAon fun a => { a with failed := true }).aon.failed = true)
    ∧ (up.aon.slowRc = true ∧ up.aon.failed = false ∧ up.aon.starting = true)
    ∧ (up.aon.supply = 0 ∧ up.aon.holdup = false ∧ (up.modAon fun a => { a with supply := 1 }).aon.supply = 1)
    ∧ (100 ≤ 2199 ∧ 2199 < up.cfgN Obj.AON_VBAT_LOW_MV ∧ up.aon.vbatRuns < 2)
    ∧ (let s := up.modAon fun a => { a with vbatRuns := 2 };
        100 ≤ 100 ∧ 100 < s.cfgN Obj.AON_VBAT_LOW_MV ∧ 2 ≤ s.aon.vbatRuns ∧ s.aon.vbatArmed = true)
    ∧ (up.cfgN Obj.AON_VBAT_LOW_MV + 100 ≤ 2500 ∧ (99 < 100 ∨ up.cfgN Obj.AON_VBAT_LOW_MV ≤ 99) ∧ 99 < up.cfgN Obj.AON_VBAT_LOW_MV + 100) := by
  decide +kernel

/-- The hypotheses of `SlowClockSupplyAndAnchor` can be met, further clauses. -/
theorem meets_SlowClockSupplyAndAnchor_2 :
    (let s := (cfgd Obj.RTC_AUTOTRIM_ENABLE 1).modBase 0 fun b => { b with flags := 1 };
        s.cfgN Obj.RTC_AUTOTRIM_ENABLE ≠ 0 ∧ (s.time.base[0]).flags.testBit 0 = true)
    ∧ (0 < 2 ^ 25)
    ∧ (let s := up.modBase 0 fun b => { b with flags := 2 };
        (s.time.base[0]).flags.testBit 0 = true ∨ (s.time.base[0]).flags.testBit 1 = true)
    ∧ ((up.time.base[0]).flags.testBit 0 = false ∧ (up.time.base[0]).flags.testBit 1 = false)
    ∧ (up.cfgN Obj.RTC_SYNC_ENABLE = 0 ∨ up.time.established = false)
    ∧ (let s : State := (cfgd Obj.RTC_SYNC_ENABLE 1).modTime fun t => { t with established := true };
        let v := s.modAon fun a => { a with syncForce := true };
        v.cfgN Obj.RTC_SYNC_ENABLE ≠ 0 ∧ v.time.established = true ∧ v.aon.syncForce = true) := by
  decide +kernel
-- RAW
def withEth : State :=
  { ((cfgd (inst Obj.ETH_MODE 0) 1).cfgPut (inst Obj.ETH_MODE 1) (scalar 2)).cfgPut Obj.LOREF_UDP_ENABLE (scalar 3) with
    port := { up.port with eth := up.port.eth.map fun e => { e with up := true } } }
def with485 : State :=
  ((cfgd Obj.LOREF_RS485_ENABLE 3).cfgPut (inst Obj.UART_ENABLE 0) (scalar 3)).cfgPut (inst Obj.UART_ENABLE 1) (scalar 3)
    |>.cfgPut Obj.LOREF_RS485_ADDRESS (scalar 1)
/-- A frame of LOP2 and one of LOP1, as short as they can be. -/
def lop2Short : Bytes := [2, 0x10] ++ List.replicate 14 0
def lop1Short : Bytes := [1, 1] ++ List.replicate 6 0
/-- A request for two entries of one setting, in plaintext. -/
def oneRead : Bytes := natLe 2 9 ++ [0, 1] ++ natLe 4 Obj.LOREF_VERSION ++ natLe 4 0xFFFFFFFF ++ natLe 2 0 ++ [0, 0]
def keptOne : Resp := ⟨mbx, 0x81, 7, 1, 9, 0, [], 0⟩

/-- The hypotheses of `RefusedListChangesNothing` can be met. -/
theorem meets_RefusedListChangesNothing :
    (match up.listCheck sess 0 [⟨Obj.LOREF_VERSION, 0, 1, 0, false, 0, []⟩] with | .inl _ => true | .inr _ => false) = true := by
  decide +kernel

/-- The hypotheses of `SessionsOpen` can be met. -/
theorem meets_SessionsOpen :
    (let s := up.modSec fun x => { x with slot := x.slot.set 0 ⟨1, 1, 5⟩ };
        s.mailboxReady = true ∧ s.sessionsWf = true ∧ ([1] ++ List.replicate 19 0 : Bytes).length = 20
          ∧ s.openCheck (leAt ([1] ++ List.replicate 19 0) 0 1) = 0)
    ∧ (up.mailboxReady = true ∧ up.sessionsWf = true ∧ up.openCheck (leAt ([4] ++ List.replicate 19 0) 0 1) ≠ 0)
    ∧ (let x := { sess with auth := false };
        let s := inSess x;
        let q : LopReq := ⟨mbx, 0x11, 7, natLe 16 3⟩;
        s.session q.session = some x ∧ x.auth = false ∧ q.nonceOk x = true ∧ s.authCount < 8 ∧ s.freeKeySlot = some (12 : Fin 64).val
        ∧ x.txSeq + 2 < 2 ^ 63 ∧ x.rxSeq + 1 < 2 ^ 63)
    ∧ ((⟨mbx, 0x11, 7, natLe 16 5⟩ : LopReq).nonceOk { sess with auth := false } = false)
    ∧ ((inSess sess).authSession (⟨mbx, 0x12, 7, []⟩ : LopReq).session = some sess) := by
  decide +kernel

/-- The hypotheses of `SessionsEnd` can be met. -/
theorem meets_SessionsEnd :
    (((inSess sess).authSession 7).isSome = true ∧ (inSess sess).authSession 8 = none)
    ∧ ((inSess { sess with auth := false }).session 7 = some { sess with auth := false })
    ∧ ((inSess sess).authSession 7 = some sess)
    ∧ ((up.modLop fun l => { l with waiting := [(⟨mbx, 1, 7, []⟩, 0)] }).lop.waiting[0]? = some (⟨mbx, 1, 7, []⟩, 0))
    ∧ (let s := up.modLop fun l => { l with mbxBusy := true };
        s.barServes = true ∧ s.bar0Quiet 2 = true ∧ 1 ≤ 1 ∧ 4096 ≤ 4096 ∧ s.lop.mbxBusy = true)
    ∧ (up.barServes = true ∧ up.bar0Quiet 2 = true ∧ up.lop.mbxBusy = false ∧ State.reset.barServes = false) := by
  decide +kernel

/-- The hypotheses of `TransportsDeliver` can be met, the first clauses. -/
theorem meets_TransportsDeliver :
    (withEth.ethOn 1 = true ∧ (withEth.port.eth[(1 : Fin 2)]).up = true ∧ (withEth.cfgN Obj.LOREF_UDP_ENABLE).testBit 1 = true
        ∧ frameLength lop2Short = some lop2Short.length ∧ leAt lop2Short 0 1 = 2)
    ∧ (withEth.ethOn 0 = true ∧ (withEth.port.eth[(0 : Fin 2)]).up = true ∧ (withEth.cfgN Obj.LOREF_UDP_ENABLE).testBit 0 = true
        ∧ frameLength lop1Short = some lop1Short.length ∧ leAt lop1Short 0 1 = 1
        ∧ withEth.cfgN Obj.LOREF_UDP_PORT1 ≠ withEth.cfgN Obj.LOREF_UDP_PORT2)
    ∧ (frameLength (lop2Short ++ [0]) ≠ some (lop2Short ++ [0]).length)
    ∧ (with485.rs485On 0 = true ∧ with485.rs485On 1 = true ∧ 1 ≤ with485.cfgN Obj.LOREF_RS485_ADDRESS ∧ with485.cfgN Obj.LOREF_RS485_ADDRESS < 256
        ∧ lop2Short.length ≤ 1024)
    ∧ (frameLength lop2Short = some lop2Short.length ∧ leAt lop2Short 0 1 = 2 ∧ (0 : Nat) < 2 ^ 32 ∧ 0 ≠ crc32c lop2Short)
    ∧ (with485.rs485On 0 = true ∧ 2 < 256 ∧ 2 ≠ with485.cfgN Obj.LOREF_RS485_ADDRESS)
    ∧ ((with485.modLop fun l => { l with rs485 := l.rs485.set 0 (some [2]) }).lop.rs485[(0 : Fin 2)] = some [2]
    ∧ with485.lop.rs485[(1 : Fin 2)] = none) := by
  decide +kernel

/-- The hypotheses of `TransportsDeliver` can be met, further clauses. -/
theorem meets_TransportsDeliver_2 :
    ((cfgd Obj.LOP1_ENABLE 1).mailboxReady = true ∧ (cfgd Obj.LOP1_ENABLE 1).cfgN Obj.LOP1_ENABLE ≠ 0
      ∧ (cfgd Obj.LOP1_ENABLE 0).cfgN Obj.LOP1_ENABLE = 0)
    ∧ (let crc := crc16 (lop1Body 2 5 0 [1]);
        crc < 2 ^ 16 ∧ 0 < 2 ^ 16 ∧ 0 ≠ crc) := by
  decide +kernel

/-- The hypotheses of `ResetCountCounts` can be met. -/
theorem meets_ResetCountCounts :
    (up.start.inReset = false ∧ up.start.perst = false ∧ (cfgd Obj.PERST_SCOPE 1).cfgN Obj.PERST_SCOPE = 1)
    ∧ ((up.modFlt fun x => { x with supFailedAt := some 0 }).flt.supFailedAt.isSome = true)
    ∧ ((up.modFw fun x => { x with trialEnd := some 0 }).fw.trialEnd.isSome = true)
    ∧ ((up.modFw fun x => { x with ramDir := some ⟨0, 0, 5, 2, 0, 0xFF⟩ }).fwActivateCheck 2 = 0) := by
  decide +kernel

/-- The hypotheses of `ResetsComplete` can be met. -/
theorem meets_ResetsComplete :
    (up.sec.presClass ≠ 3 ∧ up.start.inReset = false ∧ State.reset.start.inReset = true)
    ∧ (10000 ≤ 10000 ∧ 1000 ≤ 9999 ∧ 9999 < 10000 ∧ 999 < 1000 ∧ (0 : Nat) ≠ 1)
    ∧ (up.start.perst = false ∧ up.cfgN Obj.PERST_SCOPE ≠ 1)
    ∧ ((up.modStart fun x => { x with perst := true }).start.perst = true) := by
  decide +kernel

/-- The hypotheses of `StartUpCompletes` can be met, the first clauses. -/
theorem meets_StartUpCompletes :
    (State.reset.start.inReset = true ∧ State.reset.start.thermalHeld = false)
    ∧ ((State.reset.modStart fun x => { x with thermalHeld := true }).start.thermalHeld = true)
    ∧ ((up.modStart fun x => { x with bootDue := true }).start.inReset = false
    ∧ (up.modStart fun x => { x with bootDue := true }).start.bootDue = true)
    ∧ ((up.modStart fun x => { x with qual := some .startUp }).start.qual = some .startUp)
    ∧ ((up.modStart fun x => { x with qual := some .retry }).start.qual = some .retry ∧ qualifiedAt 0 (List.replicate 31 260) = none)
    ∧ (qualifiedAt 0 (List.replicate 32 250) = some 32)
    ∧ (let s := up.modStart fun x => { x with ddrTraining := true };
        s.start.ddrTraining = true ∧ s.start.st ≠ 2 ∧ s.start.ddrTries < 2) := by
  decide +kernel

/-- The hypotheses of `StartUpCompletes` can be met, further clauses. -/
theorem meets_StartUpCompletes_2 :
    (let s := up.modStart fun x => { x with st := 3 };
        s.start.st = 3 ∧ s.pwr.dom.any (fun x => x.st == 4) = false ∧ s.start.trial = false ∧ up.start.st ≠ 3)
    ∧ (up.start.qual = none) := by
  decide +kernel

/-- The hypotheses of `FirmwareUpdate` can be met, the first clauses. -/
theorem meets_FirmwareUpdate :
    (1 ≤ 16777216 ∧ 16777216 ≤ 16777216 ∧ up.dir.trying = false ∧ up.dir.seq + 1 < 2 ^ 32 ∧ 16777216 < 16777217)
    ∧ ((up.modFw fun x => { x with ramDir := some ⟨0, 0, 5, 3, 0, 0xFF⟩ }).dir.trying = true)
    ∧ (let s := up.modFw fun x => { x with ramDir := some ⟨0, 0, 5, 1, 0, 0xFF⟩ };
        s.dir.slotState s.target0 = 1 ∧ (s.fw.slot[s.target0]).length + 2 ≤ 16777216 ∧ 1 ≠ (s.fw.slot[s.target0]).length)
    ∧ (up.dir.slotState up.target0 = 2 ∧ up.dir.slotState up.target0 ≠ 1)
    ∧ (let s := (up.modFw fun x => { x with ramDir := some ⟨0, 0, 5, 4, 0, 0xFF⟩ }).modStart fun x => { x with trial := true };
        s.start.trial = true ∧ s.dir.slotIn 4 = some 1 ∧ (1 : Fin 2) ≠ s.dir.active ∧ s.dir.seq + 1 < 2 ^ 32)
    ∧ (up.start.trial = false)
    ∧ (let s := up.modFw fun x => { x with slot := x.slot.set 0 (List.replicate 16 0 ++ [96]) };
        s.rollbackCheck 96 = 0 ∧ s.fw.otp.steps.length = 96 ∧ s.rollbackCheck 1 = 0) := by
  decide +kernel

/-- The hypotheses of `FirmwareUpdate` can be met, further clauses. -/
theorem meets_FirmwareUpdate_2 :
    96 < 97 ∧ 0 ≤ up.fw.otp.floor := by
  decide +kernel

/-- The hypotheses of `ProfilesComplete` can be met. -/
theorem meets_ProfilesComplete :
    (0 ≤ 3 ∧ 3 < 4)
    ∧ ((up.modFw fun x => { x with stage := makeProfile 3 [] }).commitCheck 3 = 0)
    ∧ (up.commitCheck 0 ≠ 0 ∧ up.commitCheck 4 ≠ 0)
    ∧ (1 ≤ 1 ∧ 3 ≤ 3 ∧ (up.savedProfile 3).length ≤ 65536)
    ∧ (let o : FlashOp := ⟨Obj.PROFILE_SAVE, 0, 3, []⟩;
        let s := up.modFw fun x => { x with ops := [o] };
        s.fw.ops.find? (fun o => o.index == Obj.PROFILE_COMMIT || o.index == Obj.PROFILE_SAVE) = some o ∧ o.arg < 4 ∧ numsWf s.act = true)
    ∧ (0 ≤ up.fw.stage.length ∧ 0 + ([1, 2] : Bytes).length ≤ 65536 ∧ up.fw.stage.length < 1)
    ∧ ((3 ≤ 3 ∨ 3 = 0xFF) ∧ (0xFF ≤ 3 ∨ 0xFF = 0xFF) ∧ up.dir.seq + 1 < 2 ^ 32) := by
  decide +kernel

/-- The hypotheses of `FaultRegionCompletes` can be met. -/
theorem meets_FaultRegionCompletes :
    (up.flt.windows.filter (fun w => w.suppressed != 0) = [])
    ∧ (let s := up.modFlt fun x => { x with windows := [⟨1, 0, 0, 16, 3⟩] };
        (s.flt.windows.filter fun w => w.suppressed != 0).getLast? = some ⟨1, 0, 0, 16, 3⟩ ∧ s.time.monoSave = none ∧ s.flt.windows.length ≤ 4096)
    ∧ (let s : State := { up.modFlt fun x => { x with archPending := List.replicate 128 ⟨0, 0, 0, 0, 0, 0, 0⟩ } with port := { up.port with flashSt := 1 } };
        s.flt.archPending ≠ [] ∧ s.port.flashSt = 1 ∧ 128 ≤ s.flt.archPending.length)
    ∧ (up.flt.archPending = [])
    ∧ ((up.modFlt fun x => { x with held := [15] }).releaseCheck 15 = 0 ∧ up.isHeld 15 = false)
    ∧ (let s := up.modFw fun x => { x with ops := [⟨Obj.FAULT_CLEAR, 0x03100000, 0, []⟩] };
        s.fw.ops = [⟨Obj.FAULT_CLEAR, 0x03100000, 0, []⟩] ∧ numsWf s.act = true ∧ up.fw.ops = []) := by
  decide +kernel

/-- The hypotheses of `EventsAreLimited` can be met. -/
theorem meets_EventsAreLimited :
    (let s := up.modFlt fun x => { x with windows := [⟨Ev.SLOW_CLK_OK, 0xFF, 0, 16, 0⟩] };
        s.sysUp = true ∧ 16 ≤ (s.windowOf Ev.SLOW_CLK_OK 0xFF).logged ∧ eventClass Ev.SLOW_CLK_OK < 3)
    ∧ (up.sysUp = true ∧ (up.windowOf Ev.SLOW_CLK_OK 0xFF).logged < 16 ∧ up.flt.log.length ≤ 4096)
    ∧ (State.reset.sysUp = false ∧ aonEvent Ev.SLOW_CLK_OK = true ∧ State.reset.aon.queue.length < 8) := by
  decide +kernel
-- RAW
def writeItem : Bytes := natLe 4 Obj.LOP1_ENABLE ++ natLe 4 0 ++ natLe 2 1 ++ [1, 0] ++ natLe 2 0 ++ [0, 0] ++ natLe 4 1
def oneWrite : Bytes := natLe 2 9 ++ [0, 1] ++ writeItem

/-- The hypotheses of `RequestsAreServed` can be met, the first clauses. -/
theorem meets_RequestsAreServed :
    ((inSess sess).mailboxReady = true ∧ (inSess sess).session 7 = some sess ∧ sess.auth = true)
    ∧ (let s := inSess { sess with kept := [keptOne] };
        let f := frameOf sess 1 oneRead;
        s.acceptable 0x01 f = true ∧ (s.requestOf 0x01 f).reads.isSome = true ∧ 2 ≤ (s.requestOf 0x01 f).payload.length
        ∧ ([keptOne] : List Resp).find? (fun r => r.reqId == (s.requestOf 0x01 f).reqId) = some keptOne
        ∧ sess.kept.find? (fun r => r.reqId == (s.requestOf 0x01 f).reqId) = none)
    ∧ (let f := frameOf sess 2 oneWrite;
        (inSess sess).acceptable 0x02 f = true ∧ ((inSess sess).requestOf 0x02 f).writes.isSome = true)
    ∧ (let f := frameOf sess 2 [9, 0];
        (inSess sess).acceptable 0x02 f = true ∧ 2 ≤ ((inSess sess).requestOf 0x02 f).payload.length ∧ ((inSess sess).requestOf 0x02 f).writes = none)
    ∧ (let f := frameOf sess 3 oneRead;
        (inSess sess).acceptable 0x03 f = true ∧ ((inSess sess).requestOf 0x03 f).reads.isSome = true)
    ∧ ((inSess sess).acceptable 0x12 (frameOf sess 0x12 []) = true)
    ∧ (let x := { sess with auth := false };
        (inSess x).acceptable 0x11 (frameOf x 0x11 (natLe 16 3)) = true) := by
  decide +kernel

/-- The hypotheses of `RequestsAreServed` can be met, further clauses. -/
theorem meets_RequestsAreServed_2 :
    up.mailboxReady = true ∧ up.session 7 = none := by
  decide +kernel
-- RAW
/-- A lock record for 863 to 870 MHz at 14 dBm, and one for 2.4 GHz beside it, in a plan of Table PH-2. -/
def lockBytes : Bytes :=
  let b := natLe 4 0x474C4B52 ++ [1, 1, 2, 0] ++ List.replicate 8 0
    ++ natLe 4 863000 ++ natLe 4 870000 ++ natLe 2 140 ++ natLe 2 100 ++ natLe 2 400 ++ natLe 2 20
    ++ natLe 4 2400000 ++ natLe 4 2483000 ++ natLe 2 100 ++ natLe 2 0 ++ natLe 2 400 ++ natLe 2 20
  let r := b ++ List.replicate (144 - b.length) 0
  r ++ natLe 4 (crc32c r) ++ List.replicate 12 0
/-- The block with a lock record, TB_AIR disciplined, path 0 in reception and its first entry of power, and path 4 in reception with
lane 0. -/
def radio : State :=
  let s := ((((cfgd (inst Obj.RF_PATH_ENABLE 0) 1).cfgPut (inst Obj.RF_TX_ENABLE 0) (scalar 1)).cfgPut (inst Obj.RF_PWR_TABLE 0)
    [[2 ^ 31]]).cfgPut (inst Obj.MESH_LANE_CFG 4) [[1]]).cfgPut (inst Obj.MESH_LANE_CFG 0) [[5]]
  let s := { s with fw := { s.fw with otp := { s.fw.otp with lock := #v[lockBytes, []] } } }
  let s := (s.modBase 3 fun b => { b with st := 2 }).cfgPut Obj.MESH_PAN_ID (scalar 0x1234)
  let s := s.modSec fun x => { x with slot := x.slot.set 2 ⟨1, 1, 5⟩ }
  (s.modPath 0 fun x => { x with st := 5, rxEnabled := true, calibrated := true }).modPath 4 fun x => { x with st := 5, rxEnabled := true }
def txReq : TxReq := ⟨1000000, 867900, 1, [1, 2, 3], false, 0, false, false, 0⟩
def txCmd : TxCmd := radio.txOfReq 0 txReq
def onAir : Running := ⟨txCmd, 1000000, 0, true, true⟩
/-- Path 0 with a command in its queue, in SETUP, and in TX. -/
def queued : State := radio.modPath 0 fun x => { x with queue := [txCmd] }
def setUp : State := radio.modPath 0 fun x => { x with st := 6, running := some { onAir with onAir := false } }
def sending : State := radio.modPath 0 fun x => { x with st := 7, running := some onAir }
def inCal (c : CalRun) (due : Bool) : State := radio.modPath 0 fun x => { x with st := 2, cal := some c, due := due }
/-- An association request of a node with EUI-64 9 on lane 0 of path 4, its MIC under the link key that this gives. -/
def assocAir : AirFrame :=
  let f : AirFrame := ⟨4, 0, 0x10, 2000000, -60, 20, 0, true, false, false, false, false, 40, 0xE30B, 0x1234, 9, 0x0E, 1, 1,
    [.nodestat 20 3000 0], 0, [0x80, 0x0A, 0, 0, 0, 0, 0, 0], 0, [], 0⟩
  { f with mic := ccmMic (radio.linkKeyOf 9 0) (nonceOctets (some 9) (srcKey f) 0 f.counter f.secCtrl) (authOctets (airMhr f) none) f.payload }
def twin : Twin := ⟨4, 1, (radio.antennaTime 4 0x10 2000000), -50, airPhr assocAir⟩
def legacyAir : LegacyFrame := ⟨0, 0, 2000000, -60, 20, 0, [1, 2, 3, 4], 0, [], 0⟩

/-- The hypotheses of `PathCommandsComplete` can be met, the first clauses. -/
theorem meets_PathCommandsComplete :
    (radio.txAllowed = true ∧ radio.txReject 0 { radio.txOfReq 0 txReq with handle := radio.rf.nextHandle } = none)
    ∧ ((up.path 0).st = 0 ∧ up.txReject 0 { up.txOfReq 0 txReq with handle := up.rf.nextHandle } = some 0x0B)
    ∧ (3 ≤ (radio.path 0).st ∧ (radio.path 0).st ≤ 6 ∧ (radio.path 0).running = none)
    ∧ ((sending.path 0).st = 7 ∧ (sending.path 0).running = some onAir)
    ∧ (((pth fun x => { x with st := 9 }).path 0).st = 9 ∧ ((cfgd (inst Obj.RF_PATH_ENABLE 0) 1).cfgN (inst Obj.RF_PATH_ENABLE (0 : Fin 6))) ≠ 0)
    ∧ (let s := radio.modPath 0 fun x => { x with st := 3 };
        (s.path 0).st = 3 ∧ s.cfgN (inst Obj.RF_PATH_ENABLE (0 : Fin 6)) ≠ 0)
    ∧ ((radio.path 0).st = 5 ∧ radio.cfgN (inst Obj.RF_PATH_ENABLE (0 : Fin 6)) ≠ 0) := by
  decide +kernel

/-- The hypotheses of `PathCommandsComplete` can be met, further clauses. -/
theorem meets_PathCommandsComplete_2 :
    (sliceOk 0 413900 = false ∧ sliceOk 0 414000 = true ∧ sliceOk 5 2473000 = true ∧ ((pth fun x => { x with st := 1 }).path 0).st = 1)
    ∧ ((1 : Nat).testBit 0 = true ∧ (up.path 5).st = 0 ∧ 512 % 512 = 0) := by
  decide +kernel

/-- The hypotheses of `TransmissionRuns` can be met, the first clauses. -/
theorem meets_TransmissionRuns :
    ((queued.path 0).queue = txCmd :: [] ∧ queued.firstBooked 0 = none ∧ (queued.path 0).st = 5)
    ∧ ((up.path 0).queue = [] ∧ up.firstBooked 0 = none ∧ (up.path 0).st ≠ 6)
    ∧ (let u := (queued.toAir (txCmd.start - queued.lead 0)).putPath 0 { queued.path 0 with due := true };
        (queued.path 0).queue = txCmd :: [] ∧ (queued.path 0).st ≠ 6 ∧ queued.air ≤ txCmd.start - queued.lead 0 ∧ u.startBar 0 txCmd = none
        ∧ u.readyFor 0 txCmd = true ∧ u.lbtBusy txCmd (-120) = false)
    ∧ ((queued.path 0).late = false ∧ inSlice 0 (queued.path 0).centre txCmd.carrier = true ∧ queued.air ≤ txCmd.start - 48 * usHalfNs)
    ∧ ((up.path 0).st ≠ 5 ∧ (up.path 0).st ≠ 8 ∧ (up.path 0).st ≠ 7)
    ∧ (let u := setUp.toAir 1000000;
        (setUp.path 0).st = 6 ∧ (setUp.path 0).running = some { onAir with onAir := false } ∧ (u.pickPower 0 867900 1 0).entry = some 0)
    ∧ (let s := setUp.cfgPut (inst Obj.RF_PWR_TABLE 0) [[0]];
        (s.path 0).st = 6 ∧ (s.path 0).running = some { onAir with onAir := false } ∧ ((s.toAir 1000000).pickPower 0 867900 1 0).entry = none) := by
  decide +kernel

/-- The hypotheses of `TransmissionRuns` can be met, further clauses. -/
theorem meets_TransmissionRuns_2 :
    ((sending.path 0).st = 7 ∧ (sending.path 0).running = some onAir)
    ∧ (((pth fun x => { x with st := 8 }).path 0).st = 8) := by
  decide +kernel

/-- The hypotheses of `LocksGuardsAndCalibration` can be met, the first clauses. -/
theorem meets_LocksGuardsAndCalibration :
    (let s := radio.modPath 0 fun x => { x with st := 4, lockTry := 1 };
        (s.path 0).st = 4 ∧ (s.path 0).queue = [] ∧ (s.path 0).lockCarrier = none ∧ (s.path 0).lockTry < 2 ∧ s.time.counting = true)
    ∧ (let s := radio.modPath 0 fun x => { x with st := 4, lockTry := 2 };
        (s.path 0).st = 4 ∧ 2 ≤ (s.path 0).lockTry)
    ∧ ((up.path 0).st ≠ 4 ∧ (up.path 0).st ≠ 7 ∧ (up.path 0).st ≠ 2 ∧ (0 : Nat) ≠ 1)
    ∧ ((sending.path 0).st = 7 ∧ (sending.path 0).running = some onAir ∧ onAir.onAir = true)
    ∧ (let c : CalRun := ⟨[5, 6], false, false, false, 5, 0⟩;
        let s := inCal c false;
        (s.path 0).st = 2 ∧ (s.path 0).cal = some c ∧ c.items = 5 :: [6] ∧ (c.startUp = true ∨ (s.path 0).due = false) ∧ c.retried = false)
    ∧ (let c : CalRun := ⟨[5, 6], false, false, true, 5, 0⟩;
        let s := inCal c true;
        (s.path 0).st = 2 ∧ (s.path 0).cal = some c ∧ c.items = 5 :: [6] ∧ (true && (true || c.retried)) = true
          ∧ (false && (true || c.retried)) = false
        ∧ c.startUp = false ∧ (s.path 0).due = true)
    ∧ (let c : CalRun := ⟨[3], true, false, true, 1, 0⟩;
        let s := inCal c false;
        (s.path 0).cal = some c ∧ c.items = 3 :: [] ∧ c.retried = true ∧ s.factory 0 3 = some ⟨0, []⟩ ∧ 3 ≤ 3) := by
  decide +kernel

/-- The hypotheses of `LocksGuardsAndCalibration` can be met, further clauses. -/
theorem meets_LocksGuardsAndCalibration_2 :
    (let c : CalRun := ⟨[3], true, false, true, 1, 0⟩;
        let s := inCal c false;
        let s := { s with fw := { s.fw with otp := { s.fw.otp with cal := Vector.replicate 6 (Vector.replicate 9 none) } } };
        (s.path 0).cal = some c ∧ s.factory 0 3 = none)
    ∧ ((∀ p : Fin 6, (up.path p).st = 0))
    ∧ (let s := up.modSec fun x => { x with presClass := 1 };
        s.sec.presClass = 1 ∧ lockWriteOk lockBytes = true ∧ s.lockSlot = some 0)
    ∧ (up.sec.presClass ≠ 1 ∧ lockWriteOk [] = false ∧ radio.lockSlot = none) := by
  decide +kernel

/-- The hypotheses of `FramesReceived` can be met, the first clauses. -/
theorem meets_FramesReceived :
    (up.laneHears 4 0 0x10 0 = false ∧ up.laneHears 0 0 0x20 0 = false)
    ∧ (radio.laneHears 4 0 0x10 0 = true ∧ radio.cfgN Obj.MESH_PAN_ID ≠ 0xFFFF ∧ radio.isHeld 7 = false
        ∧ radio.laneBusy 4 0 (radio.antennaTime 4 0x10 2000000) = false)
    ∧ (let t := radio.antennaTime 4 0x10 2000000;
        let s := radio.laneTaken 4 0 (t - 1) (t + 1);
        s.laneHears 4 0 0x10 0 = true ∧ s.laneBusy 4 0 (s.antennaTime 4 0x10 2000000) = true)
    ∧ (radio.beaten 4 0 0x10 (radio.antennaTime 4 0x10 2000000) (airPhr assocAir) (-60) [twin] = true
        ∧ radio.beaten 4 0 0x10 (radio.antennaTime 4 0x10 2000000) (airPhr assocAir) (-60) [] = false)
    ∧ (assocAir.fcsOk = true ∧ ({ assocAir with ms := true } : AirFrame).ms = true ∧ phrOk assocAir = true ∧ fcOk 0 = false)
    ∧ (let f := { assocAir with stamp := radio.antennaTime 4 0x10 2000000 };
        fcOk f.fc = true ∧ f.pan = radio.cfgN Obj.MESH_PAN_ID ∧ some f.secCtrl = secCtrlFor f.fc ∧ iesOk f = true ∧ fcPre f.fc = true
        ∧ radio.srcKnown f = true ∧ radio.replayOf (srcKey f) f.key = (false, 0, 0) ∧ replayCheck false 0 0 f.counter = .fresh
        ∧ radio.isHeld 2 = false ∧ radio.secServes = true ∧ (radio.frameKey f).isSome = true ∧ payloadOk f = true)
    ∧ (let f := { assocAir with stamp := radio.antennaTime 4 0x10 2000000 };
        ((radio.micCheck f ((radio.frameKey f).getD 0)).1.map (·.2)) = some none) := by
  decide +kernel

/-- The hypotheses of `FramesReceived` can be met, further clauses. -/
theorem meets_FramesReceived_2 :
    (let s := radio.putReplay (2 ^ 24 + 9) 1 100 1;
        s.replayOf (srcKey assocAir) assocAir.key = (true, 100, 1) ∧ replayCheck true 100 1 assocAir.counter = .replay)
    ∧ (radio.laneHears 0 0 0x20 0 = true ∧ radio.laneBusy 0 0 (radio.antennaTime 0 0x20 2000000) = false
        ∧ radio.beaten 0 0 0x20 (radio.antennaTime 0 0x20 2000000) 4 (-60) [] = false ∧ psduOk 0x20 4 = true) := by
  decide +kernel

/-- The hypotheses of `ReplayWindow` can be met. -/
theorem meets_ReplayWindow :
    (replayCheck false 0 0 0 = .fresh ∧ replayCheck true 5 1 6 = .fresh ∧ replayCheck true 70 1 7 = .fresh ∧ (1 : Nat) < 2 ^ 64)
    ∧ (replayCheck true 5 1 5 ≠ .fresh ∧ (0 : Nat) + 64 ≤ (replayNext true 5 1 70).1) := by
  decide +kernel
-- RAW
/-- A node with EUI-64 9 of a class, its link in a state. -/
def nodeRec (cls st : Nat) : FlockRec :=
  let r := newRec ⟨9, cls, 1, if cls = 0x0B then 80 else if cls = 0x0C then 5 else 0, 0, #v[0, 0, 0, 0]⟩
  { r with link := { r.link with st := st, gen := 0, mode := if cls = 0x0B then 3 else 1, slot := 3, period := 4 } }
/-- The block with that node as record 5, its link on channel 5 of path 0. -/
def net (r : FlockRec) : State :=
  { radio.cfgPut (inst Obj.MESH_CHMAP_C0 0) (scalar 5) with
    flock := { radio.flock with recs := [(5, r)] }
    mesh := { radio.mesh with per := radio.mesh.per.set 0 { radio.mesh.per[(0 : Fin 6)] with map := 1, c0 := 5 } } }
/-- An accepted frame of that node, and the block that has it. -/
def rx : RxFrame :=
  { path := 0, lane := 0, channel := 5, mode := 1, stamp := 2000000, untimed := false, sfdEnd := 2000000, last := 3000000, sched := true
    frameType := 1, src := 5, dest := 0xF00000, eui := 9, key := 1, counter := 1, ar := true, dup := false, record := 5, temp := 20
    supply := 3000, missed := 0, blockAck := none, via := none, ackOf := none, payload := 1, data := [1, 2], cfo := 0, unref := false
    recordBytes := [], asn := 0 }
def got (r : FlockRec) (x : RxFrame) : State := { net r with mesh := { (net r).mesh with accepted := [x] } }
/-- A transaction for that node. -/
def txn (k : TxnKind) (st : TxnState) : Txn :=
  { id := 7, kind := k, st := st, flock := 5, path := 0, start := 2000000, channel := 5, handle := 0, ms := 10, account := 0, attempts := 0
    deadline := 400000000000, refusal := 0, stage := 0, respond := true, gap := 0, data := [1], req := none, nodeTag := 5, mode := 1, chOffset := 0
    counter := 1, host := true }
def busy (r : FlockRec) (t : Txn) : State := { net r with mesh := { (net r).mesh with txns := [t] } }
/-- An association request for class A with mode 1, relayed, and one that came in slot 62. -/
def askRx (cls : Byte) : RxFrame := { rx with frameType := 3, payload := 0x80, via := some 5, data := [cls, 1, 0, 20, 0, 0, 0, 0] }
/-- An entry of MESH_NBR_CFG: a member of this device, source 0xF00001, on path 0 in slot 5. -/
def nbrs (n : Nbr) : State :=
  { radio.cfgPut Obj.MESH_NBR_CFG [[1, 0xF00001, 0, 5, 1, 0, 3, 600]] with mesh := { radio.mesh with nbr := radio.mesh.nbr.set 0 n } }

/-- The hypotheses of `NodeFramesComplete` can be met, the first clauses. -/
theorem meets_NodeFramesComplete :
    (((got (nodeRec 0x0A 2) rx).takeFrame (isData 1)).map (·.1) = some rx)
    ∧ (let x := { rx with payload := 4 };
        ((got (nodeRec 0x0A 2) x).takeFrame (isData 4)).map (·.1) = some x)
    ∧ (let x := { rx with payload := 5 };
        ((got (nodeRec 0x0A 2) x).takeFrame (isData 5)).map (·.1) = some x ∧ (net (nodeRec 0x0A 2)).alertOf x = none)
    ∧ (let s := busy (nodeRec 0x0A 2) (txn .alert .awaitReply);
        let e := (464 : Nat) * usHalfNs + tShr 1 (s.preamble 0);
        let x := { rx with payload := 5, stamp := 2000000 + e };
        x.untimed = false ∧ s.alertOf x = some (txn .alert .awaitReply) ∧ (s.recOf x.record).isSome = true)
    ∧ (let x := { rx with frameType := 2 };
        ((got (nodeRec 0x0A 2) x).takeFrame (fun x => x.frameType == 2)).map (·.1) = some x ∧ (net (nodeRec 0x0A 2)).ackedTxn x = none)
    ∧ (let t := txn .hostData .awaitReply;
        let s := busy (nodeRec 0x0B 2) t;
        let x := { rx with frameType := 2, ackOf := some 1, stamp := 2000000 + 464 * usHalfNs + tShr 1 (s.preamble 0) };
        s.ackedTxn x = some t ∧ t.kind = .hostData ∧ ((s.recOf t.flock).map fun r => decide (r.cfg.cls ≠ 0x0A)) = some true)
    ∧ (((got (nodeRec 0x0A 2) (askRx 0x0A)).takeFrame (isCommand 0x80)).map (·.1) = some (askRx 0x0A)
        ∧ (net (nodeRec 0x0A 2)).assocForUs { askRx 0x0A with via := none } = false ∧ (askRx 0x0A).dup = false) := by
  decide +kernel

/-- The hypotheses of `NodeFramesComplete` can be met, further clauses. -/
theorem meets_NodeFramesComplete_2 :
    (let s := net (nodeRec 0x0A 2);
        s.assocForUs (askRx 0x0B) = true ∧ s.assocStatus ((s.findEui 9).bind s.recOf) (leAt (askRx 0x0B).data 0 1) 0 1 = 2)
    ∧ (let s := (net (nodeRec 0x0A 2)).cfgPut Obj.LINK_ASSOC_POLICY (scalar 1);
        s.findEui (askRx 0x0A).eui = some 5 ∧ s.recOf 5 = some (nodeRec 0x0A 2)
          ∧ s.assocStatus (some (nodeRec 0x0A 2)) 0x0A 0 (leAt (askRx 0x0A).data 1 2) = 0
        ∧ (nodeRec 0x0A 2).cfg.cls = leAt (askRx 0x0A).data 0 1)
    ∧ (let x := { rx with frameType := 3, payload := 0x82 };
        ((got (nodeRec 0x0A 2) x).takeFrame (isCommand 0x82)).map (·.1) = some x)
    ∧ (let x := { rx with frameType := 3, payload := 0x83 };
        let s := got (nodeRec 0x0A 2) x;
        let v := { s with mesh := { s.mesh with per := s.mesh.per.set 0 { s.mesh.per[(0 : Fin 6)] with update := some ⟨1, 5, 8, false⟩ } } };
        (s.takeFrame (isCommand 0x83)).map (·.1) = some x ∧ (v.takeFrame (isCommand 0x83)).map (·.1) = some x
        ∧ s.mesh.per[x.path].update = none ∧ v.mesh.per[x.path].update = some ⟨1, 5, 8, false⟩ ∧ v.recOf x.record = some (nodeRec 0x0A 2))
    ∧ (let s := nbrs ⟨0, 0, 0, 0, 0⟩;
        let x := { rx with frameType := 0, src := 0xF00001 };
        (List.finRange 16).find? (fun (i : Fin 16) => s.cfgN Obj.MESH_NBR_CFG i 0 != 0 && s.cfgN Obj.MESH_NBR_CFG i 1 == x.src) = some 0
        ∧ s.nbrHears (s.nbrView 0) x = true ∧ s.nbrHears (s.nbrView 0) { x with path := 1 } = false)
    ∧ (up.mesh.accepted = []) := by
  decide +kernel

/-- The hypotheses of `AssociationGivesALink` can be met. -/
theorem meets_AssociationGivesALink :
    let s := net (nodeRec 0x0A 0);
        s.linkModes 0 1 ≠ [] ∧ rx.via = none ∧ (nodeRec 0x0A 0).link.st = 0 ∧ s.recOf 5 = some (nodeRec 0x0A 0) := by
  decide +kernel

/-- The hypotheses of `MeshTimersComplete` can be met, the first clauses. -/
theorem meets_MeshTimersComplete :
    (let s := { nbrs ⟨1, 2, 0, 0, 2⟩ with pwr := State.reset.pwr };
        s.cfgN Obj.MESH_NBR_CFG (0 : Fin 16) 0 ≠ 0 ∧ (s.toNbrEnd (s.nbrView 0)).deaf (s.nbrView 0) = true)
    ∧ (let s := nbrs ⟨1, 2, 0, 0, 2⟩;
        (s.toNbrEnd (s.nbrView 0)).deaf (s.nbrView 0) = false ∧ (s.mesh.nbr[(0 : Fin 16)]).misses = 2 ∧ (s.mesh.nbr[(0 : Fin 16)]).st = 1)
    ∧ (let s := nbrs ⟨1, 1, 0, 0, 2⟩;
        let u := s.toNbrEnd (s.nbrView 0);
        s.cfgN Obj.MESH_NBR_CFG (0 : Fin 16) 0 ≠ 0 ∧ u.deaf (s.nbrView 0) = false ∧ (s.mesh.nbr[(0 : Fin 16)]).misses < 2)
    ∧ (let s := net (nodeRec 0x0C 2);
        s.recOf 5 = some (nodeRec 0x0C 2) ∧ (nodeRec 0x0C 2).cfg.cls = 0x0C
          ∧ (s.toNbrEnd (relayView (nodeRec 0x0C 2))).deaf (relayView (nodeRec 0x0C 2)) = false)
    ∧ (((nbrs ⟨2, 3, 0, 0, 2⟩).mesh.nbr[(0 : Fin 16)]).st = 2 ∧ (up.mesh.nbr[(0 : Fin 16)]).st ≠ 2 ∧ up.recOf 5 = none)
    ∧ (let s := { net (nodeRec 0x0A 2) with mesh := { (net (nodeRec 0x0A 2)).mesh with retry := [⟨5, (net (nodeRec 0x0A 2)).asn, 1⟩] } };
        s.recOf 5 = some (nodeRec 0x0A 2) ∧ s.domOn (7 + (nodeRec 0x0A 2).link.path) = true ∧ s.mesh.retry = [⟨5, s.asn, 1⟩])
    ∧ (let s := net (nodeRec 0x0A 2);
        (nodeRec 0x0A 2).link.st = 2 ∧ (nodeRec 0x0A 2).drift.misses + 1 < s.cfgN Obj.MESH_RESYNC_MISSES) := by
  decide +kernel

/-- The hypotheses of `MeshTimersComplete` can be met, further clauses. -/
theorem meets_MeshTimersComplete_2 :
    (up.txnOf 7 = none ∧ (busy (nodeRec 0x0A 2) (txn .hostData .awaitReply)).txnOf 7 = some (txn .hostData .awaitReply))
    ∧ ((busy (nodeRec 0x0A 2) (txn .hostData .booked)).txnOf 7 = some (txn .hostData .booked) ∧ (txn .hostData .booked).st ≠ .queued)
    ∧ (let t := txn .hostData .queued;
        let r := nodeRec 0x0B 2;
        let s := busy r t;
        let n := ((s.opportunity t (s.absSlot (s.air + 220 * usHalfNs) + 1)).getD (0, 0));
        s.txnOf 7 = some t ∧ t.st = .queued ∧ 2 ≤ (s.time.base[3]).st ∧ s.isHeld 6 = false ∧ s.isHeld 7 = false
        ∧ (s.opportunity t (s.absSlot (s.air + 220 * usHalfNs) + 1)).isSome = true ∧ s.routeTo t.flock = some 5 ∧ s.recOf 5 = some r
        ∧ r.ctr.own + 2 ≤ ctrMax
        ∧ ((s.lookup 5).findPlan { t with nodeTag := r.tag t.flock, mode := r.link.mode, chOffset := r.link.chOffset } 5 r n.2
            ((t.deadline - (s.lookup 5).air) / (n.2 * (s.lookup 5).tSlot) + 1) n.1 t.refusal).1.isSome = true) := by
  decide +kernel

/-- The hypotheses of `LinkCommandsComplete` can be met, the first clauses. -/
theorem meets_LinkCommandsComplete :
    (5 < 2 ^ 20 ∧ (net (nodeRec 0x0A 2)).recOf 5 = some (nodeRec 0x0A 2) ∧ (nodeRec 0x0A 2).link.st ≠ 0)
    ∧ (let r := { nodeRec 0x0A 2 with link := { (nodeRec 0x0A 2).link with leave := some 2 } };
        (net r).flock.recs = [(5, r)] ∧ r.link.leave = some 2 ∧ (net r).freeTxn = some 0)
    ∧ (2 ^ 20 ≤ 2 ^ 20 ∧ 2 ^ 20 - 1 < 2 ^ 20 ∧ up.recOf (2 ^ 20 - 1) = none)
    ∧ (radio.chmapReject 0 0 (radio.cfgN (inst Obj.MESH_CHMAP_C0 (0 : Fin 6))) ≠ 0)
    ∧ (let s : State := { net (nodeRec 0x0A 0) with flock := radio.flock };
        s.chmapReject 0 1 (s.cfgN (inst Obj.MESH_CHMAP_C0 (0 : Fin 6))) = 0 ∧ s.cfgN (inst Obj.MESH_BEACON_ENABLE (0 : Fin 6)) = 0
          ∧ s.flock.recs = [])
    ∧ (let s := (net (nodeRec 0x0A 0)).cfgPut (inst Obj.MESH_BEACON_ENABLE 0) (scalar 1);
        s.chmapReject 0 1 (s.cfgN (inst Obj.MESH_CHMAP_C0 (0 : Fin 6))) = 0 ∧ s.cfgN (inst Obj.MESH_BEACON_ENABLE (0 : Fin 6)) ≠ 0)
    ∧ (radio.channelKhz 0 35 = none ∧ radio.channelKhz 4 10 = none) := by
  decide +kernel

/-- The hypotheses of `LinkCommandsComplete` can be met, further clauses. -/
theorem meets_LinkCommandsComplete_2 :
    let e := lockEntry lockBytes 0;
        radio.channelKhz 0 34 = some 869900 ∧ (radio.channelKhz 0 5) = some 864100 ∧ radio.lockFor 864100 1 = some (0, e) ∧ e.dwellWin ≠ 0 := by
  decide +kernel

/-- The hypotheses of `FlockWritesComplete` can be met. -/
theorem meets_FlockWritesComplete :
    (2 ^ 20 ≤ 2 ^ 20 ∧ up.flockCfgCheck 0 (FlockCfg.ofFields [9, 1, 0, 0, 0, 0, 0, 0, 0]) ≠ 0)
    ∧ (let v : List Int := [9, 0x0A, 1, 0, 0, 0, 0, 0, 0];
        let s : State := { up with port := { up.port with ddr := 2, ddrSize := 8 } };
        2 ^ 20 - 1 < 2 ^ 20 ∧ v.length = 9 ∧ fieldsOk flockCfgFields v = true ∧ s.flockCfgCheck 5 (FlockCfg.ofFields v) = 0
        ∧ (FlockCfg.ofFields v).cls ≠ 0 ∧ s.recOf 5 = none)
    ∧ (let v : List Int := [8, 0x0A, 1, 0, 0, 0, 0, 0, 0];
        let s : State := { net (nodeRec 0x0A 0) with port := { up.port with ddr := 2, ddrSize := 8 } };
        s.flockCfgCheck 5 (FlockCfg.ofFields v) = 0 ∧ s.recOf 5 = some (nodeRec 0x0A 0) ∧ (nodeRec 0x0A 0).cfg.eui ≠ fieldN v 0
        ∧ (nodeRec 0x0A 0).cfg.eui = fieldN [9] 0)
    ∧ (let v : List Int := [0, 0, 0, 0, 0, 0, 0, 0, 0];
        let s : State := { up with port := { up.port with ddr := 2, ddrSize := 8 } };
        fieldsOk flockCfgFields v = true ∧ s.flockCfgCheck 5 (FlockCfg.ofFields v) = 0 ∧ (FlockCfg.ofFields v).cls = 0 ∧ s.recOf 5 = none)
    ∧ (([] : List Int).length ≠ 46 ∧ ([] : List Int).length ≠ 9)
    ∧ (let v := (nodeRec 0x0A 0).fields 0;
        let s : State := { up with port := { up.port with ddr := 2, ddrSize := 8 } };
        v.length = 46 ∧ fieldsOk flockTableFields v = true ∧ s.restoreCheck 5 (FlockRec.ofFields v) = 0 ∧ (FlockRec.ofFields v).cfg.cls ≠ 0
        ∧ (FlockRec.ofFields v).link.st = 0 ∧ (FlockRec.ofFields v).ctr.own + s.cfgN Obj.LINK_CTR_MARGIN < 0xFFFFF000) := by
  decide +kernel
-- RAW
/-- Rings 0, 1 and 2 running, with two descriptors in the ones that the host produces, the block a bus master. -/
def rings : State :=
  let s := radio.cfgPut Obj.RING_CFG ([[0, 0, 64, 0, 1, 1, 0], [0, 0, 64, 1, 1, 1, 5], [0, 0, 64, 2, 1, 1, 0]] ++ List.replicate 3 [0, 0, 0, 0, 0, 0, 0])
  s.modHost fun h => { h with busMaster := true, ring := ((h.ring.set 0 ⟨1, 0, 2, 0, 0, none⟩).set 1 ⟨1, 0, 2, 0, 2, some 0⟩).set 2 ⟨1, 0, 2, 0, 0, none⟩ }
/-- A descriptor: type, length, buffer and the octet that follows the record number. -/
def desc (type len buf : Nat) : Bytes :=
  natLe 1 type ++ [0] ++ natLe 2 len ++ natLe 4 1 ++ natLe 8 buf ++ natLe 4 5 ++ List.replicate 44 0
/-- UART2 on, and a character 0x55 on its line at the default sampling. -/
def uart : State := cfgd (inst Obj.UART_ENABLE 2) 3
def line55 : List Bool :=
  [false, true, false, true, false, true, false, true, false, true].flatMap fun b => List.replicate 16 b
def onUart (n : Fin 4) (f : Uart → Uart) : State := uart.modUart n f
/-- A campaign of one block on path 0 and in slot 10, running; a chorus request. -/
def camp : State :=
  let c : Campaign := { Campaign.reset with
    st := 1, round := 1, members := [⟨5, 0, 1⟩], firstAsn := 2, blocks := 2, cfg := [1, 0, 10, 4, 0, 1, 0, 64, 0, 3, 0] }
  let s := net (nodeRec 0x0B 2)
  { s with flock := { s.flock with camp := s.flock.camp.set 0 c }, port := { s.port with ddr := 2, ddrSize := 8 } }
def chorus : ChorusReq := ⟨5, 9, 0, 3, 3, 0, 80, 1, 5, 0, 1⟩
def chorusReq : DelReq := ⟨3, 1, 5, 0, 1, 0, 400000000000, [1], 0, some chorus, some 7, 0, 0, 0, 0x27, none⟩
def chorusTxn : Txn := { txn .chorus .queued with req := some 3 }
def choir : State :=
  let s := busy (nodeRec 0x0B 2) chorusTxn
  let s := s.roPut (inst Obj.RF_CAL_STATUS 0) (List.replicate 9 [1])
  { s.modBase 3 fun b => { b with flags := 1, err := 0 } with flock := { s.flock with reqs := [chorusReq] } }

/-- The hypotheses of `FlockCacheAndRequests` can be met, the first clauses. -/
theorem meets_FlockCacheAndRequests :
    (up.flock.recs = [] ∧ up.flock.fetching.contains 5 = false ∧ up.flock.cache.contains 5 = false)
    ∧ (let s := net (nodeRec 0x0B 2);
        s.flock.recs = [(5, nodeRec 0x0B 2)] ∧ s.worksSoon 5 (nodeRec 0x0B 2) = true ∧ s.flock.cache.contains 5 = false)
    ∧ (let s := camp;
        let s := { s with flock := { s.flock with fetching := [5] } };
        s.flock.fetching.contains 5 = true ∧ s.extMem = true ∧ (s.recOf 5).isSome = true ∧ s.flock.cache.contains 5 = false
        ∧ s.flock.cache.length < s.flockLines)
    ∧ (({ up with flock := { up.flock with cache := [5] } } : State).flock.cache.contains 5 = true)
    ∧ (up.mesh.txns.filter (fun t => t.flock == 5 && t.st == .booked) = [] ∧ up.reqOf 3 = none ∧ up.txnOf 7 = none)
    ∧ (choir.reqOf 3 = some chorusReq ∧ chorusReq.txn.isSome = true)
    ∧ (let q := { chorusReq with txn := none };
        ({ up with flock := { up.flock with reqs := [q] } } : State).reqOf 3 = some q ∧ q.txn = none) := by
  decide +kernel

/-- The hypotheses of `FlockCacheAndRequests` can be met, further clauses. -/
theorem meets_FlockCacheAndRequests_2 :
    (512 ≤ 512 ∧ 511 < 512)
    ∧ (let n := (choir.chorusSlot chorus 0).getD 0;
        let u := (choir.toAir (n * choir.tSlot + 1000 * usHalfNs - 220 * usHalfNs)).putReq { chorusReq with made := 1 };
        choir.txnOf 7 = some chorusTxn ∧ chorusTxn.req.bind choir.reqOf = some chorusReq ∧ chorusReq.chorus = some chorus ∧ chorusTxn.st = .queued
        ∧ chorusReq.made < chorus.attempts ∧ choir.chorusSlot chorus chorusReq.made = some n ∧ choir.chorusStart n ≤ chorusTxn.deadline
        ∧ u.air + 48 * usHalfNs ≤ choir.chorusStart n
        ∧ (u.yieldBlocks n).chorusCheck { chorusReq with made := 1 } chorus n = .inr (0, 864100))
    ∧ (let c := { choir with time := up.time };
        let n := (c.chorusSlot chorus 0).getD 0;
        let u := (c.toAir (n * c.tSlot + 1000 * usHalfNs - 220 * usHalfNs)).putReq { chorusReq with made := 1 };
        (u.yieldBlocks n).chorusCheck { chorusReq with made := 1 } chorus n = .inl 2)
    ∧ (7 < 512 ∧ (busy (nodeRec 0x0A 2) (txn .hostData .queued)).txnOf 7 = some (txn .hostData .queued) ∧ (txn .hostData .queued).kind = .hostData)
    ∧ ((busy (nodeRec 0x0A 2) (txn .hostData .onAir)).txnOf 7 = some (txn .hostData .onAir)) := by
  decide +kernel

/-- The hypotheses of `ImagesAndCampaigns` can be met. -/
theorem meets_ImagesAndCampaigns :
    (up.domServes 3 = true ∧ 1048576 % 2 ^ 21 ≤ 1048576 ∧ up.imageBusy (beginSlot 1048576) = false ∧ 1048576 < 1048577 % 2 ^ 21)
    ∧ (camp.imageBusy (beginSlot 0) = true ∧ camp.imageBusy 7 = false ∧ (7 : Nat) ≤ 7)
    ∧ (let s := { up with flock := { up.flock with image := up.flock.image.set 7 ⟨1, 0, 4, [1, 2]⟩, imageSlot := 7 } };
        s.domServes 3 = true ∧ s.flock.imageSlot = (7 : Fin 8).val ∧ (s.flock.image[(7 : Fin 8)]).st = 1
        ∧ (s.flock.image[(7 : Fin 8)]).content.length + 2 ≤ 1048576 ∧ s.imageBusy (7 : Fin 8) = false
        ∧ 0 ≠ (s.flock.image[(7 : Fin 8)]).content.length)
    ∧ (up.campStartCheck 4 ≠ 0 ∧ (3 : Nat) < 4 ∧ (up.flock.camp[(0 : Fin 4)]).runs = false ∧ (camp.flock.camp[(0 : Fin 4)]).runs = true)
    ∧ (let s := camp.cfgPut Obj.FL_CAMPAIGN_CFG (List.replicate 4 [1, 0, 11, 4, 0, 3, 0, 64, 0, 3, 0]);
        s.campStartCheck 1 = 0)
    ∧ (let c := camp.flock.camp[(0 : Fin 4)];
        let k := c.firstAsn * 64 + fieldAt c.cfg 2;
        let u := camp.toAir (k * camp.tSlot + 1000 * usHalfNs - 220 * usHalfNs);
        fieldAt c.cfg 1 < 6 ∧ camp.campReview 0 = camp ∧ c.runs = true ∧ camp.air + 220 * usHalfNs ≤ k * camp.tSlot + 1000 * usHalfNs
        ∧ (camp.air + 220 * usHalfNs) / camp.tSf ≤ c.firstAsn ∧ u.extMem = true ∧ u.secServes = true ∧ u.domOn (pathDomain 0) = true
        ∧ u.chorusInSlot k = false
        ∧ (u.flock.camp[(0 : Fin 4)]).nextBlock ((u.flock.camp[(0 : Fin 4)]).blocks + 1) (u.flock.camp[(0 : Fin 4)]).next = some 0
        ∧ (((u.sendBlock 0 0 k 0).flock.camp[(0 : Fin 4)]).nextBlock (((u.sendBlock 0 0 k 0).flock.camp[(0 : Fin 4)]).blocks + 1) 1).isSome = true) := by
  decide +kernel

/-- The hypotheses of `DoorbellsMoveRings` can be met. -/
theorem meets_DoorbellsMoveRings :
    (State.reset.barServes = false ∧ up.barServes = true ∧ up.bar0Quiet 2 = true ∧ up.host.ring[(5 : Fin 6)].st = 0 ∧ false = hostProduces 5)
    ∧ (rings.host.ring[(0 : Fin 6)].st = 1 ∧ true = hostProduces 0
    ∧ (1 % 2 ^ 32 + 2 ^ 32 - rings.host.ring[(0 : Fin 6)].cons) % 2 ^ 32 < rings.host.ring[(0 : Fin 6)].fill)
    ∧ (rings.ringCfg 0 2 < (65 % 2 ^ 32 + 2 ^ 32 - rings.host.ring[(0 : Fin 6)].cons) % 2 ^ 32
        ∧ (64 % 2 ^ 32 + 2 ^ 32 - rings.host.ring[(0 : Fin 6)].cons) % 2 ^ 32 ≤ rings.ringCfg 0 2
        ∧ rings.host.ring[(0 : Fin 6)].fill ≤ (2 % 2 ^ 32 + 2 ^ 32 - rings.host.ring[(0 : Fin 6)].cons) % 2 ^ 32)
    ∧ (rings.host.ring[(1 : Fin 6)].fill < (rings.host.ring[(1 : Fin 6)].prod + 2 ^ 32 - (2 ^ 32 - 1) % 2 ^ 32) % 2 ^ 32 ∧ false = hostProduces 1)
    ∧ ((rings.host.ring[(1 : Fin 6)].prod + 2 ^ 32 - 0 % 2 ^ 32) % 2 ^ 32 ≤ rings.host.ring[(1 : Fin 6)].fill ∧ true ≠ hostProduces 1) := by
  decide +kernel

/-- The hypotheses of `HostSettingsAndDescriptors` can be met, the first clauses. -/
theorem meets_HostSettingsAndDescriptors :
    (up.barServes = true ∧ up.bar0Quiet 2 = true ∧ up.ringCfgCheck 0 [] ≠ 0)
    ∧ (let v : List Int := [0, 0, 128, 0, 0, 1, 0];
        up.cfg.wf = true ∧ up.ringCfgCheck 5 v = 0 ∧ ((v[4]?).getD 0).toNat = up.ringCfg 5 4)
    ∧ (let v : List Int := [4096, 64, 4096, 7, 1, 256, 1000];
        let s := up.modHost fun h => { h with busMaster := true };
        s.cfg.wf = true ∧ s.ringCfgCheck 0 v = 0 ∧ (0 : Fin 6).val ≠ 1 ∧ s.domServes 4 = true ∧ (0 : Fin 6).val < (s.cfgVal Obj.RING_CFG).length
        ∧ s.ringCfg 0 4 = 0 ∧ v[4]? = some 1)
    ∧ (up.host.ring[(0 : Fin 6)].modSince = none ∧ rings.host.ring[(1 : Fin 6)].modSince = some 0 ∧ rings.hostServes = true
        ∧ rings.host.busMaster = true ∧ rings.host.ring[(1 : Fin 6)].st ≠ 0)
    ∧ (up.hostServes = true ∧ up.start.cfgServed = true ∧ (up.modStart fun x => { x with cfgServed := false }).start.cfgServed = false)
    ∧ (1 % 2 = 1 ∧ up.bar0Quiet 8 = true ∧ up.domOn 17 = true ∧ 2 % 2 = 0 ∧ up.canFetch 0 = false ∧ up.canFetch 2 = false)
    ∧ (rings.canFetch 0 = true ∧ rings.domGone 6 = false ∧ rings.hostTxns < rings.hostRoom ∧ rings.freeTxn = some 0) := by
  decide +kernel

/-- The hypotheses of `HostSettingsAndDescriptors` can be met, further clauses. -/
theorem meets_HostSettingsAndDescriptors_2 :
    (leAt (desc 1 4 1) 8 8 % 64 ≠ 0 ∧ leAt (desc 1 4 64) 8 8 % 64 = 0 ∧ leAt (desc 3 4 64) 0 1 ≠ 1 ∧ leAt (desc 1 0 64) 2 2 = 0
      ∧ 1024 < leAt (desc 1 1025 64) 2 2)
    ∧ ((rings.fetched 0).deliveryOk (desc 1 1024 64) ((rings.fetched 0).reqFrom (desc 1 1024 64) [1, 2]) = true)
    ∧ (rings.legacyOk (desc 2 255 64) = true ∧ rings.legacyOk (desc 2 256 64) = false ∧ rings.legacyOk (desc 2 1 64) = false)
    ∧ (rings.canFetch 2 = true ∧ rings.host.bufs.length < 64 ∧ leAt (desc 0x10 0 128) 0 1 = 0x10 ∧ leAt (desc 0x10 0 128) 2 2 = 0
        ∧ leAt (desc 0x10 0 128) 8 8 % 64 = 0 ∧ leAt (desc 0x10 0 127) 8 8 % 64 ≠ 0 ∧ leAt (desc 1 0 0) 0 1 ≠ 0x10 ∧ leAt (desc 0x10 1 0) 2 2 ≠ 0)
    ∧ (rings.host.staging = [] ∧ (∀ n : Fin 6, rings.host.ring[n].st ≠ 2) ∧ rings.ringCfg 2 1 = 0) := by
  decide +kernel

/-- The hypotheses of `NetworkAndMemoryComplete` can be met. -/
theorem meets_NetworkAndMemoryComplete :
    (let s := cfgd (inst Obj.ETH_MODE 1) 2;
        s.port.eth[(1 : Fin 2)].up = false ∧ s.ethOn 1 = true ∧ up.ethOn 1 = false)
    ∧ (withEth.port.eth[(0 : Fin 2)].up = true ∧ withEth.ethOn 0 = true ∧ withEth.cfgN (inst Obj.ETH_VLAN (0 : Fin 2)) = 0)
    ∧ (let f : EthArg := ⟨64, true, 1, [], .ptpL2⟩;
        f.fcsOk = true ∧ 1522 ≤ 1522 ∧ 1522 < 1523 ∧ f.vlans = [] ∧ f.kind = .ptpL2 ∧ ({ f with fcsOk := false } : EthArg).fcsOk = false)
    ∧ (let s := withEth.cfgPut (inst Obj.ETH_IPV4 0) (scalar 77);
        (77 : Nat) ≠ 0 ∧ s.cfgN (inst Obj.ETH_IPV4 (0 : Fin 2)) = 77)
    ∧ (camp.extMem = true ∧ up.extMem = false ∧ up.port.flashSt ≠ 1 ∧ 16 < 17)
    ∧ (let s := { up.modFlt fun x => { x with recPending := [⟨1, 1, 1, 0, 0, 0, 0, 0, 0, 0, 0⟩] } with port := { up.port with flashSt := 1 } };
        s.port.flashSt = 1 ∧ 0x03100000 ≤ 0x031FFFFF ∧ 0x031FFFFF < 0x03200000 ∧ s.flt.recPending ≠ []) := by
  decide +kernel

/-- The hypotheses of `UartsComplete` can be met, the first clauses. -/
theorem meets_UartsComplete :
    (uart.domServes 1 = true ∧ uart.rxDeaf 2 = false ∧ uart.uartLoref 2 = false
      ∧ (uart.rxDecide 2 (uart.uartFrame 2) line55).map (·.isSome) = some true
        ∧ uart.uart.port[(2 : Fin 4)].rx.length < 64 ∧ uart.uart.port[(2 : Fin 4)].lost = false)
    ∧ (let s := (onUart 2 fun u => { u with ready := true });
        s.uart.port[(2 : Fin 4)].rx.length + 1 < s.uartN 2 Obj.UART_RX_NOTIFY ∨ s.uart.port[(2 : Fin 4)].ready = true)
    ∧ (let votes : List Nat := [0, 3, 0, 3, 0, 3, 0, 3, 0, 3];
        votes.length = 10 ∧ (∀ k ∈ votes, k = 0 ∨ k = 3) ∧ votes[0]? = some 0 ∧ votes[9]? = some 3)
    ∧ (uart.rxDecide 2 (uart.uartFrame 2) ([true, true, false, false, false] ++ List.replicate 20 true) = some none
    ∧ uart.rxDecide 2 (uart.uartFrame 2) (List.replicate 20 true) = none)
    ∧ (up.domServes 1 = true ∧ up.rxDeaf 3 = true ∧ 64 ≤ (onUart 2 fun u => { u with rx := List.replicate 64 0 }).uart.port[(2 : Fin 4)].rx.length)
    ∧ (with485.uartRxOn 0 = true ∧ with485.uart.port[(0 : Fin 4)].line < 2 ∧ with485.uartLoref 0 = true ∧ uart.uartRxOn 2 = true
    ∧ uart.uart.port[(2 : Fin 4)].line < 2)
    ∧ (uart.uart.port[(2 : Fin 4)].line ≠ 3 ∧ uart.uartServes = true ∧ uart.uart.port[(2 : Fin 4)].rx = [] ∧ 65 > 64) := by
  decide +kernel

/-- The hypotheses of `UartsComplete` can be met, further clauses. -/
theorem meets_UartsComplete_2 :
    (let s := onUart 2 fun u => { u with rx := [65], sending := some 66 };
        s.uartServes = true ∧ s.uart.port[(2 : Fin 4)].rx ≠ [] ∧ s.uart.port[(2 : Fin 4)].ready = false ∧ s.uart.port[(2 : Fin 4)].sending = some 66
        ∧ s.uart.port[(2 : Fin 4)].tx.length + 64 ≤ 64 ∧ 64 < s.uart.port[(2 : Fin 4)].tx.length + 65 ∧ s.uart.port[(2 : Fin 4)].tx = [])
    ∧ (let s := (cfgd (inst Obj.UART_ENABLE 1) 3).modUart 1 fun u => { u with tx := [65, 66], tail := true };
        (1 : Fin 4).val < 2 ∧ s.uart.port[(1 : Fin 4)].sending = none ∧ s.uart.port[(1 : Fin 4)].tx = 65 :: [66] ∧ s.uartTxOn 1 = true
        ∧ s.uart.port[(1 : Fin 4)].tail = true ∧ up.uart.port[(1 : Fin 4)].tail = false)
    ∧ ((2 : Fin 4).val ≥ 2 ∧ up.uart.port[(2 : Fin 4)].tx = [])
    ∧ (let s := up.modStart fun x => { x with inReset := true, sources := 8 };
        s.start.inReset = true ∧ s.start.sources.testBit 3 = true ∧ up.start.inReset = false) := by
  decide +kernel
def dm (d : Fin 18) (f : Domain → Domain) : State := up.putDom d (f (up.dom d))
def entering (d : Fin 18) (k o : Nat) : State := dm d fun x => { x with st := 3, step := k, other := o, came := 2 }
def leafOff : State := dm 6 fun x => { x with st := 2 }
def allLow (s : State) : State := { s with cfg := ((List.range 7).foldl (fun s d => s.cfgPut (inst Obj.PW_TARGET d) (scalar 0)) s).cfg }

/-- The hypotheses of `PowerTargets` can be met, the first clauses. -/
theorem meets_PowerTargets :
    (2 < 3 ∧ 18 ≤ 18)
    ∧ (1 ≤ 2 ∧ (up.targetRefusal 1 1).isSome = true)
    ∧ (up.targetRefusal 16 0 = none ∧ up.targetRefusal 7 0 = none ∧ (up.dom 16).st = 2)
    ∧ ((16 : Fin 18) ≠ 0 ∧ ((dm 16 fun x => { x with st := 0 }).dom 16).st = 0 ∧ ((dm 16 fun x => { x with st := 5 }).dom 16).st = 5)
    ∧ (0 < 2 ∧ up.targetRefusal 16 0 = none ∧ (up.dom 16).st = 2 ∧ 13 ≤ (16 : Fin 18).val ∧ up.targetRefusal 16 1 = none)
    ∧ ((entering 16 1 0).targetRefusal 16 1 = none ∧ ((entering 16 1 0).dom 16).st = 3 ∧ ((dm 16 fun x => { x with st := 4 }).dom 16).st = 4
        ∧ (dm 16 fun x => { x with st := 4 }).targetRefusal 16 0 = none)
    ∧ ((16 : Fin 18) ≠ 0 ∧ (up.dom 16).st = 2 ∧ ((dm 16 fun x => { x with st := 4 }).dom 16).st = 4) := by
  decide +kernel

/-- The hypotheses of `PowerTargets` can be met, further clauses. -/
theorem meets_PowerTargets_2 :
    ((dm 16 fun x => { x with st := 1 }).dom 16).st = 1 ∧ ((dm 16 fun x => { x with st := 1 }).dom 16).release = false := by
  decide +kernel

/-- The hypotheses of `DependentsRefuse` can be met. -/
theorem meets_DependentsRefuse :
    ((1 : Fin 18) ≠ 0 ∧ 0 < 2 ∧ (1 : Fin 18).val ∈ providers (2 : Fin 18) ∧ 0 < up.level 2
      ∧ (∀ y : Fin 18, y < 2 → (1 : Fin 18).val ∈ providers y → up.level y ≤ 0))
    ∧ (up.targetRefusal 1 0 = some (1, 2)) := by
  decide +kernel

/-- The hypotheses of `EntriesAndExitsComplete` can be met, the first clauses. -/
theorem meets_EntriesAndExitsComplete :
    ((up.dom 16).st ≠ 3 ∧ ((entering 16 2 0).dom 16).step ≠ 1)
    ∧ (let s := (dm 16 fun x => { x with st := 3, step := 1, wake := true });
        (s.dom 16).st = 3 ∧ (s.dom 16).step = 1 ∧ s.domIdle 16 = true ∧ (s.dom 16).wake = true)
    ∧ (((entering 1 1 0).dom 1).step = 1 ∧ (entering 1 1 0).domIdle 1 = true ∧ ((entering 1 1 0).dom 1).wake = false
    ∧ (entering 1 1 0).lowerRefusal 1 ((entering 1 1 0).dom 1).other = some (1, 2))
    ∧ (((entering 16 1 0).dom 16).came = 2 ∧ ((entering 16 1 0).dom 16).held = none)
    ∧ (((entering 16 1 0).dom 16).st = 3 ∧ ((entering 16 1 0).dom 16).step = 1 ∧ ((entering 16 1 0).dom 16).wake = false
        ∧ (entering 16 1 0).lowerRefusal 16 ((entering 16 1 0).dom 16).other = none ∧ 13 ≤ (16 : Fin 18).val ∧ (16 : Fin 18).val ≠ 13)
    ∧ (let s := (entering 7 1 0);
        (7 : Fin 18).val = 7 + (0 : Fin 6).val ∧ (s.dom 7).st = 3 ∧ (s.dom 7).step = 1 ∧ (s.modPath 0 fun x => { x with st := 5 }).domIdle 7 = true
        ∧ (s.dom 7).wake = false ∧ (s.modPath 0 fun x => { x with st := 5 }).lowerRefusal 7 (s.dom 7).other = none ∧ 0 < 1)
    ∧ (let s := { up with pwr := { up.pwr with saveQ := [16] } };
        s.pwr.saving = none ∧ s.pwr.saveQ = 16 :: [] ∧ 16 ≠ 15 ∧ 16 ≠ 17) := by
  decide +kernel

/-- The hypotheses of `EntriesAndExitsComplete` can be met, further clauses. -/
theorem meets_EntriesAndExitsComplete_2 :
    (let s := { up with pwr := { up.pwr with saving := some 16 } };
        s.pwr.saving.isSome = true ∧ up.pwr.saveQ = [] ∧ up.pwr.saving = none)
    ∧ (let s := { entering 16 3 1 with pwr := { (entering 16 3 1).pwr with saving := some 16 } };
        s.pwr.saving = some (16 : Fin 18).val ∧ (s.dom 16).wake = false ∧ up.pwr.switchQ = [])
    ∧ (let s := { entering 5 3 0 with pwr := { (entering 5 3 0).pwr with switchQ := [5] } };
        s.pwr.switchQ = 5 :: [] ∧ s.pwr.switching = none ∧ s.port.eth[(0 : Fin 2)].up = false ∧ s.port.eth[(1 : Fin 2)].up = false)
    ∧ (((entering 16 4 0).dom 16).st = 3 ∧ ((entering 16 4 0).dom 16).step = 4 ∧ ((entering 16 5 1).dom 16).step = 5
    ∧ ((entering 16 4 0).dom 16).wake = false
        ∧ ((entering 16 4 0).dom 16).held = none ∧ ((entering 16 4 0).dom 16).other = 0)
    ∧ (((entering 16 3 0).dom 16).step < 4 ∧ ((entering 16 3 0).dom 16).step ≤ 5 ∧ (up.dom 16).step ≤ 5)
    ∧ (let s := (dm 16 fun x => { x with st := 4, other := 0 });
        (s.dom 16).st = 4 ∧ s.start.clock ≠ 0 ∧ (s.dom 16).other = 0 ∧ (up.dom 16).st ≠ 4)
    ∧ (let s := (dm 16 fun x => { x with st := 4, other := 1, valid := true });
        let u := { s with aon := { s.aon with bank := s.aon.bank.set 3 { s.aon.bank[(3 : Fin 4)] with st := 1, intact := true } } };
        (u.dom 16).st = 4 ∧ u.start.clock ≠ 0 ∧ (u.dom 16).other = 1 ∧ u.aon.bank[(3 : Fin 4)].st = 1 ∧ u.aon.bank[(3 : Fin 4)].intact = true
          ∧ (u.dom 16).valid = true) := by
  decide +kernel

/-- The hypotheses of `EntriesAndExitsComplete` can be met, yet further clauses. -/
theorem meets_EntriesAndExitsComplete_3 :
    (let s := (dm 13 fun x => { x with st := 4 }).modStart fun x => { x with clock := 0 };
        (s.dom 13).st = 4 ∧ s.start.clock = 0 ∧ needsRef (13 : Fin 18) = true ∧ (qualifiedAt s.start.refSel []).isSome = false)
    ∧ (((dm 16 fun x => { x with st := 4 }).dom 16).held = none ∧ (16 : Fin 18) = 16)
    ∧ (let s := (dm 16 fun x => { x with st := 4, other := 0 });
        (s.dom 16).st = 4 ∧ (s.dom 16).other = 0 ∧ (s.dom 16).held = none ∧ (∀ x : Fin 18, (s.dom x).former = none))
    ∧ (8 ≤ 8 ∧ (cfgd Obj.RTC_ALARM_WAKE 0).cfgN Obj.RTC_ALARM_WAKE ≠ 1 ∧ 0 < 1 ∧ 7 < 8
    ∧ ((cfgd Obj.PW_WAKE_ENABLE 0).cfgN Obj.PW_WAKE_ENABLE).testBit 7 = false)
    ∧ (let s := (cfgd Obj.PW_WAKE_ENABLE 128).cfgPut Obj.PW_WAKE_TARGETS (List.replicate 8 [1]);
        (s.cfgN Obj.PW_WAKE_ENABLE).testBit 7 = true ∧ s.cfgN Obj.PW_WAKE_TARGETS 7 = 2 ^ (0 : Fin 18).val)
    ∧ (let s := (cfgd Obj.PW_WAKE_ENABLE 128).cfgPut Obj.PW_WAKE_TARGETS (List.replicate 8 [2]);
        (s.cfgN Obj.PW_WAKE_ENABLE).testBit 7 = true ∧ s.cfgN Obj.PW_WAKE_TARGETS 7 = 2 ^ (1 : Fin 18).val ∧ (1 : Fin 18) ≠ 0)
    ∧ (State.reset.start.clock = 0 ∧ up.start.clock ≠ 0) := by
  decide +kernel
def secd (f : SecState → SecState) : State := up.modSec f
def rooted (n : Fin 64) : State := secd fun x => { x with slot := x.slot.set n ⟨1, 1, 77⟩, sealValue := 5 }
def switching : State := secd fun x => { x with switchAsn := some 0, slot := x.slot.set 3 ⟨1, 1, 77⟩ }
def plainKey : Bytes := List.replicate 40 0

/-- The hypotheses of `RootsWrapsAndDistrictSwitch` can be met, the first clauses. -/
theorem meets_RootsWrapsAndDistrictSwitch :
    ((up.putDom 2 (Domain.reset 0)).domServes 2 = false ∧ up.rootLoadCheck 4 0 plainKey ≠ 0)
    ∧ ((0 : Fin 64).val < 2 ∧ (rooted 2).domServes 2 = true ∧ (rooted 2).tamperActive = false ∧ (rooted 2).slotRetired 0 = false
    ∧ plainKey.length = 40
        ∧ (∀ b ∈ plainKey.drop 32, b = 0) ∧ (rooted 2).sec.sealValue ≠ 0 ∧ (rooted 2).sec.erasePending = false ∧ (rooted 2).sec.writing = none)
    ∧ (3 < 4 ∧ 1 < 2 ∧ 3 ≤ 3 ∧ (List.replicate 40 (1 : BitVec 8)).length = 40 ∧ (1 : BitVec 8) ∈ (List.replicate 40 (1 : BitVec 8)).drop 32)
    ∧ (let s := secd fun x => { x with active := 4 };
        3 ≤ 3 ∧ plainKey.length = 40 ∧ s.tamperActive = true ∧ up.tamperActive = false)
    ∧ (let s := net (nodeRec 0x0A 2);
        plainKey.length = 40 ∧ ((s.flock.recs.head?).map (·.2.link.st)) = some 2)
    ∧ ((secd fun x => { x with switchAsn := some 9 }).sec.switchAsn.isSome = true)
    ∧ (let s := up.modFlt fun x => { x with retired := [⟨2, 6, 1⟩] };
        1 < 2 ∧ s.tamperActive = false ∧ s.slotRetired 1 = true) := by
  decide +kernel

/-- The hypotheses of `RootsWrapsAndDistrictSwitch` can be met, further clauses. -/
theorem meets_RootsWrapsAndDistrictSwitch_2 :
    (16 ≤ 16 ∧ up.domServes 2 = true ∧ up.sec.writing = none)
    ∧ (let s := secd fun x => { x with writing := some (0, [1], [Obj.SEC_ROOT_LOAD]) };
        s.sec.writing = some (0, [1], [Obj.SEC_ROOT_LOAD]) ∧ s.sec.waiting = [])
    ∧ ((up.domServes 2 = false ∨ up.nextWrapCheck 5 ≠ 0) ∧ 5 < 2 ^ 20 ∧ up.sec.slot[(3 : Fin 64)].st = 0 ∧ (rooted 3).recOf 5 = none
    ∧ (rooted 3).sec.slot[(3 : Fin 64)].st ≠ 0)
    ∧ (let s := (net (nodeRec 0x0A 2)).modSec fun x => { x with slot := x.slot.set 3 ⟨1, 1, 77⟩ };
        s.domServes 2 = true ∧ s.sec.slot[(3 : Fin 64)].st ≠ 0 ∧ s.recOf 5 = some (nodeRec 0x0A 2) ∧ (nodeRec 0x0A 2).link.st = 2
          ∧ (nodeRec 0x0A 3).link.st = 3)
    ∧ (up.keyWrapCheck 5 ≠ 0)
    ∧ (let s := net (nodeRec 0x0C 2);
        s.domServes 2 = true ∧ s.recOf ((5 * 2 ^ 32 + 5) / 2 ^ 32 % 2 ^ 20) = some (nodeRec 0x0C 2)
          ∧ s.recOf ((5 * 2 ^ 32 + 5) % 2 ^ 20) = some (nodeRec 0x0C 2)
        ∧ (nodeRec 0x0C 2).cfg.cls = 0x0C ∧ (nodeRec 0x0C 2).link.st = 2)
    ∧ (63 < up.asn + 64 ∧ (rooted 3).domServes 2 = true ∧ (rooted 3).sec.slot[(3 : Fin 64)].st ≠ 0 ∧ (rooted 3).asn + 64 ≤ 64
    ∧ (∀ x ∈ (rooted 3).flock.recs, x.2.link.st = 0)) := by
  decide +kernel

/-- The hypotheses of `RootsWrapsAndDistrictSwitch` can be met, yet further clauses. -/
theorem meets_RootsWrapsAndDistrictSwitch_3 :
    (up.sec.switchAsn = none ∧ (secd fun x => { x with switchAsn := some 9 }).sec.switchAsn = some 9
      ∧ (secd fun x => { x with switchAsn := some 9 }).asn ≠ 9 % 2 ^ 40)
    ∧ (switching.sec.switchAsn = some 0 ∧ switching.asn = 0 % 2 ^ 40 ∧ switching.flock.recs = [] ∧ (∀ k : Fin 4, switching.flock.camp[k].st = 0)
    ∧ (∀ i : Fin 64, 24 ≤ i.val → switching.sec.slot[i].st = 0)
        ∧ (∀ i ∈ List.range 40, switching.cfgN Obj.SEC_GROUPS i = 0) ∧ (∀ i ∈ List.range 6, switching.slotRetired i = false)) := by
  decide +kernel

/-- The hypotheses of `CacheEntropyAttestation` can be met. -/
theorem meets_CacheEntropyAttestation :
    (up.sec.deriving_ = [])
    ∧ (let s := secd fun x => { x with deriving_ := [⟨2, 0, 0, [9, 0]⟩] };
        s.sec.deriving_ = [⟨2, 0, 0, [9, 0]⟩] ∧ s.sec.slot[(2 : Fin 64)].gen = 0 ∧ (s.sec.cache.filter s.keyLive).length < s.keyLines)
    ∧ (let s := secd fun x => { x with deriving_ := [⟨2, 0, 0, [9, 0]⟩], cache := [⟨2, 0, 1, [9, 0]⟩] };
        let u := s.modFlt fun x => { x with retired := (List.range 4095).map fun i => ⟨2, 7, i⟩ };
        u.keyLines = 1 ∧ 0 < u.keyLines ∧ (u.sec.cache.filter u.keyLive).length = u.keyLines)
    ∧ (let s := secd fun x => { x with deriving_ := [⟨2, 1, 0, [9, 0]⟩] };
        s.sec.slot[(2 : Fin 64)].gen ≠ 1)
    ∧ (up.sec.cache.length ≤ up.keyLines)
    ∧ (up.sec.attest = none ∧ 5 < 2 ^ 256 ∧ up.domOn 2 = true ∧ (secd fun x => { x with attest := some 5 }).sec.attest = some 5) := by
  decide +kernel

/-- The hypotheses of `ZeroisationErases` can be met. -/
theorem meets_ZeroisationErases :
    0 ≠ 1 ∧ up.domOn 2 = true ∧ (up.putDom 2 (Domain.reset 0)).domOn 2 = false := by
  decide +kernel

/-- The hypotheses of `AlarmsAndPresence` can be met, the first clauses. -/
theorem meets_AlarmsAndPresence :
    (6 ≤ 6 ∧ (secd fun x => { x with active := 4 }).sec.active.testBit 2 = true)
    ∧ (2 ≤ 5 ∧ 5 < 6 ∧ up.sec.active.testBit 5 = false)
    ∧ (let s := cfgd Obj.SEC_TAMPER_ENABLE 0;
        s.sec.active.testBit 1 = false ∧ (s.cfgN Obj.SEC_TAMPER_ENABLE).testBit 1 = false)
    ∧ (let s := { cfgd Obj.SEC_TAMPER_ENABLE 1 with sec := { up.sec with presClass := 3 } };
        s.sec.active.testBit 0 = false ∧ (s.cfgN Obj.SEC_TAMPER_ENABLE).testBit 0 = true ∧ s.sec.presClass = 3
          ∧ (s.cfgN Obj.PW_WAKE_ENABLE).testBit 3 = false)
    ∧ (0 < 2 ∧ (secd fun x => { x with active := 5 }).sec.active.testBit 2 = true ∧ (secd fun x => { x with active := 5 }).sec.active.testBit 0 = true
        ∧ (secd fun x => { x with active := 5 }).sec.active.testBit 1 = false)
    ∧ (up.sec.mismatches = 0 ∧ up.sec.matches_ = 0 ∧ (secd fun x => { x with mismatches := 1 }).sec.mismatches = 1
    ∧ (secd fun x => { x with matches_ := 1 }).sec.matches_ = 1)
    ∧ (up.sec.presClass ≠ 3 ∧ (secd fun x => { x with presClass := 3 }).sec.presClass = 3
    ∧ 8 &&& (secd fun x => { x with presClass := 3 }).sec.active = 0) := by
  decide +kernel

/-- The hypotheses of `AlarmsAndPresence` can be met, further clauses. -/
theorem meets_AlarmsAndPresence_2 :
    (29999 < 30000 ∧ (up.cfgN Obj.PW_WAKE_ENABLE).testBit 2 = false ∧ up.sec.stuck = false ∧ up.sec.presClass = 0)
    ∧ ((secd fun x => { x with presClass := 2 }).sec.presClass = 2 ∧ 4999 < 5000 ∧ 30000 ≤ 30000
    ∧ (secd fun x => { x with stuck := true }).sec.stuck = true)
    ∧ ((secd fun x => { x with presClass := 1 }).sec.presClass = 1 ∧ (secd fun x => { x with presClass := 3 }).sec.presClass ≠ 0) := by
  decide +kernel
def timed (f : TimeState → TimeState) : State := up.modTime f
def based (f : TimeState → TimeState) : State := timed fun t => f { t with established := true, base := Vector.replicate 5 { t.base[(0 : Fin 5)] with now := 5000000000, st := 2 } }
def srcd (i : Fin 4) (f : TimeState → TimeState) : State := based fun t => f { t with selected := i.val + 1 }

/-- The hypotheses of `BellwetherSlewsSlowly` can be met. -/
theorem meets_BellwetherSlewsSlowly :
    (based id).time.established = true ∧ (based id).time.counting = true ∧ (based id).time.monoSave = none := by
  decide +kernel

/-- The hypotheses of `StepsMoveGnssOnly` can be met. -/
theorem meets_StepsMoveGnssOnly :
    up.time.stepDue = none ∧ (timed fun t => { t with stepDue := some (-7) }).time.stepDue = some (-7) ∧ up.time.ptp[(0 : Fin 2)].portState ≠ 6
        ∧ (timed fun t => { t with ptp := t.ptp.set 0 { t.ptp[(0 : Fin 2)] with portState := 6 } }).time.ptp[(0 : Fin 2)].portState = 6 := by
  decide +kernel

/-- The hypotheses of `SourcesComplete` can be met. -/
theorem meets_SourcesComplete :
    (up.time.selected = 0 ∧ (timed fun t => { t with selected := 2 }).time.selected = (1 : Fin 4).val + 1
      ∧ (timed fun t => { t with selected := 2 }).srcQualified 1 = false
        ∧ (∀ j, (timed fun t => { t with selected := 2 }).srcQualified j = false))
    ∧ (let s := after (.tmHostTime 1000) ((timed fun t => { t with selected := 4 }).cfgPut Obj.TM_SRC_PRIORITY [[1], [2], [3], [4]]);
        s.time.selected = 4 ∧ s.srcQualified 3 = true
          ∧ (s.toMono (s.time.src[(3 : Fin 4)].sampleAt + s.cfgN Obj.TM_HOST_VALID * secHalfNs + 1)).srcQualified 3 = false)
    ∧ (let s := (timed fun t => { t with selected := 1, src := t.src.set 0 { t.src[(0 : Fin 4)] with present := true, traceable := true } }).cfgPut Obj.TM_SRC_PRIORITY [[1], [2], [3], [4]];
        let u := s.modTime fun t => { t with src := t.src.set 0 { t.src[(0 : Fin 4)] with sampleAt := 30 * secHalfNs }, base := t.base.set 4 { t.base[(4 : Fin 5)] with now := 30 * secHalfNs } };
        u.time.selected = (0 : Fin 4).val + 1 ∧ (0 : Fin 4) ≠ 3 ∧ u.srcQualified 0 = true)
    ∧ (up.time.steppedEnd = none ∧ (timed fun t => { t with steppedEnd := some 9 }).time.steppedEnd = some 9)
    ∧ (ts96Valid 1000 = true ∧ ts96Valid (999999999 * 2 ^ 16) = true ∧ ts96Valid (1000000000 * 2 ^ 16) = false)
    ∧ (up.time.heldStep = none ∧ (timed fun t => { t with heldStep := some 8 }).time.heldStep = some 8 ∧ 0 ≠ 1)
    ∧ (up.time.established = false ∧ up.time.counting = true ∧ up.sec.switchAsn = none ∧ up.flock.recs = [] ∧ up.flock.reqs = [] ∧ up.rf.ended = []
        ∧ (∀ p : Fin 6, up.mesh.per[p].update = none ∧ up.cfgN (inst Obj.MESH_BEACON_ENABLE p) = 0)
        ∧ up.toEdge.recordSlew.asn / 256 = up.mesh.guardEpoch) := by
  decide +kernel
def grand : Master := ⟨1, 128, 6, 0x21, 0x4E5D, 128, 128, 0, true, 37, 5⟩
def measuredEth : State :=
  { withEth with port := { withEth.port with eth := withEth.port.eth.set 0 { withEth.port.eth[(0 : Fin 2)] with measured := true } } }
def ptpd (f : Ptp → Ptp) : State :=
  let s := (measuredEth.cfgPut (inst Obj.PTP_ROLE 1) (scalar 1)).cfgPut (inst Obj.PTP_PROFILE 1) (scalar 0)
  s.modTime fun t => { t with ptp := t.ptp.set 0 (f { t.ptp[(0 : Fin 2)] with master := some grand, portState := 9 }) }

/-- The hypotheses of `PtpAndPulsesComplete` can be met, the first clauses. -/
theorem meets_PtpAndPulsesComplete :
    (up.ptpRuns 0 = false ∧ up.time.ptp[(0 : Fin 2)].portState ≠ 8)
    ∧ (let s := (ptpd fun x => { x with pendingStep := some [] });
        s.ptpRuns 0 = true ∧ s.time.ptp[(0 : Fin 2)].portState = 9 ∧ s.time.ptp[(0 : Fin 2)].pendingStep = some [])
    ∧ (let s := ptpd id;
        s.ptpRuns 0 = true ∧ s.time.ptp[(0 : Fin 2)].pendingStep = none
        ∧ msHalfNs < ((3000000 + 5 + s.time.ptp[(0 : Fin 2)].meanDelay + s.cfgI (inst Obj.ETH_TS_ASYM (s.ptpPort 0)) - s.ptpIngress 0 : Int)).natAbs)
    ∧ (up.time.ptp[(1 : Fin 2)].pendingStep = none ∧ (∃ o ∈ ([5] : List Int), o.natAbs ≤ msHalfNs)
    ∧ (∀ o ∈ ([3000000] : List Int), msHalfNs < o.natAbs)
        ∧ (ptpd fun x => { x with pendingStep := some [3000000, 3000000, 3000000, 3000000] }).time.ptp[(0 : Fin 2)].pendingStep = some [3000000, 3000000, 3000000, 3000000])
    ∧ ((ptpd fun x => { x with master := none }).ptpRole 0 = 1 ∧ (ptpd fun x => { x with master := none }).cfgN (inst Obj.PTP_PROFILE 1) < 2
    ∧ up.ptpRuns 1 = false
        ∧ (up.cfgPut (inst Obj.PTP_ROLE 1) (scalar 2)).ptpRole 0 = 2)
    ∧ (let s := (ptpd fun x => { x with master := none, portState := 4 }).cfgPut (inst Obj.PTP_ROLE 1) (scalar 3);
        let u := s.modTime fun t => { t with established := true };
        u.time.ptp[(0 : Fin 2)].master = none ∧ u.ptpRole 0 = 3 ∧ u.time.established = true ∧ u.ptpRuns 0 = true
          ∧ u.time.ptp[(0 : Fin 2)].portState = 4 ∧ s.time.established = false)
    ∧ ((ptpd id).time.ptp[(0 : Fin 2)].master = some grand ∧ (ptpd id).ptpRole 0 = 1) := by
  decide +kernel

/-- The hypotheses of `PtpAndPulsesComplete` can be met, further clauses. -/
theorem meets_PtpAndPulsesComplete_2 :
    (let s := (ptpd fun x => { x with portState := 6 });
        s.ptpRuns 0 = true ∧ s.time.ptp[(0 : Fin 2)].portState = 6 ∧ s.cfgN (inst Obj.PTP_PROFILE 1) ≠ 1 ∧ s.cfgN (inst Obj.PTP_PROFILE 1) ≠ 3)
    ∧ (let s := (ptpd id).cfgPut (inst Obj.PTP_PROFILE 1) (scalar 1);
        s.ptpRuns 0 = true ∧ s.cfgN (inst Obj.PTP_PROFILE 1) = 1 ∧ up.ptpRuns 0 = false)
    ∧ ((ptpd id).time.ptp[(0 : Fin 2)].reqAt = none ∧ (ptpd fun x => { x with reqAt := some 10 }).time.ptp[(0 : Fin 2)].reqAt = some 10
        ∧ (0 - 0) + ((20 : Int) - 10) = 2 * 5)
    ∧ (up.ptpRuns 1 = false ∧ up.ptpRole 1 ≠ 2 ∧ up.time.ptp[(1 : Fin 2)].portState ≠ 6)
    ∧ ((ptpd id).cfgN (inst Obj.PTP_PROFILE 1) = 0 ∧ (ptpd fun x => { x with portState := 8 }).time.ptp[(0 : Fin 2)].portState = 8)
    ∧ (up.port.eth[(0 : Fin 2)].up = false ∧ withEth.port.eth[(0 : Fin 2)].up = true
    ∧ ((withEth.cfgPut (inst Obj.PTP_PORT 1) (scalar 1)).cfgPut (inst Obj.PTP_PORT 2) (scalar 1)).ptpPort 0 ≠ 0
        ∧ ((withEth.cfgPut (inst Obj.PTP_PORT 1) (scalar 1)).cfgPut (inst Obj.PTP_PORT 2) (scalar 1)).ptpPort 1 ≠ 0)
    ∧ (up.tpState 0 ≠ 1 ∧ up.tpState 0 ≠ 2 ∧ 0 < up.tpPeriod 0 ∧ 0 ≤ ((0 : Nat) : Int) + up.cfgI Obj.TP_PHASE 0) := by
  decide +kernel

/-- The hypotheses of `PtpAndPulsesComplete` can be met, yet further clauses. -/
theorem meets_PtpAndPulsesComplete_3 :
    (let s := (based fun t => { t with pulse := t.pulse.set 0 { t.pulse[(0 : Fin 2)] with since := some 0 } }).cfgPut Obj.TP_ENABLE [[1], [1]];
        (s.tpState 0 = 1 ∨ s.tpState 0 = 2) ∧ s.time.pulse[(0 : Fin 2)].since = some 0 ∧ s.time.pulse[(0 : Fin 2)].active = false
          ∧ s.time.pulse[(0 : Fin 2)].lastEdge = none)
    ∧ (up.time.pulse[(0 : Fin 2)].active = false)
    ∧ (let s := timed fun t => { t with pulse := t.pulse.set 0 { t.pulse[(0 : Fin 2)] with active := true, lastEdge := some 7 } };
        s.time.pulse[(0 : Fin 2)].active = true ∧ s.time.pulse[(0 : Fin 2)].lastEdge = some 7) := by
  decide +kernel
def gn (f : GnssState → GnssState) : State :=
  (((up.cfgPut Obj.GN_ENABLE (scalar 1)).cfgPut Obj.GN_SYSTEMS (scalar 1)).cfgPut Obj.GN_SIGNALS (scalar 1)).modGnss f
def banded (f : GBand → GBand) : State := gn fun g => { g with band := g.band.set 0 (f g.band[(0 : Fin 2)]) }
def satJob : AcqJob := ⟨0, 5, .cold, 0⟩
def acq : State := gn fun g => { g with jobs := [satJob] }
def chan : Channel := ⟨0, 0, 5, 45, 0, false, true, true, false, 100, none, none, 1, 0, false⟩
def chand (f : Channel → Channel) : State := gn fun g => { g with chans := [f chan] }
def eph1 : EphArg := ⟨0, 5, 1, 100, 7, true, 1, true, true, 0, none, 0⟩
def noSolve : GnSolve := ⟨[], [], 0, 0, [0, 0, 0], [0, 0, 0], 0, 0, 0, 0, [], [], 0, false, 0, false, 0, 0, 0⟩

/-- The hypotheses of `GnssStartsAndFrontEnd` can be met, the first clauses. -/
theorem meets_GnssStartsAndFrontEnd :
    (1 < 2 ∧ up.gnEnableCheck 2 ≠ 0 ∧ up.sigsOn = [] ∧ (cfgd Obj.GN_SYSTEMS 0).cfgN Obj.GN_SYSTEMS = 0)
    ∧ ((gn id).cfgN Obj.GN_ENABLE = 1 ∧ (gn id).gnEnableCheck 1 = 0)
    ∧ (((gn id).cfgPut Obj.GN_ENABLE (scalar 0)).gnEnableCheck 1 = 0 ∧ ((gn id).cfgPut Obj.GN_ENABLE (scalar 0)).cfgN Obj.GN_ENABLE = 0)
    ∧ (up.gnss.band[(0 : Fin 2)].item = 0 ∧ (banded fun b => { b with item := 4 }).gnss.band[(0 : Fin 2)].item = (3 : Fin 4).val + 1)
    ∧ ((banded fun b => { b with item := 1 }).gnss.band[(0 : Fin 2)].item = (0 : Fin 4).val + 1
    ∧ (banded fun b => { b with item := 1 }).gnss.band[(0 : Fin 2)].retried = false)
    ∧ (let s := (banded fun b => { b with item := 1, retried := true }).modFw fun x => { x with otp := { x.otp with grf := Vector.replicate 2 (Vector.replicate 4 none) } };
        s.gnss.band[(0 : Fin 2)].item = 1 ∧ s.gnss.band[(0 : Fin 2)].retried = true ∧ s.fw.otp.grf[(0 : Fin 2)][(0 : Fin 4)] = none)
    ∧ (let s := (banded fun b => { b with item := 4, retried := true });
        s.gnss.band[(0 : Fin 2)].item = (3 : Fin 4).val + 1 ∧ s.gnss.band[(0 : Fin 2)].retried = true ∧ (3 : Fin 4) ≠ 0) := by
  decide +kernel

/-- The hypotheses of `GnssStartsAndFrontEnd` can be met, further clauses. -/
theorem meets_GnssStartsAndFrontEnd_2 :
    (let s := (gn id).cfgPut Obj.GN_SIGNALS (scalar 0x7FFF);
        let u := s.cfgPut Obj.GN_SYSTEMS (scalar 0xFF);
        u.bandRuns 0 = true ∧ u.bandRuns 1 = true ∧ (up.putDom 13 (Domain.reset 0)).bandRuns 0 = false
          ∧ (up.putDom 13 (Domain.reset 0)).bandRuns 1 = false)
    ∧ ((up.putDom 13 (Domain.reset 0)).domOn 13 = false ∧ up.domOn 13 = true)
    ∧ (let s := (cfgd Obj.GN_ANT_BIAS_ENABLE 1).modGnss fun g => { g with antOpen := false, ant := 1 };
        s.cfgN Obj.GN_ANT_BIAS_ENABLE ≠ 0 ∧ s.gnss.antOpen = false ∧ s.cfgN Obj.GN_ANT_SHORT_MA < s.cfgN Obj.GN_ANT_SHORT_MA + 1 ∧ s.domOn 13 = true
        ∧ s.gnss.ant = 1 ∧ s.cfgN Obj.GN_ANT_OPEN_MA ≤ s.cfgN Obj.GN_ANT_SHORT_MA)
    ∧ ((gn fun g => { g with ant := 4, antOpen := true }).gnss.ant = 4 ∧ (gn fun g => { g with ant := 4, antOpen := true }).gnss.antOpen = true
    ∧ up.gnss.ant ≠ 4) := by
  decide +kernel

/-- The hypotheses of `InterferenceComplete` can be met, the first clauses. -/
theorem meets_InterferenceComplete :
    ((up.putDom 13 (Domain.reset 0)).bandRuns 0 = false ∧ (up.putDom 13 (Domain.reset 0)).bandRuns 1 = false)
    ∧ (let s := (gn id).cfgPut (inst Obj.GN_NOTCH_THRESH 0) (scalar 10);
        s.bandRuns 0 = true ∧ 0 < s.cfgN (inst Obj.GN_NOTCH_THRESH (0 : Fin 2))
          ∧ (∀ i : Fin 4, s.gnss.band[(0 : Fin 2)].cell[i] = ⟨false, 0, 0, 0, 0⟩)
        ∧ (∀ i ∈ List.range 4, s.notchFixed 0 i = false) ∧ (s.cfgN (inst Obj.GN_NOTCH_THRESH (0 : Fin 2)) : Int) ≤ 10 ∧ 0 < 500
        ∧ 500 + 1 + 523 ≤ 1024)
    ∧ (specBin 0 1584500 = 512 ∧ 0 < 512 ∧ 0 < 511 ∧ 512 + 1 + 511 ≤ 1024)
    ∧ (let s := (gn id).cfgPut Obj.GN_BLANK_ENABLE [[1], [1]];
        s.bandRuns 0 = true ∧ s.cfgN Obj.GN_BLANK_ENABLE (0 : Fin 2) = 1 ∧ s.gnss.band[(0 : Fin 2)].suspended = false
        ∧ (blankRun (s.cfgN (inst Obj.GN_BLANK_THRESH (0 : Fin 2))) 0 1 [(0, 100)] 0 0).1 * 10000 / max 1 1 ≤ s.cfgN (inst Obj.GN_BLANK_MAX (0 : Fin 2)) * 100
        ∧ s.cfgN (inst Obj.GN_BLANK_MAX (0 : Fin 2)) * 100
          < (blankRun (s.cfgN (inst Obj.GN_BLANK_THRESH (0 : Fin 2))) (s.cfgN (inst Obj.GN_BLANK_HOLD (0 : Fin 2)) * 64 / 1000) 1 [(1000000, 1), (1000000, 1)] 0 0).1 * 10000 / max 1 2)
    ∧ ((banded fun b => { b with suspended := true }).gnss.band[(0 : Fin 2)].suspended = true
    ∧ (banded fun b => { b with suspended := true }).bandRuns 0 = true)
    ∧ ((∀ x ∈ ([(0, 100)] : List (Nat × Nat)), 16 * x.1 ≤ 10 * 10 * x.2) ∧ (∀ x ∈ ([(1000, 1)] : List (Nat × Nat)), 10 * 10 * x.2 < 16 * x.1))
    ∧ (let s := (gn id).cfgPut (inst Obj.GN_JAM_THRESH 0) (scalar 20);
        s.bandRuns 0 = true ∧ s.fw.otp.gref[(0 : Fin 2)] + (-2000) ≤ s.cfgI Obj.GN_EXT_GAIN (0 : Fin 2) + s.gnss.band[(0 : Fin 2)].gain
          ∧ s.gnss.band[(0 : Fin 2)].jammed = false
        ∧ 0 < s.cfgN (inst Obj.GN_JAM_THRESH (0 : Fin 2))) := by
  decide +kernel

/-- The hypotheses of `InterferenceComplete` can be met, further clauses. -/
theorem meets_InterferenceComplete_2 :
    (let s := (banded fun b => { b with high := 9 }).cfgPut (inst Obj.GN_JAM_THRESH 0) (scalar 20);
        s.bandRuns 0 = true ∧ s.gnss.band[(0 : Fin 2)].jammed = false ∧ s.gnss.band[(0 : Fin 2)].high = 9
        ∧ s.cfgN (inst Obj.GN_JAM_THRESH (0 : Fin 2)) ≤ min 255 (4 * (s.fw.otp.gref[(0 : Fin 2)] + 5000 - s.cfgI Obj.GN_EXT_GAIN (0 : Fin 2) - s.gnss.band[(0 : Fin 2)].gain).toNat / 10))
    ∧ (let s := (banded fun b => { b with jammed := true, low := 49 }).cfgPut (inst Obj.GN_JAM_THRESH 0) (scalar 20);
        s.bandRuns 0 = true ∧ s.gnss.band[(0 : Fin 2)].jammed = true ∧ s.gnss.band[(0 : Fin 2)].low = 49
        ∧ min 255 (4 * (s.fw.otp.gref[(0 : Fin 2)] + (-5000) - s.cfgI Obj.GN_EXT_GAIN (0 : Fin 2) - s.gnss.band[(0 : Fin 2)].gain).toNat / 10) + 8 < s.cfgN (inst Obj.GN_JAM_THRESH (0 : Fin 2))) := by
  decide +kernel

/-- The hypotheses of `AcquisitionAndTracking` can be met, the first clauses. -/
theorem meets_AcquisitionAndTracking :
    (up.gnssOn = false ∧ up.gnss.reacq = [] ∧ up.gnss.jobs = [])
    ∧ (acq.gnssOn = true ∧ acq.bandRuns (sigOf satJob.sig).band = true ∧ acq.domOn 16 = true ∧ acq.gnss.reacq = [] ∧ acq.gnss.jobs = [satJob]
    ∧ 0 < acq.cfgN Obj.GN_ACQ_THRESH
        ∧ acq.gnss.chans = [] ∧ acq.gnss.waiting = [] ∧ acq.flt.retired = [] ∧ acq.sigsOn = [satJob.sig])
    ∧ (up.cfgN Obj.GN_NIMB_AUTO ≠ 1)
    ∧ (let s := cfgd Obj.GN_NIMB_AUTO 1;
        s.cfgN Obj.GN_NIMB_AUTO = 1 ∧ s.gnss.jobs = [] ∧ s.cfgN Obj.SN_ENABLE = 0 ∧ s.domOn 16 = true
          ∧ (s.toMono (s.gnss.lastJobEnd + secHalfNs)).targetRefusal 16 0 = none)
    ∧ (let s := allLow (cfgd Obj.SN_ENABLE 1);
        (s.targetRefusal 16 0).isSome = true)
    ∧ (up.chanOf 3 = none ∧ (chand fun c => { c with lostAt := some 0 }).chanOf 0 = some { chan with lostAt := some 0 }
    ∧ (chand id).gnss.waiting = [])
    ∧ ((chand fun c => { c with openAt := some 0 }).chanOf 0 = some { chan with openAt := some 0 }) := by
  decide +kernel

/-- The hypotheses of `AcquisitionAndTracking` can be met, further clauses. -/
theorem meets_AcquisitionAndTracking_2 :
    (let s := (gn fun g => { g with reacq := [(0, 5, 0)] });
        s.gnss.reacq = [(0, 5, 0)] ∧ s.gnss.chans = [] ∧ s.sigsOn = [0] ∧ s.gnss.jobs = [] ∧ s.domOn 16 = true ∧ up.gnss.reacq = [])
    ∧ (let s := (chand id);
        s.chanOf 0 = some chan ∧ s.navServes = true ∧ s.bandRuns (sigOf chan.sig).band = true
          ∧ ({ s with eng := Vector.replicate 8 { Engine.reset with st := 4 } }).navServes = false) := by
  decide +kernel

/-- The hypotheses of `EphemeridesAndEpochs` can be met, the first clauses. -/
theorem meets_EphemeridesAndEpochs :
    ((gn id).gnssOn = true ∧ (gn id).navServes = true ∧ ({ eph1 with parityOk := false }).parityOk = false ∧ up.gnssOn = false)
    ∧ (eph1.parityOk = true ∧ eph1.iodOk = true ∧ eph1.distAlm = none ∧ (gn id).gnss.ephs = [] ∧ (gn id).gnss.spare = 0 ∧ (gn id).gnss.ephOnce = [])
    ∧ ((gn fun g => { g with ephOnce := [⟨0, 5, 100, 7, true, 1⟩] }).gnss.ephOnce = [⟨eph1.sys, eph1.sv, eph1.toe, eph1.iod, eph1.healthy, eph1.content⟩])
    ∧ (({ gn id with eng := Vector.replicate 8 { Engine.reset with st := 4 } }).gnssOn = true
    ∧ ({ gn id with eng := Vector.replicate 8 { Engine.reset with st := 4 } }).navServes = false)
    ∧ (let s := ((gn id).cfgPut Obj.GN_TIMING_MODE (scalar 0)).cfgPut Obj.GN_MEAS_ENABLE (scalar 0);
        s.gnssOn = true ∧ s.navServes = true ∧ s.gnss.chans = [] ∧ s.cfgN Obj.GN_TIMING_MODE = 0 ∧ s.cfgN Obj.GN_MEAS_ENABLE = 0
          ∧ noSolve.entries = [])
    ∧ (0 < secHalfNs / max 1 (up.cfgN Obj.GN_MEAS_RATE) ∧ up.time.counting = true ∧ up.gnss.epochAt = none)
    ∧ (up.cfgN Obj.GN_ENABLE = 0 ∧ (gn id).cfgN Obj.GN_ENABLE = 1 ∧ (gn id).domOn 15 = true) := by
  decide +kernel

/-- The hypotheses of `EphemeridesAndEpochs` can be met, further clauses. -/
theorem meets_EphemeridesAndEpochs_2 :
    (9248 < 9249 ∧ (List.replicate 32 (0 : BitVec 8)).length ≤ 9248 ∧ epochWhole [] = false ∧ epochWhole (List.replicate 32 0) = true
        ∧ up.time.epochs.find? (fun p => p.1 == leAt (List.replicate 32 0) 0 12) = none)
    ∧ (let s := timed fun t => { t with epochs := [(0, [(1, 5)])] };
        s.time.epochs.find? (fun p => p.1 == leAt (List.replicate 32 0) 0 12) = some (0, [(1, 5)])
        ∧ (((([(1, 5)] : List (Nat × Int)).map (·.1)).eraseDups.filter fun k => (peerEntries (leAt (List.replicate 32 0) 22 1) ((List.replicate 32 0).drop 32)).any fun p => p.1 == k).length) < 4)
    ∧ (let b : Bytes := List.replicate 22 0 ++ [4] ++ List.replicate 9 0 ++ (natLe 1 0 ++ natLe 1 1 ++ List.replicate 30 0);
        b.length = 64)
    ∧ (up.time.established = false ∧ (based id).time.established = true ∧ (based id).isHeld 0xB = false ∧ (based id).time.history = []) := by
  decide +kernel
def frag : SnFrag := ⟨5, 9, 1, 0, 0, 0, List.replicate 960 0, 0, false, 0, 868000, 0⟩
def snOn (f : SnapState → SnapState) : State := (cfgd Obj.SN_ENABLE 1).modSnap f
def capture0 : SnJob := ⟨5, 1, false, false, 0, 4, 0, false, [], [], [], 0, 1000, [], false, (0, 1), [], 1, 0⟩
def capData : RxFrame := { rx with data := [2], payload := 2 }

/-- The hypotheses of `SnapshotsComplete` can be met, the first clauses. -/
theorem meets_SnapshotsComplete :
    (up.cfgN Obj.SN_ENABLE = 0 ∧ (snOn id).cfgN Obj.SN_ENABLE ≠ 0 ∧ headerOk 2 0 (snOn id).tSlot = false
      ∧ headerOk frag.ctrl frag.offset (snOn id).tSlot = true ∧ frag.ctrl.testBit 4 = false)
    ∧ (1024 < ({ frag with samples := List.replicate 1025 0 }).m ∧ ({ frag with samples := List.replicate 959 0 }).m < 960)
    ∧ (let f := { frag with ctrl := 0x39 };
        headerOk f.ctrl f.offset (snOn id).tSlot = true ∧ 960 ≤ f.m ∧ f.m ≤ 1024 ∧ f.ctrl.testBit 4 = true ∧ (snOn id).snap.frags = [])
    ∧ (let f := { frag with ctrl := 0x21 };
        headerOk f.ctrl f.offset (snOn id).tSlot = true ∧ f.ctrl.testBit 4 = false ∧ f.ctrl.testBit 5 = true ∧ camp.extMem = true
          ∧ (∀ x ∈ (snOn id).snap.frags, x.flock ≠ f.flock))
    ∧ (frag.ctrl.testBit 5 = false ∧ 960 ≤ frag.m ∧ frag.m ≤ 1024)
    ∧ ((snOn id).capAir { frag with slot := 5 } = none ∧ (snOn id).capAir frag = some 0)
    ∧ ((snOn id).capFault frag frag 0 ≠ 0 ∧ (snOn id).queueFault frag [] ≠ 0 ∧ (snOn id).capFault frag { frag with stamp := 5000000 } 0 ≠ 0) := by
  decide +kernel

/-- The hypotheses of `SnapshotsComplete` can be met, further clauses. -/
theorem meets_SnapshotsComplete_2 :
    ((0 : Int) + ((snOn id).cfgPut Obj.SN_MAX_AGE (scalar 1)).cfgN Obj.SN_MAX_AGE * secHalfNs < (3000000000 : Nat)
      ∧ ((0 : Nat) : Int) ≤ 0 + (snOn id).cfgN Obj.SN_MAX_AGE * secHalfNs
        ∧ (snOn id).time.established = false ∧ ([] : List (Nat × SkySat)).length < (snOn id).cfgN Obj.SN_MIN_SV)
    ∧ (up.mesh.accepted.find? (isData 2) = none)
    ∧ ((got (nodeRec 0x0A 2) capData).mesh.accepted.find? (isData 2) = some capData ∧ capData.dup = false)
    ∧ ((got (nodeRec 0x0A 2) { capData with dup := true }).mesh.accepted.find? (isData 2) = some { capData with dup := true })
    ∧ (up.snap.frags.find? (fun x => x.flock == 5) = none ∧ (snOn fun x => { x with frags := [frag] }).snap.frags = [frag] ∧ frag.flock = 5)
    ∧ (let s := snOn fun x => { x with queue := [capture0] };
        s.snap.queue = capture0 :: [] ∧ s.snap.running = none ∧ s.mono ≤ capture0.queuedAt + s.cfgN Obj.SN_QUEUE_DEADLINE * msHalfNs
          ∧ s.domOn 16 = true ∧ s.snapShare = true
        ∧ (s.putDom 16 (Domain.reset 0)).domOn 16 = false)
    ∧ (let s := ((snOn fun x => { x with queue := [capture0] }).cfgPut Obj.SN_QUEUE_DEADLINE (scalar 1)).advance secHalfNs;
        capture0.queuedAt + s.cfgN Obj.SN_QUEUE_DEADLINE * msHalfNs < s.mono ∧ s.snap.queue = capture0 :: []) := by
  decide +kernel

/-- The hypotheses of `SnapshotsComplete` can be met, yet further clauses. -/
theorem meets_SnapshotsComplete_3 :
    (up.snap.queue = [] ∧ up.snap.running = none ∧ (snOn fun x => { x with running := some capture0 }).snap.running = some capture0
        ∧ up.eng[(6 : Fin 8)].st = 1 ∧ ({ up with eng := Vector.replicate 8 { Engine.reset with st := 4 } }).eng[(6 : Fin 8)].st ≠ 1)
    ∧ (up.snap.solving.length ≤ (0 : Fin 2).val ∧ ({ up with eng := Vector.replicate 8 { Engine.reset with st := 4 } }).eng[(5 : Fin 8)].st ≠ 1)
    ∧ (let s := (snOn fun x => { x with solving := [capture0] }).cfgPut Obj.SN_HEIGHT_AID (scalar 0);
        s.snap.solving[(0 : Fin 2).val]? = some capture0 ∧ s.eng[(5 : Fin 8)].st = 1 ∧ s.eng[(6 : Fin 8)].st = 1 ∧ s.cfgN Obj.SN_HEIGHT_AID = 0
          ∧ s.gnss.mismatch = false
        ∧ capture0.found.length < 4)
    ∧ (let j := { capture0 with found := [(0, 1), (0, 2), (0, 3), (0, 4), (0, 5)] };
        let a : SnSolve := ⟨true, [(true, 0, 0)], [0, 0, 0], 5, 5, 20, 0, 0, 10, []⟩;
        max 4 ((snOn id).cfgN Obj.SN_MIN_SV) ≤ j.found.length ∧ a.converged = true ∧ a.dist ≤ (snOn id).cfgN Obj.SN_MAX_RANGE * 10 + 3 * a.hAcc
          ∧ 5 ≤ j.found.length
        ∧ (a.tests.head?.map (·.1)) = some true)
    ∧ (up.snEnableCheck 2 ≠ 0 ∧ (up.putDom 16 (Domain.reset 0)).domOn 16 = false ∧ up.domOn 16 = true ∧ up.domOn 15 = true ∧ up.snap.frags = []) := by
  decide +kernel

/-- The hypotheses of `StoredValuesReadBack` can be met. -/
theorem meets_StoredValuesReadBack :
    up.storesWf = true ∧ (up.roVal (inst Obj.UART_COUNTS 0))[0]? = some [0] ∧ ([0] : List Int)[0]? = some 0 := by
  decide +kernel

/-- The hypotheses of `StepsKeepTheStores` can be met. -/
theorem meets_StepsKeepTheStores :
    up.storesWf = true := by
  decide +kernel

/-- The hypotheses of `StepsKeepTheLimits` can be met. -/
theorem meets_StepsKeepTheLimits :
    up.sessionsWf = true ∧ up.boundsWf = true ∧ (inSess sess).sessionsWf = true := by
  decide +kernel

/-- The hypotheses of `StepsOnlyProgramOtp` can be met. -/
theorem meets_StepsOnlyProgramOtp :
    up.fw.otp.lock[(0 : Fin 2)] = []
      ∧ (up.modFw fun x => { x with otp := { x.otp with lock := x.otp.lock.set 0 [1] } }).fw.otp.lock[(0 : Fin 2)] ≠ [] := by
  decide +kernel

end Sys2Proof.Tests
end

section
/-!
SUPPORT. RESET_COUNT (03_startup_and_firmware.md R94): every reset of core scope is `State.coreReset`, of which the count is said once, and
each source of Table SU-1 is shown to end in it from a state whose start-up part it has not touched.
-/

namespace Sys2Proof.Machine

/-! ### What leaves the start-up part as it is -/

@[simp] theorem State.advance_start (s : State) (d : HalfNs) : (s.advance d).start = s.start := rfl
@[simp] theorem State.toMono_start (s : State) (t : HalfNs) : (s.toMono t).start = s.start := rfl
@[simp] theorem State.writeDir_start (s : State) (d : Directory) : (s.writeDir d).start = s.start := rfl
@[simp] theorem State.fwActivatePut_start (s : State) : s.fwActivatePut.start = s.start := rfl

/-! ### The count of a reset -/

@[simp] theorem State.resetRegions_count (s : State) (sources count : Nat) : (s.resetRegions sources count).start.count = count := rfl

@[simp] theorem State.aonPowerOn_count (s : State) (vbat : Bool) : (s.aonPowerOn vbat).start.count = 1 := rfl

/-- A reset of core scope that starts counts, and the count saturates (R94). -/
theorem State.coreReset_count (s : State) (source : Nat) (h : s.start.inReset = false) :
    (s.coreReset source).start.count = min 0xFFFFFFFF (s.start.count + 1) := by
  simp [State.coreReset, h]

/-! ### Each source ends in a reset of core scope -/

theorem State.pinReset_long (s : State) (ns : Nat) (h : 10000 ≤ ns) : s.pinReset ns = s.coreReset 3 := by
  rw [State.pinReset, if_neg (by omega), if_pos h]

theorem State.chipReset_one (s : State) : s.chipReset 1 = s.coreReset 5 := rfl

theorem State.pcieReset_coreScope (s : State) (hp : s.start.perst = false) (hc : s.cfgN Obj.PERST_SCOPE = 1) :
    s.pcieReset = (s.modStart fun x => { x with perst := true }).coreReset 4 := by
  simp [State.pcieReset, hp, hc]

/-- The chip waits for the pending records, but for 20 ms at most (R553). -/
theorem State.supFailureReset_due (s : State) (h : s.flt.supFailedAt.isSome = true) :
    ∃ u : State, u.start = s.start ∧ s.supFailureReset = u.coreReset 8 := by
  obtain ⟨t, ht⟩ := Option.isSome_iff_exists.mp h
  by_cases hp : s.flt.recPending = []
  · exact ⟨s, rfl, by simp [State.supFailureReset, ht, hp]⟩
  · exact ⟨s.toMono (t + 20 * msHalfNs), State.toMono_start _ _, by simp [State.supFailureReset, ht, hp]⟩

theorem State.trialTimeout_due (s : State) (h : s.fw.trialEnd.isSome = true) :
    ∃ t, s.trialTimeout = (s.toMono t).coreReset 9 := by
  obtain ⟨t, ht⟩ := Option.isSome_iff_exists.mp h
  exact ⟨t, by simp [State.trialTimeout, ht]⟩

theorem State.activate_two (s : State) (h : s.fwActivateCheck 2 = 0) :
    s.activate 2 = ((s.accept Obj.FW_ACTIVATE (scalar 2)).fwActivatePut).coreReset 6 := by
  simp [State.activate, State.activatePut, h]

/-! ### The commands -/

/-- The command counts as a reset of core scope: RESET_COUNT rises by 1 and saturates (R94). -/
def CountsReset (c : Instr) (s : State) : Prop :=
  ∃ t, exec c s = .next t ∧ t.start.count = min 0xFFFFFFFF (s.start.count + 1)

/-- A command counts when it ends in a reset of core scope from a state that no reset holds and that has the count of the first. -/
theorem countsReset_of_coreReset {c : Instr} {s t u : State} {source : Nat} (he : exec c s = .next t)
    (hr : t = u.coreReset source) (h : u.start.inReset = false) (hcount : u.start.count = s.start.count) : CountsReset c s :=
  ⟨t, he, by rw [hr, u.coreReset_count source h, hcount]⟩

/-- Five sources reset whatever else the state holds. -/
theorem countsReset_always (s : State) (h : s.start.inReset = false) (c : Instr)
    (hc : c ∈ [Instr.corePowerOn, .coreBrownOut, .pinReset 10000, .chipReset 1, .thermalReset]) : CountsReset c s := by
  simp only [List.mem_cons, List.not_mem_nil, or_false] at hc
  obtain rfl | rfl | rfl | rfl | rfl := hc
  · exact ⟨_, rfl, s.coreReset_count 1 h⟩
  · exact ⟨_, rfl, s.coreReset_count 2 h⟩
  · exact countsReset_of_coreReset rfl (s.pinReset_long 10000 le_rfl) h rfl
  · exact countsReset_of_coreReset rfl s.chipReset_one h rfl
  · exact ⟨_, rfl, s.coreReset_count 7 h⟩

theorem countsReset_pcieReset (s : State) (h : s.start.inReset = false) (hp : s.start.perst = false)
    (hc : s.cfgN Obj.PERST_SCOPE = 1) : CountsReset .pcieReset s :=
  countsReset_of_coreReset rfl (s.pcieReset_coreScope hp hc) h rfl

theorem countsReset_supFailureReset (s : State) (h : s.start.inReset = false) (hf : s.flt.supFailedAt.isSome = true) :
    CountsReset .supFailureReset s := by
  obtain ⟨u, hu, hr⟩ := s.supFailureReset_due hf
  exact countsReset_of_coreReset rfl hr (by rwa [hu]) (by rw [hu])

theorem countsReset_trialTimeout (s : State) (h : s.start.inReset = false) (ht : s.fw.trialEnd.isSome = true) :
    CountsReset .trialTimeout s := by
  obtain ⟨t, hr⟩ := s.trialTimeout_due ht
  exact countsReset_of_coreReset rfl hr h rfl

theorem countsReset_fwActivate_two (s : State) (h : s.start.inReset = false) (hc : s.fwActivateCheck 2 = 0) :
    CountsReset (.fwActivate 2) s :=
  countsReset_of_coreReset rfl (s.activate_two hc) h rfl

/-- Settles O18: an AON power-on writes the count 1, and every other source ends in `State.coreReset` with the count it found. -/
theorem resetCountCounts : Obligations.ResetCountCounts :=
  ⟨fun s vbat => ⟨s.aonPowerOn vbat, rfl, s.aonPowerOn_count vbat⟩, countsReset_always, countsReset_pcieReset,
    countsReset_supFailureReset, countsReset_trialTimeout, countsReset_fwActivate_two⟩

end Sys2Proof.Machine
end

section
/-!
SUPPORT. A step of TB_GNSS (11_time_bases.md R389, R390): raising an event leaves the TIME region as it is, so what a step does to the
bases is the step of TB_GNSS, then that of each PTP base in master role, then the flags; each of the three is said once, base by base.
-/

namespace Sys2Proof.Machine

/-! ### Raising an event leaves the TIME region as it is -/

@[simp] theorem State.setWindow_time (s : State) (w : EventWindow) : (s.setWindow w).time = s.time := rfl

@[simp] theorem State.setIrq_time (s : State) (bit : Nat) : (s.setIrq bit).time = s.time := by
  unfold State.setIrq
  split_ifs <;> rfl

@[simp] theorem State.writeback_time (s : State) (n : Fin 6) (value : Nat) : (s.writeback n value).time = s.time := by
  unfold State.writeback
  split_ifs <;> rfl

@[simp] theorem State.signalRing_time (s : State) (n : Fin 6) : (s.signalRing n).time = s.time := rfl

@[simp] theorem State.writeRecord_time (s : State) (n : Fin 6) (r : RingRec) : (s.writeRecord n r).time = s.time := by
  simp only [State.writeRecord]
  split_ifs <;> simp

/-- Each way of a record (dropped, held, written, staged) touches the host part only. -/
@[simp] theorem State.postRing_time (s : State) (n : Fin 6) (r : RingRec) : (s.postRing n r).time = s.time := by
  simp only [State.postRing]
  split_ifs <;> simp

@[simp] theorem State.logEntry_time (s : State) (code inst flags time a b : Nat) :
    (s.logEntry code inst flags time a b).time = s.time := by
  simp only [State.logEntry]
  split_ifs <;> simp

@[simp] theorem State.queueAon_time (s : State) (code inst a b flags : Nat) : (s.queueAon code inst a b flags).time = s.time := by
  unfold State.queueAon
  split_ifs <;> simp

@[simp] theorem State.raise_time (s : State) (code inst a b : Nat) : (s.raise code inst a b).time = s.time := by
  simp only [State.raise, State.raiseF]
  split_ifs <;> simp

@[simp] theorem State.forceSync_time (s : State) : s.forceSync.time = s.time := by
  unfold State.forceSync
  split_ifs <;> rfl

/-! ### The bases after a change of one, and after their flags are refreshed -/

theorem State.modBase_base_same (s : State) (i : Fin 5) (f : Base → Base) : (s.modBase i f).time.base[i] = f s.time.base[i] := by
  simp [State.modBase, vmod]

theorem State.modBase_base_ne (s : State) {i j : Fin 5} (f : Base → Base) (h : i ≠ j) :
    (s.modBase i f).time.base[j] = s.time.base[j] :=
  Vector.getElem_set_ne i.isLt j.isLt (Fin.val_ne_of_ne h)

/-- A change of one base that keeps some part of it keeps that part of every base. -/
theorem State.modBase_base_keeps {α : Type} (p : Base → α) (s : State) (i j : Fin 5) {f : Base → Base} (h : ∀ b, p (f b) = p b) :
    p (s.modBase i f).time.base[j] = p s.time.base[j] := by
  by_cases hij : i = j
  · subst hij
    rw [s.modBase_base_same, h]
  · rw [s.modBase_base_ne f hij]

/-- TB_FLAGS, errors and states are refreshed: what else a base holds (Table TM-6) stays. -/
theorem State.refreshFlags_base_keeps {α : Type} (p : Base → α) (s : State) (j : Fin 5)
    (h : ∀ (b : Base) (st err flags : Nat), p { b with st := st, err := err, flags := flags } = p b) :
    p s.refreshFlags.time.base[j] = p s.time.base[j] :=
  (State.modBase_base_keeps p _ 3 j fun b => h b _ _ _).trans (State.modBase_base_keeps p _ 0 j fun b => h b b.st b.err _)

theorem State.refreshFlags_base_ne (s : State) {j : Fin 5} (h0 : 0 ≠ j) (h3 : 3 ≠ j) :
    s.refreshFlags.time.base[j] = s.time.base[j] :=
  (State.modBase_base_ne _ _ h3).trans (State.modBase_base_ne _ _ h0)

/-! ### The parts of a step -/

/-- TB_GNSS takes the step (R389). -/
def State.stepOwn (s : State) (e : Int) : State :=
  s.modBase 0 fun b => { b.shift e with
    steps := min (b.steps + 1) 0xFFFFFFFF, lastStepAt := ts96 s.mono, lastStepSize := e, st := 2 }

/-- The base of a PTP instance in master role takes the step of TB_GNSS (R378). -/
def State.stepMaster (s : State) (e : Int) (k : Fin 2) : State :=
  if s.time.ptp[k].portState = 6 then
    s.modBase (ptpBase k) fun b => { b.shift e with
      steps := min (b.steps + 1) 0xFFFFFFFF, lastStepAt := ts96 s.mono, lastStepSize := e }
  else s

/-- The bases that move in a step, one after the other. -/
def State.stepBases (s : State) (e : Int) : State := ((s.stepOwn e).stepMaster e 0).stepMaster e 1

/-- The step is no longer due, and STEPPED runs for 60 s from the TB_MONO time `now` (R389). -/
def State.closeStep (s : State) (now : HalfNs) : State :=
  s.modTime fun t => { t with stepDue := none, heldStep := none, steppedEnd := some (now + 60 * secHalfNs) }

theorem State.stepGnss_eq (s : State) (e : Int) : s.stepGnss e
    = (((s.stepBases e).closeStep s.mono).refreshFlags.raise Ev.TIME_STEPPED 0xFF (lo32 e) (hi32 e)).forceSync := rfl

/-! ### A PTP base in a step -/

theorem State.stepMaster_other (s : State) (e : Int) {k : Fin 2} (h : s.time.ptp[k].portState ≠ 6) : s.stepMaster e k = s := if_neg h

theorem State.stepMaster_ptp (s : State) (e : Int) (k : Fin 2) : (s.stepMaster e k).time.ptp = s.time.ptp := by
  unfold State.stepMaster
  split_ifs <;> rfl

theorem State.stepMaster_base_ne (s : State) (e : Int) {k : Fin 2} {j : Fin 5} (h : ptpBase k ≠ j) :
    (s.stepMaster e k).time.base[j] = s.time.base[j] := by
  unfold State.stepMaster
  split_ifs
  · exact s.modBase_base_ne _ h
  · rfl

theorem State.stepMaster_now (s : State) (e : Int) {k : Fin 2} (h : s.time.ptp[k].portState = 6) :
    (s.stepMaster e k).time.base[ptpBase k].now = ((s.time.base[ptpBase k].now : Int) + e).toNat := by
  rw [State.stepMaster, if_pos h, s.modBase_base_same]
  rfl

/-! ### The bases in a step -/

/-- TB_GNSS is the base of no PTP instance: its step alone moves it. -/
theorem State.stepBases_gnss (s : State) (e : Int) : (s.stepBases e).time.base[(0 : Fin 5)] =
    { s.time.base[(0 : Fin 5)].shift e with
      steps := min (s.time.base[(0 : Fin 5)].steps + 1) 0xFFFFFFFF, lastStepAt := ts96 s.mono, lastStepSize := e, st := 2 } := by
  rw [State.stepBases, State.stepMaster_base_ne _ _ (by decide), State.stepMaster_base_ne _ _ (by decide), State.stepOwn,
    State.modBase_base_same]

/-- TB_AIR and TB_MONO are neither TB_GNSS nor the base of a PTP instance (R390). -/
theorem State.stepBases_base_ne (s : State) (e : Int) {j : Fin 5} (h0 : 0 ≠ j) (hA : ptpBase 0 ≠ j) (hB : ptpBase 1 ≠ j) :
    (s.stepBases e).time.base[j] = s.time.base[j] := by
  rw [State.stepBases, State.stepMaster_base_ne _ _ hB, State.stepMaster_base_ne _ _ hA, State.stepOwn, State.modBase_base_ne _ _ h0]

/-- Of the two PTP bases, each changes by its own instance's part of the step only. -/
theorem State.stepBases_ptpBase (s : State) (e : Int) (k : Fin 2) :
    ∃ t : State, t.time.ptp = s.time.ptp ∧ t.time.base[ptpBase k] = s.time.base[ptpBase k]
      ∧ (s.stepBases e).time.base[ptpBase k] = (t.stepMaster e k).time.base[ptpBase k] := by
  have hown (j : Fin 5) (h : 0 ≠ j) : (s.stepOwn e).time.base[j] = s.time.base[j] := s.modBase_base_ne _ h
  match k with
  | 0 => exact ⟨s.stepOwn e, rfl, hown _ (by decide), State.stepMaster_base_ne _ _ (by decide)⟩
  | 1 =>
    refine ⟨(s.stepOwn e).stepMaster e 0, State.stepMaster_ptp _ _ _, ?_, rfl⟩
    rw [State.stepMaster_base_ne _ _ (by decide), hown _ (by decide)]

/-- A PTP base that is not in master role does not move (R390). -/
theorem State.stepBases_ptp_other (s : State) (e : Int) {k : Fin 2} (h : s.time.ptp[k].portState ≠ 6) :
    (s.stepBases e).time.base[ptpBase k] = s.time.base[ptpBase k] := by
  obtain ⟨t, hptp, hbase, hstep⟩ := s.stepBases_ptpBase e k
  rw [hstep, t.stepMaster_other e (by rwa [hptp]), hbase]

/-- A PTP base in master role takes the step at the same instant (R378). -/
theorem State.stepBases_ptp_master (s : State) (e : Int) {k : Fin 2} (h : s.time.ptp[k].portState = 6) :
    (s.stepBases e).time.base[ptpBase k].now = ((s.time.base[ptpBase k].now : Int) + e).toNat := by
  obtain ⟨t, hptp, hbase, hstep⟩ := s.stepBases_ptpBase e k
  rw [hstep, t.stepMaster_now e (by rwa [hptp]), hbase]

/-! ### A whole step -/

theorem State.stepGnss_time (s : State) (e : Int) : (s.stepGnss e).time = ((s.stepBases e).closeStep s.mono).refreshFlags.time := by
  rw [s.stepGnss_eq, State.forceSync_time, State.raise_time]

/-- What the flags, errors and states are not part of is after a step as the moved bases have it. -/
theorem State.stepGnss_base_keeps {α : Type} (p : Base → α) (s : State) (e : Int) (j : Fin 5)
    (h : ∀ (b : Base) (st err flags : Nat), p { b with st := st, err := err, flags := flags } = p b) :
    p (s.stepGnss e).time.base[j] = p (s.stepBases e).time.base[j] := by
  rw [s.stepGnss_time e]
  exact State.refreshFlags_base_keeps p _ j h

theorem State.stepGnss_base_now (s : State) (e : Int) (j : Fin 5) :
    (s.stepGnss e).time.base[j].now = (s.stepBases e).time.base[j].now :=
  s.stepGnss_base_keeps Base.now e j fun _ _ _ _ => rfl

/-- The flags that a step refreshes are those of TB_GNSS and TB_AIR. -/
theorem State.stepGnss_base_ne (s : State) (e : Int) {j : Fin 5} (h0 : 0 ≠ j) (h3 : 3 ≠ j) :
    (s.stepGnss e).time.base[j] = (s.stepBases e).time.base[j] := by
  rw [s.stepGnss_time e]
  exact State.refreshFlags_base_ne _ h0 h3

theorem State.stepGnss_gnss_now (s : State) (e : Int) :
    (s.stepGnss e).time.base[(0 : Fin 5)].now = ((s.time.base[(0 : Fin 5)].now : Int) + e).toNat := by
  rw [s.stepGnss_base_now, s.stepBases_gnss]
  rfl

theorem State.stepGnss_gnss_slew (s : State) (e : Int) :
    (s.stepGnss e).time.base[(0 : Fin 5)].slew = s.time.base[(0 : Fin 5)].slew := by
  rw [s.stepGnss_base_keeps Base.slew e 0 fun _ _ _ _ => rfl, s.stepBases_gnss]
  rfl

theorem State.stepGnss_gnss_steps (s : State) (e : Int) :
    (s.stepGnss e).time.base[(0 : Fin 5)].steps = min (s.time.base[(0 : Fin 5)].steps + 1) 0xFFFFFFFF := by
  rw [s.stepGnss_base_keeps Base.steps e 0 fun _ _ _ _ => rfl, s.stepBases_gnss]

theorem State.stepGnss_air_now (s : State) (e : Int) :
    (s.stepGnss e).time.base[(3 : Fin 5)].now = s.time.base[(3 : Fin 5)].now := by
  rw [s.stepGnss_base_now, s.stepBases_base_ne e (by decide) (by decide) (by decide)]

theorem State.stepGnss_mono_base (s : State) (e : Int) : (s.stepGnss e).time.base[(4 : Fin 5)] = s.time.base[(4 : Fin 5)] := by
  rw [s.stepGnss_base_ne e (by decide) (by decide), s.stepBases_base_ne e (by decide) (by decide) (by decide)]

theorem ptpBase_ne_flagged (k : Fin 2) : 0 ≠ ptpBase k ∧ 3 ≠ ptpBase k := by
  unfold ptpBase
  split_ifs <;> decide

theorem State.stepGnss_ptp_other (s : State) (e : Int) (k : Fin 2) (h : s.time.ptp[k].portState ≠ 6) :
    (s.stepGnss e).time.base[ptpBase k] = s.time.base[ptpBase k] := by
  obtain ⟨h0, h3⟩ := ptpBase_ne_flagged k
  rw [s.stepGnss_base_ne e h0 h3, s.stepBases_ptp_other e h]

theorem State.stepGnss_ptp_master (s : State) (e : Int) (k : Fin 2) (h : s.time.ptp[k].portState = 6) :
    (s.stepGnss e).time.base[ptpBase k].now = ((s.time.base[ptpBase k].now : Int) + e).toNat := by
  rw [s.stepGnss_base_now, s.stepBases_ptp_master e h]

theorem State.stepGnss_stepDue (s : State) (e : Int) : (s.stepGnss e).time.stepDue = none := by
  rw [s.stepGnss_time e]
  rfl

theorem State.stepGnss_steppedEnd (s : State) (e : Int) : (s.stepGnss e).time.steppedEnd = some (s.mono + 60 * secHalfNs) := by
  rw [s.stepGnss_time e]
  rfl

/-! ### The command -/

@[simp] theorem State.advance_ptp (s : State) (d : HalfNs) : (s.advance d).time.ptp = s.time.ptp := rfl

theorem exec_tbGnssStep (s : State) : exec .tbGnssStep s = .next s.gnssStep := rfl

theorem State.gnssStep_none (s : State) (h : s.time.stepDue = none) : s.gnssStep = s := by
  simp [State.gnssStep, h]

theorem State.gnssStep_due (s : State) {e : Int} (h : s.time.stepDue = some e) : s.gnssStep
    = (s.advance ((s.time.base[0].now + secHalfNs - 1) / secHalfNs * secHalfNs - s.time.base[0].now)).stepGnss e := by
  rw [State.gnssStep, h]

/-- Settles O49: a due step carries time to the whole second and is `State.stepGnss` there, base by base. -/
theorem stepsMoveGnssOnly : Obligations.StepsMoveGnssOnly := by
  refine ⟨fun s h => by rw [exec_tbGnssStep, s.gnssStep_none h], fun s u e g hdue hg hu => ⟨u.stepGnss e, ?_, ?_⟩⟩
  · rw [exec_tbGnssStep, s.gnssStep_due hdue, hu, hg]
  · have hptp : s.time.ptp = u.time.ptp := by rw [hu, State.advance_ptp]
    rw [hptp]
    exact ⟨u.stepGnss_gnss_now e, u.stepGnss_gnss_slew e, u.stepGnss_gnss_steps e, u.stepGnss_air_now e, u.stepGnss_mono_base e,
      u.stepGnss_ptp_other e 0, u.stepGnss_ptp_other e 1, u.stepGnss_ptp_master e 0, u.stepGnss_stepDue e,
      u.stepGnss_steppedEnd e⟩

end Sys2Proof.Machine
end

section
/-!
SUPPORT. The calendar procedure (12_rtc_and_always_on.md R416): one equation per branch of `Cal.next`; a midnight is a wrap of the time of
day, `Cal.midnight`, and then a step of the date, `Cal.nextDay`.
-/

namespace Sys2Proof.Machine

theorem monthLength_eq (month year : Nat) : monthLength month year =
    if month = 2 then (if year % 4 = 0 then 29 else 28) else if month ∈ [4, 6, 9, 11] then 30 else 31 := by
  simp [monthLength]

/-! ### Within a day -/

theorem Cal.next_sec (c : Cal) (h59 : c.sec ≠ 59) (h63 : c.sec ≠ 63) : c.next = { c with sec := c.sec + 1 } :=
  if_pos ⟨h59, h63⟩

theorem Cal.next_min (c : Cal) (hs : c.sec = 59 ∨ c.sec = 63) (h59 : c.min ≠ 59) (h63 : c.min ≠ 63) :
    c.next = { c with sec := 0, min := c.min + 1 } :=
  (if_neg (by omega)).trans (if_pos ⟨h59, h63⟩)

theorem Cal.next_hour (c : Cal) (hs : c.sec = 59 ∨ c.sec = 63) (hm : c.min = 59 ∨ c.min = 63) (h23 : c.hour ≠ 23)
    (h31 : c.hour ≠ 31) : c.next = { c with sec := 0, min := 0, hour := c.hour + 1 } :=
  (if_neg (by omega)).trans ((if_neg (by simp only; omega)).trans (if_pos ⟨h23, h31⟩))

/-! ### At midnight -/

/-- The calendar after the wrap of SEC, MIN and HOUR and the advance of WDAY, before DAY is looked at. -/
def Cal.midnight (c : Cal) : Cal := { c with sec := 0, min := 0, hour := 0, wday := if 6 ≤ c.wday then 0 else c.wday + 1 }

/-- The part of R416 from DAY on. -/
def Cal.nextDay (c : Cal) : Cal :=
  if c.day = 0 then { c with day := 1 }
  else if c.day ≠ monthLength c.month c.year ∧ c.day ≠ 31 then { c with day := c.day + 1 }
  else if 12 ≤ c.month then { c with day := 1, month := 1, year := if c.year = 99 ∨ c.year = 127 then 0 else c.year + 1 }
  else { c with day := 1, month := c.month + 1 }

theorem Cal.next_midnight (c : Cal) (hs : c.sec = 59 ∨ c.sec = 63) (hm : c.min = 59 ∨ c.min = 63)
    (hh : c.hour = 23 ∨ c.hour = 31) : c.next = c.midnight.nextDay :=
  (if_neg (by omega)).trans ((if_neg (by simp only; omega)).trans (if_neg (by simp only; omega)))

theorem Cal.nextDay_frame (c : Cal) :
    c.nextDay.sec = c.sec ∧ c.nextDay.min = c.min ∧ c.nextDay.hour = c.hour ∧ c.nextDay.wday = c.wday := by
  unfold Cal.nextDay
  split_ifs <;> exact ⟨rfl, rfl, rfl, rfl⟩

theorem Cal.nextDay_zero (c : Cal) (h : c.day = 0) : c.nextDay = { c with day := 1 } := if_pos h

theorem Cal.nextDay_within (c : Cal) (h0 : c.day ≠ 0) (hml : c.day ≠ monthLength c.month c.year) (h31 : c.day ≠ 31) :
    c.nextDay = { c with day := c.day + 1 } :=
  (if_neg h0).trans (if_pos ⟨hml, h31⟩)

theorem Cal.nextDay_monthEnd (c : Cal) (h0 : c.day ≠ 0) (hend : c.day = monthLength c.month c.year ∨ c.day = 31)
    (hm : c.month < 12) : c.nextDay = { c with day := 1, month := c.month + 1 } :=
  (if_neg h0).trans ((if_neg (by omega)).trans (if_neg (by omega)))

theorem Cal.nextDay_yearEnd (c : Cal) (h0 : c.day ≠ 0) (hend : c.day = monthLength c.month c.year ∨ c.day = 31)
    (hm : 12 ≤ c.month) :
    c.nextDay = { c with day := 1, month := 1, year := if c.year = 99 ∨ c.year = 127 then 0 else c.year + 1 } :=
  (if_neg h0).trans ((if_neg (by omega)).trans (if_pos hm))

/-- Settles O9: each branch of the procedure is one equation; a midnight is `Cal.nextDay` of the wrapped time of day. -/
theorem calendarProcedure : Obligations.CalendarProcedure := by
  refine ⟨fun m y _ => monthLength_eq m y, Cal.next_sec, Cal.next_min, Cal.next_hour, fun c hs hm hh => ?_⟩
  rw [c.next_midnight hs hm hh]
  obtain ⟨hsec, hmin, hhour, hwday⟩ := c.midnight.nextDay_frame
  refine ⟨hsec, hmin, hhour, hwday, fun h => ?_, fun h0 hml h31 => ?_, fun h0 hend hlt => ?_, fun h0 hend hge => ?_⟩
  · rw [c.midnight.nextDay_zero h]; exact ⟨rfl, rfl, rfl⟩
  · rw [c.midnight.nextDay_within h0 hml h31]; exact ⟨rfl, rfl, rfl⟩
  · rw [c.midnight.nextDay_monthEnd h0 hend hlt]; exact ⟨rfl, rfl, rfl⟩
  · rw [c.midnight.nextDay_yearEnd h0 hend hge]; exact ⟨rfl, rfl, rfl⟩

end Sys2Proof.Machine
end

section
/-!
SUPPORT. Refusals for a dependent (13_power_domains.md R432, R433): `dependents` lists the domains in rising order, so the one that
`State.lowerRefusal` finds first is the lowest whose effective level is above the target; no other cause of Table PW-5 is DEPENDENT.
-/

namespace Sys2Proof.Machine

@[simp] theorem domFin_val (x : Fin 18) : domFin x = x := dif_pos x.isLt

/-- A dependent blocks a target that is below its effective level (R433). -/
def State.blocks (s : State) (d v : Nat) (x : Fin 18) : Prop := d ∈ providers x ∧ v < s.level x

/-- The first dependent above a target is the lowest domain that blocks it. -/
theorem State.find?_dependents_iff (s : State) (d v r : Nat) :
    ((dependents d).find? fun x => decide (v < s.level (domFin x))) = some r
      ↔ ∃ x : Fin 18, x.val = r ∧ s.blocks d v x ∧ ∀ y < x, ¬ s.blocks d v y := by
  rw [dependents, List.find?_filter, List.find?_range_eq_some]
  simp only [List.contains_iff_mem, List.mem_range, Bool.decide_and, Bool.and_eq_true, decide_eq_true_eq, Bool.not_eq_true',
    Bool.and_eq_false_imp, decide_eq_false_iff_not]
  constructor
  · rintro ⟨⟨hdep, hlt⟩, hr, hmin⟩
    lift r to Fin 18 using hr
    rw [domFin_val] at hlt
    exact ⟨r, rfl, ⟨hdep, hlt⟩, fun y hy ⟨hydep, hylt⟩ => hmin y hy hydep ((domFin_val y).symm ▸ hylt)⟩
  · rintro ⟨x, rfl, ⟨hdep, hlt⟩, hmin⟩
    refine ⟨⟨hdep, (domFin_val x).symm ▸ hlt⟩, x.isLt, fun j hj hjdep hjlt => ?_⟩
    lift j to Fin 18 using hj.trans x.isLt
    rw [domFin_val] at hjlt
    exact hmin j hj ⟨hjdep, hjlt⟩

/-- DEPENDENT comes from a dependent that blocks, never from a later condition of Table PW-5. -/
theorem State.lowerRefusal_dependent_iff (s : State) (d : Fin 18) (v r : Nat) :
    s.lowerRefusal d v = some (1, r) ↔ ∃ x : Fin 18, x.val = r ∧ s.blocks d v x ∧ ∀ y < x, ¬ s.blocks d v y := by
  rw [← s.find?_dependents_iff d v r, State.lowerRefusal]
  cases (dependents d).find? fun x => decide (v < s.level (domFin x)) with
  | some x => simp
  | none => split_ifs <;> simp

/-- A target is refused with DEPENDENT where neither its own domain nor its value decides it. -/
theorem State.targetRefusal_dependent_iff (s : State) (d : Fin 18) (v r : Nat) :
    s.targetRefusal d v = some (1, r)
      ↔ d ≠ 0 ∧ ¬ (v = 1 ∧ ((s.dom d).st = 0 ∨ (s.dom d).st = 5)) ∧ v ≠ 2 ∧ s.lowerRefusal d v = some (1, r) := by
  simp only [State.targetRefusal, Fin.val_eq_zero_iff]
  split_ifs <;> simp [*]

/-- Settles O42: both directions are those of `State.lowerRefusal_dependent_iff`, behind the checks of `State.targetRefusal`. -/
theorem dependentsRefuse : Obligations.DependentsRefuse := by
  refine ⟨fun s d x v hd hv hst hdep hlt hmin => ?_, fun s d v r h => ?_⟩
  · refine (s.targetRefusal_dependent_iff d v x).2 ⟨hd, by omega, by omega, ?_⟩
    exact (s.lowerRefusal_dependent_iff d v x).2 ⟨x, rfl, ⟨hdep, hlt⟩, fun y hy hb => absurd (hmin y hy hb.1) (not_le.2 hb.2)⟩
  · obtain ⟨-, -, -, hlow⟩ := (s.targetRefusal_dependent_iff d v r).1 h
    obtain ⟨x, hx, hb, -⟩ := (s.lowerRefusal_dependent_iff d v r).1 hlow
    exact ⟨x, hx, hb⟩

end Sys2Proof.Machine
end

section
/-!
SUPPORT. Ring doorbells (15_host_and_network_ports.md R500, R501, R510): a BAR0 access that finds no earlier write outstanding works on the
state as it is; `State.doorbell` has one equation per outcome; a ring that is in ERROR stays as it is while its event is raised, since a
record is written only to a ring that runs or is paused.
-/

namespace Sys2Proof.Machine

/-! ### BAR0 accesses -/

theorem State.bar0Access_unserved (s : State) (island : Nat) (f : State → State) (h : s.barServes = false) :
    s.bar0Access island f = s := by
  simp [State.bar0Access, h]

/-- With no earlier BAR0 write to the island outstanding there is nothing to bring into effect (R27). -/
theorem State.bar0Sync_quiet (s : State) (island k : Nat) (h : s.bar0Quiet island = true) : State.bar0Sync island k s = s := by
  cases k with
  | zero => rfl
  | succ k => exact if_pos h

theorem State.bar0Access_quiet (s : State) (island : Nat) (f : State → State) (h : s.barServes = true)
    (hq : s.bar0Quiet island = true) : s.bar0Access island f = f s := by
  rw [State.bar0Access, if_pos h, s.bar0Sync_quiet _ _ hq]

theorem State.hostServes_of_barServes (s : State) (h : s.barServes = true) : s.hostServes = true :=
  (Bool.and_eq_true_iff.mp h).1

/-! ### A ring after a ring is set -/

theorem State.setRing_ring_same (s : State) (n : Fin 6) (r : Ring) : (s.setRing n r).host.ring[n] = r :=
  Vector.getElem_set_self n.isLt

theorem State.setRing_ring_ne (s : State) {m n : Fin 6} (r : Ring) (h : m ≠ n) : (s.setRing m r).host.ring[n] = s.host.ring[n] :=
  Vector.getElem_set_ne m.isLt n.isLt (Fin.val_ne_of_ne h)

/-! ### A ring in ERROR while an event is raised -/

/-- A ring that is in ERROR in `s` is the same in `t`, and HOST serves as before. -/
structure State.ErrorsStand (s t : State) : Prop where
  serves : t.hostServes = s.hostServes
  ring : ∀ n : Fin 6, s.host.ring[n].st = 3 → t.host.ring[n] = s.host.ring[n]

theorem State.ErrorsStand.trans {s t u : State} (h : s.ErrorsStand t) (k : t.ErrorsStand u) : s.ErrorsStand u where
  serves := k.serves.trans h.serves
  ring n hn := (k.ring n ((h.ring n hn).symm ▸ hn)).trans (h.ring n hn)

/-- What writes no ring leaves those in ERROR. -/
theorem State.ErrorsStand.of_ring {s t : State} (h : t.hostServes = s.hostServes) (k : t.host.ring = s.host.ring) :
    s.ErrorsStand t :=
  ⟨h, fun _ _ => by rw [k]⟩

/-- A change of a ring that is not in ERROR leaves those that are. -/
theorem State.ErrorsStand.setRing (s : State) (m : Fin 6) (r : Ring) (h : s.host.ring[m].st ≠ 3) :
    s.ErrorsStand (s.setRing m r) :=
  ⟨rfl, fun _ hn => s.setRing_ring_ne r fun e => h (e ▸ hn)⟩

theorem State.ErrorsStand.emit (s : State) (o : Out) : s.ErrorsStand (s.emit o) := .of_ring rfl rfl

theorem State.ErrorsStand.count (s : State) (i e k n : Nat) : s.ErrorsStand (s.count i e k n) := .of_ring rfl rfl

theorem State.ErrorsStand.setIrq (s : State) (bit : Nat) : s.ErrorsStand (s.setIrq bit) := by
  unfold State.setIrq
  split_ifs <;> exact .of_ring rfl rfl

theorem State.ErrorsStand.writeback (s : State) (n : Fin 6) (value : Nat) : s.ErrorsStand (s.writeback n value) := by
  unfold State.writeback
  split_ifs <;> exact of_ring rfl rfl

theorem State.writeback_ring (s : State) (n : Fin 6) (value : Nat) : (s.writeback n value).host.ring = s.host.ring := by
  unfold State.writeback
  split_ifs <;> rfl

theorem State.ErrorsStand.signalRing (s : State) (n : Fin 6) (h : s.host.ring[n].st ≠ 3) : s.ErrorsStand (s.signalRing n) :=
  (setRing s n _ h).trans (emit _ _)

/-- A ring that can take a record is not in ERROR (R504). -/
theorem State.ringReady_st (s : State) (n : Fin 6) (r : RingRec) (h : s.ringReady n r = true) : s.host.ring[n].st ≠ 3 := by
  simp only [State.ringReady, Bool.and_eq_true, Bool.or_eq_true, beq_iff_eq] at h
  omega

/-- The entry of a record: the ring that takes it changes, and the buffers used leave (R503, R504). -/
theorem State.ErrorsStand.enter (s : State) (n : Fin 6) (r : Ring) (bufs : List Nat) (h : s.host.ring[n].st ≠ 3) :
    s.ErrorsStand { s with host := { s.host with bufs := bufs, ring := s.host.ring.set n r } } :=
  (setRing s n r h).trans (of_ring rfl rfl)

/-- A record is written and its ring runs; its message may then be sent (R503, R509). -/
theorem State.writeRecord_cases (s : State) (n : Fin 6) (r : RingRec) (h : s.host.ring[n].st ≠ 3) :
    ∃ t : State, s.ErrorsStand t ∧ t.host.ring[n].st = 1 ∧ (s.writeRecord n r = t.signalRing n ∨ s.writeRecord n r = t) := by
  refine ⟨_, ((State.ErrorsStand.enter s n _ _ h).trans (.emit _ _)).trans (.writeback _ _ _), ?_, ite_eq_or_eq _ _ _⟩
  rw [State.writeback_ring]
  exact congrArg Ring.st (s.setRing_ring_same n _)

theorem State.ErrorsStand.writeRecord (s : State) (n : Fin 6) (r : RingRec) (h : s.host.ring[n].st ≠ 3) :
    s.ErrorsStand (s.writeRecord n r) := by
  obtain ⟨t, ht, hst, e | e⟩ := s.writeRecord_cases n r h <;> rw [e]
  · exact ht.trans (signalRing t n (by omega))
  · exact ht

/-- A record is dropped, held, written to a ring that can take it, or staged; only a running ring is then paused (R504, R511). -/
theorem State.ErrorsStand.postRing (s : State) (n : Fin 6) (r : RingRec) : s.ErrorsStand (s.postRing n r) := by
  simp only [State.postRing]
  split_ifs with hoff hheld hroom hready hstage hrun
  · exact count _ _ _ _ _
  · exact of_ring rfl rfl
  · exact count _ _ _ _ _
  · exact writeRecord s n r (s.ringReady_st n r (Bool.and_eq_true_iff.mp hready).1)
  · exact (setRing s n _ (by rw [hrun]; decide)).trans (of_ring rfl rfl)
  · exact of_ring rfl rfl
  · exact count _ _ _ _ _

/-- The entry of an event in the log and the archive's pending list (R546). -/
theorem State.ErrorsStand.enterLog (s : State) (log pending : List EventEntry) (next : Nat) (since : HalfNs) :
    s.ErrorsStand { s with flt := { s.flt with log := log, nextSeq := next, archPending := pending, archSince := since } } :=
  of_ring rfl rfl

/-- An entry goes into the log and, if its class is notified, to ring 5 (R546, R550). -/
theorem State.ErrorsStand.logEntry (s : State) (code inst flags time a b : Nat) :
    s.ErrorsStand (s.logEntry code inst flags time a b) := by
  unfold State.logEntry
  extract_lets e log pending logged counted
  have hlogged : s.ErrorsStand logged := enterLog s _ _ _ _
  have hcounted : s.ErrorsStand counted := hlogged.trans (count logged _ _ _ _)
  split_ifs
  · exact (hcounted.trans (postRing counted 5 _)).trans (setIrq _ 2)
  · exact hcounted

theorem State.ErrorsStand.setWindow (s : State) (w : EventWindow) : s.ErrorsStand (s.setWindow w) := of_ring rfl rfl

theorem State.ErrorsStand.queueAon (s : State) (code inst a b flags : Nat) : s.ErrorsStand (s.queueAon code inst a b flags) := by
  unfold State.queueAon
  split_ifs <;> exact of_ring rfl rfl

/-- An event is queued, suppressed or logged (R414, R548). -/
theorem State.ErrorsStand.raise (s : State) (code inst a b : Nat) : s.ErrorsStand (s.raise code inst a b) := by
  simp only [State.raise, State.raiseF]
  split_ifs
  · exact queueAon _ _ _ _ _ _
  · exact setWindow _ _
  · exact (setWindow _ _).trans (logEntry _ _ _ _ _ _ _)

/-! ### A ring enters ERROR (R510) -/

theorem State.setIrq_irqStatus (s : State) (bit : Nat) (h : s.hostServes = true) :
    (s.setIrq bit).host.irqStatus.testBit bit = true := by
  have hbit : (s.setIrq bit).host.irqStatus = s.host.irqStatus ||| 2 ^ bit := by
    rw [State.setIrq, if_neg (by simp [h])]
    split_ifs <;> rfl
  rw [hbit, Nat.testBit_or, Nat.testBit_two_pow_self, Bool.or_true]

/-- The ring takes its state and code, and neither its event nor the interrupt changes it again. -/
theorem State.ringError_ring (s : State) (n : Fin 6) (code : Nat) :
    (s.ringError n code).host.ring[n] = { s.host.ring[n] with st := 3, error := code } := by
  rw [State.ringError, ((State.ErrorsStand.raise _ _ _ _ _).trans (.setIrq _ 3)).ring n (by rw [State.setRing_ring_same]),
    State.setRing_ring_same]

theorem State.ringError_irqStatus (s : State) (n : Fin 6) (code : Nat) (h : s.hostServes = true) :
    (s.ringError n code).host.irqStatus.testBit 3 = true :=
  State.setIrq_irqStatus _ 3 ((State.ErrorsStand.raise _ _ _ _ _).serves.trans h)

/-! ### The outcomes of a doorbell (R500, R501) -/

/-- The ring with the index of the host moved. -/
def Ring.moved (r : Ring) (isProd : Bool) (v : Nat) : Ring :=
  if isProd then { r with prod := v % 2 ^ 32 } else { r with cons := v % 2 ^ 32 }

/-- A ring that is empty restarts its moderation (R509). -/
def Ring.rested (r : Ring) : Ring := if r.fill = 0 then { r with modCount := 0, modSince := none } else r

theorem Ring.rested_eq (r : Ring) : r.rested =
    { r with modCount := if r.fill = 0 then 0 else r.modCount, modSince := if r.fill = 0 then none else r.modSince } := by
  unfold Ring.rested
  split_ifs <;> rfl

/-- A move that puts more than ENTRIES entries in the ring, or goes backward. -/
abbrev State.badMove (s : State) (n : Fin 6) (isProd : Bool) (v : Nat) : Prop :=
  s.ringCfg n 2 < (s.host.ring[n].moved isProd v).fill
    ∨ (isProd ∧ (s.host.ring[n].moved isProd v).fill < s.host.ring[n].fill)
    ∨ (!isProd ∧ s.host.ring[n].fill < (s.host.ring[n].moved isProd v).fill)

theorem State.doorbell_deviceIndex (s : State) (n : Fin 6) (b : Bool) (v : Nat) (hb : b ≠ hostProduces n) :
    s.doorbell n b v = s :=
  if_pos (.inr hb)

theorem State.doorbell_disabled (s : State) (n : Fin 6) (b : Bool) (v : Nat) (hs : s.hostServes = true) (hb : b = hostProduces n)
    (h0 : s.host.ring[n].st = 0) : s.doorbell n b v = s.count Obj.BAR0_BAD_ACCESS :=
  (if_neg (by simp [hs, hb])).trans (if_pos h0)

/-- On a ring that runs or is paused, a bad move is an error and a good one is entered. -/
theorem State.doorbell_running (s : State) (n : Fin 6) (b : Bool) (v : Nat) (hs : s.hostServes = true) (hb : b = hostProduces n)
    (hr : s.host.ring[n].st = 1 ∨ s.host.ring[n].st = 2) : s.doorbell n b v =
      if s.badMove n b v then s.ringError n 0x42
      else if b then s.setRing n (s.host.ring[n].moved b v)
      else (s.setRing n (s.host.ring[n].moved b v).rested).drainRings :=
  (if_neg (by simp [hs, hb])).trans ((if_neg (by omega)).trans (if_neg (by omega)))

theorem State.doorbell_bad (s : State) (n : Fin 6) (b : Bool) (v : Nat) (hs : s.hostServes = true) (hb : b = hostProduces n)
    (hr : s.host.ring[n].st = 1 ∨ s.host.ring[n].st = 2) (hbad : s.badMove n b v) : s.doorbell n b v = s.ringError n 0x42 := by
  rw [s.doorbell_running n b v hs hb hr, if_pos hbad]

theorem State.doorbell_producer (s : State) (n : Fin 6) (v : Nat) (hs : s.hostServes = true) (hb : hostProduces n = true)
    (hr : s.host.ring[n].st = 1 ∨ s.host.ring[n].st = 2) (hback : s.host.ring[n].fill ≤ (s.host.ring[n].moved true v).fill)
    (hfull : (s.host.ring[n].moved true v).fill ≤ s.ringCfg n 2) :
    s.doorbell n true v = s.setRing n (s.host.ring[n].moved true v) := by
  have hgood : ¬ s.badMove n true v := by
    rintro (h | ⟨-, h⟩ | ⟨h, -⟩)
    · exact absurd h (not_lt.2 hfull)
    · exact absurd h (not_lt.2 hback)
    · exact absurd h (by decide)
  rw [s.doorbell_running n true v hs hb.symm hr, if_neg hgood, if_pos rfl]

theorem State.doorbell_consumer (s : State) (n : Fin 6) (v : Nat) (hs : s.hostServes = true) (hb : hostProduces n = false)
    (hr : s.host.ring[n].st = 1 ∨ s.host.ring[n].st = 2) (hback : (s.host.ring[n].moved false v).fill ≤ s.host.ring[n].fill)
    (hfull : (s.host.ring[n].moved false v).fill ≤ s.ringCfg n 2) :
    s.doorbell n false v = (s.setRing n (s.host.ring[n].moved false v).rested).drainRings := by
  have hgood : ¬ s.badMove n false v := by
    rintro (h | ⟨h, -⟩ | ⟨-, h⟩)
    · exact absurd h (not_lt.2 hfull)
    · exact absurd h (by decide)
    · exact absurd h (not_lt.2 hback)
  rw [s.doorbell_running n false v hs hb.symm hr, if_neg hgood, if_neg (by decide)]

/-! ### The command -/

theorem exec_ringDoorbell (n : Fin 6) (b : Bool) (v : Nat) (s : State) :
    exec (.ringDoorbell n b v) s = .next (s.bar0Access 2 fun s => s.doorbell n b v).settled := rfl

theorem exec_ringDoorbell_served (n : Fin 6) (b : Bool) (v : Nat) (s : State) (h : s.barServes = true)
    (hq : s.bar0Quiet 2 = true) : exec (.ringDoorbell n b v) s = .next (s.doorbell n b v).settled := by
  rw [exec_ringDoorbell, s.bar0Access_quiet 2 _ h hq]

/-- Settles O37: each clause is one outcome of `State.doorbell`; the fill of the ring with the index moved is the clauses' difference
modulo 2^32. -/
theorem doorbellsMoveRings : Obligations.DoorbellsMoveRings := by
  refine ⟨fun s n b v h => ?_, fun s n v hbar hq => ?_⟩
  · rw [exec_ringDoorbell, s.bar0Access_unserved 2 _ h]
  have hs := s.hostServes_of_barServes hbar
  simp only [exec_ringDoorbell_served n _ v s hbar hq]
  refine ⟨fun b h0 hb => ?disabled, fun b hr hb hprod hcons => ?bad, fun hr hb hback hfull => ?producer,
    fun k hr hb hk hback hfull => ?consumer, fun b hb => ?deviceIndex⟩
  case disabled => rw [s.doorbell_disabled n b v hs hb h0]
  case bad =>
    have hbad : s.badMove n b v := by
      cases b with
      | true => exact (hprod rfl).elim (fun h => .inr (.inl ⟨rfl, h⟩)) .inl
      | false => exact .inr (.inr ⟨rfl, hcons rfl⟩)
    refine ⟨s.ringError n 0x42, by rw [s.doorbell_bad n b v hs hb hr hbad], ?_⟩
    rw [s.ringError_ring n 0x42]
    exact ⟨rfl, rfl, rfl, rfl, s.ringError_irqStatus n 0x42 hs⟩
  case producer =>
    rw [s.doorbell_producer n v hs hb hr hback hfull]
    rfl
  case consumer =>
    subst hk
    rw [s.doorbell_consumer n v hs hb hr hback hfull, Ring.rested_eq]
    rfl
  case deviceIndex => rw [s.doorbell_deviceIndex n b v hb]

end Sys2Proof.Machine
end

section
/-!
SUPPORT. What every operation keeps of the state (O58 to O60): the commands that wait, the canonical form of the stores of object values,
the session limits, the sizes of the lists, and OTP, which is only ever programmed. `State.Keeps` is a preorder, and each operation of the
model has one rule: it keeps what the operations before it kept.
-/

namespace Sys2Proof.Machine

-- The rules of records have default proofs, which are evaluated when a rule is used: the rules are elaborated in turn.
set_option Elab.async false

/-! ### What is kept, part by part -/

/-- The list stays within a size. -/
def Within {α : Type} (n : Nat) (xs ys : List α) : Prop := xs.length ≤ n → ys.length ≤ n

/-- Every thermometer step that is set stays set. -/
abbrev StepsStay : List Nat → List Nat → Prop := List.Forall₂ fun x y => majority x = true → majority y = true

/-- OTP is only programmed: thermometer steps that are set stay set, lock record slots that are written stay, all else is the same. -/
structure Otp.Programs (a b : Otp) : Prop where
  steps : StepsStay a.steps b.steps
  lock : ∀ i : Fin 2, a.lock[i] ≠ [] → b.lock[i] = a.lock[i]
  rest : b = { a with steps := b.steps, lock := b.lock }

/-- The limits of the session table (R63, R594). -/
structure SessionsOk (l : List Session) : Prop where
  nodup : (l.map (·.id)).Nodup
  nonzero : ∀ x ∈ l, x.id ≠ 0
  auth : (l.filter fun x => x.auth).length ≤ 8
  pending : (l.filter fun x => !x.auth).length ≤ 4

/-- At most four writes are in flight in AON, and only writes to AON are held (R32). -/
structure IslState.Ok (i : IslState) : Prop where
  inflight : (i.inflight.filter fun w => w.island == 9).length ≤ 4
  held : ∀ w ∈ i.aonHeld, w.island = 9

/-- The lists of the FAULT region stay within their sizes (R549, R552). -/
structure FltState.Keeps (x y : FltState) : Prop where
  log : Within 4096 x.log y.log
  archive : Within 524288 x.archive y.archive
  records : Within 64 x.records y.records
  recFlash : Within 4096 x.recFlash y.recFlash

/-- A step from `s` to `t` keeps what O58 to O60 ask for. -/
structure State.Keeps (s t : State) : Prop where
  pending : t.pending = s.pending
  cfg : s.cfg.wf = true → t.cfg.wf = true
  ro : s.ro.wf = true → t.ro.wf = true
  rev : numsWf s.rev = true → numsWf t.rev = true
  act : numsWf s.act = true → numsWf t.act = true
  otp : s.fw.otp.Programs t.fw.otp
  isl : s.isl.Ok → t.isl.Ok
  sessions : SessionsOk s.lop.sessions → SessionsOk t.lop.sessions
  flt : s.flt.Keeps t.flt
  flock : Within 16384 s.flock.cache t.flock.cache
  aon : Within 8 s.aon.queue t.aon.queue
  sec : Within 4096 s.sec.cache t.sec.cache

theorem StepsStay.trans : ∀ {a b c : List Nat}, StepsStay a b → StepsStay b c → StepsStay a c
  | _, _, _, .nil, .nil => .nil
  | _, _, _, .cons f h, .cons g k => .cons (g ∘ f) (StepsStay.trans h k)

theorem Otp.Programs.refl (a : Otp) : a.Programs a :=
  ⟨List.forall₂_same.2 fun _ _ h => h, fun _ _ => rfl, rfl⟩

theorem Otp.Programs.trans {a b c : Otp} (h : a.Programs b) (k : b.Programs c) : a.Programs c where
  steps := h.steps.trans k.steps
  lock i hi := (k.lock i ((h.lock i hi).symm ▸ hi)).trans (h.lock i hi)
  rest := by
    rw [k.rest, h.rest]

theorem FltState.Keeps.refl (x : FltState) : x.Keeps x := ⟨id, id, id, id⟩

theorem FltState.Keeps.trans {x y z : FltState} (h : x.Keeps y) (k : y.Keeps z) : x.Keeps z :=
  ⟨k.log ∘ h.log, k.archive ∘ h.archive, k.records ∘ h.records, k.recFlash ∘ h.recFlash⟩

theorem State.Keeps.refl (s : State) : s.Keeps s :=
  ⟨rfl, id, id, id, id, .refl _, id, id, .refl _, id, id, id⟩

theorem State.Keeps.trans {s t u : State} (h : s.Keeps t) (k : t.Keeps u) : s.Keeps u where
  pending := k.pending.trans h.pending
  cfg := k.cfg ∘ h.cfg
  ro := k.ro ∘ h.ro
  rev := k.rev ∘ h.rev
  act := k.act ∘ h.act
  otp := h.otp.trans k.otp
  isl := k.isl ∘ h.isl
  sessions := k.sessions ∘ h.sessions
  flt := h.flt.trans k.flt
  flock := k.flock ∘ h.flock
  aon := k.aon ∘ h.aon
  sec := k.sec ∘ h.sec

/-! ### Lists within a size -/

section
variable {α : Type} {n : Nat} {xs ys : List α}

theorem Within.of_le (h : ys.length ≤ n) : Within n xs ys := fun _ => h

theorem Within.nil (n : Nat) (xs : List α) : Within n xs [] := fun _ => Nat.zero_le n

theorem Within.take (n : Nat) (xs ys : List α) : Within n xs (ys.take n) := fun _ => List.length_take_le n ys

/-- The oldest entries leave. -/
theorem Within.drop_excess (n : Nat) (xs ys : List α) : Within n xs (ys.drop (ys.length - n)) := fun _ => by
  rw [List.length_drop]
  omega

theorem Within.sublist (h : ys.Sublist xs) : Within n xs ys := h.length_le.trans

theorem Within.erase [BEq α] (n : Nat) (xs : List α) (x : α) : Within n xs (xs.erase x) := .sublist (List.erase_sublist ..)

/-- A line that moves to the front, or takes the place of another. -/
theorem Within.cons_erase [BEq α] [LawfulBEq α] {x y : α} (h : y ∈ xs) : Within n xs (x :: xs.erase y) := fun hn => by
  have := List.length_pos_of_mem h
  rw [List.length_cons, List.length_erase_of_mem h]
  omega

end

/-! ### The session table (R63, R594) -/

theorem SessionsOk.nil : SessionsOk [] := ⟨List.nodup_nil, by simp, by simp, by simp⟩

theorem SessionsOk.sublist {l m : List Session} (h : SessionsOk l) (hm : m.Sublist l) : SessionsOk m where
  nodup := (hm.map _).nodup h.nodup
  nonzero x hx := h.nonzero x (hm.subset hx)
  auth := (hm.filter _).length_le.trans h.auth
  pending := (hm.filter _).length_le.trans h.pending

theorem SessionsOk.length_le {l : List Session} (h : SessionsOk l) : l.length ≤ 12 := by
  have := l.length_eq_length_filter_add fun x => x.auth
  have := h.auth
  have := h.pending
  omega

/-- A pending session with a fresh identifier, where fewer than four are pending. -/
theorem SessionsOk.open {l : List Session} {y : Session} (h : SessionsOk l) (ha : y.auth = false) (h0 : y.id ≠ 0)
    (hy : y.id ∉ l.map (·.id)) (hp : (l.filter fun x => !x.auth).length < 4) : SessionsOk (l ++ [y]) where
  nodup := by
    rw [List.map_append, List.map_singleton, List.nodup_append]
    exact ⟨h.nodup, List.nodup_singleton _, fun a hm b hb e => hy (List.mem_singleton.1 hb ▸ e ▸ hm)⟩
  nonzero x hx := by
    rcases List.mem_append.1 hx with hx | hx
    · exact h.nonzero x hx
    · exact List.mem_singleton.1 hx ▸ h0
  auth := by simpa [ha] using h.auth
  pending := by
    simp [ha]
    omega

/-- Sessions that change, the identifiers and which are authenticated stay. -/
theorem SessionsOk.modify {l : List Session} {id : Nat} {f : Session → Session} (h : SessionsOk l)
    (hf : ∀ x, (f x).id = x.id ∧ (f x).auth = x.auth) : SessionsOk (l.map fun x => if x.id = id then f x else x) := by
  have hid (x : Session) : (if x.id = id then f x else x).id = x.id := by
    split_ifs
    · exact (hf x).1
    · rfl
  have hauth (x : Session) : (if x.id = id then f x else x).auth = x.auth := by
    split_ifs
    · exact (hf x).2
    · rfl
  constructor
  · simpa only [List.map_map, Function.comp_def, hid] using h.nodup
  · simpa only [List.forall_mem_map, hid] using h.nonzero
  · simpa only [List.filter_map, List.length_map, Function.comp_def, hauth] using h.auth
  · simpa only [List.filter_map, List.length_map, Function.comp_def, hauth] using h.pending

/-- One session more is authenticated, where fewer than eight are. -/
theorem SessionsOk.authenticate {l : List Session} {id : Nat} {f : Session → Session} (h : SessionsOk l)
    (hf : ∀ x, (f x).id = x.id ∧ (f x).auth = true) (hc : (l.filter fun x => x.auth).length < 8) :
    SessionsOk (l.map fun x => if x.id = id then f x else x) := by
  have hid (x : Session) : (if x.id = id then f x else x).id = x.id := by
    split_ifs
    · exact (hf x).1
    · rfl
  have hone : ((l.map (·.id)).filter (· == id)).length ≤ 1 := by
    rw [← List.count_eq_length_filter]
    exact List.nodup_iff_count_le_one.1 h.nodup id
  have hmore (m : List Session) : ((m.map fun x => if x.id = id then f x else x).filter fun x => x.auth).length
      ≤ (m.filter fun x => x.auth).length + ((m.map (·.id)).filter (· == id)).length := by
    induction m with
    | nil => simp
    | cons x m ih =>
      by_cases hx : x.id = id
      · cases hxa : x.auth <;> simp [hx, hxa, (hf x).2] at ih ⊢ <;> omega
      · cases hxa : x.auth <;> simp [hx, hxa] at ih ⊢ <;> omega
  have hless (m : List Session) : ((m.map fun x => if x.id = id then f x else x).filter fun x => !x.auth).length
      ≤ (m.filter fun x => !x.auth).length := by
    induction m with
    | nil => simp
    | cons x m ih =>
      by_cases hx : x.id = id
      · cases hxa : x.auth <;> simp [hx, hxa, (hf x).2] at ih ⊢ <;> omega
      · cases hxa : x.auth <;> simp [hx, hxa] at ih ⊢ <;> omega
  constructor
  · simpa only [List.map_map, Function.comp_def, hid] using h.nodup
  · simpa only [List.forall_mem_map, hid] using h.nonzero
  · have := hmore l
    omega
  · exact (hless l).trans h.pending

/-! ### A fresh session identifier (R63) -/

/-- The k-th identifier from `x` on: they run from 1 to 2³² − 1 and around. -/
def nthId (x k : Nat) : Nat := (x - 1 + k) % (2 ^ 32 - 1) + 1

theorem nthId_zero {x : Nat} (hx : 0 < x) (hm : x < 2 ^ 32) : nthId x 0 = x := by
  unfold nthId
  omega

theorem freshId_pos (used : List Nat) (n : Nat) {x : Nat} (hx : 0 < x) : 0 < freshId used n x := by
  induction n generalizing x with
  | zero => exact hx
  | succ n ih =>
    unfold freshId
    split_ifs
    · exact ih (Nat.succ_pos _)
    · exact hx

/-- Where the search ends at a used identifier, all that it tried are used. -/
theorem nthId_used {used : List Nat} {n x : Nat} (hx : 0 < x) (hm : x < 2 ^ 32) (h : freshId used n x ∈ used) :
    ∀ k ≤ n, nthId x k ∈ used := by
  induction n generalizing x with
  | zero =>
    intro k hk
    rwa [Nat.le_zero.1 hk, nthId_zero hx hm]
  | succ n ih =>
    unfold freshId at h
    split_ifs at h with hu
    · intro k hk
      cases k with
      | zero =>
        rw [nthId_zero hx hm]
        simpa using hu
      | succ k =>
        have hs : nthId x (k + 1) = nthId (x % (2 ^ 32 - 1) + 1) k := by
          unfold nthId
          omega
        rw [hs]
        exact ih (Nat.succ_pos _) (by omega) h k (by omega)
    · exact absurd (List.contains_iff_mem.2 h) hu

/-- With as many tries as there are used identifiers, the search finds a fresh one. -/
theorem freshId_fresh {used : List Nat} {n x : Nat} (hx : 0 < x) (hm : x < 2 ^ 32) (hn : n < 2 ^ 32 - 1) (hl : used.length ≤ n) :
    freshId used n x ∉ used := fun h => by
  have hnd : ((List.range (n + 1)).map (nthId x)).Nodup := by
    refine List.Nodup.map_on (fun a ha b hb e => ?_) List.nodup_range
    simp only [List.mem_range] at ha hb
    unfold nthId at e
    omega
  have hsub : ((List.range (n + 1)).map (nthId x)) ⊆ used := by
    intro y hy
    obtain ⟨k, hk, rfl⟩ := List.mem_map.1 hy
    exact nthId_used hx hm h k (by simpa [Nat.lt_succ_iff] using hk)
  have := (List.subperm_of_subset hnd hsub).length_le
  simp at this
  omega

/-! ### Writes into the islands (R32) -/

section
variable {i : IslState}

theorem IslState.Ok.empty (k : Nat) : ({ IslState.reset with nextKey := k } : IslState).Ok := ⟨by simp [IslState.reset], by simp [IslState.reset]⟩

theorem IslState.Ok.hold (h : i.Ok) {w : Inflight} (hw : w.island = 9) : ({ i with aonHeld := i.aonHeld ++ [w] } : IslState).Ok :=
  ⟨h.inflight, fun x hx => (List.mem_append.1 hx).elim (h.held x) fun hx => List.mem_singleton.1 hx ▸ hw⟩

theorem IslState.Ok.issue (h : i.Ok) {w : Inflight} (hw : w.island = 9 → (i.inflight.filter fun w => w.island == 9).length < 4) :
    ({ i with inflight := i.inflight ++ [w] } : IslState).Ok := by
  refine ⟨?_, h.held⟩
  have := h.inflight
  by_cases hi : w.island = 9
  · have := hw hi
    simp [hi]
    omega
  · simpa [hi] using this

theorem IslState.Ok.erase (h : i.Ok) {k : Nat} : ({ i with inflight := i.inflight.eraseIdx k } : IslState).Ok :=
  ⟨((List.eraseIdx_sublist _ _).filter _).length_le.trans h.inflight, h.held⟩

theorem IslState.Ok.enter (h : i.Ok) {w : Inflight} {ws : List Inflight} (e : i.aonHeld = w :: ws)
    (hn : (i.inflight.filter fun w => w.island == 9).length < 4) :
    ({ i with inflight := i.inflight ++ [w], aonHeld := ws } : IslState).Ok :=
  ⟨(h.issue fun _ => hn).inflight, fun x hx => h.held x (e ▸ List.mem_cons_of_mem _ hx)⟩

end

section
variable {s t u : State}

/-! ### Shapes of an operation -/

/-- What a state holds of all that is kept. -/
def State.kept (s : State) := (s.pending, s.cfg, s.ro, s.rev, s.act, s.fw.otp, s.isl.inflight, s.isl.aonHeld, s.lop.sessions, s.flt.log,
  s.flt.archive, s.flt.records, s.flt.recFlash, s.flock.cache, s.aon.queue, s.sec.cache)

/-- An update that leaves all that is kept. -/
theorem State.Keeps.same (h : s.Keeps t) (hk : u.kept = t.kept) : s.Keeps u := by
  simp only [State.kept, Prod.mk.injEq] at hk
  obtain ⟨h1, h2, h3, h4, h5, h6, h7, h8, h9, h10, h11, h12, h13, h14, h15, h16⟩ := hk
  refine ⟨h1 ▸ h.pending, h2 ▸ h.cfg, h3 ▸ h.ro, h4 ▸ h.rev, h5 ▸ h.act, h6 ▸ h.otp, fun k => ?_, h9 ▸ h.sessions, ?_, h14 ▸ h.flock,
    h15 ▸ h.aon, h16 ▸ h.sec⟩
  · obtain ⟨ha, hb⟩ := h.isl k
    exact ⟨h7 ▸ ha, h8 ▸ hb⟩
  · obtain ⟨ha, hb, hc, hd⟩ := h.flt
    exact ⟨h10 ▸ ha, h11 ▸ hb, h12 ▸ hc, h13 ▸ hd⟩

/-- A record update of what is not kept. -/
theorem State.Keeps.frame (h : s.Keeps t) {outbox free start fw eng arb isl lop flt rf mesh flock host port time aon pwr sec gnss snap uart tap}
    (hk : fw.otp = t.fw.otp ∧ isl.inflight = t.isl.inflight ∧ isl.aonHeld = t.isl.aonHeld ∧ lop.sessions = t.lop.sessions
      ∧ flt.log = t.flt.log ∧ flt.archive = t.flt.archive ∧ flt.records = t.flt.records ∧ flt.recFlash = t.flt.recFlash
      ∧ flock.cache = t.flock.cache ∧ aon.queue = t.aon.queue ∧ sec.cache = t.sec.cache := by
      exact ⟨rfl, rfl, rfl, rfl, rfl, rfl, rfl, rfl, rfl, rfl, rfl⟩) :
    s.Keeps ⟨t.pending, outbox, free, t.cfg, t.ro, t.rev, t.act, start, fw, eng, arb, isl, lop, flt, rf, mesh, flock, host, port, time,
      aon, pwr, sec, gnss, snap, uart, tap⟩ := by
  obtain ⟨h1, h2, h3, h4, h5, h6, h7, h8, h9, h10, h11⟩ := hk
  exact h.same (by simp only [State.kept, *])

/-- A state that came with another value. -/
theorem State.Keeps.of_snd {α : Type} {x : α × State} {c : α} (h : s.Keeps x.2) (e : x = (c, u)) : s.Keeps u := by
  rw [e] at h
  exact h

theorem State.Keeps.ite {c : Prop} [Decidable c] (h : s.Keeps t) (k : s.Keeps u) : s.Keeps (if c then t else u) := by
  split_ifs
  · exact h
  · exact k

theorem State.Keeps.foldl {α : Type} {f : State → α → State} {l : List α} (h : s.Keeps t)
    (hf : ∀ {u} (x : α), s.Keeps u → s.Keeps (f u x)) : s.Keeps (l.foldl f t) := by
  induction l generalizing t with
  | nil => exact h
  | cons x l ih => exact ih (hf x h)

theorem State.Keeps.foldl_fst {α β : Type} {f : State × β → α → State × β} {l : List α} {a : State × β} (h : s.Keeps a.1)
    (hf : ∀ {a : State × β} {x : α}, s.Keeps a.1 → s.Keeps (f a x).1) : s.Keeps (l.foldl f a).1 := by
  induction l generalizing a with
  | nil => exact h
  | cons x l ih => exact ih (hf h)

theorem State.Keeps.foldl_snd {α β : Type} {f : β × State → α → β × State} {l : List α} {a : β × State} (h : s.Keeps a.2)
    (hf : ∀ {a : β × State} {x : α}, s.Keeps a.2 → s.Keeps (f a x).2) : s.Keeps (l.foldl f a).2 := by
  induction l generalizing a with
  | nil => exact h
  | cons x l ih => exact ih (hf h)

/-! ### The stores of object values (R43, R46, R47, R556) -/

theorem State.Keeps.cfgPut (h : s.Keeps t) {i : Nat} {v : Val} : s.Keeps (t.cfgPut i v) :=
  h.trans { State.Keeps.refl t with cfg := storePut_wf i v _ }

theorem State.Keeps.roPut (h : s.Keeps t) {i : Nat} {v : Val} : s.Keeps (t.roPut i v) :=
  h.trans { State.Keeps.refl t with ro := storePut_wf i v _ }

theorem State.Keeps.bumpRev (h : s.Keeps t) {i : Nat} : s.Keeps (t.bumpRev i) :=
  h.trans { State.Keeps.refl t with rev := t.bumpRev_rev_wf i }

theorem State.Keeps.setAct (h : s.Keeps t) {i k : Nat} : s.Keeps (t.setAct i k) :=
  h.trans { State.Keeps.refl t with act := t.setAct_act_wf i k }

theorem State.Keeps.filterCfg (h : s.Keeps t) {p : Nat × Val → Bool} : s.Keeps { t with cfg := t.cfg.filter p } :=
  h.trans { State.Keeps.refl t with cfg := t.cfg.wf_filter p }

theorem State.Keeps.filterRo (h : s.Keeps t) {p : Nat × Val → Bool} : s.Keeps { t with ro := t.ro.filter p } :=
  h.trans { State.Keeps.refl t with ro := t.ro.wf_filter p }

/-! ### Updates of one region -/

theorem State.Keeps.withFlt (h : s.Keeps t) {x : FltState} (hx : t.flt.Keeps x) : s.Keeps { t with flt := x } :=
  h.trans { State.Keeps.refl t with flt := hx }

theorem State.Keeps.withFw (h : s.Keeps t) {x : FwState} (hx : t.fw.otp.Programs x.otp) : s.Keeps { t with fw := x } :=
  h.trans { State.Keeps.refl t with otp := hx }

theorem State.Keeps.withFlock (h : s.Keeps t) {x : FlockState} (hx : Within 16384 t.flock.cache x.cache) : s.Keeps { t with flock := x } :=
  h.trans { State.Keeps.refl t with flock := hx }

theorem State.Keeps.withAon (h : s.Keeps t) {x : AonState} (hx : Within 8 t.aon.queue x.queue) : s.Keeps { t with aon := x } :=
  h.trans { State.Keeps.refl t with aon := hx }

theorem State.Keeps.withSec (h : s.Keeps t) {x : SecState} (hx : Within 4096 t.sec.cache x.cache) : s.Keeps { t with sec := x } :=
  h.trans { State.Keeps.refl t with sec := hx }

theorem State.Keeps.modFlt (h : s.Keeps t) {f : FltState → FltState} (hf : t.flt.Keeps (f t.flt) := by exact ⟨id, id, id, id⟩) :
    s.Keeps (t.modFlt f) := h.trans { State.Keeps.refl t with flt := hf }

theorem State.Keeps.modAon (h : s.Keeps t) {f : AonState → AonState} (hf : Within 8 t.aon.queue (f t.aon).queue := by exact id) :
    s.Keeps (t.modAon f) := h.trans { State.Keeps.refl t with aon := hf }

theorem State.Keeps.modSec (h : s.Keeps t) {f : SecState → SecState} (hf : Within 4096 t.sec.cache (f t.sec).cache := by exact id) :
    s.Keeps (t.modSec f) := h.trans { State.Keeps.refl t with sec := hf }

theorem State.Keeps.modFw (h : s.Keeps t) {f : FwState → FwState} (hf : t.fw.otp.Programs (f t.fw).otp := by exact .refl _) :
    s.Keeps (t.modFw f) := h.trans { State.Keeps.refl t with otp := hf }

theorem State.Keeps.modIsl (h : s.Keeps t) {f : IslState → IslState} (hf : t.isl.Ok → (f t.isl).Ok := by exact fun k => ⟨k.1, k.2⟩) :
    s.Keeps (t.modIsl f) := h.trans { State.Keeps.refl t with isl := hf }

theorem State.Keeps.modLop (h : s.Keeps t) {f : LopState → LopState}
    (hf : SessionsOk t.lop.sessions → SessionsOk (f t.lop).sessions := by exact id) : s.Keeps (t.modLop f) :=
  h.trans { State.Keeps.refl t with sessions := hf }

theorem State.Keeps.advance (h : s.Keeps t) {d : HalfNs} : s.Keeps (t.advance d) := by
  refine h.same ?_
  simp only [State.kept, State.advance, AonState.pass, AonState.ticks]
  split_ifs <;> rfl

/-! ### Reads, writes, counts and outputs -/

theorem State.Keeps.roSet (h : s.Keeps t) {index e f : ℕ} {x : ℤ} : s.Keeps (t.roSet index e f x) :=
  h.roPut

theorem State.Keeps.count (h : s.Keeps t) {index : ℕ} {e f : ℕ} {by_ : ℕ} : s.Keeps (t.count index e f by_) :=
  h.roSet

theorem State.Keeps.accept (h : s.Keeps t) {index : ℕ} {v : Val} : s.Keeps (t.accept index v) :=
  h.cfgPut.bumpRev

theorem State.Keeps.emit (h : s.Keeps t) {o : Out} : s.Keeps (t.emit o) :=
  h.frame

theorem State.Keeps.draw_snd (h : s.Keeps t) : s.Keeps t.draw.2 :=
  h.frame

theorem State.Keeps.drawn (h : s.Keeps t) : s.Keeps t.drawn :=
  h.frame

theorem State.Keeps.tick (h : s.Keeps t) : s.Keeps t.tick :=
  h.advance

theorem State.Keeps.toMono (h : s.Keeps t) {t' : HalfNs} : s.Keeps (t.toMono t') :=
  h.advance

theorem State.Keeps.toAir (h : s.Keeps t) {t' : HalfNs} : s.Keeps (t.toAir t') :=
  h.advance

/-! ### Rings, events and faults -/

theorem State.Keeps.setIrq (h : s.Keeps t) {bit : ℕ} : s.Keeps (t.setIrq bit) :=
  h.ite (h.frame.emit.ite h.frame)

theorem State.Keeps.setRing (h : s.Keeps t) {n : Fin 6} {r : Ring} : s.Keeps (t.setRing n r) :=
  h.frame

theorem State.Keeps.writeback (h : s.Keeps t) {n : Fin 6} {value : ℕ} : s.Keeps (t.writeback n value) :=
  h.ite h.emit

theorem State.Keeps.signalRing (h : s.Keeps t) {n : Fin 6} : s.Keeps (t.signalRing n) :=
  h.setRing.emit

theorem State.Keeps.writeRecord (h : s.Keeps t) {n : Fin 6} {r : RingRec} : s.Keeps (t.writeRecord n r) :=
  h.frame.emit.writeback.signalRing.ite h.frame.emit.writeback

theorem State.Keeps.postRing (h : s.Keeps t) {n : Fin 6} {r : RingRec} : s.Keeps (t.postRing n r) :=
  h.count.ite ((h.frame.ite h.count).ite (h.writeRecord.ite ((h.frame.setRing.ite h.frame).ite h.count)))

theorem State.Keeps.drainRing (h : s.Keeps t) {n : Fin 6} {k : ℕ} : s.Keeps (State.drainRing n k t) := by
  induction k generalizing t with
  | zero => exact h
  | succ k ih =>
    unfold State.drainRing
    dsimp only
    split
    · exact h.setRing.ite h
    · exact (ih h.frame.writeRecord).ite h

theorem State.Keeps.drainRings (h : s.Keeps t) : s.Keeps t.drainRings :=
  h.foldl fun _ h' => h'.drainRing

theorem State.Keeps.setWindow (h : s.Keeps t) {w : EventWindow} : s.Keeps (t.setWindow w) :=
  h.frame

theorem State.Keeps.logEntry (h : s.Keeps t) {code inst flags time arg0 arg1 : ℕ} : s.Keeps (t.logEntry code inst flags time arg0 arg1) := by
  unfold State.logEntry
  extract_lets e log _ s1 s2
  have h1 : s.Keeps s1 := by
    refine h.withFlt ⟨?_, id, id, id⟩
    dsimp only
    exact Within.drop_excess 4096 _ log
  exact h1.count.postRing.setIrq.ite h1.count

theorem State.Keeps.queueAon (h : s.Keeps t) {code inst arg0 arg1 flags : ℕ} : s.Keeps (t.queueAon code inst arg0 arg1 flags) := by
  unfold State.queueAon
  split_ifs with _ hlen
  · exact h
  · exact h.withAon (Within.of_le (by simpa using hlen))
  · exact h.count

theorem State.Keeps.aonDrain (h : s.Keeps t) : s.Keeps t.aonDrain :=
  (h.withAon (Within.nil _ _)).foldl fun _ h' => h'.logEntry

theorem State.Keeps.raiseF (h : s.Keeps t) {code inst arg0 arg1 flags : ℕ} : s.Keeps (t.raiseF code inst arg0 arg1 flags) :=
  h.queueAon.ite (h.setWindow.ite h.setWindow.logEntry)

theorem State.Keeps.raise (h : s.Keeps t) {code : ℕ} {inst : ℕ} {arg0 arg1 : ℕ} : s.Keeps (t.raise code inst arg0 arg1) :=
  h.raiseF

/-! ### Power and budgets of a transmission -/

theorem State.Keeps.putPath (h : s.Keeps t) {p : Fin 6} {x : Path} : s.Keeps (t.putPath p x) :=
  h.frame

theorem State.Keeps.modPath (h : s.Keeps t) {p : Fin 6} {f : Path → Path} : s.Keeps (t.modPath p f) :=
  h.putPath

theorem State.Keeps.endCmd (h : s.Keeps t) {p : Fin 6} {c : TxCmd} {status : ℕ} {start stop : HalfNs} : s.Keeps (t.endCmd p c status start stop) :=
  h.frame

theorem State.Keeps.endQueue (h : s.Keeps t) {p : Fin 6} {status : ℕ} : s.Keeps (t.endQueue p status) :=
  h.modPath.foldl fun _ h' => h'.endCmd

/-! ### Transactions and what they book -/

theorem State.Keeps.setRec (h : s.Keeps t) {f : ℕ} {r : FlockRec} : s.Keeps (t.setRec f r) :=
  h.frame

theorem State.Keeps.modRec (h : s.Keeps t) {f : ℕ} {g : FlockRec → FlockRec} : s.Keeps (t.modRec f g) := by
  unfold State.modRec
  dsimp only
  split
  · exact h.setRec
  · exact h

theorem State.Keeps.useKey (h : s.Keeps t) {root : Fin 64} {label : ℕ} {ctx : List ℕ} : s.Keeps (t.useKey root label ctx) := by
  unfold State.useKey
  dsimp only
  split_ifs with _ hk
  · exact h
  · exact h.withSec (Within.cons_erase (by simpa using hk))
  · exact h.frame
  · exact h.frame

theorem State.Keeps.writeSlot (h : s.Keeps t) {i : Fin 64} {st key : ℕ} : s.Keeps (t.writeSlot i st key) :=
  h.frame

theorem State.Keeps.eraseSlot (h : s.Keeps t) {i : Fin 64} : s.Keeps (t.eraseSlot i) :=
  h.writeSlot

theorem State.Keeps.useLinkKey (h : s.Keeps t) {f : ℕ} : s.Keeps (t.useLinkKey f) := by
  unfold State.useLinkKey
  split
  · exact h.useKey
  · exact h

theorem State.Keeps.lookup (h : s.Keeps t) {f : ℕ} : s.Keeps (t.lookup f) := by
  unfold State.lookup
  dsimp only
  split_ifs with hf
  · exact (h.withFlock (Within.cons_erase (by simpa using hf))).count
  · exact h.count.frame
  · exact h.count

theorem State.Keeps.setAcct (h : s.Keeps t) {b : Fin 2} {a : ℕ} {x : Account} : s.Keeps (t.setAcct b a x) :=
  h.frame

theorem State.Keeps.dutyNote (h : s.Keeps t) {b : Fin 2} {a : ℕ} {ok : Bool} : s.Keeps (t.dutyNote b a ok) :=
  (h.setAcct.ite h.setAcct.count).raise.ite (h.setAcct.ite h.setAcct.count)

theorem State.Keeps.dutyReserve_snd (h : s.Keeps t) {b : Fin 2} {a d : ℕ} : s.Keeps (t.dutyReserve b a d).2 := by
  unfold State.dutyReserve
  dsimp only
  split_ifs
  · exact h.dutyNote.dutyNote.setAcct.setAcct
  · exact h.dutyNote.dutyNote

theorem State.Keeps.dutyRelease (h : s.Keeps t) {b : Fin 2} {a d : ℕ} : s.Keeps (t.dutyRelease b a d) :=
  h.setAcct.setAcct

theorem State.Keeps.dutyCharge (h : s.Keeps t) {b : Fin 2} {a m general beacon : ℕ} : s.Keeps (t.dutyCharge b a m general beacon) :=
  h.setAcct.setAcct

theorem State.Keeps.chargeBeacon (h : s.Keeps t) {b : Fin 2} {a m d : ℕ} : s.Keeps (t.chargeBeacon b a m d) := by
  have hput {u : State} {x : ℕ} (h : s.Keeps u) : s.Keeps (if u.reserveFits b x d then u.setAcct b x ((u.acct b x).charge m 0 d)
      else u.setAcct b x ((u.acct b x).charge m d 0)) := h.setAcct.ite h.setAcct
  exact hput (hput h)

theorem State.Keeps.dwellCharge (h : s.Keeps t) {b : Fin 2} {chan : Option ℕ} {carrier mode : ℕ} {t' : HalfNs} {d : ℕ} : s.Keeps
    (t.dwellCharge b chan carrier mode t' d) := by
  unfold State.dwellCharge
  dsimp only
  split
  · exact h.frame.ite h
  · exact h

theorem State.Keeps.txCommand (h : s.Keeps t) {p : Fin 6} {c : TxCmd} : s.Keeps (t.txCommand p c) := by
  unfold State.txCommand
  dsimp only
  split
  · exact h.frame.endCmd
  · exact h.frame.modPath.ite h.frame.drawn.endCmd

theorem State.Keeps.completeReq (h : s.Keeps t) {q : DelReq} {status : ℕ} {relayed : Bool} {attempts : ℕ} : s.Keeps
    (t.completeReq q status relayed attempts) :=
  (h.frame.modRec.ite h.frame).ite ((h.frame.modRec.ite h.frame).postRing)

theorem State.Keeps.putTxn (h : s.Keeps t) {t' : Txn} : s.Keeps (t.putTxn t') :=
  h.frame

theorem State.Keeps.bookCmd (h : s.Keeps t) {p : Fin 6} {c : TxCmd} : s.Keeps (t.bookCmd p c) :=
  h.frame

theorem State.Keeps.handOver (h : s.Keeps t) {id : ℕ} : s.Keeps (t.handOver id) :=
  h.frame.foldl fun _ h' => h'.txCommand

theorem State.Keeps.dropBooked (h : s.Keeps t) {id : ℕ} : s.Keeps (t.dropBooked id) :=
  h.frame.foldl fun _ h' => h'.dutyRelease

theorem State.Keeps.dropCmds (h : s.Keeps t) {id : ℕ} : s.Keeps (t.dropCmds id) :=
  h.dropBooked.foldl fun _ h' => h'.putPath.foldl fun _ h2 => h2.dutyRelease

theorem State.Keeps.endTxn (h : s.Keeps t) {t' : Txn} {status : ℕ} {relayed : Bool} : s.Keeps (t.endTxn t' status relayed) := by
  unfold State.endTxn
  dsimp only
  split
  · split
    · exact h.dropCmds.frame.count.completeReq
    · exact h.dropCmds.frame.count
  · exact h.dropCmds.frame.count

theorem State.Keeps.endLinkTxns (h : s.Keeps t) {f status : ℕ} : s.Keeps (t.endLinkTxns f status) :=
  h.foldl fun _ h' => h'.endTxn

theorem State.Keeps.addTxn (h : s.Keeps t) {t' : Txn} : s.Keeps (t.addTxn t') :=
  h.frame.roSet

theorem State.Keeps.putReq (h : s.Keeps t) {q : DelReq} : s.Keeps (t.putReq q) :=
  h.frame

/-! ### Links and associations -/

theorem State.Keeps.countWindow (h : s.Keeps t) {r : FlockRec} {t0 : HalfNs} : s.Keeps (t.countWindow r t0) :=
  h.frame

theorem State.Keeps.modLinks (h : s.Keeps t) {p : Fin 6} {g : FlockRec → FlockLink} : s.Keeps (t.modLinks p g) :=
  h.frame

theorem State.Keeps.modPer (h : s.Keeps t) {p : Fin 6} {g : PathMesh → PathMesh} : s.Keeps (t.modPer p g) :=
  h.frame

theorem State.Keeps.chmapCheck (h : s.Keeps t) {p : Fin 6} : s.Keeps (t.chmapCheck p) := by
  unfold State.chmapCheck
  dsimp only
  split
  · exact h.cfgPut.cfgPut.modPer.modLinks.raise.ite h
  · exact h

theorem State.Keeps.startUpdate (h : s.Keeps t) {p : Fin 6} {map c0 : ℕ} : s.Keeps (t.startUpdate p map c0) := by
  unfold State.startUpdate
  exact h.modPer.modLinks

theorem State.Keeps.setLinkState (h : s.Keeps t) {f st : ℕ} : s.Keeps (t.setLinkState f st) :=
  h.modRec

theorem State.Keeps.enterResync (h : s.Keeps t) {f : ℕ} : s.Keeps (t.enterResync f) :=
  h.setLinkState.count.raise

theorem State.Keeps.resyncCheck (h : s.Keeps t) {f : ℕ} : s.Keeps (t.resyncCheck f) := by
  unfold State.resyncCheck
  split
  · exact h.enterResync.ite h
  · exact h

theorem State.Keeps.resyncAll (h : s.Keeps t) : s.Keeps t.resyncAll :=
  h.foldl fun _ h' => h'.resyncCheck

theorem State.Keeps.detach (h : s.Keeps t) {f status : ℕ} : s.Keeps (t.detach f status) := by
  unfold State.detach
  dsimp only
  split
  · exact h
  · split
    · exact h.modRec.endLinkTxns.chmapCheck
    · exact h.modRec.endLinkTxns

theorem State.Keeps.contact (h : s.Keeps t) {f : ℕ} {stamp : HalfNs} {e : ℤ} {stat : Option (ℤ × ℕ × ℕ)} : s.Keeps (t.contact f stamp e stat) := by
  unfold State.contact
  dsimp only
  split
  · exact h
  · exact (h.setRec.drawn.frame.setLinkState.ite (h.setRec.drawn.frame.setLinkState.count.raise.ite h.setRec.drawn.frame)).resyncCheck

theorem State.Keeps.etxEvent (h : s.Keeps t) {f : ℕ} {ok : Bool} : s.Keeps (t.etxEvent f ok) :=
  h.modRec

theorem State.Keeps.routeStep (h : s.Keeps t) {f : ℕ} {via : Option ℕ} {p : Fin 6} : s.Keeps (t.routeStep f via p) := by
  unfold State.routeStep
  dsimp only
  split
  · exact h
  · exact h.setRec.ite h.setRec.count.raise

theorem State.Keeps.countUplink (h : s.Keeps t) {f : ℕ} : s.Keeps (t.countUplink f) :=
  h.modRec

theorem State.Keeps.takeCtr_snd (h : s.Keeps t) {f : ℕ} : s.Keeps (t.takeCtr f).2 := by
  unfold State.takeCtr
  split
  · exact h
  · dsimp only
    split_ifs
    · exact h
    · exact h.useLinkKey.setRec.raise
    · exact h.useLinkKey.setRec

theorem State.Keeps.takeOther_snd (h : s.Keeps t) {eui key : ℕ} : s.Keeps (t.takeOther eui key).2 :=
  h.frame

theorem State.Keeps.sendReply_snd (h : s.Keeps t) {p : Fin 6} {carrier mode : ℕ} {start : HalfNs} {owner : TxOwner} {f : AirOut} :
    s.Keeps (t.sendReply p carrier mode start owner f).2 :=
  h.dutyReserve_snd.txCommand.ite h.dutyReserve_snd

theorem State.Keeps.chorusEnd (h : s.Keeps t) {t' : Txn} {status : ℕ} : s.Keeps (t.chorusEnd t' status) := by
  unfold State.chorusEnd
  dsimp only
  split
  · exact h.endTxn
  · exact (h.ite h.count).putReq.endTxn.ite ((h.ite h.count).putReq.putTxn)

theorem State.Keeps.disassocEnd (h : s.Keeps t) {t' : Txn} : s.Keeps (t.disassocEnd t') := by
  unfold State.disassocEnd
  split
  · exact h.detach
  · exact h

theorem State.Keeps.attemptEnd (h : s.Keeps t) {t' : Txn} {status : ℕ} {aired : Bool} : s.Keeps (t.attemptEnd t' status aired) :=
  h.dropCmds.endTxn.ite (h.dropCmds.chorusEnd.ite (h.dropCmds.putTxn.ite h.dropCmds.endTxn.disassocEnd))

theorem State.Keeps.beaconFail (h : s.Keeps t) {p : Fin 6} {cause : ℕ} : s.Keeps (t.beaconFail p cause) :=
  h.count.roSet.frame.raise.ite h.count.roSet.frame

theorem State.Keeps.settleCharge (h : s.Keeps t) {e : Ended} : s.Keeps (t.settleCharge e) := by
  unfold State.settleCharge
  dsimp only
  refine .ite ?_ ?_
  · exact h.dutyRelease
  · refine .dwellCharge ?_
    split
    · exact h.dutyRelease.chargeBeacon
    · exact h.dutyRelease.dutyCharge

theorem State.Keeps.txnSent (h : s.Keeps t) {t' : Txn} {stage : ℕ} {stop : HalfNs} : s.Keeps (t.txnSent t' stage stop) := by
  unfold State.txnSent
  dsimp only
  split
  · split
    · exact h.frame.endTxn
    · exact h.endTxn
  · refine h.putTxn.ite (.putTxn (.count ?_))
    split
    · exact h.putReq
    · exact h
  · exact h.endTxn.ite (h.putTxn.ite h.putTxn)

theorem State.Keeps.announce (h : s.Keeps t) {c : TxContent} : s.Keeps (t.announce c) := by
  unfold State.announce
  dsimp only
  split
  · exact h.frame
  · exact h

theorem State.Keeps.settleOne (h : s.Keeps t) {e : Ended} : s.Keeps (t.settleOne e) := by
  unfold State.settleOne
  dsimp only
  split
  · exact (h.settleCharge.ite h.settleCharge.emit).count.modPer.announce.ite ((h.settleCharge.ite h.settleCharge.emit).beaconFail)
  · split
    · exact h.settleCharge.ite h.settleCharge.emit
    · exact (h.settleCharge.ite h.settleCharge.emit).txnSent.ite ((h.settleCharge.ite h.settleCharge.emit).attemptEnd)
  · exact h.settleCharge.ite h.settleCharge.emit

theorem State.Keeps.settleEnded (h : s.Keeps t) {n : ℕ} : s.Keeps (State.settleEnded n t) := by
  induction n generalizing t with
  | zero => exact h
  | succ n ih =>
    unfold State.settleEnded
    split
    · exact h
    · exact ih h.frame.settleOne

theorem State.Keeps.putReqTxn (h : s.Keeps t) {q : DelReq} {t' : Txn} : s.Keeps (t.putReqTxn q t') :=
  h.addTxn.frame

/-- A request that is promoted takes a transaction (R244, R274). -/
theorem State.Keeps.promoteReq (h : s.Keeps t) {q : DelReq} {kind : TxnKind} {r : FlockRec} {x : Txn}
    (e : t.promoteReq q kind r = some (x, u)) : s.Keeps u := by
  unfold State.promoteReq at e
  split_ifs at e
  obtain ⟨i, -, hi⟩ := Option.map_eq_some_iff.1 e
  obtain ⟨-, rfl⟩ := Prod.mk.inj hi
  exact h.putReqTxn

theorem State.Keeps.promoted (h : s.Keeps t) : s.Keeps t.promoted := by
  refine h.foldl fun q h' => h'.ite ?_
  split
  · refine .ite ?_ h'
    split
    next e => exact h'.promoteReq e
    next => exact h'
  · exact h'

theorem State.Keeps.removals (h : s.Keeps t) : s.Keeps t.removals := by
  unfold State.removals
  dsimp only
  refine h.foldl fun x h' => ?_
  split
  · split
    · exact h'.modRec.addTxn
    · exact h'
  · exact h'

theorem State.Keeps.settled (h : s.Keeps t) : s.Keeps t.settled :=
  h.settleEnded.removals.promoted

/-! ### Paths -/

theorem State.Keeps.applyTune (h : s.Keeps t) {p : Fin 6} {khz : ℕ} : s.Keeps (t.applyTune p khz) :=
  h.putPath.foldl fun _ h' => h'.endCmd

theorem State.Keeps.startCal (h : s.Keeps t) {p : Fin 6} : s.Keeps (t.startCal p) := by
  unfold State.startCal
  dsimp only
  refine .ite ?_ ?_
  · split
    · exact h.putPath.ite h
    · exact (h.putPath.ite h).ite (h.putPath.ite h)
  · exact h

theorem State.Keeps.startCals (h : s.Keeps t) : s.Keeps t.startCals :=
  h.foldl fun _ h' => h'.startCal

theorem State.Keeps.settleWaits (h : s.Keeps t) {p : Fin 6} : s.Keeps (t.settleWaits p) := by
  unfold State.settleWaits
  dsimp only
  refine .ite ?_ ?_
  · split
    · refine .ite ?_ ?_
      · refine .putPath ?_
        split
        · exact h.putPath.putPath.applyTune.modPath
        · exact h.putPath.putPath
      · refine .ite ?_ ?_
        · refine .putPath ?_
          split
          · exact h.putPath.putPath.applyTune.modPath
          · exact h.putPath.putPath
        · split
          · exact h.putPath.putPath.applyTune.modPath
          · exact h.putPath.putPath
    · refine .ite ?_ ?_
      · refine .putPath ?_
        split
        · exact h.putPath.putPath.applyTune.modPath
        · exact h.putPath.putPath
      · split
        · exact h.putPath.putPath.applyTune.modPath
        · exact h.putPath.putPath
  · exact h.putPath

theorem State.Keeps.settlePath (h : s.Keeps t) {p : Fin 6} : s.Keeps (t.settlePath p) :=
  h.settleWaits.startCal

theorem State.Keeps.afterTx (h : s.Keeps t) {p : Fin 6} {sent : Bool} : s.Keeps (t.afterTx p sent) :=
  h.putPath.ite (h.putPath.ite h.putPath.settlePath)

/-! ### Commands of the paths -/

theorem State.Keeps.cutTx (h : s.Keeps t) {p : Fin 6} {status : ℕ} : s.Keeps (t.cutTx p status) := by
  unfold State.cutTx
  dsimp only
  split
  · exact h.advance.endCmd.afterTx.ite h.endCmd.afterTx
  · exact h

theorem State.Keeps.abortPending (h : s.Keeps t) {p : Fin 6} {handle : ℕ} : s.Keeps (t.abortPending p handle) := by
  unfold State.abortPending
  dsimp only
  split
  · exact h.putPath.endCmd
  · exact h

theorem State.Keeps.rxOn (h : s.Keeps t) {p : Fin 6} : s.Keeps (t.rxOn p) := by
  unfold State.rxOn
  dsimp only
  refine .ite ?_ ?_
  · exact h.emit
  · split
    · exact h.emit
    · exact h.putPath
    · exact h.putPath
    · exact h
    · exact h.putPath.settlePath
    · exact h.putPath

theorem State.Keeps.rxOff (h : s.Keeps t) {p : Fin 6} : s.Keeps (t.rxOff p) := by
  unfold State.rxOff
  dsimp only
  split
  · exact h
  · exact h
  · exact h.putPath
  · exact h.putPath.ite h.putPath.settlePath
  · exact h.putPath.settlePath
  · exact h.putPath
  · exact h.putPath
  · exact h.putPath

theorem State.Keeps.tune (h : s.Keeps t) {p : Fin 6} {khz frames : ℕ} : s.Keeps (t.tune p khz frames) := by
  unfold State.tune
  dsimp only
  split
  · exact h.putPath
  · exact h.putPath
  · exact h.putPath
  · exact h.putPath.ite h.putPath
  · exact h.applyTune.settlePath
  · exact h.applyTune.modPath
  · exact h.count.applyTune.modPath.settlePath
  · exact h.putPath

theorem State.Keeps.calRequest (h : s.Keeps t) {p : Fin 6} {bits : ℕ} : s.Keeps (t.calRequest p bits) := by
  unfold State.calRequest
  dsimp only
  refine .ite ?_ ?_
  · exact h
  · split
    · exact h.putPath
    · exact h.ite h.putPath
    · exact h.putPath
    · exact h.putPath
    · exact h.putPath.startCal
    · exact h.putPath.startCal
    · exact h.putPath

theorem State.Keeps.goOnAir (h : s.Keeps t) {id : ℕ} : s.Keeps (t.goOnAir id) := by
  unfold State.goOnAir
  split
  · exact h.putTxn
  · exact h

theorem State.Keeps.headDue (h : s.Keeps t) {p : Fin 6} : s.Keeps (t.headDue p) := by
  unfold State.headDue
  dsimp only
  split
  · exact h
  · refine .settlePath ?_
    split
    · exact h.modPath.goOnAir
    · exact h.modPath

theorem State.Keeps.txDue (h : s.Keeps t) {p : Fin 6} : s.Keeps (t.txDue p) := by
  unfold State.txDue
  dsimp only
  split
  · exact h.toAir.headDue.ite (h.toAir.goOnAir.handOver.headDue.ite h.toAir.goOnAir.handOver)
  · exact h.toAir.headDue
  · exact h

theorem State.Keeps.rejectHead (h : s.Keeps t) {p : Fin 6} {c : TxCmd} {status : ℕ} : s.Keeps (t.rejectHead p c status) :=
  (h.putPath.endCmd.count.ite h.putPath.endCmd).modPath.settlePath.ite
    ((h.putPath.endCmd.count.ite h.putPath.endCmd).modPath.ite (h.putPath.endCmd.count.ite h.putPath.endCmd))

theorem State.Keeps.rejectSetup (h : s.Keeps t) {p : Fin 6} {c : TxCmd} {status : ℕ} : s.Keeps (t.rejectSetup p c status) :=
  h.endCmd.afterTx

theorem State.Keeps.lbtCount (h : s.Keeps t) {p : Fin 6} {status : ℕ} : s.Keeps (t.lbtCount p status) :=
  h.count.ite h

theorem State.Keeps.deadlineSetup (h : s.Keeps t) {p : Fin 6} {r : Running} {rssi : ℤ} : s.Keeps (t.deadlineSetup p r rssi) := by
  unfold State.deadlineSetup
  dsimp only
  split
  · exact h.toAir.rejectSetup.lbtCount
  · exact h.toAir.modPath

theorem State.Keeps.deadlineHead (h : s.Keeps t) {p : Fin 6} {c : TxCmd} {rssi : ℤ} : s.Keeps (t.deadlineHead p c rssi) := by
  unfold State.deadlineHead
  dsimp only
  split
  · exact h.toAir.modPath.rejectHead
  · refine .ite ?_ ?_
    · exact h.toAir.modPath.modPath.ite h.toAir.modPath.rejectHead
    · split
      · exact h.toAir.modPath.rejectHead.lbtCount
      · exact h.toAir.modPath.modPath

theorem State.Keeps.txDeadline (h : s.Keeps t) {p : Fin 6} {rssi : ℤ} : s.Keeps (t.txDeadline p rssi) := by
  unfold State.txDeadline
  split
  · refine .ite ?_ ?_
    · split
      · exact h
      · exact h.deadlineHead
    · exact h.deadlineSetup
  · exact h.deadlineHead
  · exact h

theorem State.Keeps.beginSetup (h : s.Keeps t) {p : Fin 6} {c : TxCmd} {at_ : HalfNs} : s.Keeps (t.beginSetup p c at_) :=
  h.modPath

theorem State.Keeps.blankLanes (h : s.Keeps t) {p : Fin 6} {frames : ℕ} : s.Keeps (t.blankLanes p frames) :=
  h.count.ite h

theorem State.Keeps.lateStart (h : s.Keeps t) {p : Fin 6} {c : TxCmd} {frames : ℕ} : s.Keeps (t.lateStart p c frames) :=
  h.rejectHead.ite ((h.blankLanes.count.ite h.blankLanes).beginSetup.putPath.foldl fun _ h' => h'.endCmd)

theorem State.Keeps.setupStart (h : s.Keeps t) {p : Fin 6} {frames : ℕ} : s.Keeps (t.setupStart p frames) := by
  unfold State.setupStart
  dsimp only
  split
  · exact h
  · exact (h.lateStart.ite (h.toAir.blankLanes.beginSetup.ite h)).ite h

theorem State.Keeps.countPower (h : s.Keeps t) {p : Fin 6} {k : PwrPick} : s.Keeps (t.countPower p k) := by
  unfold State.countPower
  extract_lets s1 s2 s3
  have h1 : s.Keeps s1 := h.count.ite h
  have h2 : s.Keeps s2 := h1.count.ite h1
  have h3 : s.Keeps s3 := h2.count.ite h2
  exact h3.count.ite h3

theorem State.Keeps.txStart (h : s.Keeps t) {p : Fin 6} : s.Keeps (t.txStart p) := by
  unfold State.txStart
  dsimp only
  split
  · split
    · exact h.toAir.endCmd.afterTx
    · exact h.toAir.putPath.countPower.emit
  · exact h

theorem State.Keeps.txEnd (h : s.Keeps t) {p : Fin 6} : s.Keeps (t.txEnd p) := by
  unfold State.txEnd
  dsimp only
  split
  · exact h.toAir.endCmd.afterTx
  · exact h

theorem State.Keeps.turnRxEnd (h : s.Keeps t) {p : Fin 6} : s.Keeps (t.turnRxEnd p) :=
  h.toAir.putPath.settlePath.ite h

theorem State.Keeps.lockSettles (h : s.Keeps t) {p : Fin 6} : s.Keeps (t.lockSettles p) :=
  h.putPath.ite h.putPath.settlePath

theorem State.Keeps.lockAchieved (h : s.Keeps t) {p : Fin 6} : s.Keeps (t.lockAchieved p) := by
  unfold State.lockAchieved
  dsimp only
  refine .ite ?_ ?_
  · exact h
  · split
    · exact ((h.putPath.lateStart.ite h.putPath.beginSetup).ite h.putPath.modPath.settlePath).ite h.putPath.lockSettles
    · exact h.putPath.lockSettles

theorem State.Keeps.lockTimeout (h : s.Keeps t) {p : Fin 6} : s.Keeps (t.lockTimeout p) :=
  h.ite (h.toAir.putPath.raise.ite h.toAir.putPath.raise.endQueue)

theorem State.Keeps.txTimeout (h : s.Keeps t) {p : Fin 6} : s.Keeps (t.txTimeout p) := by
  unfold State.txTimeout
  dsimp only
  split
  · exact h.toAir.endCmd.modPath.afterTx.endQueue.raise.count
  · exact h

theorem State.Keeps.txRearm (h : s.Keeps t) {p : Fin 6} {v : ℕ} : s.Keeps (t.txRearm p v) :=
  h.modPath.ite h

theorem State.Keeps.stepDone (h : s.Keeps t) {p : Fin 6} {c : CalRun} {item : ℕ} : s.Keeps (t.stepDone p c item) :=
  h.ite (h.modPath.ite h.modPath.settleWaits)

theorem State.Keeps.calDone (h : s.Keeps t) {p : Fin 6} {c : CalRun} {item : ℕ} : s.Keeps (t.calDone p c item) :=
  h.modPath.modPath.settlePath.ite h.modPath.stepDone

theorem State.Keeps.nextItem (h : s.Keeps t) {p : Fin 6} {c : CalRun} {item : ℕ} : s.Keeps (t.nextItem p c item) :=
  h.calDone.ite h.modPath.stepDone

theorem State.Keeps.preemptCal (h : s.Keeps t) {p : Fin 6} {c : CalRun} {item : ℕ} : s.Keeps (t.preemptCal p c item) :=
  (h.raise.count.modPath.raise.ite h.raise.count.modPath).stepDone

theorem State.Keeps.calResult (h : s.Keeps t) {p : Fin 6} {item status : ℕ} : s.Keeps (t.calResult p item status) := by
  unfold State.calResult
  exact h.roSet.roSet.modPath

theorem State.Keeps.calValue (h : s.Keeps t) {p : Fin 6} {item : ℕ} {v : CalValue} : s.Keeps (t.calValue p item v) :=
  h.modPath.roPut.ite h.modPath

theorem State.Keeps.calFail (h : s.Keeps t) {p : Fin 6} {c : CalRun} {item : ℕ} : s.Keeps (t.calFail p c item) :=
  h.calResult.raise.modPath.endQueue.ite h.calResult.raise.nextItem

theorem State.Keeps.calStepEnd (h : s.Keeps t) {p : Fin 6} {last pass : Bool} {val : ℕ} {rx : List ℕ} : s.Keeps (t.calStepEnd p last pass val rx) :=
    by
  unfold State.calStepEnd
  split
  · split
    · exact h.calDone
    · refine .ite ?_ ?_
      · exact h.calResult.calValue.nextItem
      · refine .ite ?_ ?_
        · split
          · exact h.calResult.calValue.raise.nextItem
          · exact h.calFail
        · exact h.preemptCal.ite h.modPath.stepDone
  · exact h

theorem State.Keeps.pathOn (h : s.Keeps t) {p : Fin 6} {fromOff : Bool} : s.Keeps (t.pathOn p fromOff) :=
  h.putPath.ite h.putPath.settlePath

theorem State.Keeps.pathOff (h : s.Keeps t) {p : Fin 6} : s.Keeps (t.pathOff p) := by
  unfold State.pathOff
  dsimp only
  refine .modPath ?_
  refine .endQueue ?_
  split
  · exact h.endCmd
  · exact h

theorem State.Keeps.tempRecal (h : s.Keeps t) {p : Fin 6} : s.Keeps (t.tempRecal p) :=
  h.ite h.putPath.startCal

theorem State.Keeps.dieTempMeasured (h : s.Keeps t) {t' : ℤ} : s.Keeps (t.dieTempMeasured t') :=
  h.frame.foldl fun _ h' => h'.tempRecal

/-- The slot that takes a lock record is blank R158. -/
theorem State.lockSlot_blank {i : Fin 2} (e : t.lockSlot = some i) : t.fw.otp.lock[i] = [] := by
  unfold State.lockSlot at e
  split_ifs at e with h0 h1
  · obtain rfl := Option.some.inj e
    simpa using h0
  · obtain rfl := Option.some.inj e
    simpa using h1.2

theorem Otp.Programs.lockSet (o : Otp) {i : Fin 2} {r : Bytes} (h : o.lock[i] = []) :
    o.Programs { o with lock := o.lock.set i r } where
  steps := (Otp.Programs.refl o).steps
  lock j hj := Vector.getElem_set_ne i.isLt j.isLt fun e => hj (Fin.ext e ▸ h)
  rest := rfl

theorem State.Keeps.lockProgram (h : s.Keeps t) {r : Bytes} : s.Keeps (t.lockProgram r) := by
  unfold State.lockProgram
  split
  next i e => exact h.withFw (.lockSet _ (State.lockSlot_blank e))
  next => exact h

/-! ### Frames received -/

theorem State.Keeps.laneTaken (h : s.Keeps t) {p : Fin 6} {lane : ℕ} {stamp last : HalfNs} : s.Keeps (t.laneTaken p lane stamp last) :=
  h.modPer

theorem State.Keeps.putReplay (h : s.Keeps t) {src key top seen : ℕ} : s.Keeps (t.putReplay src key top seen) := by
  unfold State.putReplay
  dsimp only
  split
  · exact h.modRec
  · exact h.frame

theorem State.Keeps.useFrameKey (h : s.Keeps t) {f : AirFrame} : s.Keeps (t.useFrameKey f) := by
  unfold State.useFrameKey
  dsimp only
  split
  · exact h.useKey
  · exact h.ite h.useKey
  · exact h

theorem State.Keeps.micCheck_snd (h : s.Keeps t) {f : AirFrame} {key : ℕ} : s.Keeps (t.micCheck f key).2 := by
  unfold State.micCheck
  dsimp only
  split
  · exact h.useFrameKey
  · split
    · exact h.useFrameKey.count
    · exact h.useFrameKey.count.count
  · exact h.useFrameKey.count

theorem State.Keeps.deliver (h : s.Keeps t) {f : AirFrame} {v : Verified} : s.Keeps (t.deliver f v) :=
  h.count.frame.ite h.count

theorem State.Keeps.secureCheck (h : s.Keeps t) {f : AirFrame} : s.Keeps (t.secureCheck f) := by
  unfold State.secureCheck
  dsimp only
  split
  · exact h.count
  · refine h.ite ?_
    split
    · exact h.count
    · split
      next e => exact (h.micCheck_snd.of_snd e).count
      next e =>
        have h1 := h.micCheck_snd.of_snd e
        exact h1.count.deliver.ite (h1.putReplay.deliver.ite h1.putReplay.count)

theorem State.Keeps.frameChecks (h : s.Keeps t) {f : AirFrame} : s.Keeps (t.frameChecks f) :=
  h.count.ite (h.count.ite (h.count.ite (h.count.ite (h.count.ite h.count.secureCheck))))

theorem State.Keeps.agc (h : s.Keeps t) {p : Fin 6} {want : ℕ} : s.Keeps (t.agc p want) :=
  h.modPath.count.ite (h.modPath.count.ite h.modPath)

theorem State.Keeps.frameReceived (h : s.Keeps t) {f0 : AirFrame} : s.Keeps (t.frameReceived f0) :=
  h.ite (h.count.ite (h.laneTaken.agc.count.count.ite h.laneTaken.agc.count.frameChecks))

theorem State.Keeps.legacyReceived (h : s.Keeps t) {f0 : LegacyFrame} : s.Keeps (t.legacyReceived f0) :=
  h.ite (h.count.ite (h.laneTaken.agc.count.count.ite
    (h.laneTaken.agc.count.count.ite (h.laneTaken.agc.count.count.ite h.laneTaken.agc.count.count.postRing))))

theorem State.Keeps.takeFrame (h : s.Keeps t) {kind : RxFrame → Bool} {x : RxFrame} (e : t.takeFrame kind = some (x, u)) : s.Keeps u := by
  unfold State.takeFrame at e
  split at e
  · obtain ⟨-, rfl⟩ := Prod.mk.inj (Option.some.inj e)
    exact h.frame
  · cases e

/-! ### Commands of the mesh -/

theorem State.Keeps.sendTxnReply (h : s.Keeps t) {p : Fin 6} {carrier : ℕ} {t' : Txn} {start : HalfNs} {stage : ℕ} :
    s.Keeps (t.sendTxnReply p carrier t' start stage) := by
  unfold State.sendTxnReply
  dsimp only
  refine h.dutyReserve_snd.putTxn.ite ?_
  split
  next e => exact (h.dutyReserve_snd.takeCtr_snd.of_snd e).dutyRelease.endTxn
  next e => exact (h.dutyReserve_snd.takeCtr_snd.of_snd e).putTxn.txCommand

theorem State.Keeps.chain (h : s.Keeps t) {p : Fin 6} {carrier f : ℕ} {limit at_ : HalfNs} : s.Keeps (t.chain p carrier f limit at_) := by
  unfold State.chain
  split
  · exact h
  · split
    · exact h.sendTxnReply.ite h
    · split
      · exact h
      · refine .ite ?_ h
        split
        next e => exact (h.promoteReq e).sendTxnReply
        next => exact h

theorem State.Keeps.windowEtx (h : s.Keeps t) {f : ℕ} {x : RxFrame} : s.Keeps (t.windowEtx f x) := by
  unfold State.windowEtx
  split
  · exact h.etxEvent.ite h
  · exact h

theorem State.Keeps.uplink_snd (h : s.Keeps t) {x : RxFrame} : s.Keeps (t.uplink x).2 := by
  unfold State.uplink
  extract_lets f s1 s2 s3
  have h2 : s.Keeps s2 := h.lookup.ite h.lookup.countUplink.routeStep
  have h3 : s.Keeps s3 := h2.modRec
  clear_value s2 s3
  split
  · exact h
  · split
    · dsimp only
      split_ifs
      · exact h2
      · exact h2.windowEtx.contact
    · split
      · dsimp only
        split_ifs
        · exact h3
        · exact h3.windowEtx.contact
      · exact h3

theorem State.Keeps.confirmByChannel (h : s.Keeps t) {x : RxFrame} : s.Keeps (t.confirmByChannel x) := by
  unfold State.confirmByChannel
  dsimp only
  split
  · exact h.modRec.ite h
  · exact h

theorem State.Keeps.blockAck (h : s.Keeps t) {f n first bits : ℕ} : s.Keeps (t.blockAck f n first bits) := by
  unfold State.blockAck
  dsimp only
  split
  · exact h.frame.modRec.frame.eraseSlot.raise.ite h.frame.modRec
  · exact h

theorem State.Keeps.acked (h : s.Keeps t) {x : RxFrame} {r : FlockRec} {e : ℤ} : s.Keeps (t.acked x r e) :=
  h.modRec.ite h.modRec.modRec

theorem State.Keeps.answer (h : s.Keeps t) {x : RxFrame} {e : ℤ} : s.Keeps (t.answer x e) := by
  unfold State.answer
  dsimp only
  split
  · exact h
  · refine h.ite ?_
    split
    next e => exact h.takeCtr_snd.of_snd e
    next e =>
      have h1 := h.takeCtr_snd.of_snd e
      split
      next e => exact h1.sendReply_snd.of_snd e
      next e => exact (h1.sendReply_snd.of_snd e).acked.chain.ite (h1.sendReply_snd.of_snd e).acked

theorem State.Keeps.dataFrame (h : s.Keeps t) {x : RxFrame} : s.Keeps (t.dataFrame x) := by
  unfold State.dataFrame
  refine .answer (.chmapCheck (.confirmByChannel (.ite h.uplink_snd ?_)))
  split
  · exact h.uplink_snd.blockAck
  · exact h.uplink_snd

theorem State.Keeps.hostData (h : s.Keeps t) : s.Keeps t.hostData := by
  unfold State.hostData
  dsimp only
  split
  next => exact h
  next e => exact (h.takeFrame e).dataFrame.ite (h.takeFrame e).dataFrame.postRing

theorem State.Keeps.keepAlive (h : s.Keeps t) : s.Keeps t.keepAlive := by
  unfold State.keepAlive
  split
  next => exact h
  next e => exact (h.takeFrame e).dataFrame

theorem State.Keeps.alertResponse (h : s.Keeps t) : s.Keeps t.alertResponse := by
  unfold State.alertResponse
  split
  next => exact h
  next x v e =>
    have h1 := h.takeFrame e
    split
    · exact h1.dataFrame
    next a ha =>
      dsimp only
      have h2 : s.Keeps (Prod.snd (match v.recOf x.record with
        | some r => if x.untimed = true then (0, v) else (timingError x.stamp (v.replyExp r (a.start - 4 * usHalfNs) a.mode x.path)
            (r.drift.pendC * 1000), ((v.countUplink x.record).contact x.record x.stamp (timingError x.stamp
              (v.replyExp r (a.start - 4 * usHalfNs) a.mode x.path) (r.drift.pendC * 1000))
            (some (x.temp, x.supply, x.missed))).etxEvent x.record true)
        | none => ((0 : ℤ), v))) := by
        split
        · split_ifs
          · exact h1
          · exact h1.countUplink.contact.etxEvent
        · exact h1
      exact h2.sendTxnReply.ite h2.putTxn.answer

theorem State.Keeps.ackContact (h : s.Keeps t) {x : RxFrame} {t' : Txn} : s.Keeps (t.ackContact x t') := by
  unfold State.ackContact
  dsimp only
  split
  · exact h.ite h.contact.etxEvent
  · exact h

theorem State.Keeps.enrolled (h : s.Keeps t) {n f : ℕ} : s.Keeps (t.enrolled n f) := by
  unfold State.enrolled
  dsimp only
  split
  · exact h.frame
  · exact h

theorem State.Keeps.ackReceived (h : s.Keeps t) : s.Keeps t.ackReceived := by
  unfold State.ackReceived
  split
  next => exact h
  next x v e =>
    have h1 := h.takeFrame e
    split
    · exact h1
    · extract_lets relayed s1 s2
      have h2 : s.Keeps s2 := by
        unfold s2
        split
        · exact h1.ackContact.endTxn.disassocEnd.enrolled
        · exact h1.ackContact.endTxn.disassocEnd
      clear_value s2
      split
      · exact h2.chain.ite h2
      · exact h2

theorem State.Keeps.replyWindowEnd (h : s.Keeps t) {id : ℕ} : s.Keeps (t.replyWindowEnd id) := by
  unfold State.replyWindowEnd
  dsimp only
  split
  · exact h
  · exact h.ite h.toAir.etxEvent.attemptEnd

theorem State.Keeps.rateHits (h : s.Keeps t) {p : Fin 6} {caps : ℕ} : s.Keeps (t.rateHits p caps) :=
  (h.count.ite h).count.ite (h.count.ite h)

theorem State.Keeps.sendAssoc (h : s.Keeps t) {x : RxFrame} {f : AirOut} : s.Keeps (t.sendAssoc x f) := by
  unfold State.sendAssoc
  split
  · exact h.sendReply_snd
  · split
    · exact h.addTxn
    · exact h

theorem State.Keeps.acceptAssoc (h : s.Keeps t) {x : RxFrame} {f : ℕ} {r : FlockRec} {caps drift fw : ℕ} :
    s.Keeps (t.acceptAssoc x f r caps drift fw) := by
  unfold State.acceptAssoc
  extract_lets link s1 s2 r'
  have h2 : s.Keeps s2 := h.drawn.rateHits.endLinkTxns.raise.ite h.drawn.rateHits
  split
  next e => exact h2.setRec.takeCtr_snd.of_snd e
  next e => exact (h2.setRec.takeCtr_snd.of_snd e).sendAssoc

theorem State.Keeps.refuseAssoc (h : s.Keeps t) {x : RxFrame} {known : Option ℕ} {st : ℕ} : s.Keeps (t.refuseAssoc x known st) := by
  unfold State.refuseAssoc
  split
  · split
    next e => exact (h.takeCtr_snd.of_snd e).sendAssoc
    next e => exact h.takeCtr_snd.of_snd e
  · exact h.takeOther_snd.ite h.takeOther_snd.sendAssoc

theorem State.Keeps.assocRec (h : s.Keeps t) {x : RxFrame} {known : Option ℕ} {cls f : ℕ} {r : FlockRec}
    (e : t.assocRec x known cls = some (f, r, u)) : s.Keeps u := by
  unfold State.assocRec at e
  dsimp only at e
  split at e
  · obtain ⟨r0, -, hr⟩ := Option.map_eq_some_iff.1 e
    split at hr
    · cases hr
      exact h
    · cases hr
      exact h.drawn
  · obtain ⟨n, -, hn⟩ := Option.map_eq_some_iff.1 e
    cases hn
    exact h.drawn

theorem State.Keeps.assocReq (h : s.Keeps t) : s.Keeps t.assocReq := by
  unfold State.assocReq
  dsimp only
  split
  next => exact h
  next e =>
    have h1 := h.takeFrame e
    refine h1.ite (h1.count.refuseAssoc.ite ?_)
    split
    next e => exact (h1.count.assocRec e).setRec.acceptAssoc
    next => exact h1.count

theorem State.Keeps.disassoc (h : s.Keeps t) : s.Keeps t.disassoc := by
  unfold State.disassoc
  split
  next => exact h
  next e => exact (h.takeFrame e).dataFrame.ite (h.takeFrame e).dataFrame.detach

theorem State.Keeps.chmapAck (h : s.Keeps t) : s.Keeps t.chmapAck := by
  unfold State.chmapAck
  dsimp only
  split
  next => exact h
  next e =>
    have h1 := h.takeFrame e
    refine .dataFrame ?_
    split
    · exact h1.modRec.ite h1
    · exact h1

theorem State.Keeps.queueDisassoc (h : s.Keeps t) {f reason : ℕ} : s.Keeps (t.queueDisassoc f reason) := by
  unfold State.queueDisassoc
  dsimp only
  split
  · exact h.ite h.modRec
  · exact h

theorem State.Keeps.chmapPut (h : s.Keeps t) {p : Fin 6} {map c0 : ℕ} : s.Keeps (t.chmapPut p map c0) :=
  h.cfgPut.cfgPut.frame.ite h.startUpdate

theorem State.Keeps.chmapWrite (h : s.Keeps t) {p : Fin 6} {first : Bool} {v : ℕ} : s.Keeps (t.chmapWrite p first v) :=
  h.cfgPut.bumpRev.ite (h.chmapPut.bumpRev.ite h)

theorem State.Keeps.retireLane (h : s.Keeps t) {p : Fin 6} {lane : ℕ} : s.Keeps (t.retireLane p lane) := by
  unfold State.retireLane
  dsimp only
  split
  · exact h.modPer.raise.startUpdate.ite h.modPer.raise
  · exact h.modPer.raise

theorem State.Keeps.setNbr (h : s.Keeps t) {i : Fin 16} {n : Nbr} : s.Keeps (t.setNbr i n) :=
  h.frame

theorem State.Keeps.toNbrEnd (h : s.Keeps t) {v : NbrView} : s.Keeps (t.toNbrEnd v) :=
  h.toAir

theorem State.Keeps.relayMiss (h : s.Keeps t) {f : ℕ} : s.Keeps (t.relayMiss f) :=
  h.modRec

theorem State.Keeps.nbrMiss (h : s.Keeps t) {i : Fin 16} : s.Keeps (t.nbrMiss i) :=
  h.setNbr.raise.ite h.setNbr

theorem State.Keeps.nbrWindowEnd (h : s.Keeps t) {relay : Option ℕ} {i : Fin 16} : s.Keeps (t.nbrWindowEnd relay i) := by
  unfold State.nbrWindowEnd
  dsimp only
  split
  · split
    · exact h.ite (h.toNbrEnd.ite h.toNbrEnd.relayMiss)
    · exact h
  · exact h.ite (h.toNbrEnd.ite h.toNbrEnd.nbrMiss)

theorem State.Keeps.nbrExpiry (h : s.Keeps t) {relay : Option ℕ} {i : Fin 16} : s.Keeps (t.nbrExpiry relay i) := by
  unfold State.nbrExpiry
  dsimp only
  split
  · split
    · exact h.ite h.toAir.modRec
    · exact h
  · exact h.ite h.toAir.setNbr.raise

theorem State.Keeps.neighbourBeacon (h : s.Keeps t) : s.Keeps t.neighbourBeacon := by
  unfold State.neighbourBeacon
  dsimp only
  split
  next => exact h
  next e =>
    have h1 := h.takeFrame e
    split
    · exact h1.ite (h1.setNbr.raise.ite h1.setNbr)
    · split
      · exact h1.modRec.ite h1
      · exact h1

theorem State.Keeps.openRetry (h : s.Keeps t) {f asn : ℕ} {retry : Bool} : s.Keeps (t.openRetry f asn retry) :=
  h.frame

theorem State.Keeps.listenEnd (h : s.Keeps t) {f : ℕ} {retry : Bool} : s.Keeps (t.listenEnd f retry) := by
  unfold State.listenEnd
  split
  · exact h
  extract_lets n w s1 s2 s3 k
  have h1 : s.Keeps s1 := h.toAir.openRetry
  have h3 : s.Keeps s3 := h1.modRec.ite h1.modRec.etxEvent
  exact h.ite (h1.ite ((h3.detach.ite h3).ite (h3.enterResync.ite h3.resyncCheck)))

theorem State.Keeps.supervisionEnd (h : s.Keeps t) {f : ℕ} : s.Keeps (t.supervisionEnd f) := by
  unfold State.supervisionEnd
  dsimp only
  split
  · exact h
  · exact h.ite ((h.toAir.count.ite h.toAir).detach.raise.count)

theorem State.Keeps.bookFrame_fst (h : s.Keeps t) {t' : Txn} {mode : ℕ} {p : Fin 6} {i : ℕ} {x : AirOut × HalfNs × ℕ × ℕ} :
    s.Keeps (t.bookFrame t' mode p i x).1 := by
  unfold State.bookFrame
  dsimp only
  refine State.Keeps.bookCmd (State.Keeps.dutyReserve_snd ?_)
  split_ifs
  · exact h
  · split
    next e => exact h.takeCtr_snd.of_snd e
    next e => exact h.takeCtr_snd.of_snd e

theorem State.Keeps.bookPlan (h : s.Keeps t) {t' : Txn} {mode : ℕ} {pl : Plan} : s.Keeps (t.bookPlan t' mode pl) := by
  unfold State.bookPlan
  extract_lets go
  have hgo : s.Keeps go.1 := State.Keeps.foldl_fst h fun h' => h'.bookFrame_fst
  exact hgo.putTxn

theorem State.Keeps.noteRefusal (h : s.Keeps t) {t' : Txn} {hop : ℕ} {r : FlockRec} {n ref : ℕ} {p0 : Fin 6} : s.Keeps
    (t.noteRefusal t' hop r n ref p0) :=
  h.ite (h.dutyNote.ite (h.count.ite h))

theorem State.Keeps.txnBook (h : s.Keeps t) {id : ℕ} : s.Keeps (t.txnBook id) := by
  unfold State.txnBook
  split
  · exact h
  · refine h.ite ?_
    split
    · split
      · refine h.endTxn.ite ?_
        extract_lets s1 t1
        split
        · exact h.lookup.noteRefusal.bookPlan
        · exact h.lookup.noteRefusal.putTxn
      · exact h
    · exact h

theorem State.Keeps.txnDeadline (h : s.Keeps t) {id : ℕ} : s.Keeps (t.txnDeadline id) := by
  unfold State.txnDeadline
  split
  · exact h
  · exact h.ite h.toAir.endTxn.disassocEnd

theorem State.Keeps.dutyRoll (h : s.Keeps t) {b : Fin 2} : s.Keeps (t.dutyRoll b) :=
  h.toMono.frame

theorem State.Keeps.dwellRoll (h : s.Keeps t) {b : Fin 2} {ch : ℕ} : s.Keeps (t.dwellRoll b ch) := by
  unfold State.dwellRoll
  dsimp only
  split
  · exact h
  · split
    · exact h
    · exact h.ite h.toMono.frame

/-! ### The grid -/

theorem State.Keeps.beaconDuty_snd (h : s.Keeps t) {p : Fin 6} {khz mode d : ℕ} : s.Keeps (t.beaconDuty p khz mode d).2 := by
  unfold State.beaconDuty
  dsimp only
  split_ifs
  · exact h.dutyNote.dutyNote
  · exact h.dutyNote.dutyNote
  · exact h.dutyNote.dutyNote.count

theorem State.Keeps.sendBeacon (h : s.Keeps t) {p : Fin 6} : s.Keeps (t.sendBeacon p) := by
  unfold State.sendBeacon
  dsimp only
  refine h.ite (h.beaconFail.ite (h.count.frame.drawn.beaconFail.ite ?_))
  split
  next e => exact (h.count.frame.beaconDuty_snd.of_snd e).beaconFail
  next e =>
    have h1 := h.count.frame.beaconDuty_snd.of_snd e
    exact (h1.frame.drawn.raise.ite h1.frame).txCommand

theorem State.Keeps.applyMap (h : s.Keeps t) {p : Fin 6} : s.Keeps (t.applyMap p) := by
  unfold State.applyMap
  dsimp only
  split
  · exact h.modLinks.ite h.modLinks.modPer.chmapCheck
  · exact h

theorem State.Keeps.countPreempted (h : s.Keeps t) {f : ℕ} : s.Keeps (t.countPreempted f) :=
  h.frame

theorem State.Keeps.openWindow (h : s.Keeps t) {f : ℕ} {r : FlockRec} : s.Keeps (t.openWindow f r) := by
  unfold State.openWindow
  dsimp only
  split
  · exact h.ite (((h.countWindow.ite h).countPreempted.ite (h.countWindow.ite h)).countPreempted.ite
      ((h.countWindow.ite h).countPreempted.ite (h.countWindow.ite h)))
  · exact h

theorem State.Keeps.pruneSearch (h : s.Keeps t) : s.Keeps t.pruneSearch :=
  h.frame

theorem State.Keeps.endEpoch (h : s.Keeps t) : s.Keeps t.endEpoch :=
  h.ite h.roPut.frame

theorem State.Keeps.toEdge (h : s.Keeps t) : s.Keeps t.toEdge :=
  h.toAir.ite h

theorem State.Keeps.edgeWork (h : s.Keeps t) : s.Keeps t.edgeWork :=
  ((h.frame.endEpoch.foldl fun _ h' => h'.applyMap).resyncAll.pruneSearch.foldl fun _ h' => h'.openWindow).foldl fun _ h' => h'.sendBeacon

theorem State.Keeps.txnCancel (h : s.Keeps t) {id : ℕ} : s.Keeps (t.txnCancel id) := by
  unfold State.txnCancel
  split
  · exact h
  · refine .ite ?_ ?_
    · exact h
    · split
      · exact h.putReq.count.endTxn.ite h.endTxn
      · exact h.endTxn

/-! ### Commands of Flock -/

theorem State.Keeps.eraseRec (h : s.Keeps t) {f : ℕ} : s.Keeps (t.eraseRec f) :=
  h.withFlock (Within.erase _ _ _)

theorem State.Keeps.flockCfgPut (h : s.Keeps t) {f : ℕ} {c : FlockCfg} : s.Keeps (t.flockCfgPut f c) := by
  unfold State.flockCfgPut
  split
  · exact h.eraseRec.ite h.setRec.lookup
  · exact h.ite h.setRec.lookup

theorem State.Keeps.flockCfgWrite (h : s.Keeps t) {f : ℕ} {v : List ℤ} : s.Keeps (t.flockCfgWrite f v) :=
  h.ite h.flockCfgPut.bumpRev

theorem State.Keeps.restoreStale (h : s.Keeps t) {f : ℕ} {r : FlockRec} : s.Keeps (t.restoreStale f r) :=
  h.supervisionEnd.ite h.resyncCheck

theorem State.Keeps.restorePut (h : s.Keeps t) {f : ℕ} {r : FlockRec} : s.Keeps (t.restorePut f r) :=
  h.eraseRec.ite ((h.frame.setRec.lookup.ite h.frame.setRec.lookup.raise).restoreStale)

theorem State.Keeps.flockRestore (h : s.Keeps t) {f : ℕ} {v : List ℤ} : s.Keeps (t.flockRestore f v) :=
  h.ite h.restorePut.accept

theorem State.Keeps.prefetch (h : s.Keeps t) : s.Keeps t.prefetch :=
  h.foldl fun _ h' => h'.lookup.ite h'

theorem State.victim_mem {v : ℕ} (e : t.victim = some v) : v ∈ t.flock.cache :=
  List.mem_reverse.1 (List.mem_of_find?_eq_some e)

theorem State.Keeps.fetchDone (h : s.Keeps t) {f : ℕ} : s.Keeps (t.fetchDone f) := by
  unfold State.fetchDone
  refine h.ite ?_
  extract_lets _ s0
  have h0 : s.Keeps s0 := h.frame
  split_ifs with _ hlen
  · exact h0
  · refine h0.withFlock (Within.of_le ?_)
    unfold State.flockLines at hlen
    rw [List.length_cons]
    omega
  · split
    next => exact h0
    next v e =>
      extract_lets s1
      have h1 : s.Keeps s1 ∧ s1.flock.cache = s0.flock.cache := by
        unfold s1
        split
        · exact ⟨h0.setRec, rfl⟩
        · exact ⟨h0, rfl⟩
      exact h1.1.withFlock (Within.cons_erase (h1.2 ▸ State.victim_mem e))

theorem State.Keeps.fetchLate (h : s.Keeps t) {f : ℕ} : s.Keeps (t.fetchLate f) :=
  h.ite (h.count.foldl fun _ h' => h'.dropCmds.putTxn)

theorem State.Keeps.takeReq (h : s.Keeps t) {q : DelReq} : s.Keeps (t.takeReq q) := by
  unfold State.takeReq
  dsimp only
  split
  · split
    · exact h.frame.lookup.frame.completeReq
    · exact h.frame.lookup.frame
  · exact h.frame.count.completeReq
  · exact h.frame.completeReq

theorem State.Keeps.heldDeadline (h : s.Keeps t) {id : ℕ} : s.Keeps (t.heldDeadline id) := by
  unfold State.heldDeadline
  dsimp only
  split
  · exact h
  · exact h.ite h.toAir.completeReq

theorem State.Keeps.chorusBook (h : s.Keeps t) {t' : Txn} {q : DelReq} {c : ChorusReq} {p : Fin 6} {khz n c0 c1 : ℕ} : s.Keeps
    (t.chorusBook t' q c p khz n c0 c1) :=
  (h.dutyReserve_snd.dutyReserve_snd.useKey.putTxn.modRec.frame.raise.ite h.dutyReserve_snd.dutyReserve_snd.useKey.putTxn.modRec).txCommand.txCommand

theorem State.Keeps.yieldBlock (h : s.Keeps t) {t' : Txn} : s.Keeps (t.yieldBlock t') := by
  unfold State.yieldBlock
  split
  · extract_lets s1 _ s2
    have h1 : s.Keeps s1 := h.dropCmds
    clear_value s1
    have h2 : s.Keeps s2 := h1.frame
    clear_value s2
    split_ifs
    · exact h2.frame
    · exact h2
  · exact h

theorem State.Keeps.yieldBlocks (h : s.Keeps t) {n : ℕ} : s.Keeps (t.yieldBlocks n) :=
  h.foldl fun _ h' => h'.yieldBlock

theorem State.Keeps.chorusTry (h : s.Keeps t) {t' : Txn} {q : DelReq} {c : ChorusReq} {n : ℕ} : s.Keeps (t.chorusTry t' q c n) := by
  unfold State.chorusTry
  dsimp only
  refine .ite ?_ ?_
  · exact h.txnDeadline
  · refine .ite ?_ ?_
    · exact h.toAir.putReq.chorusEnd
    · split
      · exact h.toAir.putReq.chorusEnd
      · exact h.toAir.putReq.yieldBlocks.chorusBook

theorem State.Keeps.chorusAttempt (h : s.Keeps t) {id : ℕ} : s.Keeps (t.chorusAttempt id) := by
  unfold State.chorusAttempt
  split
  · exact h
  · split
    · exact h
    · split
      · exact h
      · refine .ite ?_ ?_
        · exact h
        · split
          · exact h.chorusEnd
          · exact h.chorusTry

/-! ### Power domains -/

theorem State.Keeps.modBank (h : s.Keeps t) {i : Fin 4} {f : Bank → Bank} : s.Keeps (t.modBank i f) :=
  h.frame

theorem State.Keeps.sealBank (h : s.Keeps t) {i : Fin 4} : s.Keeps (t.sealBank i) :=
  h.drawn.modBank

theorem State.Keeps.putDom (h : s.Keeps t) {d : Fin 18} {x : Domain} : s.Keeps (t.putDom d x) :=
  h.frame

theorem State.Keeps.modDom (h : s.Keeps t) {d : Fin 18} {f : Domain → Domain} : s.Keeps (t.modDom d f) :=
  h.putDom

theorem State.Keeps.setTarget (h : s.Keeps t) {d v : ℕ} : s.Keeps (t.setTarget d v) :=
  h.cfgPut

theorem State.Keeps.countRefusal (h : s.Keeps t) {d : Fin 18} {refuser cause : ℕ} : s.Keeps (t.countRefusal d refuser cause) :=
  h.count.roSet.roSet.roSet

theorem State.Keeps.countAbort (h : s.Keeps t) {d : Fin 18} : s.Keeps (t.countAbort d) :=
  h.count.roSet

theorem State.Keeps.beginExit (h : s.Keeps t) {d : Fin 18} : s.Keeps (t.beginExit d) :=
  h.putDom.ite h

theorem State.Keeps.beginExits (h : s.Keeps t) : s.Keeps t.beginExits :=
  h.foldl fun _ h' => h'.beginExit

theorem State.Keeps.raiseOne (h : s.Keeps t) {d : Fin 18} : s.Keeps (t.raiseOne d) :=
  h.setTarget.putDom.ite (h.setTarget.putDom.ite h.putDom.setTarget)

theorem State.Keeps.modTime (h : s.Keeps t) {f : TimeState → TimeState} : s.Keeps (t.modTime f) :=
  h.frame

theorem State.Keeps.modPulse (h : s.Keeps t) {n : Fin 2} {f : Pulse → Pulse} : s.Keeps (t.modPulse n f) :=
  h.modTime

theorem State.Keeps.tpRefresh (h : s.Keeps t) {n : Fin 2} : s.Keeps (t.tpRefresh n) :=
  h.modPulse

theorem State.Keeps.rebook (h : s.Keeps t) {t' : Txn} : s.Keeps (t.rebook t') := by
  unfold State.rebook
  split
  · exact h.yieldBlock
  · exact h.dropCmds.chorusEnd
  · exact h.endTxn.ite h.dropCmds.putTxn

theorem State.Keeps.rebookPath (h : s.Keeps t) {p : Fin 6} : s.Keeps (t.rebookPath p) :=
  h.foldl fun _ h' => h'.rebook

theorem State.Keeps.beginEntry (h : s.Keeps t) {d : Fin 18} {v : ℕ} : s.Keeps (t.beginEntry d v) := by
  unfold State.beginEntry
  dsimp only
  split
  · exact h.modDom.rebookPath
  · exact h.modDom

theorem State.Keeps.domRefused (h : s.Keeps t) {d : Fin 18} {target cause refuser : ℕ} : s.Keeps (t.domRefused d target cause refuser) :=
  h.countRefusal.setTarget.raise

theorem State.Keeps.lowerDom (h : s.Keeps t) {d : Fin 18} {v : ℕ} : s.Keeps (t.lowerDom d v) :=
  (h.ite h.beginEntry).ite h

theorem State.Keeps.actHeld (h : s.Keeps t) {d : Fin 18} : s.Keeps (t.actHeld d) := by
  unfold State.actHeld
  dsimp only
  split
  · exact h
  · refine .ite ?_ ?_
    · exact h.putDom.setTarget.domRefused
    · refine .ite ?_ ?_
      · split
        · exact h.putDom.setTarget.domRefused
        · exact h.putDom.setTarget.lowerDom
      · exact h.putDom.setTarget.lowerDom

theorem State.Keeps.resume (h : s.Keeps t) {d : Fin 18} : s.Keeps (t.resume d) := by
  unfold State.resume
  exact h.modDom.beginExits.actHeld

theorem State.Keeps.abortEntry (h : s.Keeps t) {d : Fin 18} : s.Keeps (t.abortEntry d) :=
  h.countAbort.resume.ite (h.countAbort.modDom.modTime.ite h.countAbort.modDom)

theorem State.Keeps.clearSave (h : s.Keeps t) {d : Fin 18} : s.Keeps (t.clearSave d) :=
  h.modDom.sealBank

theorem State.Keeps.abortWaiting (h : s.Keeps t) {d : Fin 18} : s.Keeps (t.abortWaiting d) :=
  (h.frame.clearSave.ite h.frame).abortEntry.ite h

theorem State.Keeps.raiseDom (h : s.Keeps t) {d : Fin 18} : s.Keeps (t.raiseDom d) :=
  ((h.foldl fun _ h' => h'.raiseOne).raiseOne.foldl fun _ h' => h'.abortWaiting).beginExits

theorem State.Keeps.actTarget (h : s.Keeps t) {d : Fin 18} {v : ℕ} : s.Keeps (t.actTarget d v) :=
  (h.ite h.raiseDom).ite h.lowerDom

theorem State.Keeps.afterTransition (h : s.Keeps t) {d : Fin 18} : s.Keeps (t.afterTransition d) :=
  h.actHeld

theorem State.Keeps.applyTarget (h : s.Keeps t) {d : Fin 18} {v : ℕ} : s.Keeps (t.applyTarget d v) :=
  (h.setTarget.putDom.ite (h.setTarget.putDom.ite h.raiseDom)).ite (h.setTarget.putDom.ite (h.setTarget.putDom.ite h.setTarget.modDom.lowerDom))

theorem State.Keeps.wakeBy (h : s.Keeps t) {src : ℕ} : s.Keeps (t.wakeBy src) :=
  h.count.roSet.roSet.foldl fun _ h' => h'.raiseDom.ite h'

theorem State.Keeps.wakeSource (h : s.Keeps t) {src : ℕ} : s.Keeps (t.wakeSource src) :=
  h.wakeBy.ite h

/-! ### The AON region -/

theorem State.Keeps.fireAlarm (h : s.Keeps t) {skipped : Bool} : s.Keeps (t.fireAlarm skipped) :=
  (h.modAon.raise.count.ite h.modAon.raise).wakeSource

theorem State.Keeps.alarmCheck (h : s.Keeps t) : s.Keeps t.alarmCheck :=
  h.fireAlarm.ite h

theorem State.Keeps.applySecond (h : s.Keeps t) : s.Keeps t.applySecond :=
  h.modAon.alarmCheck

theorem State.Keeps.toSecond (h : s.Keeps t) {k : ℕ} : s.Keeps (State.toSecond k t) := by
  induction k generalizing t with
  | zero => exact h
  | succ k ih => exact h.ite (ih h.advance)

theorem State.Keeps.calendarSecond (h : s.Keeps t) : s.Keeps t.calendarSecond := by
  unfold State.calendarSecond
  have h1 := h.toSecond (k := 24)
  refine h.ite (h1.ite ?_)
  generalize State.toSecond 24 t = v at h1 ⊢
  extract_lets w
  have h2 : s.Keeps w := h1.modAon (hf := fun hq => hq)
  clear_value w
  refine State.Keeps.ite ?_ h2.applySecond
  exact h2.modAon.ite (h2.ite h2.modAon.raise.count)

theorem State.Keeps.catchUpSecond (h : s.Keeps t) : s.Keeps t.catchUpSecond :=
  h.ite h.advance.modAon.applySecond

theorem State.Keeps.adjust (h : s.Keeps t) {c : Cal} {subsec : ℕ} : s.Keeps (t.adjust c subsec) :=
  h.modAon.count.ite (h.modAon.count.fireAlarm.ite (h.modAon.count.fireAlarm.ite h.modAon.count))

theorem State.Keeps.rtcSet (h : s.Keeps t) {v : List ℕ} : s.Keeps (t.rtcSet v) :=
  h.adjust.bumpRev.ite h

theorem State.Keeps.rtcSetDate (h : s.Keeps t) {w : ℕ} : s.Keeps (t.rtcSetDate w) :=
  h.modAon.adjust

theorem State.Keeps.setHalt (h : s.Keeps t) {b : ℕ} : s.Keeps (t.setHalt b) :=
  h.cfgPut.modAon.ite (h.cfgPut.modAon.ite h.cfgPut)

theorem State.Keeps.rtcHalt (h : s.Keeps t) {b : ℕ} : s.Keeps (t.rtcHalt b) :=
  h.ite h.setHalt.bumpRev

theorem State.Keeps.setAlarmEnable (h : s.Keeps t) {b : ℕ} : s.Keeps (t.setAlarmEnable b) :=
  h.cfgPut.modAon.ite (h.cfgPut.modAon.ite h.cfgPut)

theorem State.Keeps.rtcAlarmEnable (h : s.Keeps t) {b : ℕ} : s.Keeps (t.rtcAlarmEnable b) :=
  h.ite h.setAlarmEnable.bumpRev

theorem State.Keeps.rtcCtrl (h : s.Keeps t) {w : ℕ} : s.Keeps (t.rtcCtrl w) :=
  h.setHalt.bumpRev.setAlarmEnable.bumpRev.cfgPut.bumpRev

theorem State.Keeps.putAlarm (h : s.Keeps t) {sec min hour day month year : ℕ} : s.Keeps (t.putAlarm sec min hour day month year) :=
  h.cfgPut.modAon

theorem State.Keeps.rtcAlarm (h : s.Keeps t) {v : List ℕ} : s.Keeps (t.rtcAlarm v) :=
  h.putAlarm.bumpRev.ite h

theorem State.Keeps.rtcAlarmDate (h : s.Keeps t) {w : ℕ} : s.Keeps (t.rtcAlarmDate w) :=
  h.putAlarm.bumpRev

theorem State.Keeps.subsecRead (h : s.Keeps t) : s.Keeps t.subsecRead :=
  h.modAon.emit

theorem State.Keeps.tickHiRead (h : s.Keeps t) : s.Keeps t.tickHiRead :=
  h.modAon.emit

theorem State.Keeps.shadowExpired (h : s.Keeps t) : s.Keeps t.shadowExpired := by
  unfold State.shadowExpired
  dsimp only
  split
  · exact h
  · exact h.advance.modAon.count

theorem State.Keeps.slowLoss (h : s.Keeps t) : s.Keeps t.slowLoss :=
  h.ite h.modAon.raise

theorem State.Keeps.slowReturn (h : s.Keeps t) : s.Keeps t.slowReturn :=
  h.ite (h.modAon.raise.ite h.modAon)

theorem State.Keeps.slowStartTimeout (h : s.Keeps t) : s.Keeps t.slowStartTimeout :=
  h.modAon.raise.ite h

theorem State.Keeps.supplySwitch (h : s.Keeps t) {vbat : Bool} : s.Keeps (t.supplySwitch vbat) :=
  (h.modAon.count.ite h).ite ((h.modAon.count.ite h).modAon.count.raise.ite ((h.modAon.count.ite h).modAon.count.raise.wakeSource))

theorem State.Keeps.holdupExpiry (h : s.Keeps t) : s.Keeps t.holdupExpiry :=
  h.modAon

theorem State.Keeps.vbatMeasured (h : s.Keeps t) {mv : ℕ} : s.Keeps (t.vbatMeasured mv) :=
  h.modAon.raise.wakeSource.ite h.modAon

theorem State.Keeps.autotrim (h : s.Keeps t) {ticks : ℕ} : s.Keeps (t.autotrim ticks) :=
  h.ite (h.raise.ite h.cfgPut)

theorem State.Keeps.writeAnchor (h : s.Keeps t) {rate : ℤ} : s.Keeps (t.writeAnchor rate) :=
  h.modAon.sealBank

theorem State.Keeps.anchorWrite (h : s.Keeps t) {rate : ℤ} : s.Keeps (t.anchorWrite rate) :=
  h.writeAnchor.ite h

theorem State.Keeps.syncNow (h : s.Keeps t) : s.Keeps t.syncNow := by
  unfold State.syncNow
  dsimp only
  split
  · exact h.modAon.adjust
  · exact h.modAon.raise

theorem State.Keeps.forceSync (h : s.Keeps t) : s.Keeps t.forceSync :=
  h.modAon.ite h

theorem State.Keeps.syncWrite (h : s.Keeps t) : s.Keeps t.syncWrite := by
  unfold State.syncWrite
  dsimp only
  refine .ite ?_ ?_
  · exact h
  · refine .ite ?_ ?_
    · exact h.advance.syncNow
    · refine .ite ?_ ?_
      · split
        · exact h.advance.modAon.ite h.advance.syncNow
        · exact h.advance.syncNow
      · exact h.advance

theorem State.Keeps.clearBank (h : s.Keeps t) {i : Fin 4} : s.Keeps (t.clearBank i) :=
  h.modBank.modAon.ite (h.modBank.modAon.ite (h.modBank.modAon.ite h.modBank))

theorem State.Keeps.checkBank (h : s.Keeps t) {i : Fin 4} : s.Keeps (t.checkBank i) :=
  h.ite h.clearBank.raise.count

theorem State.Keeps.paddockPut (h : s.Keeps t) {m : ℕ} : s.Keeps (t.paddockPut m) :=
  h.foldl fun _ h' => h'.clearBank.ite h'

theorem State.Keeps.paddockClear (h : s.Keeps t) {m : ℕ} : s.Keeps (t.paddockClear m) :=
  h.paddockPut.accept.ite h

/-! ### Time bases -/

theorem State.Keeps.modBase (h : s.Keeps t) {i : Fin 5} {f : Base → Base} : s.Keeps (t.modBase i f) :=
  h.frame

theorem State.Keeps.slewBase (h : s.Keeps t) {i : Fin 5} {e : ℤ} : s.Keeps (t.slewBase i e) :=
  (h.advance.ite h).modBase

theorem State.Keeps.modSrc (h : s.Keeps t) {i : Fin 4} {f : Src → Src} : s.Keeps (t.modSrc i f) :=
  h.modTime

theorem State.Keeps.compareSrc (h : s.Keeps t) {i : Fin 4} : s.Keeps (t.compareSrc i) :=
  h.modSrc.raise.ite h.modSrc

theorem State.Keeps.refreshFlags (h : s.Keeps t) : s.Keeps t.refreshFlags :=
  h.modBase.modBase

theorem State.Keeps.syncMasters (h : s.Keeps t) : s.Keeps t.syncMasters :=
  h.foldl fun _ h' => h'.modBase.ite h'

theorem State.Keeps.enterHoldover (h : s.Keeps t) : s.Keeps t.enterHoldover :=
  h.ite h.modTime.modBase.refreshFlags.raise

theorem State.Keeps.establish (h : s.Keeps t) {i : Fin 4} : s.Keeps (t.establish i) :=
  h.modBase.modBase.modTime.modAon.frame.refreshFlags.syncMasters.raise.forceSync

theorem State.Keeps.select (h : s.Keeps t) {new : ℕ} : s.Keeps (t.select new) := by
  unfold State.select
  dsimp only
  refine .ite ?_ ?_
  · exact h
  · split
    · exact h.modTime.raise.enterHoldover.ite h.modTime.raise
    · exact h.modTime.raise.ite h.modTime.raise.establish

theorem State.Keeps.discipline (h : s.Keeps t) {i : Fin 4} : s.Keeps (t.discipline i) := by
  unfold State.discipline
  dsimp only
  refine .ite ?_ ?_
  · refine .modTime ?_
    refine .modBase ?_
    refine .slewBase ?_
    split
    · exact h.ite h.modTime.forceSync
    · exact h
  · refine .ite ?_ ?_
    · refine .modTime ?_
      refine .modBase ?_
      split
      · exact h.ite h.modTime.forceSync
      · exact h
    · refine .ite ?_ ?_
      · refine .modTime ?_
        refine .enterHoldover ?_
        split
        · exact h.ite h.modTime.forceSync
        · exact h
      · refine .raise ?_
        refine .modTime ?_
        refine .enterHoldover ?_
        split
        · exact h.ite h.modTime.forceSync
        · exact h

theorem State.Keeps.growError (h : s.Keeps t) : s.Keeps t.growError :=
  h.ite (h.drawn.modBase.raise.ite h.drawn.modBase)

theorem State.Keeps.airSecond (h : s.Keeps t) : s.Keeps t.airSecond :=
  h.slewBase.ite h

theorem State.Keeps.airSuperframe (h : s.Keeps t) : s.Keeps t.airSuperframe :=
  h.slewBase.refreshFlags.ite h

theorem State.Keeps.bellwether (h : s.Keeps t) : s.Keeps t.bellwether := by
  unfold State.bellwether
  dsimp only
  refine .tpRefresh ?_
  refine .tpRefresh ?_
  refine .syncMasters ?_
  refine .refreshFlags ?_
  refine .airSecond ?_
  refine .growError ?_
  split
  · exact (h.toMono.modTime.foldl fun _ h' => h'.compareSrc).select.discipline
  · exact (h.toMono.modTime.foldl fun _ h' => h'.compareSrc).select

theorem State.Keeps.takeOffset (h : s.Keeps t) : s.Keeps t.takeOffset := by
  unfold State.takeOffset
  split
  · exact h.ite h.discipline
  · exact h

theorem State.Keeps.disqualified (h : s.Keeps t) : s.Keeps t.disqualified := by
  unfold State.disqualified
  dsimp only
  split
  · exact h
  · exact (h.toMono.ite h).ite ((h.toMono.ite h).select.takeOffset.refreshFlags.tpRefresh.tpRefresh)

theorem State.Keeps.stepGnss (h : s.Keeps t) {e : ℤ} : s.Keeps (t.stepGnss e) :=
  (h.modBase.foldl fun _ h' => h'.modBase.ite h').modTime.refreshFlags.raise.forceSync

theorem State.Keeps.gnssStep (h : s.Keeps t) : s.Keeps t.gnssStep := by
  unfold State.gnssStep
  dsimp only
  split
  · exact h
  · exact h.advance.stepGnss

theorem State.Keeps.steppedClear (h : s.Keeps t) : s.Keeps t.steppedClear := by
  unfold State.steppedClear
  split
  · exact h
  · exact h.toMono.modTime.refreshFlags

theorem State.Keeps.hostTime (h : s.Keeps t) {t' : ℕ} : s.Keeps (t.hostTime t') :=
  h.modSrc

theorem State.Keeps.acceptStep (h : s.Keeps t) {v : ℕ} : s.Keeps (t.acceptStep v) := by
  unfold State.acceptStep
  split
  · exact h
  · exact h.modTime.ite h

theorem State.Keeps.recordSlew (h : s.Keeps t) : s.Keeps t.recordSlew :=
  h.modTime

theorem State.Keeps.superframe (h : s.Keeps t) : s.Keeps t.superframe :=
  h.airSuperframe.toEdge.recordSlew

theorem State.Keeps.modPtp (h : s.Keeps t) {k : Fin 2} {f : Ptp → Ptp} : s.Keeps (t.modPtp k f) :=
  h.modTime

theorem State.Keeps.ptpSend (h : s.Keeps t) {k : Fin 2} {o : Out} : s.Keeps (t.ptpSend k o) :=
  h.count.emit

theorem State.Keeps.newMaster (h : s.Keeps t) {k : Fin 2} {m : Option Master} : s.Keeps (t.newMaster k m) :=
  h.modPtp.count

theorem State.Keeps.servo (h : s.Keeps t) {k : Fin 2} {o : ℤ} : s.Keeps (t.servo k o) :=
  h.drawn.drawn.drawn.modPtp.modBase

theorem State.Keeps.ptpSync (h : s.Keeps t) {k : Fin 2} {origin corr : ℤ} : s.Keeps (t.ptpSync k origin corr) := by
  unfold State.ptpSync
  dsimp only
  refine .ite ?_ ?_
  · exact h
  · split
    · exact h.modPtp.modPtp
    · exact h.modPtp.modPtp.modBase.ite h.modPtp.servo

theorem State.Keeps.stepPendingEnd (h : s.Keeps t) {k : Fin 2} : s.Keeps (t.stepPendingEnd k) := by
  unfold State.stepPendingEnd
  dsimp only
  split
  · exact h
  · exact h.toMono.modPtp.modBase.count.ite (h.toMono.drawn.modBase.raise.count.newMaster.ite h.toMono.modPtp)

theorem State.Keeps.ptpAnnounce (h : s.Keeps t) {k : Fin 2} {m : Master} : s.Keeps (t.ptpAnnounce k m) :=
  h.ite (h.modPtp.ite (h.ite (h.drawn.modPtp.ite h.drawn.newMaster)))

theorem State.Keeps.announceTimeout (h : s.Keeps t) {k : Fin 2} : s.Keeps (t.announceTimeout k) :=
  (h.modPtp.syncMasters.ite h).ite h.toMono.modPtp.modBase.count

theorem State.Keeps.ptpGrant (h : s.Keeps t) {k : Fin 2} {from_ : ℕ} (e : t.ptpGrant k from_ = some u) : s.Keeps u := by
  unfold State.ptpGrant at e
  split_ifs at e
  · exact Option.some.inj e ▸ h
  · exact Option.some.inj e ▸ h.modPtp

theorem State.Keeps.ptpDelayReq (h : s.Keeps t) {k : Fin 2} {from_ seq : ℕ} {corr : ℤ} : s.Keeps (t.ptpDelayReq k from_ seq corr) := by
  unfold State.ptpDelayReq
  refine h.ite (h.ptpSend.ptpSend.ite (.ite ?_ h))
  split
  next e => exact (h.ptpGrant e).ptpSend
  next => exact h

theorem State.Keeps.ptpDelayResp (h : s.Keeps t) {k : Fin 2} {t' : ℤ} : s.Keeps (t.ptpDelayResp k t') := by
  unfold State.ptpDelayResp
  dsimp only
  split
  · exact h
  · exact h.ite h.drawn.modPtp

theorem State.Keeps.unicastRequests (h : s.Keeps t) {k : Fin 2} {seq : ℕ} : s.Keeps (t.unicastRequests k seq) :=
  h.foldl fun _ h' => h'.ite (h'.ptpSend)

theorem State.Keeps.ptpTransmit (h : s.Keeps t) {k : Fin 2} : s.Keeps (t.ptpTransmit k) := by
  unfold State.ptpTransmit
  extract_lets s0 p s1 s2 one e s3 s4 m e' kind
  have h0 : s.Keeps s0 := h.modPtp.ite (h.modPtp.ite h)
  have h1 : s.Keeps s1 := h0.modPtp
  have h3 : s.Keeps s3 := h1.syncMasters.ptpSend
  have h4 : s.Keeps s4 := h3.ite h3.ptpSend
  exact h0.ite (h4.drawn.ptpSend.ite (h1.modPtp.ptpSend.ite (h1.unicastRequests.ite h1)))

theorem State.Keeps.ptpApplied (h : s.Keeps t) {k : Fin 2} : s.Keeps (t.ptpApplied k) :=
  h.modPtp.ite (h.modPtp.ite h)

theorem State.Keeps.pcsMeasured (h : s.Keeps t) {e : Fin 2} {latIn latOut : ℕ} : s.Keeps (t.pcsMeasured e latIn latOut) :=
  h.frame.foldl fun _ h' => h'.modPtp.ite h'

theorem State.Keeps.pulseEdge (h : s.Keeps t) {n : Fin 2} : s.Keeps (t.pulseEdge n) := by
  unfold State.pulseEdge
  dsimp only
  split
  · exact h.tpRefresh
  · exact h.tpRefresh.advance.count.ite h.tpRefresh.advance.modPulse.emit

theorem State.Keeps.pulseEnd (h : s.Keeps t) {n : Fin 2} : s.Keeps (t.pulseEnd n) := by
  unfold State.pulseEnd
  split
  · exact h.toMono.modPulse.emit
  · exact h

/-! ### The baseband -/

theorem State.Keeps.modGnss (h : s.Keeps t) {f : GnssState → GnssState} : s.Keeps (t.modGnss f) :=
  h.frame

theorem State.Keeps.modBand (h : s.Keeps t) {b : Fin 2} {f : GBand → GBand} : s.Keeps (t.modBand b f) :=
  h.modGnss

theorem State.Keeps.nimbRequest (h : s.Keeps t) : s.Keeps t.nimbRequest :=
  h.raiseDom.ite h

theorem State.Keeps.searchSig (h : s.Keeps t) {kind i : ℕ} : s.Keeps (t.searchSig kind i) := by
  unfold State.searchSig
  exact h.drawn.modGnss

theorem State.Keeps.searchAll (h : s.Keeps t) {kind : ℕ} {sigs : List ℕ} : s.Keeps (t.searchAll kind sigs) :=
  (h.foldl fun _ h' => h'.searchSig).nimbRequest

theorem State.Keeps.takeHotStart (h : s.Keeps t) : s.Keeps t.takeHotStart :=
  h.ite h.modGnss

theorem State.Keeps.gnssStart (h : s.Keeps t) : s.Keeps t.gnssStart :=
  h.takeHotStart.drawn.modGnss.raise.searchAll

theorem State.Keeps.gnssStop (h : s.Keeps t) : s.Keeps t.gnssStop :=
  h.modGnss.modSrc

theorem State.Keeps.gnEnablePut (h : s.Keeps t) {v : ℕ} : s.Keeps (t.gnEnablePut v) :=
  h.cfgPut.gnssStart.ite (h.cfgPut.gnssStop.ite h.cfgPut)

theorem State.Keeps.gnEnable (h : s.Keeps t) {v : ℕ} : s.Keeps (t.gnEnable v) :=
  h.gnEnablePut.bumpRev.ite h

theorem State.Keeps.sigsChanged (h : s.Keeps t) {before : List ℕ} : s.Keeps (t.sigsChanged before) :=
  h.ite h.modGnss.searchAll

theorem State.Keeps.grfOn (h : s.Keeps t) {fromOff : Bool} : s.Keeps (t.grfOn fromOff) := by
  unfold State.grfOn
  exact (h.foldl fun _ h' => h'.modBand).modGnss

theorem State.Keeps.bandsLoad (h : s.Keeps t) : s.Keeps t.bandsLoad :=
  h.foldl fun _ h' => h'.modBand.modGnss.ite (h'.modBand.ite h')

theorem State.Keeps.grfOff (h : s.Keeps t) {off : Bool} : s.Keeps (t.grfOff off) :=
  h.modGnss.foldl fun _ h' => h'.modBand

theorem State.Keeps.notchLost (h : s.Keeps t) : s.Keeps t.notchLost :=
  h.foldl fun _ h' => h'.modBand

theorem State.Keeps.grfNext (h : s.Keeps t) {b : Fin 2} : s.Keeps (t.grfNext b) :=
  h.modBand.modGnss.ite h.modBand

theorem State.Keeps.grfCal (h : s.Keeps t) {b : Fin 2} {ok : Bool} {value : ℕ} : s.Keeps (t.grfCal b ok value) := by
  unfold State.grfCal
  dsimp only
  split
  · exact h.toMono.modBand.grfNext.ite (h.toMono.modBand.ite (h.toMono.modBand.modGnss.ite h.toMono.modBand.raise.grfNext))
  · exact h

theorem State.Keeps.agcUpdate (h : s.Keeps t) {g0 g1 : ℤ} : s.Keeps (t.agcUpdate g0 g1) := by
  have hput {u : State} (h : s.Keeps u) (b : Fin 2) (g : ℤ) :
      s.Keeps (if u.bandRuns b then u.modBand b fun x => { x with gain := max 0 (min 600 g) } else u) := h.modBand.ite h
  exact hput (hput h 0 g0) 1 g1

theorem State.Keeps.antGood (h : s.Keeps t) : s.Keeps t.antGood :=
  h.modGnss.raise.ite h.modGnss

theorem State.Keeps.antBias (h : s.Keeps t) {ma : ℕ} : s.Keeps (t.antBias ma) :=
  h.ite (h.modGnss.ite (h.modGnss.ite (h.modGnss.modGnss.raise.ite ((h.modGnss.modGnss.modGnss.raise.ite h.modGnss.modGnss).ite h.modGnss.antGood))))

theorem State.Keeps.antRetry (h : s.Keeps t) : s.Keeps t.antRetry :=
  h.toMono.modGnss.ite h

theorem State.Keeps.fixedBand (h : s.Keeps t) {b : Fin 2} : s.Keeps (t.fixedBand b) :=
  h.modBand

theorem State.Keeps.fixedLoad (h : s.Keeps t) : s.Keeps t.fixedLoad :=
  h.fixedBand.fixedBand

theorem State.Keeps.notchAssign (h : s.Keeps t) {b : Fin 2} {k : ℕ} {ls : List (ℕ × ℤ)} : s.Keeps (State.notchAssign b k ls t) := by
  induction k generalizing t with
  | zero => exact h
  | succ k ih =>
    unfold State.notchAssign
    dsimp only
    split
    · exact h
    · split
      · exact ih h.modBand
      · split
        · exact (ih h.modBand).ite h
        · exact h

theorem State.Keeps.notchEval (h : s.Keeps t) {b : Fin 2} {spectrum : List ℤ} {fine : List ℕ} : s.Keeps (t.notchEval b spectrum fine) :=
  h.ite (h.modBand.notchAssign.count.ite h.modBand.notchAssign)

theorem State.Keeps.blankEnd (h : s.Keeps t) {b : Fin 2} {samples : List (ℕ × ℕ)} : s.Keeps (t.blankEnd b samples) :=
  h.ite (h.modBand.count.ite h.modBand)

theorem State.Keeps.jamUpdate (h : s.Keeps t) {b : Fin 2} {corr : ℤ} : s.Keeps (t.jamUpdate b corr) :=
  h.ite (h.drawn.modBand.raise.ite (h.drawn.modBand.raise.ite h.drawn.modBand))

theorem State.Keeps.startChan (h : s.Keeps t) {n : ℕ} {w : WaitSig} : s.Keeps (t.startChan n w) := by
  unfold State.startChan
  exact h.modGnss

theorem State.Keeps.assignChans (h : s.Keeps t) {k : ℕ} : s.Keeps (State.assignChans k t) := by
  induction k generalizing t with
  | zero => exact h
  | succ k ih =>
    unfold State.assignChans
    dsimp only
    split
    · exact h
    · split
      · exact ih h.startChan
      · split
        · exact ih h.startChan.modGnss
        · exact h

theorem State.Keeps.assign (h : s.Keeps t) : s.Keeps t.assign :=
  h.assignChans

theorem State.Keeps.acqDone (h : s.Keeps t) {sig sv power again : ℕ} {elev : ℤ} : s.Keeps (t.acqDone sig sv power again elev) := by
  unfold State.acqDone
  dsimp only
  split_ifs
  · exact h
  · exact h.modGnss.modGnss.assign
  · exact h
  · exact h.toMono.modGnss.modGnss
  · exact h.toMono.modGnss.modGnss.modGnss.assign
  · exact h.toMono.modGnss.drawn.modGnss
  · exact h.toMono.modGnss.drawn.modGnss
  · exact h

theorem State.Keeps.nimbAutoOff (h : s.Keeps t) : s.Keeps t.nimbAutoOff := by
  unfold State.nimbAutoOff
  dsimp only
  refine .ite ?_ ?_
  · split
    · exact h.toMono.countRefusal
    · exact h.toMono.applyTarget
  · exact h

theorem State.Keeps.toReacq (h : s.Keeps t) {c : Channel} : s.Keeps (t.toReacq c) :=
  h.modGnss.assign

theorem State.Keeps.putChan (h : s.Keeps t) {c : Channel} : s.Keeps (t.putChan c) :=
  h.modGnss

theorem State.Keeps.chanRelease (h : s.Keeps t) {n : ℕ} : s.Keeps (t.chanRelease n) := by
  unfold State.chanRelease
  split
  · exact h
  · split
    · exact h
    · exact h.toMono.toReacq

theorem State.Keeps.reacqExpiry (h : s.Keeps t) {sig sv : ℕ} : s.Keeps (t.reacqExpiry sig sv) := by
  unfold State.reacqExpiry
  dsimp only
  split
  · exact h
  · split
    · exact h.toMono.modGnss.modGnss.assign
    · exact h.toMono.modGnss.ite h.toMono.modGnss.modGnss.nimbRequest

theorem State.Keeps.loopOpen (h : s.Keeps t) {n : ℕ} : s.Keeps (t.loopOpen n) := by
  unfold State.loopOpen
  split
  · exact h
  · split
    · exact h
    · exact h.toMono.toReacq

theorem State.Keeps.coherentEnd (h : s.Keeps t) {n cn0 : ℕ} {pli : ℤ} {half : Bool} {period : Option ℕ} : s.Keeps
    (t.coherentEnd n cn0 pli half period) := by
  unfold State.coherentEnd
  dsimp only
  split
  · exact h
  · exact h.ite h.toMono.putChan

theorem State.Keeps.saveHot (h : s.Keeps t) {i : Fin 4} {f : HotStart → HotStart} : s.Keeps (t.saveHot i f) :=
  h.modAon.sealBank

theorem State.Keeps.saveEphs (h : s.Keeps t) : s.Keeps t.saveEphs := by
  unfold State.saveEphs
  exact h.saveHot.saveHot

theorem State.Keeps.ephAccept (h : s.Keeps t) {e : Eph} : s.Keeps (t.ephAccept e) :=
  h.modGnss.saveEphs

theorem State.Keeps.ephDecoded (h : s.Keeps t) {a : EphArg} : s.Keeps (t.ephDecoded a) :=
  h.ite (h.raise.count.ite (h.ephAccept.ite h.modGnss))

theorem State.Keeps.surveyStart (h : s.Keeps t) : s.Keeps t.surveyStart :=
  h.modGnss

theorem State.Keeps.surveyTake (h : s.Keeps t) {a : GnSolve} : s.Keeps (t.surveyTake a) := by
  unfold State.surveyTake
  exact h.modGnss

theorem State.Keeps.surveyStep (h : s.Keeps t) {a : GnSolve} {fix ok : Bool} : s.Keeps (t.surveyStep a fix ok) :=
  h.ite (((h.surveyStart.ite h).surveyTake.ite (h.surveyStart.ite h)).modGnss.modGnss.raise.saveHot.ite
    (((h.surveyStart.ite h).surveyTake.ite (h.surveyStart.ite h)).modGnss))

theorem State.Keeps.mismatchStep (h : s.Keeps t) {sq n : ℕ} : s.Keeps (t.mismatchStep sq n) := by
  unfold State.mismatchStep
  dsimp only
  split
  · exact h.modGnss.modGnss.raise.ite (h.modGnss.modGnss.ite h.modGnss)
  · exact h.modGnss.modGnss.surveyStart.raise.ite h.modGnss
  · exact h.modGnss

theorem State.Keeps.meanStep (h : s.Keeps t) {a : GnSolve} {ok : Bool} : s.Keeps (t.meanStep a ok) :=
  (h.modGnss.modGnss.saveHot.ite h.modGnss).ite h

theorem State.Keeps.offerTime (h : s.Keeps t) {a : GnSolve} {traceable : Bool} {tAcc : ℕ} : s.Keeps (t.offerTime a traceable tAcc) :=
  h.drawn.modSrc.ite h.drawn.modSrc.modTime.forceSync

theorem State.Keeps.toEpoch (h : s.Keeps t) : s.Keeps t.toEpoch :=
  h.advance

theorem State.Keeps.hotLearn (h : s.Keeps t) {a : GnSolve} {fix : ℕ} : s.Keeps (t.hotLearn a fix) :=
  h.ite h.saveHot

theorem State.Keeps.epochMade (h : s.Keeps t) {a : GnSolve} : s.Keeps (t.epochMade a) := by
  unfold State.epochMade
  extract_lets sol fix ok s1 s2 s3 s4 s5 jam traceable tAcc s6 dual resids now s7 m n s8
  have h1 : s.Keeps s1 := h.foldl fun _ h' => h'.raise.count
  have h3 : s.Keeps s3 := h1.modGnss.surveyStep
  have h4 : s.Keeps s4 := h3.mismatchStep.ite h3
  have h5 : s.Keeps s5 := h4.meanStep.hotLearn
  have h6 : s.Keeps s6 := h5.modSrc.ite h5.offerTime
  have h7 : s.Keeps s7 := h6.modTime
  exact h7.ite h7.drawn.modGnss.postRing.postRing

theorem State.Keeps.epoch (h : s.Keeps t) {a : GnSolve} : s.Keeps (t.epoch a) :=
  h.ite ((h.toEpoch.ite h.toEpoch.epochMade).modGnss)

theorem State.Keeps.hotSave (h : s.Keeps t) : s.Keeps t.hotSave :=
  h.ite ((h.drawn.saveHot.ite h.drawn).saveEphs.modAon.drawn.saveHot)

theorem State.Keeps.cvPeer (h : s.Keeps t) {bs : Bytes} : s.Keeps (t.cvPeer bs) := by
  unfold State.cvPeer
  dsimp only
  split
  · exact h.modTime
  · exact h.modTime.ite h.drawn.modTime

theorem State.Keeps.cvPeerPut (h : s.Keeps t) {bs : Bytes} : s.Keeps (t.cvPeerPut bs) :=
  h.cfgPut.cvPeer.ite h.cfgPut

theorem State.Keeps.historyEntry (h : s.Keeps t) : s.Keeps t.historyEntry :=
  h.ite h.modTime

/-! ### Snapshots -/

theorem State.Keeps.modSnap (h : s.Keeps t) {f : SnapState → SnapState} : s.Keeps (t.modSnap f) :=
  h.frame

theorem State.Keeps.snEnd (h : s.Keeps t) {r : SnRecord} {detail : Bytes} : s.Keeps (t.snEnd r detail) :=
  (h.count.ite h.count.modSnap).postRing

theorem State.Keeps.fragEnd (h : s.Keeps t) {f : SnFrag} {status : ℕ} : s.Keeps (t.fragEnd f status) :=
  h.snEnd

theorem State.Keeps.jobEnd (h : s.Keeps t) {j : SnJob} {status : ℕ} : s.Keeps (t.jobEnd j status) :=
  h.snEnd

theorem State.Keeps.capFail (h : s.Keeps t) {f0 f1 : SnFrag} {t' : ℤ} {c : ℕ} : s.Keeps (t.capFail f0 f1 t' c) :=
  h.drawn.snEnd

theorem State.Keeps.queueJob (h : s.Keeps t) {j : SnJob} : s.Keeps (t.queueJob j) := by
  unfold State.queueJob
  exact h.modSnap.modSnap

theorem State.Keeps.captureAt (h : s.Keeps t) {f0 f1 : SnFrag} {sky : List SkySat} {t' : ℤ} : s.Keeps (t.captureAt f0 f1 sky t') :=
  h.capFail.ite (h.drawn.jobEnd.ite h.drawn.queueJob)

theorem State.Keeps.capture (h : s.Keeps t) {f0 f1 : SnFrag} {sky : List SkySat} : s.Keeps (t.capture f0 f1 sky) := by
  unfold State.capture
  cases t.capAir f0 with
  | none => exact h.snEnd
  | some a => exact h.captureAt

theorem State.Keeps.dropHeld (h : s.Keeps t) {flock : ℕ} : s.Keeps (t.dropHeld flock) := by
  unfold State.dropHeld
  split
  · exact h.modSnap.fragEnd
  · exact h

theorem State.Keeps.holdFrag (h : s.Keeps t) {f : SnFrag} : s.Keeps (t.holdFrag f) := by
  unfold State.holdFrag
  dsimp only
  refine .ite ?_ ?_
  · exact h.fragEnd
  · refine .modSnap ?_
    refine .ite ?_ ?_
    · exact h.dropHeld
    · split
      · exact h.dropHeld.modSnap.fragEnd
      · exact h.dropHeld

theorem State.Keeps.capEnd (h : s.Keeps t) {f : SnFrag} {status : ℕ} : s.Keeps (t.capEnd f status) :=
  (h.modSnap.ite h).fragEnd

theorem State.Keeps.intake (h : s.Keeps t) {f : SnFrag} {long : Bool} {sky : List SkySat} : s.Keeps (t.intake f long sky) := by
  unfold State.intake
  refine .ite ?_ ?_
  · exact h.fragEnd
  · refine .ite ?_ ?_
    · exact h.fragEnd
    · refine .ite ?_ ?_
      · exact h.capEnd
      · refine .ite ?_ ?_
        · exact h.capEnd
        · refine .ite ?_ ?_
          · split
            · exact h.fragEnd
            · exact h.modSnap.capture
          · exact h.holdFrag.ite h.dropHeld.capture

theorem State.Keeps.snapFragment (h : s.Keeps t) {sky : List SkySat} : s.Keeps (t.snapFragment sky) := by
  unfold State.snapFragment
  dsimp only
  split
  next => exact h
  next e => exact (h.takeFrame e).dataFrame.ite (h.takeFrame e).dataFrame.intake

theorem State.Keeps.fragTimeout (h : s.Keeps t) {flock : ℕ} : s.Keeps (t.fragTimeout flock) := by
  unfold State.fragTimeout
  split
  · exact h
  · exact h.toMono.modSnap.fragEnd

theorem State.Keeps.nimbusInterval (h : s.Keeps t) : s.Keeps t.nimbusInterval := by
  unfold State.nimbusInterval
  exact h.toMono.modSnap

theorem State.Keeps.nimbusStart (h : s.Keeps t) : s.Keeps t.nimbusStart := by
  unfold State.nimbusStart
  split
  · exact h.modSnap.jobEnd.ite (h.modSnap.ite h)
  · exact h

theorem State.Keeps.snapDeadline (h : s.Keeps t) : s.Keeps t.snapDeadline := by
  unfold State.snapDeadline
  split
  · exact h
  · exact h.toMono.modSnap.jobEnd

theorem State.Keeps.nimbusDone (h : s.Keeps t) : s.Keeps t.nimbusDone := by
  unfold State.nimbusDone
  dsimp only
  split
  · exact h
  · exact h.toMono.modSnap.jobEnd.ite h.toMono.modSnap.modSnap

theorem State.Keeps.snapSolution (h : s.Keeps t) {k : Fin 2} {a : SnSolve} : s.Keeps (t.snapSolution k a) := by
  unfold State.snapSolution
  split
  · exact h
  · refine h.ite ?_
    have h1 {out : List (ℕ × ℕ)} : s.Keeps (out.foldl (fun (s : State) (p : Nat × Nat) =>
        (s.raise Ev.GNSS_RAIM_EXCLUDE 0xFF (sigOf p.1).code p.2).count Obj.GN_RAIM_EXCLUSIONS)
        (t.modSnap fun y => { y with solving := y.solving.eraseIdx k.val })) := h.modSnap.foldl fun _ h' => h'.raise.count
    exact h1.snEnd.ite h1.snEnd

theorem State.Keeps.endFrags (h : s.Keeps t) {status : ℕ} : s.Keeps (t.endFrags status) :=
  h.modSnap.foldl fun _ h' => h'.fragEnd

theorem State.Keeps.endSnQueue (h : s.Keeps t) {status : ℕ} : s.Keeps (t.endSnQueue status) :=
  h.modSnap.foldl fun _ h' => h'.jobEnd

theorem State.Keeps.endSolving (h : s.Keeps t) : s.Keeps t.endSolving :=
  h.modSnap.foldl fun _ h' => h'.jobEnd

theorem State.Keeps.snEnablePut (h : s.Keeps t) {v : ℕ} : s.Keeps (t.snEnablePut v) :=
  h.cfgPut.endFrags.endSnQueue.ite h.cfgPut

theorem State.Keeps.snEnable (h : s.Keeps t) {v : ℕ} : s.Keeps (t.snEnable v) :=
  h.snEnablePut.bumpRev.ite h

/-! ### Security -/

theorem State.Keeps.endSession (h : s.Keeps t) {id : ℕ} : s.Keeps (t.endSession id) := by
  unfold State.endSession
  dsimp only
  have h1 {b : Bool} {resps fences} : s.Keeps { t with
      lop := { t.lop with sessions := t.lop.sessions.filter fun y => y.id != id, mbxBusy := b }
      isl := { t.isl with responses := resps, fences := fences } } :=
    h.trans { State.Keeps.refl t with sessions := fun k => k.sublist List.filter_sublist, isl := fun k => ⟨k.1, k.2⟩ }
  split
  · exact h
  · split_ifs
    · exact h1.eraseSlot
    · exact h1

theorem State.Keeps.endSessions (h : s.Keeps t) {p : Session → Bool} : s.Keeps (t.endSessions p) :=
  h.foldl fun _ h' => h'.endSession

theorem State.Keeps.deriveGroup (h : s.Keeps t) {i : Fin 40} : s.Keeps (t.deriveGroup i) := by
  unfold State.deriveGroup
  dsimp only
  split
  · exact h.writeSlot
  · exact h.ite h.eraseSlot

theorem State.Keeps.deriveGroups (h : s.Keeps t) : s.Keeps t.deriveGroups :=
  h.foldl fun _ h' => h'.deriveGroup

theorem State.Keeps.loadGroups (h : s.Keeps t) : s.Keeps t.loadGroups :=
  h.foldl fun _ h' => h'.ite (h'.deriveGroup)

theorem State.Keeps.deriveBeacon (h : s.Keeps t) {root dst : Fin 64} : s.Keeps (t.deriveBeacon root dst) :=
  (h.ite h.eraseSlot).ite (h.writeSlot.frame.ite h.writeSlot)

theorem State.Keeps.loadBeacon (h : s.Keeps t) {root dst : Fin 64} : s.Keeps (t.loadBeacon root dst) :=
  h.deriveBeacon.ite h

theorem State.Keeps.deriveCampaigns (h : s.Keeps t) : s.Keeps t.deriveCampaigns :=
  h.foldl fun _ h' => h'.writeSlot.ite h'

theorem State.Keeps.deriveFrom (h : s.Keeps t) {n : Fin 4} : s.Keeps (t.deriveFrom n) :=
  h.deriveBeacon.deriveGroups.ite (h.deriveBeacon.ite h)

theorem State.Keeps.putRoot (h : s.Keeps t) {n : Fin 4} {key : ℕ} : s.Keeps (t.putRoot n key) :=
  h.writeSlot.deriveFrom

theorem State.Keeps.eraseRoot (h : s.Keeps t) {n : Fin 4} : s.Keeps (t.eraseRoot n) :=
  h.eraseSlot.deriveFrom

theorem State.Keeps.storeWrite (h : s.Keeps t) {object : ℕ} : s.Keeps (t.storeWrite object) := by
  unfold State.storeWrite
  dsimp only
  split
  · exact h.setAct.modSec
  · exact h.setAct.modSec

theorem State.Keeps.storeWritten (h : s.Keeps t) {ok : Bool} : s.Keeps (t.storeWritten ok) := by
  unfold State.storeWritten
  dsimp only
  split
  · exact h
  · exact ((h.modSec.foldl fun _ h' => h'.setAct).ite (h.modSec.count.raise.foldl fun _ h' => h'.drawn.setAct)).foldl fun _ h' => h'.storeWrite

theorem State.Keeps.storeErase (h : s.Keeps t) : s.Keeps t.storeErase :=
  h.modSec

theorem State.Keeps.restoreRoots (h : s.Keeps t) : s.Keeps t.restoreRoots := by
  unfold State.restoreRoots
  dsimp only
  split
  · exact h.storeErase.ite h
  · exact (h.storeErase.ite h).storeErase.raise.ite ((h.storeErase.ite h).foldl fun _ h' => h'.putRoot)

theorem State.Keeps.rekeyAll (h : s.Keeps t) : s.Keeps t.rekeyAll :=
  h.frame

theorem State.Keeps.rootLoadPut (h : s.Keeps t) {slot form : ℕ} {key : Bytes} : s.Keeps (t.rootLoadPut slot form key) := by
  unfold State.rootLoadPut
  dsimp only
  split
  · exact h.setAct
  · exact h.setAct.ite ((((h.drawn.modSec.ite h).storeErase.ite (h.drawn.modSec.ite h)).rekeyAll.ite
      ((h.drawn.modSec.ite h).storeErase.ite (h.drawn.modSec.ite h))).putRoot.storeWrite)

theorem State.Keeps.rootLoad (h : s.Keeps t) {slot form : ℕ} {key : Bytes} : s.Keeps (t.rootLoad slot form key) :=
  h.rootLoadPut.bumpRev.ite h

theorem State.Keeps.rootErasePut (h : s.Keeps t) {m : ℕ} : s.Keeps (t.rootErasePut m) :=
  (h.foldl fun _ h' => h'.eraseRoot.ite h').storeWrite

theorem State.Keeps.rootErase (h : s.Keeps t) {m : ℕ} : s.Keeps (t.rootErase m) :=
  h.rootErasePut.accept.ite h

theorem State.Keeps.nextWrapPut (h : s.Keeps t) {n : ℕ} : s.Keeps (t.nextWrapPut n) := by
  unfold State.nextWrapPut
  dsimp only
  split
  · exact h
  · exact h.useLinkKey.useKey.modSec.setAct

theorem State.Keeps.nextKeyWrap (h : s.Keeps t) {n : ℕ} : s.Keeps (t.nextKeyWrap n) :=
  h.nextWrapPut.bumpRev.ite h

theorem State.Keeps.keyWrapPut (h : s.Keeps t) {v : ℕ} : s.Keeps (t.keyWrapPut v) := by
  unfold State.keyWrapPut
  dsimp only
  split
  · exact h.useLinkKey.useLinkKey.modSec.setAct
  · exact h

theorem State.Keeps.keyWrap (h : s.Keeps t) {v : ℕ} : s.Keeps (t.keyWrap v) :=
  h.keyWrapPut.bumpRev.ite h

theorem State.Keeps.districtPut (h : s.Keeps t) {a : ℕ} : s.Keeps (t.districtPut a) :=
  h.modSec.foldl fun _ h' => h'.queueDisassoc

theorem State.Keeps.district (h : s.Keeps t) {a : ℕ} : s.Keeps (t.district a) :=
  h.districtPut.bumpRev.ite h

theorem State.Keeps.moveSlot (h : s.Keeps t) {a b : Fin 64} : s.Keeps (t.moveSlot a b) :=
  h.writeSlot.eraseSlot

theorem State.Keeps.districtSwitch (h : s.Keeps t) : s.Keeps t.districtSwitch := by
  unfold State.districtSwitch
  dsimp only
  split
  · exact h
  · exact h.ite ((h.modSec.moveSlot.moveSlot.deriveGroups.deriveCampaigns.foldl fun _ h' => h'.ite (h'.detach)).rekeyAll.cfgPut.bumpRev)

theorem State.Keeps.superframeEdge (h : s.Keeps t) : s.Keeps t.superframeEdge :=
  h.superframe.districtSwitch.edgeWork

theorem State.Keeps.derivationDone (h : s.Keeps t) : s.Keeps t.derivationDone := by
  unfold State.derivationDone
  dsimp only
  split
  · exact h
  · refine h.modSec ?_
    dsimp only
    split_ifs
    · exact Within.of_le ((List.length_take_le _ _).trans (Nat.sub_le _ _))
    · exact Within.sublist List.filter_sublist

theorem State.Keeps.reseed (h : s.Keeps t) : s.Keeps t.reseed :=
  h.ite h.modSec

theorem State.Keeps.entropyLost (h : s.Keeps t) : s.Keeps t.entropyLost :=
  h.ite h.modSec.raise

theorem State.Keeps.campEnd (h : s.Keeps t) {k : Fin 4} {st reason : ℕ} : s.Keeps (t.campEnd k st reason) :=
  (h.foldl fun _ h' => h'.dropCmds).frame.ite ((h.foldl fun _ h' => h'.dropCmds).frame.eraseSlot)

theorem State.Keeps.closeWindow (h : s.Keeps t) : s.Keeps t.closeWindow :=
  h.ite h.modSec.raise.endSessions

theorem State.Keeps.eraseSecrets (h : s.Keeps t) {src : ℕ} : s.Keeps (t.eraseSecrets src) := by
  unfold State.eraseSecrets
  exact State.Keeps.foldl (.frame ((h.foldl fun _ h' => h'.eraseSlot).modSec (Within.nil _ _))) fun _ h' => h'.drawn.setAct

theorem State.Keeps.dropSessions (h : s.Keeps t) : s.Keeps t.dropSessions :=
  h.trans { State.Keeps.refl t with sessions := fun k => k.sublist (List.nil_sublist _), isl := fun k => ⟨k.1, k.2⟩ }

theorem State.Keeps.zeroise (h : s.Keeps t) {src : ℕ} : s.Keeps (t.zeroise src) := by
  unfold State.zeroise
  extract_lets s1 s2 s3 s4
  have h1 : s.Keeps s1 := h.eraseSecrets.raise.raise.dropSessions
  have h2 : s.Keeps s2 := h1.foldl fun _ h' => h'.endTxn
  have h3 : s.Keeps s3 := h2.closeWindow.ite h2
  have h4 : s.Keeps s4 := h3.foldl fun _ h' => h'.campEnd.raise.ite h'
  clear_value s4
  exact h4.storeErase.ite h4.modSec

theorem State.Keeps.sealAlarm (h : s.Keeps t) : s.Keeps t.sealAlarm :=
  h.modSec.raise.ite h.zeroise

theorem State.Keeps.closePresence (h : s.Keeps t) : s.Keeps t.closePresence :=
  h.closeWindow.modSec.zeroise.ite h.closeWindow

theorem State.Keeps.tamper (h : s.Keeps t) {bit : ℕ} : s.Keeps (t.tamper bit) :=
  h.ite ((h.modSec.wakeSource.ite h.modSec).ite ((h.modSec.wakeSource.ite h.modSec).sealAlarm.ite ((h.modSec.wakeSource.ite h.modSec).zeroise)))

theorem State.Keeps.tamperEnd (h : s.Keeps t) {bit : ℕ} : s.Keeps (t.tamperEnd bit) :=
  h.modSec.ite h

theorem State.Keeps.sealBit (h : s.Keeps t) {agrees : Bool} : s.Keeps (t.sealBit agrees) :=
  h.modSec.tamper.ite (h.modSec.tamperEnd.ite h.modSec)

theorem State.Keeps.zeroiseWrite (h : s.Keeps t) {v : ℕ} : s.Keeps (t.zeroiseWrite v) :=
  h.zeroise.accept.ite h

theorem State.Keeps.tamperClearPut (h : s.Keeps t) {m : ℕ} : s.Keeps (t.tamperClearPut m) :=
  h.modSec

theorem State.Keeps.tamperClear (h : s.Keeps t) {m : ℕ} : s.Keeps (t.tamperClear m) :=
  h.tamperClearPut.accept.ite h

theorem State.Keeps.stuckPress (h : s.Keeps t) : s.Keeps t.stuckPress :=
  h.count.raise

theorem State.Keeps.press (h : s.Keeps t) {jumper : Bool} {ms : ℕ} : s.Keeps (t.press jumper ms) :=
  h.wakeSource.modSec.ite (h.wakeSource.stuckPress.ite (h.wakeSource.modSec.ite h.wakeSource.closePresence.modSec.count.raise))

theorem State.Keeps.presStuck (h : s.Keeps t) : s.Keeps t.presStuck :=
  h.ite h.modSec.stuckPress

theorem State.Keeps.presenceExpiry (h : s.Keeps t) : s.Keeps t.presenceExpiry :=
  h.ite h.toMono.closePresence

theorem State.Keeps.attestPut (h : s.Keeps t) {nonce : ℕ} : s.Keeps (t.attestPut nonce) :=
  h.cfgPut.modSec.setAct.ite h.cfgPut

theorem State.Keeps.attestRequest (h : s.Keeps t) {nonce : ℕ} : s.Keeps (t.attestRequest nonce) :=
  h.attestPut.bumpRev.ite h

theorem State.Keeps.attestReady (h : s.Keeps t) : s.Keeps t.attestReady := by
  unfold State.attestReady
  split
  · exact h
  · exact h.modSec.setAct

theorem State.Keeps.secOff (h : s.Keeps t) : s.Keeps t.secOff := by
  unfold State.secOff
  exact (h.endSessions.setAct.ite h.endSessions).modSec (Within.nil _ _)

/-! ### Node images and campaigns -/

theorem State.Keeps.flashOp (h : s.Keeps t) {index addr arg : ℕ} {data : Bytes} : s.Keeps (t.flashOp index addr arg data) :=
  h.frame.setAct

theorem State.Keeps.modImage (h : s.Keeps t) {n : Fin 8} {f : Image → Image} : s.Keeps (t.modImage n f) :=
  h.frame

theorem State.Keeps.imageBeginPut (h : s.Keeps t) {v : ℕ} : s.Keeps (t.imageBeginPut v) :=
  h.modImage.frame.flashOp

theorem State.Keeps.imageBegin (h : s.Keeps t) {v : ℕ} : s.Keeps (t.imageBegin v) :=
  h.imageBeginPut.accept.ite h

theorem State.Keeps.imageStagePut (h : s.Keeps t) {data : Bytes} : s.Keeps (t.imageStagePut data) := by
  unfold State.imageStagePut
  split
  · exact h.modImage
  · exact h

theorem State.Keeps.imageStage (h : s.Keeps t) {offset : ℕ} {data : Bytes} : s.Keeps (t.imageStage offset data) :=
  h.imageStagePut.bumpRev.ite h

theorem State.Keeps.imageVerifyPut (h : s.Keeps t) {n : ℕ} : s.Keeps (t.imageVerifyPut n) :=
  h.flashOp

theorem State.Keeps.imageVerify (h : s.Keeps t) {n : ℕ} : s.Keeps (t.imageVerify n) :=
  h.imageVerifyPut.bumpRev.ite h

theorem State.Keeps.imageVerified (h : s.Keeps t) {n : ℕ} {readOk : Bool} : s.Keeps (t.imageVerified n readOk) := by
  unfold State.imageVerified
  dsimp only
  split
  · exact h.modImage
  · exact h

theorem State.Keeps.enrol (h : s.Keeps t) {n f : ℕ} : s.Keeps (t.enrol n f) :=
  h.takeReq.modRec

theorem State.Keeps.campStartPut (h : s.Keeps t) {n : Fin 4} : s.Keeps (t.campStartPut n) := by
  unfold State.campStartPut
  dsimp only
  exact h.frame.raise.ite ((h.frame.ite h.frame.writeSlot).foldl fun _ h' => h'.enrol)

theorem State.Keeps.campStart (h : s.Keeps t) {n : ℕ} : s.Keeps (t.campStart n) :=
  h.campStartPut.accept.ite h

theorem State.Keeps.campStopPut (h : s.Keeps t) {n : Fin 4} : s.Keeps (t.campStopPut n) :=
  h.campEnd.ite h

theorem State.Keeps.campStop (h : s.Keeps t) {n : ℕ} : s.Keeps (t.campStop n) :=
  h.ite h.campStopPut.accept

theorem State.Keeps.campReview (h : s.Keeps t) {n : Fin 4} : s.Keeps (t.campReview n) :=
  h.frame.campEnd.raise.ite h.frame

theorem State.Keeps.campRound (h : s.Keeps t) {n : Fin 4} : s.Keeps (t.campRound n) :=
  h.campEnd.ite h.frame

theorem State.Keeps.blockPut (h : s.Keeps t) {s' : State} {n : Fin 4} {p : Fin 6} {slot b i : ℕ} : s.Keeps (State.blockPut s' t n p slot b i) :=
  h.addTxn.txCommand.frame

theorem State.Keeps.sendBlockAs (h : s.Keeps t) {n : Fin 4} {p : Fin 6} {slot b i : ℕ} : s.Keeps (t.sendBlockAs n p slot b i) := by
  unfold State.sendBlockAs
  exact h.dutyReserve_snd.ite (h.dutyReserve_snd.dutyRelease.ite h.dutyReserve_snd.blockPut)

theorem State.Keeps.sendBlock (h : s.Keeps t) {n : Fin 4} {p : Fin 6} {slot b : ℕ} : s.Keeps (t.sendBlock n p slot b) := by
  unfold State.sendBlock
  refine h.ite ?_
  cases t.freeTxn with
  | none => exact h
  | some i => exact h.sendBlockAs

theorem State.Keeps.campBlock (h : s.Keeps t) {n : Fin 4} : s.Keeps (t.campBlock n) := by
  unfold State.campBlock
  dsimp only
  split
  · refine .ite ?_ ?_
    · exact h.campReview.toAir
    · split
      · exact h.campReview.toAir.campRound
      · exact h.campReview.toAir.sendBlock.campRound.ite h.campReview.toAir.sendBlock
  · exact h.campReview

/-! ### Containment and arbiters -/

theorem State.Keeps.modArb (h : s.Keeps t) {region : ℕ} {f : Arbiter → Arbiter} : s.Keeps (t.modArb region f) :=
  h.frame

theorem State.Keeps.countPromotion (h : s.Keeps t) {region cls : ℕ} : s.Keeps (t.countPromotion region cls) :=
  h.count.emit

theorem State.Keeps.grant (h : s.Keeps t) {region : ℕ} : s.Keeps (t.grant region) := by
  unfold State.grant
  dsimp only
  split
  · exact h
  · exact h.modArb.foldl fun _ h' => h'.countPromotion

theorem State.Keeps.grants (h : s.Keeps t) : s.Keeps t.grants :=
  h.foldl fun _ h' => h'.ite (h'.grant)

theorem State.Keeps.promote (h : s.Keeps t) {region who cls : ℕ} : s.Keeps (t.promote region who cls) :=
  h.ite h.modArb.countPromotion

theorem State.Keeps.writeRecord_ (h : s.Keeps t) {code region block cell action tries : ℕ} :
    s.Keeps (t.writeRecord_ code region block cell action tries) := by
  unfold State.writeRecord_
  exact h.drawn.modFlt ⟨id, id, Within.take _ _ _, id⟩

theorem State.Keeps.stopPath (h : s.Keeps t) {p : Fin 6} {status : ℕ} : s.Keeps (t.stopPath p status) :=
  h.cutTx.endQueue

theorem State.Keeps.nimbusStop (h : s.Keeps t) : s.Keeps t.nimbusStop := by
  unfold State.nimbusStop
  dsimp only
  split
  · exact h.endSnQueue.endSolving.modSnap.jobEnd
  · exact h.endSnQueue.endSolving

theorem State.Keeps.holdEffects (h : s.Keeps t) {region : ℕ} : s.Keeps (t.holdEffects region) := by
  unfold State.holdEffects
  dsimp only
  split
  · exact h.endSessions
  · exact h.endFrags
  · exact h.foldl fun _ h' => h'.ite (h'.stopPath.modPath)
  · exact h.foldl fun _ h' => h'.drawn.endTxn
  · exact h.gnssStop
  · exact h.nimbusStop
  · exact (h.foldl fun _ h' => h'.drawn.stopPath).tpRefresh.tpRefresh
  · exact h

theorem State.Keeps.chipLevel (h : s.Keeps t) {region block cell tries engine : ℕ} : s.Keeps (t.chipLevel region block cell tries engine) :=
  h.count.ite (h.count.writeRecord_.raiseF.ite (h.count.writeRecord_.raiseF.frame.modFlt.ite h.count.writeRecord_.modFlt.raiseF.setIrq.holdEffects))

theorem State.Keeps.cellLost (h : s.Keeps t) {region block cell : ℕ} : s.Keeps (t.cellLost region block cell) := by
  unfold State.cellLost
  dsimp only
  split
  · split_ifs
    · exact h.endSessions.eraseSlot
    · exact h.endSessions
  · exact h.modSec (Within.sublist (List.take_sublist _ _))
  · split
    · exact h.drawn.endTxn
    · exact h
  · exact h.withFlock (Within.sublist (List.take_sublist _ _))
  · exact h.modGnss
  · exact h

theorem State.Keeps.retireCell (h : s.Keeps t) {region block cell : ℕ} : s.Keeps (t.retireCell region block cell) :=
  h.ite (h.modFlt.retireLane.ite (h.modFlt.retireLane.ite h.modFlt.cellLost))

theorem State.Keeps.blockContained (h : s.Keeps t) {region block cell : ℕ} : s.Keeps (t.blockContained region block cell) :=
  h.count.raise.ite h.count.raise.retireCell

theorem State.Keeps.engineStops (h : s.Keeps t) {n : ℕ} : s.Keeps (t.engineStops n) := by
  unfold State.engineStops
  split
  · exact h.modGnss
  · exact h.endSolving
  · exact h.zeroise
  · exact h.foldl fun _ h' => h'.drawn.endTxn

theorem State.Keeps.watchdog (h : s.Keeps t) {n : Fin 8} : s.Keeps (t.watchdog n) := by
  unfold State.watchdog
  dsimp only
  exact h.ite ((h.frame.ite h.frame.engineStops).chipLevel.ite (h.frame.raise.ite h.frame.raise.engineStops))

/-! ### Host and network ports -/

theorem State.Keeps.modHost (h : s.Keeps t) {f : HostState → HostState} : s.Keeps (t.modHost f) :=
  h.frame

theorem State.Keeps.irqClear (h : s.Keeps t) {m : ℕ} : s.Keeps (t.irqClear m) :=
  h.ite (h.modHost.emit.ite h.modHost)

theorem State.Keeps.ringError (h : s.Keeps t) {n : Fin 6} {code : ℕ} : s.Keeps (t.ringError n code) :=
  h.setRing.raise.setIrq

theorem State.Keeps.doorbell (h : s.Keeps t) {n : Fin 6} {isProd : Bool} {v : ℕ} : s.Keeps (t.doorbell n isProd v) :=
  h.ite (h.count.ite (h.ite (h.ringError.ite (h.setRing.ite h.setRing.drainRings))))

theorem State.Keeps.ringOff (h : s.Keeps t) {n : Fin 6} : s.Keeps (t.ringOff n) := by
  unfold State.ringOff
  exact (h.ite h.count).modHost

theorem State.Keeps.ringOn (h : s.Keeps t) {n : Fin 6} : s.Keeps (t.ringOn n) :=
  (h.setRing.modHost.foldl fun _ h' => h'.postRing).ite h.setRing

theorem State.Keeps.ringCfgPut (h : s.Keeps t) {n : Fin 6} {v : List ℤ} : s.Keeps (t.ringCfgPut n v) :=
  h.cfgPut.ite (h.cfgPut.ringOn.ite (h.cfgPut.ringOff.ite h.cfgPut))

theorem State.Keeps.ringCfgWrite (h : s.Keeps t) {n : Fin 6} {v : List ℤ} {bar2 : Bool} : s.Keeps (t.ringCfgWrite n v bar2) :=
  h.ringCfgPut.bumpRev.ite (h.count.ite h)

theorem State.Keeps.fetched (h : s.Keeps t) {n : Fin 6} : s.Keeps (t.fetched n) :=
  h.setRing.writeback

theorem State.Keeps.complete0 (h : s.Keeps t) {tag status flock : ℕ} : s.Keeps (t.complete0 tag status flock) :=
  h.postRing

theorem State.Keeps.fetch0_snd (h : s.Keeps t) {buf : ℕ} {dmaOk : Bool} : s.Keeps (t.fetch0 buf dmaOk).2 := by
  unfold State.fetch0
  split_ifs
  · exact h
  · exact h.ringError
  · exact h.ringError
  · exact h.fetched

theorem State.Keeps.delivery (h : s.Keeps t) {d data : Bytes} {dmaOk : Bool} : s.Keeps (t.delivery d data dmaOk) := by
  unfold State.delivery
  dsimp only
  split
  next e => exact h.fetch0_snd.of_snd e
  next e => exact (h.fetch0_snd.of_snd e).takeReq.ite (h.fetch0_snd.of_snd e).complete0

theorem State.Keeps.legacySend (h : s.Keeps t) {d data : Bytes} {p : Fin 6} {id : ℕ} : s.Keeps (t.legacySend d data p id) :=
  h.dutyReserve_snd.complete0.ite (h.dutyReserve_snd.dutyRelease.count.complete0.ite
    (h.dutyReserve_snd.dutyRelease.complete0.ite h.dutyReserve_snd.frame.addTxn.bookCmd))

theorem State.Keeps.legacyTx (h : s.Keeps t) {d data : Bytes} {dmaOk : Bool} : s.Keeps (t.legacyTx d data dmaOk) := by
  unfold State.legacyTx
  refine h.fetch0_snd.ite ?_
  cases t.freeTxn with
  | none => exact h.fetch0_snd
  | some id => exact h.fetch0_snd.legacySend.ite h.fetch0_snd.complete0

theorem State.Keeps.buffer (h : s.Keeps t) {d : Bytes} {dmaOk : Bool} : s.Keeps (t.buffer d dmaOk) :=
  h.ite (h.ringError.ite (h.ringError.ite (h.ringError.ite h.fetched.modHost.drainRings)))

theorem State.Keeps.moderation (h : s.Keeps t) {n : Fin 6} : s.Keeps (t.moderation n) := by
  unfold State.moderation
  split
  · exact h
  · exact h.ite h.toMono.signalRing

theorem State.Keeps.pcieConfig (h : s.Keeps t) {link : ℕ × ℕ × Bool} {master : Option Bool} : s.Keeps (t.pcieConfig link master) :=
  h.ite (h.modHost.emit.ite (h.modHost.modHost.emit.drainRings.ite h.modHost.modHost.emit))

theorem State.Keeps.ethLink (h : s.Keeps t) {e : Fin 2} {up : Bool} : s.Keeps (t.ethLink e up) :=
  h.ite (h.frame.raise.ite h.frame.raise)

theorem State.Keeps.ethSend (h : s.Keeps t) {e : Fin 2} {kind : ℕ} {fields : List ℕ} {data : Bytes} : s.Keeps (t.ethSend e kind fields data) :=
  h.count.emit

theorem State.Keeps.ethFrame (h : s.Keeps t) {e : Fin 2} {f : EthArg} : s.Keeps (t.ethFrame e f) := by
  unfold State.ethFrame
  dsimp only
  refine .ite ?_ ?_
  · exact h
  · refine .ite ?_ ?_
    · exact h.count
    · refine .ite ?_ ?_
      · exact h.count.count
      · split
        · exact h.count.count
        · exact h.count.count.ite h.count.count
        · exact h.count.ethSend
        · exact h.count.ethSend
        · exact h.count.ethSend
        · exact h.count.ethSend
        · exact h.count

theorem State.Keeps.markBad (h : s.Keeps t) {f : ℕ} : s.Keeps (t.markBad f) := by
  unfold State.markBad
  exact h.ite ((h.withFlock (Within.erase _ _ _)).raise.foldl fun _ h' => h'.endTxn)

theorem State.Keeps.eccUe (h : s.Keeps t) {addr : ℕ} {flock : Option ℕ} : s.Keeps (t.eccUe addr flock) := by
  unfold State.eccUe
  dsimp only
  split
  · exact h.count.blockContained.raise.markBad
  · exact h.count.blockContained.raise

theorem State.Keeps.scrub (h : s.Keeps t) {fixed : ℕ} {bad : List (ℕ × Option ℕ)} : s.Keeps (t.scrub fixed bad) :=
  h.ite ((h.count.count.foldl fun _ h' => h'.eccUe).count)

theorem State.Keeps.flashFailed (h : s.Keeps t) {erase : Bool} {addr : ℕ} : s.Keeps (t.flashFailed erase addr) :=
  h.count.raise

theorem State.Keeps.dirLost (h : s.Keeps t) {addr : ℕ} : s.Keeps (t.dirLost addr) :=
  h.frame

theorem State.Keeps.flashDone (h : s.Keeps t) {addr : ℕ} {erase ok : Bool} {suspends : ℕ} : s.Keeps (t.flashDone addr erase ok suspends) := by
  unfold State.flashDone
  refine h.ite ?_
  extract_lets s1
  have h1 : s.Keeps s1 := h.ite h.count
  refine h1.flashFailed.dirLost.ite (.ite ?_ h1)
  split
  · exact h1.modFlt ⟨id, id, id, Within.take _ _ _⟩
  · exact h1

theorem State.Keeps.tsCapture (h : s.Keeps t) {v : ℕ} : s.Keeps (t.tsCapture v) :=
  h.ite h.modHost

/-! ### UARTs -/

theorem State.Keeps.modUart (h : s.Keeps t) {n : Fin 4} {f : Uart → Uart} : s.Keeps (t.modUart n f) :=
  h.frame

theorem State.Keeps.rtsRefresh (h : s.Keeps t) {n : Fin 4} : s.Keeps (t.rtsRefresh n) :=
  h.ite h.modUart

theorem State.Keeps.rxPush (h : s.Keeps t) {n : Fin 4} {e : ℕ} : s.Keeps (t.rxPush n e) :=
  (h.modUart.count.ite h.modUart.count.raise).ite (h.modUart.rtsRefresh.modUart.raise.ite h.modUart.rtsRefresh)

theorem State.Keeps.countEntry (h : s.Keeps t) {n : Fin 4} {e : ℕ} : s.Keeps (t.countEntry n e) :=
  ((h.count.count.ite h.count).count.ite (h.count.count.ite h.count)).count.ite ((h.count.count.ite h.count).count.ite (h.count.count.ite h.count))

theorem State.Keeps.wakeStore (h : s.Keeps t) {e : ℕ} {gap : Bool} : s.Keeps (t.wakeStore e gap) :=
  h.frame.ite h.count

theorem State.Keeps.slowChar (h : s.Keeps t) {line : List Bool} {gap : Bool} : s.Keeps (t.slowChar line gap) := by
  unfold State.slowChar
  dsimp only
  split
  · exact h.wakeStore.ite (h.frame.wakeSource.ite h)
  · exact h

theorem State.Keeps.rxEnds (h : s.Keeps t) {n : Fin 4} : s.Keeps (t.rxEnds n) :=
  h.modUart

theorem State.Keeps.uartBreak (h : s.Keeps t) {n : Fin 4} : s.Keeps (t.uartBreak n) :=
  h.modUart.ite (h.modUart.count.raise.ite h.modUart.count.raise.rxPush)

theorem State.Keeps.uartStuck (h : s.Keeps t) {n : Fin 4} : s.Keeps (t.uartStuck n) :=
  h.ite h.modUart.raise

theorem State.Keeps.uartLineOk (h : s.Keeps t) {n : Fin 4} : s.Keeps (t.uartLineOk n) :=
  h.modUart.raise.ite h.modUart

theorem State.Keeps.uartIdle (h : s.Keeps t) {n : Fin 4} : s.Keeps (t.uartIdle n) :=
  h.ite h.modUart.raise

theorem State.Keeps.rxDataPut (h : s.Keeps t) {n : Fin 4} {k : ℕ} : s.Keeps (t.rxDataPut n k) :=
  h.modUart.rtsRefresh

theorem State.Keeps.rxData (h : s.Keeps t) {n : Fin 4} {element k : ℕ} : s.Keeps (t.rxData n element k) :=
  h.ite h.rxDataPut.emit

theorem State.Keeps.txKick (h : s.Keeps t) {n : Fin 4} : s.Keeps (t.txKick n) := by
  unfold State.txKick
  dsimp only
  split
  · exact h.ite h.modUart.emit
  · exact h

theorem State.Keeps.txDataPut (h : s.Keeps t) {n : Fin 4} {v : List ℕ} : s.Keeps (t.txDataPut n v) :=
  h.modUart.txKick

theorem State.Keeps.txData (h : s.Keeps t) {n : Fin 4} {v : List ℕ} : s.Keeps (t.txData n v) :=
  h.ite h.txDataPut.bumpRev

theorem State.Keeps.charSent (h : s.Keeps t) {n : Fin 4} : s.Keeps (t.charSent n) :=
  h.ite (h.modUart.count.modUart.ite h.modUart.count.txKick)

theorem State.Keeps.ctsChange (h : s.Keeps t) {n : Fin 4} {low : Bool} : s.Keeps (t.ctsChange n low) :=
  h.ite h.modUart.txKick

theorem State.Keeps.uartIsolate (h : s.Keeps t) : s.Keeps t.uartIsolate :=
  h.foldl fun _ h' => h'.modUart

theorem State.Keeps.uartCopies (h : s.Keeps t) : s.Keeps t.uartCopies :=
  h.frame

theorem State.Keeps.tapRun (h : s.Keeps t) {code data : ℕ} : s.Keeps (t.tapRun code data) := by
  unfold State.tapRun
  dsimp only
  split
  · exact h.frame.emit
  · exact h.drawn.frame.emit
  · exact h.frame.emit.ite h.frame.emit
  · exact h.frame.emit

/-! ### Commands of the power domains -/

theorem State.Keeps.engSt (h : s.Keeps t) {n : Fin 8} {st : ℕ} : s.Keeps (t.engSt n st) :=
  h.frame

theorem State.Keeps.ethAllDown (h : s.Keeps t) : s.Keeps t.ethAllDown :=
  h.ethLink.ethLink

theorem State.Keeps.ringsStop (h : s.Keeps t) : s.Keeps t.ringsStop :=
  h.foldl fun _ h' => h'.ite (h'.ringOff)

theorem State.Keeps.ringsOff (h : s.Keeps t) : s.Keeps t.ringsOff :=
  h.ringsStop.foldl fun _ h' => h'.cfgPut.ite h'

theorem State.Keeps.ringsLoad (h : s.Keeps t) : s.Keeps t.ringsLoad :=
  h.foldl fun _ h' => h'.ringOn.ite (h'.ringOff.ite h')

theorem State.Keeps.clearDomainRo (h : s.Keeps t) {d : ℕ} : s.Keeps (t.clearDomainRo d) :=
  h.filterRo

theorem State.Keeps.meshLost (h : s.Keeps t) : s.Keeps t.meshLost :=
  h.frame

theorem State.Keeps.timeStart (h : s.Keeps t) : s.Keeps t.timeStart :=
  h.modTime.frame.foldl fun _ h' => h'.ptpApplied

theorem State.Keeps.memoryLost (h : s.Keeps t) : s.Keeps t.memoryLost :=
  (h.foldl fun _ h' => h'.drawn.completeReq.ite h').withFlock (Within.nil _ _)

theorem State.Keeps.domainDown (h : s.Keeps t) {d : Fin 18} {off : Bool} : s.Keeps (t.domainDown d off) := by
  unfold State.domainDown
  split
  · refine State.Keeps.ite ?_ h.engSt
    exact h.engSt.trans { State.Keeps.refl _ with
      flt := ⟨Within.nil _ _, id, id, id⟩, flock := Within.nil _ _, isl := fun _ => IslState.Ok.empty _ }
  · exact h.engSt.secOff.ite h.engSt
  · exact h.endFrags.frame.memoryLost.ite h.endFrags.frame
  · exact h.ringsStop.modHost.ite h.modHost
  · exact h.ethAllDown
  · have h2 := State.Keeps.foldl (f := fun (s : State) (n : Fin 8) => s.engSt n 0) (l := [1, 2, 3, 4])
      (h.foldl (f := fun (s : State) (t : Txn) => s.endTxn t 0x0B) (l := t.mesh.txns) fun _ h' => h'.endTxn) fun _ h' => h'.engSt
    exact h2.frame.meshLost.ite h2.frame
  · exact h.grfOff
  · exact h.gnssStop.notchLost.ite h.gnssStop
  · exact h.engSt.engSt.modGnss.ite h.engSt.engSt
  · exact h.endSnQueue
  · exact h.modTime.tpRefresh.tpRefresh
  · split_ifs
    · exact h.pathOff.roPut.modPath
    · exact h.pathOff
    · exact h

theorem State.Keeps.domainUp (h : s.Keeps t) {d : Fin 18} {fromOff : Bool} : s.Keeps (t.domainUp d fromOff) := by
  unfold State.domainUp
  dsimp only
  split
  · exact (h.clearDomainRo.ite h).aonDrain.engSt.frame.ite ((h.clearDomainRo.ite h).aonDrain.engSt)
  · exact (h.clearDomainRo.ite h).engSt.restoreRoots.ite ((h.clearDomainRo.ite h).engSt.loadGroups)
  · exact (h.clearDomainRo.ite h).frame.frame.ite ((h.clearDomainRo.ite h).frame)
  · exact ((h.clearDomainRo.ite h).foldl fun _ h' => h'.engSt).frame.loadBeacon.loadBeacon
  · exact (h.clearDomainRo.ite h).ringsLoad
  · exact (h.clearDomainRo.ite h).grfOn
  · exact (h.clearDomainRo.ite h).checkBank.checkBank.engSt.engSt.gnssStart.ite ((h.clearDomainRo.ite h).checkBank.checkBank.engSt.engSt)
  · exact (h.clearDomainRo.ite h).checkBank.timeStart
  · split
    · exact (h.clearDomainRo.ite h).modPath.pathOn
    · exact h.clearDomainRo.ite h

theorem State.Keeps.domainLoad (h : s.Keeps t) {d : Fin 18} : s.Keeps (t.domainLoad d) := by
  unfold State.domainLoad
  dsimp only
  split
  · exact ((h.rxOff.ite h).ite ((h.rxOff.ite h).tune)).settlePath
  · split
    · exact h.loadGroups
    · exact h.ringsLoad
    · exact h.foldl fun _ h' => h'.ite (h'.ethLink)
    · exact h.loadBeacon.loadBeacon
    · exact h.bandsLoad
    · exact h.fixedLoad
    · exact h.foldl fun _ h' => h'.ptpApplied.tpRefresh
    · exact h

theorem State.Keeps.releaseDomain (h : s.Keeps t) {d : Fin 18} : s.Keeps (t.releaseDomain d) :=
  h.modDom.domainLoad.resume.ite h

theorem State.Keeps.releases (h : s.Keeps t) : s.Keeps t.releases :=
  h.foldl fun _ h' => h'.releaseDomain

theorem State.Keeps.pwTargetRefused (h : s.Keeps t) {d v : ℕ} : s.Keeps (t.pwTargetRefused d v) := by
  unfold State.pwTargetRefused
  split
  · exact h.countRefusal
  · exact h

theorem State.Keeps.pwTargetPut (h : s.Keeps t) {d v : ℕ} : s.Keeps (t.pwTargetPut d v) :=
  h.applyTarget

theorem State.Keeps.pwTarget (h : s.Keeps t) {d v : ℕ} : s.Keeps (t.pwTarget d v) := by
  unfold State.pwTarget
  split
  · exact h.bumpRev.pwTargetPut
  · exact h.pwTargetRefused
  · exact h

theorem State.Keeps.quiesceEnd (h : s.Keeps t) {d : Fin 18} {lanes : ℕ} : s.Keeps (t.quiesceEnd d lanes) := by
  unfold State.quiesceEnd
  dsimp only
  refine .ite ?_ ?_
  · exact h
  · refine .ite ?_ ?_
    · exact h.countAbort.resume
    · split
      · exact h.domRefused.resume
      · split
        · exact h.modDom.frame.ite h.modDom.frame.count
        · exact h.modDom.frame.uartIsolate.ite (h.modDom.frame.modGnss.ite h.modDom.frame)

theorem State.Keeps.quiesceTimeout (h : s.Keeps t) {d : Fin 18} : s.Keeps (t.quiesceTimeout d) :=
  h.ite h.domRefused.resume

theorem State.Keeps.saveOwners (h : s.Keeps t) {d : ℕ} : s.Keeps (t.saveOwners d) :=
  h.ite (h.hotSave.ite ((h.writeAnchor.ite h).modTime.ite h))

theorem State.Keeps.saveStart (h : s.Keeps t) : s.Keeps t.saveStart := by
  unfold State.saveStart
  dsimp only
  split
  · exact h.frame.modDom.saveOwners
  · exact h

theorem State.Keeps.saveEnd (h : s.Keeps t) : s.Keeps t.saveEnd := by
  unfold State.saveEnd
  dsimp only
  split
  · exact h
  · exact h.frame.modDom.sealBank.clearSave.abortEntry.ite h.frame.modDom.sealBank.frame

theorem State.Keeps.switchStart (h : s.Keeps t) : s.Keeps t.switchStart := by
  unfold State.switchStart
  dsimp only
  split
  · exact h
  · refine .domainDown ?_
    refine .modDom ?_
    refine .frame ?_
    split
    · exact h.modDom.ite h
    · exact h

theorem State.Keeps.freeSwitch (h : s.Keeps t) {d : Fin 18} : s.Keeps (t.freeSwitch d) :=
  h.frame.ite h

theorem State.Keeps.entryConfirm (h : s.Keeps t) {d : Fin 18} : s.Keeps (t.entryConfirm d) :=
  h.ite (h.freeSwitch.putDom.count.beginExits.ite h.freeSwitch.putDom.count.afterTransition)

theorem State.Keeps.lastFail (h : s.Keeps t) {d event cause : ℕ} : s.Keeps (t.lastFail d event cause) :=
  h.roPut

theorem State.Keeps.entryTimeout (h : s.Keeps t) {d : Fin 18} : s.Keeps (t.entryTimeout d) := by
  unfold State.entryTimeout
  extract_lets x s0 s1 s2
  have h0 : s.Keeps s0 := h.freeSwitch.domainDown.ite h.freeSwitch
  have h2 : s.Keeps s2 := h0.modDom.count.lastFail.raise
  exact h.ite (h2.beginExits.ite h2.afterTransition)

theorem State.Keeps.failDependents (h : s.Keeps t) {d : Fin 18} : s.Keeps (t.failDependents d) := by
  unfold State.failDependents
  refine h.foldl fun x h' => ?_
  split
  · exact h'.modDom.domRefused.ite h'
  · exact h'

theorem State.Keeps.wakeFail (h : s.Keeps t) {d : Fin 18} {cause : ℕ} : s.Keeps (t.wakeFail d cause) :=
  (h.domainDown.ite h).modDom.setTarget.count.lastFail.raise.failDependents.afterTransition

theorem State.Keeps.clockOn (h : s.Keeps t) : s.Keeps t.clockOn :=
  h.frame

theorem State.Keeps.checkSave_snd (h : s.Keeps t) {d : Fin 18} : s.Keeps (t.checkSave d).2 := by
  unfold State.checkSave
  split
  · exact h
  · extract_lets s1
    have h1 : s.Keeps s1 := h.checkBank
    dsimp only
    exact h1.foldl fun _ h' => h'.modDom.ite h'

theorem State.Keeps.exitDone (h : s.Keeps t) {d : Fin 18} {kept : Bool} : s.Keeps (t.exitDone d kept) :=
  h.modDom.count.domainUp.beginExits.afterTransition

theorem State.Keeps.domainExit (h : s.Keeps t) {d : Fin 18} {counts : List ℕ} : s.Keeps (t.domainExit d counts) := by
  unfold State.domainExit
  extract_lets x refOk asks s0 s1
  have h0 : s.Keeps s0 := h.clockOn.ite h
  have h1 : s.Keeps s1 := h0.count.lastFail.raise.ite h0
  refine h.ite (h0.countRefusal.raise.wakeFail.ite (.ite ?_ h1.exitDone))
  exact (h1.checkSave_snd.ite h1.checkSave_snd.count.domainDown).exitDone

theorem State.Keeps.exitTimeout (h : s.Keeps t) {d : Fin 18} : s.Keeps (t.exitTimeout d) :=
  h.wakeFail.ite h

theorem State.Keeps.cutDomain (h : s.Keeps t) {d : Fin 18} : s.Keeps (t.cutDomain d) :=
  h.ite h.domainDown.modDom.frame

theorem State.Keeps.allHoldover (h : s.Keeps t) : s.Keeps t.allHoldover :=
  h.foldl fun _ h' => h'.modBase

theorem State.Keeps.refLoss (h : s.Keeps t) : s.Keeps t.refLoss :=
  h.ite (((h.foldl fun _ h' => h'.cutTx).foldl fun _ h' => h'.cutDomain.ite h').endFrags.frame.allHoldover.lastFail.raise)

/-! ### Firmware -/

theorem State.Keeps.modStart (h : s.Keeps t) {f : StartState → StartState} : s.Keeps (t.modStart f) :=
  h.frame

theorem State.Keeps.writeDir (h : s.Keeps t) {d : Directory} : s.Keeps (t.writeDir d) := by
  unfold State.writeDir
  exact h.modFw

theorem State.Keeps.startFlag (h : s.Keeps t) {bit : ℕ} : s.Keeps (t.startFlag bit) :=
  h.modStart

theorem State.Keeps.selectDir (h : s.Keeps t) {d : Directory} : s.Keeps (t.selectDir d) :=
  h.modFw.ite h.writeDir

theorem State.Keeps.tryBundle (h : s.Keeps t) {d : Directory} {b : Fin 2} {bad : ℕ} : s.Keeps (t.tryBundle d b bad).2.2 := by
  unfold State.tryBundle
  extract_lets st r s1 d1 s2 d2
  have h1 : s.Keeps s1 := h.modFw
  have h2 : s.Keeps s2 := h1.raise.writeDir.startFlag.ite (h1.writeDir.ite h1)
  clear_value s1 s2
  split
  · exact h
  · split
    · dsimp only
      exact h2.modStart
    · dsimp only
      exact h1.selectDir.raise.startFlag

theorem State.Keeps.bundleOrder (h : s.Keeps t) : s.Keeps t.bundleOrder.2.2 := by
  unfold State.bundleOrder
  split
  · exact h.writeDir
  · split
    · exact h.writeDir.raise
    · exact h

theorem State.Keeps.selectBundle_snd (h : s.Keeps t) {bad : ℕ} : s.Keeps (t.selectBundle bad).2 := by
  unfold State.selectBundle
  dsimp only
  split_ifs
  · exact h.bundleOrder.tryBundle
  · exact h.bundleOrder.tryBundle.tryBundle

theorem State.Keeps.fwStageBeginPut (h : s.Keeps t) {len : ℕ} : s.Keeps (t.fwStageBeginPut len) :=
  h.writeDir.modFw.flashOp

theorem State.Keeps.fwStageBegin (h : s.Keeps t) {len : ℕ} : s.Keeps (t.fwStageBegin len) :=
  h.fwStageBeginPut.bumpRev.ite h

theorem State.Keeps.fwStagePut (h : s.Keeps t) {data : Bytes} : s.Keeps (t.fwStagePut data) := by
  unfold State.fwStagePut
  exact h.modFw

theorem State.Keeps.fwStage (h : s.Keeps t) {offset : ℕ} {data : Bytes} : s.Keeps (t.fwStage offset data) :=
  h.fwStagePut.bumpRev.ite h

theorem State.Keeps.fwVerifyPut (h : s.Keeps t) : s.Keeps t.fwVerifyPut :=
  h.flashOp

theorem State.Keeps.fwVerify (h : s.Keeps t) {v : ℕ} : s.Keeps (t.fwVerify v) :=
  h.fwVerifyPut.bumpRev.ite h

theorem State.Keeps.fwVerified (h : s.Keeps t) {t' : Fin 2} {readOk : Bool} : s.Keeps (t.fwVerified t' readOk) :=
  h.modFw.writeDir

theorem State.Keeps.fwActivatePut (h : s.Keeps t) : s.Keeps t.fwActivatePut :=
  h.writeDir

theorem State.Keeps.fwConfirmPut (h : s.Keeps t) : s.Keeps t.fwConfirmPut := by
  unfold State.fwConfirmPut
  dsimp only
  split
  · exact h.frame.writeDir.modStart
  · exact h

theorem State.Keeps.fwConfirm (h : s.Keeps t) {v : ℕ} : s.Keeps (t.fwConfirm v) :=
  h.fwConfirmPut.accept.ite h

/-- Programming steps clears none (R112, R120). -/
theorem stepsStay_setSteps : ∀ (n : ℕ) (xs : List ℕ), StepsStay xs (setSteps n xs)
  | 0, [] => .nil
  | _ + 1, [] => .nil
  | 0, _ :: _ => List.forall₂_same.2 fun _ _ h => h
  | n + 1, x :: xs => by
    unfold setSteps
    split_ifs with hx
    · exact .cons id (stepsStay_setSteps (n + 1) xs)
    · exact .cons (fun h => absurd h hx) (stepsStay_setSteps n xs)

theorem State.Keeps.rollbackPut (h : s.Keeps t) {v steps : ℕ} : s.Keeps (t.rollbackPut v steps) :=
  h.modFw ⟨stepsStay_setSteps _ _, fun _ _ => rfl, rfl⟩

theorem State.Keeps.rollback (h : s.Keeps t) {v steps : ℕ} : s.Keeps (t.rollback v steps) :=
  h.rollbackPut.accept.ite h

theorem State.Keeps.bootOverridePut (h : s.Keeps t) {v : ℕ} : s.Keeps (t.bootOverridePut v) :=
  h.writeDir

theorem State.Keeps.bootOverride (h : s.Keeps t) {v : ℕ} : s.Keeps (t.bootOverride v) :=
  h.bootOverridePut.bumpRev.ite h

/-! ### Commands of the FAULT region -/

theorem State.Keeps.rfBlockReset (h : s.Keeps t) {block : ℕ} : s.Keeps (t.rfBlockReset block) :=
  (h.grfOff.grfOn.ite h).ite (h.foldl fun _ h' => h'.drawn.stopPath.pathOff.pathOn.ite h')

theorem State.Keeps.endTxnsIn (h : s.Keeps t) {which : Txn → Bool} : s.Keeps (t.endTxnsIn which) :=
  h.foldl fun _ h' => h'.drawn.endTxn

theorem State.Keeps.meshBlockReset (h : s.Keeps t) {block : ℕ} : s.Keeps (t.meshBlockReset block) := by
  unfold State.meshBlockReset
  dsimp only
  split
  · exact h.frame
  · exact h.frame
  · exact h.engineStops
  · exact h.engineStops
  · exact h.engineStops
  · exact h.engineStops
  · exact h.endTxnsIn
  · exact h.endTxnsIn
  · exact h

theorem State.Keeps.gnssBlockReset (h : s.Keeps t) {block : ℕ} : s.Keeps (t.gnssBlockReset block) := by
  unfold State.gnssBlockReset
  split
  · exact h.notchLost.fixedLoad
  · exact h.notchLost.fixedLoad
  · exact h.modGnss
  · exact h.engineStops
  · exact h.endSolving
  · exact h.modTime.tpRefresh.tpRefresh
  · exact h

theorem State.Keeps.actionsEnd (h : s.Keeps t) {which : List ℕ} : s.Keeps (t.actionsEnd which) :=
  h.modFw.foldl fun _ h' => h'.drawn.setAct

theorem State.Keeps.otherBlockReset (h : s.Keeps t) {region block : ℕ} : s.Keeps (t.otherBlockReset region block) := by
  unfold State.otherBlockReset
  split
  · exact h
  · exact h.modSec.actionsEnd
  · exact h.modHost
  · exact h.ringsStop.ringsLoad
  · exact h.modHost
  · exact h.ethLink
  · exact h.endFrags
  · exact h.actionsEnd
  · exact h.withFlock (Within.nil _ _)
  · exact h.nimbusStop
  · exact h.modTime
  · exact h.modUart.rtsRefresh
  · exact h

theorem State.Keeps.blockReset (h : s.Keeps t) {region block : ℕ} : s.Keeps (t.blockReset region block) := by
  unfold State.blockReset
  split
  · exact h.rfBlockReset
  · exact h.meshBlockReset
  · exact h.gnssBlockReset
  · exact h.otherBlockReset

theorem State.Keeps.contained (h : s.Keeps t) {c : Containment} : s.Keeps (t.contained c) := by
  unfold State.contained
  split
  · exact h.count
  · exact h.blockContained
  · exact h.count.raise.blockReset

theorem State.Keeps.attempt (h : s.Keeps t) {c : Containment} {ok : Bool} : s.Keeps (t.attempt c ok) :=
  h.contained.ite h.modFlt

theorem State.Keeps.errorDetected (h : s.Keeps t) {region block cell level : ℕ} {ok : Bool} : s.Keeps (t.errorDetected region block cell level ok) :=
  h.ite (h.count.ite (h.chipLevel.ite h.attempt))

theorem State.Keeps.escalate (h : s.Keeps t) {n : ℕ} {ok : Bool} : s.Keeps (t.escalate n ok) := by
  unfold State.escalate
  dsimp only
  split
  · exact h
  · exact h.toMono.modFlt.chipLevel.ite h.toMono.modFlt.attempt

theorem State.Keeps.summarise (h : s.Keeps t) {w : EventWindow} : s.Keeps (t.summarise w) :=
  h.logEntry.count

theorem State.Keeps.summaryEnd (h : s.Keeps t) : s.Keeps t.summaryEnd := by
  unfold State.summaryEnd
  dsimp only
  split
  · exact h
  · exact h.toMono.modFlt.foldl fun _ h' => h'.summarise

theorem State.Keeps.archivePage (h : s.Keeps t) {ok : Bool} : s.Keeps (t.archivePage ok) := by
  unfold State.archivePage
  refine h.ite ?_
  extract_lets s1
  have h1 : s.Keeps s1 := h.toMono.ite h
  clear_value s1
  refine State.Keeps.ite (h1.modFlt ⟨id, ?_, id, id⟩) h1.modFlt.drawn.flashFailed
  dsimp only
  exact Within.drop_excess 524288 _ _

theorem State.Keeps.clearRegionRo (h : s.Keeps t) {region : ℕ} : s.Keeps (t.clearRegionRo region) :=
  h.filterRo

theorem State.Keeps.regionLost (h : s.Keeps t) {region : ℕ} : s.Keeps (t.regionLost region) := by
  unfold State.regionLost
  dsimp only
  split
  · exact h.frame
  · exact (h.foldl fun _ h' => h'.drawn.completeReq.ite h').withFlock (Within.nil _ _)
  · exact h.frame
  · exact h.modFlt ⟨Within.nil _ _, id, Within.take _ _ _, id⟩
  · exact h

theorem State.Keeps.regionReset (h : s.Keeps t) {region : ℕ} : s.Keeps (t.regionReset region) :=
  h.clearRegionRo.modFlt.modArb.regionLost.foldl fun _ h' => h'.domainDown.domainUp.ite h'

theorem State.Keeps.releasePut (h : s.Keeps t) {v : ℕ} : s.Keeps (t.releasePut v) :=
  h.modFlt.regionReset.raise.setIrq

theorem State.Keeps.faultRelease (h : s.Keeps t) {v : ℕ} : s.Keeps (t.faultRelease v) :=
  h.releasePut.bumpRev.ite h

theorem State.Keeps.faultClearPut (h : s.Keeps t) : s.Keeps t.faultClearPut :=
  h.flashOp

theorem State.Keeps.faultClear (h : s.Keeps t) {v : ℕ} : s.Keeps (t.faultClear v) :=
  h.faultClearPut.bumpRev.ite h

theorem State.Keeps.flashEnd (h : s.Keeps t) {o : FlashOp} {ok : Bool} : s.Keeps (t.flashEnd o ok) := by
  unfold State.flashEnd
  exact h.fwVerified.ite (h.imageVerified.ite (h.flashFailed.ite ((h.modFlt ⟨id, id, id, Within.nil _ _⟩).ite h)))

theorem State.Keeps.flashAction (h : s.Keeps t) {index : ℕ} {ok : Bool} : s.Keeps (t.flashAction index ok) := by
  unfold State.flashAction
  dsimp only
  refine .ite ?_ ?_
  · exact h
  · split
    · exact h
    · exact h.modFw.flashEnd.ite (h.modFw.flashEnd.setAct.ite h.modFw.flashEnd.drawn.setAct)

/-! ### Settings -/

theorem State.Keeps.nbrApplied (h : s.Keeps t) {before : State} : s.Keeps (State.nbrApplied before t) :=
  h.foldl fun _ h' => h'.ite (h'.setNbr)

theorem State.Keeps.bandsApplied (h : s.Keeps t) {before : State} : s.Keeps (State.bandsApplied before t) :=
  h.foldl fun _ h' => h'.modBand.modGnss.ite (h'.modBand.ite h')

theorem State.Keeps.uartApplied (h : s.Keeps t) {before : State} {n : Fin 4} : s.Keeps (State.uartApplied before t n) :=
  (h.modUart.ite h).rtsRefresh.txKick

theorem State.Keeps.appliedRadio (h : s.Keeps t) {before : State} {index : ℕ} : s.Keeps (State.appliedRadio before t index) :=
  (h.drawn.tune.ite h.tune).ite ((h.stopPath.rxOff.ite h).ite
    ((h.modPath.ite h).ite (h.frame.ite (h.nbrApplied.ite (h.deriveBeacon.deriveBeacon.ite (h.resyncAll.ite h))))))

theorem State.Keeps.appliedTime (h : s.Keeps t) {before : State} {index : ℕ} : s.Keeps (State.appliedTime before t index) :=
  h.fixedBand.ite (h.modGnss.ite (h.sigsChanged.ite
    (h.bandsApplied.sigsChanged.ite ((h.modGnss.ite h).ite
      (h.ptpApplied.ite (h.tpRefresh.tpRefresh.ite (h.tpRefresh.tpRefresh.ite ((h.forceSync.ite h).ite (h.modAon.ite h)))))))))

theorem State.Keeps.appliedPorts (h : s.Keeps t) {before : State} {index : ℕ} : s.Keeps (State.appliedPorts before t index) :=
  (h.ite h.ethLink).ite (h.uartApplied.ite (h.uartCopies.ite h))

theorem State.Keeps.applied (h : s.Keeps t) {before : State} {index : ℕ} : s.Keeps (State.applied before t index) := by
  unfold State.applied
  refine .ite ?_ ?_
  · exact (h.modPath.ite h).ite (h.nbrApplied.ite (h.modGnss.ite h))
  · split
    · exact h.appliedRadio
    · exact h.appliedRadio
    · exact h.appliedRadio
    · exact h.appliedTime
    · exact h.appliedTime
    · exact h.appliedTime
    · exact h.appliedPorts

theorem State.Keeps.settingPut (h : s.Keeps t) {index e n : ℕ} {new : Val} : s.Keeps (t.settingPut index e n new) := by
  unfold State.settingPut
  dsimp only
  refine .ite ?_ ?_
  · exact h.foldl fun _ h' => h'.pwTargetPut
  · refine .ite ?_ ?_
    · exact h.foldl fun _ h' => h'.ringCfgPut
    · refine .ite ?_ ?_
      · exact h.foldl fun _ h' => h'.flockCfgPut
      · refine .ite ?_ ?_
        · exact h.attestPut
        · refine .ite ?_ ?_
          · exact h.txDataPut
          · refine .ite ?_ ?_
            · exact h.chmapPut
            · refine .ite ?_ ?_
              · exact h.cfgPut.ite h.chmapPut
              · refine .ite ?_ ?_
                · refine .ite ?_ ?_
                  · refine h.cfgPut.foldl fun x h' => ?_
                    split
                    · exact h'.deriveGroup
                    · exact h'
                  · exact h.cfgPut
                · exact h.gnEnablePut.ite (h.snEnablePut.ite (h.setHalt.ite (h.setAlarmEnable.ite (h.putAlarm.ite h.cfgPut.applied))))

/-! ### Items of a list -/

theorem State.Keeps.flockLookups (h : s.Keeps t) {index e n : ℕ} : s.Keeps (t.flockLookups index e n) :=
  (h.foldl fun _ h' => h'.lookup).ite h

theorem State.Keeps.readItem_snd (h : s.Keeps t) {it : RItem} : s.Keeps (t.readItem it).2 := by
  unfold State.readItem
  dsimp only
  split
  · exact h
  · split_ifs
    · exact h
    · exact h.rxDataPut
    · exact h.flockLookups.drawn

/-! ### Profiles -/

theorem State.Keeps.step1 (h : s.Keeps t) : s.Keeps t.step1 :=
  h.trans { State.Keeps.refl t with cfg := t.cfg.wf_filter _, flock := Within.nil _ _ }

theorem State.Keeps.planned (h : s.Keeps t) {p : WPlan} : s.Keeps (t.planned p) :=
  (h.foldl fun _ h' => h'.flockCfgPut).ite h.cfgPut

theorem State.Keeps.toDefault (h : s.Keeps t) {o : ObjInfo} {index : ℕ} : s.Keeps (t.toDefault o index) :=
  h.cfgPut.frame.ite (h.settingPut.modGnss.ite h.settingPut)

theorem State.Keeps.defaultRest (h : s.Keeps t) {index : ℕ} {rest : List ℕ} : s.Keeps (t.defaultRest index rest) :=
  h.foldl fun _ h' => h'.settingPut

theorem State.Keeps.resetObject (h : s.Keeps t) {all : List WItem} {index : ℕ} {old : Val} : s.Keeps (t.resetObject all index old) := by
  unfold State.resetObject
  dsimp only
  split
  · exact h
  · exact h.bumpRev.cfgPut.defaultRest.cfgPut.ite h.bumpRev.cfgPut.toDefault

theorem State.Keeps.dropRecord (h : s.Keeps t) {f : ℕ} : s.Keeps (t.dropRecord f) :=
  (h.detach.foldl fun _ h' => h'.completeReq).eraseRec

theorem State.Keeps.resetFlock (h : s.Keeps t) {all : List WItem} : s.Keeps (t.resetFlock all) :=
  h.ite (h.bumpRev.foldl fun _ h' => h'.dropRecord)

theorem State.Keeps.applyDefaults (h : s.Keeps t) {all : List WItem} : s.Keeps (t.applyDefaults all) :=
  State.Keeps.foldl h.filterCfg.resetFlock fun _ h' => h'.resetObject

theorem State.Keeps.entryRecord (h : s.Keeps t) {f : ℕ} {c : FlockCfg} : s.Keeps (t.entryRecord f c) :=
  h.flockCfgPut.ite h.dropRecord.flockCfgPut

theorem State.Keeps.applyEntry (h : s.Keeps t) {old : List (ℕ × Val)} {all past : List WItem} {p : WPlan} : s.Keeps (t.applyEntry old all past p) :=
    by
  unfold State.applyEntry
  dsimp only
  refine .ite ?_ ?_
  · exact h.bumpRev.foldl fun _ h' => h'.entryRecord
  · split
    · exact h.bumpRev.cfgPut.settingPut.cfgPut
    · exact (h.cfgPut.ite h).bumpRev.settingPut

theorem State.Keeps.applyEntries (h : s.Keeps t) {old : List (ℕ × Val)} {all past ws : List WItem} :
    s.Keeps (t.applyEntries old all past ws) := by
  induction ws generalizing t past with
  | nil => exact h
  | cons w ws ih =>
    unfold State.applyEntries
    split
    · exact ih h
    · split
      · exact ih h
      · exact ih h.applyEntry

theorem State.Keeps.loadEntries (h : s.Keeps t) {ws : List WItem} : s.Keeps (t.loadEntries ws) :=
  h.applyDefaults.applyEntries

theorem State.Keeps.loadProfile_snd (h : s.Keeps t) {n : ℕ} : s.Keeps (t.loadProfile n).2 := by
  unfold State.loadProfile
  dsimp only
  split
  · split_ifs
    · exact h.loadEntries.modStart.settled
    · exact h.loadEntries.modStart.settled.raise
  · exact h.loadEntries.modStart.settled.raise

theorem State.Keeps.storeProfile (h : s.Keeps t) {index n : ℕ} {p : Bytes} : s.Keeps (t.storeProfile index n p) :=
  h.flashOp

theorem State.Keeps.commitPut (h : s.Keeps t) {n : ℕ} : s.Keeps (t.commitPut n) :=
  h.storeProfile

theorem State.Keeps.savePut (h : s.Keeps t) {n : ℕ} : s.Keeps (t.savePut n) :=
  h.storeProfile

theorem State.Keeps.commit (h : s.Keeps t) {n : ℕ} : s.Keeps (t.commit n) :=
  h.commitPut.accept.ite h.drawn

theorem State.Keeps.save (h : s.Keeps t) {n : ℕ} : s.Keeps (t.save n) :=
  h.savePut.accept.ite h

theorem State.Keeps.profileStored (h : s.Keeps t) {ok : Bool} : s.Keeps (t.profileStored ok) := by
  unfold State.profileStored
  dsimp only
  split
  · exact h
  · exact h.modFw.modFw.setAct.ite h.modFw.flashFailed.drawn.setAct

theorem State.Keeps.applyPut (h : s.Keeps t) {n : ℕ} : s.Keeps (t.applyPut n) :=
  h.loadProfile_snd

theorem State.Keeps.profileApply (h : s.Keeps t) {n : ℕ} : s.Keeps (t.profileApply n) :=
  h.applyPut.accept.ite h

theorem State.Keeps.stagePut (h : s.Keeps t) {offset : ℕ} {data : Bytes} : s.Keeps (t.stagePut offset data) :=
  h.modFw

theorem State.Keeps.profileStage (h : s.Keeps t) {offset : ℕ} {data : Bytes} : s.Keeps (t.profileStage offset data) :=
  h.stagePut.bumpRev.ite h

theorem State.Keeps.stageClear (h : s.Keeps t) : s.Keeps t.stageClear :=
  h.modFw

/-! ### Resets -/

theorem State.Keeps.resetRegions (h : s.Keeps t) {sources count : ℕ} : s.Keeps (t.resetRegions sources count) :=
  h.trans {
    pending := rfl
    cfg := t.cfg.wf_filter _
    ro := t.ro.wf_filter _
    rev := fun _ => rfl
    act := fun _ => rfl
    otp := .refl _
    isl := fun _ => .empty _
    sessions := fun _ => .nil
    flt := ⟨Within.nil _ _, id, Within.nil _ _, id⟩
    flock := Within.nil _ _
    aon := id
    sec := Within.nil _ _ }

theorem State.Keeps.coreReset (h : s.Keeps t) {source : ℕ} : s.Keeps (t.coreReset source) :=
  h.modStart.ite h.modStart.closePresence.resetRegions

theorem State.Keeps.aonPowerOn (h : s.Keeps t) {vbat : Bool} : s.Keeps (t.aonPowerOn vbat) :=
  (h.resetRegions (sources := 1) (count := 1)).trans { State.Keeps.refl (t.resetRegions 1 1) with
    cfg := fun _ => rfl
    ro := fun _ => rfl
    flt := ⟨id, id, id, id⟩
    aon := Within.nil _ _
    sec := Within.nil _ _ }

theorem State.Keeps.pinReset (h : s.Keeps t) {ns : ℕ} : s.Keeps (t.pinReset ns) :=
  h.ite (h.coreReset.ite (h.drawn.coreReset.ite h.drawn))

theorem State.Keeps.hostReset (h : s.Keeps t) : s.Keeps t.hostReset := by
  unfold State.hostReset
  extract_lets s1
  have h1 : s.Keeps s1 := h.ringsOff.clearRegionRo
  clear_value s1
  exact h1.frame

theorem State.Keeps.pcieReset (h : s.Keeps t) : s.Keeps t.pcieReset :=
  h.ite (h.modStart.coreReset.ite (h.modStart.coreReset.ite h.modStart.hostReset.modStart))

theorem State.Keeps.perstEnd (h : s.Keeps t) : s.Keeps t.perstEnd :=
  h.modStart.wakeSource.ite h

theorem State.Keeps.supFailureReset (h : s.Keeps t) : s.Keeps t.supFailureReset := by
  unfold State.supFailureReset
  split
  · exact h
  · exact h.coreReset.ite h.toMono.coreReset

theorem State.Keeps.trialTimeout (h : s.Keeps t) : s.Keeps t.trialTimeout := by
  unfold State.trialTimeout
  split
  · exact h
  · exact h.toMono.coreReset

theorem State.Keeps.chipResetPut (h : s.Keeps t) : s.Keeps t.chipResetPut :=
  h.coreReset

theorem State.Keeps.chipReset (h : s.Keeps t) {v : ℕ} : s.Keeps (t.chipReset v) :=
  h.chipResetPut.ite h

theorem State.Keeps.activatePut (h : s.Keeps t) {v : ℕ} : s.Keeps (t.activatePut v) :=
  h.fwActivatePut.coreReset.ite h.fwActivatePut

theorem State.Keeps.activate (h : s.Keeps t) {v : ℕ} : s.Keeps (t.activate v) :=
  h.accept.activatePut.ite h

theorem State.Keeps.clockRetryPut (h : s.Keeps t) : s.Keeps t.clockRetryPut :=
  h.setAct.modStart

theorem State.Keeps.clockRetry (h : s.Keeps t) {v : ℕ} : s.Keeps (t.clockRetry v) :=
  h.clockRetryPut.bumpRev.ite h

/-! ### Actions -/

theorem State.Keeps.sessionEndPut (h : s.Keeps t) {id : ℕ} : s.Keeps (t.sessionEndPut id) :=
  h.endSession.setAct

theorem State.Keeps.sessionEnd (h : s.Keeps t) {id : ℕ} : s.Keeps (t.sessionEnd id) :=
  h.sessionEndPut.bumpRev.ite h

theorem State.Keeps.putSys (h : s.Keeps t) {p : WPlan} : s.Keeps (t.putSys p) :=
  h.sessionEndPut.ite (h.bootOverridePut.ite
    ((h.stageClear.stagePut.ite h.stagePut).ite
      (h.stageClear.ite (h.commitPut.ite (h.savePut.ite
        (h.applyPut.ite (h.chipResetPut.ite (h.clockRetryPut.ite
          (h.fwStageBeginPut.ite (h.fwStagePut.ite (h.fwVerifyPut.ite (h.activatePut.ite (h.fwConfirmPut.ite (h.rollbackPut.ite h))))))))))))))

theorem State.Keeps.putSec (h : s.Keeps t) {p : WPlan} : s.Keeps (t.putSec p) :=
  h.tamperClearPut.ite (h.zeroise.ite (h.closePresence.ite (h.rootLoadPut.ite (h.rootErasePut.ite (h.districtPut.ite (h.nextWrapPut.ite h))))))

theorem State.Keeps.restoreElem (h : s.Keeps t) {f : ℕ} {v : List ℤ} : s.Keeps (t.restoreElem f v) :=
  h.restorePut.cfgPut

theorem State.Keeps.putRest (h : s.Keeps t) {p : WPlan} : s.Keeps (t.putRest p) :=
  h.txRearm.ite (h.calRequest.ite (h.lockProgram.ite
    (h.queueDisassoc.ite (h.txnCancel.ite ((h.foldl fun _ h' => h'.restoreElem).ite
      (h.keyWrapPut.ite (h.imageBeginPut.ite (h.imageStagePut.ite
        (h.imageVerifyPut.ite (h.campStartPut.ite
          (h.campStopPut.ite (h.acceptStep.ite (h.hostTime.ite
            (h.cvPeerPut.ite (h.adjust.ite (h.paddockPut.ite (h.releasePut.ite (h.faultClearPut.ite h))))))))))))))))))

theorem State.Keeps.copyPut (h : s.Keeps t) {index : ℕ} {v : Val} : s.Keeps (t.copyPut index v) :=
  h.frame

theorem State.Keeps.settingEffect (h : s.Keeps t) {p : WPlan} : s.Keeps (t.settingEffect p) :=
  h.settingPut.frame.ite h.settingPut

theorem State.Keeps.writePut (h : s.Keeps t) {p : WPlan} : s.Keeps (t.writePut p) := by
  unfold State.writePut
  dsimp only
  refine .ite ?_ ?_
  · exact h.settingEffect
  · split
    · exact (h.cfgPut.ite h).putSys
    · exact (h.cfgPut.ite h).putSec
    · exact (h.cfgPut.ite h).putRest

/-! ### Writes into the islands -/

theorem State.Keeps.modSession (h : s.Keeps t) {id : ℕ} {f : Session → Session}
    (hf : ∀ x, (f x).id = x.id ∧ (f x).auth = x.auth := by exact fun _ => ⟨rfl, rfl⟩) : s.Keeps (t.modSession id f) :=
  h.modLop fun k => k.modify hf

theorem State.Keeps.mbxFree (h : s.Keeps t) {transport : ℕ} : s.Keeps (t.mbxFree transport) :=
  h.modLop.ite h

theorem State.Keeps.mbxAnswer (h : s.Keeps t) {f : Bytes} : s.Keeps (t.mbxAnswer f) :=
  h.modHost.setIrq

theorem State.Keeps.udpAnswer (h : s.Keeps t) {e : Fin 2} {v : Via} {lop1 : Bool} {f : Bytes} : s.Keeps (t.udpAnswer e v lop1 f) :=
  h.ethSend

theorem State.Keeps.rs485Answer (h : s.Keeps t) {n : Fin 4} {lop1 : Bool} {f : Bytes} : s.Keeps (t.rs485Answer n lop1 f) :=
  h.modUart.txKick

theorem State.Keeps.sendOut (h : s.Keeps t) {r : Resp} : s.Keeps (t.sendOut r) := by
  unfold State.sendOut
  dsimp only
  refine .ite ?_ ?_
  · exact h.mbxFree
  · split
    · exact h.mbxFree.mbxAnswer.emit.ite h.mbxFree
    · exact h.mbxFree.udpAnswer.emit.ite h.mbxFree
    · exact h.mbxFree.udpAnswer.emit.ite h.mbxFree
    · exact h.mbxFree.rs485Answer.emit.ite h.mbxFree
    · exact h.mbxFree.rs485Answer.emit.ite h.mbxFree
    · exact h.mbxFree

theorem State.Keeps.send (h : s.Keeps t) {r : Resp} {keep : Bool} : s.Keeps (t.send r keep) := by
  unfold State.send
  dsimp only
  split
  · exact h.sendOut
  · exact h.modSession.sendOut.endSession.ite h.modSession.sendOut

theorem State.Keeps.issueTo (h : s.Keeps t) {w : Inflight} : s.Keeps (t.issueTo w) := by
  unfold State.issueTo
  split_ifs with hw
  · exact h.modIsl fun k => k.hold hw.1
  · exact h.modIsl fun k => k.issue fun e => not_le.1 fun hn => hw ⟨e, .inl hn⟩

theorem State.Keeps.issue (h : s.Keeps t) {who key : ℕ} {p : WPlan} : s.Keeps (t.issue who key p) :=
  h.bumpRev.ite (h.bumpRev.issueTo.issueTo.ite h.bumpRev.issueTo)

theorem State.Keeps.bar0Effect (h : s.Keeps t) {offset v : ℕ} : s.Keeps (t.bar0Effect offset v) :=
  h.modAon.ite (h.rtcCtrl.ite (h.modAon.ite (h.rtcSetDate.ite (h.modAon.ite (h.rtcAlarmDate.ite (h.modHost.ite (h.modHost.ite h)))))))

theorem State.Keeps.takeEffect (h : s.Keeps t) {w : Inflight} : s.Keeps (t.takeEffect w) := by
  unfold State.takeEffect
  refine .ite ?_ ?_
  · exact h.bar0Effect
  · refine .ite ?_ ?_
    · exact h.copyPut
    · refine .ite ?_ ?_
      · exact h.setAct
      · split
        · exact h.writePut
        · exact h

theorem State.Keeps.sendWaiting (h : s.Keeps t) {r : RespWait} : s.Keeps (t.sendWaiting r) := by
  unfold State.sendWaiting
  dsimp only
  split
  · exact h.modIsl.send.endSession
  · exact h.modIsl.send

theorem State.Keeps.fenceEnd (h : s.Keeps t) {f : FenceWait} : s.Keeps (t.fenceEnd f) :=
  h.modIsl.emit

theorem State.Keeps.release (h : s.Keeps t) : s.Keeps t.release :=
  (h.foldl fun _ h' => h'.sendWaiting).foldl fun _ h' => h'.fenceEnd

theorem State.Keeps.complete (h : s.Keeps t) {i : ℕ} : s.Keeps (t.complete i) := by
  unfold State.complete
  split
  · exact h
  · exact h.ite (h.modIsl fun k => k.erase).takeEffect.settled.release

theorem State.Keeps.admitAon (h : s.Keeps t) : s.Keeps t.admitAon := by
  unfold State.admitAon
  split
  · exact h
  next w ws e =>
    split_ifs with hn
    · exact h
    · exact h.modIsl fun k => k.enter e (not_le.1 hn)

theorem State.Keeps.drainWrites (h : s.Keeps t) {n : ℕ} : s.Keeps (State.drainWrites n t) := by
  induction n generalizing t with
  | zero => exact h
  | succ n ih => exact h.ite ((h.release.ite (ih h.admitAon)).ite (ih h.complete))

theorem State.Keeps.drained (h : s.Keeps t) : s.Keeps t.drained :=
  h.drainWrites

theorem State.Keeps.fence (h : s.Keeps t) {who : ℕ} : s.Keeps (t.fence who) :=
  h.ite h.bumpRev.modIsl.release

theorem State.Keeps.bar0Fence (h : s.Keeps t) : s.Keeps t.bar0Fence :=
  h.modIsl.release.ite h

theorem State.Keeps.bar0Issue (h : s.Keeps t) {island offset v : ℕ} : s.Keeps (t.bar0Issue island offset v) :=
  h.issueTo

theorem State.Keeps.rtcWrite (h : s.Keeps t) {offset v : ℕ} : s.Keeps (t.rtcWrite offset v) :=
  h.bar0Issue.ite h

theorem State.Keeps.bar0Sync (h : s.Keeps t) {island n : ℕ} : s.Keeps (State.bar0Sync island n t) := by
  induction n generalizing t with
  | zero => exact h
  | succ n ih =>
    unfold State.bar0Sync
    refine h.ite ?_
    split
    · exact ih h.complete
    · split
      · exact ih h.complete.admitAon
      · exact ih h.admitAon

theorem State.Keeps.bar0Access (h : s.Keeps t) {island : ℕ} {f : State → State} (hf : ∀ {u}, s.Keeps u → s.Keeps (f u)) : s.Keeps
    (t.bar0Access island f) :=
  (hf h.bar0Sync).ite h

/-! ### Sessions and requests -/

theorem State.Keeps.afterItem (h : s.Keeps t) {p : WPlan} : s.Keeps (t.afterItem p) :=
  h.bumpRev.ite ((h.bumpRev.foldl fun _ h' => h'.setTarget).ite (h.bumpRev.cfgPut.ite h.bumpRev))

theorem State.Keeps.countTargets (h : s.Keeps t) {o : State} {w : WItem} : s.Keeps (t.countTargets o w) := by
  unfold State.countTargets
  split
  · split
    · split
      · exact h.countRefusal
      · exact h
    · exact h
  · exact h

theorem State.Keeps.runRead (h : s.Keeps t) {q : LopReq} {items : List RItem} : s.Keeps (t.runRead q items) := by
  unfold State.runRead
  extract_lets r
  have hr : s.Keeps r.2 := State.Keeps.foldl_snd h fun h' => h'.readItem_snd
  exact h.send.ite hr.send

theorem State.Keeps.runInfo (h : s.Keeps t) {q : LopReq} {items : List RItem} : s.Keeps (t.runInfo q items) :=
  h.send.ite h.send

theorem State.Keeps.writeFailed (h : s.Keeps t) {q : LopReq} {items : List WItem} {n code : ℕ} {o : State} : s.Keeps
    (t.writeFailed q items n code o) := by
  unfold State.writeFailed
  dsimp only
  refine .send ?_
  split
  · exact h.countTargets.ite h
  · exact h

theorem State.Keeps.writePassed (h : s.Keeps t) {q : LopReq} {items : List WItem} {ps : List (WPlan × ℕ)} : s.Keeps (t.writePassed q items ps) :=
  (h.modIsl.foldl fun _ h' => h'.issue).release

theorem State.Keeps.runWrite (h : s.Keeps t) {x : Session} {q : LopReq} {items : List WItem} : s.Keeps (t.runWrite x q items) := by
  unfold State.runWrite
  split
  · exact h.drawn.writeFailed
  · exact h.drawn.writePassed

theorem State.Keeps.inSession (h : s.Keeps t) {q : LopReq} {opcode : ℕ} {run : Option (State → Session → State)}
    (hf : ∀ f ∈ run, ∀ x, s.Keeps (f t x)) : s.Keeps (t.inSession q opcode run) := by
  unfold State.inSession
  split
  · exact h.mbxFree
  · split
    · exact h.send
    · split
      · exact hf _ rfl _
      · exact h.count.send

theorem State.openCheck_zero {role : Nat} (h : t.openCheck role = 0) : t.pendingCount < 4 ∧ t.authCount < 8 := by
  unfold State.openCheck freeError at h
  split_ifs at h <;> omega

theorem State.Keeps.runOpen (h : s.Keeps t) {q : LopReq} : s.Keeps (t.runOpen q) := by
  unfold State.runOpen
  extract_lets role c s1 id s2 nonce s3
  have h3 : s.Keeps s3 := h.drawn.drawn.drawn
  split
  next hc =>
    refine (h3.modLop fun (k : SessionsOk t.lop.sessions) => ?_).sendOut
    have hlen : (t.lop.sessions.map fun x => x.id).length ≤ 13 := (List.length_map _).trans_le (k.length_le.trans (by decide))
    exact k.open rfl (freshId_pos _ _ (Nat.succ_pos _)).ne' (freshId_fresh (Nat.succ_pos _) (by omega) (by decide) hlen)
      (State.openCheck_zero hc).1
  next => exact (h3.count.ite h3).sendOut

theorem State.Keeps.authenticate (h : s.Keeps t) {q : LopReq} {x : Session} {k : ℕ} (hc : ¬ 8 ≤ t.authCount) :
    s.Keeps (t.authenticate q x k) := by
  unfold State.authenticate
  extract_lets key s1
  have h1 : s.Keeps s1 := h.modLop fun k => k.authenticate (fun _ => ⟨rfl, rfl⟩) (not_le.1 hc)
  exact h1.writeSlot.send

theorem State.Keeps.authBusy (h : s.Keeps t) {q : LopReq} {x : Session} : s.Keeps (t.authBusy q x) :=
  h.count.endSession.mbxFree

theorem State.Keeps.runAuth (h : s.Keeps t) {q : LopReq} : s.Keeps (t.runAuth q) := by
  unfold State.runAuth
  split
  · exact h.mbxFree
  · split_ifs with _ _ _ hc
    · exact h.send
    · exact h.count.mbxFree
    · exact h.count.endSession.mbxFree
    · exact h.authBusy
    · split
      · exact h.authenticate hc
      · exact h.authBusy

theorem State.Keeps.runClose (h : s.Keeps t) {q : LopReq} : s.Keeps (t.runClose q) :=
  h.mbxFree.ite h.send.endSession

theorem State.Keeps.lop1ReadOf (h : s.Keeps t) {v : Via} {index : ℕ} {r : RespItem × State} {o : Option ObjInfo} (hr : s.Keeps r.2) :
    s.Keeps (t.lop1ReadOf v index r o) := by
  unfold State.lop1ReadOf
  split
  · exact h.sendOut
  · exact h.sendOut.ite (h.sendOut.ite hr.sendOut)

theorem State.Keeps.runLop1Read (h : s.Keeps t) {v : Via} {index : ℕ} : s.Keeps (t.runLop1Read v index) :=
  h.lop1ReadOf h.readItem_snd

theorem State.Keeps.lop1Issue (h : s.Keeps t) {v : Via} {index : ℕ} {p : WPlan} : s.Keeps (t.lop1Issue v index p) :=
  h.modIsl.issue.release

theorem State.Keeps.lop1WriteOf (h : s.Keeps t) {v : Via} {index : ℕ} {value : Bytes} {a : Option ObjInfo} : s.Keeps (t.lop1WriteOf v index value a)
    := by
  unfold State.lop1WriteOf
  split
  · exact h.sendOut
  · refine .ite ?_ ?_
    · exact h.sendOut
    · split
      · exact h.sendOut
      · exact h.sendOut.ite h.lop1Issue

theorem State.Keeps.runLop1Write (h : s.Keeps t) {v : Via} {index : ℕ} {value : Bytes} : s.Keeps (t.runLop1Write v index value) :=
  h.lop1WriteOf

theorem State.Keeps.execute (h : s.Keeps t) {q : LopReq} : s.Keeps (t.execute q) := by
  unfold State.execute
  split
  · refine h.inSession fun f hf x => ?_
    obtain ⟨is, -, rfl⟩ := Option.map_eq_some_iff.1 hf
    exact h.runRead
  · refine h.inSession fun f hf x => ?_
    obtain ⟨is, -, rfl⟩ := Option.map_eq_some_iff.1 hf
    exact h.runWrite
  · refine h.inSession fun f hf x => ?_
    obtain ⟨is, -, rfl⟩ := Option.map_eq_some_iff.1 hf
    exact h.runInfo
  · exact h.runOpen
  · exact h.runAuth
  · exact h.runClose
  · exact h.runLop1Read
  · exact h.runLop1Write
  · exact h.mbxFree

theorem State.Keeps.busyReply (h : s.Keeps t) {q : LopReq} : s.Keeps (t.busyReply q) := by
  unfold State.busyReply
  dsimp only
  have h1 := h.count (index := Obj.LOREF_BUSY) (e := 0) (f := 0) (by_ := 1)
  split
  · exact h1.mbxFree.ite h1.send
  · exact h1.mbxFree.ite h1.send
  · exact h1.mbxFree.ite h1.send
  · exact h1.sendOut
  · exact h1.mbxFree.ite h1.send
  · exact h1.mbxFree.ite h1.send
  · exact h1.sendOut
  · exact h1.sendOut
  · exact h1.mbxFree

theorem State.Keeps.enqueue (h : s.Keeps t) {q : LopReq} : s.Keeps (t.enqueue q) :=
  h.drained.execute.ite h.modLop

theorem State.Keeps.serveWaiting (h : s.Keeps t) : s.Keeps t.serveWaiting :=
  (h.modLop.foldl fun _ h' => h'.busyReply.ite (h'.drained.execute)).ite h

theorem State.Keeps.waitTimeout (h : s.Keeps t) {i : ℕ} : s.Keeps (t.waitTimeout i) := by
  unfold State.waitTimeout
  split
  · exact h
  · exact h.toMono.modLop.busyReply

theorem State.Keeps.engineRuns (h : s.Keeps t) {n : Fin 8} : s.Keeps (t.engineRuns n) :=
  h.frame.serveWaiting.ite h

theorem State.Keeps.refuse (h : s.Keeps t) {v : Via} {counter : ℕ} : s.Keeps (t.refuse v counter) :=
  h.count.mbxFree

theorem State.Keeps.takeIn (h : s.Keeps t) {v : Via} {h' text tag : Bytes} : s.Keeps (t.takeIn v h' text tag) := by
  unfold State.takeIn
  dsimp only
  refine .ite ?_ ?_
  · exact h.refuse
  · split
    · exact h.refuse
    · exact h.refuse.ite ((h.refuse.endSession.ite h.refuse.modSession).ite (h.refuse.ite h.modSession.enqueue))

theorem State.Keeps.lop2Frame (h : s.Keeps t) {v : Via} {b : Bytes} : s.Keeps (t.lop2Frame v b) :=
  h.refuse.ite ((h.refuse.ite h.enqueue).ite (h.takeIn.ite h.refuse))

theorem State.Keeps.lop1Frame (h : s.Keeps t) {v : Via} {b : Bytes} : s.Keeps (t.lop1Frame v b) :=
  h.mbxFree.ite (h.refuse.ite (h.mbxFree.ite (h.enqueue.ite (h.enqueue.ite h.refuse))))

theorem State.Keeps.arrive (h : s.Keeps t) {v : Via} {b : Bytes} : s.Keeps (t.arrive v b) :=
  h.refuse.ite (h.lop2Frame.ite (h.lop1Frame.ite h.refuse))

theorem State.Keeps.mailbox (h : s.Keeps t) {length : ℕ} {area : Bytes} : s.Keeps (t.mailbox length area) :=
  h.modHost.ite (h.modHost.count.ite h.modHost.modLop.modHost.arrive)

theorem State.Keeps.udpFrame (h : s.Keeps t) {e : Fin 2} {v6 frag : Bool} {addr source port : ℕ} {data : Bytes} : s.Keeps
    (t.udpFrame e v6 frag addr source port data) :=
  h.ite ((h.arrive.ite h.refuse).ite ((h.arrive.ite h.refuse).ite h))

theorem State.Keeps.setRs485 (h : s.Keeps t) {n : Fin 2} {x : Option Bytes} : s.Keeps (t.setRs485 n x) :=
  h.modLop

theorem State.Keeps.rs485Whole (h : s.Keeps t) {n : Fin 2} {b : Bytes} : s.Keeps (t.rs485Whole n b) :=
  (h.arrive.ite h.count).ite h.arrive

theorem State.Keeps.rs485Octet (h : s.Keeps t) {n : Fin 2} {b : Bytes} : s.Keeps (t.rs485Octet n b) := by
  unfold State.rs485Octet
  dsimp only
  refine .ite ?_ ?_
  · exact h.setRs485.count
  · split
    · exact h.setRs485
    · exact h.setRs485.count.ite (h.setRs485.ite h.setRs485.rs485Whole)

theorem State.Keeps.rs485Char (h : s.Keeps t) {n : Fin 2} {e : ℕ} {gap : Bool} : s.Keeps (t.rs485Char n e gap) := by
  unfold State.rs485Char
  dsimp only
  refine .ite ?_ ?_
  · exact h.setRs485
  · split
    · exact h
    · exact h.setRs485.count.ite h.rs485Octet

theorem State.Keeps.rxTake (h : s.Keeps t) {n : Fin 4} {e : ℕ} {gap : Bool} : s.Keeps (t.rxTake n e gap) :=
  h.countEntry.rs485Char.ite h.countEntry.rxPush

theorem State.Keeps.rs485Transfer (h : s.Keeps t) {n : Fin 2} {chars : List ℕ} : s.Keeps (t.rs485Transfer n chars) :=
  h.ite (h.modUart.foldl fun _ h' => h'.rxTake)

theorem State.Keeps.rs485Gap (h : s.Keeps t) {n : Fin 2} : s.Keeps (t.rs485Gap n) :=
  h.setRs485.count.ite h

theorem State.Keeps.uartChar (h : s.Keeps t) {n : Fin 4} {line : List Bool} {gap : Bool} : s.Keeps (t.uartChar n line gap) := by
  unfold State.uartChar
  refine .ite ?_ ?_
  · exact h.slowChar.ite h
  · refine .ite ?_ ?_
    · exact h
    · split
      · exact h
      · exact h.count
      · exact h.rxEnds.rxTake

theorem State.Keeps.wakeDrain (h : s.Keeps t) : s.Keeps t.wakeDrain :=
  (h.frame.ite h.frame.count).ite (h.frame.foldl fun _ h' => h'.rxTake)

theorem State.Keeps.woke (h : s.Keeps t) : s.Keeps t.woke :=
  h.wakeDrain.ite h

theorem State.Keeps.transfer (h : s.Keeps t) {v : Via} {b : Bytes} : s.Keeps (t.transfer v b) := by
  unfold State.transfer
  dsimp only
  split
  · exact h.bar0Access (fun h' => h'.mailbox)
  · exact h.udpFrame
  · exact h.udpFrame
  · exact h.rs485Transfer
  · exact h.rs485Transfer
  · exact h

theorem State.Keeps.bar0Act (h : s.Keeps t) {offset v : ℕ} : s.Keeps (t.bar0Act offset v) :=
  (h.bar0Access (fun h' => h'.mailbox)).ite
    ((h.bar0Access (fun h' => h'.irqClear)).ite
      ((h.bar0Access (fun h' => h'.tsCapture)).ite
        (((h.bar0Access (fun h' => h'.doorbell)).ite ((h.bar0Access (fun h' => h'.doorbell)).ite h)).ite h)))

theorem State.Keeps.bar0Write (h : s.Keeps t) {offset width v : ℕ} : s.Keeps (t.bar0Write offset width v) :=
  h.ite (h.count.ite (h.bar0Issue.ite (h.bar0Issue.ite h.bar0Act.settled)))

theorem State.Keeps.bar0Read_snd (h : s.Keeps t) {offset width : ℕ} : s.Keeps (t.bar0Read offset width).2 := by
  unfold State.bar0Read
  split_ifs
  · exact h
  · exact h.count
  · exact h

theorem State.Keeps.pendingTimeout (h : s.Keeps t) {id : ℕ} : s.Keeps (t.pendingTimeout id) := by
  unfold State.pendingTimeout
  split
  · exact h
  · exact h.ite h.toMono.endSession

theorem State.Keeps.idleExpiry (h : s.Keeps t) {id : ℕ} : s.Keeps (t.idleExpiry id) := by
  unfold State.idleExpiry
  split
  · exact h
  · exact h.toMono.endSession

/-! ### Start-up -/

theorem State.Keeps.recovery (h : s.Keeps t) : s.Keeps t.recovery :=
  (h.foldl fun _ h' => h'.cutDomain.ite h').frame.modStart.restoreRoots.serveWaiting

theorem State.Keeps.otpFault (h : s.Keeps t) {bad : Bool} {field : ℕ} : s.Keeps (t.otpFault bad field) :=
  h.raise.startFlag.ite h

theorem State.Keeps.bootSteps (h : s.Keeps t) {jedec : Option (ℕ × ℕ)} : s.Keeps (t.bootSteps jedec) := by
  unfold State.bootSteps
  dsimp only
  refine .ite ?_ ?_
  · exact h.otpFault.otpFault.otpFault.recovery
  · split
    · exact h.otpFault.otpFault.otpFault.frame.raise.recovery
    · exact (h.otpFault.otpFault.otpFault.frame.raise.ite h.otpFault.otpFault.otpFault.frame).modStart

theorem State.Keeps.resetRelease (h : s.Keeps t) {pins refSel : ℕ} : s.Keeps (t.resetRelease pins refSel) :=
  h.modStart.aonDrain

theorem State.Keeps.sysBoot (h : s.Keeps t) : s.Keeps t.sysBoot := by
  unfold State.sysBoot
  extract_lets t0 _ s1
  have h0 : s.Keeps { t0 with fw := { t0.fw with trialEnd := none } } := h.modStart.frame
  have h1 : s.Keeps s1 := h0.filterCfg
  clear_value s1
  exact h1.foldl fun _ h' => h'.setTarget.ite h'.setTarget.modDom.domainUp

theorem State.Keeps.startup (h : s.Keeps t) {pins refSel : ℕ} {jedec : Option (ℕ × ℕ)} : s.Keeps (t.startup pins refSel jedec) :=
  (h.ite h.resetRelease.bootSteps).ite (h.sysBoot.bootSteps.ite h)

theorem State.Keeps.reloadRecords (h : s.Keeps t) : s.Keeps t.reloadRecords :=
  h.modFlt ⟨id, id, Within.take _ _ _, id⟩

theorem State.Keeps.enginesStart (h : s.Keeps t) {failed : ℕ} : s.Keeps (t.enginesStart failed) :=
  h.frame.foldl fun _ h' => h'.watchdog.ite h'

theorem State.Keeps.profileStep (h : s.Keeps t) : s.Keeps t.profileStep := by
  unfold State.profileStep
  exact (h.modStart.loadProfile_snd.ite h.modStart.loadProfile_snd.startFlag).wakeDrain.serveWaiting

theorem State.Keeps.trainStart (h : s.Keeps t) : s.Keeps t.trainStart :=
  h.frame

theorem State.Keeps.qualified (h : s.Keeps t) {ok : Bool} {badRead failed : ℕ} : s.Keeps (t.qualified ok badRead failed) := by
  unfold State.qualified
  extract_lets s1 s2 r s3 s4 s5
  have h2 : s.Keeps s2 := h.modStart.clockOn.ite h.modStart.lastFail.raise.startFlag.startFlag
  have hr : s.Keeps r.2 := h2.selectBundle_snd
  have h5 : s.Keeps s5 := (hr.modStart.foldl fun _ h' => h'.checkBank).enginesStart.restoreRoots.reloadRecords
  exact hr.recovery.ite (h5.trainStart.ite h5.profileStep)

theorem State.Keeps.retried (h : s.Keeps t) {ok : Bool} : s.Keeps (t.retried ok) :=
  h.modStart.setAct.ite ((h.modStart.clockOn.ite h.modStart).setAct.trainStart.ite ((h.modStart.clockOn.ite h.modStart).setAct))

theorem State.Keeps.refQualEnd (h : s.Keeps t) {counts : List ℕ} {badRead failed : ℕ} : s.Keeps (t.refQualEnd counts badRead failed) := by
  unfold State.refQualEnd
  dsimp only
  split
  · exact h.toMono.qualified
  · exact h.toMono.retried
  · exact h

theorem State.Keeps.afterTraining (h : s.Keeps t) : s.Keeps t.afterTraining :=
  h.profileStep.ite h

theorem State.Keeps.ddrEnd (h : s.Keeps t) {ok : Bool} {size ranks : ℕ} : s.Keeps (t.ddrEnd ok size ranks) :=
  h.ite (h.frame.afterTraining.ite (h.modStart.ite ((h.frame.raise.startFlag.ite h.frame.raise).afterTraining)))

theorem State.Keeps.startDone (h : s.Keeps t) : s.Keeps t.startDone :=
  h.ite (h.modStart.raise.setIrq.modFw.ite h.modStart.raise.setIrq)

/-! ### The idle step -/

theorem State.Keeps.idle (h : s.Keeps t) : s.Keeps t.idle :=
  h.tick.startCals.grants.releases.woke

theorem State.Keeps.doorbellRung (h : s.Keeps t) {b : Bytes} : s.Keeps (t.doorbellRung b) :=
  h.frame

theorem State.Keeps.accepted (h : s.Keeps t) {op : ℕ} {f : SecFrame} : s.Keeps (t.accepted op f) :=
  h.doorbellRung.modSession

theorem State.Keeps.stepOwn (h : s.Keeps t) {e : ℤ} : s.Keeps (t.stepOwn e) :=
  h.modBase

theorem State.Keeps.stepMaster (h : s.Keeps t) {e : ℤ} {k : Fin 2} : s.Keeps (t.stepMaster e k) :=
  h.modBase.ite h

theorem State.Keeps.stepBases (h : s.Keeps t) {e : ℤ} : s.Keeps (t.stepBases e) :=
  h.stepOwn.stepMaster.stepMaster

theorem State.Keeps.closeStep (h : s.Keeps t) {now : HalfNs} : s.Keeps (t.closeStep now) :=
  h.modTime

end

/-! ### Every command, and the step -/

/-- Every command is answered, by a state that keeps what the state before it held. -/
theorem exec_keeps (c : Instr) (s : State) : ∃ t, exec c s = .next t ∧ s.Keeps t := by
  have h := State.Keeps.refl s
  cases c with
  | requestPromotion => exact ⟨_, rfl, h.promote⟩
  | errorDetected => exact ⟨_, rfl, h.errorDetected.settled⟩
  | containmentEscalation => exact ⟨_, rfl, h.escalate.settled⟩
  | engineWatchdogExpiry => exact ⟨_, rfl, h.ite h.watchdog.settled⟩
  | supWatchdogExpiry => exact ⟨_, rfl, h.watchdog⟩
  | engineRestartDone => exact ⟨_, rfl, h.engineRuns⟩
  | islandWriteComplete => exact ⟨_, rfl, h.complete⟩
  | aonWriteAdmitted => exact ⟨_, rfl, h.admitAon⟩
  | fence => exact ⟨_, rfl, h.fence⟩
  | bar0FenceRead => exact ⟨_, rfl, h.bar0Fence⟩
  | read => exact ⟨_, rfl, h.transfer⟩
  | write => exact ⟨_, rfl, h.transfer⟩
  | info => exact ⟨_, rfl, h.transfer⟩
  | openSession => exact ⟨_, rfl, h.transfer⟩
  | auth => exact ⟨_, rfl, h.transfer⟩
  | close => exact ⟨_, rfl, h.transfer⟩
  | pendingSessionTimeout => exact ⟨_, rfl, h.pendingTimeout⟩
  | sessionIdleExpiry => exact ⟨_, rfl, h.idleExpiry⟩
  | requestWaitTimeout => exact ⟨_, rfl, h.waitTimeout⟩
  | lop1Read => exact ⟨_, rfl, h.transfer⟩
  | lop1Write => exact ⟨_, rfl, h.transfer⟩
  | mbxDoorbell => exact ⟨_, rfl, h.bar0Access (fun h' => (h').mailbox)⟩
  | lorefUdpDatagram => exact ⟨_, rfl, h.udpFrame⟩
  | rs485Transfer => exact ⟨_, rfl, h.rs485Transfer⟩
  | rs485GapTimeout => exact ⟨_, rfl, h.rs485Gap⟩
  | profileApply => exact ⟨_, rfl, h.profileApply⟩
  | profileCommit => exact ⟨_, rfl, h.commit⟩
  | profileSave => exact ⟨_, rfl, h.save⟩
  | profileStoreDone => exact ⟨_, rfl, h.profileStored⟩
  | profileStage => exact ⟨_, rfl, h.profileStage⟩
  | profileStageClear => exact ⟨_, rfl, h.stageClear.bumpRev⟩
  | profileBootOverride => exact ⟨_, rfl, h.bootOverride⟩
  | sessionEnd => exact ⟨_, rfl, h.sessionEnd⟩
  | aonPowerOn => exact ⟨_, rfl, h.aonPowerOn⟩
  | corePowerOn => exact ⟨_, rfl, h.coreReset⟩
  | coreBrownOut => exact ⟨_, rfl, h.coreReset⟩
  | pinReset => exact ⟨_, rfl, h.pinReset⟩
  | pcieReset => exact ⟨_, rfl, h.pcieReset⟩
  | chipReset => exact ⟨_, rfl, h.chipReset⟩
  | thermalReset => exact ⟨_, rfl, h.coreReset.modStart⟩
  | thermalResetRelease => exact ⟨_, rfl, h.modStart⟩
  | supFailureReset => exact ⟨_, rfl, h.supFailureReset⟩
  | trialTimeout => exact ⟨_, rfl, h.trialTimeout⟩
  | startupSequence => exact ⟨_, rfl, h.startup.settled⟩
  | refQualificationEnd => exact ⟨_, rfl, h.refQualEnd.settled⟩
  | ddrTrainingAttemptEnd => exact ⟨_, rfl, h.ddrEnd.settled⟩
  | startDone => exact ⟨_, rfl, h.startDone.settled⟩
  | clockRetry => exact ⟨_, rfl, h.clockRetry⟩
  | pcieConfigRequest => exact ⟨_, rfl, h.pcieConfig⟩
  | fwStageBegin => exact ⟨_, rfl, h.fwStageBegin⟩
  | fwStage => exact ⟨_, rfl, h.fwStage⟩
  | fwVerify => exact ⟨_, rfl, h.fwVerify⟩
  | fwActivate => exact ⟨_, rfl, h.activate⟩
  | fwConfirm => exact ⟨_, rfl, h.fwConfirm⟩
  | rollbackAdvance => exact ⟨_, rfl, h.rollback⟩
  | flashActionDone => exact ⟨_, rfl, h.flashAction⟩
  | txCommand => exact ⟨_, rfl, h.txCommand.settled⟩
  | txAbort p handle =>
    refine ⟨_, rfl, h.ite ?_⟩
    cases handle with
    | none => exact h.cutTx.settled
    | some _ => exact h.cutTx.settled.ite h.abortPending.settled
  | rxOn => exact ⟨_, rfl, h.rxOn⟩
  | rxOff => exact ⟨_, rfl, h.rxOff⟩
  | tune => exact ⟨_, rfl, h.cfgPut.bumpRev.tune.settled.ite h⟩
  | calRequest => exact ⟨_, rfl, h.calRequest.settled.bumpRev⟩
  | txDue => exact ⟨_, rfl, h.txDue.settled⟩
  | txDeadline => exact ⟨_, rfl, h.txDeadline.settled⟩
  | txSetupStart => exact ⟨_, rfl, h.setupStart.settled⟩
  | txStart => exact ⟨_, rfl, h.txStart.settled⟩
  | txEnd => exact ⟨_, rfl, h.txEnd.settled⟩
  | turnRxEnd => exact ⟨_, rfl, h.turnRxEnd.settled⟩
  | lockAchieved => exact ⟨_, rfl, h.lockAchieved.settled⟩
  | lockTimeout => exact ⟨_, rfl, h.lockTimeout.settled⟩
  | synthLockLoss => exact ⟨_, rfl, h.cutTx.settled.ite h⟩
  | calStepEnd => exact ⟨_, rfl, h.calStepEnd.settled⟩
  | txTimeout => exact ⟨_, rfl, h.txTimeout.settled⟩
  | rfTxRearm => exact ⟨_, rfl, h.txRearm.bumpRev.ite h⟩
  | dieTempMeasurement => exact ⟨_, rfl, h.dieTempMeasured⟩
  | regLockProgram => exact ⟨_, rfl, h.lockProgram.accept.ite h⟩
  | frameReceived => exact ⟨_, rfl, h.frameReceived⟩
  | legacyFrameReceived => exact ⟨_, rfl, h.legacyReceived⟩
  | superframeEdge => exact ⟨_, rfl, h.superframeEdge.settled⟩
  | nbrBeaconWindowEnd => exact ⟨_, rfl, h.nbrWindowEnd⟩
  | nbrSupervisionExpiry => exact ⟨_, rfl, h.nbrExpiry⟩
  | neighbourBeacon => exact ⟨_, rfl, h.neighbourBeacon⟩
  | listenWindowEnd => exact ⟨_, rfl, h.listenEnd.settled⟩
  | assocReq => exact ⟨_, rfl, h.assocReq.settled⟩
  | disassoc => exact ⟨_, rfl, h.disassoc.settled⟩
  | chmapAck => exact ⟨_, rfl, h.chmapAck.settled⟩
  | hostDataFrame => exact ⟨_, rfl, h.hostData.settled⟩
  | keepAlive => exact ⟨_, rfl, h.keepAlive.settled⟩
  | alertResponse => exact ⟨_, rfl, h.alertResponse.settled⟩
  | ackReceived => exact ⟨_, rfl, h.ackReceived.settled⟩
  | replyWindowEnd => exact ⟨_, rfl, h.replyWindowEnd.settled⟩
  | linkSupervisionTimeout => exact ⟨_, rfl, h.supervisionEnd.settled⟩
  | linkRemove => exact ⟨_, rfl, h.queueDisassoc.bumpRev.settled.ite h⟩
  | meshChmapWrite => exact ⟨_, rfl, h.chmapWrite⟩
  | txnBooking => exact ⟨_, rfl, h.txnBook.settled⟩
  | txnDeadline => exact ⟨_, rfl, h.txnDeadline.settled⟩
  | linkTxnCancel => exact ⟨_, rfl, h.txnCancel.bumpRev.settled.ite h⟩
  | dutyBucketRoll => exact ⟨_, rfl, h.dutyRoll⟩
  | flockCfgWrite => exact ⟨_, rfl, h.flockCfgWrite⟩
  | flockRestore => exact ⟨_, rfl, h.flockRestore.settled⟩
  | flockPrefetch => exact ⟨_, rfl, h.prefetch⟩
  | flockFetchDone => exact ⟨_, rfl, h.fetchDone⟩
  | flockFetchLate => exact ⟨_, rfl, h.fetchLate⟩
  | flockKeyWrap => exact ⟨_, rfl, h.keyWrap⟩
  | delivery => exact ⟨_, rfl, h.delivery.settled⟩
  | heldRequestDeadline => exact ⟨_, rfl, h.heldDeadline⟩
  | chorusAttempt => exact ⟨_, rfl, h.chorusAttempt.settled⟩
  | flImageBegin => exact ⟨_, rfl, h.imageBegin⟩
  | flImageStage => exact ⟨_, rfl, h.imageStage⟩
  | flImageVerify => exact ⟨_, rfl, h.imageVerify⟩
  | flCampaignStart => exact ⟨_, rfl, h.campStart.settled⟩
  | flCampaignStop => exact ⟨_, rfl, h.campStop.settled⟩
  | campaignBlock => exact ⟨_, rfl, h.campBlock.settled⟩
  | gnEnableWrite => exact ⟨_, rfl, h.gnEnable⟩
  | grfCalItemEnd => exact ⟨_, rfl, h.grfCal⟩
  | agcUpdate => exact ⟨_, rfl, h.agcUpdate⟩
  | antBiasMeasurement => exact ⟨_, rfl, h.antBias⟩
  | antRetryExpiry => exact ⟨_, rfl, h.antRetry⟩
  | notchEvaluation => exact ⟨_, rfl, h.notchEval⟩
  | blankIntervalEnd => exact ⟨_, rfl, h.blankEnd⟩
  | jamIndicatorUpdate => exact ⟨_, rfl, h.jamUpdate⟩
  | nimbusInterval => exact ⟨_, rfl, h.nimbusInterval⟩
  | acqJobDone => exact ⟨_, rfl, h.acqDone⟩
  | nimbAutoOff => exact ⟨_, rfl, h.nimbAutoOff⟩
  | channelRelease => exact ⟨_, rfl, h.chanRelease⟩
  | reacqExpiry => exact ⟨_, rfl, h.reacqExpiry⟩
  | loopOpenTimeout => exact ⟨_, rfl, h.loopOpen⟩
  | ephemerisDecoded => exact ⟨_, rfl, h.ephDecoded⟩
  | measurementEpoch => exact ⟨_, rfl, h.epoch⟩
  | hotstartSave => exact ⟨_, rfl, h.hotSave⟩
  | snapshotFragment => exact ⟨_, rfl, h.snapFragment.settled⟩
  | fragTimeout => exact ⟨_, rfl, h.fragTimeout⟩
  | nimbusJobStart => exact ⟨_, rfl, h.nimbusStart⟩
  | snapshotDeadline => exact ⟨_, rfl, h.snapDeadline⟩
  | nimbusJobDone => exact ⟨_, rfl, h.nimbusDone⟩
  | snapshotSolution => exact ⟨_, rfl, h.snapSolution⟩
  | snEnableWrite => exact ⟨_, rfl, h.snEnable⟩
  | ptpSync => exact ⟨_, rfl, h.ptpSync⟩
  | ptpAnnounce => exact ⟨_, rfl, h.ptpAnnounce⟩
  | ptpDelayReq => exact ⟨_, rfl, h.ptpDelayReq⟩
  | ptpDelayResp => exact ⟨_, rfl, h.ptpDelayResp⟩
  | ptpMessageTransmit => exact ⟨_, rfl, h.ptpTransmit⟩
  | announceReceiptTimeout => exact ⟨_, rfl, h.announceTimeout⟩
  | stepPendingEnd => exact ⟨_, rfl, h.stepPendingEnd⟩
  | pcsLatencyMeasured => exact ⟨_, rfl, h.pcsMeasured.ite h⟩
  | bellwetherTick => exact ⟨_, rfl, h.bellwether⟩
  | sourceDisqualified => exact ⟨_, rfl, h.disqualified⟩
  | tbGnssStep => exact ⟨_, rfl, h.gnssStep⟩
  | steppedClear => exact ⟨_, rfl, h.steppedClear⟩
  | tmHostTime => exact ⟨_, rfl, h.hostTime.accept.ite h⟩
  | tmAcceptStep => exact ⟨_, rfl, h.acceptStep⟩
  | tmCvPeer => exact ⟨_, rfl, h.ite h.cvPeerPut.bumpRev⟩
  | timePulseEdge => exact ⟨_, rfl, h.pulseEdge⟩
  | timePulseEnd => exact ⟨_, rfl, h.pulseEnd⟩
  | timeAnchorWrite => exact ⟨_, rfl, h.anchorWrite⟩
  | tsCapture => exact ⟨_, rfl, h.bar0Access (fun h' => (h').tsCapture)⟩
  | slowClockLoss => exact ⟨_, rfl, h.slowLoss⟩
  | slowClockReturn => exact ⟨_, rfl, h.slowReturn⟩
  | slowClockStartTimeout => exact ⟨_, rfl, h.slowStartTimeout⟩
  | calendarSecond => exact ⟨_, rfl, h.calendarSecond⟩
  | autotrimMeasurement => exact ⟨_, rfl, h.autotrim⟩
  | supplySwitch => exact ⟨_, rfl, (h.modAon.ite h).supplySwitch⟩
  | holdupExpiry => exact ⟨_, rfl, h.holdupExpiry⟩
  | vbatMeasurement => exact ⟨_, rfl, h.vbatMeasured⟩
  | rtcSet => exact ⟨_, rfl, h.rtcSet⟩
  | rtcSetDate => exact ⟨_, rfl, h.rtcWrite⟩
  | rtcHalt => exact ⟨_, rfl, h.rtcHalt⟩
  | rtcCtrl => exact ⟨_, rfl, h.rtcWrite⟩
  | rtcAlarm => exact ⟨_, rfl, h.rtcAlarm⟩
  | rtcAlarmEnable => exact ⟨_, rfl, h.rtcAlarmEnable⟩
  | rtcAlarmDate => exact ⟨_, rfl, h.rtcWrite⟩
  | rtcSubsecRead => exact ⟨_, rfl, h.bar0Access (fun h' => (h').subsecRead)⟩
  | rtcTickHiRead => exact ⟨_, rfl, h.bar0Access (fun h' => (h').tickHiRead)⟩
  | shadowExpired => exact ⟨_, rfl, h.shadowExpired⟩
  | rtcSyncWrite => exact ⟨_, rfl, h.syncWrite⟩
  | paddockClear => exact ⟨_, rfl, h.paddockClear⟩
  | pwTarget => exact ⟨_, rfl, h.pwTarget.settled⟩
  | quiesceEnd => exact ⟨_, rfl, h.quiesceEnd⟩
  | quiesceTimeout => exact ⟨_, rfl, h.quiesceTimeout⟩
  | saveStepStart => exact ⟨_, rfl, h.saveStart⟩
  | switchStepStart => exact ⟨_, rfl, h.switchStart.settled⟩
  | entryConfirm => exact ⟨_, rfl, h.entryConfirm⟩
  | entryConfirmTimeout => exact ⟨_, rfl, h.entryTimeout⟩
  | domainExit => exact ⟨_, rfl, h.domainExit.woke.settled⟩
  | exitConfirmTimeout => exact ⟨_, rfl, h.exitTimeout⟩
  | wakeEvent => exact ⟨_, rfl, h.wakeSource.settled.ite h⟩
  | referenceLoss => exact ⟨_, rfl, h.refLoss.settled⟩
  | keyDerivationDone => exact ⟨_, rfl, h.derivationDone⟩
  | drbgReseed => exact ⟨_, rfl, h.reseed⟩
  | entropyTestFail => exact ⟨_, rfl, h.entropyLost⟩
  | secRootLoad => exact ⟨_, rfl, h.rootLoad⟩
  | rootStoreWriteDone => exact ⟨_, rfl, h.storeWritten⟩
  | secRootErase => exact ⟨_, rfl, h.rootErase⟩
  | secNextKeyWrap => exact ⟨_, rfl, h.nextKeyWrap⟩
  | secDistrictSwitch => exact ⟨_, rfl, h.district⟩
  | sealLoopBit => exact ⟨_, rfl, h.sealBit.settled⟩
  | tamperAlarm => exact ⟨_, rfl, h.tamper.settled⟩
  | secZeroise => exact ⟨_, rfl, h.zeroiseWrite.settled⟩
  | secTamperClear => exact ⟨_, rfl, h.tamperClear⟩
  | secAttestRequest => exact ⟨_, rfl, h.attestRequest⟩
  | attestReportReady => exact ⟨_, rfl, h.attestReady⟩
  | presencePress => exact ⟨_, rfl, h.press.settled⟩
  | presStuck => exact ⟨_, rfl, h.presStuck⟩
  | presenceWindowExpiry => exact ⟨_, rfl, h.presenceExpiry.settled⟩
  | secPresClose => exact ⟨_, rfl, h.closePresence.settled.bumpRev⟩
  | irqStatusWrite => exact ⟨_, rfl, h.bar0Access (fun h' => (h').irqClear)⟩
  | ringDoorbell => exact ⟨_, rfl, (h.bar0Access (fun h' => (h').doorbell)).settled⟩
  | ringCfgWrite => exact ⟨_, rfl, ((h.bar0Access (fun h' => (h').ringCfgWrite)).ite h.ringCfgWrite).settled⟩
  | legacyTx => exact ⟨_, rfl, h.legacyTx.settled⟩
  | buffer => exact ⟨_, rfl, h.buffer⟩
  | ringModerationTimeout => exact ⟨_, rfl, h.moderation⟩
  | ethLinkChange => exact ⟨_, rfl, h.ethLink⟩
  | ethFrame => exact ⟨_, rfl, h.ethFrame⟩
  | scrubPass => exact ⟨_, rfl, h.scrub.settled⟩
  | flashOperationDone => exact ⟨_, rfl, h.flashDone⟩
  | archivePageWrite => exact ⟨_, rfl, h.archivePage⟩
  | summarySecondEnd => exact ⟨_, rfl, h.summaryEnd⟩
  | faultRelease => exact ⟨_, rfl, h.faultRelease.settled⟩
  | faultClear => exact ⟨_, rfl, h.faultClear⟩
  | uartCharacter => exact ⟨_, rfl, h.uartChar⟩
  | uartBreak => exact ⟨_, rfl, h.uartBreak⟩
  | uartStuck => exact ⟨_, rfl, h.uartStuck⟩
  | uartLineOk => exact ⟨_, rfl, h.uartLineOk⟩
  | uartRxIdle => exact ⟨_, rfl, h.uartIdle⟩
  | uartRxData => exact ⟨_, rfl, h.rxData⟩
  | uartTxData => exact ⟨_, rfl, h.txData⟩
  | deTailExpiry => exact ⟨_, rfl, h.modUart.ite h⟩
  | bar0RegisterWrite => exact ⟨_, rfl, h.bar0Write⟩
  | dwellBucketRoll => exact ⟨_, rfl, h.dwellRoll⟩
  | offsetHistoryEntry => exact ⟨_, rfl, h.historyEntry⟩
  | coherentIntervalEnd => exact ⟨_, rfl, h.coherentEnd⟩
  | catchUpSecond => exact ⟨_, rfl, h.catchUpSecond⟩
  | saveStepEnd => exact ⟨_, rfl, h.saveEnd⟩
  | tamperSourceInactive => exact ⟨_, rfl, h.tamperEnd.settled⟩
  | entropyRecovery => exact ⟨_, rfl, h.modSec⟩
  | perstNDeassertion => exact ⟨_, rfl, h.perstEnd⟩
  | ctsNChange => exact ⟨_, rfl, h.ctsChange⟩
  | uartCharacterSent => exact ⟨_, rfl, h.charSent⟩
  | testAccessPortInstruction => exact ⟨_, rfl, h.tapRun⟩

/-- A step keeps what the state before it held, and takes the command at the front of the queue. -/
theorem step_keeps {s t : State} (h : step s = .next t) : ({ s with pending := s.pending.tail } : State).Keeps t := by
  unfold step at h
  split at h
  case h_1 hp =>
    obtain rfl := Host.Outcome.next.inj h
    exact ((State.Keeps.refl _).same (by simp only [State.kept, hp, List.tail_nil])).idle
  case h_2 c rest hp =>
    obtain ⟨u, hu, hk⟩ := exec_keeps c { s with pending := rest }
    cases hu.symm.trans h
    rw [hp]
    exact hk

/-! ### The obligations -/

/-- Settles O58: every operation writes the stores through `storePut`, `bumpRev` and `setAct`, which keep their canonical form. -/
theorem stepsKeepTheStores : Obligations.StepsKeepTheStores := by
  intro s t hs ht
  have k := step_keeps ht
  rw [State.storesWf_iff] at hs ⊢
  exact ⟨k.cfg hs.1, k.ro hs.2.1, k.rev hs.2.2.1, k.act hs.2.2.2⟩

theorem State.sessionsWf_iff (s : State) : s.sessionsWf = true ↔ SessionsOk s.lop.sessions := by
  simp only [State.sessionsWf, Bool.and_eq_true, decide_eq_true_eq, List.all_eq_true, bne_iff_ne]
  exact ⟨fun ⟨⟨⟨h1, h2⟩, h3⟩, h4⟩ => ⟨h1, h2, h3, h4⟩, fun ⟨h1, h2, h3, h4⟩ => ⟨⟨⟨h1, h2⟩, h3⟩, h4⟩⟩

theorem State.Keeps.boundsWf {s t : State} (k : s.Keeps t) (h : s.boundsWf = true) : t.boundsWf = true := by
  simp only [State.boundsWf, Bool.and_eq_true, decide_eq_true_eq, List.all_eq_true, beq_iff_eq] at h ⊢
  obtain ⟨⟨⟨⟨⟨⟨⟨⟨log, archive⟩, records⟩, recFlash⟩, sec⟩, flock⟩, aon⟩, inflight⟩, held⟩ := h
  obtain ⟨inflight, held⟩ := k.isl ⟨inflight, held⟩
  exact ⟨⟨⟨⟨⟨⟨⟨⟨k.flt.log log, k.flt.archive archive⟩, k.flt.records records⟩, k.flt.recFlash recFlash⟩, k.sec sec⟩, k.flock flock⟩,
    k.aon aon⟩, inflight⟩, held⟩

/-- Settles O59: sessions are added only where there is room and with a fresh identifier, and each list is cut to its size where it grows. -/
theorem stepsKeepTheLimits : Obligations.StepsKeepTheLimits := by
  intro s t ht
  have k := step_keeps ht
  exact ⟨fun h => t.sessionsWf_iff.2 (k.sessions (s.sessionsWf_iff.1 h)), fun h => k.boundsWf h, k.pending⟩

/-- A thermometer whose set steps stay set has as many set steps, or more. -/
theorem StepsStay.floor_le : ∀ {a b : List Nat}, StepsStay a b → (a.filter majority).length ≤ (b.filter majority).length
  | _, _, .nil => Nat.le_refl _
  | x :: _, _ :: _, .cons hxy h => by
    have := floor_le h
    by_cases hx : majority x = true
    · simpa [hx, hxy hx] using this
    · rw [List.filter_cons_of_neg hx]
      exact this.trans ((List.sublist_cons_self _ _).filter _).length_le

theorem StepsStay.getElem? : ∀ {a b : List Nat}, StepsStay a b → ∀ {i x : Nat}, a[i]? = some x → majority x = true →
    ∃ y, b[i]? = some y ∧ majority y = true
  | _, _, .cons hxy _, 0, _, hi, hm => ⟨_, rfl, hxy (Option.some.inj hi ▸ hm)⟩
  | _, _, .cons _ h, _ + 1, _, hi, hm => getElem? h hi hm

/-- Settles O60: OTP is written by `setSteps` and by a lock record into a blank slot, and by nothing else. -/
theorem stepsOnlyProgramOtp : Obligations.StepsOnlyProgramOtp := by
  intro s t ht
  obtain ⟨steps, lock, rest⟩ := (step_keeps ht).otp
  exact ⟨steps.floor_le, steps.length_eq.symm, fun _ _ => steps.getElem?, lock, rest⟩

end Sys2Proof.Machine
end

section
/-!
SUPPORT. Reads after writes of the object stores (O57), arbitration (O5), AON's writes (O8) and the replay window (O29).
-/

namespace Sys2Proof.Machine

/-! ### Stored values (R43, R46, R556) -/

/-- A field that exists reads as it was set. -/
theorem valI_valSet {v : Val} {e f : Nat} {row : List Int} {x y : Int} (hr : v[e]? = some row) (hf : row[f]? = some y) :
    valI (valSet v e f x) e f = x := by
  obtain ⟨he, rfl⟩ := List.getElem?_eq_some_iff.1 hr
  have hl := (List.getElem?_eq_some_iff.1 hf).1
  simp [valI, valSet, he, hl]

theorem State.roVal_count {s : State} (i e f k j : Nat) (h : s.ro.wf = true) :
    (s.count i e f k).roVal j = if j = i then valSet (s.roVal i) e f (min (valI (s.roVal i) e f + k) (fieldTy i f).max) else s.roVal j :=
  s.roVal_roPut i j _ h

/-- Settles O57: each clause is the read after the write, at the index and elsewhere, and the canonical form of the store written. -/
theorem storedValuesReadBack : Obligations.StoredValuesReadBack := by
  intro s i h
  obtain ⟨hc, hr, hv, ha⟩ := s.storesWf_iff.1 h
  refine ⟨fun v => ⟨?_, fun j hj => ?_, ?_⟩, fun v => ⟨?_, fun j hj => ?_, ?_⟩, fun e f k row x he hf => ⟨?_, fun j hj => ?_, ?_⟩,
    ⟨?_, fun j hj => ?_, ?_⟩, fun k => ⟨?_, fun j hj => ?_, ?_⟩⟩
  · rw [s.cfgVal_cfgPut i i v hc, if_pos rfl]
  · rw [s.cfgVal_cfgPut i j v hc, if_neg hj]
  · exact (State.storesWf_iff _).2 ⟨s.cfgPut_cfg_wf i v hc, hr, hv, ha⟩
  · rw [s.roVal_roPut i i v hr, if_pos rfl]
  · rw [s.roVal_roPut i j v hr, if_neg hj]
  · exact (State.storesWf_iff _).2 ⟨hc, s.roPut_ro_wf i v hr, hv, ha⟩
  · have hx : valI (s.roVal i) e f = x := by simp [valI, he, hf]
    rw [State.roVal_count i e f k i hr, if_pos rfl, valI_valSet he hf, hx]
  · rw [State.roVal_count i e f k j hr, if_neg hj]
  · exact (State.storesWf_iff _).2 ⟨hc, s.count_ro_wf i e f k hr, hv, ha⟩
  · rw [s.revOf_bumpRev i i hv, if_pos rfl]
  · rw [s.revOf_bumpRev i j hv, if_neg hj]
  · exact (State.storesWf_iff _).2 ⟨hc, hr, s.bumpRev_rev_wf i hv, ha⟩
  · rw [s.actOf_setAct i i k ha, if_pos rfl]
  · rw [s.actOf_setAct i j k ha, if_neg hj]
  · exact (State.storesWf_iff _).2 ⟨hc, hr, hv, s.setAct_act_wf i k ha⟩

/-! ### Arbitration (R11) -/

/-- The lexicographic order of `Arbiter.before`: lower class, or the same class and a turn that is not later. -/
def Arbiter.NotAfter (a : Arbiter) (g q : ArbReq) : Prop := g.cls ≤ q.cls ∧ (q.cls = g.cls → a.turn g ≤ a.turn q)

theorem Arbiter.NotAfter.refl (a : Arbiter) (q : ArbReq) : a.NotAfter q q := ⟨Nat.le_refl _, fun _ => Nat.le_refl _⟩

theorem Arbiter.NotAfter.trans {a : Arbiter} {p q r : ArbReq} (h : a.NotAfter p q) (k : a.NotAfter q r) : a.NotAfter p r :=
  ⟨h.1.trans k.1, fun e => (h.2 (by have := h.1; have := k.1; omega)).trans (k.2 (by have := h.1; have := k.1; omega))⟩

theorem Arbiter.before_iff (a : Arbiter) (q r : ArbReq) : a.before q r = true ↔ q.cls < r.cls ∨ q.cls = r.cls ∧ a.turn q < a.turn r := by
  simp [Arbiter.before]

theorem Arbiter.NotAfter.of_before {a : Arbiter} {q r : ArbReq} (h : a.before q r = true) : a.NotAfter q r := by
  rcases (a.before_iff q r).1 h with h | ⟨h, ht⟩
  · exact ⟨h.le, fun e => absurd e h.ne'⟩
  · exact ⟨h.le, fun _ => ht.le⟩

theorem Arbiter.NotAfter.of_not_before {a : Arbiter} {q r : ArbReq} (h : ¬ a.before q r = true) : a.NotAfter r q := by
  rw [a.before_iff] at h
  exact ⟨by omega, fun e => by omega⟩

/-- The request that a pass over the list keeps is one of them, and none goes before it. -/
theorem Arbiter.foldl_before (a : Arbiter) (qs : List ArbReq) (q : ArbReq) :
    (qs.foldl (fun b x => if a.before x b then x else b) q) ∈ q :: qs
      ∧ ∀ r ∈ q :: qs, a.NotAfter (qs.foldl (fun b x => if a.before x b then x else b) q) r := by
  induction qs generalizing q with
  | nil => exact ⟨List.mem_singleton_self q, fun r hr => List.mem_singleton.1 hr ▸ .refl a q⟩
  | cons x qs ih =>
    rw [List.foldl_cons]
    by_cases hb : a.before x q = true
    · obtain ⟨hm, hall⟩ := ih x
      rw [if_pos hb]
      refine ⟨List.mem_cons_of_mem _ hm, fun r hr => ?_⟩
      rcases List.mem_cons.1 hr with rfl | hr
      · exact (hall x (List.mem_cons_self ..)).trans (.of_before hb)
      · exact hall r hr
    · obtain ⟨hm, hall⟩ := ih q
      rw [if_neg hb]
      have hq := hall q (List.mem_cons_self ..)
      refine ⟨?_, fun r hr => ?_⟩
      · rcases List.mem_cons.1 hm with hm | hm
        · exact List.mem_cons.2 (.inl hm)
        · exact List.mem_cons_of_mem _ (List.mem_cons_of_mem _ hm)
      · rcases List.mem_cons.1 hr with rfl | hr
        · exact hq
        rcases List.mem_cons.1 hr with rfl | hr
        · exact hq.trans (.of_not_before hb)
        · exact hall r (List.mem_cons_of_mem _ hr)

theorem Arbiter.next_none (a : Arbiter) : a.next = none ↔ a.waiting = [] := by
  cases h : a.waiting <;> simp [Arbiter.next, h]

theorem Arbiter.next_some {a : Arbiter} {g : ArbReq} (h : a.next = some g) : g ∈ a.waiting ∧ ∀ q ∈ a.waiting, a.NotAfter g q := by
  cases hw : a.waiting with
  | nil => rw [(a.next_none).2 hw] at h; cases h
  | cons q qs =>
    rw [Arbiter.next, hw] at h
    cases h
    exact a.foldl_before qs q

/-- A grant takes one request. -/
theorem Arbiter.length_grant {a : Arbiter} {g : ArbReq} (h : a.next = some g) : a.grant.waiting.length + 1 = a.waiting.length := by
  have hm := (Arbiter.next_some h).1
  have hp := List.length_pos_of_mem hm
  simp only [Arbiter.grant, h, List.length_map, List.length_erase_of_mem hm]
  omega

/-- Settles O5: the pass of `Arbiter.next` over the waiting requests keeps the first in the order of class and turn. -/
theorem arbitersGrantByClass : Obligations.ArbitersGrantByClass := fun a =>
  ⟨a.next_none, fun _ h => ⟨(Arbiter.next_some h).1, (Arbiter.next_some h).2, Arbiter.length_grant h⟩⟩

/-! ### Writes in flight to AON (R32) -/

/-- A write that AON cannot take is held. -/
theorem State.issueTo_held {s : State} {w : Inflight} (h : w.island = 9 ∧ (4 ≤ s.aonInflight ∨ s.isl.aonHeld ≠ [])) :
    s.issueTo w = s.modIsl fun i => { i with aonHeld := i.aonHeld ++ [w] } := if_pos h

theorem State.issueTo_taken {s : State} {w : Inflight} (h : ¬ (w.island = 9 ∧ (4 ≤ s.aonInflight ∨ s.isl.aonHeld ≠ []))) :
    s.issueTo w = s.modIsl fun i => { i with inflight := i.inflight ++ [w] } := if_neg h

/-- A write more in flight. -/
theorem State.aonInflight_append (s : State) (w : Inflight) (f : IslState → List Inflight) :
    (s.modIsl fun i => { i with inflight := i.inflight ++ [w], aonHeld := f i }).aonInflight
      = s.aonInflight + if w.island = 9 then 1 else 0 := by
  by_cases hw : w.island = 9 <;> simp [State.aonInflight, hw]

theorem State.aonInflight_issueTo {s : State} (w : Inflight) (h : s.aonInflight ≤ 4) : (s.issueTo w).aonInflight ≤ 4 := by
  by_cases hw : w.island = 9 ∧ (4 ≤ s.aonInflight ∨ s.isl.aonHeld ≠ [])
  · rw [State.issueTo_held hw]
    exact h
  · rw [State.issueTo_taken hw]
    refine (s.aonInflight_append w fun i => i.aonHeld).trans_le ?_
    split_ifs with h9
    · have : ¬ 4 ≤ s.aonInflight := fun k => hw ⟨h9, .inl k⟩
      omega
    · exact h

theorem exec_aonWriteAdmitted (s : State) : exec .aonWriteAdmitted s = .next s.admitAon := rfl

/-- An admission takes the first held write, and only where fewer than four are in flight. -/
theorem State.admitAon_ok {s : State} (h : s.aonInflight ≤ 4) (hh : ∀ w ∈ s.isl.aonHeld, w.island = 9) :
    s.admitAon.aonInflight ≤ 4 ∧ ∀ w ∈ s.admitAon.isl.aonHeld, w.island = 9 := by
  unfold State.admitAon
  split
  case h_1 => exact ⟨h, hh⟩
  case h_2 w ws e =>
    split_ifs with h4
    · exact ⟨h, hh⟩
    · refine ⟨(s.aonInflight_append w fun _ => ws).trans_le ?_, fun x hx => hh x (e ▸ List.mem_cons_of_mem _ hx)⟩
      split_ifs <;> omega

/-- Settles O8: `State.issueTo` and `State.admitAon` put a write in flight to AON only where fewer than four are. -/
theorem aonIslandTakesFour : Obligations.AonIslandTakesFour := by
  refine ⟨fun s w h => State.aonInflight_issueTo w h, fun s t h hh ht => ?_, fun s w hw h4 => ?_⟩
  · cases (exec_aonWriteAdmitted s).symm.trans ht
    exact State.admitAon_ok h hh
  · rw [State.issueTo_held ⟨hw, .inl h4.ge⟩]
    exact ⟨rfl, rfl⟩

/-! ### The replay window (R235) -/

/-- A counter is new: nothing was accepted yet, it is above the highest, or it lies in the window and is not seen. -/
theorem replayCheck_fresh_iff (valid : Bool) (top seen c : Nat) :
    replayCheck valid top seen c = .fresh ↔ valid = false ∨ top < c ∨ top - c < 64 ∧ seen.testBit (top - c) = false := by
  unfold replayCheck
  cases valid
  · simp
  · by_cases h : top < c
    · simp [h]
    · by_cases h64 : 64 ≤ top - c
      · simp [h, h64]
      · cases hb : seen.testBit (top - c) <;> simp [h, h64, lt_of_not_ge h64]

theorem replayCheck_duplicate {top seen c : Nat} (h : c ≤ top) (h64 : top - c < 64) (hb : seen.testBit (top - c) = true) :
    replayCheck true top seen c = .duplicate := by
  simp [replayCheck, hb, h.not_gt, h64.not_ge]

theorem replayCheck_replay {top seen c : Nat} (h : c + 64 ≤ top) : replayCheck true top seen c = .replay := by
  have h1 : ¬ top < c := by omega
  have h2 : 64 ≤ top - c := by omega
  simp [replayCheck, h1, h2]

theorem replayNext_first (top seen c : Nat) : replayNext false top seen c = (c, 1) := rfl

theorem replayNext_above {top seen c : Nat} (h : top < c) :
    replayNext true top seen c = (c, (if 64 ≤ c - top then 0 else seen * 2 ^ (c - top) % 2 ^ 64) ||| 1) := by simp [replayNext, h]

theorem replayNext_within {top seen c : Nat} (h : c ≤ top) : replayNext true top seen c = (top, seen ||| 2 ^ (top - c)) := by
  simp [replayNext, h.not_gt]

theorem le_fst_replayNext (top seen c : Nat) : top ≤ (replayNext true top seen c).1 := by
  by_cases h : top < c
  · rw [replayNext_above h]
    exact h.le
  · rw [replayNext_within (not_lt.1 h)]

/-- The accepted counter is a duplicate from then on. -/
theorem replayCheck_replayNext_self {valid : Bool} {top seen c : Nat} (h : replayCheck valid top seen c = .fresh) :
    replayCheck true (replayNext valid top seen c).1 (replayNext valid top seen c).2 c = .duplicate := by
  cases valid with
  | false => exact replayCheck_duplicate (Nat.le_refl c) (by simp [replayNext_first]) (by simp [replayNext_first])
  | true =>
    by_cases ht : top < c
    · rw [replayNext_above ht]
      exact replayCheck_duplicate (Nat.le_refl c) (by simp) (by simp)
    · have hw : top - c < 64 := by
        rcases (replayCheck_fresh_iff ..).1 h with h | h | h
        · cases h
        · exact absurd h ht
        · exact h.1
      rw [replayNext_within (not_lt.1 ht)]
      exact replayCheck_duplicate (not_lt.1 ht) hw (by simp [Nat.testBit_two_pow_self])

/-- What is not new stays so: the window moves up with its bits, or gains one. -/
theorem replayCheck_replayNext_stays {top seen c j : Nat} (h : replayCheck true top seen j ≠ .fresh) :
    replayCheck true (replayNext true top seen c).1 (replayNext true top seen c).2 j ≠ .fresh := by
  rw [Ne, replayCheck_fresh_iff] at h ⊢
  push Not at h ⊢
  obtain ⟨_, hj, hseen⟩ := h
  refine ⟨by simp, hj.trans (le_fst_replayNext ..), fun h64 => ?_⟩
  by_cases ht : top < c
  · rw [replayNext_above ht] at h64 ⊢
    have hc : ¬ 64 ≤ c - top := by omega
    have hbit : seen.testBit (top - j) = true := by simpa using hseen (by omega)
    have hsub : c - j - (c - top) = top - j := by omega
    have hle : c - top ≤ c - j := by omega
    rw [if_neg hc, Nat.testBit_or, Nat.testBit_mod_two_pow, Nat.testBit_mul_two_pow, hsub, hbit]
    simp [h64, hle]
  · rw [replayNext_within (not_lt.1 ht)] at h64 ⊢
    have hbit : seen.testBit (top - j) = true := by simpa using hseen h64
    simp [Nat.testBit_or, hbit]

/-- Settles O29: the accepted counter's bit is set, and the window moves up with the bits that are set. -/
theorem replayWindow : Obligations.ReplayWindow := by
  intro valid top seen k h _
  refine ⟨replayCheck_replayNext_self h, fun j hj => replayCheck_replay hj, fun j hv hj => ?_, fun hv => ?_⟩
  · exact hv ▸ replayCheck_replayNext_stays hj
  · exact hv ▸ le_fst_replayNext top seen k

end Sys2Proof.Machine
end

section
/-!
SUPPORT. What reports leave: `State.core` is the state without what is only reported (outputs, read-only values, the FAULT region, the
host's rings and the events that wait in AON). Counting, raising an event and posting a record leave it as it is, once and for all.
-/

namespace Sys2Proof.Machine

/-- The state without what is only reported. -/
def State.core (s : State) : State :=
  { s with
    outbox := [], free := 0, ro := [], flt := FltState.reset, host := HostState.reset
    aon := { s.aon with queue := [] } }

theorem State.core_frame (s : State) {outbox free ro flt host} : State.core ⟨s.pending, outbox, free, s.cfg, ro, s.rev, s.act, s.start,
    s.fw, s.eng, s.arb, s.isl, s.lop, flt, s.rf, s.mesh, s.flock, host, s.port, s.time, s.aon, s.pwr, s.sec, s.gnss, s.snap, s.uart, s.tap⟩
    = s.core := by
  simp only [State.core]

section
variable (s : State)

@[simp] theorem State.core_core : s.core.core = s.core := s.core_frame
@[simp] theorem State.core_emit (o : Out) : (s.emit o).core = s.core := s.core_frame
@[simp] theorem State.core_drawn : s.drawn.core = s.core := s.core_frame
@[simp] theorem State.core_roPut (i : Nat) (v : Val) : (s.roPut i v).core = s.core := s.core_frame
@[simp] theorem State.core_roSet (i e k : Nat) (x : Int) : (s.roSet i e k x).core = s.core := s.core_frame
@[simp] theorem State.core_count (i e k n : Nat) : (s.count i e k n).core = s.core := s.core_frame
@[simp] theorem State.core_modFlt (f : FltState → FltState) : (s.modFlt f).core = s.core := s.core_frame
@[simp] theorem State.core_modHost (f : HostState → HostState) : (s.modHost f).core = s.core := s.core_frame
@[simp] theorem State.core_setRing (n : Fin 6) (r : Ring) : (s.setRing n r).core = s.core := s.core_frame
@[simp] theorem State.core_signalRing (n : Fin 6) : (s.signalRing n).core = s.core := s.core_frame
@[simp] theorem State.core_setWindow (w : EventWindow) : (s.setWindow w).core = s.core := s.core_frame

@[simp] theorem State.core_countRefusal (d : Fin 18) (r c : Nat) : (s.countRefusal d r c).core = s.core := by
  simp only [State.countRefusal, State.core_roSet, State.core_count]

@[simp] theorem State.core_setIrq (bit : Nat) : (s.setIrq bit).core = s.core := by
  unfold State.setIrq
  split_ifs
  · rfl
  · exact s.core_frame
  · exact s.core_frame

@[simp] theorem State.core_writeback (n : Fin 6) (value : Nat) : (s.writeback n value).core = s.core := by
  unfold State.writeback
  split_ifs
  · rfl
  · exact s.core_emit _

@[simp] theorem State.core_writeRecord (n : Fin 6) (r : RingRec) : (s.writeRecord n r).core = s.core := by
  unfold State.writeRecord
  extract_lets rg k used p _ s1 s2
  have h2 : s2.core = s.core := ((s1.emit _).core_writeback n p).trans s.core_frame
  split_ifs
  · rwa [State.core_signalRing]
  · exact h2

@[simp] theorem State.core_postRing (n : Fin 6) (r : RingRec) : (s.postRing n r).core = s.core := by
  unfold State.postRing
  extract_lets _ s1 _
  have h1 : s1.core = s.core := s.core_frame
  split_ifs
  · exact s.core_count ..
  · exact s.core_frame
  · exact s.core_count ..
  · exact s.core_writeRecord ..
  · rwa [State.core_setRing]
  · exact h1
  · exact s.core_count ..

@[simp] theorem State.core_logEntry (code inst flags time a b : Nat) : (s.logEntry code inst flags time a b).core = s.core := by
  unfold State.logEntry
  extract_lets e log s1 s2
  have h2 : s2.core = s.core := s.core_frame
  split_ifs
  · rwa [State.core_setIrq, State.core_postRing]
  · exact h2

@[simp] theorem State.core_queueAon (code inst a b flags : Nat) : (s.queueAon code inst a b flags).core = s.core := by
  unfold State.queueAon
  split_ifs
  · rfl
  · simp only [State.core]
  · exact s.core_count ..

@[simp] theorem State.core_raiseF (code inst a b flags : Nat) : (s.raiseF code inst a b flags).core = s.core := by
  unfold State.raiseF
  dsimp only
  split_ifs
  · exact s.core_queueAon ..
  · exact s.core_setWindow _
  · rw [State.core_logEntry, State.core_setWindow]

@[simp] theorem State.core_raise (code inst a b : Nat) : (s.raise code inst a b).core = s.core := s.core_raiseF ..

end

/-! ### The components of the core -/

section
variable {s t : State}

theorem State.pending_of_core (h : t.core = s.core) : t.pending = s.pending := (congrArg State.pending h :)
theorem State.cfg_of_core (h : t.core = s.core) : t.cfg = s.cfg := (congrArg State.cfg h :)
theorem State.rev_of_core (h : t.core = s.core) : t.rev = s.rev := (congrArg State.rev h :)
theorem State.act_of_core (h : t.core = s.core) : t.act = s.act := (congrArg State.act h :)
theorem State.start_of_core (h : t.core = s.core) : t.start = s.start := (congrArg State.start h :)
theorem State.fw_of_core (h : t.core = s.core) : t.fw = s.fw := (congrArg State.fw h :)
theorem State.eng_of_core (h : t.core = s.core) : t.eng = s.eng := (congrArg State.eng h :)
theorem State.arb_of_core (h : t.core = s.core) : t.arb = s.arb := (congrArg State.arb h :)
theorem State.isl_of_core (h : t.core = s.core) : t.isl = s.isl := (congrArg State.isl h :)
theorem State.lop_of_core (h : t.core = s.core) : t.lop = s.lop := (congrArg State.lop h :)
theorem State.rf_of_core (h : t.core = s.core) : t.rf = s.rf := (congrArg State.rf h :)
theorem State.mesh_of_core (h : t.core = s.core) : t.mesh = s.mesh := (congrArg State.mesh h :)
theorem State.flock_of_core (h : t.core = s.core) : t.flock = s.flock := (congrArg State.flock h :)
theorem State.port_of_core (h : t.core = s.core) : t.port = s.port := (congrArg State.port h :)
theorem State.time_of_core (h : t.core = s.core) : t.time = s.time := (congrArg State.time h :)
theorem State.pwr_of_core (h : t.core = s.core) : t.pwr = s.pwr := (congrArg State.pwr h :)
theorem State.sec_of_core (h : t.core = s.core) : t.sec = s.sec := (congrArg State.sec h :)
theorem State.gnss_of_core (h : t.core = s.core) : t.gnss = s.gnss := (congrArg State.gnss h :)
theorem State.snap_of_core (h : t.core = s.core) : t.snap = s.snap := (congrArg State.snap h :)
theorem State.uart_of_core (h : t.core = s.core) : t.uart = s.uart := (congrArg State.uart h :)
theorem State.tap_of_core (h : t.core = s.core) : t.tap = s.tap := (congrArg State.tap h :)

end

@[simp] theorem State.raise_pending (s : State) (code inst a b : Nat) : (s.raise code inst a b).pending = s.pending := State.pending_of_core (s.core_raise ..)
@[simp] theorem State.raise_cfg (s : State) (code inst a b : Nat) : (s.raise code inst a b).cfg = s.cfg := State.cfg_of_core (s.core_raise ..)
@[simp] theorem State.raise_rev (s : State) (code inst a b : Nat) : (s.raise code inst a b).rev = s.rev := State.rev_of_core (s.core_raise ..)
@[simp] theorem State.raise_act (s : State) (code inst a b : Nat) : (s.raise code inst a b).act = s.act := State.act_of_core (s.core_raise ..)
@[simp] theorem State.raise_start (s : State) (code inst a b : Nat) : (s.raise code inst a b).start = s.start := State.start_of_core (s.core_raise ..)
@[simp] theorem State.raise_fw (s : State) (code inst a b : Nat) : (s.raise code inst a b).fw = s.fw := State.fw_of_core (s.core_raise ..)
@[simp] theorem State.raise_eng (s : State) (code inst a b : Nat) : (s.raise code inst a b).eng = s.eng := State.eng_of_core (s.core_raise ..)
@[simp] theorem State.raise_arb (s : State) (code inst a b : Nat) : (s.raise code inst a b).arb = s.arb := State.arb_of_core (s.core_raise ..)
@[simp] theorem State.raise_isl (s : State) (code inst a b : Nat) : (s.raise code inst a b).isl = s.isl := State.isl_of_core (s.core_raise ..)
@[simp] theorem State.raise_lop (s : State) (code inst a b : Nat) : (s.raise code inst a b).lop = s.lop := State.lop_of_core (s.core_raise ..)
@[simp] theorem State.raise_rf (s : State) (code inst a b : Nat) : (s.raise code inst a b).rf = s.rf := State.rf_of_core (s.core_raise ..)
@[simp] theorem State.raise_mesh (s : State) (code inst a b : Nat) : (s.raise code inst a b).mesh = s.mesh := State.mesh_of_core (s.core_raise ..)
@[simp] theorem State.raise_flock (s : State) (code inst a b : Nat) : (s.raise code inst a b).flock = s.flock := State.flock_of_core (s.core_raise ..)
@[simp] theorem State.raise_port (s : State) (code inst a b : Nat) : (s.raise code inst a b).port = s.port := State.port_of_core (s.core_raise ..)
@[simp] theorem State.raise_pwr (s : State) (code inst a b : Nat) : (s.raise code inst a b).pwr = s.pwr := State.pwr_of_core (s.core_raise ..)
@[simp] theorem State.raise_sec (s : State) (code inst a b : Nat) : (s.raise code inst a b).sec = s.sec := State.sec_of_core (s.core_raise ..)
@[simp] theorem State.raise_gnss (s : State) (code inst a b : Nat) : (s.raise code inst a b).gnss = s.gnss := State.gnss_of_core (s.core_raise ..)
@[simp] theorem State.raise_snap (s : State) (code inst a b : Nat) : (s.raise code inst a b).snap = s.snap := State.snap_of_core (s.core_raise ..)
@[simp] theorem State.raise_uart (s : State) (code inst a b : Nat) : (s.raise code inst a b).uart = s.uart := State.uart_of_core (s.core_raise ..)
@[simp] theorem State.raise_tap (s : State) (code inst a b : Nat) : (s.raise code inst a b).tap = s.tap := State.tap_of_core (s.core_raise ..)

@[simp] theorem State.postRing_pending (s : State) (n : Fin 6) (r : RingRec) : (s.postRing n r).pending = s.pending := State.pending_of_core (s.core_postRing ..)
@[simp] theorem State.postRing_cfg (s : State) (n : Fin 6) (r : RingRec) : (s.postRing n r).cfg = s.cfg := State.cfg_of_core (s.core_postRing ..)
@[simp] theorem State.postRing_rev (s : State) (n : Fin 6) (r : RingRec) : (s.postRing n r).rev = s.rev := State.rev_of_core (s.core_postRing ..)
@[simp] theorem State.postRing_act (s : State) (n : Fin 6) (r : RingRec) : (s.postRing n r).act = s.act := State.act_of_core (s.core_postRing ..)
@[simp] theorem State.postRing_start (s : State) (n : Fin 6) (r : RingRec) : (s.postRing n r).start = s.start := State.start_of_core (s.core_postRing ..)
@[simp] theorem State.postRing_fw (s : State) (n : Fin 6) (r : RingRec) : (s.postRing n r).fw = s.fw := State.fw_of_core (s.core_postRing ..)
@[simp] theorem State.postRing_eng (s : State) (n : Fin 6) (r : RingRec) : (s.postRing n r).eng = s.eng := State.eng_of_core (s.core_postRing ..)
@[simp] theorem State.postRing_arb (s : State) (n : Fin 6) (r : RingRec) : (s.postRing n r).arb = s.arb := State.arb_of_core (s.core_postRing ..)
@[simp] theorem State.postRing_isl (s : State) (n : Fin 6) (r : RingRec) : (s.postRing n r).isl = s.isl := State.isl_of_core (s.core_postRing ..)
@[simp] theorem State.postRing_lop (s : State) (n : Fin 6) (r : RingRec) : (s.postRing n r).lop = s.lop := State.lop_of_core (s.core_postRing ..)
@[simp] theorem State.postRing_rf (s : State) (n : Fin 6) (r : RingRec) : (s.postRing n r).rf = s.rf := State.rf_of_core (s.core_postRing ..)
@[simp] theorem State.postRing_mesh (s : State) (n : Fin 6) (r : RingRec) : (s.postRing n r).mesh = s.mesh := State.mesh_of_core (s.core_postRing ..)
@[simp] theorem State.postRing_flock (s : State) (n : Fin 6) (r : RingRec) : (s.postRing n r).flock = s.flock := State.flock_of_core (s.core_postRing ..)
@[simp] theorem State.postRing_port (s : State) (n : Fin 6) (r : RingRec) : (s.postRing n r).port = s.port := State.port_of_core (s.core_postRing ..)
@[simp] theorem State.postRing_pwr (s : State) (n : Fin 6) (r : RingRec) : (s.postRing n r).pwr = s.pwr := State.pwr_of_core (s.core_postRing ..)
@[simp] theorem State.postRing_sec (s : State) (n : Fin 6) (r : RingRec) : (s.postRing n r).sec = s.sec := State.sec_of_core (s.core_postRing ..)
@[simp] theorem State.postRing_gnss (s : State) (n : Fin 6) (r : RingRec) : (s.postRing n r).gnss = s.gnss := State.gnss_of_core (s.core_postRing ..)
@[simp] theorem State.postRing_snap (s : State) (n : Fin 6) (r : RingRec) : (s.postRing n r).snap = s.snap := State.snap_of_core (s.core_postRing ..)
@[simp] theorem State.postRing_uart (s : State) (n : Fin 6) (r : RingRec) : (s.postRing n r).uart = s.uart := State.uart_of_core (s.core_postRing ..)
@[simp] theorem State.postRing_tap (s : State) (n : Fin 6) (r : RingRec) : (s.postRing n r).tap = s.tap := State.tap_of_core (s.core_postRing ..)

@[simp] theorem State.setIrq_pending (s : State) (bit : Nat) : (s.setIrq bit).pending = s.pending := State.pending_of_core (s.core_setIrq ..)
@[simp] theorem State.setIrq_cfg (s : State) (bit : Nat) : (s.setIrq bit).cfg = s.cfg := State.cfg_of_core (s.core_setIrq ..)
@[simp] theorem State.setIrq_rev (s : State) (bit : Nat) : (s.setIrq bit).rev = s.rev := State.rev_of_core (s.core_setIrq ..)
@[simp] theorem State.setIrq_act (s : State) (bit : Nat) : (s.setIrq bit).act = s.act := State.act_of_core (s.core_setIrq ..)
@[simp] theorem State.setIrq_start (s : State) (bit : Nat) : (s.setIrq bit).start = s.start := State.start_of_core (s.core_setIrq ..)
@[simp] theorem State.setIrq_fw (s : State) (bit : Nat) : (s.setIrq bit).fw = s.fw := State.fw_of_core (s.core_setIrq ..)
@[simp] theorem State.setIrq_eng (s : State) (bit : Nat) : (s.setIrq bit).eng = s.eng := State.eng_of_core (s.core_setIrq ..)
@[simp] theorem State.setIrq_arb (s : State) (bit : Nat) : (s.setIrq bit).arb = s.arb := State.arb_of_core (s.core_setIrq ..)
@[simp] theorem State.setIrq_isl (s : State) (bit : Nat) : (s.setIrq bit).isl = s.isl := State.isl_of_core (s.core_setIrq ..)
@[simp] theorem State.setIrq_lop (s : State) (bit : Nat) : (s.setIrq bit).lop = s.lop := State.lop_of_core (s.core_setIrq ..)
@[simp] theorem State.setIrq_rf (s : State) (bit : Nat) : (s.setIrq bit).rf = s.rf := State.rf_of_core (s.core_setIrq ..)
@[simp] theorem State.setIrq_mesh (s : State) (bit : Nat) : (s.setIrq bit).mesh = s.mesh := State.mesh_of_core (s.core_setIrq ..)
@[simp] theorem State.setIrq_flock (s : State) (bit : Nat) : (s.setIrq bit).flock = s.flock := State.flock_of_core (s.core_setIrq ..)
@[simp] theorem State.setIrq_port (s : State) (bit : Nat) : (s.setIrq bit).port = s.port := State.port_of_core (s.core_setIrq ..)
@[simp] theorem State.setIrq_pwr (s : State) (bit : Nat) : (s.setIrq bit).pwr = s.pwr := State.pwr_of_core (s.core_setIrq ..)
@[simp] theorem State.setIrq_sec (s : State) (bit : Nat) : (s.setIrq bit).sec = s.sec := State.sec_of_core (s.core_setIrq ..)
@[simp] theorem State.setIrq_gnss (s : State) (bit : Nat) : (s.setIrq bit).gnss = s.gnss := State.gnss_of_core (s.core_setIrq ..)
@[simp] theorem State.setIrq_snap (s : State) (bit : Nat) : (s.setIrq bit).snap = s.snap := State.snap_of_core (s.core_setIrq ..)
@[simp] theorem State.setIrq_uart (s : State) (bit : Nat) : (s.setIrq bit).uart = s.uart := State.uart_of_core (s.core_setIrq ..)
@[simp] theorem State.setIrq_tap (s : State) (bit : Nat) : (s.setIrq bit).tap = s.tap := State.tap_of_core (s.core_setIrq ..)

end Sys2Proof.Machine
end

section
/-!
SUPPORT. Zeroisation (14_security.md R480 to R482): what it ends leaves the key slots, the seal register, the store and the sessions as the
erasure made them.
-/

namespace Sys2Proof.Machine

/-- What a zeroisation erases or must leave, the presence window apart. -/
def State.vault (s : State) := ({ s.sec with presClass := 0 }, s.lop.sessions, s.fw.slot, s.fw.otp, s.aon.bank, s.pwr)

section
variable {s t : State}

theorem State.vault_of_core (h : t.core = s.core) : t.vault = s.vault := by
  have bank : t.aon.bank = s.aon.bank := (congrArg (fun u : State => u.aon.bank) h :)
  simp only [State.vault, State.sec_of_core h, State.lop_of_core h, State.fw_of_core h, State.pwr_of_core h, bank]

theorem State.vault_foldl {α : Type} {f : State → α → State} (hf : ∀ (u : State) (x : α), (f u x).vault = u.vault) (l : List α) (s : State) :
    (l.foldl f s).vault = s.vault := by
  induction l generalizing s with
  | nil => rfl
  | cons x l ih => exact (ih _).trans (hf s x)

end

section
variable (s : State)

theorem State.vault_mesh (m : MeshState) : ({ s with mesh := m } : State).vault = s.vault := rfl

theorem State.vault_meshFlock (m : MeshState) (f : FlockState) : ({ s with mesh := m, flock := f } : State).vault = s.vault := rfl

theorem State.vault_dutyRelease (b : Fin 2) (a d : Nat) : (s.dutyRelease b a d).vault = s.vault := rfl

theorem State.vault_putPath (p : Fin 6) (x : Path) : (s.putPath p x).vault = s.vault := rfl

theorem State.vault_dropBooked (id : Nat) : (s.dropBooked id).vault = s.vault :=
  State.vault_foldl (fun u _ => u.vault_dutyRelease ..) _ _

theorem State.vault_dropCmds (id : Nat) : (s.dropCmds id).vault = s.vault :=
  (State.vault_foldl (fun u _ => (State.vault_foldl (fun v _ => v.vault_dutyRelease ..) _ _).trans (u.vault_putPath ..)) _ _).trans
    (s.vault_dropBooked id)

theorem State.vault_modRec (f : Nat) (g : FlockRec → FlockRec) : (s.modRec f g).vault = s.vault := by
  unfold State.modRec
  split <;> rfl

theorem State.vault_postRing (n : Fin 6) (r : RingRec) : (s.postRing n r).vault = s.vault := State.vault_of_core (s.core_postRing n r)

theorem State.vault_raise (code inst a b : Nat) : (s.raise code inst a b).vault = s.vault := State.vault_of_core (s.core_raise ..)

theorem State.vault_completeReq (q : DelReq) (status : Nat) (relayed : Bool) (n : Nat) : (s.completeReq q status relayed n).vault = s.vault := by
  unfold State.completeReq
  extract_lets _ s1 s2
  have h2 : s2.vault = s.vault := by
    unfold s2
    split_ifs
    · exact s1.vault_modRec ..
    · rfl
  by_cases hq : q.enrol.isSome = true
  · rwa [if_pos hq]
  · rw [if_neg hq]
    exact (s2.vault_postRing ..).trans h2

theorem State.vault_endTxn (t : Txn) (status : Nat) (relayed : Bool) : (s.endTxn t status relayed).vault = s.vault := by
  unfold State.endTxn
  extract_lets s1 _ s2 s3
  have h2 : s2.vault = s.vault := (s1.vault_mesh _).trans (s.vault_dropCmds t.id)
  have h3 : s3.vault = s.vault := (State.vault_of_core (s2.core_count ..)).trans h2
  split
  · split
    · exact (s3.vault_completeReq ..).trans h3
    · exact h3
  · exact h3

/-- A window that closes where no session is left ends none. -/
theorem State.vault_closeWindow (h : s.lop.sessions = []) : s.closeWindow.vault = s.vault := by
  unfold State.closeWindow
  split_ifs
  · rfl
  · have e : ((s.modSec fun x => { x with presClass := 0 }).raise Ev.PRESENCE_CLOSE s.sec.presClass).lop.sessions = [] := by
      rw [State.raise_lop]
      exact h
    rw [State.endSessions, e, List.filter_nil, List.foldl_nil, State.vault_raise]
    rfl

/-- A campaign that ends erases its key slot only where one is left. -/
theorem State.vault_campEnd (k : Fin 4) (st reason : Nat) (h : s.sec.slot[(⟨6 + k, by omega⟩ : Fin 64)].st = 0) :
    (s.campEnd k st reason).vault = s.vault := by
  unfold State.campEnd
  extract_lets s1 _ _ s2
  have h1 : s1.vault = s.vault := by
    apply State.vault_foldl
    exact fun u t => u.vault_dropCmds t.id
  have h2 : s2.vault = s.vault := (s1.vault_meshFlock _ _).trans h1
  have hs : s2.sec.slot[(⟨6 + k, by omega⟩ : Fin 64)].st = 0 := by
    rw [← h]
    exact (congrArg (fun v => v.1.slot[(⟨6 + k, by omega⟩ : Fin 64)].st) h2 :)
  rw [if_pos hs, h2]

theorem State.vault_setAct (i st : Nat) : (s.setAct i st).vault = s.vault := rfl

end

/-! ### The erasure -/

theorem State.writeSlot_same (s : State) (i : Fin 64) (key : Nat) (h : s.slotRetired i = false ∨ key = 0) :
    (s.writeSlot i 0 key).sec.slot[i] = ⟨0, (s.sec.slot[i].gen + 1) % 2 ^ 32, key⟩ := by
  rcases h with h | h <;> simp [State.writeSlot, vmod, h]

theorem State.eraseSlot_slot (s : State) (i j : Fin 64) :
    (s.eraseSlot i).sec.slot[j] = if i = j then ⟨0, (s.sec.slot[j].gen + 1) % 2 ^ 32, 0⟩ else s.sec.slot[j] := by
  by_cases h : i = j
  · subst h
    rw [if_pos rfl]
    exact s.writeSlot_same i 0 (.inr rfl)
  · rw [if_neg h]
    exact Vector.getElem_set_ne i.isLt j.isLt (Fin.val_ne_of_ne h)

/-- Slots that are erased one after another, each once. -/
theorem State.eraseSlots_slot (l : List (Fin 64)) (s : State) (j : Fin 64) (hl : l.Nodup) :
    (l.foldl (fun (s : State) (i : Fin 64) => s.eraseSlot i) s).sec.slot[j]
      = if j ∈ l then ⟨0, (s.sec.slot[j].gen + 1) % 2 ^ 32, 0⟩ else s.sec.slot[j] := by
  induction l generalizing s with
  | nil => rfl
  | cons i l ih =>
    obtain ⟨hi, hl⟩ := List.nodup_cons.1 hl
    rw [List.foldl_cons, ih _ hl, s.eraseSlot_slot i j]
    by_cases h : i = j
    · subst h
      simp [hi]
    · simp [h, Ne.symm h]

theorem State.eraseSlots_frame (l : List (Fin 64)) (s : State) :
    ∃ v, l.foldl (fun (s : State) (i : Fin 64) => s.eraseSlot i) s = { s with sec := { s.sec with slot := v } } := by
  induction l generalizing s with
  | nil => exact ⟨s.sec.slot, rfl⟩
  | cons i l ih =>
    obtain ⟨v, hv⟩ := ih (s.eraseSlot i)
    exact ⟨v, hv⟩

/-- What the erasure leaves: every slot empty with the next generation, and the operations in flight ended (R472, R481). -/
theorem State.eraseSecrets_vault (s : State) (src : Nat) :
    ∃ v : Vector Slot 64, (∀ i : Fin 64, v[i] = ⟨0, (s.sec.slot[i].gen + 1) % 2 ^ 32, 0⟩) ∧ (s.eraseSecrets src).vault =
      ({ s.sec with
        slot := v, presClass := 0, cache := [], deriving_ := [], sealValue := 0, latch := s.sec.latch ||| src
        zeroisations := min 0xFFFFFFFF (s.sec.zeroisations + 1), lastSource := src, lastTick := s.aon.tick
        writing := none, waiting := [], attest := none }, s.lop.sessions, s.fw.slot, s.fw.otp, s.aon.bank, s.pwr) := by
  obtain ⟨v, hv⟩ := State.eraseSlots_frame (List.finRange 64) s
  refine ⟨v, fun i => ?_, ?_⟩
  · have := State.eraseSlots_slot (List.finRange 64) s i (List.nodup_finRange 64)
    rwa [hv, if_pos (List.mem_finRange i)] at this
  · unfold State.eraseSecrets
    rw [hv]
    exact State.vault_foldl (fun u o => u.drawn.vault_setAct o _) _ _

/-- One campaign's part of a zeroisation. -/
theorem State.vault_campFailed (s : State) (k : Fin 4) (h : s.sec.slot[(⟨6 + k, by omega⟩ : Fin 64)].st = 0) :
    (if s.flock.camp[k].st = 1 ∨ s.flock.camp[k].st = 2 then (s.campEnd k 6 6).raise Ev.CAMPAIGN_FAILED k 6 else s).vault = s.vault := by
  split_ifs
  · exact (State.vault_raise ..).trans (s.vault_campEnd k 6 6 h)
  · rfl

/-- The campaigns' parts, one after another, where every slot is empty. -/
theorem State.vault_campsFailed (l : List (Fin 4)) (s : State) (h : ∀ i : Fin 64, s.sec.slot[i].st = 0) :
    (l.foldl (fun (s : State) (k : Fin 4) =>
      let c := s.flock.camp[k]
      if c.st = 1 ∨ c.st = 2 then (s.campEnd k 6 6).raise Ev.CAMPAIGN_FAILED k 6 else s) s).vault = s.vault := by
  induction l generalizing s with
  | nil => rfl
  | cons k l ih =>
    have hk := s.vault_campFailed k (h _)
    exact (ih _ fun i => (congrArg (fun v => v.1.slot[i].st) hk :).trans (h i)).trans hk

/-- The root store is erased at once while MEM is on, and when it comes on otherwise. -/
def State.eraseStore (s : State) : State :=
  s.modSec fun x => { x with store := if s.domOn 2 then Vector.replicate 2 [] else x.store, erasePending := !s.domOn 2 }

theorem State.eraseStore_eq (s : State) :
    (if s.domOn 2 then s.storeErase else s.modSec fun x => { x with erasePending := true }) = s.eraseStore := by
  unfold State.eraseStore
  cases s.domOn 2 <;> rfl

/-- A zeroisation: after the erasure and the ends that it brings, the store is erased, or will be. -/
theorem State.zeroise_eq (s : State) (src : Nat) :
    ∃ u : State, u.vault = ((s.eraseSecrets src).vault.1, [], s.fw.slot, s.fw.otp, s.aon.bank, s.pwr) ∧ s.zeroise src = u.eraseStore := by
  obtain ⟨v, hv, he⟩ := s.eraseSecrets_vault src
  unfold State.zeroise
  extract_lets s1 s2 s3 s4
  refine ⟨s4, ?_, s4.eraseStore_eq⟩
  have h1 : s1.vault = ((s.eraseSecrets src).vault.1, [], s.fw.slot, s.fw.otp, s.aon.bank, s.pwr) := by
    have h0 := (((s.eraseSecrets src).raise Ev.TAMPER_ALARM 0xFF src).vault_raise Ev.ZEROISED 0xFF 0 0).trans
      ((s.eraseSecrets src).vault_raise Ev.TAMPER_ALARM 0xFF src 0)
    have hd (u : State) : u.dropSessions.vault = (u.vault.1, [], u.vault.2.2) := rfl
    rw [hd, h0, he]
  clear_value s1
  have h2 : s2.vault = s1.vault := by
    apply State.vault_foldl
    exact fun u t => u.vault_endTxn ..
  clear_value s2
  have h3 : s3.vault = s1.vault := by
    have hs : s2.lop.sessions = [] := (congrArg (fun v => v.2.1) (h2.trans h1) :)
    unfold s3
    split_ifs
    · exact (s2.vault_closeWindow hs).trans h2
    · exact h2
  clear_value s3
  have h4 : s4.vault = s3.vault := by
    have hs : s3.sec.slot = v := (congrArg (fun v => v.1.slot) (h3.trans h1) :).trans (congrArg (fun v => v.1.slot) he :)
    exact State.vault_campsFailed _ s3 fun i => by rw [hs, hv]
  exact h4.trans (h3.trans h1)

theorem exec_secZeroise (v : Nat) (s : State) : exec (.secZeroise v) s = .next (s.zeroiseWrite v).settled := rfl

theorem State.zeroiseWrite_one (s : State) : s.zeroiseWrite 1 = (s.zeroise 64).accept Obj.SEC_ZEROISE (scalar 1) := if_pos rfl

/-- Settles O46: the erasure writes every slot once, and what it ends writes none (`State.zeroise_eq`). -/
theorem zeroisationErases : Obligations.ZeroisationErases := by
  refine ⟨fun s => ⟨s.zeroiseWrite 1, exec_secZeroise 1 s, ?_⟩, fun s v hv => ?_⟩
  · obtain ⟨v, hv, he⟩ := s.eraseSecrets_vault 64
    obtain ⟨u, hu, hz⟩ := s.zeroise_eq 64
    rw [he] at hu
    have hv' : u.vault.1 = _ := (congrArg Prod.fst hu :)
    have hon : u.domOn 2 = s.domOn 2 := by
      have hpwr : u.pwr = s.pwr := (congrArg (fun v => v.2.2.2.2.2) hu :)
      simp only [State.domOn, hpwr]
    have hslot : u.sec.slot = v := (congrArg (fun v => v.slot) hv' :)
    rw [State.zeroiseWrite_one, hz, ← hon]
    exact ⟨fun i => (congrArg (fun v => v[i]) hslot).trans (hv i), (congrArg (fun x => x.cache) hv' :),
      (congrArg (fun x => x.sealValue) hv' :), (congrArg (fun v => v.2.1) hu :), (congrArg (fun x => x.latch) hv' :),
      (congrArg (fun x => x.zeroisations) hv' :), (congrArg (fun x => x.active) hv' :), (congrArg (fun x => x.writing) hv' :),
      (congrArg (fun x => x.attest) hv' :), fun h => by simp [State.eraseStore, h], fun h => by simp [State.eraseStore, h],
      (congrArg (fun v => v.2.2.1) hu :), (congrArg (fun v => v.2.2.2.1) hu :), (congrArg (fun v => v.2.2.2.2.1) hu :)⟩
  · rw [exec_secZeroise, State.zeroiseWrite, if_neg hv]

end Sys2Proof.Machine
end

section
/-!
SUPPORT. What an answer leaves (02_object_dictionary.md R58): it frees the mailbox, is counted and handed to its port, and may end its own
session.
-/

namespace Sys2Proof.Machine

/-- The state without what an answer that goes out changes. -/
def State.unsent (s : State) : State := { s.core with lop := { s.lop with mbxBusy := false }, uart := UartState.reset }

section
variable {s t : State}

theorem State.unsent_of_core (h : t.core = s.core) : t.unsent = s.unsent := by
  simp only [State.unsent, h, State.lop_of_core h]

theorem State.unsent_ite {c : Prop} [Decidable c] (h : t.unsent = s.unsent) : (if c then t else s).unsent = s.unsent := by
  split_ifs
  · exact h
  · rfl

end

section
variable (s : State)

theorem State.unsent_mbxFree (k : Nat) : (s.mbxFree k).unsent = s.unsent := by
  unfold State.mbxFree
  split_ifs <;> rfl

theorem State.core_mbxAnswer (f : Bytes) : (s.mbxAnswer f).core = s.core := (State.core_setIrq ..).trans (s.core_modHost _)

theorem State.core_udpAnswer (e : Fin 2) (v : Via) (lop1 : Bool) (f : Bytes) : (s.udpAnswer e v lop1 f).core = s.core :=
  (State.core_emit ..).trans (s.core_count ..)

theorem State.unsent_txKick (n : Fin 4) : (s.txKick n).unsent = s.unsent := by
  unfold State.txKick
  extract_lets u
  split
  · split_ifs <;> rfl
  · rfl

theorem State.unsent_rs485Answer (n : Fin 4) (lop1 : Bool) (f : Bytes) : (s.rs485Answer n lop1 f).unsent = s.unsent :=
  State.unsent_txKick _ n

theorem State.unsent_emit (o : Out) : (s.emit o).unsent = s.unsent := State.unsent_of_core (s.core_emit o)

/-- An answer that goes out changes its port, the mailbox's flag and what is reported. -/
theorem State.unsent_sendOut (r : Resp) : (s.sendOut r).unsent = s.unsent := by
  unfold State.sendOut
  extract_lets f s1
  have h1 : s1.unsent = s.unsent := s.unsent_mbxFree _
  clear_value s1
  have hm : ((s1.mbxAnswer f).emit (.lop r.via f)).unsent = s1.unsent :=
    (State.unsent_emit ..).trans (State.unsent_of_core (s1.core_mbxAnswer f))
  have hu (e : Fin 2) : ((s1.udpAnswer e r.via r.lop1 f).emit (.lop r.via f)).unsent = s1.unsent :=
    (State.unsent_emit ..).trans (State.unsent_of_core (s1.core_udpAnswer ..))
  have hr (n : Fin 4) : ((s1.rs485Answer n r.lop1 f).emit (.lop r.via f)).unsent = s1.unsent :=
    (State.unsent_emit ..).trans (s1.unsent_rs485Answer ..)
  by_cases hf : f = []
  · rwa [if_pos hf]
  rw [if_neg hf, ← h1]
  split
  · exact State.unsent_ite hm
  · exact State.unsent_ite (hu 0)
  · exact State.unsent_ite (hu 1)
  · exact State.unsent_ite (hr 0)
  · exact State.unsent_ite (hr 1)
  · rfl

/-- What no answer changes, whether or not it ends its session (R65). -/
def State.store (s : State) := (s.cfg, s.rev, s.act, s.isl.inflight, s.isl.aonHeld, s.fw, s.flock)

theorem State.store_of_unsent {s t : State} (h : t.unsent = s.unsent) : t.store = s.store :=
  (congrArg (fun u : State => (u.cfg, u.rev, u.act, u.isl.inflight, u.isl.aonHeld, u.fw, u.flock)) h :)

theorem State.store_endSession (id : Nat) : (s.endSession id).store = s.store := by
  unfold State.endSession
  split
  · rfl
  · extract_lets
    split_ifs <;> rfl

theorem State.store_send (r : Resp) (keep : Bool) : (s.send r keep).store = s.store := by
  unfold State.send
  split
  · exact State.store_of_unsent (s.unsent_sendOut r)
  case h_2 x _ =>
    extract_lets r1 s1
    have h1 : s1.store = s.store := (State.store_of_unsent (State.unsent_sendOut _ r1)).trans rfl
    clear_value s1
    split_ifs
    · exact (s1.store_endSession _).trans h1
    · exact h1

theorem State.core_countTargets (o : State) (w : WItem) : (s.countTargets o w).core = s.core := by
  unfold State.countTargets
  split
  · split
    · split
      · exact s.core_countRefusal ..
      · rfl
    · rfl
  · rfl

/-- A list that fails is counted and answered. -/
theorem State.store_writeFailed (q : LopReq) (items : List WItem) (n code : Nat) (o : State) :
    (s.writeFailed q items n code o).store = s.store := by
  unfold State.writeFailed
  extract_lets rs s1
  have h1 : s1.core = s.core := by
    unfold s1
    split
    · split_ifs
      · exact s.core_countTargets ..
      · rfl
    · rfl
  exact (s1.store_send ..).trans (State.store_of_unsent (State.unsent_of_core h1))

end

theorem State.runWrite_failed {s o : State} {x : Session} (q : LopReq) {items : List WItem} {n c : Nat}
    (h : s.listCheck x 0 items = .inl (n, c, o)) : s.runWrite x q items = s.drawn.writeFailed q items n c o := by
  simp only [State.runWrite, h]

/-- Settles O14: a list that fails its check is only answered (`State.writeFailed`). -/
theorem refusedListChangesNothing : Obligations.RefusedListChangesNothing := by
  intro s x q items n c o h
  have hs : (s.runWrite x q items).store = s.store := by
    rw [State.runWrite_failed q h]
    exact s.drawn.store_writeFailed ..
  simpa only [State.store, Prod.mk.injEq] using hs

end Sys2Proof.Machine
end

section
/-!
SUPPORT. The Loref server (02_object_dictionary.md R51 to R82, R594 to R596): what a frame says where it stands, the way of a frame through a
ready mailbox to its execution, and sessions that open, authenticate and end.
-/

namespace Sys2Proof.Machine

/-! ### Octets (R5) -/

@[simp] theorem length_natLe (n v : Nat) : (natLe n v).length = n := by
  induction n generalizing v with
  | zero => rfl
  | succ n ih => simp [natLe, ih]

theorem leNat_natLe (n v : Nat) : leNat (natLe n v) = v % 256 ^ n := by
  induction n generalizing v with
  | zero => simp [natLe, leNat, Nat.mod_one]
  | succ n ih =>
    rw [natLe, leNat, ih, Nat.pow_succ', Nat.mod_mul]
    simp

/-- A number reads back where it was written. -/
theorem leAt_natLe (a b : Bytes) (n v : Nat) : leAt (a ++ (natLe n v ++ b)) a.length n = v % 256 ^ n := by
  rw [leAt, List.drop_left, List.take_left' (length_natLe n v), leNat_natLe]

theorem leAt_append_left {a b : Bytes} {o n : Nat} (h : o + n ≤ a.length) : leAt (a ++ b) o n = leAt a o n := by
  rw [leAt, leAt, List.drop_append_of_le_length (by omega), List.take_append_of_le_length (by rw [List.length_drop]; omega)]

/-! ### Frames (R51, R52) -/

section
variable (op plen session seq : Nat) (rest : Bytes)

@[simp] theorem length_lop2Head : (lop2Head op plen session seq).length = 16 := by simp [lop2Head]

theorem leAt_lop2Head_ver : leAt (lop2Head op plen session seq ++ rest) 0 1 = 2 := by
  simpa [lop2Head] using leAt_natLe [] (natLe 1 op ++ natLe 2 plen ++ natLe 4 session ++ natLe 8 seq ++ rest) 1 2

theorem leAt_lop2Head_op : leAt (lop2Head op plen session seq ++ rest) 1 1 = op % 256 := by
  simpa [lop2Head] using leAt_natLe (natLe 1 2) (natLe 2 plen ++ natLe 4 session ++ natLe 8 seq ++ rest) 1 op

theorem leAt_lop2Head_plen : leAt (lop2Head op plen session seq ++ rest) 2 2 = plen % 2 ^ 16 := by
  simpa [lop2Head] using leAt_natLe (natLe 1 2 ++ natLe 1 op) (natLe 4 session ++ natLe 8 seq ++ rest) 2 plen

theorem leAt_lop2Head_session : leAt (lop2Head op plen session seq ++ rest) 4 4 = session % 2 ^ 32 := by
  simpa [lop2Head] using leAt_natLe (natLe 1 2 ++ natLe 1 op ++ natLe 2 plen) (natLe 8 seq ++ rest) 4 session

theorem leAt_lop2Head_seq : leAt (lop2Head op plen session seq ++ rest) 8 8 = seq % 2 ^ 64 := by
  simpa [lop2Head] using leAt_natLe (natLe 1 2 ++ natLe 1 op ++ natLe 2 plen ++ natLe 4 session) rest 8 seq

theorem frameLength_lop2Head {op plen session seq : Nat} {rest : Bytes} (hop : op < 256) (hp : plen < 2 ^ 16) :
    frameLength (lop2Head op plen session seq ++ rest) = some (16 + plen + if op = 0x10 then 0 else 16) := by
  have hlen : 4 ≤ (lop2Head op plen session seq ++ rest).length := by simp; omega
  rw [frameLength, if_pos ⟨leAt_lop2Head_ver .., hlen⟩, leAt_lop2Head_plen, leAt_lop2Head_op, Nat.mod_eq_of_lt hop, Nat.mod_eq_of_lt hp]

end

/-! ### A frame by the mailbox (R60, R77, R78) -/

section
variable {s : State}

/-- What a ready mailbox says. -/
theorem State.mailboxReady_iff : s.mailboxReady = true ↔
    s.barServes = true ∧ s.supServes = true ∧ s.lop.mbxBusy = false ∧ s.isl.responses = [] ∧ s.bar0Quiet 2 = true := by
  simp [State.mailboxReady, State.bar0Quiet, and_assoc]

/-- A frame rings the doorbell of a mailbox that is not busy, and arrives. -/
theorem State.transfer_mailbox {b : Bytes} (hs : s.barServes = true) (hq : s.bar0Quiet 2 = true) (hb : s.lop.mbxBusy = false)
    (h1 : 1 ≤ b.length) (h2 : b.length ≤ 4096) : s.transfer ⟨0, false, 0, 0⟩ b = (s.doorbellRung b).arrive ⟨0, false, 0, 0⟩ b := by
  have hframe : (s.modHost fun h => { h with mbxReq := (b ++ h.mbxReq.drop b.length).take 4096 }).mailFrame b.length = b := by
    have hlen : b.length ≤ ((b ++ s.host.mbxReq.drop b.length).take 4096).length := by simp; omega
    have htake : ((b ++ s.host.mbxReq.drop b.length).take 4096).take b.length = b := by
      rw [List.take_take, Nat.min_eq_left h2, List.take_left]
    show ((b ++ s.host.mbxReq.drop b.length).take 4096).take b.length
      ++ List.replicate (b.length - ((b ++ s.host.mbxReq.drop b.length).take 4096).length) 0 = b
    rw [htake, Nat.sub_eq_zero_of_le hlen]
    simp
  have hlen : ¬ (b.length = 0 ∨ 4096 < b.length) := by omega
  show s.bar0Access 2 (fun s => s.mailbox b.length b) = _
  rw [s.bar0Access_quiet 2 _ hs hq, State.mailbox]
  simp only [if_neg hlen, hb, hframe]
  rfl

theorem State.arrive_lop2 {b : Bytes} (h : b.length ≤ 4096) (hv : leAt b 0 1 = 2) :
    s.arrive ⟨0, false, 0, 0⟩ b = s.lop2Frame ⟨0, false, 0, 0⟩ b := by
  rw [State.arrive, if_neg (show ¬ frameLimit 0 false < b.length from h.not_gt), if_pos hv]

/-- A state without a response that waits has nothing to send first (R60). -/
theorem State.drained_of_responses (h : s.isl.responses = []) : s.drained = s := by
  rw [State.drained, State.drainWrites, if_pos h]

theorem State.enqueue_ready (q : LopReq) (hs : s.supServes = true) (h : s.isl.responses = []) : s.enqueue q = s.execute q := by
  rw [State.enqueue, if_pos hs, State.drained_of_responses h]

/-! ### Frames of a session (R52, R66, R67, R595) -/

theorem length_lop2Octets (op : Nat) (f : SecFrame) : (lop2Octets op f).length = 32 + f.cipher.length := by
  simp [lop2Octets]
  omega

/-- A frame of a session goes to the check of its session. -/
theorem State.lop2Frame_octets (v : Via) {op : Nat} {f : SecFrame} (hop : op ∈ authOpcodes) (hl : f.cipher.length ≤ 4064) :
    s.lop2Frame v (lop2Octets op f) = s.takeIn v (frameHead op f) f.cipher ((f.tag ++ List.replicate 16 0).take 16) := by
  have hop' : op < 256 ∧ op ≠ 0x10 := by
    fin_cases hop <;> decide
  have e : lop2Octets op f = frameHead op f ++ (f.cipher ++ (f.tag ++ List.replicate 16 0).take 16) := List.append_assoc ..
  have hlen := length_lop2Octets op f
  have hhead : (frameHead op f).length = 16 := length_lop2Head ..
  rw [State.lop2Frame]
  rw [if_neg, e]
  · have h1 : leAt (frameHead op f ++ (f.cipher ++ (f.tag ++ List.replicate 16 0).take 16)) 1 1 = op := by
      rw [frameHead, leAt_lop2Head_op, Nat.mod_eq_of_lt hop'.1]
    have h2 : leAt (frameHead op f ++ (f.cipher ++ (f.tag ++ List.replicate 16 0).take 16)) 2 2 = f.cipher.length := by
      rw [frameHead, leAt_lop2Head_plen, Nat.mod_eq_of_lt (by omega)]
    rw [h1, h2, if_neg hop'.2, if_pos (List.elem_iff.2 hop), List.take_left' hhead, List.drop_left' hhead, List.take_left,
      ← List.drop_drop, List.drop_left' hhead, List.drop_left]
  · rw [hlen, e, frameHead, frameLength_lop2Head hop'.1 (by omega), if_neg hop'.2]
    simp
    omega

/-- What a session accepts, part by part. -/
theorem State.acceptable_iff {op : Nat} {f : SecFrame} : s.acceptable op f = true ↔
    (f.cipher.length ≤ 4064 ∧ f.session < 2 ^ 32 ∧ f.seq < 2 ^ 63 ∧ f.tag.length = 16) ∧ ∃ x, s.session f.session = some x
      ∧ (x.auth = true ∨ op = 0x11) ∧ x.rxSeq < f.seq
      ∧ gcmTag (s.sessKey x) ((frameHead op f).drop 4) (frameHead op f) f.cipher = f.tag := by
  cases h : s.session f.session <;> simp [State.acceptable, and_assoc, h]

theorem State.session_id {id : Nat} {x : Session} (h : s.session id = some x) : x.id = id := by
  simpa using List.find?_some h

theorem leAt_frameHead_op {op : Nat} {f : SecFrame} (h : op < 256) : leAt (frameHead op f) 1 1 = op := by
  rw [← List.append_nil (frameHead op f), frameHead, leAt_lop2Head_op, Nat.mod_eq_of_lt h]

theorem leAt_frameHead_session {op : Nat} {f : SecFrame} (h : f.session < 2 ^ 32) : leAt (frameHead op f) 4 4 = f.session := by
  rw [← List.append_nil (frameHead op f), frameHead, leAt_lop2Head_session, Nat.mod_eq_of_lt h]

theorem leAt_frameHead_seq {op : Nat} {f : SecFrame} (h : f.seq < 2 ^ 63) : leAt (frameHead op f) 8 8 = f.seq := by
  rw [← List.append_nil (frameHead op f), frameHead, leAt_lop2Head_seq, Nat.mod_eq_of_lt (h.trans (by norm_num))]

/-- A frame of no session is discarded and counted. -/
theorem State.takeIn_unknown (v : Via) {op : Nat} {f : SecFrame} (text tag : Bytes) (hid : f.session < 2 ^ 32) (hseq : f.seq < 2 ^ 63)
    (h : s.session f.session = none) : s.takeIn v (frameHead op f) text tag = s.refuse v Obj.LOREF_AUTH_FAIL := by
  have h4 := leAt_frameHead_session (op := op) hid
  have h8 := leAt_frameHead_seq (op := op) hseq
  rw [State.takeIn]
  simp only [h4, h8, h, if_neg hseq.not_ge]

/-- An accepted frame of a session is decrypted and starts. -/
theorem State.takeIn_accepted (v : Via) {op : Nat} {f : SecFrame} {x : Session} (hop : op < 256) (hid : f.session < 2 ^ 32) (hseq : f.seq < 2 ^ 63)
    (h : s.session f.session = some x) (ha : x.auth = true ∨ op = 0x11) (hrx : x.rxSeq < f.seq)
    (ht : gcmTag (s.sessKey x) ((frameHead op f).drop 4) (frameHead op f) f.cipher = f.tag) :
    s.takeIn v (frameHead op f) f.cipher f.tag
      = (s.modSession f.session fun y => { y with rxSeq := f.seq, lastAt := s.mono }).enqueue
          ⟨v, op, f.session, gcmCrypt (s.sessKey x) ((frameHead op f).drop 4) f.cipher⟩ := by
  have h1 := leAt_frameHead_op (f := f) hop
  have h4 := leAt_frameHead_session (op := op) hid
  have h8 := leAt_frameHead_seq (op := op) hseq
  have ha' : ¬ ((!x.auth) = true ∧ op ≠ 0x11) := by
    rintro ⟨hx, hne⟩
    rcases ha with ha | ha
    · simp [ha] at hx
    · exact hne ha
  rw [State.takeIn]
  simp only [h1, h4, h8, h, if_neg hseq.not_ge, if_neg ha', ht, ne_eq, not_true_eq_false, if_false, if_neg hrx.not_ge, State.session_id h]

/-- The way of an accepted frame: by the ready mailbox to its execution, in the state that acceptance leaves (R52, R60, R67). -/
theorem State.transfer_accepted {op : Nat} {f : SecFrame} (hm : s.mailboxReady = true) (hop : op ∈ authOpcodes)
    (ha : s.acceptable op f = true) :
    s.transfer ⟨0, false, 0, 0⟩ (lop2Octets op f) = (s.accepted op f).execute (s.requestOf op f) := by
  obtain ⟨hbar, hsup, hbusy, hresp, hq⟩ := State.mailboxReady_iff.1 hm
  obtain ⟨⟨hl, hid, hseq, htag⟩, x, hx, hauth, hrx, ht⟩ := State.acceptable_iff.1 ha
  have hop' : op < 256 := by
    fin_cases hop <;> decide
  have hlen := length_lop2Octets op f
  have hver : leAt (lop2Octets op f) 0 1 = 2 := by
    rw [lop2Octets, List.append_assoc, leAt_lop2Head_ver]
  have hreq : s.requestOf op f = ⟨⟨0, false, 0, 0⟩, op, f.session, gcmCrypt (s.sessKey x) ((frameHead op f).drop 4) f.cipher⟩ := by
    rw [State.requestOf, hx]
  rw [State.transfer_mailbox hbar hq hbusy (by omega) (by omega), State.arrive_lop2 (by omega) hver, State.lop2Frame_octets _ hop hl,
    List.take_left' htag, hreq]
  refine (State.takeIn_accepted (s := s.doorbellRung (lop2Octets op f)) ⟨0, false, 0, 0⟩ hop' hid hseq hx hauth hrx ht).trans ?_
  exact State.enqueue_ready _ hsup hresp

/-! ### Sessions, found and changed (R63) -/

theorem State.session_modSession {id : Nat} {g : Session → Session} {x : Session} (h : s.session id = some x) (hg : ∀ y, (g y).id = y.id) :
    (s.modSession id g).session id = some (g x) := by
  have hp : ((fun x : Session => x.id == id) ∘ fun x : Session => if x.id = id then g x else x) = fun x => x.id == id := by
    funext y
    by_cases hy : y.id = id <;> simp [hy, hg]
  show (s.lop.sessions.map fun x => if x.id = id then g x else x).find? (fun x => x.id == id) = _
  rw [List.find?_map, hp]
  have hf : s.lop.sessions.find? (fun x => x.id == id) = some x := h
  rw [hf, Option.map_some, if_pos (State.session_id h)]

theorem State.authSession_of_session {id : Nat} {x : Session} (h : s.session id = some x) (ha : x.auth = true) : s.authSession id = some x := by
  obtain ⟨hx, as, bs, hl, hn⟩ := List.find?_eq_some_iff_append.1 h
  refine List.find?_eq_some_iff_append.2 ⟨by simpa [ha] using hx, as, bs, hl, fun a m => ?_⟩
  have := hn a m
  simp_all

/-- The session of an accepted frame. -/
theorem State.authSession_accepted {op : Nat} {f : SecFrame} {x : Session} (h : s.session f.session = some x) (ha : x.auth = true) :
    (s.accepted op f).authSession f.session = some { x with rxSeq := f.seq, lastAt := s.mono } :=
  State.authSession_of_session (State.session_modSession (s := s.doorbellRung (lop2Octets op f)) h fun _ => rfl) ha

/-! ### A request of a session (R57, R68) -/

section
variable {q : LopReq} {x : Session} (opcode : Nat) (run : Option (State → Session → State))
variable (hx : s.authSession q.session = some x)
include hx

theorem State.inSession_repeated {r : Resp} (hp : 2 ≤ q.payload.length) (hk : x.kept.find? (fun r => r.reqId == q.reqId) = some r) :
    s.inSession q opcode run = s.send { r with via := q.via } false := by
  simp only [State.inSession, hx, if_neg hp.not_gt, hk]

theorem State.inSession_run {g : State → Session → State} (hk : x.kept.find? (fun r => r.reqId == q.reqId) = none) :
    s.inSession q opcode (some g) = g s x := by
  simp only [State.inSession, hx, hk, ite_self]

theorem State.inSession_malformed (hk : x.kept.find? (fun r => r.reqId == q.reqId) = none) :
    s.inSession q opcode none = (s.count Obj.LOREF_FORMAT_ERR).send (q.resp opcode q.reqId 0x0F []) (decide (2 ≤ q.payload.length)) := by
  simp only [State.inSession, hx, hk, ite_self]

end

end

theorem exec_read (v : Via) (f : SecFrame) (s : State) : exec (.read v f) s = .next (s.transfer v (lop2Octets 0x01 f)) := rfl

theorem exec_write (v : Via) (f : SecFrame) (s : State) : exec (.write v f) s = .next (s.transfer v (lop2Octets 0x02 f)) := rfl

theorem exec_info (v : Via) (f : SecFrame) (s : State) : exec (.info v f) s = .next (s.transfer v (lop2Octets 0x03 f)) := rfl

theorem exec_auth (v : Via) (f : SecFrame) (s : State) : exec (.auth v f) s = .next (s.transfer v (lop2Octets 0x11 f)) := rfl

theorem exec_close (v : Via) (f : SecFrame) (s : State) : exec (.close v f) s = .next (s.transfer v (lop2Octets 0x12 f)) := rfl

theorem State.execute_read (s t : State) (f : SecFrame) : t.execute (s.requestOf 0x01 f)
    = t.inSession (s.requestOf 0x01 f) 0x81 ((s.requestOf 0x01 f).reads.map fun is t _ => t.runRead (s.requestOf 0x01 f) is) := rfl

theorem State.execute_write (s t : State) (f : SecFrame) : t.execute (s.requestOf 0x02 f)
    = t.inSession (s.requestOf 0x02 f) 0x82 ((s.requestOf 0x02 f).writes.map fun is t x => t.runWrite x (s.requestOf 0x02 f) is) := rfl

theorem State.execute_info (s t : State) (f : SecFrame) : t.execute (s.requestOf 0x03 f)
    = t.inSession (s.requestOf 0x03 f) 0x83 ((s.requestOf 0x03 f).reads.map fun is t _ => t.runInfo (s.requestOf 0x03 f) is) := rfl

/-- Settles O13: the frame comes to its execution (`State.transfer_accepted`), which is one of the three outcomes of `State.inSession`. -/
theorem requestsAreServed : Obligations.RequestsAreServed := by
  refine ⟨fun s f x hm hx ha => ⟨fun hacc => ⟨fun items hi hk => ?read, fun r hp hk => ?readAgain⟩,
    fun hacc => ⟨fun items hi hk => ?write, fun r hp hk => ?writeAgain, fun hp hi hk => ?writeBad⟩, fun hacc items hi hk => ?info,
    fun hacc => ?close⟩, fun s f hm hacc => ?auth, fun s f hm hl hid hseq hx => ?unknown⟩
  case read =>
    rw [exec_read, State.transfer_accepted hm (by decide) hacc, State.execute_read, hi]
    exact congrArg _ (State.inSession_run (x := { x with rxSeq := f.seq, lastAt := s.mono }) _ (State.authSession_accepted hx ha) hk)
  case readAgain =>
    rw [exec_read, State.transfer_accepted hm (by decide) hacc, State.execute_read]
    exact congrArg _ (State.inSession_repeated (x := { x with rxSeq := f.seq, lastAt := s.mono }) _ _ (State.authSession_accepted hx ha) hp hk)
  case write =>
    rw [exec_write, State.transfer_accepted hm (by decide) hacc, State.execute_write, hi]
    exact congrArg _ (State.inSession_run (x := { x with rxSeq := f.seq, lastAt := s.mono }) _ (State.authSession_accepted hx ha) hk)
  case writeAgain =>
    rw [exec_write, State.transfer_accepted hm (by decide) hacc, State.execute_write]
    exact congrArg _ (State.inSession_repeated (x := { x with rxSeq := f.seq, lastAt := s.mono }) _ _ (State.authSession_accepted hx ha) hp hk)
  case writeBad =>
    rw [exec_write, State.transfer_accepted hm (by decide) hacc, State.execute_write, hi, Option.map_none,
      State.inSession_malformed (x := { x with rxSeq := f.seq, lastAt := s.mono }) _ (State.authSession_accepted hx ha) hk, decide_eq_true hp]
  case info =>
    rw [exec_info, State.transfer_accepted hm (by decide) hacc, State.execute_info, hi]
    exact congrArg _ (State.inSession_run (x := { x with rxSeq := f.seq, lastAt := s.mono }) _ (State.authSession_accepted hx ha) hk)
  case close =>
    rw [exec_close, State.transfer_accepted hm (by decide) hacc]
    rfl
  case auth =>
    rw [exec_auth, State.transfer_accepted hm (by decide) hacc]
    rfl
  case unknown =>
    obtain ⟨hbar, -, hbusy, -, hq⟩ := State.mailboxReady_iff.1 hm
    have hlen := length_lop2Octets 0x01 f
    have hver : leAt (lop2Octets 0x01 f) 0 1 = 2 := by
      rw [lop2Octets, List.append_assoc, leAt_lop2Head_ver]
    rw [exec_read, State.transfer_mailbox hbar hq hbusy (by omega) (by omega), State.arrive_lop2 (by omega) hver,
      State.lop2Frame_octets _ (by decide) hl, State.takeIn_unknown (s := s.doorbellRung (lop2Octets 0x01 f)) _ _ _ hid hseq hx]
    rfl

/-! ### OPEN (R63, R64, R594) -/

section
variable {s : State}

theorem exec_openSession (v : Via) (session seq : Nat) (b : Bytes) (s : State) :
    exec (.openSession v session seq b) s = .next (s.transfer v (openOctets session seq b)) := rfl

/-- An OPEN by a ready mailbox runs in the state that its doorbell leaves. -/
theorem State.transfer_open {b : Bytes} (hm : s.mailboxReady = true) (hb : b.length = 20) :
    s.transfer ⟨0, false, 0, 0⟩ (openOctets 0 0 b) = (s.doorbellRung (openOctets 0 0 b)).runOpen ⟨⟨0, false, 0, 0⟩, 0x10, 0, b⟩ := by
  obtain ⟨hbar, hsup, hbusy, hresp, hq⟩ := State.mailboxReady_iff.1 hm
  have hlen : (openOctets 0 0 b).length = 36 := by simp [openOctets, hb]
  have hver : leAt (openOctets 0 0 b) 0 1 = 2 := leAt_lop2Head_ver ..
  have hframe : frameLength (openOctets 0 0 b) = some (openOctets 0 0 b).length := by
    rw [hlen, openOctets, frameLength_lop2Head (by norm_num) (by omega), hb]
    rfl
  rw [State.transfer_mailbox hbar hq hbusy (by omega) (by omega), State.arrive_lop2 (by omega) hver, State.lop2Frame,
    hframe, hlen]
  simp only [openOctets, leAt_lop2Head_op, leAt_lop2Head_plen, leAt_lop2Head_session, leAt_lop2Head_seq, hb,
    List.drop_left' (length_lop2Head ..)]
  exact State.enqueue_ready _ hsup hresp

/-- An answer by the mailbox: the request is no longer outstanding, and the frame is the newest output. -/
theorem State.sendOut_mailbox {r : Resp} (hv : r.via.transport = 0) (hbar : s.barServes = true) (hf : s.respFrame r ≠ []) :
    s.sendOut r = ((s.mbxFree 0).mbxAnswer (s.respFrame r)).emit (.lop r.via (s.respFrame r)) := by
  have hb : (s.mbxFree 0).barServes = true := hbar
  rw [State.sendOut, hv, if_neg hf]
  exact if_pos hb

/-- The frame of an OPEN response, in plaintext. -/
theorem State.respFrame_openResp (v : Via) (id status nonce : Nat) : s.respFrame (openResp v id status nonce)
    = lop2Head 0x90 32 0 (2 ^ 63) ++ (natLe 1 status ++ [0, 0, 0] ++ natLe 4 id ++ natLe 16 nonce ++ natLe 8 s.fw.otp.eui) := by
  have hp : (openResp v id status nonce).payload s.fw.otp.eui
      = natLe 1 status ++ [0, 0, 0] ++ natLe 4 id ++ natLe 16 nonce ++ natLe 8 s.fw.otp.eui := rfl
  have hl : (natLe 1 status ++ [0, 0, 0] ++ natLe 4 id ++ natLe 16 nonce ++ natLe 8 s.fw.otp.eui).length = 32 := by simp
  show lop2Head 0x90 ((openResp v id status nonce).payload s.fw.otp.eui).length 0 (2 ^ 63)
    ++ (openResp v id status nonce).payload s.fw.otp.eui = _
  rw [hp, hl]

/-- What an OPEN's answer by the mailbox leaves. -/
theorem State.sendOut_openResp (id status nonce : Nat) (hbar : s.barServes = true) :
    ∃ t : State, s.sendOut (openResp ⟨0, false, 0, 0⟩ id status nonce) = t ∧ t.core = (s.mbxFree 0).core
      ∧ Out.lop ⟨0, false, 0, 0⟩ (lop2Head 0x90 32 0 (2 ^ 63)
          ++ (natLe 1 status ++ [0, 0, 0] ++ natLe 4 id ++ natLe 16 nonce ++ natLe 8 s.fw.otp.eui)) ∈ t.outbox := by
  have hf := s.respFrame_openResp ⟨0, false, 0, 0⟩ id status nonce
  have hne : s.respFrame (openResp ⟨0, false, 0, 0⟩ id status nonce) ≠ [] := by
    rw [hf]
    exact List.append_ne_nil_of_left_ne_nil (List.ne_nil_of_length_eq_add_one (length_lop2Head ..)) _
  refine ⟨_, State.sendOut_mailbox rfl hbar hne, (State.core_emit ..).trans (State.core_mbxAnswer ..), ?_⟩
  rw [hf]
  exact List.mem_cons_self ..

/-- The session that an OPEN adds. -/
def State.opened (s : State) (q : LopReq) (id nonce : Nat) : Session :=
  ⟨id, leAt q.payload 0 1, q.via.transport, if leAt q.payload 0 1 = 3 then s.sec.presClass else 0, false, s.mono, s.mono, 0, 0, 0,
    leAt q.payload 4 16, nonce, 0, []⟩

theorem State.runOpen_open {q : LopReq} (h : s.openCheck (leAt q.payload 0 1) = 0) :
    ∃ draw nonce free id : Nat, id = freshId (s.lop.sessions.map fun x => x.id) 13 (draw % (2 ^ 32 - 1) + 1)
      ∧ s.runOpen q = (State.modLop { s with free := free } fun l => { l with sessions := l.sessions ++ [s.opened q id nonce] }).sendOut
        (openResp q.via id 0 nonce) := by
  refine ⟨s.drawn.draw.1, s.drawn.drawn.draw.1 % 2 ^ 128, s.drawn.drawn.drawn.free, _, rfl, ?_⟩
  rw [State.runOpen, if_pos h]
  rfl

theorem State.runOpen_refused {q : LopReq} (h : s.openCheck (leAt q.payload 0 1) ≠ 0) :
    ∃ nonce free ro, s.runOpen q
      = State.sendOut { s with free := free, ro := ro } (openResp q.via 0 (s.openCheck (leAt q.payload 0 1)) nonce) := by
  refine ⟨s.drawn.drawn.draw.1 % 2 ^ 128, s.drawn.drawn.drawn.free,
    if s.openCheck (leAt q.payload 0 1) = 7 then (s.count Obj.LOREF_BUSY).ro else s.ro, ?_⟩
  rw [State.runOpen, if_neg h]
  split_ifs <;> rfl

/-! ### Sessions end (R65, R69) -/

theorem State.endSession_sessions (id : Nat) : (s.endSession id).lop.sessions = s.lop.sessions.filter fun y => y.id != id := by
  unfold State.endSession
  split
  case h_1 h =>
    symm
    rw [List.filter_eq_self]
    intro x hx
    simpa using List.find?_eq_none.1 h x hx
  case h_2 =>
    extract_lets
    split_ifs <;> rfl

@[simp] theorem State.session_endSession (id : Nat) : (s.endSession id).session id = none := by
  rw [State.session, State.endSession_sessions, List.find?_eq_none]
  intro x hx
  simpa using (List.mem_filter.1 hx).2

theorem State.session_endSession_ne {id j : Nat} (h : j ≠ id) : (s.endSession id).session j = s.session j := by
  rw [State.session, State.endSession_sessions, List.find?_filter]
  refine congrArg (fun p => s.lop.sessions.find? p) (funext fun x => ?_)
  by_cases hx : x.id = j <;> simp [hx, h]

theorem State.endSession_ro (id : Nat) : (s.endSession id).ro = s.ro := by
  unfold State.endSession
  split
  · rfl
  · extract_lets
    split_ifs <;> rfl

theorem State.session_mbxFree (k id : Nat) : (s.mbxFree k).session id = s.session id := by
  unfold State.mbxFree
  split_ifs <;> rfl

theorem State.mbxFree_ro (k : Nat) : (s.mbxFree k).ro = s.ro := by
  unfold State.mbxFree
  split_ifs <;> rfl

/-! ### AUTH and CLOSE (R595, R596) -/

theorem State.sendOut_sessions (r : Resp) : (s.sendOut r).lop.sessions = s.lop.sessions :=
  (congrArg (fun u : State => u.lop.sessions) (s.unsent_sendOut r) :)

theorem State.sendOut_sec (r : Resp) : (s.sendOut r).sec = s.sec := (congrArg State.sec (s.unsent_sendOut r) :)

/-- An answer to a session whose sequences have not run out takes its next SEQ (R67). -/
theorem State.send_continues {r : Resp} {x : Session} (hx : s.session r.session = some x) (ht : x.txSeq + 2 < 2 ^ 63)
    (hr : x.rxSeq + 1 < 2 ^ 63) : s.send r false = (s.modSession r.session fun y => { y with txSeq := y.txSeq + 1 }).sendOut
      { r with seq := 2 ^ 63 + (x.txSeq + 1) } := by
  have hlast : ¬ (lastSeq ≤ x.txSeq + 1 ∨ lastSeq ≤ x.rxSeq) := by
    unfold lastSeq
    omega
  simp only [State.send, hx, if_neg hlast]
  rfl

theorem State.runAuth_proved {q : LopReq} {x : Session} {k : Nat} (hx : s.session q.session = some x) (ha : x.auth = false)
    (hn : q.nonceOk x = true) (hc : s.authCount < 8) (hk : s.freeKeySlot = some k) : s.runAuth q = s.authenticate q x k := by
  simp [State.runAuth, hx, ha, hn, hk, hc.not_ge]

theorem State.runAuth_failed {q : LopReq} {x : Session} (hx : s.session q.session = some x) (ha : x.auth = false)
    (hn : q.nonceOk x = false) : s.runAuth q = ((s.count Obj.LOREF_AUTH_FAIL).endSession x.id).mbxFree q.via.transport := by
  simp [State.runAuth, hx, ha, hn]

theorem State.runClose_open {q : LopReq} {x : Session} (hx : s.authSession q.session = some x) :
    s.runClose q = (s.send (q.resp 0x92 0 0 []) false).endSession q.session := by
  simp [State.runClose, hx]

/-- A free key slot is not retired. -/
theorem State.freeKeySlot_spec {k : Nat} (h : s.freeKeySlot = some k) : s.slotRetired k = false := by
  have := List.find?_some h
  simp only [Bool.and_eq_true, Bool.not_eq_true'] at this
  exact this.1

/-- A slot that is not retired takes the key. -/
theorem State.writeSlot_slot {k : Fin 64} (st key : Nat) (h : s.slotRetired k = false) :
    (s.writeSlot k st key).sec.slot[k] = ⟨st, (s.sec.slot[k].gen + 1) % 2 ^ 32, key⟩ := by
  simp [State.writeSlot, vmod, h]

/-- The state of an AUTH before its answer: the session is authenticated, and its key is in its slot. -/
def State.keyed (s : State) (x : Session) (k : Fin 64) : State :=
  (s.modSession x.id fun y => { y with auth := true, keySlot := k, lastAt := s.mono }).writeSlot k 2
    (kdf (s.roleKey x.role) 4 [x.clientNonce, x.deviceNonce, x.id])

theorem State.authenticate_eq (q : LopReq) (x : Session) (k : Fin 64) : s.authenticate q x k = (s.keyed x k).send (q.authAnswer x) false := by
  have hf : (finD k.val : Fin 64) = k := Fin.ofNat_val_eq_self k
  rw [State.authenticate, hf, State.keyed]

theorem State.session_keyed {id : Nat} {x : Session} (k : Fin 64) (hx : s.session id = some x) :
    (s.keyed x k).session id = some { x with auth := true, keySlot := k, lastAt := s.mono } := by
  obtain rfl := State.session_id hx
  exact State.session_modSession hx fun _ => rfl

theorem State.slot_keyed {x : Session} {k : Fin 64} (hk : s.slotRetired k = false) :
    (s.keyed x k).sec.slot[k] = ⟨2, (s.sec.slot[k].gen + 1) % 2 ^ 32, kdf (s.roleKey x.role) 4 [x.clientNonce, x.deviceNonce, x.id]⟩ :=
  State.writeSlot_slot (s := s.modSession x.id fun y => { y with auth := true, keySlot := k, lastAt := s.mono }) 2 _ hk

/-- The answer of an AUTH takes the session's SEQ and leaves its key. -/
theorem State.send_authAnswer {q : LopReq} {x y : Session} (hy : s.session q.session = some y) (ht : y.txSeq + 2 < 2 ^ 63)
    (hr : y.rxSeq + 1 < 2 ^ 63) : (s.send (q.authAnswer x) false).session q.session = some { y with txSeq := y.txSeq + 1 }
      ∧ (s.send (q.authAnswer x) false).sec = s.sec := by
  rw [State.send_continues (r := q.authAnswer x) hy ht hr]
  refine ⟨?_, State.sendOut_sec _⟩
  rw [State.session, State.sendOut_sessions]
  exact State.session_modSession hy fun _ => rfl

end

/-- Settles O15: OPEN by its two outcomes, AUTH and CLOSE by the table and the slot that they leave. -/
theorem sessionsOpen : Obligations.SessionsOpen := by
  refine ⟨fun s b hm hwf hb => ⟨fun hc => ?opened, fun hc => ?refused⟩, fun s q x k hx ha hn hcount hk ht hr => ?proved,
    fun s q x hx ha hn => ?failed, fun s q x hx => ?closed⟩
  case opened =>
    obtain ⟨hbar, -, -, -, -⟩ := State.mailboxReady_iff.1 hm
    obtain ⟨draw, nonce, free, id, hid, hrun⟩ :=
      State.runOpen_open (s := s.doorbellRung (openOctets 0 0 b)) (q := ⟨⟨0, false, 0, 0⟩, 0x10, 0, b⟩) hc
    have hdraw := Nat.mod_lt draw (by norm_num : 0 < 2 ^ 32 - 1)
    have hlen : (s.lop.sessions.map fun x => x.id).length ≤ 13 := by
      rw [List.length_map]
      exact (s.sessionsWf_iff.1 hwf).length_le.trans (by norm_num)
    have hfresh : id ∉ s.lop.sessions.map fun x => x.id := hid ▸ freshId_fresh (Nat.succ_pos _) (by omega) (by norm_num) hlen
    have hpos : 0 < id := hid ▸ freshId_pos _ 13 (Nat.succ_pos _)
    obtain ⟨w, hw, hcore, hout⟩ := State.sendOut_openResp (s := State.modLop { s.doorbellRung (openOctets 0 0 b) with free := free } fun l =>
      { l with sessions := l.sessions ++ [s.opened ⟨⟨0, false, 0, 0⟩, 0x10, 0, b⟩ id nonce] }) id 0 nonce hbar
    refine ⟨w, id, nonce, ?_, hpos.ne', fun x hx e => hfresh (e ▸ List.mem_map_of_mem hx), State.lop_of_core hcore ▸ rfl,
      State.lop_of_core hcore ▸ rfl, (State.cfg_of_core hcore).trans rfl, (State.rev_of_core hcore).trans rfl, (State.sec_of_core hcore).trans rfl, hout⟩
    rw [exec_openSession, State.transfer_open hm hb, hrun]
    exact congrArg _ hw
  case refused =>
    obtain ⟨hbar, -, -, -, -⟩ := State.mailboxReady_iff.1 hm
    obtain ⟨nonce, free, ro, hrun⟩ :=
      State.runOpen_refused (s := s.doorbellRung (openOctets 0 0 b)) (q := ⟨⟨0, false, 0, 0⟩, 0x10, 0, b⟩) hc
    obtain ⟨w, hw, hcore, hout⟩ := State.sendOut_openResp (s := { s.doorbellRung (openOctets 0 0 b) with free := free, ro := ro })
      0 (s.openCheck (leAt b 0 1)) nonce hbar
    refine ⟨w, nonce, ?_, (congrArg (fun u : State => u.lop.sessions) hcore :), (State.cfg_of_core hcore).trans rfl, (State.sec_of_core hcore).trans rfl, hout⟩
    rw [exec_openSession, State.transfer_open hm hb, hrun]
    exact congrArg _ hw
  case proved =>
    rw [State.runAuth_proved hx ha hn hcount hk, State.authenticate_eq]
    have hret := State.freeKeySlot_spec hk
    obtain ⟨hs, hsec⟩ := State.send_authAnswer (x := x) (State.session_keyed k hx) ht hr
    exact ⟨_, hs, rfl, rfl, rfl, by rw [hsec, State.slot_keyed hret], by rw [hsec, State.slot_keyed hret]⟩
  case failed =>
    have hid := State.session_id hx
    rw [State.runAuth_failed hx ha hn, hid]
    refine ⟨?_, ?_⟩
    · rw [State.session_mbxFree]
      exact State.session_endSession _
    · rw [State.roN, State.roVal, State.mbxFree_ro, State.endSession_ro]
      rfl
  case closed =>
    rw [State.runClose_open hx]
    exact State.session_endSession _

/-! ### Sessions and requests that end (R61, R65, R77, R78) -/

section
variable {s : State}

theorem exec_sessionEnd (id : Nat) (s : State) : exec (.sessionEnd id) s = .next (s.sessionEnd id) := rfl

theorem exec_pendingSessionTimeout (id : Nat) (s : State) : exec (.pendingSessionTimeout id) s = .next (s.pendingTimeout id) := rfl

theorem exec_sessionIdleExpiry (id : Nat) (s : State) : exec (.sessionIdleExpiry id) s = .next (s.idleExpiry id) := rfl

theorem exec_requestWaitTimeout (i : Nat) (s : State) : exec (.requestWaitTimeout i) s = .next (s.waitTimeout i) := rfl

theorem exec_mbxDoorbell (length : Nat) (area : Bytes) (s : State) :
    exec (.mbxDoorbell length area) s = .next (s.bar0Access 2 fun s => s.mailbox length area) := rfl

theorem State.sessionEnd_known {id : Nat} (h : (s.authSession id).isSome = true) :
    s.sessionEnd id = ((s.endSession id).setAct Obj.SESSION_END 0).bumpRev Obj.SESSION_END := by
  rw [State.sessionEnd, State.sessionEndCheck, if_pos h]
  rfl

theorem State.sessionEnd_unknown {id : Nat} (h : s.authSession id = none) : s.sessionEnd id = s := by
  simp [State.sessionEnd, State.sessionEndCheck, h]

theorem State.bumpRev_rev_congr {t : State} (i : Nat) (h : t.rev = s.rev) : (t.bumpRev i).rev = (s.bumpRev i).rev := by
  have hr : t.revOf i = s.revOf i := by rw [State.revOf, h, State.revOf]
  simp only [State.bumpRev, hr, h]

theorem State.endSession_rev (id : Nat) : (s.endSession id).rev = s.rev := (congrArg (fun x => x.2.1) (s.store_endSession id) :)

theorem State.endSession_cfg (id : Nat) : (s.endSession id).cfg = s.cfg := (congrArg Prod.fst (s.store_endSession id) :)

theorem State.pendingTimeout_pending {id : Nat} {x : Session} (hx : s.session id = some x) (ha : x.auth = false) :
    s.pendingTimeout id = (s.toMono (x.openedAt + 5 * secHalfNs)).endSession id := by
  simp [State.pendingTimeout, hx, ha]

theorem State.idleExpiry_auth {id : Nat} {x : Session} (hx : s.authSession id = some x) :
    s.idleExpiry id = (s.toMono (x.lastAt + s.cfgN Obj.SESSION_IDLE_TIMEOUT * secHalfNs)).endSession id := by
  simp [State.idleExpiry, hx]

theorem State.mailbox_busy {length : Nat} (area : Bytes) (h1 : 1 ≤ length) (h2 : length ≤ 4096) (hb : s.lop.mbxBusy = true) :
    s.mailbox length area = (s.modHost fun h => { h with mbxReq := (area ++ h.mbxReq.drop area.length).take 4096 }).count
      Obj.LOREF_MBX_OVERLAP := by
  rw [State.mailbox, if_neg (by omega), if_pos hb]

theorem State.mailbox_free {length : Nat} (area : Bytes) (h1 : 1 ≤ length) (h2 : length ≤ 4096) (hb : s.lop.mbxBusy = false) :
    s.mailbox length area = (s.doorbellRung area).arrive ⟨0, false, 0, 0⟩ ((s.doorbellRung area).mailFrame length) := by
  rw [State.mailbox, if_neg (by omega), hb]
  rfl

end

/-- Settles O16: a session that ends leaves the table (`State.session_endSession`), and the mailbox has three outcomes. -/
theorem sessionsEnd : Obligations.SessionsEnd := by
  refine ⟨fun s id h => ?_, fun s id h => ?_, fun s id x hx ha => ?_, fun s id x hx => ?_, fun s i q k h => ?_,
    fun s length area hbar hq h1 h2 hb => ?_, fun s length area hbar hq h1 h2 hb => ?_, fun s length area hbar => ?_⟩
  · exact ⟨((s.endSession id).setAct Obj.SESSION_END 0).bumpRev Obj.SESSION_END, by rw [exec_sessionEnd, State.sessionEnd_known h],
      State.session_endSession id, fun j hj => State.session_endSession_ne hj, State.bumpRev_rev_congr _ (State.endSession_rev id),
      State.endSession_cfg id⟩
  · rw [exec_sessionEnd, State.sessionEnd_unknown h]
  · exact ⟨by rw [exec_pendingSessionTimeout, State.pendingTimeout_pending hx ha], State.session_endSession id⟩
  · exact ⟨by rw [exec_sessionIdleExpiry, State.idleExpiry_auth hx], State.session_endSession id⟩
  · rw [exec_requestWaitTimeout, State.waitTimeout, h]
    rfl
  · rw [exec_mbxDoorbell, s.bar0Access_quiet 2 _ hbar hq, State.mailbox_busy area h1 h2 hb]
    rfl
  · rw [exec_mbxDoorbell, s.bar0Access_quiet 2 _ hbar hq, State.mailbox_free area h1 h2 hb]
  · rw [exec_mbxDoorbell, s.bar0Access_unserved 2 _ hbar]

end Sys2Proof.Machine
end

section
/-!
SUPPORT. The transports of the Loref server (02_object_dictionary.md R72 to R82): datagrams, RS-485 transfers octet by octet, and LOP1 frames.
-/

namespace Sys2Proof.Machine

/-! ### Check sums (R72, R80) -/

/-- Eight steps of a check sum stay within its width. -/
theorem lt_eight_steps {f : Nat → Nat} {m c : Nat} (hf : ∀ {c}, c < m → f c < m) (h : c < m) : f (f (f (f (f (f (f (f c))))))) < m :=
  hf (hf (hf (hf (hf (hf (hf (hf h)))))))

theorem crc16Bit_lt {c : Nat} (h : c < 2 ^ 16) : crc16Bit c < 2 ^ 16 := by
  unfold crc16Bit
  split_ifs
  · exact Nat.mod_lt _ (by norm_num)
  · omega

theorem crc16_lt (bs : Bytes) : crc16 bs < 2 ^ 16 := by
  have key (c : Nat) (h : c < 2 ^ 16) : bs.foldl crc16Byte c < 2 ^ 16 := by
    induction bs generalizing c with
    | nil => exact h
    | cons b bs ih =>
      have hb : b.toNat * 256 < 2 ^ 16 := by
        have := b.isLt
        omega
      rw [List.foldl_cons]
      refine ih (crc16Byte c b) ?_
      simp only [crc16Byte]
      exact lt_eight_steps (f := crc16Bit) crc16Bit_lt (Nat.xor_lt_two_pow h hb)
  exact key _ (by norm_num)

theorem crc32cBit_lt {c : Nat} (h : c < 2 ^ 32) : crc32cBit c < 2 ^ 32 := by
  unfold crc32cBit
  split_ifs
  · exact Nat.xor_lt_two_pow (by omega) (by norm_num)
  · omega

theorem crc32c_lt (bs : Bytes) : crc32c bs < 2 ^ 32 := by
  have key (c : Nat) (h : c < 2 ^ 32) : bs.foldl crc32cByte c < 2 ^ 32 := by
    induction bs generalizing c with
    | nil => exact h
    | cons b bs ih =>
      have hb : b.toNat < 2 ^ 32 := b.isLt.trans (by norm_num)
      rw [List.foldl_cons]
      refine ih (crc32cByte c b) ?_
      simp only [crc32cByte]
      exact lt_eight_steps (f := crc32cBit) crc32cBit_lt (Nat.xor_lt_two_pow h hb)
  exact Nat.xor_lt_two_pow (key _ (by norm_num)) (by norm_num)

/-! ### Datagrams (R79) -/

section
variable {s : State}

theorem exec_lorefUdpDatagram (e : Fin 2) (v6 frag : Bool) (addr source port : Nat) (b : Bytes) (s : State) :
    exec (.lorefUdpDatagram e v6 frag addr source port b) s = .next (s.udpFrame e v6 frag addr source port b) := rfl

theorem State.udpFrame_discarded {e : Fin 2} {v6 frag : Bool} {addr source port : Nat} {b : Bytes}
    (h : frag = true ∨ frameLength b ≠ some b.length) : s.udpFrame e v6 frag addr source port b = s := by
  unfold State.udpFrame
  exact if_pos (.inr (.inr (.inr h)))

/-- A whole datagram that its port takes. -/
theorem State.udpFrame_taken {e : Fin 2} (v6 : Bool) (addr source port : Nat) {b : Bytes} (hon : s.ethOn e = true)
    (hup : (s.port.eth[e]).up = true) (hen : (s.cfgN Obj.LOREF_UDP_ENABLE).testBit e = true) (hf : frameLength b = some b.length) :
    s.udpFrame e v6 false addr source port b
      = if port = s.cfgN Obj.LOREF_UDP_PORT2 then
          (if leAt b 0 1 = 2 then s.arrive ⟨1 + e, v6, addr, source⟩ b else s.refuse ⟨1 + e, v6, addr, source⟩ Obj.LOREF_FORMAT_ERR)
        else if port = s.cfgN Obj.LOREF_UDP_PORT1 then
          (if leAt b 0 1 = 1 then s.arrive ⟨1 + e, v6, addr, source⟩ b else s.refuse ⟨1 + e, v6, addr, source⟩ Obj.LOREF_FORMAT_ERR)
        else s := by
  unfold State.udpFrame
  have hup' : s.port.eth[e.val].up = true := hup
  exact if_neg (by simp [hon, hup', hen, hf])

/-! ### RS-485 transfers (R80, R81) -/

/-- `t` is `s` with what a received character changes: counts, the UART, and the transfer of one UART. -/
def State.Hears (s t : State) (n : Fin 2) (x : Option Bytes) : Prop :=
  ∃ ro uart, t = { s with ro := ro, uart := uart, lop := { s.lop with rs485 := s.lop.rs485.set n x } }

theorem State.countEntry_eq (t : State) (n : Fin 4) (e : Nat) : t.countEntry n e = { t with ro := (t.countEntry n e).ro } := by
  unfold State.countEntry
  dsimp only
  split_ifs <;> rfl

section
variable {t : State} {n : Fin 2} {x : Option Bytes}

theorem State.Hears.transfer (h : s.Hears t n x) : t.lop.rs485[n] = x := by
  obtain ⟨ro, uart, rfl⟩ := h
  exact Vector.getElem_set_self _

theorem State.Hears.cfg (h : s.Hears t n x) : t.cfg = s.cfg := by
  obtain ⟨ro, uart, rfl⟩ := h
  rfl

theorem State.Hears.setRs485 (h : s.Hears t n x) (y : Option Bytes) : s.Hears (t.setRs485 n y) n y := by
  obtain ⟨ro, uart, rfl⟩ := h
  refine ⟨ro, uart, ?_⟩
  simp only [State.setRs485, State.modLop, Vector.set_set]

theorem State.Hears.countEntry (h : s.Hears t n x) (k : Fin 4) (e : Nat) : s.Hears (t.countEntry k e) n x := by
  rw [State.countEntry_eq]
  obtain ⟨ro, uart, rfl⟩ := h
  exact ⟨_, uart, rfl⟩

/-- A character of the transfer of a UART that Loref owns. -/
theorem State.rxTake_loref (hl : t.uartLoref (uartOf n) = true) (e : Nat) :
    t.rxTake (uartOf n) e false = (t.countEntry (uartOf n) e).rs485Char n e false := by
  have hn : (finD (uartOf n).val : Fin 2) = n := Fin.ofNat_val_eq_self n
  rw [State.rxTake, if_pos hl, hn]

theorem State.Hears.loref (h : s.Hears t n x) (hl : s.uartLoref (uartOf n) = true) : t.uartLoref (uartOf n) = true := by
  rw [State.uartLoref, State.cfgN, State.cfgVal, h.cfg]
  exact hl

/-- An address character starts a transfer of this device, or ends what is for another. -/
theorem State.Hears.address (h : s.Hears t n x) (hl : s.uartLoref (uartOf n) = true) {a : Nat} (ha : a < 256) :
    s.Hears (t.rxTake (uartOf n) ((0x100 + a) % 512) false) n
      (if a = s.cfgN Obj.LOREF_RS485_ADDRESS ∧ s.cfgN Obj.LOREF_RS485_ADDRESS ≠ 0 then some [] else none) := by
  have hc := h.countEntry (uartOf n) (0x100 + a)
  have hown : (t.countEntry (uartOf n) (0x100 + a)).cfgN Obj.LOREF_RS485_ADDRESS = s.cfgN Obj.LOREF_RS485_ADDRESS := by
    rw [State.cfgN, State.cfgVal, hc.cfg]
    rfl
  have hbit : (0x100 + a).testBit 8 = true := by
    rw [show 0x100 = 2 ^ 8 from rfl, Nat.testBit_two_pow_add_eq, Nat.testBit_lt_two_pow ha]
    rfl
  have hmod : (0x100 + a) % 256 = a := by omega
  rw [Nat.mod_eq_of_lt (by omega), State.rxTake_loref (h.loref hl), State.rs485Char, if_pos hbit, hown, hmod]
  exact hc.setRs485 _

theorem State.Hears.data (h : s.Hears t n x) (hl : s.uartLoref (uartOf n) = true) (c : Byte) : t.rxTake (uartOf n) (c.toNat % 512) false =
    match x with
    | none => t.countEntry (uartOf n) c.toNat
    | some b => (t.countEntry (uartOf n) c.toNat).rs485Octet n (b ++ [c]) := by
  have hc := h.countEntry (uartOf n) c.toNat
  have hbit : c.toNat.testBit 8 = false := Nat.testBit_lt_two_pow c.isLt
  have hlt := c.isLt
  rw [Nat.mod_eq_of_lt (by omega), State.rxTake_loref (h.loref hl), State.rs485Char, if_neg (by simp [hbit]), hc.transfer]
  cases x with
  | none => rfl
  | some b =>
    simp only [Bool.false_eq_true, if_false, BitVec.ofNat_toNat, BitVec.setWidth_eq]

/-! ### An RS-485 transfer octet by octet (R80) -/

/-- The length of a frame is known from its first octets: a part of a frame has none yet, or that of the frame. -/
theorem frameLength_prefix {p q : Bytes} (hp : p ≠ []) : frameLength p = none ∨ frameLength p = frameLength (p ++ q) := by
  have h1 : 0 + 1 ≤ p.length := List.length_pos_iff.2 hp
  have hv : leAt (p ++ q) 0 1 = leAt p 0 1 := leAt_append_left h1
  unfold frameLength
  rw [hv]
  by_cases h2 : leAt p 0 1 = 2 ∧ 4 ≤ p.length
  · have h4 : leAt p 0 1 = 2 ∧ 4 ≤ (p ++ q).length := ⟨h2.1, by simp; omega⟩
    exact .inr (by rw [if_pos h2, if_pos h4, leAt_append_left (by omega), leAt_append_left (by omega)])
  by_cases h3 : leAt p 0 1 = 1 ∧ 5 ≤ p.length
  · have h4 : ¬ (leAt p 0 1 = 2 ∧ 4 ≤ (p ++ q).length) := by omega
    have h5 : leAt p 0 1 = 1 ∧ 5 ≤ (p ++ q).length := ⟨h3.1, by simp; omega⟩
    exact .inr (by rw [if_neg h2, if_pos h3, if_neg h4, if_pos h5, leAt_append_left (by omega)])
  · exact .inl (by rw [if_neg h2, if_neg h3])

/-- What a transfer of `b` needs to come whole: a known VER, its own length, within the limit of its protocol. -/
structure Transfer (b : Bytes) : Prop where
  ver : leAt b 0 1 = 1 ∨ leAt b 0 1 = 2
  length : transferLength b = some b.length
  limit : b.length ≤ if leAt b 0 1 = 2 then 1028 else 1024

theorem State.rs485Octet_last {b : Bytes} (h : Transfer b) : t.rs485Octet n b = (t.setRs485 n none).rs485Whole n b := by
  have hv : ¬ (leAt b 0 1 ≠ 1 ∧ leAt b 0 1 ≠ 2) := by
    have := h.ver
    omega
  simp only [State.rs485Octet, if_neg hv, h.length, if_neg h.limit.not_gt, lt_irrefl, if_false]

/-- A proper part of a transfer waits for more. -/
theorem State.rs485Octet_part {p q : Bytes} (h : Transfer (p ++ q)) (hp : p ≠ []) (hq : q ≠ []) : t.rs485Octet n p = t.setRs485 n (some p) := by
  have hver : leAt (p ++ q) 0 1 = leAt p 0 1 := leAt_append_left (List.length_pos_iff.2 hp)
  have hv : ¬ (leAt p 0 1 ≠ 1 ∧ leAt p 0 1 ≠ 2) := by
    have := hver ▸ h.ver
    omega
  have hlt : p.length < (p ++ q).length := by
    have := List.length_pos_iff.2 hq
    rw [List.length_append]
    omega
  simp only [State.rs485Octet, if_neg hv]
  have hlim := h.limit
  rw [hver] at hlim
  rcases frameLength_prefix (q := q) hp with hn | he
  · simp only [transferLength, hn, Option.map_none]
  · have hlen : transferLength p = some (p ++ q).length := by
      rw [← h.length, transferLength, transferLength, he, hver]
    simp only [hlen, if_neg hlim.not_gt, if_pos hlt]

/-- The rest of a transfer, octet by octet: the last one makes it whole. -/
theorem State.Hears.rest {p q : Bytes} (hl : s.uartLoref (uartOf n) = true) (hF : Transfer (p ++ q)) (hq : q ≠ []) (h : s.Hears t n (some p)) :
    ∃ u, s.Hears u n none ∧ (q.map fun (x : Byte) => x.toNat).foldl (fun (t : State) (c : Nat) => t.rxTake (uartOf n) (c % 512) false) t
      = u.rs485Whole n (p ++ q) := by
  induction q generalizing p t with
  | nil => exact absurd rfl hq
  | cons c q ih =>
    have hc := h.countEntry (uartOf n) c.toNat
    rw [List.append_cons] at hF ⊢
    rw [List.map_cons, List.foldl_cons, h.data hl]
    by_cases hq' : q = []
    · subst hq'
      rw [List.append_nil] at hF ⊢
      exact ⟨_, hc.setRs485 none, State.rs485Octet_last hF⟩
    · simp only [State.rs485Octet_part hF (by simp) hq']
      exact ih hF hq' (hc.setRs485 _)

/-- Characters of a transfer for another device are only counted. -/
theorem State.Hears.ignored (hl : s.uartLoref (uartOf n) = true) (q : Bytes) (h : s.Hears t n none) :
    s.Hears ((q.map fun (x : Byte) => x.toNat).foldl (fun (t : State) (c : Nat) => t.rxTake (uartOf n) (c % 512) false) t) n none := by
  induction q generalizing t with
  | nil => exact h
  | cons c q ih =>
    rw [List.map_cons, List.foldl_cons, h.data hl]
    exact ih (h.countEntry _ _)

end

/-- The address character of a transfer on a UART that Loref listens on. -/
theorem State.rs485Transfer_address {n : Fin 2} (hon : s.rs485On n = true) {a : Nat} (ha : a < 256) (b : Bytes) :
    ∃ t, s.Hears t n (if a = s.cfgN Obj.LOREF_RS485_ADDRESS ∧ s.cfgN Obj.LOREF_RS485_ADDRESS ≠ 0 then some [] else none)
      ∧ s.rs485Transfer n ((0x100 + a) :: b.map fun (x : Byte) => x.toNat)
        = (b.map fun (x : Byte) => x.toNat).foldl (fun (t : State) (c : Nat) => t.rxTake (uartOf n) (c % 512) false) t := by
  have hl : s.uartLoref (uartOf n) = true := (Bool.and_eq_true_iff.1 hon).1
  have h0 : s.Hears (s.modUart (uartOf n) fun u => { u with rxEnd := s.mono }) n s.lop.rs485[n] := by
    refine ⟨s.ro, (s.modUart (uartOf n) fun u => { u with rxEnd := s.mono }).uart, ?_⟩
    have hset : s.lop.rs485.set n s.lop.rs485[n] = s.lop.rs485 := Vector.set_getElem_self _
    rw [hset]
    rfl
  refine ⟨_, h0.address hl ha, ?_⟩
  rw [State.rs485Transfer, if_neg (by simp [hon]), List.foldl_cons]

/-- A transfer to this device comes whole. -/
theorem State.rs485Transfer_whole {n : Fin 2} (hon : s.rs485On n = true) (h1 : 1 ≤ s.cfgN Obj.LOREF_RS485_ADDRESS)
    (h2 : s.cfgN Obj.LOREF_RS485_ADDRESS < 256) {b : Bytes} (hb : Transfer b) (hne : b ≠ []) :
    ∃ u, s.Hears u n none ∧ s.rs485Transfer n ((0x100 + s.cfgN Obj.LOREF_RS485_ADDRESS) :: b.map fun (x : Byte) => x.toNat) = u.rs485Whole n b := by
  obtain ⟨t, ht, he⟩ := State.rs485Transfer_address hon h2 b
  rw [if_pos ⟨rfl, by omega⟩] at ht
  obtain ⟨u, hu, hw⟩ := State.Hears.rest (p := []) (Bool.and_eq_true_iff.1 hon).1 hb hne ht
  exact ⟨u, hu, he.trans hw⟩

/-! ### LOP1 frames (R72 to R75) -/

section
variable (op index status : Nat) (value : Bytes) (crc : Nat)

theorem length_lop1Body : (lop1Body op index status value).length = 6 + value.length := by
  simp [lop1Body]
  omega

theorem length_lop1Octets : (lop1Octets op index status value crc).length = 8 + value.length := by
  rw [lop1Octets, List.length_append, length_lop1Body, length_natLe]
  omega

theorem leAt_lop1Octets_ver : leAt (lop1Octets op index status value crc) 0 1 = 1 := by
  simpa [lop1Octets, lop1Body] using
    leAt_natLe [] (natLe 1 op ++ natLe 2 index ++ natLe 1 value.length ++ natLe 1 status ++ value ++ natLe 2 crc) 1 1

theorem leAt_lop1Octets_op : leAt (lop1Octets op index status value crc) 1 1 = op % 256 := by
  simpa [lop1Octets, lop1Body] using
    leAt_natLe (natLe 1 1) (natLe 2 index ++ natLe 1 value.length ++ natLe 1 status ++ value ++ natLe 2 crc) 1 op

theorem leAt_lop1Octets_index : leAt (lop1Octets op index status value crc) 2 2 = index % 2 ^ 16 := by
  simpa [lop1Octets, lop1Body] using
    leAt_natLe (natLe 1 1 ++ natLe 1 op) (natLe 1 value.length ++ natLe 1 status ++ value ++ natLe 2 crc) 2 index

theorem leAt_lop1Octets_len : leAt (lop1Octets op index status value crc) 4 1 = value.length % 256 := by
  simpa [lop1Octets, lop1Body] using
    leAt_natLe (natLe 1 1 ++ natLe 1 op ++ natLe 2 index) (natLe 1 status ++ value ++ natLe 2 crc) 1 value.length

theorem leAt_lop1Octets_crc : leAt (lop1Octets op index status value crc) (6 + value.length) 2 = crc % 2 ^ 16 := by
  have := leAt_natLe (lop1Body op index status value) [] 2 crc
  rwa [length_lop1Body, List.append_nil] at this

theorem drop_lop1Octets : (lop1Octets op index status value crc).drop 6 = value ++ natLe 2 crc := by
  have h6 : (natLe 1 1 ++ natLe 1 op ++ natLe 2 index ++ natLe 1 value.length ++ natLe 1 status).length = 6 := by simp
  rw [lop1Octets, lop1Body, List.append_assoc, List.drop_left' h6]

end

/-- A LOP1 frame by a ready mailbox. -/
theorem State.transfer_lop1 (hm : s.mailboxReady = true) {op index status crc : Nat} {value : Bytes} (hv : value.length ≤ 240) :
    s.transfer ⟨0, false, 0, 0⟩ (lop1Octets op index status value crc)
      = (s.doorbellRung (lop1Octets op index status value crc)).lop1Frame ⟨0, false, 0, 0⟩ (lop1Octets op index status value crc) := by
  obtain ⟨hbar, -, hbusy, -, hq⟩ := State.mailboxReady_iff.1 hm
  have hlen := length_lop1Octets op index status value crc
  have hlim : ¬ frameLimit 0 false < (lop1Octets op index status value crc).length := by
    show ¬ 4096 < _
    omega
  have hver := leAt_lop1Octets_ver op index status value crc
  rw [State.transfer_mailbox hbar hq hbusy (by omega) (by omega), State.arrive, if_neg hlim, if_neg (by omega), if_pos hver]

theorem State.lop1Frame_disabled (v : Via) (b : Bytes) (h : s.cfgN Obj.LOP1_ENABLE = 0) : s.lop1Frame v b = s.mbxFree v.transport := if_pos h

/-- A LOP1 frame of a known length: its CRC, then its opcode. -/
theorem State.lop1Frame_octets (v : Via) {op index status crc : Nat} {value : Bytes} (he : s.cfgN Obj.LOP1_ENABLE ≠ 0)
    (hv : value.length ≤ 240) (hi : index < 2 ^ 16) : s.lop1Frame v (lop1Octets op index status value crc)
      = if crc16 (lop1Body op index status value) ≠ crc % 2 ^ 16 then s.mbxFree v.transport
        else if op % 256 = 1 then s.enqueue ⟨v, 0x101, index, []⟩
        else if op % 256 = 2 then s.enqueue ⟨v, 0x102, index, value⟩
        else s.refuse v Obj.LOREF_FORMAT_ERR := by
  have hlen := length_lop1Octets op index status value crc
  have hmod : value.length % 256 = value.length := Nat.mod_eq_of_lt (by omega)
  have hframe : frameLength (lop1Octets op index status value crc) = some (lop1Octets op index status value crc).length := by
    rw [frameLength, leAt_lop1Octets_ver, leAt_lop1Octets_len, hlen, hmod, if_neg (by omega), if_pos (by omega)]
  have hn : 8 + value.length - 2 = 6 + value.length := by omega
  have htake : (lop1Octets op index status value crc).take (6 + value.length) = lop1Body op index status value :=
    List.take_left' (length_lop1Body ..)
  rw [State.lop1Frame, if_neg he, hframe, leAt_lop1Octets_len, hmod, hlen, hn, htake, leAt_lop1Octets_crc, leAt_lop1Octets_op,
    leAt_lop1Octets_index, Nat.mod_eq_of_lt hi, drop_lop1Octets, List.take_left, if_neg (by simp; omega)]

theorem State.execute_lop1Read (v : Via) (index : Nat) : s.execute ⟨v, 0x101, index, []⟩ = s.runLop1Read v index := by
  simp only [State.execute]

theorem State.execute_lop1Write (v : Via) (index : Nat) (value : Bytes) : s.execute ⟨v, 0x102, index, value⟩ = s.runLop1Write v index value := by
  simp only [State.execute]

theorem exec_rs485Transfer (n : Fin 2) (chars : List Nat) (s : State) : exec (.rs485Transfer n chars) s = .next (s.rs485Transfer n chars) := rfl

theorem exec_rs485GapTimeout (n : Fin 2) (s : State) : exec (.rs485GapTimeout n) s = .next (s.rs485Gap n) := rfl

theorem exec_lop1Read (v : Via) (index status : Nat) (value : Bytes) (crc : Nat) (s : State) :
    exec (.lop1Read v index status value crc) s = .next (s.transfer v (lop1Octets 1 index status value crc)) := rfl

theorem exec_lop1Write (v : Via) (index status : Nat) (value : Bytes) (crc : Nat) (s : State) :
    exec (.lop1Write v index status value crc) s = .next (s.transfer v (lop1Octets 2 index status value crc)) := rfl

end

/-- A whole frame has octets, and its VER is known. -/
theorem frameLength_some {b : Bytes} (h : frameLength b = some b.length) : b ≠ [] ∧ (leAt b 0 1 = 1 ∨ leAt b 0 1 = 2) := by
  have hv : (leAt b 0 1 = 2 ∧ 4 ≤ b.length) ∨ (leAt b 0 1 = 1 ∧ 5 ≤ b.length) := by
    by_contra hn
    rw [not_or] at hn
    rw [frameLength, if_neg hn.1, if_neg hn.2] at h
    cases h
  refine ⟨fun e => ?_, by omega⟩
  rw [e, List.length_nil] at hv
  omega

theorem leAt_ver_append {b c : Bytes} (h : b ≠ []) : leAt (b ++ c) 0 1 = leAt b 0 1 := leAt_append_left (List.length_pos_iff.2 h)

/-- The octets of a LOP2 transfer: the frame and four of a CRC-32C. -/
theorem Transfer.lop2 {b : Bytes} (c : Nat) (hf : frameLength b = some b.length) (hv : leAt b 0 1 = 2) (hl : b.length ≤ 1024) :
    Transfer (b ++ natLe 4 c) := by
  have hne := (frameLength_some hf).1
  have hver : leAt (b ++ natLe 4 c) 0 1 = 2 := (leAt_ver_append hne).trans hv
  have hframe : frameLength (b ++ natLe 4 c) = some b.length := by
    rcases frameLength_prefix (q := natLe 4 c) hne with hn | he
    · rw [hf] at hn
      cases hn
    · rw [← he, hf]
  refine ⟨.inr hver, ?_, ?_⟩
  · rw [transferLength, hframe, Option.map_some, if_pos hver, List.length_append, length_natLe]
  · rw [if_pos hver, List.length_append, length_natLe]
    omega

theorem Transfer.lop1 {b : Bytes} (hf : frameLength b = some b.length) (hv : leAt b 0 1 = 1) (hl : b.length ≤ 1024) : Transfer b := by
  have h2 : ¬ leAt b 0 1 = 2 := by omega
  refine ⟨.inl hv, ?_, ?_⟩
  · rw [transferLength, hf, Option.map_some, if_neg h2]
  · rwa [if_neg h2]

section
variable {s u : State} {n : Fin 2} {b : Bytes}

theorem State.rs485Whole_lop1 (hv : leAt b 0 1 = 1) : u.rs485Whole n b = u.arrive ⟨3 + n, false, 0, 0⟩ b := by
  rw [State.rs485Whole, if_neg (by omega)]

/-- A whole LOP2 transfer: the frame arrives where its CRC-32C holds. -/
theorem State.rs485Whole_lop2 {c : Nat} (hne : b ≠ []) (hv : leAt b 0 1 = 2) (hc : c < 2 ^ 32) : u.rs485Whole n (b ++ natLe 4 c)
    = if crc32c b = c then u.arrive ⟨3 + n, false, 0, 0⟩ b else u.count Obj.LOREF_RS485_ERR := by
  have hlen : (b ++ natLe 4 c).length - 4 = b.length := by simp
  have hcrc : leAt (b ++ natLe 4 c) b.length 4 = c := by
    have := leAt_natLe b [] 4 c
    rwa [List.append_nil, Nat.mod_eq_of_lt (show c < 256 ^ 4 from hc)] at this
  rw [State.rs485Whole, leAt_ver_append hne, if_pos hv, hlen, List.take_left, hcrc]

/-- A good transfer hands its frame over. -/
theorem State.rs485Transfer_frame (hon : s.rs485On n = true) (h1 : 1 ≤ s.cfgN Obj.LOREF_RS485_ADDRESS)
    (h2 : s.cfgN Obj.LOREF_RS485_ADDRESS < 256) (hf : frameLength b = some b.length) (hl : b.length ≤ 1024) :
    ∃ u, s.Hears u n none ∧ s.rs485Transfer n (rs485Chars (s.cfgN Obj.LOREF_RS485_ADDRESS) (leAt b 0 1 == 1) b)
      = u.arrive ⟨3 + n, false, 0, 0⟩ b := by
  obtain ⟨hne, hv | hv⟩ := frameLength_some hf
  · obtain ⟨u, hu, he⟩ := State.rs485Transfer_whole hon h1 h2 (.lop1 hf hv hl) hne
    refine ⟨u, hu, ?_⟩
    rw [← State.rs485Whole_lop1 hv, ← he, rs485Chars, hv]
    simp
  · obtain ⟨u, hu, he⟩ := State.rs485Transfer_whole hon h1 h2 (.lop2 (crc32c b) hf hv hl) (by simp [hne])
    refine ⟨u, hu, ?_⟩
    rw [State.rs485Whole_lop2 hne hv (crc32c_lt b), if_pos rfl] at he
    rw [← he, rs485Chars, hv]
    rfl

end

/-- Settles O17: each port hands its frame over whole or discards it; a LOP1 frame has its CRC and its opcode (`State.lop1Frame_octets`). -/
theorem transportsDeliver : Obligations.TransportsDeliver := by
  refine ⟨fun s e v6 addr source b hon hup hen hf hv => ?_, fun s e v6 addr source b hon hup hen hf hv hne => ?_,
    fun s e v6 frag addr source port b h => ?_, fun s n b hon h1 h2 hf hl => ?_, fun s n b c hon h1 h2 hf hv hl hc hne => ?_,
    fun s n a b hon ha hne => ?_, fun s n b h => ?_, fun s n h => ?_, fun s index status crc value hm hi hv => ⟨fun he => ?_, fun he => ?_⟩⟩
  · rw [exec_lorefUdpDatagram, State.udpFrame_taken v6 addr source _ hon hup hen hf, if_pos rfl, if_pos hv]
  · rw [exec_lorefUdpDatagram, State.udpFrame_taken v6 addr source _ hon hup hen hf, if_neg hne, if_pos rfl, if_pos hv]
  · rw [exec_lorefUdpDatagram, State.udpFrame_discarded h]
  · obtain ⟨u, ⟨ro, uart, rfl⟩, he⟩ := State.rs485Transfer_frame hon h1 h2 hf hl
    exact ⟨_, by rw [exec_rs485Transfer, he], rfl⟩
  · have hne' := (frameLength_some hf).1
    obtain ⟨u, ⟨ro, uart, rfl⟩, he⟩ := State.rs485Transfer_whole hon h1 h2 (.lop2 c hf hv hl) (by simp [hne'])
    exact ⟨_, by rw [exec_rs485Transfer, he, State.rs485Whole_lop2 hne' hv hc, if_neg (Ne.symm hne)], rfl⟩
  · obtain ⟨t, ht, he⟩ := State.rs485Transfer_address hon ha b
    rw [if_neg fun h => hne h.1] at ht
    obtain ⟨ro, uart, hw⟩ := ht.ignored (Bool.and_eq_true_iff.1 hon).1 b
    exact ⟨_, by rw [exec_rs485Transfer, he, hw], rfl⟩
  · have hs : s.lop.rs485[n].isSome = true := by rw [h]; rfl
    rw [exec_rs485GapTimeout, State.rs485Gap, if_pos hs]
    rfl
  · have hs : ¬ s.lop.rs485[n].isSome = true := by rw [h]; exact Bool.false_ne_true
    rw [exec_rs485GapTimeout, State.rs485Gap, if_neg hs]
  · obtain ⟨-, hsup, -, hresp, -⟩ := State.mailboxReady_iff.1 hm
    have hcrc (b : Bytes) : crc16 b % 2 ^ 16 = crc16 b := Nat.mod_eq_of_lt (crc16_lt b)
    refine ⟨fun hc => ?_, fun hc => ?_, fun hlt hc => ?_⟩
    · rw [exec_lop1Read, State.transfer_lop1 hm hv, State.lop1Frame_octets (s := s.doorbellRung _) _ he hv hi, hc, hcrc,
        if_neg (not_not.2 rfl), if_pos rfl, State.enqueue_ready (s := s.doorbellRung _) _ hsup hresp, State.execute_lop1Read]
    · rw [exec_lop1Write, State.transfer_lop1 hm hv, State.lop1Frame_octets (s := s.doorbellRung _) _ he hv hi, hc, hcrc,
        if_neg (not_not.2 rfl), if_neg (by decide), if_pos rfl, State.enqueue_ready (s := s.doorbellRung _) _ hsup hresp, State.execute_lop1Write]
    · rw [exec_lop1Write, State.transfer_lop1 hm hv, State.lop1Frame_octets (s := s.doorbellRung _) _ he hv hi, Nat.mod_eq_of_lt hlt,
        if_pos (Ne.symm hc)]
  · rw [exec_lop1Read, exec_lop1Write, State.transfer_lop1 hm hv, State.transfer_lop1 hm hv,
      State.lop1Frame_disabled (s := s.doorbellRung _) _ _ he, State.lop1Frame_disabled (s := s.doorbellRung _) _ _ he]
    exact ⟨rfl, rfl⟩

end Sys2Proof.Machine
end

section
/-!
SUPPORT. Seconds of the calendar (12_rtc_and_always_on.md R405, R406, R416, R418, R424): how far the prescaler goes in a number of ticks, and
why the rounds of `State.toSecond` end at the tick that completes the second.
-/

namespace Sys2Proof.Machine

/-! ### The prescaler under a trim (R406) -/

/-- A correction more or less than one each 2²⁰ / 255 ticks: what the corrections of `n` ticks come to. -/
theorem trimsAt_bound {trim : Int} (ht : trim.natAbs ≤ 255) (k n : Nat) :
    trimsAt trim k ≤ trimsAt trim (k + n) ∧ (trimsAt trim (k + n) - trimsAt trim k) * 2 ^ 20 < n * 255 + 2 ^ 20 := by
  unfold trimsAt
  have hn : n * trim.natAbs ≤ n * 255 := Nat.mul_le_mul_left n ht
  rw [Nat.add_mul]
  omega

/-- After `n` ticks the prescaler is `n` further, but for the corrections. -/
theorem presAfter_bound {trim : Int} (ht : trim.natAbs ≤ 255) (p k n : Nat) :
    ∃ c, c * 2 ^ 20 < n * 255 + 2 ^ 20 ∧ presAfter p trim k n ≤ p + n + c ∧ p + n ≤ presAfter p trim k n + c := by
  refine ⟨trimsAt trim (k + n) - trimsAt trim k, (trimsAt_bound ht k n).2, ?_⟩
  unfold presAfter
  dsimp only
  split_ifs <;> omega

/-- From the start of a period the corrections lag. -/
theorem presAfter_start_bound {trim : Int} (ht : trim.natAbs ≤ 255) (p n : Nat) :
    ∃ c, c * 2 ^ 20 ≤ n * 255 ∧ presAfter p trim 0 n ≤ p + n + c ∧ p + n ≤ presAfter p trim 0 n + c := by
  refine ⟨trimsAt trim n, ?_, ?_⟩
  · have hn : n * trim.natAbs ≤ n * 255 := Nat.mul_le_mul_left n ht
    unfold trimsAt
    omega
  · have h0 : trimsAt trim 0 = 0 := by simp [trimsAt]
    unfold presAfter
    rw [h0, Nat.zero_add]
    dsimp only
    split_ifs <;> omega

/-- Ticks within one period of the trim. -/
theorem AonState.ticks_within (a : AonState) (trim : Int) {n : Nat} (h : a.tick % 2 ^ 20 + n < 2 ^ 20) :
    (a.ticks trim n).pres = presAfter a.pres a.trim (a.tick % 2 ^ 20) n ∧ (a.ticks trim n).trim = a.trim := by
  have hn : min n (2 ^ 20 - a.tick % 2 ^ 20) = n := Nat.min_eq_left (by omega)
  simp only [AonState.ticks, hn, decide_eq_true_eq, if_neg h.not_ge, and_self]

/-- Ticks across the end of a period, from which on the new trim applies. -/
theorem AonState.ticks_across (a : AonState) (trim : Int) {n : Nat} (h : 2 ^ 20 ≤ a.tick % 2 ^ 20 + n) :
    (a.ticks trim n).pres = presAfter (presAfter a.pres a.trim (a.tick % 2 ^ 20) (2 ^ 20 - a.tick % 2 ^ 20)) trim 0
        (n - (2 ^ 20 - a.tick % 2 ^ 20))
      ∧ (a.ticks trim n).trim = trim := by
  have hn : min n (2 ^ 20 - a.tick % 2 ^ 20) = 2 ^ 20 - a.tick % 2 ^ 20 := Nat.min_eq_right (by omega)
  simp only [AonState.ticks, hn, decide_eq_true_eq, if_pos h, and_self]

theorem AonState.ticks_tick (a : AonState) (trim : Int) (n : Nat) : (a.ticks trim n).tick % 2 ^ 20 = (a.tick % 2 ^ 20 + n) % 2 ^ 20 := by
  simp only [AonState.ticks]
  omega

/-- The ticks of a round, across the end of a period too. -/
theorem AonState.ticks_bound {a : AonState} {trim : Int} (ha : a.trim.natAbs ≤ 255) (ht : trim.natAbs ≤ 255) (n : Nat) :
    ∃ c, c * 2 ^ 20 < n * 255 + 2 ^ 20 ∧ (a.ticks trim n).pres ≤ a.pres + n + c ∧ a.pres + n ≤ (a.ticks trim n).pres + c := by
  by_cases h : 2 ^ 20 ≤ a.tick % 2 ^ 20 + n
  · obtain ⟨c1, h1, hu1, hl1⟩ := presAfter_bound ha a.pres (a.tick % 2 ^ 20) (2 ^ 20 - a.tick % 2 ^ 20)
    obtain ⟨c2, h2, hu2, hl2⟩ := presAfter_start_bound ht (presAfter a.pres a.trim (a.tick % 2 ^ 20) (2 ^ 20 - a.tick % 2 ^ 20))
      (n - (2 ^ 20 - a.tick % 2 ^ 20))
    rw [(a.ticks_across trim h).1]
    have hm : 2 ^ 20 - a.tick % 2 ^ 20 ≤ n := Nat.sub_le_iff_le_add'.2 h
    clear h
    generalize 2 ^ 20 - a.tick % 2 ^ 20 = m at *
    refine ⟨c1 + c2, ?_, by omega, by omega⟩
    calc (c1 + c2) * 2 ^ 20 = c1 * 2 ^ 20 + c2 * 2 ^ 20 := Nat.add_mul ..
      _ < m * 255 + 2 ^ 20 + (n - m) * 255 := Nat.add_lt_add_of_lt_of_le h1 h2
      _ = n * 255 + 2 ^ 20 := by rw [Nat.add_right_comm, ← Nat.add_mul, Nat.add_sub_cancel' hm]
  · rw [(a.ticks_within trim (not_le.1 h)).1]
    exact presAfter_bound ha a.pres (a.tick % 2 ^ 20) n

theorem AonState.ticks_trim {a : AonState} {trim : Int} (ha : a.trim.natAbs ≤ 255) (ht : trim.natAbs ≤ 255) (n : Nat) :
    (a.ticks trim n).trim.natAbs ≤ 255 := by
  by_cases h : 2 ^ 20 ≤ a.tick % 2 ^ 20 + n
  · rwa [(a.ticks_across trim h).2]
  · rwa [(a.ticks_within trim (not_le.1 h)).2]

/-! ### One tick -/

/-- No correction is due for `m` ticks. -/
def AonState.Quiet (a : AonState) (m : Nat) : Prop := a.tick % 2 ^ 20 * a.trim.natAbs % 2 ^ 20 + m * 255 < 2 ^ 20

/-- One tick makes one correction at most, by the accumulated trim. -/
theorem presAfter_one (p : Nat) {trim : Int} (ht : trim.natAbs ≤ 255) (k : Nat) :
    k * trim.natAbs % 2 ^ 20 + trim.natAbs < 2 ^ 20 ∧ presAfter p trim k 1 = p + 1
      ∨ 2 ^ 20 ≤ k * trim.natAbs % 2 ^ 20 + trim.natAbs ∧ (presAfter p trim k 1 = p + 2 ∨ presAfter p trim k 1 = p) := by
  unfold presAfter trimsAt
  rw [Nat.add_mul, Nat.one_mul]
  dsimp only
  split_ifs <;> omega

/-- The pace of the prescaler in one tick: 1, or a correction more or less. -/
theorem AonState.ticks_one_pres (a : AonState) (trim : Int) :
    (a.ticks trim 1).pres = presAfter a.pres a.trim (a.tick % 2 ^ 20) 1 := by
  by_cases h : 2 ^ 20 ≤ a.tick % 2 ^ 20 + 1
  · have h1 : 2 ^ 20 - a.tick % 2 ^ 20 = 1 := by omega
    rw [(a.ticks_across trim h).1, h1]
    simp [presAfter, trimsAt]
  · rw [(a.ticks_within trim (not_le.1 h)).1]

/-- The accumulated trim after one tick: its rest, or none at the start of a period. -/
theorem AonState.ticks_one_quiet {a : AonState} {trim : Int} {m : Nat}
    (h : (a.tick % 2 ^ 20 * a.trim.natAbs + a.trim.natAbs) % 2 ^ 20 + m * 255 < 2 ^ 20) : (a.ticks trim 1).Quiet m := by
  unfold AonState.Quiet
  rw [a.ticks_tick]
  by_cases hc : 2 ^ 20 ≤ a.tick % 2 ^ 20 + 1
  · have h0 : (a.tick % 2 ^ 20 + 1) % 2 ^ 20 = 0 := by omega
    rw [h0]
    omega
  · rw [(a.ticks_within trim (not_le.1 hc)).2, Nat.mod_eq_of_lt (not_le.1 hc), Nat.add_mul, Nat.one_mul]
    exact h

/-! ### The rounds to the second (log entry 3) -/

/-- What the rounds keep: the counter runs, the fraction is one of a tick, both trims are in their range. -/
structure State.Runs (s : State) : Prop where
  runs : s.aon.stopped = false
  part : s.aon.part < secHalfNs
  trim : s.aon.trim.natAbs ≤ 255
  next : (s.cfgI Obj.RTC_TRIM).natAbs ≤ 255

/-- The time that passes `n` ticks of the slow clock. -/
def AonState.span (a : AonState) (n : Nat) : HalfNs := (n * secHalfNs - a.part + 32767) / 32768

theorem AonState.pass_span {a : AonState} (trim : Int) {n : Nat} (hr : a.stopped = false) (hp : a.part < secHalfNs) (hn : 1 ≤ n) :
    ∃ part < secHalfNs, a.pass trim (a.span n) = { a.ticks trim n with part := part } := by
  have hticks : (a.part + a.span n * 32768) / secHalfNs = n := by
    have hs : secHalfNs = 2000000000 := rfl
    unfold AonState.span
    rw [hs] at hp ⊢
    omega
  refine ⟨(a.part + a.span n * 32768) % secHalfNs, Nat.mod_lt _ (by norm_num), ?_⟩
  simp only [AonState.pass, hr, hticks, Bool.false_eq_true, if_false]

/-- A setting reads the store of settings alone. -/
theorem State.cfgN_congr {s t : State} (h : t.cfg = s.cfg) (i : Nat) (e f : Nat := 0) : t.cfgN i e f = s.cfgN i e f := by
  unfold State.cfgN State.cfgVal
  rw [h]

section
variable {s : State}

/-- A round: the ticks pass, and what the rounds keep is kept. -/
theorem State.Runs.advance (h : s.Runs) {n : Nat} (hn : 1 ≤ n) : (s.advance (s.aon.span n)).Runs
    ∧ (s.advance (s.aon.span n)).aon.pres = (s.aon.ticks (s.cfgI Obj.RTC_TRIM) n).pres
    ∧ ∀ m, (s.advance (s.aon.span n)).aon.Quiet m ↔ (s.aon.ticks (s.cfgI Obj.RTC_TRIM) n).Quiet m := by
  obtain ⟨part, hlt, hpass⟩ := AonState.pass_span (s.cfgI Obj.RTC_TRIM) h.runs h.part hn
  have e : (s.advance (s.aon.span n)).aon = { s.aon.ticks (s.cfgI Obj.RTC_TRIM) n with part := part } := hpass
  refine ⟨⟨?_, ?_, ?_, h.next⟩, ?_, fun m => ?_⟩
  · rw [e]
    exact h.runs
  · rw [e]
    exact hlt
  · rw [e]
    exact AonState.ticks_trim h.trim h.next n
  · rw [e]
  · rw [e]
    rfl

theorem State.toSecond_done (k : Nat) (h : 32768 ≤ s.aon.pres) : s.toSecond k = s := by
  cases k with
  | zero => rfl
  | succ k => exact if_pos h

/-- The ticks of a round: none that can overshoot the second, and one at least. -/
def roundTicks (need : Nat) : Nat := max 1 (need - need / 4096 - 1)

theorem State.toSecond_round (k : Nat) (h : s.aon.pres < 32768) :
    s.toSecond (k + 1) = (s.advance (s.aon.span (roundTicks (32768 - s.aon.pres)))).toSecond k := if_neg h.not_ge

/-- The prescaler stands at the second, or one further where the last tick carried a correction. -/
def State.AtSecond (s : State) : Prop := 32768 ≤ s.aon.pres ∧ s.aon.pres ≤ 32769

theorem State.AtSecond.toSecond (h : s.AtSecond) (k : Nat) : (s.toSecond k).AtSecond := by
  rwa [State.toSecond_done k h.1]

/-- Where no correction is due, the last two ticks are two rounds. -/
theorem State.toSecond_quiet (k need : Nat) (h : s.Runs) (hp : s.aon.pres + need = 32768) (h2 : need ≤ 2) (hq : s.aon.Quiet need)
    (hk : need ≤ k) : (s.toSecond k).AtSecond := by
  induction need generalizing s k with
  | zero => exact State.AtSecond.toSecond ⟨by omega, by omega⟩ k
  | succ need ih =>
    obtain ⟨k, rfl⟩ : ∃ j, k = j + 1 := ⟨k - 1, by omega⟩
    have hround : roundTicks (32768 - s.aon.pres) = 1 := by
      unfold roundTicks
      omega
    rw [State.toSecond_round k (by omega), hround]
    obtain ⟨hr, hpres, hquiet⟩ := h.advance (le_refl 1)
    rw [AonState.ticks_one_pres] at hpres
    have hone := presAfter_one s.aon.pres h.trim (s.aon.tick % 2 ^ 20)
    have htrim := h.trim
    unfold AonState.Quiet at hq
    have hnone : s.aon.tick % 2 ^ 20 * s.aon.trim.natAbs % 2 ^ 20 + s.aon.trim.natAbs < 2 ^ 20 := by omega
    have hres : presAfter s.aon.pres s.aon.trim (s.aon.tick % 2 ^ 20) 1 = s.aon.pres + 1 := by omega
    exact ih k hr (by omega) (by omega) ((hquiet need).2 (AonState.ticks_one_quiet (by omega))) (by omega)

/-- The last two ticks: a correction among them costs one round more. -/
theorem State.toSecond_two (k need : Nat) (h : s.Runs) (hp : s.aon.pres + need = 32768) (h2 : need ≤ 2) (hk : need + 1 ≤ k) :
    (s.toSecond k).AtSecond := by
  induction need generalizing s k with
  | zero => exact State.AtSecond.toSecond ⟨by omega, by omega⟩ k
  | succ need ih =>
    obtain ⟨k, rfl⟩ : ∃ j, k = j + 1 := ⟨k - 1, by omega⟩
    have hround : roundTicks (32768 - s.aon.pres) = 1 := by
      unfold roundTicks
      omega
    rw [State.toSecond_round k (by omega), hround]
    obtain ⟨hr, hpres, hquiet⟩ := h.advance (le_refl 1)
    rw [AonState.ticks_one_pres] at hpres
    have htrim := h.trim
    rcases presAfter_one s.aon.pres h.trim (s.aon.tick % 2 ^ 20) with ⟨_, hone⟩ | ⟨hdue, hmore | hless⟩
    · exact ih k hr (by omega) (by omega) (by omega)
    · exact State.AtSecond.toSecond ⟨by omega, by omega⟩ k
    · exact State.toSecond_quiet k (need + 1) hr (by omega) h2 ((hquiet _).2 (AonState.ticks_one_quiet (by omega))) (by omega)

/-- A round that is not one of the last ticks comes within a sixteenth part, and never overshoots. -/
theorem State.Runs.round (h : s.Runs) {need : Nat} (hp : s.aon.pres + need = 32768) (h2 : 2 < need) :
    (s.advance (s.aon.span (roundTicks need))).Runs
      ∧ ∃ left, (s.advance (s.aon.span (roundTicks need))).aon.pres + left = 32768 ∧ left ≤ 2 * (need / 4096) + 2 := by
  obtain ⟨hr, hpres, -⟩ := h.advance (n := roundTicks need) (Nat.le_max_left ..)
  obtain ⟨c, hc, hu, hl⟩ := AonState.ticks_bound h.trim h.next (roundTicks need)
  refine ⟨hr, 32768 - (s.aon.ticks (s.cfgI Obj.RTC_TRIM) (roundTicks need)).pres, ?_, ?_⟩
  all_goals
    unfold roundTicks at *
    omega

/-- From 18 ticks before the second, four rounds suffice. -/
theorem State.toSecond_near (k need : Nat) (h : s.Runs) (hp : s.aon.pres + need = 32768) (hn : need ≤ 18) (hk : 4 ≤ k) :
    (s.toSecond k).AtSecond := by
  by_cases h2 : need ≤ 2
  · exact State.toSecond_two k need h hp h2 (by omega)
  · obtain ⟨k, rfl⟩ : ∃ j, k = j + 1 := ⟨k - 1, by omega⟩
    have hneed : 32768 - s.aon.pres = need := by omega
    obtain ⟨hr, left, hleft, hle⟩ := h.round hp (by omega)
    rw [State.toSecond_round k (by omega), hneed]
    exact State.toSecond_two k left hr hleft (by omega) (by omega)

/-- Five rounds come to the second (R406, log entry 3): one to within 18 ticks, one to the last two, and at most three single ticks. -/
theorem State.toSecond_atSecond (h : s.Runs) (hp : s.aon.pres < 32768) : (s.toSecond 24).AtSecond := by
  by_cases h2 : 32768 - s.aon.pres ≤ 2
  · exact State.toSecond_two 24 (32768 - s.aon.pres) h (by omega) h2 (by omega)
  · obtain ⟨hr, left, hleft, hle⟩ := h.round (need := 32768 - s.aon.pres) (by omega) (by omega)
    rw [State.toSecond_round 23 hp]
    exact State.toSecond_near 23 left hr hleft (by omega) (by omega)


/-! ### The commands of the second -/

theorem exec_calendarSecond (s : State) : exec .calendarSecond s = .next s.calendarSecond := rfl
theorem exec_catchUpSecond (s : State) : exec .catchUpSecond s = .next s.catchUpSecond := rfl
theorem exec_shadowExpired (s : State) : exec .shadowExpired s = .next s.shadowExpired := rfl

/-- A disarmed alarm is not compared. -/
theorem State.alarmCheck_off (h : s.aon.alarm ≠ 1) : s.alarmCheck = s := if_neg fun k => h k.1

/-- The prescaler gives the ticks of a completed second off. -/
def State.takeTicks (s : State) (n : Nat) : State := s.modAon fun a => { a with pres := a.pres - n }

/-- What becomes of a completed second. -/
def State.secondDone (s : State) : State :=
  if s.cfgN Obj.RTC_HALT = 1 ∨ s.aon.catchUp then
    if s.aon.pending < 15 then s.modAon fun a => { a with pending := a.pending + 1 }
    else if s.aon.overrun then s
    else
      (((s.modAon fun a => { a with overrun := true, status := a.status ||| 0x40 }).raise Ev.HALT_OVERRUN)).count
        Obj.RTC_COUNTS 1
  else s.applySecond

theorem State.calendarSecond_of_toSecond {t : State} (hr : s.aon.stopped = false) (ht : s.toSecond 24 = t) (hp : 32768 ≤ t.aon.pres) :
    s.calendarSecond = (t.takeTicks 32768).secondDone := by
  unfold State.calendarSecond
  rw [hr, ht]
  exact if_neg hp.not_gt

theorem State.calendarSecond_ready (hr : s.aon.stopped = false) (hp : 32768 ≤ s.aon.pres) :
    s.calendarSecond = (s.takeTicks 32768).secondDone :=
  State.calendarSecond_of_toSecond hr (State.toSecond_done 24 hp) hp

section
variable (n : Nat)

theorem State.takeTicks_cfgN (i : Nat) : (s.takeTicks n).cfgN i = s.cfgN i := State.cfgN_congr (State.modAon_cfg ..) _

theorem State.secondDone_applied (hh : s.cfgN Obj.RTC_HALT ≠ 1) (hc : s.aon.catchUp = false) : (s.takeTicks n).secondDone
    = State.alarmCheck { s with aon := { s.aon with pres := s.aon.pres - n, cal := s.aon.cal.next } } := by
  refine if_neg ?_
  rw [State.takeTicks_cfgN]
  rintro (h | h)
  · exact hh h
  · exact Bool.false_ne_true (hc.symm.trans h)

/-- A second that the alarm does not see changes the calendar and the prescaler. -/
theorem State.secondDone_only (hh : s.cfgN Obj.RTC_HALT ≠ 1) (hc : s.aon.catchUp = false) (ha : s.aon.alarm ≠ 1) :
    ∃ aon, (s.takeTicks n).secondDone = { s with aon := aon } ∧ aon.cal = s.aon.cal.next ∧ aon.pres = s.aon.pres - n
      ∧ aon.tick = s.aon.tick := by
  rw [State.secondDone_applied n hh hc, State.alarmCheck_off (by exact ha)]
  exact ⟨_, rfl, rfl, rfl, rfl⟩

theorem State.secondDone_pending (hh : s.cfgN Obj.RTC_HALT = 1) (hp : s.aon.pending < 15) :
    (s.takeTicks n).secondDone = { s with aon := { s.aon with pres := s.aon.pres - n, pending := s.aon.pending + 1 } } := by
  unfold State.secondDone
  rw [State.takeTicks_cfgN, if_pos (Or.inl hh)]
  exact if_pos hp

theorem State.secondDone_lost (hh : s.cfgN Obj.RTC_HALT = 1) (hp : 15 ≤ s.aon.pending) :
    (s.takeTicks n).secondDone = if s.aon.overrun then { s with aon := { s.aon with pres := s.aon.pres - n } }
      else (State.raise { s with aon := { s.aon with
        pres := s.aon.pres - n, overrun := true, status := s.aon.status ||| 0x40 } } Ev.HALT_OVERRUN).count Obj.RTC_COUNTS 1 := by
  unfold State.secondDone
  rw [State.takeTicks_cfgN, if_pos (Or.inl hh)]
  exact if_neg hp.not_gt

end

/-- The last tick without a trim. -/
theorem AonState.ticks_last {a : AonState} (ha : a.trim = 0) (ht : a.tick < 2 ^ 48 - 1) :
    (a.ticks 0 1).pres = a.pres + 1 ∧ (a.ticks 0 1).tick = a.tick + 1 := by
  refine ⟨?_, Nat.mod_eq_of_lt (by omega)⟩
  rw [AonState.ticks_one_pres, ha]
  simp [presAfter, trimsAt]

theorem State.toSecond_last (h : s.Runs) (hp : s.aon.pres = 32767) (ht : s.aon.trim = 0) (hn : s.cfgI Obj.RTC_TRIM = 0)
    (hk : s.aon.tick < 2 ^ 48 - 1) :
    s.toSecond 24 = s.advance (s.aon.span 1) ∧ (s.advance (s.aon.span 1)).aon.pres = 32768
      ∧ (s.advance (s.aon.span 1)).aon.tick = s.aon.tick + 1 := by
  obtain ⟨part, -, hpass⟩ := AonState.pass_span (s.cfgI Obj.RTC_TRIM) h.runs h.part (le_refl 1)
  have e : (s.advance (s.aon.span 1)).aon = { s.aon.ticks 0 1 with part := part } := hn ▸ hpass
  obtain ⟨hpres, htick⟩ := AonState.ticks_last ht hk
  have hpres' : (s.advance (s.aon.span 1)).aon.pres = 32768 := by
    rw [e]
    exact hpres.trans (by rw [hp])
  refine ⟨?_, hpres', by rw [e]; exact htick⟩
  rw [State.toSecond_round 23 (by omega), hp]
  exact State.toSecond_done 23 hpres'.ge

/-- Time that passes changes no calendar, alarm or pending second. -/
theorem State.advance_cal (s : State) (d : HalfNs) :
    (s.advance d).aon.cal = s.aon.cal ∧ (s.advance d).aon.alarm = s.aon.alarm ∧ (s.advance d).aon.catchUp = s.aon.catchUp := by
  simp only [State.advance, AonState.pass]
  split_ifs <;> exact ⟨rfl, rfl, rfl⟩

theorem State.calendarSecond_last (h : s.Runs) (hp : s.aon.pres = 32767) (ht : s.aon.trim = 0) (hn : s.cfgI Obj.RTC_TRIM = 0)
    (hk : s.aon.tick < 2 ^ 48 - 1) (hh : s.cfgN Obj.RTC_HALT ≠ 1) (hc : s.aon.catchUp = false) (ha : s.aon.alarm ≠ 1) :
    ∃ t, s.calendarSecond = t ∧ t = { s with aon := t.aon, time := t.time }
      ∧ t.aon.cal = s.aon.cal.next ∧ t.aon.pres = 0 ∧ t.aon.tick = s.aon.tick + 1 := by
  obtain ⟨hto, hpres, htick⟩ := State.toSecond_last h hp ht hn hk
  obtain ⟨hcal, halarm, hcatch⟩ := s.advance_cal (s.aon.span 1)
  have hh' : (s.advance (s.aon.span 1)).cfgN Obj.RTC_HALT ≠ 1 := by rwa [State.cfgN_congr (t := s.advance _) (s := s) rfl]
  obtain ⟨aon, hdone, hcal', hpres', htick'⟩ := State.secondDone_only 32768 hh' (hcatch.trans hc) (fun k => ha (halarm.symm.trans k))
  rw [State.calendarSecond_of_toSecond h.runs hto hpres.ge, hdone]
  exact ⟨_, rfl, rfl, hcal'.trans (congrArg _ hcal), hpres'.trans (by rw [hpres]), htick'.trans htick⟩

theorem State.catchUpSecond_applied (hc : s.aon.catchUp = true) (hp : s.aon.pending ≠ 0) (hr : s.aon.stopped = false) :
    s.catchUpSecond = State.applySecond
      (let u := s.advance ((secHalfNs - s.aon.part + 32767) / 32768)
       { u with aon := { u.aon with pending := u.aon.pending - 1, catchUp := decide (1 < u.aon.pending) } }) := by
  unfold State.catchUpSecond
  simp only [hc, hp, hr, Bool.not_true, Bool.false_eq_true, or_self, if_false]
  rfl

theorem State.shadowExpired_none (h : s.aon.shadow = none) : s.shadowExpired = s := by
  unfold State.shadowExpired
  rw [h]

/-- The time until the shadow is released, 32,768 ticks after its capture (R424). -/
def State.shadowRest (s : State) (k : Nat) : HalfNs :=
  ((32768 - (s.aon.tick + 2 ^ 48 - k) % 2 ^ 48) * secHalfNs - s.aon.part + 32767) / 32768

theorem State.shadowExpired_some {k : Nat} {v : List Nat} (h : s.aon.shadow = some (k, v)) :
    s.shadowExpired = ((s.advance (s.shadowRest k)).modAon fun a => { a with shadow := none }).count Obj.RTC_COUNTS 0 := by
  unfold State.shadowExpired
  rw [h]
  rfl

end

theorem natAbs_le_of_range {i : Int} (hl : -255 ≤ i) (hu : i ≤ 255) : i.natAbs ≤ 255 := by omega

/-- Settles O10: a second that is due does what the halt and the pending seconds say, and the rounds of `State.toSecond` come to it by the
bounds on the corrections of a period. -/
theorem secondsComplete : Obligations.SecondsComplete := by
  unfold Obligations.SecondsComplete
  simp only [exec_calendarSecond, exec_catchUpSecond, exec_shadowExpired]
  refine ⟨?applied, ?pending, ?lost, ?last, ?catchUp, ?none, ?shadow, ?rounds⟩
  case applied =>
    intro s hr hp hh hc
    rw [State.calendarSecond_ready hr hp, State.secondDone_applied _ hh hc]
  case pending =>
    intro s hr hp hh hq
    rw [State.calendarSecond_ready hr hp, State.secondDone_pending _ hh hq]
  case lost =>
    intro s hr hp hh hq
    rw [State.calendarSecond_ready hr hp, State.secondDone_lost _ hh hq]
  case last =>
    intro s hr _ hp hpart ht hn hk hh hc ha
    obtain ⟨t, e, h⟩ := State.calendarSecond_last ⟨hr, hpart, by rw [ht]; decide, by rw [hn]; decide⟩ hp ht hn hk hh hc ha
    exact ⟨t, congrArg _ e, h⟩
  case catchUp =>
    intro s hc hp hr
    rw [State.catchUpSecond_applied hc hp hr]
  case none =>
    intro s h
    rw [State.shadowExpired_none h]
  case shadow =>
    intro s k v h
    exact ⟨_, _, congrArg _ (State.shadowExpired_some h), rfl, rfl, rfl, (s.advance_cal _).1⟩
  case rounds =>
    intro s hr hp hpart _ hl hu hl' hu'
    exact State.toSecond_atSecond ⟨hr, hpart, natAbs_le_of_range hl hu, natAbs_le_of_range hl' hu'⟩ hp

end Sys2Proof.Machine
end

section
/-!
SUPPORT. Steps and reset: what the empty queue does, and the values that reset leaves (02_object_dictionary.md, 03_startup_and_firmware.md R94, R95).
-/

namespace Sys2Proof.Machine

/-- Settles O1: `step` matches on the queue. -/
theorem stepRunsTheFront : Obligations.StepRunsTheFront := by
  unfold Obligations.StepRunsTheFront
  refine ⟨fun s c rest h => ?_, fun s c => rfl⟩
  rw [step, h]

section
variable {s : State}

/-- Where nothing waits for a calibration, none starts. -/
theorem State.startCals_quiet (h : ∀ p : Fin 6, (s.path p).cal = none ∧ (s.path p).calQueue = [] ∧ (s.path p).tempQueue = []) :
    s.startCals = s := by
  refine List.foldl_fixed' (fun p => ?_) _
  obtain ⟨hcal, hqueue, htemp⟩ := h p
  simp [State.startCal, hcal, hqueue, htemp]

/-- Where no request waits, nothing is granted. -/
theorem State.grants_quiet (h : ∀ i : Fin 15, (s.arb[i]).waiting = []) : s.grants = s := by
  refine List.foldl_fixed' (fun i => ?_) _
  refine if_pos ?_
  by_cases hi : i < 15
  · have hw := h ⟨i, hi⟩
    simp_all
  · simp [hi]

theorem State.releases_quiet (h : ∀ d : Fin 18, (s.dom d).release = false) : s.releases = s :=
  List.foldl_fixed' (fun d => if_neg (by simp [h d])) _

theorem State.woke_quiet (h : s.uart.woken = false) : s.woke = s := if_neg (by simp [h])

/-- A half nanosecond moves TB_MONO, and with counting bases every other one. -/
theorem State.tick_base (s : State) (i : Fin 5) :
    s.tick.time.base[i].now = if i = 4 ∨ s.time.counting then s.time.base[i].now + 1 else s.time.base[i].now := by
  simp only [State.tick, State.advance, Fin.getElem_fin, Vector.getElem_mapIdx]
  split_ifs with h h' h' <;> simp_all [Fin.ext_iff]

end

/-- Settles O2: the four rounds of `State.idle` find nothing that waits. -/
theorem emptyQueueTicks : Obligations.EmptyQueueTicks := by
  unfold Obligations.EmptyQueueTicks
  refine ⟨fun s h => ?empty, fun s => ⟨rfl, ?mono, ?counts, ?stands, ?cal⟩, fun s hcal harb hdom hwoken => ?quiet⟩
  case empty => rw [step, h]
  case mono => exact s.tick_base 4
  case counts => exact fun h => (s.tick_base 3).trans (if_pos (Or.inr h))
  case stands => exact fun h => (s.tick_base 3).trans (if_neg (by simp [h]))
  case cal => exact (s.advance_cal 1).1
  case quiet =>
    have htick : s.idle = s.tick.startCals.grants.releases.woke := rfl
    rw [htick, State.startCals_quiet (s := s.tick) hcal, State.grants_quiet (s := s.tick) harb,
      State.releases_quiet (s := s.tick) hdom, State.woke_quiet (s := s.tick) hwoken]

/-- Settles O3, by evaluation of the reset state. -/
theorem resetLeaves : Obligations.ResetLeaves := by
  unfold Obligations.ResetLeaves
  exact ⟨fun _ => ⟨rfl, rfl, rfl, rfl⟩, rfl, rfl, rfl, rfl, rfl, rfl, by decide, rfl, rfl, rfl, rfl, rfl⟩

/-- Settles O4: at reset every store and every list is empty. -/
theorem resetIsSound : Obligations.ResetIsSound := by
  unfold Obligations.ResetIsSound
  exact ⟨rfl, rfl, rfl⟩

end Sys2Proof.Machine
end

section
/-!
SUPPORT. The record of a node under its Flock identifier, and what an accepted association leaves in it (07_links_and_budgets.md R217, R218).
-/

namespace Sys2Proof.Machine

/-! ### Reading a record back -/

/-- A value inserted under a key is the first one found there. -/
theorem find?_insertKey_self {β : Type} (k : Nat) (v : β) (l : List (Nat × β)) :
    (insertKey k v l).find? (fun p => p.1 == k) = some (k, v) := by
  induction l with
  | nil => simp [insertKey]
  | cons p m ih =>
    obtain ⟨j, w⟩ := p
    simp only [insertKey]
    split_ifs with hlt heq
    · simp
    · simp
    · rwa [List.find?_cons_of_neg (by simpa using fun h => heq h.symm)]

theorem State.recOf_setRec_self (s : State) (f : Nat) (r : FlockRec) : (s.setRec f r).recOf f = some r := by
  simp [State.recOf, State.setRec, find?_insertKey_self]

/-- A record is read from the Flock store alone. -/
theorem State.recOf_congr {s t : State} (h : t.flock = s.flock) (f : Nat) : t.recOf f = s.recOf f := by
  unfold State.recOf
  rw [h]

/-! ### What leaves the records alone -/

section
variable (s : State)

@[simp] theorem State.dutyNote_flock (b : Fin 2) (a : Nat) (ok : Bool) : (s.dutyNote b a ok).flock = s.flock := by
  simp only [State.dutyNote]
  split_ifs <;> simp

@[simp] theorem State.dutyReserve_flock (b : Fin 2) (a d : Nat) : (s.dutyReserve b a d).2.flock = s.flock := by
  simp only [State.dutyReserve]
  split_ifs
  · exact (State.dutyNote_flock ..).trans (State.dutyNote_flock ..)
  · exact (State.dutyNote_flock ..).trans (State.dutyNote_flock ..)

@[simp] theorem State.txCommand_flock (p : Fin 6) (c : TxCmd) : (s.txCommand p c).flock = s.flock := by
  simp only [State.txCommand]
  split
  · rfl
  · split_ifs <;> rfl

@[simp] theorem State.sendReply_flock (p : Fin 6) (carrier mode : Nat) (start : HalfNs) (owner : TxOwner) (f : AirOut) :
    (s.sendReply p carrier mode start owner f).2.flock = s.flock := by
  simp only [State.sendReply]
  split_ifs <;> simp

theorem State.sendAssoc_flock {x : RxFrame} (hx : x.via = none) (f : AirOut) : (s.sendAssoc x f).flock = s.flock := by
  simp [State.sendAssoc, hx]

theorem State.useLinkKey_flock (f : Nat) : (s.useLinkKey f).flock = s.flock := by
  simp only [State.useLinkKey, State.useKey]
  split
  · split_ifs <;> rfl
  · rfl

end

/-- A counter taken from a record changes its counter alone. -/
theorem State.recOf_takeCtr {s : State} {f : Nat} {r : FlockRec} (h : s.recOf f = some r) :
    ∃ d c, (s.takeCtr f).2.recOf f = some { r with dirty := d, ctr := c } := by
  simp only [State.takeCtr, h]
  split_ifs
  · exact ⟨_, _, h⟩
  · refine ⟨_, _, (State.recOf_congr (State.raise_flock ..) f).trans (State.recOf_setRec_self ..)⟩
  · exact ⟨_, _, State.recOf_setRec_self ..⟩

/-! ### The new link (R217) -/

/-- The mode drawn for a link is one that both sides serve. -/
theorem State.newLink_mode {s : State} {x : RxFrame} {r : FlockRec} {caps fw : Nat} (h : s.linkModes x.path caps ≠ []) :
    (s.newLink x r caps fw).mode ∈ s.linkModes x.path caps := by
  have hlt : s.draw.1 % (s.linkModes x.path caps).length < (s.linkModes x.path caps).length :=
    Nat.mod_lt _ (List.length_pos_iff.2 h)
  simp only [State.newLink, List.getElem?_eq_getElem hlt, Option.getD_some]
  exact List.getElem_mem hlt

/-- The slots of a direct link are 1 to 61. -/
theorem State.newLink_slot {s : State} {x : RxFrame} {r : FlockRec} {caps fw : Nat} (hx : x.via = none) :
    1 ≤ (s.newLink x r caps fw).slot ∧ (s.newLink x r caps fw).slot ≤ 61 := by
  have hslots : s.slotsFor x.via = (List.range 61).map (· + 1) := by
    simp [State.slotsFor, hx]
  simp only [State.newLink, hslots, List.length_map, List.length_range]
  have hlt : s.draw.1 / 4096 % 61 < 61 := Nat.mod_lt _ (by norm_num)
  simp [List.getElem?_range hlt]
  omega

/-- Settles O31: the record that an accepted association writes, with its counter taken. -/
theorem associationGivesALink : Obligations.AssociationGivesALink := by
  unfold Obligations.AssociationGivesALink
  intro s x f r caps drift fw hmodes hvia hst _
  have hmode := State.newLink_mode (r := r) (fw := fw) hmodes
  obtain ⟨hslot1, hslot2⟩ := State.newLink_slot (s := s) (r := r) (caps := caps) (fw := fw) hvia
  unfold State.acceptAssoc
  extract_lets link s1 s2 _ _ r'
  obtain ⟨d, c, hrec⟩ := State.recOf_takeCtr (s2.recOf_setRec_self f r')
  refine ⟨{ r' with dirty := d, ctr := c }, ?_, rfl, rfl, hmode, hslot1, hslot2, Nat.le_add_right .., ?_, rfl, rfl⟩
  · rw [← hrec]
    split
    · next e => rw [e]
    · next e =>
      rw [e]
      exact State.recOf_congr (State.sendAssoc_flock _ hvia _) f
  · exact if_neg (by simp [hvia])

end Sys2Proof.Machine
end

section
/-!
SUPPORT. How the bases have moved since an instant (11_time_bases.md R366, R386, R389, R391): `State.Since u s d g a` says that TB_MONO has gone on
by `d` since the time bases were as in `u`, and that TB_GNSS and TB_AIR have gained `g` and `a` against it. Every part of Bellwether's second
is a rule for it.
-/

namespace Sys2Proof.Machine

/-! ### The bases since an instant -/

/-- The bases of the PTP instances are others than TB_GNSS, TB_AIR and TB_MONO. -/
theorem ptpBase_ne (k : Fin 2) : 0 ≠ ptpBase k ∧ 3 ≠ ptpBase k ∧ 4 ≠ ptpBase k := by
  revert k
  decide

theorem ptpBase_injective {j k : Fin 2} (h : k ≠ j) : ptpBase k ≠ ptpBase j := by
  revert j k
  decide

/-- What no part of Bellwether's second changes. -/
def TimeState.kept (t : TimeState) : Vector Ptp 2 × Bool × Bool × HalfNs × Option (HalfNs × Nat) :=
  (t.ptp, t.established, t.counting, t.lastTick, t.monoSave)

/-- The bases of `s` against those of `u`, `d` later by TB_MONO. -/
structure State.Since (u : TimeState) (s : State) (d : Nat) (g a : Int) : Prop where
  kept : s.time.kept = u.kept
  mono : s.time.base[(4 : Fin 5)].now = u.base[(4 : Fin 5)].now + d
  gnss : (s.time.base[(0 : Fin 5)].now : Int) = u.base[(0 : Fin 5)].now + d + g
  air : (s.time.base[(3 : Fin 5)].now : Int) = u.base[(3 : Fin 5)].now + d + a
  gnssForward : 0 ≤ d + g
  airForward : 0 ≤ d + a
  steps : s.time.base[(0 : Fin 5)].steps = u.base[(0 : Fin 5)].steps
  ptp : ∀ k : Fin 2, u.ptp[k].portState ≠ 6 → s.time.base[ptpBase k] = { u.base[ptpBase k] with now := u.base[ptpBase k].now + d }

section
variable {u : TimeState} {s t : State} {d : Nat} {g a : Int}

theorem State.Since.refl (s : State) : s.Since s.time 0 0 0 :=
  ⟨rfl, rfl, by simp, by simp, le_refl _, le_refl _, rfl, fun _ _ => rfl⟩

theorem State.Since.established (h : s.Since u d g a) : s.time.established = u.established := congrArg (fun k => k.2.1) h.kept

theorem State.Since.counting (h : s.Since u d g a) : s.time.counting = u.counting := congrArg (fun k => k.2.2.1) h.kept

theorem State.Since.lastTick (h : s.Since u d g a) : s.time.lastTick = u.lastTick := congrArg (fun k => k.2.2.2.1) h.kept

theorem State.Since.monoSave (h : s.Since u d g a) : s.time.monoSave = u.monoSave := congrArg (fun k => k.2.2.2.2) h.kept

theorem State.Since.ptpState (h : s.Since u d g a) : s.time.ptp = u.ptp := congrArg (fun k => k.1) h.kept

/-- What leaves the bases alone. -/
theorem State.Since.congr (h : s.Since u d g a) (hk : t.time.kept = s.time.kept) (hb : t.time.base = s.time.base) : t.Since u d g a := by
  obtain ⟨kept, mono, gnss, air, gf, af, steps, ptp⟩ := h
  rw [← hb] at mono gnss air steps
  refine ⟨hk.trans kept, mono, gnss, air, gf, af, steps, fun k hne => ?_⟩
  rw [hb, ptp k hne]

theorem State.Since.of_time (h : s.Since u d g a) (ht : t.time = s.time) : t.Since u d g a :=
  h.congr (congrArg _ ht) (congrArg _ ht)

/-- What changes neither the bases nor what is kept of the rest of the time. -/
theorem State.Since.modTime (h : s.Since u d g a) {f : TimeState → TimeState}
    (hk : (f s.time).kept = s.time.kept := by rfl) (hb : (f s.time).base = s.time.base := by rfl) : (s.modTime f).Since u d g a :=
  h.congr (t := s.modTime f) hk hb

theorem State.Since.modSrc (h : s.Since u d g a) (i : Fin 4) (f : Src → Src) : (s.modSrc i f).Since u d g a := h.modTime

/-- A change of TB_GNSS or TB_AIR other than of its time and its count of steps. -/
theorem State.Since.modBase (h : s.Since u d g a) {i : Fin 5} (hi : i = 0 ∨ i = 3) {f : Base → Base} 
    (hnow : ∀ b, (f b).now = b.now := by exact fun _ => rfl) (hsteps : ∀ b, (f b).steps = b.steps := by exact fun _ => rfl) : (s.modBase i f).Since u d g a := by
  have now (j : Fin 5) := s.modBase_base_keeps Base.now i j hnow
  refine ⟨h.kept, (now 4).trans h.mono, ?_, ?_, h.gnssForward, h.airForward, ?_, fun k hne => ?_⟩
  · rw [now 0, h.gnss]
  · rw [now 3, h.air]
  · exact (s.modBase_base_keeps Base.steps i 0 hsteps).trans h.steps
  · rw [s.modBase_base_ne f (by 
    rcases hi with rfl | rfl
    · exact (ptpBase_ne k).1
    · exact (ptpBase_ne k).2.1)]
    exact h.ptp k hne

theorem State.Since.refreshFlags (h : s.Since u d g a) : s.refreshFlags.Since u d g a :=
  State.Since.modBase (State.Since.modBase h (Or.inl rfl)) (Or.inr rfl)

theorem State.Since.raise (h : s.Since u d g a) (code inst x y : Nat) : (s.raise code inst x y).Since u d g a :=
  h.of_time (s.raise_time ..)

/-- Time that passes moves every base of bases that count. -/
theorem State.Since.advance (h : s.Since u d g a) (hc : u.counting = true) (n : HalfNs) : (s.advance n).Since u (d + n) g a := by
  have base (i : Fin 5) : (s.advance n).time.base[i] = { s.time.base[i] with now := s.time.base[i].now + n } := by
    simp [State.advance, h.counting, hc]
  obtain ⟨kept, mono, gnss, air, gf, af, steps, ptp⟩ := h
  refine ⟨kept, ?_, ?_, ?_, by omega, by omega, ?_, fun k hne => ?_⟩
  · rw [base, mono, Nat.add_assoc]
  · rw [base]
    push_cast
    omega
  · rw [base]
    push_cast
    omega
  · rw [base, steps]
  · rw [base, ptp k hne, Nat.add_assoc]

/-- A slew of TB_GNSS: forward at once, or back while it stands still (log entry 69). -/
theorem State.Since.slewGnss (h : s.Since u d g a) (hc : u.counting = true) (e : Int) :
    (s.slewBase 0 e).Since u (d + (-e).toNat) (g + e) a := by
  have h1 : (if e < 0 then s.advance e.natAbs else s).Since u (d + (-e).toNat) g a := by
    split_ifs with he
    · rw [show (-e).toNat = e.natAbs by omega]
      exact h.advance hc _
    · rwa [show (-e).toNat = 0 by omega]
  have hf := h.gnssForward
  unfold State.slewBase
  obtain ⟨kept, mono, gnss, air, gf, af, steps, ptp⟩ := h1
  refine ⟨kept, ?_, ?_, ?_, by omega, af, ?_, fun k hne => ?_⟩
  · rwa [State.modBase_base_ne _ _ (by decide)]
  · rw [State.modBase_base_same]
    simp only [Base.slewBy, Base.shift]
    omega
  · rwa [State.modBase_base_ne _ _ (by decide)]
  · rwa [State.modBase_base_same]
  · rw [State.modBase_base_ne _ _ (ptpBase_ne k).1, ptp k hne]

/-- A slew of TB_AIR, likewise. -/
theorem State.Since.slewAir (h : s.Since u d g a) (hc : u.counting = true) (e : Int) :
    (s.slewBase 3 e).Since u (d + (-e).toNat) g (a + e) := by
  have h1 : (if e < 0 then s.advance e.natAbs else s).Since u (d + (-e).toNat) g a := by
    split_ifs with he
    · rw [show (-e).toNat = e.natAbs by omega]
      exact h.advance hc _
    · rwa [show (-e).toNat = 0 by omega]
  have hf := h.airForward
  unfold State.slewBase
  obtain ⟨kept, mono, gnss, air, gf, af, steps, ptp⟩ := h1
  refine ⟨kept, ?_, ?_, ?_, gf, by omega, ?_, fun k hne => ?_⟩
  · rwa [State.modBase_base_ne _ _ (by decide)]
  · rwa [State.modBase_base_ne _ _ (by decide)]
  · rw [State.modBase_base_same]
    simp only [Base.slewBy, Base.shift]
    omega
  · rwa [State.modBase_base_ne _ _ (by decide)]
  · rw [State.modBase_base_ne _ _ (ptpBase_ne k).2.1, ptp k hne]

/-- A base that follows TB_GNSS in master role changes no other base (R378). -/
theorem State.Since.syncMaster (h : s.Since u d g a) (k : Fin 2) (f : Base → Base) :
    (if s.time.ptp[k].portState = 6 then s.modBase (ptpBase k) f else s).Since u d g a := by
  split_ifs with hm
  · have ne (j : Fin 5) (hj : ptpBase k ≠ j) := s.modBase_base_ne f hj
    obtain ⟨kept, mono, gnss, air, gf, af, steps, ptp⟩ := h
    refine ⟨kept, ?_, ?_, ?_, gf, af, ?_, fun j hne => ?_⟩
    · rwa [ne 4 (ptpBase_ne k).2.2.symm]
    · rwa [ne 0 (ptpBase_ne k).1.symm]
    · rwa [ne 3 (ptpBase_ne k).2.1.symm]
    · rwa [ne 0 (ptpBase_ne k).1.symm]
    · have hjk : k ≠ j := by
        rintro rfl
        exact hne ((congrArg (fun p : Vector Ptp 2 => p[k].portState) (congrArg (fun k => k.1) kept)).symm.trans hm)
      rw [ne (ptpBase j) (ptpBase_injective hjk), ptp j hne]
  · exact h

theorem State.Since.syncMasters (h : s.Since u d g a) : s.syncMasters.Since u d g a :=
  (h.syncMaster 0 _).syncMaster 1 _

/-! ### The parts of Bellwether's second -/

theorem State.Since.tpRefresh (h : s.Since u d g a) (n : Fin 2) : (s.tpRefresh n).Since u d g a := by
  unfold State.tpRefresh State.modPulse
  exact h.modTime

theorem State.Since.compareSrc (h : s.Since u d g a) (i : Fin 4) : (s.compareSrc i).Since u d g a := by
  unfold State.compareSrc
  extract_lets x q off dis n s1
  have h1 : s1.Since u d g a := h.modSrc ..
  clear_value s1
  split_ifs
  · exact h1.raise ..
  · exact h1

theorem State.Since.compareSrcs (h : s.Since u d g a) (l : List (Fin 4)) : (l.foldl State.compareSrc s).Since u d g a := by
  induction l generalizing s with
  | nil => exact h
  | cons i l ih => exact ih (h.compareSrc i)

theorem State.Since.enterHoldover (h : s.Since u d g a) : s.enterHoldover.Since u d g a := by
  simp only [State.enterHoldover]
  split_ifs
  · exact h
  · refine State.Since.raise (State.Since.refreshFlags (State.Since.modBase ?_ (Or.inl rfl))) ..
    exact h.modTime

/-- Once time is established a selection moves no base (R386). -/
theorem State.Since.select (h : s.Since u d g a) (he : u.established = true) (new : Nat) : (s.select new).Since u d g a := by
  unfold State.select
  split_ifs
  · exact h
  · extract_lets s1
    have h1 : s1.Since u d g a := State.Since.raise h.modTime ..
    have he1 : s1.time.established = true := h1.established.trans he
    clear_value s1
    split
    · rw [if_pos he1]
      exact h1.enterHoldover
    · rwa [if_pos he1]

theorem natAbs_clampTo_le (e : Int) (m : Nat) : (clampTo e m).natAbs ≤ m := by
  unfold clampTo
  omega

theorem State.Since.leap (h : s.Since u d g a) (o : Option Int) :
    (match o with
      | some l => if l = s.time.leap then s else (s.modTime fun t => { t with leap := l }).forceSync
      | none => s).Since u d g a := by
  cases o with
  | none => exact h
  | some l =>
    dsimp only
    split_ifs
    · exact h
    · exact State.Since.of_time (s := s.modTime fun t => { t with leap := l }) h.modTime (State.forceSync_time _)

/-- A comparison slews TB_GNSS by 25 ns at most, and steps it only later (R389). -/
theorem State.Since.discipline (h : s.Since u d g a) (hc : u.counting = true) (i : Fin 4) :
    ∃ e : Int, e.natAbs ≤ 50 ∧ (s.discipline i).Since u (d + (-e).toNat) (g + e) a := by
  unfold State.discipline
  extract_lets e s1
  have h1 : s1.Since u d g a := h.leap _
  clear_value s1
  have still : (0 : Int).natAbs ≤ 50 ∧ ∀ {t : State}, t.Since u d g a → t.Since u (d + (-(0 : Int)).toNat) (g + 0) a :=
    ⟨by decide, fun h => by simpa using h⟩
  split_ifs
  · refine ⟨_, natAbs_clampTo_le e 50, ?_⟩
    exact State.Since.modTime (State.Since.modBase (h1.slewGnss hc _) (Or.inl rfl))
  · exact ⟨0, still.1, still.2 (State.Since.modTime (State.Since.modBase h1 (Or.inl rfl)))⟩
  · exact ⟨0, still.1, still.2 h1.enterHoldover.modTime⟩
  · exact ⟨0, still.1, still.2 (State.Since.raise h1.enterHoldover.modTime ..)⟩

theorem State.Since.growError (h : s.Since u d g a) : s.growError.Since u d g a := by
  unfold State.growError
  have hd : s.drawn.Since u d g a := h.congr rfl rfl
  split_ifs
  · exact h
  · dsimp only
    split_ifs
    · exact State.Since.raise (hd.modBase (Or.inl rfl)) ..
    · exact hd.modBase (Or.inl rfl)

/-- TB_AIR's slew of one second is 25 ns at most (R391). -/
theorem State.Since.airSecond (h : s.Since u d g a) (hc : u.counting = true) :
    ∃ e : Int, e.natAbs ≤ 50 ∧ s.airSecond.Since u (d + (-e).toNat) g (a + e) := by
  simp only [State.airSecond]
  split_ifs
  · exact ⟨_, natAbs_clampTo_le _ 50, h.slewAir hc _⟩
  · exact ⟨0, by decide, by simpa using h⟩

theorem State.mono_of_base (s : State) (h : s.time.monoSave = none) : s.mono = s.time.base[(4 : Fin 5)].now := by
  unfold State.mono
  rw [h]
  rfl

theorem State.exec_bellwetherTick (s : State) : exec .bellwetherTick s = .next s.bellwether := rfl

/-- A second of Bellwether has begun. -/
def State.secondBegun (s : State) : State :=
  (s.toMono (s.time.lastTick + secHalfNs)).modTime fun t => { t with lastTick := (s.toMono (s.time.lastTick + secHalfNs)).mono }

/-- The comparisons and the selection of a second. -/
def State.chosen (s : State) : State :=
  ((List.finRange 4).foldl State.compareSrc s).select ((List.finRange 4).foldl State.compareSrc s).choose

/-- TB_GNSS under the source selected, if any. -/
def State.disciplined (s : State) : State :=
  match s.selectedSrc with
  | some i => s.discipline i
  | none => s

/-- What a second that has begun does. -/
def State.judge (s : State) : State :=
  (s.chosen.disciplined.growError.airSecond.refreshFlags.syncMasters.tpRefresh 0).tpRefresh 1

theorem State.bellwether_eq (s : State) : s.bellwether = s.secondBegun.judge := by
  unfold State.bellwether State.judge
  extract_lets v v1 v2 v3 v4 v5
  have hdisciplined : v4 = v3.disciplined := by
    unfold State.disciplined
    cases h : v3.selectedSrc <;> simp only [v4, h]
  rw [show s.secondBegun.chosen = v3 from rfl, ← hdisciplined]

theorem State.Since.disciplined (h : s.Since u d g a) (hc : u.counting = true) :
    ∃ e : Int, e.natAbs ≤ 50 ∧ s.disciplined.Since u (d + (-e).toNat) (g + e) a := by
  unfold State.disciplined
  split
  · exact h.discipline hc _
  · exact ⟨0, by decide, by simpa using h⟩

/-- A second of an established Bellwether: each of TB_GNSS and TB_AIR slews once. -/
theorem State.judge_since (v : State) (he : v.time.established = true) (hc : v.time.counting = true) :
    ∃ (e f : Int), e.natAbs ≤ 50 ∧ f.natAbs ≤ 50 ∧ v.judge.Since v.time ((-e).toNat + (-f).toNat) e f := by
  have hchosen : v.chosen.Since v.time 0 0 0 := ((State.Since.refl v).compareSrcs _).select he _
  obtain ⟨e, hle, h⟩ := hchosen.disciplined hc
  obtain ⟨f, hlf, hair⟩ := h.growError.airSecond hc
  rw [Nat.zero_add, Int.zero_add, Int.zero_add] at hair
  exact ⟨e, f, hle, hlf, (hair.refreshFlags.syncMasters.tpRefresh 0).tpRefresh 1⟩

end

/-- What two slews of at most 50 units, each while its base stands still if it goes back, come to. -/
theorem slew_bounds {e f : Int} {m m' b b' : Nat} (he : e.natAbs ≤ 50) (hf : f.natAbs ≤ 50) (hm : m' = m + ((-e).toNat + (-f).toNat))
    {g : Int} (hb : (b' : Int) = b + ((-e).toNat + (-f).toNat : Nat) + g) (hg : g = e ∨ g = f) :
    m ≤ m' ∧ m' ≤ m + 100 ∧ b ≤ b' ∧ b' + m ≤ b + m' + 50 ∧ b + m' ≤ b' + m + 50 := by
  omega

/-- Settles O48: by the two slews of `State.judge_since`. -/
theorem bellwetherSlewsSlowly : Obligations.BellwetherSlewsSlowly := by
  unfold Obligations.BellwetherSlewsSlowly
  rintro s u he hc hm rfl
  obtain ⟨e, f, hle, hlf, h⟩ := s.secondBegun.judge_since he hc
  rw [← State.bellwether_eq] at h
  have hu : (s.toMono (s.time.lastTick + secHalfNs)).mono = (s.toMono (s.time.lastTick + secHalfNs)).time.base[(4 : Fin 5)].now :=
    State.mono_of_base _ hm
  have ht : s.bellwether.mono = s.bellwether.time.base[(4 : Fin 5)].now := State.mono_of_base _ (h.monoSave.trans hm)
  have hlast : s.bellwether.time.lastTick = (s.toMono (s.time.lastTick + secHalfNs)).mono := h.lastTick
  have hest : s.bellwether.time.established = true := h.established.trans he
  obtain ⟨-, mono, gnss, air, gf, af, steps, ptp⟩ := h
  have hbase : s.secondBegun.time.base = (s.toMono (s.time.lastTick + secHalfNs)).time.base := rfl
  have hptp : s.secondBegun.time.ptp = s.time.ptp := rfl
  rw [hbase] at mono gnss air steps ptp
  rw [hptp] at ptp
  generalize s.toMono (s.time.lastTick + secHalfNs) = u at *
  rw [State.exec_bellwetherTick]
  generalize s.bellwether = t at *
  refine ⟨t, rfl, ?_⟩
  rw [ht, hlast, hu]
  obtain ⟨hforward, hlimit, hgnss⟩ := slew_bounds hle hlf mono gnss (Or.inl rfl)
  obtain ⟨-, -, hair⟩ := slew_bounds hle hlf mono air (Or.inr rfl)
  refine ⟨hforward, hlimit, fun i hi => ?_, fun k hne => ?_, steps, hest, rfl⟩
  · rcases hi with rfl | rfl
    · exact hgnss
    · exact hair
  · rw [ptp k hne, mono, Nat.add_sub_cancel_left]

end Sys2Proof.Machine
end

section
/-!
SUPPORT. Promotion at an arbiter, containment by level and engine restarts (01_architecture.md R12, R14, R15, R22).
-/

namespace Sys2Proof.Machine

theorem exec_requestPromotion (region who cls : Nat) (s : State) : exec (.requestPromotion region who cls) s
    = .next (s.promote region who cls) := rfl
theorem exec_errorDetected (region block cell level : Nat) (ok : Bool) (s : State) : exec (.errorDetected region block cell level ok) s
    = .next (s.errorDetected region block cell level ok).settled := rfl
theorem exec_containmentEscalation (n : Nat) (ok : Bool) (s : State) : exec (.containmentEscalation n ok) s
    = .next (s.escalate n ok).settled := rfl
theorem exec_engineWatchdogExpiry (n : Fin 8) (s : State) : exec (.engineWatchdogExpiry n) s
    = .next (if n.val = 0 then s else (s.watchdog n).settled) := rfl
theorem exec_supWatchdogExpiry (s : State) : exec .supWatchdogExpiry s = .next (s.watchdog 0) := rfl
theorem exec_engineRestartDone (n : Fin 8) (s : State) : exec (.engineRestartDone n) s = .next (s.engineRuns n) := rfl

section
variable {s : State}

/-! ### Promotion (R12) -/

theorem State.promote_refused {region who cls : Nat} (h : ¬(2 ≤ cls ∧ cls ≤ 4 ∧ 1 ≤ region ∧ region ≤ 15)) :
    s.promote region who cls = s := if_pos (by omega)

/-- The arbiter at which a request has been promoted. -/
def Arbiter.promoted (a : Arbiter) (who cls : Nat) : Arbiter := { a with
  waiting := if a.waiting.any (ArbReq.isOf who cls) then a.waiting.map fun q => if q.isOf who cls then q.up else q
    else a.waiting ++ [⟨who, cls - 1, 0⟩] }

theorem State.promote_accepted {region who cls : Nat} (h1 : 1 ≤ region) (h15 : region ≤ 15) (h2 : 2 ≤ cls) (h4 : cls ≤ 4) :
    s.promote region who cls = (s.modArb region fun a => a.promoted who cls).countPromotion region (cls - 1) := if_neg (by omega)

theorem ArbReq.isOf_iff (q : ArbReq) (who cls : Nat) : q.isOf who cls = true ↔ q.who = who ∧ q.cls = cls := by
  simp [ArbReq.isOf]

/-- A promoted request waits with its new class: moved up where the arbiter holds it, entered where it does not. -/
theorem Arbiter.promoted_waiting (a : Arbiter) (who cls : Nat) : ∃ q ∈ (a.promoted who cls).waiting, q.who = who ∧ q.cls = cls - 1 := by
  unfold Arbiter.promoted
  dsimp only
  split_ifs with h
  · obtain ⟨q, hq, hof⟩ := List.any_eq_true.1 h
    obtain ⟨hwho, hcls⟩ := (q.isOf_iff who cls).1 hof
    exact ⟨_, List.mem_map_of_mem hq, by rw [if_pos hof]; exact ⟨hwho, congrArg (· - 1) hcls⟩⟩
  · exact ⟨_, List.mem_append_right _ (List.mem_singleton_self _), rfl, rfl⟩

theorem State.modArb_arb_same (s : State) (f : Arbiter → Arbiter) (i : Fin 15) : (s.modArb (i + 1) f).arb[i] = f s.arb[i] := by
  simp [State.modArb]

theorem State.modArb_arb_ne (s : State) {region : Nat} (f : Arbiter → Arbiter) (i : Fin 15) (h : i.val + 1 ≠ region) :
    (s.modArb region f).arb[i] = s.arb[i] := by
  simp [State.modArb, h]

/-! ### Levels of containment (R14, R15, Table AC-4) -/

section
variable {region : Nat} (h1 : 1 ≤ region) (h15 : region ≤ 15)
include h1 h15

theorem State.errorDetected_held {block cell level : Nat} {ok : Bool} (h : s.isHeld region = true) :
    s.errorDetected region block cell level ok = s.count Obj.CONTAIN_COUNTS (region - 1) (min level 3) :=
  (if_neg (by omega)).trans (if_pos h)

/-- Below chip level an error of a region that is not held goes to its level. -/
theorem State.errorDetected_attempt {block cell level : Nat} {ok : Bool} (h : s.isHeld region = false) (hl : level < 3) :
    s.errorDetected region block cell level ok = s.attempt ⟨region, block, cell, level, 1, s.mono⟩ ok :=
  (if_neg (by omega)).trans ((if_neg (by simp [h])).trans (if_neg (by omega)))

end

theorem State.attempt_contained (c : Containment) : s.attempt c true = s.contained c := rfl

theorem State.attempt_failed (c : Containment) :
    s.attempt c false = s.modFlt fun x => { x with containing := x.containing ++ [c] } := rfl

/-- An error that its level could not contain is taken on by the next level at the time limit. -/
theorem State.escalate_below {n : Nat} {c : Containment} {ok : Bool} (h : s.flt.containing[n]? = some c) (hl : c.level < 2) :
    s.escalate n ok = ((s.toMono (c.since + levelLimit c.level)).modFlt fun x => { x with containing := x.containing.eraseIdx n }).attempt
      { c with level := c.level + 1, tries := c.tries + 1, since := (s.toMono (c.since + levelLimit c.level)).mono } ok := by
  unfold State.escalate
  rw [h]
  exact if_neg (by omega)

/-! ### Engine restarts (R22) -/

/-- An engine that runs, or restarts, is restarted while fewer than three restarts lie in the last 60 s. -/
theorem State.watchdog_restarts {n : Fin 8} (h0 : n.val ≠ 0) (hst : (s.eng[n]).st = 1) (hr : (s.recentRestarts s.eng[n]).length < 3) :
    s.watchdog n = State.engineStops (State.raise
      { s with eng := s.eng.set n ⟨2, min ((s.eng[n]).restarts + 1) 0xFFFFFFFF, ts96 s.mono, s.mono :: s.recentRestarts s.eng[n]⟩ }
      Ev.ENGINE_RESTART n) n := by
  unfold State.watchdog
  rw [if_neg (by omega), if_neg (by omega)]
  exact if_neg h0

theorem State.watchdog_fails {n : Fin 8} (h0 : n.val ≠ 0) (hst : (s.eng[n]).st = 1) (hr : 3 ≤ (s.recentRestarts s.eng[n]).length) :
    s.watchdog n = State.chipLevel (State.engineStops { s with eng := s.eng.set n { s.eng[n] with st := 3 } } n)
      (engineRegion n) 0 0xFFFF 0 n := by
  unfold State.watchdog
  rw [if_neg (by omega), if_pos hr]
  exact congrArg (fun t : State => t.chipLevel (engineRegion n) 0 0xFFFF 0 n) (if_neg h0)

/-- SUP's restart stops no other work. -/
theorem State.watchdog_sup (hst : (s.eng[0]).st = 1) (hr : (s.recentRestarts s.eng[0]).length < 3) :
    s.watchdog 0 = State.raise
      { s with eng := s.eng.set 0 ⟨2, min ((s.eng[0]).restarts + 1) 0xFFFFFFFF, ts96 s.mono, s.mono :: s.recentRestarts s.eng[0]⟩ }
      Ev.ENGINE_RESTART 0 :=
  (if_neg (by rw [Fin.getElem_fin]; simp [hst])).trans (if_neg (by simpa using hr))

theorem State.engineRuns_restarting {n : Fin 8} (h : (s.eng[n]).st = 2) :
    s.engineRuns n = State.serveWaiting { s with eng := s.eng.set n { s.eng[n] with st := 1 } } := if_pos h

theorem State.engineRuns_other {n : Fin 8} (h : (s.eng[n]).st ≠ 2) : s.engineRuns n = s := if_neg h

end

/-- Settles O6: each command by the branch that its hypotheses choose. -/
theorem containmentAndEngines : Obligations.ContainmentAndEngines := by
  unfold Obligations.ContainmentAndEngines
  simp only [exec_requestPromotion, exec_errorDetected, exec_containmentEscalation, exec_engineWatchdogExpiry, exec_supWatchdogExpiry,
    exec_engineRestartDone]
  refine ⟨⟨?promoted, ?refused, ?contained, ?failed, ?held, ?escalates⟩, ?restarts, ?fails, ?sup, ?runs, ?other⟩
  case promoted =>
    intro s region who cls h1 h15 h2 h4
    rw [State.promote_accepted h1 h15 h2 h4]
    refine ⟨_, rfl, rfl, rfl, rfl, fun i hi => ?_, fun i hi => State.modArb_arb_ne _ _ i hi⟩
    subst hi
    exact (s.modArb_arb_same (fun a => a.promoted who cls) i).symm ▸ s.arb[i].promoted_waiting who cls
  case refused =>
    intro s region who cls h
    rw [State.promote_refused h]
  case contained =>
    intro s region block cell h1 h15 hheld
    rw [State.errorDetected_attempt h1 h15 hheld (by omega), State.errorDetected_attempt h1 h15 hheld (by omega),
      State.errorDetected_attempt h1 h15 hheld (by omega)]
    exact ⟨rfl, rfl, rfl⟩
  case failed =>
    intro s region block cell level h1 h15 hheld hl
    rw [State.errorDetected_attempt h1 h15 hheld hl]
    rfl
  case held =>
    intro s region block cell level ok h1 h15 hheld
    rw [State.errorDetected_held h1 h15 hheld]
  case escalates =>
    intro s n c hc hl
    rw [State.escalate_below hc hl, State.attempt_failed]
    rfl
  case restarts =>
    intro s n h0 hst hr
    rw [if_neg h0, State.watchdog_restarts h0 hst hr]
  case fails =>
    intro s n h0 hst hr
    rw [if_neg h0, State.watchdog_fails h0 hst hr]
  case sup =>
    intro s hst hr
    rw [State.watchdog_sup hst hr]
  case runs =>
    intro s n h
    rw [State.engineRuns_restarting h]
  case other =>
    intro s n h
    rw [State.engineRuns_other h]

end Sys2Proof.Machine
end

section
/-!
SUPPORT. Writes on their way to the islands, fences and BAR0 writes (01_architecture.md R27, R28, R32; 15_host_and_network_ports.md R495).
-/

namespace Sys2Proof.Machine

theorem exec_islandWriteComplete (i : Nat) (s : State) : exec (.islandWriteComplete i) s = .next (s.complete i) := rfl
theorem exec_fence (who : Nat) (s : State) : exec (.fence who) s = .next (s.fence who) := rfl
theorem exec_bar0FenceRead (s : State) : exec .bar0FenceRead s = .next s.bar0Fence := rfl
theorem exec_bar0RegisterWrite (offset width v : Nat) (s : State) : exec (.bar0RegisterWrite offset width v) s
    = .next (s.bar0Write offset width v) := rfl

section
variable {s : State}

/-! ### Completion and entry into AON -/

/-- An earlier write of the same initiator to the same island is still on its way (R28). -/
def State.waitsBehind (s : State) (i : Nat) (w : Inflight) : Bool :=
  (s.isl.inflight.take i).any fun x => x.who == w.who && x.island == w.island

theorem State.complete_first {i : Nat} {w : Inflight} (h : s.isl.inflight[i]? = some w) (hfirst : s.waitsBehind i w = false) :
    s.complete i = ((((s.modIsl fun x => { x with inflight := x.inflight.eraseIdx i }).takeEffect w).settled).release) := by
  unfold State.complete
  rw [h]
  exact if_neg (Bool.eq_false_iff.1 hfirst)

theorem State.complete_behind {i : Nat} {w : Inflight} (h : s.isl.inflight[i]? = some w) (hbehind : s.waitsBehind i w = true) :
    s.complete i = s := by
  unfold State.complete
  rw [h]
  exact if_pos hbehind

theorem State.admitAon_cons {w : Inflight} {ws : List Inflight} (h : s.isl.aonHeld = w :: ws) : s.admitAon = if s.aonInflight < 4 then
    s.modIsl fun i => { i with inflight := i.inflight ++ [w], aonHeld := ws } else s := by
  unfold State.admitAon
  rw [h]
  dsimp only
  split_ifs with h1 h2 h2
  · omega
  · rfl
  · rfl
  · omega

/-! ### Fences (R29) -/

/-- A fence that waits. -/
def State.addFence (s : State) (f : FenceWait) : State := s.modIsl fun i => { i with fences := i.fences ++ [f] }

/-- The only fence that waits ends at once when its initiator has no write outstanding. -/
theorem State.release_fence (f : FenceWait) (hf : s.isl.fences = []) (hr : s.isl.responses = []) :
    (s.addFence f).release = if s.outstanding (fun w => w.who == f.who) = true then { s with isl := { s.isl with fences := [f] } }
      else s.emit (if f.bar0 then .bar0Read 0x10 0 else .fenceDone f.who) := by
  have hadd : s.addFence f = { s with isl := { s.isl with fences := [f] } } := by
    simp only [State.addFence, State.modIsl, hf, List.nil_append]
  have hout : ∀ p, (s.addFence f).outstanding p = s.outstanding p := fun _ => rfl
  have hresp : (s.addFence f).isl.responses = [] := hr
  have hfences : (s.addFence f).isl.fences = [f] := by rw [hadd]
  simp only [State.release, hresp, hfences, List.filter_nil, List.foldl_nil, List.filter_cons, hout]
  cases s.outstanding fun w => w.who == f.who with
  | true => simpa using hadd
  | false =>
    have hend : (s.addFence f).fenceEnd f = s.emit (if f.bar0 then .bar0Read 0x10 0 else .fenceDone f.who) := by
      rw [hadd]
      simp [State.fenceEnd, State.modIsl, State.emit, ← hf]
    simpa using hend

theorem State.fence_known {who : Nat} (h : (s.authSession who).isSome = true) :
    s.fence who = ((s.bumpRev Obj.FENCE).addFence ⟨who, false, 0⟩).release := if_neg (by simp [Option.isSome_iff_ne_none.1 h])

/-! ### BAR0 register writes (R495, R496) -/

theorem State.bar0Fence_served (h : s.barServes = true) : s.bar0Fence = (s.addFence ⟨0, true, 0⟩).release := if_pos h

theorem State.bar0Fence_unserved (h : s.barServes = false) : s.bar0Fence = s := if_neg (Bool.eq_false_iff.1 h)

theorem State.bar0Write_unserved (offset width v : Nat) (h : s.barServes = false) : s.bar0Write offset width v = s :=
  if_pos (by simp [h])

section
variable (h : s.barServes = true) {offset width : Nat} (v : Nat)
include h

theorem State.bar0Write_bad (hbad : width ≠ 4 ∨ offset % 4 ≠ 0) : s.bar0Write offset width v = s.count Obj.BAR0_BAD_ACCESS :=
  (if_neg (by simp [h])).trans (if_pos hbad)

theorem State.bar0Write_calendar (ho : offset ∈ [0x2014, 0x2018, 0x2020, 0x2024, 0x2028, 0x202C]) :
    s.bar0Write offset 4 v = s.issueTo ⟨0, 9, offset, 0, 1, scalar (v % 2 ^ 32 : Nat), none, [], 0⟩ := by
  have halign : offset % 4 = 0 := by
    revert offset
    decide
  exact (if_neg (by simp [h])).trans ((if_neg (by omega)).trans (if_pos (List.contains_iff_mem.2 ho)))

/-- A register outside the calendar's group. -/
theorem State.bar0Write_other (halign : offset % 4 = 0) (ho : offset ∉ [0x2014, 0x2018, 0x2020, 0x2024, 0x2028, 0x202C]) :
    s.bar0Write offset 4 v = if offset = 0x20 ∨ (0x8000 ≤ offset ∧ offset < 0x8080) then
      s.issueTo ⟨0, 2, offset, 0, 1, scalar (v % 2 ^ 32 : Nat), none, [], 0⟩ else (s.bar0Act offset (v % 2 ^ 32)).settled :=
  (if_neg (by simp [h])).trans ((if_neg (by omega)).trans (if_neg (mt List.contains_iff_mem.1 ho)))

theorem State.bar0Act_irqClear (hq : s.bar0Quiet 2 = true) : s.bar0Act 0x1C v = s.irqClear v :=
  (if_neg (by decide)).trans ((if_pos rfl).trans (s.bar0Access_quiet 2 _ h hq))

end

/-- A register of no effect. -/
theorem State.bar0Act_none {offset : Nat} (v : Nat) (ho : offset ∉ [0x14, 0x1C, 0x20, 0x1000]) (hlt : offset < 0x2000) :
    s.bar0Act offset v = s := by
  simp only [List.mem_cons, List.not_mem_nil, or_false, not_or] at ho
  obtain ⟨h14, h1c, -, h1000⟩ := ho
  exact (if_neg h14).trans ((if_neg h1c).trans ((if_neg h1000).trans (if_neg (by omega))))

end

/-- Settles O7: the writes by their order, the fences by `State.release_fence`, the BAR0 registers by their offset. -/
theorem writesAndFences : Obligations.WritesAndFences := by
  unfold Obligations.WritesAndFences
  simp only [exec_islandWriteComplete, exec_aonWriteAdmitted, exec_fence, exec_bar0FenceRead, exec_bar0RegisterWrite]
  refine ⟨?first, ?behind, ?enters, ?fence, ?barFence, ?barFenceOff, ?off, ?bad, ?calendar, ?host, ?irq, ?none⟩
  case first =>
    intro s i w hw hfirst
    rw [State.complete_first hw hfirst]
    rfl
  case behind =>
    intro s i w hw hbehind
    rw [State.complete_behind hw hbehind]
  case enters =>
    intro s w ws h
    rw [State.admitAon_cons h]
    rfl
  case fence =>
    intro s who hwho hf hr
    rw [State.fence_known hwho, State.release_fence (s := s.bumpRev Obj.FENCE) ⟨who, false, 0⟩ hf hr]
    by_cases h : s.outstanding (fun w => w.who == who) = true
    · rw [if_pos (by exact h)]
      exact ⟨_, rfl, rfl, rfl, (if_pos h).mpr ⟨rfl, rfl⟩⟩
    · rw [if_neg (by exact h)]
      exact ⟨_, rfl, rfl, rfl, (if_neg h).mpr ⟨rfl, rfl⟩⟩
  case barFence =>
    intro s h hf hr
    rw [State.bar0Fence_served h, State.release_fence _ hf hr]
    rfl
  case barFenceOff =>
    intro s h
    rw [State.bar0Fence_unserved h]
  case off =>
    intro s offset width v h
    rw [State.bar0Write_unserved _ _ _ h]
  case bad =>
    intro s offset width v h hbad
    rw [State.bar0Write_bad h v hbad]
  case calendar =>
    intro s offset v h ho
    rw [State.bar0Write_calendar h v ho]
  case host =>
    intro s offset v h halign ho
    have hcal : offset ∉ [0x2014, 0x2018, 0x2020, 0x2024, 0x2028, 0x202C] := by
      simp only [List.mem_cons, List.not_mem_nil, or_false]
      omega
    rw [State.bar0Write_other h v halign hcal, if_pos ho]
  case irq =>
    intro s v h hq
    rw [State.bar0Write_other h v rfl (by decide), if_neg (by decide), State.bar0Act_irqClear h _ hq]
  case none =>
    intro s offset v h halign ho hlt
    have hcal : offset ∉ [0x2014, 0x2018, 0x2020, 0x2024, 0x2028, 0x202C] := by
      simp only [List.mem_cons, List.not_mem_nil, or_false]
      omega
    have hhost : ¬(offset = 0x20 ∨ (0x8000 ≤ offset ∧ offset < 0x8080)) := by
      simp only [List.mem_cons, List.not_mem_nil, or_false, not_or] at ho
      omega
    rw [State.bar0Write_other h v halign hcal, if_neg hhost, State.bar0Act_none _ ho hlt]

end Sys2Proof.Machine
end

section
/-!
SUPPORT. The calendar's objects and its BAR0 group (12_rtc_and_always_on.md R415, R417 to R419, R423, R424, R428; Table AO-2).
-/

namespace Sys2Proof.Machine

theorem exec_rtcSet (v : List Nat) (s : State) : exec (.rtcSet v) s = .next (s.rtcSet v) := rfl
theorem exec_rtcHalt (b : Nat) (s : State) : exec (.rtcHalt b) s = .next (s.rtcHalt b) := rfl
theorem exec_rtcAlarmEnable (b : Nat) (s : State) : exec (.rtcAlarmEnable b) s = .next (s.rtcAlarmEnable b) := rfl
theorem exec_rtcAlarm (v : List Nat) (s : State) : exec (.rtcAlarm v) s = .next (s.rtcAlarm v) := rfl
theorem exec_paddockClear (m : Nat) (s : State) : exec (.paddockClear m) s = .next (s.paddockClear m) := rfl
theorem exec_rtcSetDate (w : Nat) (s : State) : exec (.rtcSetDate w) s = .next (s.rtcWrite 0x2024 w) := rfl
theorem exec_rtcCtrl (w : Nat) (s : State) : exec (.rtcCtrl w) s = .next (s.rtcWrite 0x2018 w) := rfl
theorem exec_rtcAlarmDate (w : Nat) (s : State) : exec (.rtcAlarmDate w) s = .next (s.rtcWrite 0x202C w) := rfl
theorem exec_rtcSubsecRead (s : State) : exec .rtcSubsecRead s = .next (s.bar0Access 9 State.subsecRead) := rfl
theorem exec_rtcTickHiRead (s : State) : exec .rtcTickHiRead s = .next (s.bar0Access 9 State.tickHiRead) := rfl

section
variable {s : State}

/-! ### Values of the calendar's objects -/

/-- An adjustment while the alarm is not armed sets the calendar alone. -/
theorem State.adjust_disarmed (c : Cal) (sub : Nat) (ha : s.aon.alarm ≠ 1) :
    s.adjust c sub = (s.modAon fun a => { a with cal := c, pres := sub, pending := 0, catchUp := false }).count Obj.RTC_COUNTS 3 :=
  if_pos ha

theorem State.rtcSet_fits {c : Cal} {sub : Nat} (hc : calFits c = true) (hs : sub < 32768) :
    s.rtcSet [c.sec, c.min, c.hour, c.wday, c.day, c.month, c.year, sub] = (s.adjust c sub).bumpRev Obj.RTC_SET :=
  if_pos ⟨rfl, hc, hs⟩

theorem State.rtcSet_misfits {c : Cal} {sub : Nat} (h : calFits c = false ∨ 32768 ≤ sub) :
    s.rtcSet [c.sec, c.min, c.hour, c.wday, c.day, c.month, c.year, sub] = s := by
  refine if_neg ?_
  rintro ⟨-, hc, hs⟩
  rcases h with h | h
  · exact Bool.false_ne_true (h.symm.trans hc)
  · exact absurd hs h.not_gt

theorem State.setHalt_begins (h : s.cfgN Obj.RTC_HALT = 0) :
    s.setHalt 1 = (s.cfgPut Obj.RTC_HALT (scalar 1)).modAon fun a => { a with overrun := false, catchUp := false } := if_pos ⟨rfl, h⟩

theorem State.setHalt_ends (h : s.cfgN Obj.RTC_HALT = 1) :
    s.setHalt 0 = (s.cfgPut Obj.RTC_HALT (scalar 0)).modAon fun a => { a with catchUp := decide (0 < a.pending) } := by
  unfold State.setHalt
  rw [if_neg (by simp), if_pos ⟨rfl, h⟩]
  rfl

theorem State.setAlarmEnable_zero :
    s.setAlarmEnable 0 = (s.cfgPut Obj.RTC_ALARM_ENABLE (scalar 0)).modAon fun a => { a with alarm := 0 } := by
  unfold State.setAlarmEnable
  rw [if_pos rfl]
  rfl

theorem State.setAlarmEnable_one (h : s.cfgN Obj.RTC_ALARM_ENABLE = 0) :
    s.setAlarmEnable 1 = (s.cfgPut Obj.RTC_ALARM_ENABLE (scalar 1)).modAon fun a => { a with alarm := 1 } := by
  unfold State.setAlarmEnable
  rw [if_neg (by decide), if_pos h]
  rfl

theorem State.rtcAlarm_fits {sec min hour day month year : Nat} (h1 : sec < 64) (h2 : min < 64) (h3 : hour < 32) (h4 : day < 32)
    (h5 : month < 16) (h6 : year < 128) : s.rtcAlarm [sec, min, hour, day, month, year]
      = (s.putAlarm sec min hour day month year).bumpRev Obj.RTC_ALARM := if_pos ⟨rfl, h1, h2, h3, h4, h5, h6⟩

/-! ### Banks of the Paddock (R428) -/

/-- A bank that reads INVALID. -/
def Bank.Cleared (b : Bank) : Prop := b.st = 0 ∧ b.intact = false

theorem State.clearBank_bank (s : State) (i : Fin 4) :
    (s.clearBank i).aon.bank = vmod s.aon.bank i fun b => { b with st := 0, intact := false } := by
  simp only [State.clearBank]
  split_ifs <;> rfl

theorem State.clearBank_same (s : State) (i : Fin 4) : ((s.clearBank i).aon.bank[i]).Cleared := by
  rw [s.clearBank_bank]
  simp [vmod, Bank.Cleared]

theorem State.clearBank_ne (s : State) {i j : Fin 4} (h : i ≠ j) : (s.clearBank i).aon.bank[j] = s.aon.bank[j] := by
  rw [s.clearBank_bank]
  exact Vector.getElem_set_ne i.isLt j.isLt (Fin.val_ne_of_ne h)

/-- Clearing any bank leaves a cleared one cleared. -/
theorem State.clearBank_cleared {i j : Fin 4} (h : (s.aon.bank[j]).Cleared) : ((s.clearBank i).aon.bank[j]).Cleared := by
  by_cases hij : i = j
  · subst hij
    exact s.clearBank_same i
  · rwa [s.clearBank_ne hij]

/-- A round of PADDOCK_CLEAR. -/
def State.paddockBank (m : Nat) (s : State) (i : Fin 4) : State := if m.testBit i then s.clearBank i else s

theorem State.paddockPut_cleared {m : Nat} {j : Fin 4} (hm : m.testBit j = true) (l : List (Fin 4)) (h : (s.aon.bank[j]).Cleared ∨ j ∈ l) :
    ((l.foldl (State.paddockBank m) s).aon.bank[j]).Cleared := by
  induction l generalizing s with
  | nil => exact h.resolve_right (List.not_mem_nil)
  | cons i l ih =>
    rw [List.foldl_cons]
    refine ih ?_
    unfold State.paddockBank
    rcases h with h | h
    · left
      split_ifs
      · exact State.clearBank_cleared h
      · exact h
    · rcases List.mem_cons.1 h with rfl | h
      · left
        rw [if_pos hm]
        exact s.clearBank_same j
      · exact Or.inr h

theorem State.paddockPut_keeps {m : Nat} {j : Fin 4} (hm : m.testBit j = false) (l : List (Fin 4)) :
    (l.foldl (State.paddockBank m) s).aon.bank[j] = s.aon.bank[j] := by
  induction l generalizing s with
  | nil => rfl
  | cons i l ih =>
    rw [List.foldl_cons, ih]
    unfold State.paddockBank
    split_ifs with hi
    · exact s.clearBank_ne (by rintro rfl; simp [hm] at hi)
    · rfl

theorem State.paddockCheck_passes {m : Nat} (h16 : m < 16) (h : m.testBit 3 = false ∨ s.pwr.dom.any (fun x => x.st == 1) = false) :
    s.paddockCheck m = 0 := by
  refine (if_neg (by omega)).trans (if_neg ?_)
  rintro ⟨h3, hdom⟩
  rcases h with h | h
  · simp [h3] at h
  · simp [hdom] at h

theorem State.paddockClear_passes {m : Nat} (h : s.paddockCheck m = 0) :
    s.paddockClear m = ((List.finRange 4).foldl (State.paddockBank m) s).accept Obj.PADDOCK_CLEAR (scalar m) := if_pos h

/-! ### The calendar's BAR0 group -/

/-- A BAR0 write of a word to the calendar's group. -/
def calWrite (offset w : Nat) : Inflight := ⟨0, 9, offset, 0, 1, scalar (w % 2 ^ 32 : Nat), none, [], 0⟩

theorem State.rtcWrite_served (h : s.barServes = true) (offset w : Nat) : s.rtcWrite offset w = s.issueTo (calWrite offset w) := if_pos h

section
variable (hf : s.isl.inflight = []) (hh : s.isl.aonHeld = [])
include hf hh

/-- With no write on its way a write is posted. -/
theorem State.issueTo_posted (w : Inflight) : s.issueTo w = s.modIsl fun i => { i with inflight := [w] } := by
  have hn : s.aonInflight = 0 := by simp [State.aonInflight, hf]
  rw [State.issueTo_taken (by simp [hn, hh])]
  simp [State.modIsl, hf]

/-- The posted write completes from the state that it met. -/
theorem State.complete_posted (w : Inflight) : (s.issueTo w).complete 0 = ((s.takeEffect w).settled).release := by
  rw [State.issueTo_posted hf hh]
  have herase : ((s.modIsl fun i => { i with inflight := [w] }).modIsl fun x => { x with inflight := x.inflight.eraseIdx 0 }) = s := by
    simp [State.modIsl, ← hf]
  rw [State.complete_first (w := w) rfl rfl, herase]

end

theorem takeEffect_calWrite (s : State) (offset : Nat) {w : Nat} (hw : w < 2 ^ 32) :
    s.takeEffect (calWrite offset w) = s.bar0Effect offset w := by
  have hv : valN (scalar (w % 2 ^ 32 : Nat)) = w := Nat.mod_eq_of_lt hw
  exact (if_pos rfl).trans (congrArg (s.bar0Effect offset) hv)

/-- A word written to the calendar's group is posted, and has its effect when it completes. -/
theorem State.rtcWrite_posted (hbar : s.barServes = true) (hf : s.isl.inflight = []) (hh : s.isl.aonHeld = []) (offset : Nat) {w : Nat}
    (hw : w < 2 ^ 32) : s.rtcWrite offset w = { s with isl := (s.rtcWrite offset w).isl }
      ∧ (s.rtcWrite offset w).complete 0 = ((s.bar0Effect offset w).settled).release := by
  rw [State.rtcWrite_served hbar]
  refine ⟨?_, ?_⟩
  · rw [State.issueTo_posted hf hh]
    rfl
  · rw [State.complete_posted hf hh, takeEffect_calWrite s offset hw]

/-- A fifth write is held. -/
theorem State.rtcWrite_held (hbar : s.barServes = true) (h4 : s.aonInflight = 4) (offset w : Nat) :
    s.rtcWrite offset w = s.modIsl fun i => { i with aonHeld := i.aonHeld ++ [calWrite offset w] } := by
  rw [State.rtcWrite_served hbar, State.issueTo_held ⟨rfl, Or.inl h4.ge⟩]

theorem State.tickHiRead_live (h : s.aon.shadow = none) :
    s.tickHiRead = { s with outbox := .bar0Read 0x2010 (s.aon.tick / 2 ^ 32) :: s.outbox } := by
  have hnone : (s.modAon fun a => { a with shadow := none }) = s := by
    unfold State.modAon
    rw [← h]
  simp only [State.tickHiRead, hnone, State.groupReg, h]
  rfl

theorem State.tickHiRead_shadow {k : Nat} {v : List Nat} (h : s.aon.shadow = some (k, v)) : s.tickHiRead
    = { s with aon := { s.aon with shadow := none }, outbox := .bar0Read 0x2010 ((v[4]?).getD 0) :: s.outbox } := by
  simp [State.tickHiRead, State.groupReg, h, State.emit, State.modAon]

end

/-- Settles O11: the objects by their values, the BAR0 writes through `State.rtcWrite_posted`. -/
theorem calendarCompletes : Obligations.CalendarCompletes := by
  unfold Obligations.CalendarCompletes
  simp only [exec_rtcSet, exec_rtcHalt, exec_rtcAlarmEnable, exec_rtcAlarm, exec_paddockClear, exec_rtcSetDate, exec_rtcCtrl,
    exec_rtcAlarmDate, exec_rtcSubsecRead, exec_rtcTickHiRead, exec_islandWriteComplete]
  refine ⟨⟨?set, ?misfit, ?halt, ?unhalt, ?range, ?disarm, ?arm, ?alarm, ?paddock⟩, ?posted, ?fifth, ?reads⟩
  case set =>
    intro s c sub hc hs ha
    rw [State.rtcSet_fits hc hs, State.adjust_disarmed c sub ha]
    rfl
  case misfit =>
    intro s c sub h
    rw [State.rtcSet_misfits h]
  case halt =>
    intro s h
    rw [show s.rtcHalt 1 = (s.setHalt 1).bumpRev Obj.RTC_HALT from if_neg (by decide), State.setHalt_begins h]
    rfl
  case unhalt =>
    intro s h
    rw [show s.rtcHalt 0 = (s.setHalt 0).bumpRev Obj.RTC_HALT from if_neg (by decide), State.setHalt_ends h]
    rfl
  case range =>
    intro s b h
    exact ⟨congrArg _ (if_pos h), congrArg _ (if_pos h)⟩
  case disarm =>
    intro s
    rw [show s.rtcAlarmEnable 0 = (s.setAlarmEnable 0).bumpRev Obj.RTC_ALARM_ENABLE from if_neg (by decide), State.setAlarmEnable_zero]
    exact ⟨_, rfl, rfl⟩
  case arm =>
    intro s h
    rw [show s.rtcAlarmEnable 1 = (s.setAlarmEnable 1).bumpRev Obj.RTC_ALARM_ENABLE from if_neg (by decide), State.setAlarmEnable_one h]
    exact ⟨_, rfl, rfl⟩
  case alarm =>
    intro s sec min hour day month year h1 h2 h3 h4 h5 h6
    rw [State.rtcAlarm_fits h1 h2 h3 h4 h5 h6]
    exact ⟨rfl, rfl⟩
  case paddock =>
    intro s m h16 h
    rw [State.paddockClear_passes (State.paddockCheck_passes h16 h)]
    exact ⟨_, rfl, fun i hm => State.paddockPut_cleared hm _ (Or.inr (List.mem_finRange i)), fun i hm => State.paddockPut_keeps hm _⟩
  case posted =>
    intro s w hbar hw hf hh
    refine ⟨?_, ?_, ?_⟩
    · obtain ⟨hframe, hdone⟩ := State.rtcWrite_posted hbar hf hh 0x2024 hw
      exact ⟨_, rfl, hframe, congrArg _ hdone⟩
    · obtain ⟨hframe, hdone⟩ := State.rtcWrite_posted hbar hf hh 0x2018 hw
      exact ⟨_, rfl, hframe, congrArg _ hdone⟩
    · obtain ⟨hframe, hdone⟩ := State.rtcWrite_posted hbar hf hh 0x202C hw
      exact ⟨_, rfl, hframe, congrArg _ hdone⟩
  case fifth =>
    intro s w hbar h4
    rw [State.rtcWrite_held hbar h4]
    exact ⟨_, rfl, rfl, rfl, List.length_append⟩
  case reads =>
    intro s hbar hq
    rw [s.bar0Access_quiet 9 _ hbar hq, s.bar0Access_quiet 9 _ hbar hq]
    refine ⟨rfl, fun h => ?_, fun k v h => ?_⟩
    · rw [State.tickHiRead_live h]
    · rw [State.tickHiRead_shadow h]

end Sys2Proof.Machine
end

section
/-!
SUPPORT. The time anchor (12_rtc_and_always_on.md R408): the seal of bank 0 draws a free value.
-/

namespace Sys2Proof.Machine

theorem exec_timeAnchorWrite (rate : Int) (s : State) : exec (.timeAnchorWrite rate) s = .next (s.anchorWrite rate) := rfl

/-- The reset state with TB_GNSS traceable. -/
def traceableReset : State := State.reset.modTime fun t => { t with base := vmod t.base 0 fun b => { b with flags := 1 } }

/-- An anchor written from `traceableReset` takes the CRC of bank 0 from the free values (R408, Table AO-3). -/
theorem traceableReset_anchorWrite_free : (traceableReset.anchorWrite 0).free = 1 ∧ traceableReset.free = 0 := by decide

/-- Refutes O12: its anchor clause claims that TIME_ANCHOR_WRITE changes nothing but the AON region, `t = { s with aon := t.aon }`, but the
seal of bank 0 (`State.sealBank`) draws the bank's CRC as a free value, so that `t.free = s.free + 1`. -/
theorem not_slowClockSupplyAndAnchor : ¬ Obligations.SlowClockSupplyAndAnchor := by
  unfold Obligations.SlowClockSupplyAndAnchor
  rintro ⟨-, hanchor, -⟩
  obtain ⟨t, ht, hframe, -⟩ := hanchor traceableReset 0 (Or.inl (by decide))
  obtain rfl := Host.Outcome.next.inj ht
  obtain ⟨hdrawn, hfree⟩ := traceableReset_anchorWrite_free
  have hkept : (traceableReset.anchorWrite 0).free = traceableReset.free := (congrArg State.free hframe :)
  omega

end Sys2Proof.Machine
end

section
/-!
SUPPORT. What a reset of core scope leaves (03_startup_and_firmware.md R90 to R95, R119, R552): the presence window that closes first and
the regions that return to reset; then PERST_N under PERST_SCOPE 0 (R512).
-/

namespace Sys2Proof.Machine

theorem exec_corePowerOn (s : State) : exec .corePowerOn s = .next (s.coreReset 1) := rfl
theorem exec_coreBrownOut (s : State) : exec .coreBrownOut s = .next (s.coreReset 2) := rfl
theorem exec_pinReset (ns : Nat) (s : State) : exec (.pinReset ns) s = .next (s.pinReset ns) := rfl
theorem exec_chipReset (v : Nat) (s : State) : exec (.chipReset v) s = .next (s.chipReset v) := rfl
theorem exec_thermalReset (s : State) : exec .thermalReset s
    = .next ((s.coreReset 7).modStart fun x => { x with thermalHeld := true }) := rfl
theorem exec_supFailureReset (s : State) : exec .supFailureReset s = .next s.supFailureReset := rfl
theorem exec_trialTimeout (s : State) : exec .trialTimeout s = .next s.trialTimeout := rfl
theorem exec_aonPowerOn (vbat : Bool) (s : State) : exec (.aonPowerOn vbat) s = .next (s.aonPowerOn vbat) := rfl
theorem exec_pcieReset (s : State) : exec .pcieReset s = .next s.pcieReset := rfl
theorem exec_perstNDeassertion (s : State) : exec .perstNDeassertion s = .next s.perstEnd := rfl
theorem exec_thermalResetRelease (s : State) : exec .thermalResetRelease s
    = .next (s.modStart fun x => { x with thermalHeld := false }) := rfl

/-! ### What an event leaves of the fault region -/

/-- The archive and the fault records in flash. -/
def State.faultFlash (s : State) : List EventEntry × List FaultRec := (s.flt.archive, s.flt.recFlash)

section
variable (s : State)

@[simp] theorem State.setIrq_flt (bit : Nat) : (s.setIrq bit).flt = s.flt := by
  simp only [State.setIrq]
  split_ifs <;> rfl

@[simp] theorem State.writeback_flt (n : Fin 6) (value : Nat) : (s.writeback n value).flt = s.flt := by
  unfold State.writeback
  split_ifs <;> rfl

@[simp] theorem State.signalRing_flt (n : Fin 6) : (s.signalRing n).flt = s.flt := rfl

@[simp] theorem State.writeRecord_flt (n : Fin 6) (r : RingRec) : (s.writeRecord n r).flt = s.flt := by
  simp only [State.writeRecord]
  split_ifs <;> simp

@[simp] theorem State.postRing_flt (n : Fin 6) (r : RingRec) : (s.postRing n r).flt = s.flt := by
  simp only [State.postRing]
  split_ifs <;> simp

@[simp] theorem State.queueAon_flt (code inst a b flags : Nat) : (s.queueAon code inst a b flags).flt = s.flt := by
  unfold State.queueAon
  split_ifs <;> rfl

theorem State.faultFlash_logged {log archPending : List EventEntry} {nextSeq : Nat} {archSince : HalfNs} (i e k n : Nat) :
    (State.count { s with flt := { s.flt with log := log, nextSeq := nextSeq, archPending := archPending, archSince := archSince } }
      i e k n).faultFlash = s.faultFlash := rfl

theorem State.logEntry_faultFlash (code inst flags time a b : Nat) : (s.logEntry code inst flags time a b).faultFlash = s.faultFlash := by
  unfold State.logEntry
  extract_lets e log _ s1 s2
  have h2 : s2.faultFlash = s.faultFlash := s.faultFlash_logged ..
  clear_value s2
  split_ifs
  · exact (congrArg (fun f : FltState => (f.archive, f.recFlash)) ((State.setIrq_flt ..).trans (State.postRing_flt ..))).trans h2
  · exact h2

theorem State.raise_faultFlash (code inst a b : Nat) : (s.raise code inst a b).faultFlash = s.faultFlash := by
  simp only [State.raise, State.raiseF]
  split_ifs
  · exact congrArg (fun f : FltState => (f.archive, f.recFlash)) (State.queueAon_flt ..)
  · rfl
  · exact State.logEntry_faultFlash ..

end

/-! ### What the presence window's end leaves (R489) -/

/-- What a reset of core scope keeps (R95): flash, OTP and the AON rail. -/
def State.durable (s : State) := (s.faultFlash, s.fw, s.flock.image, s.sec.store, s.aon.bank, s.aon.alarm, s.aon.doubtful, s.pending)

section
variable {s : State}

theorem State.durable_raise (s : State) (code inst a b : Nat) : (s.raise code inst a b).durable = s.durable := by
  have h := s.core_raise code inst a b
  have hbank : (s.raise code inst a b).aon.bank = s.aon.bank := (congrArg (fun u : State => u.aon.bank) h :)
  have halarm : (s.raise code inst a b).aon.alarm = s.aon.alarm := (congrArg (fun u : State => u.aon.alarm) h :)
  have hdoubt : (s.raise code inst a b).aon.doubtful = s.aon.doubtful := (congrArg (fun u : State => u.aon.doubtful) h :)
  unfold State.durable
  rw [s.raise_faultFlash, s.raise_fw, s.raise_flock, s.raise_sec, s.raise_pending, hbank, halarm, hdoubt]

theorem State.durable_endSession (s : State) (id : Nat) : (s.endSession id).durable = s.durable := by
  unfold State.endSession
  split
  · rfl
  · extract_lets
    split_ifs <;> rfl

theorem State.durable_closeWindow (s : State) : s.closeWindow.durable = s.durable := by
  unfold State.closeWindow State.endSessions
  split_ifs
  · rfl
  · have hfold : ∀ (l : List Session) (u : State), (l.foldl (fun (s : State) (x : Session) => s.endSession x.id) u).durable = u.durable := by
      intro l
      induction l with
      | nil => exact fun _ => rfl
      | cons x l ih => exact fun u => (ih _).trans (u.durable_endSession x.id)
    exact (hfold ..).trans (State.durable_raise ..)

theorem State.closePresence_unheld (h : s.sec.presClass ≠ 3 ∨ s.sec.sealHeld = false) : s.closePresence = s.closeWindow := by
  refine if_neg ?_
  rcases h with h | h <;> simp [h]

/-! ### Resets of core scope -/

/-- What the regions' return to reset leaves of the state in which it comes. -/
theorem State.resetRegions_resetBy {u : State} (source : Nat) (h : u.durable = s.durable) :
    s.resetBy (u.resetRegions (2 ^ source) (min 0xFFFFFFFF (s.start.count + 1))) source := by
  simp only [State.durable, State.faultFlash, Prod.mk.injEq] at h
  obtain ⟨⟨harchive, hflash⟩, hfw, himage, hstore, hbank, halarm, hdoubt, hpending⟩ := h
  exact ⟨rfl, rfl, rfl, (congrArg FwState.otp hfw :), (congrArg FwState.slot hfw :), (congrArg FwState.profile hfw :), harchive, hflash, himage,
    hstore, hbank, halarm, hdoubt, rfl, rfl, rfl, rfl, rfl, hpending⟩

/-- A reset of core scope that starts, from a state that time has reached from `s`. -/
theorem State.coreReset_resetBy {u : State} (source : Nat) (hd : u.durable = s.durable) (hstart : u.start = s.start) (hsec : u.sec = s.sec)
    (hr : s.start.inReset = false) (hp : s.sec.presClass ≠ 3 ∨ s.sec.sealHeld = false) : s.resetBy (u.coreReset source) source := by
  have hclosed : (u.modStart fun x => { x with inReset := true }).closePresence
      = (u.modStart fun x => { x with inReset := true }).closeWindow := State.closePresence_unheld (by rwa [State.modStart_sec, hsec])
  have hr' : u.start.inReset = false := by rw [hstart, hr]
  rw [State.coreReset, if_neg (by simp [hr']), hclosed, hstart]
  exact State.resetRegions_resetBy source ((State.durable_closeWindow _).trans hd)

theorem State.durable_toMono (s : State) (t : HalfNs) : (s.toMono t).durable = s.durable := by
  simp only [State.durable, State.toMono, State.advance, AonState.pass]
  split_ifs <;> rfl

/-- The reset after a failure of SUP comes 20 ms later while fault records are pending (R553). -/
theorem State.supFailureReset_from (h : s.flt.supFailedAt.isSome = true) :
    ∃ u : State, s.supFailureReset = u.coreReset 8 ∧ u.durable = s.durable ∧ u.start = s.start ∧ u.sec = s.sec := by
  obtain ⟨t, ht⟩ := Option.isSome_iff_exists.1 h
  unfold State.supFailureReset
  rw [ht]
  dsimp only
  split_ifs
  · exact ⟨s, rfl, rfl, rfl, rfl⟩
  · exact ⟨s.toMono (t + 20 * msHalfNs), rfl, s.durable_toMono _, rfl, rfl⟩

/-- A pulse that the pin may take for a reset (R90; log entry 45). -/
theorem State.pinReset_between {ns : Nat} (h1 : 1000 ≤ ns) (h2 : ns < 10000) :
    s.pinReset ns = s.drawn ∨ s.pinReset ns = s.drawn.coreReset 3 := by
  unfold State.pinReset
  rw [if_neg h1.not_gt, if_neg h2.not_ge]
  split_ifs
  · exact Or.inr rfl
  · exact Or.inl rfl

/-! ### PERST_N under PERST_SCOPE 0 (R512) -/

/-- What the rings' end leaves: their elements of RING_CFG, counts and the host part change. -/
def State.inner (s : State) : State := { s.core with cfg := [] }

theorem State.inner_foldl {α : Type} {f : State → α → State} (hf : ∀ (u : State) (x : α), (f u x).inner = u.inner) (l : List α)
    (s : State) : (l.foldl f s).inner = s.inner := by
  induction l generalizing s with
  | nil => rfl
  | cons x l ih => exact (ih _).trans (hf s x)

theorem State.inner_of_core {s t : State} (h : t.core = s.core) : t.inner = s.inner := by
  unfold State.inner
  rw [h]

theorem State.parts_of_inner {s t : State} (h : t.inner = s.inner) :
    t.start = s.start ∧ t.lop = s.lop ∧ t.mesh = s.mesh ∧ t.flock = s.flock ∧ t.rf = s.rf :=
  ⟨(congrArg State.start h :), (congrArg State.lop h :), (congrArg State.mesh h :), (congrArg State.flock h :), (congrArg State.rf h :)⟩

theorem State.inner_ringOff (s : State) (n : Fin 6) : (s.ringOff n).inner = s.inner := by
  refine State.inner_of_core ((State.core_modHost ..).trans ?_)
  extract_lets
  split_ifs
  · rfl
  · exact s.core_count ..

theorem State.inner_ringsOff (s : State) : s.ringsOff.inner = s.inner := by
  refine (State.inner_foldl (fun u n => ?_) _ _).trans (State.inner_foldl (fun u n => ?_) _ _)
  · split_ifs <;> rfl
  · split_ifs
    · rfl
    · exact u.inner_ringOff n

/-- PERST_N under PERST_SCOPE 0 leaves the sessions, the radio and the mesh, and the host part returns to reset. -/
theorem State.hostReset_frame (s : State) : s.hostReset.start = s.start ∧ s.hostReset.lop.sessions = s.lop.sessions
    ∧ s.hostReset.mesh = s.mesh ∧ s.hostReset.flock = s.flock ∧ s.hostReset.rf = s.rf ∧ s.hostReset.host.bar0 = []
    ∧ s.hostReset.host.irqStatus = 0 ∧ s.hostReset.host.busMaster = false ∧ s.hostReset.lop.mbxBusy = false := by
  obtain ⟨hstart, hlop, hmesh, hflock, hrf⟩ := State.parts_of_inner s.inner_ringsOff
  unfold State.hostReset
  generalize s.ringsOff = u at *
  exact ⟨hstart, (congrArg LopState.sessions hlop :), hmesh, hflock, hrf, rfl, rfl, rfl, rfl⟩

theorem State.pcieReset_host (hp : s.start.perst = false) (hr : s.start.inReset = false) (hc : s.cfgN Obj.PERST_SCOPE ≠ 1) : s.pcieReset
    = ((s.modStart fun x => { x with perst := true }).hostReset).modStart fun x => { x with cause := x.cause ||| 16 } := by
  unfold State.pcieReset
  rw [if_neg (by simp [hp])]
  exact (if_neg (by simp [hr])).trans (if_neg hc)

end

/-- Settles O19: each source by `State.coreReset_resetBy`. -/
theorem resetsComplete : Obligations.ResetsComplete := by
  unfold Obligations.ResetsComplete
  simp only [exec_corePowerOn, exec_coreBrownOut, exec_pinReset, exec_chipReset, exec_thermalReset, exec_supFailureReset, exec_trialTimeout,
    exec_aonPowerOn, exec_pcieReset, exec_perstNDeassertion, exec_thermalResetRelease]
  refine ⟨fun s hp => ⟨fun hr => ⟨?power, ?brown, ?pin, ?chip, ?thermal, ?sup, ?trial⟩, ?short, ?between, ?value, ?joins⟩,
    ?aon, ?perst, ?again, ?deassert, fun s => rfl⟩
  case power => exact ⟨_, rfl, State.coreReset_resetBy 1 rfl rfl rfl hr hp⟩
  case brown => exact ⟨_, rfl, State.coreReset_resetBy 2 rfl rfl rfl hr hp⟩
  case pin =>
    intro ns h
    exact ⟨_, congrArg _ (s.pinReset_long ns h), State.coreReset_resetBy 3 rfl rfl rfl hr hp⟩
  case chip => exact ⟨_, congrArg _ s.chipReset_one, State.coreReset_resetBy 5 rfl rfl rfl hr hp⟩
  case thermal => exact ⟨_, rfl, State.coreReset_resetBy 7 rfl rfl rfl hr hp, rfl⟩
  case sup =>
    intro h
    obtain ⟨u, hu, hdurable, hstart, hsec⟩ := State.supFailureReset_from h
    exact ⟨_, congrArg _ hu, State.coreReset_resetBy 8 hdurable hstart hsec hr hp⟩
  case trial =>
    intro h
    obtain ⟨t, ht⟩ := s.trialTimeout_due h
    exact ⟨_, congrArg _ ht, State.coreReset_resetBy 9 (s.durable_toMono t) rfl rfl hr hp⟩
  case short => exact fun ns h => congrArg _ (if_pos h)
  case between =>
    intro ns h1 h2
    exact (State.pinReset_between h1 h2).imp (congrArg _) (congrArg _)
  case value => exact fun v h => congrArg _ (if_neg h)
  case joins => exact fun h => congrArg _ (if_pos h)
  case aon =>
    intro s vbat
    exact ⟨_, rfl, rfl, rfl, rfl, rfl, rfl, rfl, rfl, rfl, rfl, rfl, rfl, rfl, rfl⟩
  case perst =>
    intro s hperst hr hc
    rw [State.pcieReset_host hperst hr hc]
    obtain ⟨hstart, hrest⟩ := (s.modStart fun x => { x with perst := true }).hostReset_frame
    generalize (s.modStart fun x => { x with perst := true }).hostReset = u at *
    refine ⟨_, rfl, ?_, ?_, ?_, hrest⟩
    · exact (congrArg StartState.perst hstart :)
    · exact (congrArg (fun x : StartState => x.cause ||| 16) hstart :)
    · exact (congrArg StartState.count hstart :)
  case again => exact fun s h => congrArg _ (if_pos h)
  case deassert => exact fun s h => congrArg _ (if_pos h)

end Sys2Proof.Machine
end

section
/-!
SUPPORT. Start-up (03_startup_and_firmware.md R96 to R104): the release, the reference's windows, the memory's training and START_DONE.
-/

namespace Sys2Proof.Machine

theorem exec_startupSequence (pins refSel : Nat) (jedec : Option (Nat × Nat)) (s : State) : exec (.startupSequence pins refSel jedec) s
    = .next (s.startup pins refSel jedec).settled := rfl
theorem exec_refQualificationEnd (counts : List Nat) (badRead failed : Nat) (s : State) : exec (.refQualificationEnd counts badRead failed) s
    = .next (s.refQualEnd counts badRead failed).settled := rfl
theorem exec_ddrTrainingAttemptEnd (ok : Bool) (size ranks : Nat) (s : State) : exec (.ddrTrainingAttemptEnd ok size ranks) s
    = .next (s.ddrEnd ok size ranks).settled := rfl
theorem exec_startDone (s : State) : exec .startDone s = .next s.startDone.settled := rfl
theorem exec_clockRetry (v : Nat) (s : State) : exec (.clockRetry v) s = .next (s.clockRetry v) := rfl

section
variable {s : State}

/-! ### The release (R94, R96, R449) -/

section
variable (pins ref : Nat) (j : Option (Nat × Nat))

theorem State.startup_released (hr : s.start.inReset = true) (ht : s.start.thermalHeld = false) :
    s.startup pins ref j = (s.resetRelease pins ref).bootSteps j := (if_pos hr).trans (if_neg (by simp [ht]))

theorem State.startup_held (hr : s.start.inReset = true) (ht : s.start.thermalHeld = true) : s.startup pins ref j = s :=
  (if_pos hr).trans (if_pos ht)

theorem State.startup_sys (hr : s.start.inReset = false) (hb : s.start.bootDue = true) :
    s.startup pins ref j = s.sysBoot.bootSteps j := (if_neg (by simp [hr])).trans (if_pos hb)

end

/-! ### The reference (R98) -/

/-- A run that ends within a list: its 32 windows pass, of which the first `run` may lie before the list. -/
theorem runEnds_some {ref n : Nat} (l : List Nat) {run n0 : Nat} (hrun : run ≤ 31) (h : runEnds ref l run n0 = some n) :
    n ≤ n0 + l.length ∧ n0 + 32 ≤ n + run
      ∧ ∀ j, n ≤ n0 + j + 32 → n0 + j < n → ∃ k, l[j]? = some k ∧ windowPasses ref k = true := by
  induction l generalizing run n0 with
  | nil => exact absurd h (by simp [runEnds])
  | cons k ks ih =>
    have later (h' : ∀ j, n ≤ n0 + 1 + j + 32 → n0 + 1 + j < n → ∃ x, ks[j]? = some x ∧ windowPasses ref x = true)
        (hk : n ≤ n0 + 32 → n0 < n → windowPasses ref k = true) (j : Nat) (h1 : n ≤ n0 + j + 32) (h2 : n0 + j < n) :
        ∃ x, (k :: ks)[j]? = some x ∧ windowPasses ref x = true := by
      cases j with
      | zero => exact ⟨k, rfl, hk h1 h2⟩
      | succ j => exact h' j (by omega) (by omega)
    rw [runEnds] at h
    rw [List.length_cons]
    split_ifs at h with hpass hlast
    · obtain ⟨hle, hge, hall⟩ := ih (Nat.zero_le 31) h
      exact ⟨by omega, by omega, later hall fun h1 => absurd h1 (by omega)⟩
    · obtain rfl := Option.some.inj h
      exact ⟨by omega, by omega, later (fun j _ h2 => absurd h2 (by omega)) fun _ _ => by simpa using hpass⟩
    · obtain ⟨hle, hge, hall⟩ := ih (by omega) h
      exact ⟨by omega, by omega, later hall fun _ _ => by simpa using hpass⟩

theorem qualifiedAt_some {ref n : Nat} {counts : List Nat} (h : qualifiedAt ref counts = some n) :
    32 ≤ n ∧ n ≤ 500 ∧ ∀ i, n - 32 ≤ i → i < n → ∃ k, counts[i]? = some k ∧ windowPasses ref k = true := by
  obtain ⟨hle, hge, hall⟩ := runEnds_some _ (Nat.zero_le 31) h
  rw [List.length_take] at hle
  refine ⟨by omega, by omega, fun i h1 h2 => ?_⟩
  obtain ⟨k, hk, hpass⟩ := hall i (by omega) (by omega)
  rw [List.getElem?_take_of_lt (by omega)] at hk
  exact ⟨k, hk, hpass⟩

theorem windowPasses_low (k : Nat) : windowPasses 0 k = true ↔ 249600 ≤ 1000 * k ∧ 1000 * k ≤ 270400 := by
  simp only [windowPasses, if_true, Bool.and_eq_true, decide_eq_true_eq]
  omega

theorem windowPasses_high (k : Nat) : windowPasses 1 k = true ↔ 96000 ≤ 1000 * k ∧ 1000 * k ≤ 104000 := by
  simp only [windowPasses, Nat.one_ne_zero, if_false, Bool.and_eq_true, decide_eq_true_eq]
  omega

theorem State.refQualEnd_startUp {counts : List Nat} {bad failed : Nat} (h : s.start.qual = some .startUp) :
    s.refQualEnd counts bad failed = (s.toMono (s.qualEndAt counts)).qualified (qualifiedAt s.start.refSel counts).isSome bad failed := by
  simp only [State.refQualEnd, h]

/-- A retry without a qualified reference ends 5 ms after its start. -/
theorem State.refQualEnd_retry {counts : List Nat} {bad failed : Nat} (h : s.start.qual = some .retry)
    (hq : qualifiedAt s.start.refSel counts = none) : s.refQualEnd counts bad failed
      = ((s.toMono (s.start.qualAt + 5 * msHalfNs)).modStart fun x => { x with qual := none }).setAct Obj.CLOCK_RETRY 0x12 := by
  have hend : s.qualEndAt counts = s.start.qualAt + 5 * msHalfNs := by
    simp only [State.qualEndAt, hq]
    rfl
  simp only [State.refQualEnd, h, hq, hend]
  rfl

/-! ### Training (R103) -/

theorem State.ddrEnd_good {size ranks : Nat} (ht : s.start.ddrTraining = true) (hst : s.start.st ≠ 2) : s.ddrEnd true size ranks
    = { s with port := { s.port with ddr := 2, ddrSize := size, ddrRanks := ranks }
               start := { s.start with ddrTraining := false, ddrTries := s.start.ddrTries + 1 } } := by
  unfold State.ddrEnd
  rw [if_neg (by simp [ht]), if_pos rfl]
  exact if_neg hst

theorem State.ddrEnd_again {size ranks : Nat} (ht : s.start.ddrTraining = true) (h2 : s.start.ddrTries < 2) :
    s.ddrEnd false size ranks = s.modStart fun x => { x with ddrTries := x.ddrTries + 1 } := by
  unfold State.ddrEnd
  rw [if_neg (by simp [ht]), if_neg (by simp), if_pos (by omega)]

/-! ### START_DONE (R104) -/

theorem State.startDone_done (hst : s.start.st = 3) (hd : s.pwr.dom.any (fun x => x.st == 4) = false) (ht : s.start.trial = false) :
    s.startDone = State.setIrq (State.raise
      { s with start := { s.start with st := 4, startTime := (s.mono - s.start.releasedAt) / usHalfNs % 2 ^ 32 } }
      Ev.START_DONE 0xFF s.start.flags ((s.mono - s.start.releasedAt) / usHalfNs % 2 ^ 32)) 4 := by
  unfold State.startDone
  rw [if_neg (by simp [hst, hd])]
  refine if_neg ?_
  rw [State.setIrq_start, State.raise_start]
  simp [ht]

theorem State.startDone_early (h : s.start.st ≠ 3) : s.startDone = s := if_pos (Or.inl h)

theorem State.clockRetry_one (h : s.start.qual = none) : s.clockRetry 1
    = ((s.setAct Obj.CLOCK_RETRY 1).modStart fun x => { x with qual := some .retry, qualAt := s.mono }).bumpRev Obj.CLOCK_RETRY := by
  simp [State.clockRetry, State.clockRetryPut, State.modStart, h]

end

/-- Settles O20: each command by the branch that its hypotheses choose, and the windows by `qualifiedAt_some`. -/
theorem startUpCompletes : Obligations.StartUpCompletes := by
  unfold Obligations.StartUpCompletes
  simp only [exec_startupSequence, exec_refQualificationEnd, exec_ddrTrainingAttemptEnd, exec_startDone, exec_clockRetry]
  refine ⟨?released, ?held, ?sys, ?qualified, ?retried, fun _ _ _ h => qualifiedAt_some h, fun k => ⟨windowPasses_low k, windowPasses_high k⟩,
    ?trained, ?again, ?done, ?early, ?retry⟩
  case released =>
    intro s pins ref j hr ht
    rw [State.startup_released _ _ _ hr ht]
    rfl
  case held =>
    intro s pins ref j hr ht
    rw [State.startup_held _ _ _ hr ht]
  case sys =>
    intro s pins ref j hr hb
    rw [State.startup_sys _ _ _ hr hb]
  case qualified =>
    intro s counts bad failed h
    rw [State.refQualEnd_startUp h]
  case retried =>
    intro s counts bad failed h hq
    rw [State.refQualEnd_retry h hq]
    rfl
  case trained =>
    intro s size ranks ht hst
    rw [State.ddrEnd_good ht hst]
  case again =>
    intro s size ranks ht h2
    rw [State.ddrEnd_again ht h2]
    rfl
  case done =>
    intro s hst hd ht
    rw [State.startDone_done hst hd ht]
  case early =>
    intro s h
    rw [State.startDone_early h]
  case retry =>
    intro s h
    rw [State.clockRetry_one h]
    exact ⟨_, rfl, rfl, rfl, rfl, rfl⟩

end Sys2Proof.Machine
end

section
/-!
SUPPORT. The boot directory in its two copies (03_startup_and_firmware.md R107, Table SU-5): what is written is what is read next.
-/

namespace Sys2Proof.Machine

/-! ### The octets of a copy -/

/-- What the fields of a directory hold of its values. -/
def Directory.stored (d : Directory) : Directory :=
  ⟨d.seq % 2 ^ 32, d.active, d.stateA % 256, d.stateB % 256, d.trialTimeout % 2 ^ 16, d.bootOverride % 256⟩

/-- The reserved octets of a copy. -/
def dirPad : Bytes := List.replicate 45 0

@[simp] theorem length_dirPad : dirPad.length = 45 := rfl

/-- The octets before the CRC. -/
def Directory.body (d : Directory) : Bytes :=
  natLe 4 0x52494442 ++ natLe 4 d.seq ++ natLe 1 d.active ++ natLe 1 d.stateA ++ natLe 1 d.stateB ++ natLe 1 0
    ++ natLe 2 d.trialTimeout ++ natLe 1 d.bootOverride ++ dirPad

section
variable (d : Directory)

theorem Directory.bytes_eq : d.bytes = d.body ++ natLe 4 (crc32c d.body) := rfl

theorem Directory.length_body : d.body.length = 60 := by simp [Directory.body]

theorem Directory.leAt_bytes {o n : Nat} (h : o + n ≤ 60) : leAt d.bytes o n = leAt d.body o n :=
  leAt_append_left (h.trans_eq d.length_body.symm)

theorem Directory.leAt_crc : leAt d.bytes 60 4 = crc32c d.body := by
  have h := leAt_natLe d.body [] 4 (crc32c d.body)
  rw [List.append_nil, d.length_body] at h
  rw [d.bytes_eq, h, show (256 : Nat) ^ 4 = 2 ^ 32 by norm_num, Nat.mod_eq_of_lt (crc32c_lt _)]

/-- The octets after a field that begins the copy. -/
theorem leAt_first (v : Nat) (a b c e f g h i : Bytes) :
    leAt (natLe 4 v ++ a ++ b ++ c ++ e ++ f ++ g ++ h ++ i) 0 4 = v % 256 ^ 4 := by
  simpa using leAt_natLe [] (a ++ b ++ c ++ e ++ f ++ g ++ h ++ i) 4 v

theorem Directory.leAt_magic : leAt d.body 0 4 = 0x52494442 := (leAt_first ..).trans (by norm_num)

theorem Directory.leAt_seq : leAt d.body 4 4 = d.seq % 2 ^ 32 := by
  simpa [Directory.body] using leAt_natLe (natLe 4 0x52494442) (natLe 1 d.active ++ natLe 1 d.stateA ++ natLe 1 d.stateB ++ natLe 1 0
    ++ natLe 2 d.trialTimeout ++ natLe 1 d.bootOverride ++ dirPad) 4 d.seq

theorem Directory.leAt_active : leAt d.body 8 1 = d.active % 256 := by
  simpa [Directory.body] using leAt_natLe (natLe 4 0x52494442 ++ natLe 4 d.seq) (natLe 1 d.stateA ++ natLe 1 d.stateB ++ natLe 1 0
    ++ natLe 2 d.trialTimeout ++ natLe 1 d.bootOverride ++ dirPad) 1 d.active

theorem Directory.leAt_stateA : leAt d.body 9 1 = d.stateA % 256 := by
  simpa [Directory.body] using leAt_natLe (natLe 4 0x52494442 ++ natLe 4 d.seq ++ natLe 1 d.active) (natLe 1 d.stateB ++ natLe 1 0
    ++ natLe 2 d.trialTimeout ++ natLe 1 d.bootOverride ++ dirPad) 1 d.stateA

theorem Directory.leAt_stateB : leAt d.body 10 1 = d.stateB % 256 := by
  simpa [Directory.body] using leAt_natLe (natLe 4 0x52494442 ++ natLe 4 d.seq ++ natLe 1 d.active ++ natLe 1 d.stateA) (natLe 1 0
    ++ natLe 2 d.trialTimeout ++ natLe 1 d.bootOverride ++ dirPad) 1 d.stateB

theorem Directory.leAt_trialTimeout : leAt d.body 12 2 = d.trialTimeout % 2 ^ 16 := by
  simpa [Directory.body] using leAt_natLe (natLe 4 0x52494442 ++ natLe 4 d.seq ++ natLe 1 d.active ++ natLe 1 d.stateA ++ natLe 1 d.stateB
    ++ natLe 1 0) (natLe 1 d.bootOverride ++ dirPad) 2 d.trialTimeout

theorem Directory.leAt_bootOverride : leAt d.body 14 1 = d.bootOverride % 256 := by
  simpa [Directory.body] using leAt_natLe (natLe 4 0x52494442 ++ natLe 4 d.seq ++ natLe 1 d.active ++ natLe 1 d.stateA ++ natLe 1 d.stateB
    ++ natLe 1 0 ++ natLe 2 d.trialTimeout) (dirPad) 1 d.bootOverride

/-- A written copy is valid and reads back. -/
theorem parseDir_bytes : parseDir d.bytes = some d.stored := by
  have hactive : d.active.val < 2 := d.active.isLt
  have hact : leAt d.bytes 8 1 = d.active := by
    rw [d.leAt_bytes (by norm_num), d.leAt_active, Nat.mod_eq_of_lt (by omega)]
  have hvalid : d.bytes.length = 64 ∧ leAt d.bytes 0 4 = 0x52494442 ∧ leAt d.bytes 60 4 = crc32c (d.bytes.take 60) ∧ leAt d.bytes 8 1 < 2 := by
    refine ⟨?_, ?_, ?_, by rw [hact]; exact hactive⟩
    · rw [d.bytes_eq, List.length_append, d.length_body, length_natLe]
    · rw [d.leAt_bytes (by norm_num), d.leAt_magic]
    · rw [d.leAt_crc, d.bytes_eq, List.take_left' d.length_body]
  rw [parseDir, if_pos hvalid, Option.some.injEq, Directory.stored, Directory.mk.injEq]
  refine ⟨?_, ?_, ?_, ?_, ?_, ?_⟩
  · rw [d.leAt_bytes (by norm_num), d.leAt_seq]
  · exact Fin.ext ((congrArg (· % 2) hact).trans (Nat.mod_eq_of_lt hactive))
  · rw [d.leAt_bytes (by norm_num), d.leAt_stateA]
  · rw [d.leAt_bytes (by norm_num), d.leAt_stateB]
  · rw [d.leAt_bytes (by norm_num), d.leAt_trialTimeout]
  · rw [d.leAt_bytes (by norm_num), d.leAt_bootOverride]

end

/-! ### The current copy after an update -/

/-- The directory is read from flash, or from the default that bundle selection changed. -/
theorem State.dir_congr {s t : State} (hd : t.fw.dir = s.fw.dir) (hr : t.fw.ramDir = s.fw.ramDir) : t.dir = s.dir := by
  unfold State.dir State.curDir
  rw [hd, hr]

/-- The current one of two copies (R107; log entry 117). -/
def pickDir (a b : Option Directory) : Option (Fin 2 × Directory) :=
  match a, b with
  | some a, some b => if a.seq < b.seq then some (1, b) else some (0, a)
  | some a, none => some (0, a)
  | none, some b => some (1, b)
  | none, none => none

theorem State.curDir_eq (s : State) : s.curDir = pickDir (parseDir s.fw.dir[0]) (parseDir s.fw.dir[1]) := by
  unfold State.curDir
  cases parseDir s.fw.dir[0] <;> cases parseDir s.fw.dir[1] <;> rfl

/-- The copy that an update writes: the one that is not current. -/
def otherCopy (o : Option (Fin 2 × Directory)) : Fin 2 :=
  match o with
  | some (0, _) => 1
  | some (1, _) => 0
  | none => 0

/-- A copy is written. -/
def State.writeCopy (s : State) (k : Fin 2) (b : Bytes) : State := s.modFw fun x => { x with dir := x.dir.set k b, ramDir := none }

theorem State.writeDir_eq (s : State) (d : Directory) :
    s.writeDir d = s.writeCopy (otherCopy s.curDir) (Directory.bytes { d with seq := (s.dir.seq + 1) % 2 ^ 32 }) := by
  unfold State.writeDir otherCopy State.writeCopy
  rfl

theorem State.curDir_writeCopy (s : State) (k : Fin 2) (b : Bytes) : (s.writeCopy k b).curDir
    = if k = 0 then pickDir (parseDir b) (parseDir s.fw.dir[1]) else pickDir (parseDir s.fw.dir[0]) (parseDir b) := by
  rw [State.curDir_eq]
  fin_cases k <;> simp [State.writeCopy, State.modFw]

/-- A copy with a higher SEQ than the current one, written over the other, becomes current. -/
theorem pickDir_written {a b : Option Directory} {d : Directory} (h : ∀ k c, pickDir a b = some (k, c) → d.seq = c.seq + 1) :
    (otherCopy (pickDir a b) = 0 → pickDir (some d) b = some (0, d)) ∧ (otherCopy (pickDir a b) = 1 → pickDir a (some d) = some (1, d)) := by
  cases a with
  | none =>
    cases b with
    | none => exact ⟨fun _ => rfl, fun k => absurd k (by decide)⟩
    | some b =>
      have hb := h 1 b rfl
      exact ⟨fun _ => if_neg (by omega), fun k => absurd k (by simp [pickDir, otherCopy])⟩
  | some a =>
    cases b with
    | none =>
      have ha := h 0 a rfl
      exact ⟨fun k => absurd k (by simp [pickDir, otherCopy]), fun _ => if_pos (by omega)⟩
    | some b =>
      by_cases hlt : a.seq < b.seq
      · have hpick : pickDir (some a) (some b) = some (1, b) := if_pos hlt
        have hb := h 1 b hpick
        rw [hpick]
        exact ⟨fun _ => if_neg (by omega), fun k => absurd k (by simp [otherCopy])⟩
      · have hpick : pickDir (some a) (some b) = some (0, a) := if_neg hlt
        have ha := h 0 a hpick
        rw [hpick]
        exact ⟨fun k => absurd k (by simp [otherCopy]), fun _ => if_pos (by omega)⟩

/-- An update is current. -/
theorem State.curDir_writeDir (s : State) (d : Directory) (h : s.dir.seq + 1 < 2 ^ 32) :
    (s.writeDir d).curDir = some (otherCopy s.curDir, { d.stored with seq := s.dir.seq + 1 }) := by
  have hparse : parseDir (Directory.bytes { d with seq := (s.dir.seq + 1) % 2 ^ 32 }) = some { d.stored with seq := s.dir.seq + 1 } := by
    rw [parseDir_bytes]
    simp only [Directory.stored, Nat.mod_eq_of_lt h]
  have hseq : ∀ k c, s.curDir = some (k, c) → s.dir.seq + 1 = c.seq + 1 := by
    intro k c hc
    unfold State.dir
    rw [hc]
  obtain ⟨h0, h1⟩ := pickDir_written (d := { d.stored with seq := s.dir.seq + 1 }) (s.curDir_eq ▸ hseq)
  rw [← s.curDir_eq] at h0 h1
  rw [s.writeDir_eq, State.curDir_writeCopy, hparse]
  split_ifs with hk
  · rw [h0 hk, hk]
  · have hk1 : otherCopy s.curDir = 1 := by omega
    rw [h1 hk1, hk1]

/-- An update is the directory in force. -/
theorem State.dir_writeDir (s : State) (d : Directory) (h : s.dir.seq + 1 < 2 ^ 32) :
    (s.writeDir d).dir = { d.stored with seq := s.dir.seq + 1 } := by
  rw [State.dir, s.curDir_writeDir d h]

end Sys2Proof.Machine
end

section
/-!
SUPPORT. Firmware update and the rollback floor (03_startup_and_firmware.md R109 to R112, R120).
-/

namespace Sys2Proof.Machine

theorem exec_fwStageBegin (len : Nat) (s : State) : exec (.fwStageBegin len) s = .next (s.fwStageBegin len) := rfl
theorem exec_fwStage (offset : Nat) (data : Bytes) (s : State) : exec (.fwStage offset data) s = .next (s.fwStage offset data) := rfl
theorem exec_fwVerify (v : Nat) (s : State) : exec (.fwVerify v) s = .next (s.fwVerify v) := rfl
theorem exec_fwActivate (v : Nat) (s : State) : exec (.fwActivate v) s = .next (s.activate v) := rfl
theorem exec_fwConfirm (v : Nat) (s : State) : exec (.fwConfirm v) s = .next (s.fwConfirm v) := rfl
theorem exec_rollbackAdvance (v steps : Nat) (s : State) : exec (.rollbackAdvance v steps) s = .next (s.rollback v steps) := rfl

/-! ### Slot states (Table SU-6) -/

theorem Directory.slotState_withState (d : Directory) (t u : Fin 2) (st : Nat) :
    (d.withState t st).slotState u = if t = u then st else d.slotState u := by
  fin_cases t <;> fin_cases u <;> simp [Directory.withState, Directory.slotState]

theorem Directory.slotState_stored (d : Directory) (seq : Nat) (t : Fin 2) :
    ({ d.stored with seq := seq } : Directory).slotState t = d.slotState t % 256 := by
  unfold Directory.slotState
  split_ifs <;> rfl

/-- The state of a slot after an update that sets it. -/
theorem State.slotState_writeDir (s : State) (d : Directory) (t : Fin 2) (h : s.dir.seq + 1 < 2 ^ 32) :
    (s.writeDir d).dir.slotState t = d.slotState t % 256 := by
  rw [s.dir_writeDir d h, Directory.slotState_stored]

/-- An action that has begun reads as in progress. -/
theorem State.actOf_setAct_self (s : State) {i st : Nat} (h : st ≠ 0) : (s.setAct i st).actOf i = st := by
  unfold State.actOf State.setAct
  rw [if_neg h, lookupD_insertKey, if_pos rfl]

theorem State.actOf_flashOp (s : State) (i addr arg : Nat) (data : Bytes) : (s.flashOp i addr arg data).actOf i = 1 :=
  State.actOf_setAct_self _ (by decide)

section
variable {s : State}

/-! ### Staging (R109) -/

theorem State.fwStageBegin_accepted {len : Nat} (h1 : 1 ≤ len) (h2 : len ≤ 16777216) (ht : s.dir.trying = false) :
    s.fwStageBegin len = (s.fwStageBeginPut len).bumpRev Obj.FW_STAGE_BEGIN := by
  refine if_pos ?_
  rw [State.fwStageBeginCheck, if_neg (by omega), if_neg (by simp [ht])]

theorem State.fwStageBegin_refused {len : Nat} (h : len = 0 ∨ 16777216 < len ∨ s.dir.trying = true) : s.fwStageBegin len = s := by
  refine if_neg ?_
  unfold State.fwStageBeginCheck
  split_ifs with h1 h2
  · decide
  · decide
  · tauto

/-- The slot that staging erases is EMPTY and under its action. -/
theorem State.fwStageBeginPut_dir (len : Nat) (h : s.dir.seq + 1 < 2 ^ 32) :
    (s.fwStageBeginPut len).dir.slotState s.target0 = 1 := by
  have hdir : (s.fwStageBeginPut len).dir = (s.writeDir (s.dir.withState s.target0 1)).dir := State.dir_congr rfl rfl
  rw [hdir, s.slotState_writeDir _ _ h, Directory.slotState_withState, if_pos rfl]

theorem State.fwStage_accepted {data : Bytes} (hst : s.dir.slotState s.target0 = 1)
    (hl : (s.fw.slot[s.target0]).length + data.length ≤ 16777216) :
    s.fwStage (s.fw.slot[s.target0]).length data = (s.fwStagePut data).bumpRev Obj.FW_STAGE := by
  refine if_pos (if_neg ?_)
  rintro (h | h | h)
  · exact h hst
  · exact h rfl
  · omega

theorem State.fwStage_refused {offset : Nat} {data : Bytes}
    (h : s.dir.slotState s.target0 ≠ 1 ∨ offset ≠ (s.fw.slot[s.target0]).length) : s.fwStage offset data = s := by
  refine if_neg ?_
  rw [State.fwStageCheck, if_pos (h.imp_right Or.inl)]
  decide

/-! ### Verification, activation, confirmation (R110, R111) -/

theorem State.fwVerify_accepted (h : s.dir.slotState s.target0 = 1 ∨ s.dir.slotState s.target0 = 2) :
    s.fwVerify 0 = s.fwVerifyPut.bumpRev Obj.FW_VERIFY :=
  if_pos ((if_neg (by decide)).trans (if_pos h))

theorem State.activate_one (h : s.dir.slotState s.target0 = 2) : s.activate 1 = (s.accept Obj.FW_ACTIVATE (scalar 1)).fwActivatePut := by
  have hcheck : s.fwActivateCheck 1 = 0 := (if_neg (by decide)).trans (if_pos h)
  rw [State.activate, if_pos hcheck, State.activatePut, if_neg (by decide)]
  rfl

theorem State.fwConfirm_trial (ht : s.start.trial = true) : s.fwConfirm 1 = s.fwConfirmPut.accept Obj.FW_CONFIRM (scalar 1) :=
  if_pos ((if_neg (by decide)).trans (if_pos ht))

theorem State.fwConfirm_idle {v : Nat} (ht : s.start.trial = false) : s.fwConfirm v = s := by
  refine if_neg ?_
  unfold State.fwConfirmCheck
  rw [if_neg (Bool.eq_false_iff.1 ht)]
  split_ifs <;> decide

/-- The directory that confirms a slot. -/
def Directory.confirmed (d : Directory) (k : Fin 2) : Directory := { (d.withState d.active 2).withState k 5 with active := k }

theorem Directory.slotState_confirmed (d : Directory) (k t : Fin 2) :
    (d.confirmed k).slotState t = if k = t then 5 else if d.active = t then 2 else d.slotState t := by
  rw [← Directory.slotState_withState, ← Directory.slotState_withState]
  rfl

theorem State.fwConfirmPut_some {k : Fin 2} (h : s.dir.slotIn 4 = some k) : s.fwConfirmPut
    = (({ s with fw := { s.fw with trialEnd := none } } : State).writeDir (s.dir.confirmed k)).modStart fun x => { x with trial := false } := by
  simp only [State.fwConfirmPut, h]
  rfl

/-! ### The thermometer (R112, R120) -/

theorem length_setSteps (n : Nat) (l : List Nat) : (setSteps n l).length = l.length := by
  induction l generalizing n with
  | nil => cases n <;> rfl
  | cons x l ih =>
    cases n with
    | zero => rfl
    | succ n =>
      rw [setSteps]
      split_ifs <;> simp [ih]

/-- Each step programmed raises the floor by one, as far as there are steps. -/
theorem floor_setSteps (n : Nat) (l : List Nat) :
    ((setSteps n l).filter majority).length = min l.length ((l.filter majority).length + n) := by
  induction l generalizing n with
  | nil => cases n <;> simp [setSteps]
  | cons x l ih =>
    have hle := List.length_filter_le majority l
    cases n with
    | zero =>
      have hle' := List.length_filter_le majority (x :: l)
      simp only [setSteps, Nat.add_zero]
      omega
    | succ n =>
      rw [setSteps]
      split_ifs with hx
      · simp only [List.filter_cons_of_pos hx, List.length_cons, ih]
        omega
      · have h7 : majority 7 = true := by decide
        simp only [List.filter_cons_of_pos h7, List.filter_cons_of_neg hx, List.length_cons, ih]
        omega

/-- No programmed step is cleared. -/
theorem setSteps_keeps (n : Nat) (l : List Nat) {i x : Nat} (hi : l[i]? = some x) (hx : majority x = true) :
    (setSteps n l)[i]? = some x := by
  induction l generalizing n i with
  | nil => simp at hi
  | cons y l ih =>
    cases n with
    | zero => exact hi
    | succ n =>
      rw [setSteps]
      cases i with
      | zero =>
        obtain rfl : y = x := by simpa using hi
        simp [hx]
      | succ i =>
        split_ifs
        · exact ih (n + 1) hi
        · exact ih n hi

theorem State.rollbackCheck_zero {v : Nat} (h : s.rollbackCheck v = 0) : s.fw.otp.floor < v ∧ v ≤ 96 := by
  unfold State.rollbackCheck at h
  split_ifs at h with h1 h2
  omega

theorem State.rollback_accepted {v : Nat} (steps : Nat) (h : s.rollbackCheck v = 0) :
    s.rollback v steps = (s.rollbackPut v steps).accept Obj.ROLLBACK_ADVANCE (scalar v) := if_pos h

theorem State.rollback_refused {v steps : Nat}
    (h : v = 0 ∨ 96 < v ∨ v ≤ s.fw.otp.floor ∨ bundleSvn (s.fw.slot[s.dir.active]) < v ∨ s.dir.trying = true) : s.rollback v steps = s := by
  refine if_neg ?_
  unfold State.rollbackCheck
  split_ifs with h1 h2
  · decide
  · decide
  · tauto

theorem State.rollbackPut_floor {v : Nat} (steps : Nat) (h : s.rollbackCheck v = 0) (hl : s.fw.otp.steps.length = 96) :
    (s.rollbackPut v steps).fw.otp.floor = min v (s.fw.otp.floor + steps) := by
  obtain ⟨hlt, h96⟩ := State.rollbackCheck_zero h
  have hfloor := floor_setSteps (min (v - s.fw.otp.floor) steps) s.fw.otp.steps
  rw [hl] at hfloor
  refine hfloor.trans ?_
  change min 96 (s.fw.otp.floor + min (v - s.fw.otp.floor) steps) = _
  omega

end

/-- Settles O21: the slot states by `State.dir_writeDir`, the floor by `floor_setSteps`. -/
theorem firmwareUpdate : Obligations.FirmwareUpdate := by
  unfold Obligations.FirmwareUpdate
  simp only [exec_fwStageBegin, exec_fwStage, exec_fwVerify, exec_fwActivate, exec_fwConfirm, exec_rollbackAdvance]
  refine ⟨⟨?begins, ?refused, ?stages, ?misplaced, ?verifies, ?activates, ?confirms, ?idle⟩, ?programs, ?changesNothing, ?reaches⟩
  case begins =>
    intro s len h1 h2 ht hseq
    rw [State.fwStageBegin_accepted h1 h2 ht]
    refine ⟨_, rfl, rfl, State.fwStageBeginPut_dir len hseq, ?_, rfl, rfl, State.actOf_flashOp ..⟩
    exact Vector.getElem_set_self _
  case refused =>
    intro s len h
    rw [State.fwStageBegin_refused h]
  case stages =>
    intro s data hst hl
    rw [State.fwStage_accepted hst hl]
    rfl
  case misplaced =>
    intro s offset data h
    rw [State.fwStage_refused h]
  case verifies =>
    intro s h
    rw [State.fwVerify_accepted h]
    rfl
  case activates =>
    intro s h hseq
    rw [State.activate_one h]
    refine ⟨_, rfl, rfl, ?_⟩
    refine (State.slotState_writeDir (s.accept Obj.FW_ACTIVATE (scalar 1)) _ _ hseq).trans ?_
    rw [Directory.slotState_withState]
    exact congrArg (· % 256) (if_pos rfl)
  case confirms =>
    intro s k ht hk hne hseq
    rw [State.fwConfirm_trial ht, State.fwConfirmPut_some hk]
    have hdir := State.dir_writeDir { s with fw := { s.fw with trialEnd := none } } (s.dir.confirmed k) hseq
    refine ⟨_, rfl, ?_, ?_, ?_, rfl, rfl⟩
    · exact (congrArg Directory.active hdir)
    · refine (State.slotState_writeDir { s with fw := { s.fw with trialEnd := none } } (s.dir.confirmed k) k hseq).trans ?_
      rw [Directory.slotState_confirmed, if_pos rfl]
    · refine (State.slotState_writeDir { s with fw := { s.fw with trialEnd := none } } (s.dir.confirmed k) _ hseq).trans ?_
      rw [Directory.slotState_confirmed, if_neg hne, if_pos rfl]
  case idle =>
    intro s v ht
    rw [State.fwConfirm_idle ht]
  case programs =>
    intro s v steps h hl
    rw [State.rollback_accepted steps h]
    refine ⟨_, rfl, rfl, State.rollbackPut_floor steps h hl, ?_, fun i x hi hx => setSteps_keeps _ _ hi hx⟩
    exact (length_setSteps ..).trans hl
  case changesNothing =>
    intro s v steps h
    rw [State.rollback_refused h]
  case reaches =>
    intro s v h hl
    rw [State.rollback_accepted 96 h]
    refine ⟨_, rfl, (State.rollbackPut_floor 96 h hl).trans ?_⟩
    have h96 := State.rollbackCheck_zero h
    omega

end Sys2Proof.Machine
end

section
/-!
SUPPORT. Profiles: the load, the store and its end, the staging buffer (02_object_dictionary.md R83 to R88; 03_startup_and_firmware.md R107).
-/

namespace Sys2Proof.Machine

theorem exec_profileApply (n : Nat) (s : State) : exec (.profileApply n) s = .next (s.profileApply n) := rfl
theorem exec_profileCommit (n : Nat) (s : State) : exec (.profileCommit n) s = .next (s.commit n) := rfl
theorem exec_profileSave (n : Nat) (s : State) : exec (.profileSave n) s = .next (s.save n) := rfl
theorem exec_profileStoreDone (ok : Bool) (s : State) : exec (.profileStoreDone ok) s = .next (s.profileStored ok) := rfl
theorem exec_profileStage (offset : Nat) (data : Bytes) (s : State) : exec (.profileStage offset data) s
    = .next (s.profileStage offset data) := rfl
theorem exec_profileStageClear (s : State) : exec .profileStageClear s = .next (s.stageClear.bumpRev Obj.PROFILE_STAGE_CLEAR) := rfl
theorem exec_profileBootOverride (v : Nat) (s : State) : exec (.profileBootOverride v) s = .next (s.bootOverride v) := rfl

/-- The content of a profile after its store: what was stored, in either slot. -/
theorem FwState.profileOf_storeDone (f : FwState) {o : FlashOp} (h : o.arg < 4) : (f.storeDone o).profileOf o.arg = o.data := by
  have hget : (f.storeDone o).profile[o.arg]? = some (if o.addr = profileAddr o.arg 0 then #v[o.data, []] else #v[[], o.data]) := by
    simp [FwState.storeDone, h]
  rw [FwState.profileOf, hget]
  by_cases ha : o.addr = profileAddr o.arg 0
  · rw [if_pos ha]
    by_cases he : o.data = [] <;> simp [he]
  · rw [if_neg ha]
    rfl

/-- The store of a profile leaves the others. -/
theorem FwState.storeDone_other (f : FwState) (o : FlashOp) {k : Nat} (h : k ≠ o.arg) : (f.storeDone o).profile[k]? = f.profile[k]? := by
  by_cases hk : k < 4 <;> simp [FwState.storeDone, hk, h]

section
variable {s : State}

/-- The oldest store under way. -/
def State.storing (s : State) : Option FlashOp := s.fw.ops.find? fun o => o.index == Obj.PROFILE_COMMIT || o.index == Obj.PROFILE_SAVE

theorem State.profileStored_good {o : FlashOp} (h : s.storing = some o) : s.profileStored true
    = ((s.modFw fun f => { f with ops := f.ops.erase o }).modFw fun f => f.storeDone o).setAct o.index 0 := by
  unfold State.profileStored
  rw [show s.fw.ops.find? _ = some o from h]
  rfl

theorem State.profileStored_bad {o : FlashOp} (h : s.storing = some o) : s.profileStored false
    = ((s.modFw fun f => { f with ops := f.ops.erase o }).flashFailed false o.addr).drawn.setAct o.index (freeError s.draw.1) := by
  unfold State.profileStored
  rw [show s.fw.ops.find? _ = some o from h]
  rfl

theorem freeError_ne_zero (n : Nat) : freeError n ≠ 0 := by
  unfold freeError
  omega

@[simp] theorem State.flashFailed_fw (s : State) (erase : Bool) (addr : Nat) : (s.flashFailed erase addr).fw = s.fw := by
  simp [State.flashFailed]

theorem State.commit_accepted {n : Nat} (h : s.commitCheck n = 0) :
    s.commit n = (s.commitPut n).accept Obj.PROFILE_COMMIT (scalar n) := if_pos h

theorem State.save_accepted {n : Nat} (h1 : 1 ≤ n) (h3 : n ≤ 3) (hl : (s.savedProfile n).length ≤ 65536) :
    s.save n = (s.savePut n).accept Obj.PROFILE_SAVE (scalar n) :=
  if_pos ((if_neg (by omega)).trans (if_neg hl.not_gt))

theorem State.profileStage_fits {offset : Nat} {data : Bytes} (h : offset ≤ s.fw.stage.length) (hl : offset + data.length ≤ 65536) :
    s.profileStage offset data = (s.stagePut offset data).bumpRev Obj.PROFILE_STAGE := if_pos (if_neg (by omega))

theorem State.profileStage_beyond {offset : Nat} {data : Bytes} (h : s.fw.stage.length < offset) : s.profileStage offset data = s := by
  refine if_neg ?_
  rw [State.stageCheck, if_pos (Or.inl h)]
  decide

theorem State.bootOverride_accepted {v : Nat} (h : v ≤ 3 ∨ v = 0xFF) :
    s.bootOverride v = (s.writeDir { s.dir with bootOverride := v }).bumpRev Obj.PROFILE_BOOT_OVERRIDE := if_pos (if_pos h)

end

/-- Settles O22: the stores by `FwState.profileOf_storeDone`, the boot override by `State.dir_writeDir`. -/
theorem profilesComplete : Obligations.ProfilesComplete := by
  unfold Obligations.ProfilesComplete
  simp only [exec_profileApply, exec_profileCommit, exec_profileSave, exec_profileStoreDone, exec_profileStage, exec_profileStageClear,
    exec_profileBootOverride]
  refine ⟨?apply, ?range, ?commit, ?refused, ?save, ?stored, ?stage, ?beyond, ?clear, ?boot⟩
  case apply => exact fun s n h => congrArg _ (if_pos h)
  case range => exact fun s n h => congrArg _ (if_neg (by omega))
  case commit =>
    intro s n h
    rw [State.commit_accepted h]
    exact ⟨_, rfl, rfl, rfl, rfl⟩
  case refused => exact fun s n h => congrArg _ (if_neg h)
  case save =>
    intro s n h1 h3 hl
    rw [State.save_accepted h1 h3 hl]
    exact ⟨_, rfl, rfl, rfl, rfl⟩
  case stored =>
    intro s o h hn hwf
    rw [State.profileStored_good h, State.profileStored_bad h]
    refine ⟨⟨_, rfl, FwState.profileOf_storeDone _ hn, fun k hk => FwState.storeDone_other _ o hk, ?_⟩, _, rfl, ?_, ?_⟩
    · exact (State.actOf_setAct _ _ _ _ (by exact hwf)).trans (if_pos rfl)
    · rw [State.setAct_fw, State.drawn_fw, State.flashFailed_fw]
      rfl
    · rw [State.actOf_setAct_self _ (freeError_ne_zero _)]
      exact freeError_ne_zero _
  case stage =>
    intro s offset data h hl
    rw [State.profileStage_fits h hl]
    rfl
  case beyond =>
    intro s offset data h
    rw [State.profileStage_beyond h]
  case clear => exact fun s => rfl
  case boot =>
    intro s v hv hseq
    rw [State.bootOverride_accepted hv]
    have hdir := s.dir_writeDir { s.dir with bootOverride := v } hseq
    refine ⟨_, rfl, rfl, ?_, (congrArg Directory.active hdir :)⟩
    refine (congrArg Directory.bootOverride hdir : _).trans (Nat.mod_eq_of_lt ?_)
    change v < 256
    omega

end Sys2Proof.Machine
end

section
/-!
SUPPORT. The event log and its limit in one second, the summary of a second, the archive and the fault region's commands
(17_faults_and_events.md R549 to R553).
-/

namespace Sys2Proof.Machine

theorem exec_summarySecondEnd (s : State) : exec .summarySecondEnd s = .next s.summaryEnd := rfl
theorem exec_archivePageWrite (ok : Bool) (s : State) : exec (.archivePageWrite ok) s = .next (s.archivePage ok) := rfl
theorem exec_faultRelease (v : Nat) (s : State) : exec (.faultRelease v) s = .next (s.faultRelease v).settled := rfl
theorem exec_faultClear (v : Nat) (s : State) : exec (.faultClear v) s = .next (s.faultClear v) := rfl
theorem exec_flashActionDone (index : Nat) (ok : Bool) (s : State) : exec (.flashActionDone index ok) s
    = .next (s.flashAction index ok) := rfl

/-! ### The log -/

/-- What the log keeps of its entries: the latest 4,096. -/
def keepLatest (l : List EventEntry) : List EventEntry := l.drop (l.length - 4096)

theorem length_keepLatest (l : List EventEntry) : (keepLatest l).length ≤ 4096 := by
  rw [keepLatest, List.length_drop]
  omega

/-- The latest entries stay. -/
theorem suffix_keepLatest {es l : List EventEntry} (h : es <:+ l) (hl : es.length ≤ 4096) : es <:+ keepLatest l := by
  obtain ⟨pre, rfl⟩ := h
  rw [keepLatest, List.length_append, List.drop_append_of_le_length (by omega)]
  exact List.suffix_append ..

section
variable (s : State)

/-- The parts of the fault region that an entry changes and that are read here: the log, its next number and the windows. -/
def FltState.logPart (f : FltState) : List EventEntry × Nat × List EventWindow := (f.log, f.nextSeq, f.windows)

theorem FltState.logPart_logged (f : FltState) {log archPending : List EventEntry} {nextSeq : Nat} {archSince : HalfNs} :
    FltState.logPart { f with log := log, nextSeq := nextSeq, archPending := archPending, archSince := archSince }
      = (log, nextSeq, f.windows) := rfl

theorem State.logEntry_logPart (code inst flags time a b : Nat) : (s.logEntry code inst flags time a b).flt.logPart
    = (keepLatest (s.flt.log ++ [⟨code, inst, flags, s.flt.nextSeq, time, a, b⟩]), (s.flt.nextSeq + 1) % 2 ^ 32, s.flt.windows) := by
  unfold State.logEntry
  extract_lets e log _ s1 s2
  have h2 : s2.flt.logPart = (keepLatest log, (s.flt.nextSeq + 1) % 2 ^ 32, s.flt.windows) := s.flt.logPart_logged
  clear_value s2
  split_ifs
  · rw [State.setIrq_flt, State.postRing_flt, h2]
  · exact h2

variable (code inst flags time a b : Nat)

theorem State.logEntry_log : (s.logEntry code inst flags time a b).flt.log
    = keepLatest (s.flt.log ++ [⟨code, inst, flags, s.flt.nextSeq, time, a, b⟩]) := by
  have h := s.logEntry_logPart code inst flags time a b
  simp only [FltState.logPart, Prod.mk.injEq] at h
  exact h.1

theorem State.logEntry_nextSeq : (s.logEntry code inst flags time a b).flt.nextSeq = (s.flt.nextSeq + 1) % 2 ^ 32 := by
  have h := s.logEntry_logPart code inst flags time a b
  simp only [FltState.logPart, Prod.mk.injEq] at h
  exact h.2.1

theorem State.logEntry_windows : (s.logEntry code inst flags time a b).flt.windows = s.flt.windows := by
  have h := s.logEntry_logPart code inst flags time a b
  simp only [FltState.logPart, Prod.mk.injEq] at h
  exact h.2.2

/-- A new entry is in the log. -/
theorem State.logEntry_mem : ⟨code, inst, flags, s.flt.nextSeq, time, a, b⟩ ∈ (s.logEntry code inst flags time a b).flt.log := by
  rw [s.logEntry_log]
  exact (suffix_keepLatest (List.suffix_append ..) (by simp)).mem (List.mem_singleton_self _)

/-! ### The limit of one second (R551) -/

theorem State.windowOf_key : (s.windowOf code inst).code = code ∧ (s.windowOf code inst).inst = inst
    ∧ (s.windowOf code inst).second = s.mono / secHalfNs := by
  unfold State.windowOf
  cases h : s.flt.windows.find? fun w => w.code == code && w.inst == inst && w.second == s.mono / secHalfNs with
  | none => exact ⟨rfl, rfl, rfl⟩
  | some w =>
    have hw := List.find?_some h
    simpa [and_assoc] using hw

/-- A window that is set is read back. -/
theorem State.windowOf_setWindow {w : EventWindow} (h : w.code = code ∧ w.inst = inst ∧ w.second = s.mono / secHalfNs) :
    (s.setWindow w).windowOf code inst = w := by
  obtain ⟨hc, hi, hs⟩ := h
  have hmono : (s.setWindow w).mono = s.mono := rfl
  unfold State.windowOf
  rw [hmono]
  simp [State.setWindow, hc, hi, hs]

end

section
variable {s : State} {code inst a b : Nat}

theorem State.raise_suppressed (hup : s.sysUp = true) (hw : 16 ≤ (s.windowOf code inst).logged) (hc : eventClass code < 3) :
    s.raise code inst a b = s.setWindow { s.windowOf code inst with suppressed := (s.windowOf code inst).suppressed + 1 } := by
  unfold State.raise State.raiseF
  rw [if_neg (by simp [hup])]
  exact if_pos ⟨hw, hc, rfl⟩

theorem State.raise_log_length (h : s.flt.log.length ≤ 4096) : (s.raise code inst a b).flt.log.length ≤ 4096 := by
  simp only [State.raise, State.raiseF]
  split_ifs
  · rwa [State.queueAon_flt]
  · exact h
  · rw [State.logEntry_log]
    exact length_keepLatest _

theorem State.raise_queued (hup : s.sysUp = false) (he : aonEvent code = true) (hq : s.aon.queue.length < 8) : s.raise code inst a b
    = { s with aon := { s.aon with queue := s.aon.queue ++ [⟨code, inst, 0, a, b, s.aon.tick⟩] } } := by
  unfold State.raise State.raiseF State.queueAon
  rw [if_pos (by simp [hup]), if_neg (by simp [he]), if_pos hq]

/-! ### The summary of a second (R551) -/

theorem State.summarise_time (s : State) (w : EventWindow) : (s.summarise w).time = s.time := s.logEntry_time ..

theorem State.summaries_time (ws : List EventWindow) (s : State) : (ws.foldl State.summarise s).time = s.time := by
  induction ws generalizing s with
  | nil => rfl
  | cons w ws ih => exact (ih _).trans (s.summarise_time w)

theorem State.summaries_windows (ws : List EventWindow) (s : State) : (ws.foldl State.summarise s).flt.windows = s.flt.windows := by
  induction ws generalizing s with
  | nil => rfl
  | cons w ws ih => exact (ih _).trans (s.logEntry_windows ..)

theorem State.summaries_nextSeq (ws : List EventWindow) (s : State) : (ws.foldl State.summarise s).flt.nextSeq
    = if ws = [] then s.flt.nextSeq else (s.flt.nextSeq + ws.length) % 2 ^ 32 := by
  induction ws generalizing s with
  | nil => rfl
  | cons w ws ih =>
    have h1 : (s.summarise w).flt.nextSeq = (s.flt.nextSeq + 1) % 2 ^ 32 := s.logEntry_nextSeq ..
    rw [List.foldl_cons, ih, h1, if_neg (List.cons_ne_nil w ws), List.length_cons]
    split_ifs with he
    · rw [he, List.length_nil, Nat.zero_add]
    · rw [Nat.mod_add_mod, Nat.add_assoc, Nat.add_comm 1]

/-- The entry of a window's summary. -/
def EventWindow.summary (w : EventWindow) (seq : Nat) (at_ : HalfNs) : EventEntry := ⟨w.code, w.inst, 4, seq, ts96 at_, w.suppressed, 0⟩

/-- Up to 4,096 summaries, with the entries just before them, are the latest entries of the log. -/
theorem State.summaries_log (ws : List EventWindow) {s : State} {es : List EventEntry} (hm : s.time.monoSave = none)
    (h : es <:+ s.flt.log) (hl : es.length + ws.length ≤ 4096) :
    ∃ fs, fs <:+ (ws.foldl State.summarise s).flt.log ∧ (∀ e ∈ es, e ∈ fs) ∧ ∀ w ∈ ws, ∃ q, w.summary q s.mono ∈ fs := by
  induction ws generalizing s es with
  | nil => exact ⟨es, h, fun _ he => he, fun _ hw => absurd hw List.not_mem_nil⟩
  | cons w ws ih =>
    rw [List.length_cons] at hl
    have hlog : es ++ [w.summary s.flt.nextSeq s.mono] <:+ (s.summarise w).flt.log := by
      have e : (s.summarise w).flt.log = keepLatest (s.flt.log ++ [w.summary s.flt.nextSeq s.mono]) := s.logEntry_log ..
      rw [e]
      refine suffix_keepLatest ?_ (by simp; omega)
      obtain ⟨pre, hpre⟩ := h
      exact ⟨pre, by rw [← hpre, List.append_assoc]⟩
    have hmono : (s.summarise w).mono = s.mono := by
      rw [State.mono_of_base _ hm, State.mono_of_base _ (by rwa [s.summarise_time]), s.summarise_time]
    obtain ⟨fs, hfs, hold, hnew⟩ := ih (by rwa [s.summarise_time]) hlog (by simp; omega)
    rw [hmono] at hnew
    refine ⟨fs, hfs, fun e he => hold e (List.mem_append_left _ he), fun v hv => ?_⟩
    rcases List.mem_cons.1 hv with rfl | hv
    · exact ⟨_, hold _ (List.mem_append_right _ (List.mem_singleton_self _))⟩
    · exact hnew v hv

/-- The windows whose summary is due with that of `w0`. -/
def State.dueWith (s : State) (w0 : EventWindow) : List EventWindow :=
  s.flt.windows.filter fun w => w.suppressed != 0 && w.second == w0.second

theorem State.summaryEnd_some {w0 : EventWindow} (h : (s.flt.windows.filter fun w => w.suppressed != 0).getLast? = some w0) :
    s.summaryEnd = (s.dueWith w0).reverse.foldl State.summarise ((s.toMono ((w0.second + 1) * secHalfNs)).modFlt fun x =>
      { x with windows := x.windows.filter fun w => w.second != w0.second }) := by
  unfold State.summaryEnd
  rw [h]
  rfl

theorem State.toMono_mono (hm : s.time.monoSave = none) (t : HalfNs) : (s.toMono t).mono = max s.mono t := by
  rw [State.mono_of_base (s.toMono t) hm, State.toMono, State.advance]
  have hbase : s.mono = s.time.base[(4 : Fin 5)].now := State.mono_of_base _ hm
  have hmax (a b : Nat) : a + (b - a) = max a b := by omega
  rw [hbase, Fin.getElem_fin, Vector.getElem_mapIdx]
  simp only [show ((4 : Fin 5) : Nat) = 4 from rfl, true_or, if_true]
  exact hmax ..

/-! ### The fault region's commands -/

theorem State.archivePage_full (hp : s.flt.archPending ≠ []) (hf : s.port.flashSt = 1) (hl : 128 ≤ s.flt.archPending.length) :
    s.archivePage true = s.modFlt fun x => { x with
      archive := (x.archive ++ x.archPending.take 128).drop ((x.archive ++ x.archPending.take 128).length - 524288)
      archPending := x.archPending.drop 128, archSince := s.mono } := by
  unfold State.archivePage
  rw [if_neg (by simp [hp, hf]), if_neg hl.not_gt]
  rfl

theorem State.faultRelease_held {v : Nat} (h : s.releaseCheck v = 0) :
    s.faultRelease v = (s.releasePut v).bumpRev Obj.FAULT_RELEASE := if_pos h

theorem State.faultRelease_free {v : Nat} (h : s.isHeld v = false) : s.faultRelease v = s := by
  refine if_neg ?_
  unfold State.releaseCheck
  split_ifs with h1 h2
  · decide
  · decide
  · simp [h] at h2

/-- The action of FAULT_CLEAR. -/
def clearOp : FlashOp := ⟨Obj.FAULT_CLEAR, 0x03100000, 0, []⟩

/-- The erase of the record area ends. -/
theorem State.flashAction_cleared (h : s.fw.ops = [clearOp]) : s.flashAction Obj.FAULT_CLEAR true
    = ((s.modFw fun x => { x with ops := [] }).modFlt fun x => { x with recFlash := [] }).setAct Obj.FAULT_CLEAR 0 := by
  unfold State.flashAction
  rw [if_neg (by decide), h]
  have herase : (s.modFw fun x => { x with ops := x.ops.eraseP fun y => y.index == Obj.FAULT_CLEAR }) = s.modFw fun x => { x with ops := [] } := by
    simp [State.modFw, h, clearOp]
  simp only [clearOp, List.find?_cons, beq_self_eq_true, herase]
  rfl

theorem State.flashAction_none {index : Nat} {ok : Bool} (h : s.fw.ops = []) : s.flashAction index ok = s := by
  unfold State.flashAction
  rw [h]
  split_ifs <;> rfl

end

/-- Settles O24: a limited occurrence goes to its window, any other to the log, of which `keepLatest` is left. -/
theorem eventsAreLimited : Obligations.EventsAreLimited := by
  unfold Obligations.EventsAreLimited
  refine ⟨fun s code inst a b hup hw hc => ?suppressed, fun s code inst a b hup hw => ?logged, fun s code inst a b h => State.raise_log_length h,
    fun s code inst a b hup he hq => State.raise_queued hup he hq⟩
  case suppressed =>
    have hwindow := s.windowOf_setWindow code inst
      (w := { s.windowOf code inst with suppressed := (s.windowOf code inst).suppressed + 1 }) (s.windowOf_key code inst)
    rw [State.raise_suppressed hup hw hc]
    exact ⟨rfl, congrArg EventWindow.suppressed hwindow⟩
  case logged =>
    rw [s.raise_logged code inst a b hup hw]
    exact ⟨State.logEntry_mem .., State.logEntry_nextSeq ..⟩

/-- Settles O23: the summaries of a second by `State.summaries_log`, each command by its branch. -/
theorem faultRegionCompletes : Obligations.FaultRegionCompletes := by
  unfold Obligations.FaultRegionCompletes
  simp only [exec_summarySecondEnd, exec_archivePageWrite, exec_faultRelease, exec_faultClear, exec_flashActionDone]
  refine ⟨?quiet, ?summary, ?page, ?nothing, ?release, ?free, ?clear, ?cleared, ?noAction⟩
  case quiet =>
    intro s h
    rw [State.summaryEnd, h]
    rfl
  case summary =>
    intro s w0 h hm hl
    rw [State.summaryEnd_some h]
    generalize hu : ((s.toMono ((w0.second + 1) * secHalfNs)).modFlt fun x =>
      { x with windows := x.windows.filter fun w => w.second != w0.second }) = u
    have hmu : u.time.monoSave = none := by rw [← hu]; exact hm
    have hmono : u.mono = max s.mono ((w0.second + 1) * secHalfNs) := by rw [← hu]; exact State.toMono_mono hm _
    have hwindows : u.flt.windows = s.flt.windows.filter fun w => w.second != w0.second := by rw [← hu]; rfl
    have hseq : u.flt.nextSeq = s.flt.nextSeq := by rw [← hu]; rfl
    have hlen : (s.dueWith w0).reverse.length ≤ 4096 := by
      rw [List.length_reverse]
      exact (List.length_filter_le ..).trans hl
    have htime := State.summaries_time (s.dueWith w0).reverse u
    have hmt : ((s.dueWith w0).reverse.foldl State.summarise u).mono = u.mono := by
      rw [State.mono_of_base _ (by rwa [htime]), State.mono_of_base _ hmu, htime]
    obtain ⟨fs, hfs, -, hnew⟩ := State.summaries_log (s.dueWith w0).reverse hmu (List.nil_suffix) (by simpa using hlen)
    refine ⟨_, rfl, hmt.trans hmono, (State.summaries_windows ..).trans hwindows, fun w hw hsup hsec => ?_, ?_⟩
    · have hdue : w ∈ (s.dueWith w0).reverse := by simp [State.dueWith, hw, hsup, hsec]
      obtain ⟨q, hq⟩ := hnew w hdue
      exact ⟨q, hmt ▸ hfs.mem hq⟩
    · have hw0 : w0 ∈ s.dueWith w0 := by
        have hmem := List.mem_of_getLast? h
        simp only [List.mem_filter] at hmem
        simpa [State.dueWith] using hmem
      rw [State.summaries_nextSeq, if_neg (by simpa using List.ne_nil_of_mem hw0), hseq, List.length_reverse]
      rfl
  case page =>
    intro s hp hf hl
    rw [State.archivePage_full hp hf hl]
    rfl
  case nothing => exact fun s h ok => congrArg _ (if_pos (Or.inl h))
  case release =>
    intro s v h
    rw [State.faultRelease_held h]
    rfl
  case free =>
    intro s v h
    rw [State.faultRelease_free h]
  case clear => exact fun s => rfl
  case cleared =>
    intro s h hwf
    rw [State.flashAction_cleared h]
    exact ⟨_, rfl, rfl, rfl, rfl, (State.actOf_setAct _ _ _ _ (by exact hwf)).trans (if_pos rfl)⟩
  case noAction =>
    intro s index ok h
    rw [State.flashAction_none h]

end Sys2Proof.Machine
end


section

/-! SUPPORT. What a path holds after a command to it, and what the commands do in each of its states (O25, O26). -/

namespace Sys2Proof.Machine

section Paths
variable {s : State} {p : Fin 6} {x : Path}

/-- A path that is as deaf as the one it replaces keeps the time since when it is deaf. -/
theorem State.path_putPath_self (h : x.deaf = (s.path p).deaf) : (s.putPath p x).path p = x := by
  rw [State.path_putPath, if_pos rfl, h, Bool.and_not_self]
  rfl

theorem State.path_putPath_ne {q : Fin 6} (h : q ≠ p) : (s.putPath p x).path q = s.path q := by
  rw [State.path_putPath, if_neg h.symm]

end Paths

theorem exec_txCommand (p : Fin 6) (r : TxReq) (s : State) : exec (.txCommand p r) s = .next (s.txCommand p (s.txOfReq p r)).settled := rfl
theorem exec_txAbort (p : Fin 6) (handle : Option Nat) (s : State) : exec (.txAbort p handle) s
    = .next (if (s.path p).st = 0 ∨ (s.path p).st = 1 ∨ (s.path p).st = 9
        ∨ ((s.path p).st = 2 ∧ (((s.path p).cal.map (·.startUp)).getD false) = true) then s
      else match handle with
        | some h => if ((s.path p).running.map fun r => r.cmd.handle) = some h then (s.cutTx p 0x09).settled else (s.abortPending p h).settled
        | none => (s.cutTx p 0x09).settled) := rfl
theorem exec_rxOn (p : Fin 6) (s : State) : exec (.rxOn p) s = .next (s.rxOn p) := rfl
theorem exec_rxOff (p : Fin 6) (s : State) : exec (.rxOff p) s = .next (s.rxOff p) := rfl
theorem exec_tune (p : Fin 6) (khz frames : Nat) (s : State) : exec (.tune p khz frames) s
    = .next (if sliceOk p khz then
        (((s.cfgPut (inst Obj.RF_SLICE_CENTRE p) (scalar khz)).bumpRev (inst Obj.RF_SLICE_CENTRE p)).tune p khz frames).settled
      else s) := rfl
theorem exec_calRequest (p : Fin 6) (bits : Nat) (s : State) : exec (.calRequest p bits) s
    = .next ((s.calRequest p bits).settled.bumpRev (inst Obj.RF_CAL_REQUEST p)) := rfl

/-! ### A transmit command -/

section Transmit
variable {s : State} {p : Fin 6}

/-- The state of which the next handle is taken. -/
def State.nextCmd (s : State) : State := { s with rf := { s.rf with nextHandle := s.rf.nextHandle + 1 } }

theorem State.txReject_nextCmd (s : State) (p : Fin 6) (c : TxCmd) : s.nextCmd.txReject p c = s.txReject p c := rfl

/-- A path that takes a command into its queue. -/
def Path.enqueue (x : Path) (c : TxCmd) (air : HalfNs) : Path :=
  let y := x.withQueue (insertByStart c x.queue)
  { y with due := y.due || (y.queue.head?.map fun d => decide (d.start ≤ air + 220 * usHalfNs)).getD false }

theorem Path.withQueue_queue (x : Path) (q : List TxCmd) : (x.withQueue q).queue = q := by
  unfold Path.withQueue
  split <;> rfl

theorem Path.withQueue_st (x : Path) (q : List TxCmd) : (x.withQueue q).st = x.st := by
  unfold Path.withQueue
  split <;> rfl

theorem State.txCommand_accepted {c : TxCmd} (ha : s.txAllowed = true)
    (hr : s.txReject p { c with handle := s.rf.nextHandle } = none) :
    s.txCommand p c = s.nextCmd.putPath p ((s.path p).enqueue { c with handle := s.rf.nextHandle } s.air) := by
  unfold State.txCommand
  extract_lets c' _ s'
  have h : s'.txReject p c' = none := hr
  rw [h]
  exact if_pos ha

theorem State.txCommand_refused {c : TxCmd} {st : Nat} (hr : s.txReject p { c with handle := s.rf.nextHandle } = some st) :
    s.txCommand p c = s.nextCmd.endCmd p { c with handle := s.rf.nextHandle } st s.air s.air := by
  unfold State.txCommand
  extract_lets c' _ s'
  have h : s'.txReject p c' = some st := hr
  rw [h]
  rfl

theorem State.path_txCommand {c : TxCmd} (ha : s.txAllowed = true)
    (hr : s.txReject p { c with handle := s.rf.nextHandle } = none) :
    (s.txCommand p c).path p = (s.path p).enqueue { c with handle := s.rf.nextHandle } s.air := by
  rw [State.txCommand_accepted ha hr]
  exact State.path_putPath_self (congrArg (fun n => n == 0 || n == 2 || n == 6 || n == 7 || n == 8) (Path.withQueue_st ..))

theorem State.txReject_off (h : (s.path p).st = 0) (c : TxCmd) : s.txReject p c = some 0x0B := if_pos (Or.inl h)

end Transmit

/-! ### Calibration items -/

theorem mem_calItems_one {bits : Nat} (h : bits.testBit 0 = true) : 1 ∈ calItems bits :=
  List.mem_filterMap.2 ⟨0, by simp, if_pos h⟩

theorem mem_mergeItems {a b : List Nat} {i : Nat} (h0 : 0 < i) (h10 : i < 10) : i ∈ mergeItems a b ↔ i ∈ a ∨ i ∈ b := by
  unfold mergeItems
  simp only [List.mem_filterMap, List.mem_range, Option.ite_none_right_eq_some, Option.some.injEq, Bool.or_eq_true,
    List.contains_iff_mem]
  constructor
  · rintro ⟨j, -, hj, rfl⟩
    exact hj
  · intro h
    exact ⟨i - 1, by omega, by rwa [Nat.sub_add_cancel h0], Nat.sub_add_cancel h0⟩

theorem calItems_eq_nil {bits : Nat} (h : bits % 512 = 0) : calItems bits = [] := by
  refine List.filterMap_eq_nil_iff.2 fun i hi => ?_
  have hb : bits.testBit i = false := by
    have := Nat.testBit_mod_two_pow bits 9 i
    rw [show 2 ^ 9 = 512 from rfl, h, Nat.zero_testBit] at this
    simpa [List.mem_range.1 hi] using this.symm
  rw [hb]
  rfl

theorem State.calRequest_waits {s : State} {p : Fin 6} {bits : Nat} (hi : calItems bits ≠ [])
    (hst : (s.path p).st = 0 ∨ (s.path p).st = 1) :
    s.calRequest p bits = s.putPath p { s.path p with calQueue := mergeItems (s.path p).calQueue (calItems bits) } := by
  unfold State.calRequest
  simp only [if_neg hi]
  rcases hst with h | h <;> simp only [h]

end Sys2Proof.Machine

end

open Sys2Proof.Machine
/-- Settles O25. -/
theorem pathCommandsComplete : Obligations.PathCommandsComplete := by
  unfold Obligations.PathCommandsComplete
  simp only [exec_txCommand, exec_txAbort, exec_rxOn, exec_rxOff, exec_tune, exec_calRequest]
  refine ⟨?accepted, ?refused, ?abortOne, ?abortRunning, ?abortNone, ?rxOff, ?rxFault, ?rxStandby, ?rxRx, ?offRx, ?offStandby,
    ?tuneSlice, ?tune, ?cal, ?calNone⟩
  case accepted =>
    intro s p r ha hr
    refine ⟨_, rfl, ?_, ?_, ?_, ?_, ?_⟩
    · rw [State.txCommand_accepted ha hr]
      rfl
    · intro q hq
      rw [State.txCommand_accepted ha hr, State.path_putPath_ne hq]
      rfl
    · rw [State.path_txCommand ha hr]
      exact Path.withQueue_queue ..
    · rw [State.path_txCommand ha hr]
      exact Path.withQueue_st ..
    · rw [State.txCommand_accepted ha hr]
      rfl
  case refused =>
    intro s p r st h0 hr
    have hst := (State.txReject_off h0 _).symm.trans hr
    refine ⟨(Option.some.inj hst).symm, ?_⟩
    rw [State.txCommand_refused hr]
    rfl
  case abortOne =>
    intro s p h h3 h6 hr
    rw [if_neg (by omega), hr]
    rfl
  case abortRunning =>
    intro s p r h7 hr
    constructor
    · rw [if_neg (by omega), hr]
      exact congrArg _ (if_pos rfl)
    · rw [if_neg (by omega)]
  case abortNone =>
    intro s p h hst
    rw [if_pos (by omega)]
  case rxOff =>
    intro s p h0
    exact congrArg _ (if_pos (Or.inl h0))
  case rxFault =>
    intro s p h9 he
    simp [State.rxOn, h9, he, State.emit]
  case rxStandby =>
    intro s p h3 he
    simp [State.rxOn, h3, he]
  case rxRx =>
    intro s p h5 he
    simp [State.rxOn, h5, he]
  case offRx =>
    intro s p h5
    simp [State.rxOff, h5]
  case offStandby =>
    rintro s p (h | h) <;> simp [State.rxOff, h]
  case tuneSlice =>
    intro s p khz frames h
    rw [h]
    rfl
  case tune =>
    intro s p khz frames h h1
    rw [h]
    refine ⟨_, rfl, ?_⟩
    generalize hs1 : (s.cfgPut (inst Obj.RF_SLICE_CENTRE p) (scalar khz)).bumpRev (inst Obj.RF_SLICE_CENTRE p) = s1
    have hp (q : Fin 6) : s1.path q = s.path q := by rw [← hs1]; rfl
    have ht : s1.tune p khz frames = s1.putPath p { s1.path p with centre := khz } := by
      unfold State.tune
      simp [hp, h1]
    rw [ht]
    refine ⟨?_, ?_, ?_, ?_⟩
    · rw [← hs1]
      rfl
    · exact congrArg Path.centre (State.path_putPath_self (x := { s1.path p with centre := khz }) rfl)
    · intro q hq
      rw [State.path_putPath_ne hq, hp]
    · rw [← hs1]
      rfl
  case cal =>
    intro s p bits hb hst
    have h1 := mem_calItems_one hb
    have hp : (s.calRequest p bits).path p = { s.path p with calQueue := mergeItems (s.path p).calQueue (calItems bits) } := by
      rw [State.calRequest_waits (List.ne_nil_of_mem h1) hst]
      exact State.path_putPath_self rfl
    refine ⟨_, rfl, ?_, ?_⟩
    · rw [hp]
      exact (mem_mergeItems Nat.one_pos (by decide)).2 (Or.inr h1)
    · intro i hi h10 h0
      rw [hp]
      exact (mem_mergeItems h0 h10).2 (Or.inl hi)
  case calNone =>
    intro s p bits hb
    rw [State.calRequest]
    simp only [calItems_eq_nil hb, if_true]

section

/-! SUPPORT. What the stages of a transmission do in a path that stands at them (O26). -/

namespace Sys2Proof.Machine

section Stages
variable {s : State} {p : Fin 6}

theorem State.txDue_booked_none {c : TxCmd} {q : List TxCmd} (hq : (s.path p).queue = c :: q) (hb : s.firstBooked p = none) :
    s.txDue p = (s.toAir (c.start - 220 * usHalfNs)).headDue p := by
  unfold State.txDue
  rw [hq, hb]
  rfl

theorem State.txDue_nothing (hq : (s.path p).queue = []) (hb : s.firstBooked p = none) : s.txDue p = s := by
  unfold State.txDue
  rw [hq, hb]
  rfl

theorem State.txDeadline_empty {rssi : Int} (hq : (s.path p).queue = []) (h6 : (s.path p).st ≠ 6) : s.txDeadline p rssi = s := by
  unfold State.txDeadline
  rw [hq]
  split
  · exact absurd ‹_› h6
  · exact absurd ‹[] = _› (List.cons_ne_nil _ _).symm
  · rfl

theorem State.txDeadline_head {rssi : Int} {c : TxCmd} {q : List TxCmd} (hq : (s.path p).queue = c :: q) (h6 : (s.path p).st ≠ 6) :
    s.txDeadline p rssi = s.deadlineHead p c rssi := by
  unfold State.txDeadline
  rw [hq]
  split
  · exact absurd ‹_› h6
  · rename_i heq _
    rw [(List.cons.inj heq).1]
  · exact absurd ‹_ = []› (List.cons_ne_nil _ _)

/-- The head of the queue passes its deadline: not late, nothing bars it, the path suits it and the channel is clear. -/
theorem State.deadlineHead_passes {rssi : Int} {c : TxCmd} {u : State}
    (hu : u = (s.toAir (c.start - s.lead p)).putPath p { s.path p with due := true }) (ht : s.air ≤ c.start - s.lead p)
    (hb : u.startBar p c = none) (hr : u.readyFor p c = true) (hl : u.lbtBusy c rssi = false) :
    s.deadlineHead p c rssi = u.putPath p { s.path p with due := true, late := false, judged := true } := by
  have hp : u.path p = { s.path p with due := true } := by
    rw [hu]
    exact State.path_putPath_self rfl
  have hbar : u.deadlineBar p c rssi = none := by
    unfold State.deadlineBar
    rw [hb, hl]
    rfl
  unfold State.deadlineHead
  extract_lets at_ gone s'
  have hg : gone = false := decide_eq_false ht.not_gt
  have hs : s' = u := hu.symm
  clear_value gone s'
  subst hs hg
  rw [hb, hr, hbar]
  exact congrArg (fun x : Path => s'.putPath p { x with late := false, judged := true }) hp

theorem State.setupStart_head {frames : Nat} {c : TxCmd} {q : List TxCmd} (hq : (s.path p).queue = c :: q) (h5 : (s.path p).st = 5)
    (hl : (s.path p).late = false) (hi : inSlice p (s.path p).centre c.carrier = true) (ht : s.air ≤ c.start - 48 * usHalfNs) :
    s.setupStart p frames = ((s.toAir (c.start - 48 * usHalfNs)).blankLanes p frames).beginSetup p c c.start := by
  unfold State.setupStart
  simp only [hq, hl, hi, if_pos ht, h5, true_or, true_and, if_true, Bool.false_eq_true, if_false]

theorem State.blankLanes_rx {frames : Nat} (h : (s.path p).st = 5) : s.blankLanes p frames = s.count (inst Obj.RF_RX_PREEMPTED p) 0 0 frames :=
  if_pos h

theorem State.setupStart_other {frames : Nat} (h5 : (s.path p).st ≠ 5) (h8 : (s.path p).st ≠ 8) : s.setupStart p frames = s := by
  unfold State.setupStart
  simp only [h5, h8, or_self, false_and, if_false]
  split <;> rfl

theorem State.txStart_onAir {u : State} {r : Running} {n : Nat} {k : PwrPick} (h6 : (s.path p).st = 6)
    (hr : (s.path p).running = some r) (hu : u = s.toAir r.start) (hk : k = u.pickPower p r.cmd.carrier r.cmd.mode r.cmd.pwr)
    (hn : k.entry = some n) :
    s.txStart p = ((u.putPath p { s.path p with st := 7, running := some { r with entry := n, onAir := true } }).countPower p k).emit
      (.air p r.start r.cmd.carrier r.cmd.mode n r.cmd.frame (s.phyOf p r.cmd)) := by
  subst hu hk
  unfold State.txStart
  simp only [h6, hr, hn]

theorem State.txStart_noPower {u : State} {r : Running} (h6 : (s.path p).st = 6) (hr : (s.path p).running = some r)
    (hu : u = s.toAir r.start) (hn : (u.pickPower p r.cmd.carrier r.cmd.mode r.cmd.pwr).entry = none) :
    s.txStart p = (u.endCmd p r.cmd (u.pickPower p r.cmd.carrier r.cmd.mode r.cmd.pwr).status r.start r.start).afterTx p false := by
  subst hu
  unfold State.txStart
  simp only [h6, hr, hn]

theorem State.txEnd_running {r : Running} (h7 : (s.path p).st = 7) (hr : (s.path p).running = some r) :
    s.txEnd p = ((s.toAir (r.start + r.cmd.duration)).endCmd p r.cmd 0 r.start (s.toAir (r.start + r.cmd.duration)).air).afterTx p true := by
  unfold State.txEnd
  simp only [h7, hr]

theorem State.txEnd_other (h7 : (s.path p).st ≠ 7) : s.txEnd p = s := by
  unfold State.txEnd
  split
  · exact absurd ‹_› h7
  · rfl

end Stages

theorem exec_txDue (p : Fin 6) (s : State) : exec (.txDue p) s = .next (s.txDue p).settled := rfl
theorem exec_txDeadline (p : Fin 6) (rssi : Int) (s : State) : exec (.txDeadline p rssi) s = .next (s.txDeadline p rssi).settled := rfl
theorem exec_txSetupStart (p : Fin 6) (frames : Nat) (s : State) : exec (.txSetupStart p frames) s
    = .next (s.setupStart p frames).settled := rfl
theorem exec_txStart (p : Fin 6) (s : State) : exec (.txStart p) s = .next (s.txStart p).settled := rfl
theorem exec_txEnd (p : Fin 6) (s : State) : exec (.txEnd p) s = .next (s.txEnd p).settled := rfl
theorem exec_turnRxEnd (p : Fin 6) (s : State) : exec (.turnRxEnd p) s = .next (s.turnRxEnd p).settled := rfl

end Sys2Proof.Machine

end

open Sys2Proof.Machine
/-- Settles O26. -/
theorem transmissionRuns : Obligations.TransmissionRuns := by
  unfold Obligations.TransmissionRuns
  simp only [exec_txDue, exec_txDeadline, exec_txSetupStart, exec_txStart, exec_txEnd, exec_turnRxEnd]
  refine ⟨?due, ?dueNone, ?deadlineNone, ?deadline, ?setup, ?setupNone, ?start, ?startNoPower, ?txEnd, ?turn, ?endNone⟩
  case due =>
    intro s p c q hq hb
    rw [State.txDue_booked_none hq hb]
  case dueNone =>
    intro s p hq hb
    rw [State.txDue_nothing hq hb]
  case deadlineNone =>
    intro s p rssi hq h6
    rw [State.txDeadline_empty hq h6]
  case deadline =>
    intro s u p c q rssi hq h6 hu ht hb hr hl
    rw [State.txDeadline_head hq h6, State.deadlineHead_passes hu ht hb hr hl]
  case setup =>
    intro s p frames c q hq h5 hl hi ht
    rw [State.setupStart_head hq h5 hl hi ht, State.blankLanes_rx (s := s.toAir _) h5]
    unfold State.beginSetup State.modPath Path.popQueue
    have hq' : (s.path p).queue.tail = q := by rw [hq]; rfl
    rw [← hq']
    rfl
  case setupNone =>
    intro s p frames h5 h8
    rw [State.setupStart_other h5 h8]
  case start =>
    intro s u p r n k h6 hr hu hk hn
    rw [State.txStart_onAir h6 hr hu hk hn]
  case startNoPower =>
    intro s u p r h6 hr hu hn
    rw [State.txStart_noPower h6 hr hu hn]
  case txEnd =>
    intro s u p r h7 hr hu
    rw [State.txEnd_running h7 hr, hu]
  case turn =>
    intro s p h8
    exact congrArg (fun t : State => Host.Outcome.next t.settled) (if_pos h8)
  case endNone =>
    intro s p h7 h8
    exact ⟨congrArg (fun t : State => Host.Outcome.next t.settled) (State.txEnd_other h7),
      congrArg (fun t : State => Host.Outcome.next t.settled) (if_neg h8)⟩


section

/-! SUPPORT. Locks, guards, calibration steps and the lock record (O27). -/

namespace Sys2Proof.Machine

section Locks
variable {s : State} {p : Fin 6} {x y : Path}

/-- A path written twice stands as the second write left it. -/
theorem State.putPath_putPath (h : x.deaf = (s.path p).deaf) : (s.putPath p x).putPath p y = s.putPath p y := by
  have hd : ((s.putPath p x).path p).deaf = (s.path p).deaf := by rw [State.path_putPath_self h, h]
  rw [State.putPath.eq_1 (s.putPath p x) p y, hd]
  exact congrArg (fun v : Vector Path 6 => { s with rf := { s.rf with path := v } }) (Vector.set_set ..)

theorem State.air_toAir (hc : s.time.counting = true) (t : HalfNs) : (s.toAir t).air = max s.air t := by
  have hmax (a b : Nat) : a + (b - a) = max a b := by omega
  unfold State.toAir State.advance State.air
  simp only [Vector.getElem_mapIdx, hc, or_true, if_true]
  exact hmax ..

theorem State.lockAchieved_other (h : (s.path p).st ≠ 4) : s.lockAchieved p = s := if_pos h

theorem State.lockAchieved_nothingDue (h4 : (s.path p).st = 4) (hq : (s.path p).queue = []) :
    s.lockAchieved p = (s.putPath p { s.path p with lockedAt := s.air }).lockSettles p := by
  unfold State.lockAchieved
  dsimp only
  rw [if_neg (not_not_intro h4), hq]
  cases (s.path p).due <;> rfl

theorem State.lockSettles_free (hc : (s.path p).lockCarrier = none) :
    s.lockSettles p = (s.putPath p { s.path p with st := if (s.path p).rxEnabled then 5 else 3, lockCarrier := none }).settlePath p := by
  unfold State.lockSettles
  simp only [hc, Option.isSome_none, Bool.false_eq_true, false_and, if_false]

theorem State.lockTimeout_other (h : (s.path p).st ≠ 4) : s.lockTimeout p = s := if_pos h

theorem State.lockTimeout_first (h4 : (s.path p).st = 4) (h2 : (s.path p).lockTry < 2) (hc : s.time.counting = true) :
    s.lockTimeout p = ((s.toAir ((s.path p).lockAt + 150 * usHalfNs)).putPath p { s.path p with
      lockTry := 2, lockAt := max s.air ((s.path p).lockAt + 150 * usHalfNs) }).raise Ev.SYNTH_UNLOCK p 1 := by
  unfold State.lockTimeout
  dsimp only
  rw [if_neg (not_not_intro h4), if_pos h2, State.air_toAir hc]

theorem State.lockTimeout_second (h4 : (s.path p).st = 4) (h2 : 2 ≤ (s.path p).lockTry) :
    s.lockTimeout p = (((s.toAir ((s.path p).lockAt + 150 * usHalfNs)).putPath p
      { s.path p with st := 9, lockCarrier := none, cal := none }).raise Ev.SYNTH_UNLOCK p 2).endQueue p 0x0A := by
  unfold State.lockTimeout
  dsimp only
  rw [if_neg (not_not_intro h4), if_neg h2.not_gt]

theorem State.cutTx_onAir {r : Running} (hr : (s.path p).running = some r) (ha : r.onAir = true) (st : Nat) :
    s.cutTx p st = ((s.advance (4 * usHalfNs)).endCmd p r.cmd st r.start (s.advance (4 * usHalfNs)).air).afterTx p true := by
  unfold State.cutTx
  rw [hr]
  exact if_pos ha

theorem State.path_toAir (s : State) (t : HalfNs) : (s.toAir t).path p = s.path p := rfl

theorem State.path_endCmd (s : State) (c : TxCmd) (st : Nat) (t u : HalfNs) : (s.endCmd p c st t u).path p = s.path p := rfl

theorem State.txTimeout_other (h : (s.path p).st ≠ 7) : s.txTimeout p = s := by
  unfold State.txTimeout
  split
  · exact absurd ‹_› h
  · rfl

theorem State.txTimeout_running {u : State} {r : Running} (h7 : (s.path p).st = 7) (hr : (s.path p).running = some r)
    (hu : u = s.toAir (min (r.start + r.cmd.duration + 100 * usHalfNs) (r.start + s.cfgN (inst Obj.RF_TX_MAX_MS p) * msHalfNs))) :
    s.txTimeout p = (((((u.endCmd p r.cmd 0x0C r.start u.air).modPath p fun x => { x with inhibit := true }).afterTx p true).endQueue p 0x07).raise
      Ev.TX_TIMEOUT p).count (inst Obj.RF_TX_TIMEOUTS p) := by
  unfold State.txTimeout
  simp only [h7, hr]
  rw [← hu]

end Locks

section Calibration
variable {s : State} {p : Fin 6} {c : CalRun} {i : Nat} {is : List Nat} {last pass : Bool} {v : Nat} {rx : List Nat}

theorem State.calStepEnd_other (h : (s.path p).st ≠ 2) : s.calStepEnd p last pass v rx = s := by
  unfold State.calStepEnd
  split
  · exact absurd ‹_› h
  · rfl

/-- A step of an item that neither passes nor is at its end for good: the run goes on or gives way to what is due. -/
theorem State.calStepEnd_goesOn (h2 : (s.path p).st = 2) (hc : (s.path p).cal = some c) (hi : c.items = i :: is)
    (hl : (last && (pass || c.retried)) = false) :
    s.calStepEnd p last pass v rx = if !c.startUp && (s.path p).due then s.preemptCal p c i
      else (s.modPath p fun x => { x with cal := some { c with
        retried := c.retried || last, steps := if last then 0 else c.steps + 1 } }).stepDone p c i := by
  unfold State.calStepEnd
  simp only [h2, hc, hi]
  cases last
  · rfl
  · obtain ⟨hp, hr⟩ := Bool.or_eq_false_iff.1 hl
    rw [hp, hr]
    rfl

theorem State.calStepEnd_retried (h2 : (s.path p).st = 2) (hc : (s.path p).cal = some c) (hi : c.items = i :: is)
    (hr : c.retried = true) :
    s.calStepEnd p true false v rx = match s.factory p i with
      | some w => (((s.calResult p i 2).calValue p i w).raise Ev.CAL_FALLBACK p i).nextItem p c i
      | none => s.calFail p c i := by
  unfold State.calStepEnd
  simp only [h2, hc, hi, hr]
  rfl

theorem State.calStepEnd_passes (h2 : (s.path p).st = 2) (hc : (s.path p).cal = some c) (hi : c.items = i :: is) :
    s.calStepEnd p true true v rx = ((s.calResult p i 1).calValue p i ⟨v, rx⟩).nextItem p c i := by
  unfold State.calStepEnd
  simp only [h2, hc, hi]
  rfl

theorem State.calFail_front (h : i ≤ 3) : s.calFail p c i = ((((s.calResult p i 3).raise Ev.CAL_FAIL p i).putPath p
    { (s.calResult p i 3).path p with st := 9, cal := none, running := none }).endQueue p 0x0A) := by
  have hp : ((s.calResult p i 3).raise Ev.CAL_FAIL p i).path p = (s.calResult p i 3).path p :=
    congrArg (fun rf : RfState => rf.path[p]) (State.raise_rf ..)
  unfold State.calFail
  simp only [if_pos h]
  unfold State.modPath
  rw [hp]

theorem State.tempRecal_off (h : (s.path p).st = 0) : s.tempRecal p = s := by
  unfold State.tempRecal
  simp [h]

theorem State.recals_off (h : ∀ p : Fin 6, (s.path p).st = 0) (l : List (Fin 6)) : l.foldl State.tempRecal s = s :=
  List.foldl_fixed' (fun p => State.tempRecal_off (h p)) l

theorem State.dieTempMeasured_off {u : State} {t : Int} (h : ∀ p : Fin 6, (s.path p).st = 0)
    (hu : u = { s with rf := { s.rf with
      dieTemp := max (-128) (min 127 t), thermalSteps := thermalSteps s.rf.thermalSteps (s.cfgN Obj.RF_THERMAL_BACKOFF_T) t } }) : s.dieTempMeasured t = u := by
  have hp (p : Fin 6) : u.path p = s.path p := by rw [hu]; rfl
  have hs : s.dieTempMeasured t = (List.finRange 6).foldl State.tempRecal u := by rw [hu]; rfl
  rw [hs]
  exact State.recals_off (fun p => by rw [hp p]; exact h p) _

theorem State.lockProgram_slot {r : Bytes} {j : Fin 2} (h : s.lockSlot = some j) :
    s.lockProgram r = { s with fw := { s.fw with otp := { s.fw.otp with lock := s.fw.otp.lock.set j r } } } := by
  unfold State.lockProgram
  rw [h]

end Calibration

theorem exec_lockAchieved (p : Fin 6) (s : State) : exec (.lockAchieved p) s = .next (s.lockAchieved p).settled := rfl
theorem exec_lockTimeout (p : Fin 6) (s : State) : exec (.lockTimeout p) s = .next (s.lockTimeout p).settled := rfl
theorem exec_synthLockLoss (p : Fin 6) (s : State) : exec (.synthLockLoss p) s
    = .next (if (s.path p).st = 7 then (s.cutTx p 0x09).settled else s) := rfl
theorem exec_txTimeout (p : Fin 6) (s : State) : exec (.txTimeout p) s = .next (s.txTimeout p).settled := rfl
theorem exec_rfTxRearm (p : Fin 6) (v : Nat) (s : State) : exec (.rfTxRearm p v) s
    = .next (if v = 1 then (s.txRearm p v).bumpRev (inst Obj.RF_TX_REARM p) else s) := rfl
theorem exec_calStepEnd (p : Fin 6) (last pass : Bool) (val : Nat) (rx : List Nat) (s : State) : exec (.calStepEnd p last pass val rx) s
    = .next (s.calStepEnd p last pass val rx).settled := rfl
theorem exec_dieTempMeasurement (t : Int) (s : State) : exec (.dieTempMeasurement t) s = .next (s.dieTempMeasured t) := rfl
theorem exec_regLockProgram (r : Bytes) (s : State) : exec (.regLockProgram r) s
    = .next (if s.sec.presClass = 1 ∧ lockWriteOk r ∧ s.lockSlot.isSome then (s.lockProgram r).accept Obj.REG_LOCK_PROGRAM (r.map fun b => [(b.toNat : Int)]) else s) := rfl
end Sys2Proof.Machine

end

open Sys2Proof.Machine
/-- Settles O27. -/
theorem locksGuardsAndCalibration : Obligations.LocksGuardsAndCalibration := by
  unfold Obligations.LocksGuardsAndCalibration
  simp only [exec_lockAchieved, exec_lockTimeout, exec_synthLockLoss, exec_txTimeout, exec_rfTxRearm, exec_calStepEnd,
    exec_dieTempMeasurement, exec_regLockProgram]
  refine ⟨⟨?lock, ?lockOther, ?lockFirst, ?lockSecond, ?loss, ?cut, ?notOnAir, ?timeout, ?rearm, ?rearmOther⟩,
    ?step, ?retry, ?preempt, ?fallback, ?passes, ?noCal, ?dieTemp, ?program, ?noProgram⟩
  case lock =>
    intro s p h4 hq hc
    have hp : (s.putPath p { s.path p with lockedAt := s.air }).path p = { s.path p with lockedAt := s.air } :=
      State.path_putPath_self rfl
    rw [State.lockAchieved_nothingDue h4 hq, State.lockSettles_free (by rw [hp]; exact hc), hp, State.putPath_putPath (x := { s.path p with lockedAt := s.air }) rfl]
  case lockOther =>
    intro s p h
    rw [State.lockAchieved_other h, State.lockTimeout_other h]
    exact ⟨rfl, rfl⟩
  case lockFirst =>
    intro s p h4 h2 hc
    rw [State.lockTimeout_first h4 h2 hc]
  case lockSecond =>
    intro s p h4 h2
    rw [State.lockTimeout_second h4 h2]
  case loss =>
    intro s p h7
    rw [if_pos h7]
  case cut =>
    intro s p r _ hr ha
    exact State.cutTx_onAir hr ha _
  case notOnAir =>
    intro s p h7
    rw [if_neg h7, State.txTimeout_other h7]
    exact ⟨rfl, rfl⟩
  case timeout =>
    intro s u p r h7 hr hu
    rw [State.txTimeout_running h7 hr hu, State.modPath, State.path_endCmd, hu, State.path_toAir]
  case rearm =>
    intro s p
    rfl
  case rearmOther =>
    intro s p v hv
    rw [if_neg hv]
  case step =>
    intro s p c i is pass v rx h2 hc hi hd
    rw [State.calStepEnd_goesOn h2 hc hi rfl, if_neg (by rcases hd with h | h <;> simp [h]), Bool.or_false]
    rfl
  case retry =>
    intro s p c i is v rx h2 hc hi hr hd
    rw [State.calStepEnd_goesOn h2 hc hi (by rw [hr]; rfl), if_neg (by rcases hd with h | h <;> simp [h]), Bool.or_true]
    rfl
  case preempt =>
    intro s p c i is last pass v rx h2 hc hi hl hs hd
    rw [State.calStepEnd_goesOn h2 hc hi hl, if_pos (by rw [hs, hd]; rfl)]
  case fallback =>
    intro s p c i is v rx h2 hc hi hr
    rw [State.calStepEnd_retried h2 hc hi hr]
    constructor
    · intro w hw
      rw [hw]
    · intro hn h3
      rw [hn]
      exact congrArg (fun t : State => Host.Outcome.next t.settled) (State.calFail_front h3)
  case passes =>
    intro s p c i is v rx h2 hc hi
    rw [State.calStepEnd_passes h2 hc hi]
  case noCal =>
    intro s p l a v rx h
    rw [State.calStepEnd_other h]
  case dieTemp =>
    intro s x h
    rw [State.dieTempMeasured_off h rfl]
  case program =>
    intro s r i hp hw hl
    rw [if_pos ⟨hp, hw, by rw [hl]; rfl⟩, State.lockProgram_slot hl]
    exact ⟨_, rfl, rfl, rfl⟩
  case noProgram =>
    rintro s r h
    rw [if_neg]
    rintro ⟨hp, hw, hl⟩
    rcases h with h | h | h
    · exact h hp
    · simp [h] at hw
    · simp [h] at hl


section

/-! SUPPORT. The checks of a received frame in their order (O28). -/

namespace Sys2Proof.Machine

section Mesh
variable {s u : State} {f f0 : AirFrame}

theorem State.frameReceived_deaf (h : s.laneHears f0.path f0.lane f0.mode f0.cfo = false) : s.frameReceived f0 = s :=
  if_pos (Or.inl (by rw [h]; rfl))

theorem State.frameReceived_heard (hf : f = { f0 with stamp := s.antennaTime f0.path f0.mode f0.stamp })
    (hh : s.laneHears f.path f.lane f.mode f.cfo = true) (hp : s.cfgN Obj.MESH_PAN_ID ≠ 0xFFFF) (h7 : s.isHeld 7 = false) :
    s.frameReceived f0 = if s.laneBusy f.path f.lane f.stamp then s.count (inst Obj.MESH_LANE_BUSY f.path) f.lane
      else
        let last := f.stamp + (airTime f.mode f.len (s.preamble f.path) f.fec - tShr f.mode (s.preamble f.path))
        let u := (((s.laneTaken f.path f.lane f.stamp last).agc f.path f.agc).count (inst Obj.MESH_LANE_BUSY f.path) f.lane 0 f.busy)
        if u.beaten f.path f.lane f.mode f.stamp (airPhr f) f.rssi f.twins then u.count (inst Obj.MESH_DUP_LANE f.path)
        else u.frameChecks f := by
  subst hf
  exact if_neg (by simp [hh, hp, h7])

/-- A lane that is free takes the frame: the twin with the higher RSSI beats it, or its checks run. -/
theorem State.frameReceived_taken (hf : f = { f0 with stamp := s.antennaTime f0.path f0.mode f0.stamp })
    (hh : s.laneHears f.path f.lane f.mode f.cfo = true) (hp : s.cfgN Obj.MESH_PAN_ID ≠ 0xFFFF) (h7 : s.isHeld 7 = false)
    (hb : s.laneBusy f.path f.lane f.stamp = false)
    (hu : u = ((s.laneTaken f.path f.lane f.stamp (f.stamp + (airTime f.mode f.len (s.preamble f.path) f.fec - tShr f.mode (s.preamble f.path)))).agc
      f.path f.agc).count (inst Obj.MESH_LANE_BUSY f.path) f.lane 0 f.busy) :
    s.frameReceived f0 = if u.beaten f.path f.lane f.mode f.stamp (airPhr f) f.rssi f.twins then u.count (inst Obj.MESH_DUP_LANE f.path)
      else u.frameChecks f := by
  rw [State.frameReceived_heard hf hh hp h7, hb]
  subst hu
  rfl

theorem State.frameChecks_fcs (h : f.fcsOk = false) : s.frameChecks f = s.count (inst Obj.MESH_FCS_ERR f.path) f.lane :=
  if_pos (by rw [h]; rfl)

theorem psduOk_zero (mode : Nat) : psduOk mode 0 = false := by
  unfold psduOk
  split_ifs <;> rfl

theorem phrOk_eq_false (h : f.ms = true ∨ f.len = 0) : phrOk f = false := by
  unfold phrOk
  rcases h with h | h
  · rw [h]
    rfl
  · rw [h, psduOk_zero, Bool.and_false]

theorem State.frameChecks_phr (h : f.fcsOk = true) (hp : phrOk f = false) :
    s.frameChecks f = s.count (inst Obj.MESH_PHR_ERR f.path) f.lane := by
  unfold State.frameChecks
  simp [h, hp]

theorem State.frameChecks_fc (h : f.fcsOk = true) (hp : phrOk f = true) (hc : fcOk f.fc = false) :
    s.frameChecks f = s.count (inst Obj.MESH_MHR_ERR f.path) := by
  unfold State.frameChecks
  simp [h, hp, hc]

/-- The addresses of a frame pass: it holds none, or two valid ones of which the destination is served. -/
def State.addrPass (s : State) (f : AirFrame) : Prop :=
  fcPre f.fc = true ∨ (tagInvalid ((addrOf f.ies).getD (0xFFFFFF, 0)).1 = false
    ∧ tagInvalid ((addrOf f.ies).getD (0xFFFFFF, 0)).2 = false ∧ s.destOk ((addrOf f.ies).getD (0xFFFFFF, 0)).1 = true)

theorem State.frameChecks_secure (h : f.fcsOk = true) (hp : phrOk f = true) (hc : fcOk f.fc = true)
    (hpan : f.pan = s.cfgN Obj.MESH_PAN_ID) (hsc : some f.secCtrl = secCtrlFor f.fc) (hie : iesOk f = true)
    (hu : u = s.count (inst Obj.MESH_IE_SKIPPED f.path) 0 0 (unknownIes f.ies)) (ha : u.addrPass f) (hs : u.srcKnown f = true) :
    s.frameChecks f = u.secureCheck f := by
  unfold State.frameChecks
  dsimp only
  rw [if_neg (by simp [h]), if_neg (by simp [hp]), if_neg (by simp [hc, hpan, hsc, hie]), ← hu, if_neg, if_neg (by simp [hs])]
  rcases ha with hf | ⟨h1, h2, h3⟩
  · simp [hf]
  · simp [h1, h2, h3]

theorem State.secureCheck_replay {top seen : Nat} (h : s.replayOf (srcKey f) f.key = (true, top, seen))
    (hr : replayCheck true top seen f.counter = .replay) : s.secureCheck f = s.count Obj.LINK_REPLAY := by
  unfold State.secureCheck
  rw [h]
  dsimp only
  rw [hr]

/-- A new frame whose code holds and whose payload fits is delivered, its counter kept. -/
theorem State.secureCheck_fresh {valid : Bool} {top seen key asn : Nat} {a : Option Nat} (h : s.replayOf (srcKey f) f.key = (valid, top, seen))
    (hr : replayCheck valid top seen f.counter = .fresh) (h2 : s.isHeld 2 = false) (hv : s.secServes = true)
    (hk : s.frameKey f = some key) (hm : s.micCheck f key = (some (asn, a), u)) (hp : payloadOk f = true) :
    s.secureCheck f = (u.putReplay (srcKey f) f.key (replayNext valid top seen f.counter).1 (replayNext valid top seen f.counter).2).deliver
      f ⟨asn, a, false⟩ := by
  unfold State.secureCheck
  rw [h]
  dsimp only
  rw [hr]
  simp only [h2, hv, hk, hm, hp, Bool.false_eq_true, if_false, if_true, reduceCtorEq]

end Mesh

section Legacy
variable {s u : State} {f f0 : LegacyFrame}

theorem State.legacyReceived_deaf (h : s.laneHears f0.path f0.lane 0x20 f0.cfo = false) : s.legacyReceived f0 = s :=
  if_pos (by rw [h]; rfl)

theorem State.legacyReceived_taken (hf : f = { f0 with stamp := s.antennaTime f0.path 0x20 f0.stamp })
    (hh : s.laneHears f.path f.lane 0x20 f.cfo = true) (hb : s.laneBusy f.path f.lane f.stamp = false)
    (hu : u = ((s.laneTaken f.path f.lane f.stamp (f.stamp + unitsAt (8 * (f.psdu.length + 1)) 50)).agc f.path f.agc).count
      (inst Obj.MESH_LANE_BUSY f.path) f.lane 0 f.busy)
    (hw : u.beaten f.path f.lane 0x20 f.stamp f.psdu.length f.rssi f.twins = false) (hp : psduOk 0x20 f.psdu.length = true) :
    s.legacyReceived f0 = if crc16 (BitVec.ofNat 8 f.psdu.length :: f.psdu.take (f.psdu.length - 2)) ≠ leAt f.psdu (f.psdu.length - 2) 2 then
        u.count (inst Obj.MESH_FCS_ERR f.path) f.lane
      else (u.count (inst Obj.MESH_RX_FRAMES f.path) f.lane).postRing 3 (.ulFrame 0xFFFFFFFF 2 false
        (u.rxRecord f.path f.lane 0x20 f.stamp f.rssi f.snr f.cfo false false true) 0 f.psdu) := by
  subst hu hf
  dsimp only at *
  unfold State.legacyReceived
  dsimp only
  rw [if_neg (by simp [hh]), if_neg (by simp [hb]), if_neg (by simp [hw]), if_neg (by simp [hp])]

end Legacy

theorem exec_frameReceived (f : AirFrame) (s : State) : exec (.frameReceived f) s = .next (s.frameReceived f) := rfl
theorem exec_legacyFrameReceived (f : LegacyFrame) (s : State) : exec (.legacyFrameReceived f) s = .next (s.legacyReceived f) := rfl

end Sys2Proof.Machine

end

open Sys2Proof.Machine
/-- Settles O28. -/
theorem framesReceived : Obligations.FramesReceived := by
  unfold Obligations.FramesReceived
  simp only [exec_frameReceived, exec_legacyFrameReceived]
  refine ⟨?deaf, ?busy, ?taken, ?replay, ?legacyDeaf, ?legacy⟩
  case deaf =>
    intro s f h
    rw [State.frameReceived_deaf h]
  case busy =>
    intro s f0 f hf hh hp h7 hb
    rw [State.frameReceived_heard hf hh hp h7, hb]
    rfl
  case taken =>
    intro s u f0 f hf hh hp h7 hb hu
    rw [State.frameReceived_taken hf hh hp h7 hb hu]
    refine ⟨fun hw => by rw [if_pos hw], fun hw => ?_⟩
    rw [hw, if_neg Bool.false_ne_true]
    refine ⟨fun h => ?_, fun h hm => ?_, fun h hr hc => ?_, ?_⟩
    · rw [State.frameChecks_fcs h]
    · rw [State.frameChecks_phr h (phrOk_eq_false hm)]
    · rw [State.frameChecks_fc h hr hc]
    · intro w x valid top seen key asn a h hr hc hpan hsc hie hw ha hs hrep hfr h2 hv hk hm hpl
      rw [State.frameChecks_secure h hr hc hpan hsc hie hw ha hs, State.secureCheck_fresh hrep hfr h2 hv hk hm hpl]
  case replay =>
    intro s f top seen h hr
    exact State.secureCheck_replay h hr
  case legacyDeaf =>
    intro s f h
    rw [State.legacyReceived_deaf h]
  case legacy =>
    intro s u f0 f hf hh hb hu hw hp
    rw [State.legacyReceived_taken hf hh hb hu hw hp, ite_not]


section

/-! SUPPORT. The effects of accepted node frames (O30). -/

namespace Sys2Proof.Machine

section NodeFrames
variable {s u v : State} {x : RxFrame}

theorem State.takeFrame_empty (h : s.mesh.accepted = []) (kind : RxFrame → Bool) : s.takeFrame kind = none := by
  unfold State.takeFrame
  rw [h]
  rfl

theorem State.hostData_some (h : s.takeFrame (isData 1) = some (x, u)) : s.hostData = if x.dup then u.dataFrame x
    else (u.dataFrame x).postRing 3 (.ulFrame x.record 1 x.via.isSome x.recordBytes x.src x.data) := by
  unfold State.hostData
  rw [h]

theorem State.hostData_none (h : s.takeFrame (isData 1) = none) : s.hostData = s := by
  unfold State.hostData
  rw [h]

theorem State.keepAlive_some (h : s.takeFrame (isData 4) = some (x, u)) : s.keepAlive = u.dataFrame x := by
  unfold State.keepAlive
  rw [h]

theorem State.keepAlive_none (h : s.takeFrame (isData 4) = none) : s.keepAlive = s := by
  unfold State.keepAlive
  rw [h]

theorem State.alertResponse_none (h : s.takeFrame (isData 5) = none) : s.alertResponse = s := by
  unfold State.alertResponse
  rw [h]

theorem State.alertResponse_noTxn (h : s.takeFrame (isData 5) = some (x, u)) (ha : u.alertOf x = none) :
    s.alertResponse = u.dataFrame x := by
  unfold State.alertResponse
  rw [h]
  dsimp only
  rw [ha]

/-- A timed response to an alert of a known node: the contact is noted, then the alert's transaction goes on. -/
theorem State.alertResponse_txn {t : Txn} {r : FlockRec} {e : Int} (h : s.takeFrame (isData 5) = some (x, u)) (hx : x.untimed = false)
    (ha : u.alertOf x = some t) (hr : u.recOf x.record = some r)
    (he : e = timingError x.stamp (u.replyExp r (t.start - 4 * usHalfNs) t.mode x.path) (r.drift.pendC * 1000))
    (hv : v = ((u.countUplink x.record).contact x.record x.stamp e (some (x.temp, x.supply, x.missed))).etxEvent x.record true) :
    s.alertResponse = if t.gap = 0 then v.sendTxnReply x.path (v.replyCarrier x) t (x.last + 464 * usHalfNs) 1
      else (v.putTxn { t with st := .onAir, stage := 1 }).answer x e := by
  unfold State.alertResponse
  rw [h]
  dsimp only
  rw [ha]
  dsimp only
  rw [hr]
  dsimp only
  rw [← he, ← hv, hx]
  rfl

theorem State.ackReceived_none (h : s.takeFrame (fun x => x.frameType == 2) = none) : s.ackReceived = s := by
  unfold State.ackReceived
  rw [h]

theorem State.ackReceived_noTxn (h : s.takeFrame (fun x => x.frameType == 2) = some (x, u)) (ha : u.ackedTxn x = none) :
    s.ackReceived = u := by
  unfold State.ackReceived
  rw [h]
  dsimp only
  rw [ha]

theorem State.disassocEnd_other {t : Txn} (h : t.kind = .hostData) : s.disassocEnd t = s := by
  unfold State.disassocEnd
  rw [h]

/-- The acknowledgement of host data of a node that is no leader of a chain ends its transaction and nothing more. -/
theorem State.ackReceived_hostData {t : Txn} (h : s.takeFrame (fun x => x.frameType == 2) = some (x, u)) (ha : u.ackedTxn x = some t)
    (hk : t.kind = .hostData)
    (hv : v = (u.ackContact x t).endTxn { t with attempts := t.attempts + 1 } 0 (((u.recOf t.flock).map (·.link.relayed)).getD false))
    (hc : ∀ r, v.recOf t.flock = some r → r.cfg.cls ≠ 0x0A) : s.ackReceived = v := by
  unfold State.ackReceived
  rw [h]
  dsimp only
  rw [ha]
  dsimp only
  rw [← hv, State.disassocEnd_other hk, hk]
  dsimp only
  cases hr : v.recOf t.flock with
  | none => rfl
  | some r => exact if_neg fun hn => hc r hr hn.1

theorem State.assocReq_none (h : s.takeFrame (isCommand 0x80) = none) : s.assocReq = s := by
  unfold State.assocReq
  rw [h]

theorem State.assocReq_notOurs (h : s.takeFrame (isCommand 0x80) = some (x, u)) (hn : x.dup = true ∨ u.assocForUs x = false) :
    s.assocReq = u := by
  unfold State.assocReq
  rw [h]
  refine if_pos ?_
  rcases hn with hn | hn <;> simp [hn]

theorem State.assocReq_refused {st : Nat} (h : s.takeFrame (isCommand 0x80) = some (x, u)) (hd : x.dup = false)
    (ho : u.assocForUs x = true)
    (hst : u.assocStatus ((u.findEui x.eui).bind u.recOf) (leAt x.data 0 1) x.path (leAt x.data 1 2) = st) (h0 : st ≠ 0) :
    s.assocReq = (u.count Obj.LINK_ASSOC_COUNTS st).refuseAssoc x (u.findEui x.eui) st := by
  unfold State.assocReq
  rw [h]
  dsimp only
  rw [if_neg (by simp [hd, ho]), hst, if_pos h0]

theorem State.assocRec_known {f : Nat} {r : FlockRec} (hr : s.recOf f = some r) (hc : r.cfg.cls = leAt x.data 0 1) :
    s.assocRec x (some f) (leAt x.data 0 1) = some (f, r, s) := by
  unfold State.assocRec
  simp [hr, hc]

theorem State.assocReq_known {f : Nat} {r : FlockRec} (h : s.takeFrame (isCommand 0x80) = some (x, u)) (hd : x.dup = false)
    (ho : u.assocForUs x = true) (hf : u.findEui x.eui = some f) (hr : u.recOf f = some r)
    (hst : u.assocStatus (some r) (leAt x.data 0 1) x.path (leAt x.data 1 2) = 0) (hc : r.cfg.cls = leAt x.data 0 1) :
    s.assocReq = ((u.count Obj.LINK_ASSOC_COUNTS 0).setRec f r).acceptAssoc x f r (leAt x.data 1 2) (leAt x.data 3 1) (leAt x.data 4 4) := by
  have hst' : u.assocStatus ((some f).bind u.recOf) (leAt x.data 0 1) x.path (leAt x.data 1 2) = 0 := by
    rw [Option.bind_some, hr]
    exact hst
  have hrec : (u.count Obj.LINK_ASSOC_COUNTS 0).recOf f = some r := hr
  unfold State.assocReq
  rw [h]
  dsimp only
  rw [if_neg (by simp [hd, ho]), hf, hst', if_neg (not_not_intro rfl), State.assocRec_known hrec hc]

theorem State.disassoc_none (h : s.takeFrame (isCommand 0x82) = none) : s.disassoc = s := by
  unfold State.disassoc
  rw [h]

theorem State.disassoc_some (h : s.takeFrame (isCommand 0x82) = some (x, u)) :
    s.disassoc = if x.dup then u.dataFrame x else (u.dataFrame x).detach x.record 0x25 := by
  unfold State.disassoc
  rw [h]

theorem State.chmapAck_none (h : s.takeFrame (isCommand 0x83) = none) : s.chmapAck = s := by
  unfold State.chmapAck
  rw [h]

theorem State.chmapAck_update {r : FlockRec} {c : ChUpdate} (h : s.takeFrame (isCommand 0x83) = some (x, u)) (hr : u.recOf x.record = some r)
    (hc : u.mesh.per[x.path].update = some c) :
    s.chmapAck = State.dataFrame (if r.link.path = x.path.val ∧ sentValue r c (leAt x.data 0 2) = true then
      u.modRec x.record fun r => { r with link := { r.link with confirmed := true } } else u) x := by
  unfold State.chmapAck
  rw [h]
  dsimp only
  rw [hr, hc]

theorem State.chmapAck_noUpdate (h : s.takeFrame (isCommand 0x83) = some (x, u)) (hc : u.mesh.per[x.path].update = none) :
    s.chmapAck = u.dataFrame x := by
  unfold State.chmapAck
  rw [h]
  dsimp only
  rw [hc]
  cases u.recOf x.record <;> rfl

/-- The neighbour that a beacon's source names. -/
def State.nbrOfSrc (s : State) (src : Nat) : Option (Fin 16) :=
  (List.finRange 16).find? fun (i : Fin 16) => s.cfgN Obj.MESH_NBR_CFG i 0 != 0 && s.cfgN Obj.MESH_NBR_CFG i 1 == src

theorem State.neighbourBeacon_known {i : Fin 16} (h : s.takeFrame (fun x => x.frameType == 0) = some (x, u))
    (hi : u.nbrOfSrc x.src = some i) : s.neighbourBeacon = if !u.nbrHears (u.nbrView i) x then u
      else if (u.mesh.nbr[i]).st = 2 ∨ (u.mesh.nbr[i]).st = 3 then
        (u.setNbr i ⟨1, 0, ts96 x.stamp, min ((u.mesh.nbr[i]).heard + 1) 0xFFFFFFFF, (u.mesh.nbr[i]).missed⟩).raise Ev.NBR_RETURNED i
      else u.setNbr i ⟨1, 0, ts96 x.stamp, min ((u.mesh.nbr[i]).heard + 1) 0xFFFFFFFF, (u.mesh.nbr[i]).missed⟩ := by
  unfold State.neighbourBeacon
  unfold State.nbrOfSrc at hi
  rw [h]
  dsimp only
  rw [hi]

end NodeFrames

theorem exec_hostDataFrame (s : State) : exec .hostDataFrame s = .next s.hostData.settled := rfl
theorem exec_keepAlive (s : State) : exec .keepAlive s = .next s.keepAlive.settled := rfl
theorem exec_alertResponse (s : State) : exec .alertResponse s = .next s.alertResponse.settled := rfl
theorem exec_ackReceived (s : State) : exec .ackReceived s = .next s.ackReceived.settled := rfl
theorem exec_assocReq (s : State) : exec .assocReq s = .next s.assocReq.settled := rfl
theorem exec_disassoc (s : State) : exec .disassoc s = .next s.disassoc.settled := rfl
theorem exec_chmapAck (s : State) : exec .chmapAck s = .next s.chmapAck.settled := rfl
theorem exec_neighbourBeacon (s : State) : exec .neighbourBeacon s = .next s.neighbourBeacon := rfl

end Sys2Proof.Machine

end

open Sys2Proof.Machine
/-- Settles O30. -/
theorem nodeFramesComplete : Obligations.NodeFramesComplete := by
  unfold Obligations.NodeFramesComplete
  simp only [exec_hostDataFrame, exec_keepAlive, exec_alertResponse, exec_ackReceived, exec_assocReq, exec_disassoc, exec_chmapAck,
    exec_neighbourBeacon]
  refine ⟨?data, ?alive, ?alertNone, ?alert, ?ackNone, ?ack, ?assocOther, ?assocRefused, ?assoc, ?disassoc, ?chmap, ?chmapNone,
    ?beacon, ?nothing⟩
  case data =>
    intro s u x h
    rw [State.hostData_some h]
  case alive =>
    intro s u x h
    rw [State.keepAlive_some h]
  case alertNone =>
    intro s u x h ha
    rw [State.alertResponse_noTxn h ha]
  case alert =>
    intro s u v x t r e h hx ha hr he hv
    rw [State.alertResponse_txn h hx ha hr he hv]
  case ackNone =>
    intro s u x h ha
    rw [State.ackReceived_noTxn h ha]
  case ack =>
    intro s u v x t h ha hk hv hc
    rw [State.ackReceived_hostData h ha hk hv hc]
  case assocOther =>
    intro s u x h hn
    rw [State.assocReq_notOurs h hn]
  case assocRefused =>
    intro s u x st h hd ho hst h0
    rw [State.assocReq_refused h hd ho hst h0]
  case assoc =>
    intro s u x f r h hd ho hf hr hst hc
    rw [State.assocReq_known h hd ho hf hr hst hc]
  case disassoc =>
    intro s u x h
    rw [State.disassoc_some h]
  case chmap =>
    intro s u x r c h hr hc
    rw [State.chmapAck_update h hr hc]
  case chmapNone =>
    intro s u x h hc
    rw [State.chmapAck_noUpdate h hc]
  case beacon =>
    intro s u x i h hi
    rw [State.neighbourBeacon_known h hi]
    exact ⟨fun hn => by rw [hn]; rfl, fun hn => by rw [hn]; rfl⟩
  case nothing =>
    intro s h k hk
    have ht := State.takeFrame_empty h
    simp only [List.mem_cons, List.not_mem_nil, or_false] at hk
    rcases hk with rfl | rfl | rfl | rfl | rfl | rfl | rfl
    · rw [exec_hostDataFrame, State.hostData_none (ht _)]
    · rw [exec_keepAlive, State.keepAlive_none (ht _)]
    · rw [exec_alertResponse, State.alertResponse_none (ht _)]
    · rw [exec_ackReceived, State.ackReceived_none (ht _)]
    · rw [exec_assocReq, State.assocReq_none (ht _)]
    · rw [exec_disassoc, State.disassoc_none (ht _)]
    · rw [exec_chmapAck, State.chmapAck_none (ht _)]


section

/-! SUPPORT. The timers of neighbours, links and transactions (O32). -/

namespace Sys2Proof.Machine

section Neighbours
variable {s u : State} {i : Fin 16} {f : Nat} {r : FlockRec}

theorem State.nbrWindowEnd_cfg (h : s.cfgN Obj.MESH_NBR_CFG i 0 ≠ 0) (hu : u = s.toNbrEnd (s.nbrView i)) :
    s.nbrWindowEnd none i = if u.deaf (s.nbrView i) then u else u.nbrMiss i := by
  subst hu
  exact if_neg h

theorem State.nbrWindowEnd_relay (hr : s.recOf f = some r) (hc : r.cfg.cls = 0x0C) (hl : r.link.st ≠ 0)
    (hu : u = s.toNbrEnd (relayView r)) : s.nbrWindowEnd (some f) i = if u.deaf (relayView r) then u else u.relayMiss f := by
  subst hu
  unfold State.nbrWindowEnd
  dsimp only
  rw [hr]
  exact if_neg fun h => h.elim (fun hn => hn hc) hl

/-- A miss that does not reach three. -/
theorem State.nbrMiss_below (h : (s.mesh.nbr[i]).misses < 2) : s.nbrMiss i = s.setNbr i { s.mesh.nbr[i] with
    misses := (s.mesh.nbr[i]).misses + 1, missed := min ((s.mesh.nbr[i]).missed + 1) 0xFFFFFFFF } := by
  have hm : min ((s.mesh.nbr[i]).misses + 1) 255 = (s.mesh.nbr[i]).misses + 1 := min_eq_left (by omega)
  have hn : ¬(3 ≤ (s.mesh.nbr[i]).misses + 1 ∧ ((s.mesh.nbr[i]).st = 1 ∨ (s.mesh.nbr[i]).st = 4)) := by omega
  unfold State.nbrMiss
  dsimp only
  rw [hm, if_neg hn, if_neg hn]

/-- The third miss in a row of a neighbour that was heard. -/
theorem State.nbrMiss_third (h : (s.mesh.nbr[i]).misses = 2) (h1 : (s.mesh.nbr[i]).st = 1) : s.nbrMiss i = (s.setNbr i { s.mesh.nbr[i] with
    misses := 3, missed := min ((s.mesh.nbr[i]).missed + 1) 0xFFFFFFFF, st := 2 }).raise Ev.NBR_LOST i := by
  have hm : min ((s.mesh.nbr[i]).misses + 1) 255 = 3 := by rw [h]; rfl
  unfold State.nbrMiss
  dsimp only
  rw [hm, if_pos ⟨le_rfl, Or.inl h1⟩, if_pos ⟨le_rfl, Or.inl h1⟩]

end Neighbours

section LinkTimers
variable {s u v : State} {f : Nat} {r : FlockRec}

theorem State.listenEnd_none {retry : Bool} (h : s.recOf f = none) : s.listenEnd f retry = s := by
  unfold State.listenEnd
  rw [h]

theorem State.supervisionEnd_none (h : s.recOf f = none) : s.supervisionEnd f = s := by
  unfold State.supervisionEnd
  rw [h]

/-- Whether a link listens: it stands, and its path's domain is on. -/
theorem not_silent {b : Bool} (h0 : r.link.st ≠ 0) (hd : r.link.path < 6 → b = true) : ¬(r.link.st = 0 ∨ (r.link.path < 6 ∧ (!b) = true)) := by
  rintro (h | ⟨hp, hb⟩)
  · exact h0 h
  · rw [hd hp] at hb
    exact Bool.false_ne_true hb

/-- The window that a retry in the present superframe ends. -/
theorem State.endingWindow_retry (h : s.mesh.retry = [⟨f, s.asn, 1⟩]) (r : FlockRec) : s.endingWindow f r = s.asn := by
  refine if_pos ?_
  unfold State.windowIn
  simp [h]

theorem State.openRetry_last {n : Nat} (h : s.mesh.retry = [⟨f, n, 1⟩]) :
    s.openRetry f n true = { s with mesh := { s.mesh with retry := [⟨f, (n + 1) % 2 ^ 40, 0⟩] } } := by
  unfold State.openRetry
  rw [h]
  simp

theorem State.listenEnd_retry (hr : s.recOf f = some r) (h0 : r.link.st ≠ 0) (hd : r.link.path < 6 → s.domOn (7 + r.link.path) = true)
    (hq : s.mesh.retry = [⟨f, s.asn, 1⟩]) (hu : u = s.toAir (s.window r (s.slotAt s.asn r.link.slot)).2.toNat) :
    s.listenEnd f true = { u with mesh := { u.mesh with retry := [⟨f, (s.asn + 1) % 2 ^ 40, 0⟩] } } := by
  have hq' : u.mesh.retry = [⟨f, s.asn, 1⟩] := by rw [hu]; exact hq
  unfold State.listenEnd
  rw [hr]
  dsimp only
  rw [if_neg (not_silent h0 hd), State.endingWindow_retry hq, ← hu, if_pos rfl, State.openRetry_last hq']

/-- A window of a synchronised link that ends without its beacon, below the limit of RESYNC. -/
theorem State.listenEnd_missed {w : Int × Int} (hr : s.recOf f = some r) (h2 : r.link.st = 2)
    (hd : r.link.path < 6 → s.domOn (7 + r.link.path) = true) (hk : r.drift.misses + 1 < s.cfgN Obj.MESH_RESYNC_MISSES)
    (hw : w = s.window r (s.slotAt (s.endingWindow f r) r.link.slot))
    (hu : u = (s.toAir w.2.toNat).openRetry f (s.endingWindow f r) false)
    (hv : v = u.modRec f fun r => { r with drift := { r.drift with misses := min (r.drift.misses + 1) 255 } }) :
    s.listenEnd f false = (if u.beaconOverlap (linkPath r) w.1.toNat w.2.toNat then v else v.etxEvent f false).resyncCheck f := by
  unfold State.listenEnd
  rw [hr]
  dsimp only
  rw [if_neg (not_silent (by rw [h2]; decide) hd), ← hw, ← hu, ← hv, if_neg Bool.false_ne_true, if_neg (by omega),
    if_neg fun h => absurd h.2 hk.not_ge]

theorem State.supervisionEnd_synced (hr : s.recOf f = some r) (h2 : r.link.st = 2) : s.supervisionEnd f
    = (((s.toAir (r.superv + s.supervision r)).detach f 0x25).raise Ev.LINK_TIMEOUT 0xFF f).count Obj.LINK_TIMEOUTS := by
  unfold State.supervisionEnd
  rw [hr]
  dsimp only
  rw [if_neg (by omega), if_neg (by omega)]

end LinkTimers

section TxnTimers
variable {s u : State} {id : Nat} {t : Txn}

theorem State.replyWindowEnd_none (h : s.txnOf id = none) : s.replyWindowEnd id = s := by
  unfold State.replyWindowEnd
  rw [h]

theorem State.txnBook_none (h : s.txnOf id = none) : s.txnBook id = s := by
  unfold State.txnBook
  rw [h]

theorem State.txnDeadline_none (h : s.txnOf id = none) : s.txnDeadline id = s := by
  unfold State.txnDeadline
  rw [h]

theorem State.replyWindowEnd_awaiting (h : s.txnOf id = some t) (ha : t.st = .awaitReply)
    (hu : u = s.toAir (t.start - 4 * usHalfNs + 464 * usHalfNs + tShr t.mode (s.preamble t.path) + 30 * usHalfNs)) :
    s.replyWindowEnd id = (u.etxEvent (u.replyHop t) false).attemptEnd t
      (if u.opensWithAlert t = true ∧ t.respond = true ∧ t.stage = 0 then 0x24 else 0x23) true := by
  subst hu
  unfold State.replyWindowEnd
  rw [h]
  exact if_neg (not_not_intro ha)

theorem State.txnDeadline_waiting (h : s.txnOf id = some t) (hst : t.st = .queued ∨ t.st = .booked) :
    s.txnDeadline id = ((s.toAir t.deadline).endTxn t (if t.refusal = 0 then 0x27 else t.refusal)).disassocEnd t := by
  unfold State.txnDeadline
  rw [h]
  refine if_neg ?_
  rcases hst with hst | hst <;> simp [hst]

theorem State.txnBook_notQueued (h : s.txnOf id = some t) (hst : t.st ≠ .queued) : s.txnBook id = s := by
  unfold State.txnBook
  rw [h]
  exact if_pos (Or.inl hst)

/-- A counter with room for two values has room for one or two. -/
theorem not_ctrSpent {p : Prop} {own b m : Nat} (hc : own + 2 ≤ m) (hb : b ≤ 2) : ¬(p ∧ m < own + b) := by omega

/-- A queued transaction whose hop, opportunity and plan are found is booked. -/
theorem State.txnBook_planned {n step hop ref : Nat} {r own : FlockRec} {pl : Plan} (h : s.txnOf id = some t) (hst : t.st = .queued)
    (hb : 2 ≤ (s.time.base[3]).st) (h6 : s.isHeld 6 = false) (h7 : s.isHeld 7 = false)
    (hop' : s.opportunity t (s.absSlot (s.air + 220 * usHalfNs) + 1) = some (n, step)) (hr : s.routeTo t.flock = some hop)
    (hh : s.recOf hop = some r) (ho : s.recOf t.flock = some own) (hc : own.ctr.own + 2 ≤ ctrMax) (t' : Txn)
    (ht : t' = { t with nodeTag := own.tag t.flock, mode := r.link.mode, chOffset := r.link.chOffset })
    (hp : (s.lookup hop).findPlan t' hop r step ((t.deadline - (s.lookup hop).air) / (step * (s.lookup hop).tSlot) + 1) n t.refusal
      = (some pl, ref)) :
    s.txnBook id = ((s.lookup hop).noteRefusal t' hop r n ref pl.path).bookPlan { t' with refusal := ref } r.link.mode pl := by
  subst ht
  unfold State.txnBook
  rw [h]
  refine (if_neg (by simp [hst, h6, h7]; omega)).trans ?_
  rw [hop', hr]
  split
  · rename_i n' step' hop'' hn hh'
    cases hn
    cases hh'
    rw [hh, ho]
    split
    · rename_i r' own' hr' ho'
      cases hr'
      cases ho'
      refine (if_neg (not_ctrSpent hc (by split_ifs <;> decide))).trans ?_
      extract_lets l t'
      split
      · rename_i pl' ref' he
        cases hp.symm.trans he
        rfl
      · rename_i ref' he
        cases hp.symm.trans he
    · rename_i hne
      exact (hne _ _ rfl rfl).elim
  · rename_i hne
    exact (hne _ _ _ rfl rfl).elim

end TxnTimers

theorem exec_nbrBeaconWindowEnd (relay : Option Nat) (i : Fin 16) (s : State) : exec (.nbrBeaconWindowEnd relay i) s
    = .next (s.nbrWindowEnd relay i) := rfl
theorem exec_nbrSupervisionExpiry (relay : Option Nat) (i : Fin 16) (s : State) : exec (.nbrSupervisionExpiry relay i) s
    = .next (s.nbrExpiry relay i) := rfl
theorem exec_listenWindowEnd (f : Nat) (retry : Bool) (s : State) : exec (.listenWindowEnd f retry) s
    = .next (s.listenEnd f retry).settled := rfl
theorem exec_linkSupervisionTimeout (f : Nat) (s : State) : exec (.linkSupervisionTimeout f) s = .next (s.supervisionEnd f).settled := rfl
theorem exec_replyWindowEnd (id : Nat) (s : State) : exec (.replyWindowEnd id) s = .next (s.replyWindowEnd id).settled := rfl
theorem exec_txnBooking (id : Nat) (s : State) : exec (.txnBooking id) s = .next (s.txnBook id).settled := rfl
theorem exec_txnDeadline (id : Nat) (s : State) : exec (.txnDeadline id) s = .next (s.txnDeadline id).settled := rfl

end Sys2Proof.Machine

end

open Sys2Proof.Machine
/-- Settles O32. -/
theorem meshTimersComplete : Obligations.MeshTimersComplete := by
  unfold Obligations.MeshTimersComplete
  simp only [exec_nbrBeaconWindowEnd, exec_nbrSupervisionExpiry, exec_listenWindowEnd, exec_linkSupervisionTimeout, exec_replyWindowEnd,
    exec_txnBooking, exec_txnDeadline]
  refine ⟨?window, ?relay, ?expiry, ?expiryOther, ?noRec, ?retry, ?missed, ?supervision, ?noTxn, ?reply, ?deadline, ?notQueued, ?book⟩
  case window =>
    intro s u i hc hu
    have hn : u.mesh.nbr = s.mesh.nbr := by rw [hu]; rfl
    rw [State.nbrWindowEnd_cfg hc hu, ← hn]
    refine ⟨fun hd => by rw [if_pos hd], fun hd hm => ?_, fun hd hm h1 => ?_⟩
    · rw [hd, if_neg Bool.false_ne_true, State.nbrMiss_below hm]
    · rw [hd, if_neg Bool.false_ne_true, State.nbrMiss_third hm h1]
  case relay =>
    intro s u i f r hr hc hl hu hd
    rw [State.nbrWindowEnd_relay hr hc hl hu, hd]
    rfl
  case expiry =>
    intro s i h2
    exact congrArg _ (if_neg (not_not_intro h2))
  case expiryOther =>
    intro s i h2
    exact congrArg _ (if_pos h2)
  case noRec =>
    intro s f retry h
    rw [State.listenEnd_none h, State.supervisionEnd_none h]
    exact ⟨rfl, rfl⟩
  case retry =>
    intro s u f r hr h0 hd hq hu
    rw [State.listenEnd_retry hr h0 hd hq hu]
  case missed =>
    intro s u v f r w hr h2 hd hk hw hu hv
    rw [State.listenEnd_missed hr h2 hd hk hw hu hv]
  case supervision =>
    intro s f r hr h2
    rw [State.supervisionEnd_synced hr h2]
  case noTxn =>
    intro s id h
    rw [State.replyWindowEnd_none h, State.txnBook_none h, State.txnDeadline_none h]
    exact ⟨rfl, rfl, rfl⟩
  case reply =>
    intro s u id t h ha hu
    rw [State.replyWindowEnd_awaiting h ha hu]
  case deadline =>
    intro s id t h hst
    rw [State.txnDeadline_waiting h hst]
  case notQueued =>
    intro s id t h hst
    rw [State.txnBook_notQueued h hst]
  case book =>
    intro s id t n step hop ref r own pl h hst hb h6 h7 hop' hr hh ho hc hp
    rw [State.txnBook_planned h hst hb h6 h7 hop' hr hh ho hc _ rfl hp]


section

/-! SUPPORT. Links that are removed, channel maps, and the buckets of the budgets (O33). -/

namespace Sys2Proof.Machine

section Records
variable {s : State} {f g : Nat} {r : FlockRec}

theorem State.recOf_setRec_ne (h : g ≠ f) : (s.setRec f r).recOf g = s.recOf g :=
  congrArg (Option.map fun x : Nat × FlockRec => x.2) ((insertKey_find f g r s.flock.recs).trans (if_neg h))

theorem State.modRec_some (h : s.recOf f = some r) (e : FlockRec → FlockRec) : s.modRec f e = s.setRec f { e r with dirty := true } := by
  unfold State.modRec
  rw [h]

theorem State.queueDisassoc_linked (h : s.recOf f = some r) (hl : r.link.st ≠ 0) (reason : Nat) :
    s.queueDisassoc f reason = s.setRec f { r with link := { r.link with leave := some reason }, dirty := true } := by
  unfold State.queueDisassoc
  rw [h]
  exact (if_neg hl).trans (State.modRec_some h _)

theorem State.queueDisassoc_none (h : s.recOf f = none) (reason : Nat) : s.queueDisassoc f reason = s := by
  unfold State.queueDisassoc
  rw [h]

end Records

/-- The transaction that tells a node that its link ends. -/
def State.disassocTxn (s : State) (f reason id : Nat) (r : FlockRec) : Txn :=
  { id := id, kind := .disassoc reason, st := .queued, flock := f, path := 0, start := 0, channel := 0, handle := 0
    ms := 0, account := 0, attempts := 0, deadline := s.air + s.supervision r, refusal := 0, stage := 0
    respond := false, gap := 0, data := [], req := none, nodeTag := r.tag f, mode := r.link.mode
    chOffset := r.link.chOffset, counter := 0, host := false }

/-- The one link that leaves gets its transaction. -/
theorem State.removals_one {s : State} {f reason i : Nat} {r : FlockRec} (hr : s.flock.recs = [(f, r)]) (hl : r.link.leave = some reason)
    (hi : s.freeTxn = some i) : s.removals
      = (s.modRec f fun r => { r with link := { r.link with leave := none } }).addTxn (s.disassocTxn f reason i r) := by
  have hrec : s.recOf f = some r := by
    unfold State.recOf
    simp [hr]
  unfold State.removals
  rw [hr, List.filter_cons_of_pos (by rw [hl]; rfl)]
  simp only [List.filter_nil, List.foldl_cons, List.foldl_nil, hrec, hi, hl]
  rfl

theorem State.addTxn_txns (s : State) (t : Txn) : (s.addTxn t).mesh.txns = s.mesh.txns ++ [t] := rfl

theorem State.modRec_txns (s : State) (f : Nat) (e : FlockRec → FlockRec) : (s.modRec f e).mesh.txns = s.mesh.txns := by
  unfold State.modRec
  cases s.recOf f <;> rfl

section Maps
variable {s : State} {p : Fin 6} {map : Nat}

theorem State.chmapWrite_refused (h : s.chmapReject p map (s.cfgN (inst Obj.MESH_CHMAP_C0 p)) ≠ 0) : s.chmapWrite p false map = s := by
  unfold State.chmapWrite
  simp only [Bool.false_eq_true, false_and, if_false, if_neg h]

theorem State.chmapWrite_accepted (h : s.chmapReject p map (s.cfgN (inst Obj.MESH_CHMAP_C0 p)) = 0) :
    s.chmapWrite p false map = (s.chmapPut p map (s.cfgN (inst Obj.MESH_CHMAP_C0 p))).bumpRev (inst Obj.MESH_CHMAP p) := by
  unfold State.chmapWrite
  simp only [Bool.false_eq_true, false_and, if_false, if_pos h]

theorem vmod_self {α : Type} {n : Nat} (v : Vector α n) (i : Fin n) (f : α → α) : (vmod v i f)[i] = f v[i] := by
  unfold vmod
  simp

theorem vmod_ne {α : Type} {n : Nat} (v : Vector α n) {i j : Fin n} (h : j ≠ i) (f : α → α) : (vmod v i f)[j] = v[j] := by
  unfold vmod
  exact Vector.getElem_set_ne _ _ fun he => h (Fin.ext he.symm)

/-- No beacon and no link: the map takes effect at once. -/
theorem State.chmapPut_now {c0 : Nat} (hb : s.cfgN (inst Obj.MESH_BEACON_ENABLE p) = 0) (hr : s.flock.recs = []) :
    s.chmapPut p map c0 = ((s.cfgPut (inst Obj.MESH_CHMAP p) (scalar map)).cfgPut (inst Obj.MESH_CHMAP_C0 p) (scalar c0)).modPer p
      fun x => { x with map := map, c0 := c0 } :=
  if_pos ⟨hb, by rw [hr]; rfl⟩

/-- A beacon that is on takes the map as an update to come. -/
theorem State.chmapPut_update {c0 : Nat} (hb : s.cfgN (inst Obj.MESH_BEACON_ENABLE p) ≠ 0) : s.chmapPut p map c0 = s.startUpdate p map c0 :=
  if_neg fun h => hb h.1

theorem State.startUpdate_per (s : State) (p : Fin 6) (map c0 : Nat) : (s.startUpdate p map c0).mesh.per[p]
    = { s.mesh.per[p] with update := some ⟨map, c0, (s.asn + s.cfgN Obj.LINK_CHMAP_LEAD) % 2 ^ 40, false⟩ } :=
  vmod_self s.mesh.per p _

end Maps

section Budgets
variable {s : State} {b : Fin 2} {ch : Nat}

theorem State.dutyRoll_band (s : State) (b : Fin 2) : (s.dutyRoll b).mesh.band = vmod s.mesh.band b fun d => { d with
    acct := d.acct.map fun a => { a with buckets := a.buckets.filter fun k => decide ((s.dutyRoll b).minute < k.minute + 60) } } := rfl

theorem State.dwellRoll_none (h : s.channelKhz (if b = 0 then 0 else 4) ch = none) : s.dwellRoll b ch = s := by
  unfold State.dwellRoll
  rw [h]

/-- The dwell windows of a channel that end by `t` leave. -/
def State.dwellDrop (s : State) (b : Fin 2) (ch : Nat) (e : LockEntry) : State :=
  { s with mesh := { s.mesh with band := vmod s.mesh.band b fun d => { d with
      dwell := d.dwell.filter fun w => w.channel != ch || decide (s.dwellBucket e < w.bucket + 20) } } }

theorem State.dwellRoll_some {khz n : Nat} {e : LockEntry} (hk : s.channelKhz (if b = 0 then 0 else 4) ch = some khz)
    (hl : s.lockFor khz (if b = 0 then 1 else 0x10) = some (n, e)) (hw : e.dwellWin ≠ 0) :
    s.dwellRoll b ch = (s.toMono ((s.dwellBucket e + 1) * e.dwellWin * secHalfNs / 20)).dwellDrop b ch e := by
  unfold State.dwellRoll
  rw [hk]
  dsimp only
  rw [hl]
  exact if_neg hw

end Budgets

theorem exec_linkRemove (f : Nat) (s : State) : exec (.linkRemove f) s
    = .next (if f < 2 ^ 20 then ((s.queueDisassoc f 2).bumpRev Obj.LINK_REMOVE).settled else s) := rfl
theorem exec_meshChmapWrite (p : Fin 6) (first : Bool) (v : Nat) (s : State) : exec (.meshChmapWrite p first v) s
    = .next (s.chmapWrite p first v) := rfl
theorem exec_dutyBucketRoll (b : Fin 2) (s : State) : exec (.dutyBucketRoll b) s = .next (s.dutyRoll b) := rfl
theorem exec_dwellBucketRoll (b : Fin 2) (ch : Nat) (s : State) : exec (.dwellBucketRoll b ch) s = .next (s.dwellRoll b ch) := rfl

end Sys2Proof.Machine

end

open Sys2Proof.Machine
/-- Settles O33. -/
theorem linkCommandsComplete : Obligations.LinkCommandsComplete := by
  unfold Obligations.LinkCommandsComplete
  simp only [exec_linkRemove, exec_meshChmapWrite, exec_dutyBucketRoll, exec_dwellBucketRoll]
  refine ⟨?remove, ?removal, ?removeBad, ?removeNone, ?refused, ?now, ?update, ?duty, ?dwellNone, ?dwell⟩
  case remove =>
    intro s f r hf hr hl
    rw [if_pos hf, State.queueDisassoc_linked hr hl]
    exact ⟨_, rfl, rfl, State.recOf_setRec_self .., fun g hg => State.recOf_setRec_ne hg⟩
  case removal =>
    intro s f reason i r hr hl hi
    rw [State.removals_one hr hl hi, State.addTxn_txns, State.modRec_txns]
    exact ⟨_, rfl, rfl, rfl, rfl, rfl⟩
  case removeBad =>
    intro s f hf
    rw [if_neg hf.not_gt]
  case removeNone =>
    intro s f hf hr
    rw [if_pos hf, State.queueDisassoc_none hr]
  case refused =>
    intro s p map h
    rw [State.chmapWrite_refused h]
  case now =>
    intro s p map h hb hr
    rw [State.chmapWrite_accepted h, State.chmapPut_now hb hr]
    refine ⟨_, rfl, rfl, ?_, ?_, rfl, rfl⟩
    · exact congrArg PathMesh.map (vmod_self ..)
    · exact congrArg PathMesh.c0 (vmod_self ..)
  case update =>
    intro s p map h hb
    rw [State.chmapWrite_accepted h, State.chmapPut_update hb]
    refine ⟨_, rfl, ?_, ?_⟩
    · exact (congrArg PathMesh.map (State.startUpdate_per s p map (s.cfgN (inst Obj.MESH_CHMAP_C0 p))) :)
    · exact (congrArg PathMesh.update (State.startUpdate_per s p map (s.cfgN (inst Obj.MESH_CHMAP_C0 p))) :)
  case duty =>
    intro s b
    refine ⟨_, rfl, rfl, rfl, fun c hc => ?_, ?_, fun a k hk => ?_⟩
    · rw [State.dutyRoll_band, vmod_ne _ hc]
    · rw [State.dutyRoll_band, vmod_self]
    · rw [State.dutyRoll_band, vmod_self] at hk
      simp only [Fin.getElem_fin, Vector.getElem_map, List.mem_filter, decide_eq_true_eq] at hk
      exact hk
  case dwellNone =>
    intro s b ch h
    rw [State.dwellRoll_none h]
  case dwell =>
    intro s b ch khz n e hk hl hw
    rw [State.dwellRoll_some hk hl hw]
    refine ⟨_, rfl, rfl, fun w hm => ?_, fun w hm hc => ?_⟩
    · unfold State.dwellDrop at hm
      rw [vmod_self] at hm
      exact (List.mem_filter.1 hm).1
    · unfold State.dwellDrop
      rw [vmod_self]
      exact List.mem_filter.2 ⟨hm, by simp [hc]⟩


section

/-! SUPPORT. Writes of Flock records and what a restore leaves (O34). -/

namespace Sys2Proof.Machine

section FlockWrites
variable {s : State} {f g : Nat} {r : FlockRec} {c : FlockCfg}

theorem State.recOf_lookup (s : State) (f g : Nat) : (s.lookup f).recOf g = s.recOf g := by
  unfold State.lookup
  split
  · rfl
  · dsimp only
    split <;> rfl

theorem State.rev_lookup (s : State) (f : Nat) : (s.lookup f).rev = s.rev := by
  unfold State.lookup
  split
  · rfl
  · dsimp only
    split <;> rfl

theorem State.flockCfgWrite_accepted {v : List Int} (hf : f < 2 ^ 20) (hl : v.length = 9) (hv : fieldsOk flockCfgFields v = true)
    (hc : s.flockCfgCheck f (FlockCfg.ofFields v) = 0) :
    s.flockCfgWrite f v = (s.flockCfgPut f (FlockCfg.ofFields v)).bumpRev Obj.FLOCK_CFG :=
  if_neg (by simpa [hl, hv, hc] using hf)

theorem State.flockCfgPut_new (hr : s.recOf f = none) (hc : c.cls ≠ 0) : s.flockCfgPut f c = (s.setRec f (newRec c)).lookup f := by
  unfold State.flockCfgPut
  rw [hr]
  exact if_neg hc

theorem State.flockCfgPut_change (hr : s.recOf f = some r) (hc : c.cls ≠ 0) : s.flockCfgPut f c = (s.setRec f (r.withCfg c)).lookup f := by
  unfold State.flockCfgPut
  rw [hr]
  exact if_neg hc

theorem State.flockCfgPut_nothing (hr : s.recOf f = none) (hc : c.cls = 0) : s.flockCfgPut f c = s := by
  unfold State.flockCfgPut
  rw [hr]
  exact if_pos hc

theorem FlockRec.withCfg_same (he : r.cfg.eui = c.eui) (hk : r.cfg.keyEpoch = c.keyEpoch) :
    r.withCfg c = { r with cfg := c, dirty := true } := by
  unfold FlockRec.withCfg
  rw [if_pos ⟨he, hk⟩]

theorem FlockRec.withCfg_rekeyed (h : r.cfg.eui ≠ c.eui ∨ r.cfg.keyEpoch ≠ c.keyEpoch) :
    r.withCfg c = { r with cfg := c, dirty := true, ctr := ⟨0, 0, 0, 0, false⟩ } := by
  unfold FlockRec.withCfg
  rw [if_neg (by tauto)]
  rfl

theorem State.recOf_lookup_setRec (s : State) (f : Nat) (r : FlockRec) : ((s.setRec f r).lookup f).recOf f = some r := by
  rw [State.recOf_lookup, State.recOf_setRec_self]

theorem State.recOf_lookup_setRec_ne (h : g ≠ f) : ((s.setRec f r).lookup f).recOf g = s.recOf g := by
  rw [State.recOf_lookup, State.recOf_setRec_ne h]

theorem State.flockRestore_refused {v : List Int}
    (h : 2 ^ 20 ≤ f ∨ v.length ≠ 46 ∨ fieldsOk flockTableFields v = false ∨ s.restoreCheck f (FlockRec.ofFields v) ≠ 0) :
    s.flockRestore f v = s := if_pos h

theorem State.flockRestore_accepted {v : List Int} (hf : f < 2 ^ 20) (hl : v.length = 46) (hv : fieldsOk flockTableFields v = true)
    (hc : s.restoreCheck f (FlockRec.ofFields v) = 0) : s.flockRestore f v = (s.restorePut f (FlockRec.ofFields v)).accept Obj.FLOCK_RESTORE
      (((f : Int) :: restoreMask v) :: (s.cfgVal Obj.FLOCK_RESTORE).filter fun e => e.head? != some (f : Int)) :=
  if_neg (by simpa [hl, hv, hc] using hf)

/-- A record whose counters have the margin added. -/
def FlockRec.withMargin (r : FlockRec) (m : Nat) : FlockRec :=
  { r with ctr := { r.ctr with own := min ctrMax (r.ctr.own + m), district := min ctrMax (r.ctr.district + m) } }

/-- The state in which a record is no longer known as bad. -/
def State.good (s : State) (f : Nat) : State := { s with flock := { s.flock with bad := s.flock.bad.filter (· ≠ f) } }

theorem State.restoreStale_detached (hr : s.recOf f = some r) (hl : r.link.st = 0) : s.restoreStale f r = s := by
  unfold State.restoreStale
  rw [if_neg fun h => h.1 hl]
  unfold State.resyncCheck
  rw [hr]
  exact if_neg fun h => by rw [hl] at h; exact absurd h.1 (by decide)

theorem State.restorePut_detached (hc : r.cfg.cls ≠ 0) (hl : r.link.st = 0)
    (ho : (r.withMargin (s.cfgN Obj.LINK_CTR_MARGIN)).ctr.own < 0xFFFFF000) :
    s.restorePut f r = ((s.good f).setRec f (r.withMargin (s.cfgN Obj.LINK_CTR_MARGIN))).lookup f := by
  unfold State.restorePut
  rw [if_neg hc]
  extract_lets m _ r' s' s1
  refine (congrArg (fun x : State => x.restoreStale f r') (if_pos ho)).trans ?_
  exact State.restoreStale_detached (State.recOf_lookup_setRec ..) hl

theorem FlockRec.withMargin_own {m : Nat} (h : r.ctr.own + m < 0xFFFFF000) : (r.withMargin m).ctr.own = r.ctr.own + m :=
  min_eq_right (h.le.trans (by decide))

end FlockWrites

theorem exec_flockCfgWrite (f : Nat) (v : List Int) (s : State) : exec (.flockCfgWrite f v) s = .next (s.flockCfgWrite f v) := rfl
theorem exec_flockRestore (f : Nat) (v : List Int) (s : State) : exec (.flockRestore f v) s = .next (s.flockRestore f v).settled := rfl

end Sys2Proof.Machine

end

open Sys2Proof.Machine
/-- Settles O34. -/
theorem flockWritesComplete : Obligations.FlockWritesComplete := by
  unfold Obligations.FlockWritesComplete
  simp only [exec_flockCfgWrite, exec_flockRestore]
  refine ⟨?refused, ?write, ?restoreRefused, ?restore⟩
  case refused =>
    intro s f v h
    exact congrArg _ (if_pos h)
  case write =>
    intro s f v hf hl hv hc
    rw [State.flockCfgWrite_accepted hf hl hv hc]
    refine ⟨fun hcls hr => ?_, fun o hcls hr => ?_, fun hcls hr => ?_⟩
    · rw [State.flockCfgPut_new hr hcls]
      refine ⟨_, _, rfl, State.recOf_lookup_setRec .., rfl, rfl, rfl, rfl, fun j hj => State.recOf_lookup_setRec_ne hj, ?_⟩
      exact State.bumpRev_rev_congr _ (State.rev_lookup ..)
    · rw [State.flockCfgPut_change hr hcls]
      exact ⟨_, _, rfl, State.recOf_lookup_setRec .., fun he hk => FlockRec.withCfg_same he hk,
        fun h => FlockRec.withCfg_rekeyed h,
        fun j hj => State.recOf_lookup_setRec_ne hj⟩
    · rw [State.flockCfgPut_nothing hr hcls]
  case restoreRefused =>
    intro s f v h
    rw [State.flockRestore_refused h]
  case restore =>
    intro s f v hf hl hv hc hcls hst hown
    have ho := FlockRec.withMargin_own hown
    rw [State.flockRestore_accepted hf hl hv hc, State.restorePut_detached hcls hst (by rw [ho]; exact hown)]
    exact ⟨_, _, rfl, State.recOf_lookup_setRec .., rfl, rfl, ho, fun j hj => State.recOf_lookup_setRec_ne hj⟩

section

/-! SUPPORT. The record cache, held requests, chorus attempts and cancelled transactions (O35). -/

namespace Sys2Proof.Machine

section Cache
variable {s : State} {f : Nat}

theorem State.prefetch_empty (h : s.flock.recs = []) : s.prefetch = s := by
  unfold State.prefetch
  rw [h]
  rfl

theorem State.prefetch_one {r : FlockRec} (h : s.flock.recs = [(f, r)]) (hw : s.worksSoon f r = true)
    (hc : s.flock.cache.contains f = false) : s.prefetch = s.lookup f := by
  unfold State.prefetch
  rw [h]
  exact if_pos (by rw [hw, hc]; rfl)

theorem State.fetchDone_idle (h : s.flock.fetching.contains f = false) : s.fetchDone f = s := if_pos (by rw [h]; rfl)

theorem State.fetchDone_enters (h : s.flock.fetching.contains f = true) (he : s.extMem = true) (hr : (s.recOf f).isSome = true)
    (hc : s.flock.cache.contains f = false) (hl : s.flock.cache.length < s.flockLines) :
    s.fetchDone f = { s with flock := { s.flock with fetching := s.flock.fetching.erase f, cache := f :: s.flock.cache } } := by
  unfold State.fetchDone
  rw [if_neg (by rw [h]; decide)]
  extract_lets _ u
  have hr' : (u.recOf f).isNone = false := by
    rw [← Option.not_isSome, show u.recOf f = s.recOf f from rfl, hr]
    rfl
  rw [if_neg (by rw [hr', show u.extMem = s.extMem from rfl, he, show u.flock.cache = s.flock.cache from rfl, hc]; decide)]
  exact if_pos hl

theorem State.fetchLate_cached (h : s.flock.cache.contains f = true) : s.fetchLate f = s := if_pos h

theorem State.fetchLate_idle (h : s.flock.cache.contains f = false)
    (ht : s.mesh.txns.filter (fun t => t.flock == f && t.st == .booked) = []) : s.fetchLate f = s.count Obj.FLOCK_LATE_FETCH := by
  unfold State.fetchLate
  rw [h, if_neg Bool.false_ne_true]
  exact congrArg (fun l : List Txn => l.foldl (fun s t => (s.dropCmds t.id).putTxn { t with st := .queued, stage := 0, ms := 0 })
    (s.count Obj.FLOCK_LATE_FETCH)) ht

end Cache

section Requests
variable {s u : State} {id : Nat} {q q1 : DelReq} {t : Txn} {c : ChorusReq} {n : Nat}

theorem State.heldDeadline_none (h : s.reqOf id = none) : s.heldDeadline id = s := by
  unfold State.heldDeadline
  rw [h]

theorem State.heldDeadline_booked (h : s.reqOf id = some q) (ht : q.txn.isSome = true) : s.heldDeadline id = s := by
  unfold State.heldDeadline
  rw [h]
  exact if_pos ht

theorem State.heldDeadline_held (h : s.reqOf id = some q) (ht : q.txn = none) : s.heldDeadline id
    = (s.toAir q.deadline).completeReq q (if ((s.toAir q.deadline).routeTo q.flock).isNone then 0x34 else 0x27) false 0 := by
  unfold State.heldDeadline
  rw [h]
  exact if_neg (by rw [ht]; exact Bool.false_ne_true)

theorem State.chorusAttempt_none (h : s.txnOf id = none) : s.chorusAttempt id = s := by
  unfold State.chorusAttempt
  rw [h]

theorem State.chorusAttempt_slot (h : s.txnOf id = some t) (hq : t.req.bind s.reqOf = some q) (hc : q.chorus = some c)
    (hst : t.st = .queued) (hm : q.made < c.attempts) (hn : s.chorusSlot c q.made = some n) : s.chorusAttempt id = s.chorusTry t q c n := by
  unfold State.chorusAttempt
  rw [h]
  dsimp only
  rw [hq]
  dsimp only
  rw [hc]
  dsimp only
  rw [if_neg fun hx => hx.elim (fun hx => hx hst) hm.not_ge, hn]

/-- An attempt whose slot lies within the deadline and still ahead is checked, then booked or skipped. -/
theorem State.chorusTry_checked (hq : q1 = { q with made := q.made + 1 })
    (hu : u = (s.toAir (n * s.tSlot + 1000 * usHalfNs - 220 * usHalfNs)).putReq q1) (hd : s.chorusStart n ≤ t.deadline)
    (ha : u.air + 48 * usHalfNs ≤ s.chorusStart n) : s.chorusTry t q c n = match (u.yieldBlocks n).chorusCheck q1 c n with
      | .inl reason => u.chorusEnd t (skipBase + reason)
      | .inr (p, khz) => (u.yieldBlocks n).chorusBook t q1 c p khz n ((u.chorusCtr n 0).getD 0) ((u.chorusCtr n 1).getD 0) := by
  subst hq hu
  unfold State.chorusTry
  rw [if_neg hd.not_gt]
  exact if_neg (fun h => absurd h (not_lt_of_ge ha))

theorem State.txnCancel_none (h : s.txnOf id = none) : s.txnCancel id = s := by
  unfold State.txnCancel
  rw [h]

theorem State.txnCancel_onAir (h : s.txnOf id = some t) (hst : t.st = .onAir ∨ t.st = .awaitReply) : s.txnCancel id = s := by
  unfold State.txnCancel
  rw [h]
  exact if_pos hst

theorem State.txnCancel_hostData (h : s.txnOf id = some t) (hst : t.st = .queued) (hk : t.kind = .hostData) :
    s.txnCancel id = s.endTxn t 0x28 := by
  unfold State.txnCancel
  rw [h]
  dsimp only
  rw [if_neg (by rw [hst]; decide), hk]

end Requests

theorem exec_flockPrefetch (s : State) : exec .flockPrefetch s = .next s.prefetch := rfl
theorem exec_flockFetchDone (f : Nat) (s : State) : exec (.flockFetchDone f) s = .next (s.fetchDone f) := rfl
theorem exec_flockFetchLate (f : Nat) (s : State) : exec (.flockFetchLate f) s = .next (s.fetchLate f) := rfl
theorem exec_heldRequestDeadline (id : Nat) (s : State) : exec (.heldRequestDeadline id) s = .next (s.heldDeadline id) := rfl
theorem exec_chorusAttempt (id : Nat) (s : State) : exec (.chorusAttempt id) s = .next (s.chorusAttempt id).settled := rfl
theorem exec_linkTxnCancel (id : Nat) (s : State) : exec (.linkTxnCancel id) s
    = .next (if id < 512 then ((s.txnCancel id).bumpRev Obj.LINK_TXN_CANCEL).settled else s) := rfl

end Sys2Proof.Machine

end

open Sys2Proof.Machine
/-- Settles O35. -/
theorem flockCacheAndRequests : Obligations.FlockCacheAndRequests := by
  unfold Obligations.FlockCacheAndRequests
  simp only [exec_flockPrefetch, exec_flockFetchDone, exec_flockFetchLate, exec_heldRequestDeadline, exec_chorusAttempt, exec_linkTxnCancel]
  refine ⟨⟨?noRecs, ?prefetch, ?notFetched, ?fetched, ?inTime, ?late⟩, ?noReq, ?booked, ?held, ?noAttempt, ?noTxn, ?badId, ?attempt,
    ?cancel, ?onAir⟩
  case noRecs =>
    intro s h
    rw [State.prefetch_empty h]
  case prefetch =>
    intro s f r h hw hc
    rw [State.prefetch_one h hw hc]
  case notFetched =>
    intro s f h
    rw [State.fetchDone_idle h]
  case fetched =>
    intro s f h he hr hc hl
    rw [State.fetchDone_enters h he hr hc hl]
  case inTime =>
    intro s f h
    rw [State.fetchLate_cached h]
  case late =>
    intro s f h ht
    rw [State.fetchLate_idle h ht]
  case noReq =>
    intro s id h
    rw [State.heldDeadline_none h]
  case booked =>
    intro s id q h ht
    rw [State.heldDeadline_booked h ht]
  case held =>
    intro s id q h ht
    rw [State.heldDeadline_held h ht]
  case noAttempt =>
    intro s id h
    rw [State.chorusAttempt_none h]
  case noTxn =>
    intro s id h hid
    rw [if_pos hid, State.txnCancel_none h]
  case badId =>
    intro s id hid
    rw [if_neg hid.not_gt]
  case attempt =>
    intro s u id n t q q1 c h hq hc hst hm hn hq1 hu hd ha
    rw [State.chorusAttempt_slot h hq hc hst hm hn, State.chorusTry_checked hq1 hu hd ha]
    exact ⟨fun p khz hk => by rw [hk], fun reason hk => by rw [hk]⟩
  case cancel =>
    intro s id t hid h hst hk
    rw [if_pos hid, State.txnCancel_hostData h hst hk]
  case onAir =>
    intro s id t hid h hst
    rw [if_pos hid, State.txnCancel_onAir h hst]


section

/-! SUPPORT. The slots of node images and the course of a campaign (O36). -/

namespace Sys2Proof.Machine

section Images
variable {s : State}

theorem State.imageBegin_accepted {v : Nat} (hd : s.domServes 3 = true) (hl : v % 2 ^ 21 ≤ 1048576) (hb : s.imageBusy (beginSlot v) = false) :
    s.imageBegin v = (s.imageBeginPut v).accept Obj.FL_IMAGE_BEGIN (scalar v) := by
  refine if_pos ⟨hd, ?_⟩
  unfold State.imageBeginCheck
  rw [if_neg hl.not_gt, hb]
  rfl

theorem State.imageBegin_refused {v : Nat} (h : s.domServes 3 = false ∨ 1048576 < v % 2 ^ 21 ∨ s.imageBusy (beginSlot v) = true) :
    s.imageBegin v = s := by
  refine if_neg ?_
  rintro ⟨hd, hc⟩
  unfold State.imageBeginCheck at hc
  rcases h with h | h | h
  · rw [h] at hd
    exact Bool.false_ne_true hd
  · rw [if_pos h] at hc
    exact absurd hc (by decide)
  · rw [h, if_pos rfl] at hc
    split_ifs at hc

theorem State.image_imageBeginPut (s : State) (v : Nat) : (s.imageBeginPut v).flock.image[beginSlot v] = ⟨1, 0, v % 2 ^ 21, []⟩ :=
  vmod_self s.flock.image (beginSlot v) _

theorem State.image_imageBeginPut_ne {k : Fin 8} {v : Nat} (h : k ≠ beginSlot v) : (s.imageBeginPut v).flock.image[k] = s.flock.image[k] :=
  vmod_ne s.flock.image h _

/-- The image of the slot that is staged. -/
theorem State.image_slot {k : Fin 8} (h : s.flock.imageSlot < 8) (hk : s.flock.imageSlot = k.val) :
    s.flock.image[(⟨s.flock.imageSlot, h⟩ : Fin 8)] = s.flock.image[k] :=
  congrArg (fun j : Fin 8 => s.flock.image[j]) (Fin.ext hk)

theorem State.imageStage_accepted {k : Fin 8} {data : Bytes} (hd : s.domServes 3 = true) (hk : s.flock.imageSlot = k.val)
    (h1 : (s.flock.image[k]).st = 1) (hl : (s.flock.image[k]).content.length + data.length ≤ 1048576) (hb : s.imageBusy k = false) :
    s.imageStage (s.flock.image[k]).content.length data
      = (s.modImage k fun x => { x with content := x.content ++ data }).bumpRev Obj.FL_IMAGE_STAGE := by
  have hlt : s.flock.imageSlot < 8 := by rw [hk]; exact k.isLt
  have he : (⟨s.flock.imageSlot, hlt⟩ : Fin 8) = k := Fin.ext hk
  have hc : s.imageStageCheck (s.flock.image[k]).content.length data = 0 := by
    unfold State.imageStageCheck
    rw [dif_pos hlt, State.image_slot hlt hk]
    dsimp only
    rw [if_neg (by rintro (h | h | h); exacts [h h1, h rfl, absurd h hl.not_gt]), hk, hb]
    rfl
  have hp : s.imageStagePut data = s.modImage k fun x => { x with content := x.content ++ data } := by
    unfold State.imageStagePut
    rw [dif_pos hlt, he]
  unfold State.imageStage
  rw [if_pos ⟨hd, hc⟩, hp]

theorem State.imageStage_misplaced {k : Fin 8} {offset : Nat} {data : Bytes} (hk : s.flock.imageSlot = k.val)
    (ho : offset ≠ (s.flock.image[k]).content.length) : s.imageStage offset data = s := by
  have hlt : s.flock.imageSlot < 8 := by rw [hk]; exact k.isLt
  have hc : s.imageStageCheck offset data = 6 := by
    unfold State.imageStageCheck
    rw [dif_pos hlt, State.image_slot hlt hk]
    exact if_pos (Or.inr (Or.inl ho))
  exact if_neg fun h => absurd (hc.symm.trans h.2) (by decide)

theorem State.imageVerify_accepted {n : Nat} (hd : s.domServes 3 = true) (hn : n ≤ 7) (hb : s.imageBusy n = false) :
    s.imageVerify n = (s.imageVerifyPut n).bumpRev Obj.FL_IMAGE_VERIFY := by
  refine if_pos ⟨hd, ?_⟩
  unfold State.imageVerifyCheck
  rw [if_neg hn.not_gt, hb]
  rfl

end Images

section Campaigns
variable {s u : State} {n : Fin 4}

theorem fin_mod_four (n : Fin 4) (h : n.val % 4 < 4) : (⟨n.val % 4, h⟩ : Fin 4) = n := Fin.ext (Nat.mod_eq_of_lt n.isLt)

theorem State.campStart_refused {n : Nat} (h : s.campStartCheck n ≠ 0) : s.campStart n = s := if_neg h

theorem State.campStart_accepted (h : s.campStartCheck n = 0) :
    s.campStart n = (s.campStartPut n).accept Obj.FL_CAMPAIGN_START (scalar (n.val : Nat)) := by
  unfold State.campStart
  rw [if_pos h, fin_mod_four]

theorem State.campStop_running (h : (s.flock.camp[n]).runs = true) :
    s.campStop n = (s.campEnd n 5 0).accept Obj.FL_CAMPAIGN_STOP (scalar (n.val : Nat)) := by
  have hn : ¬(3 < n.val) := by omega
  have hp : s.campStopPut n = s.campEnd n 5 0 := if_pos h
  unfold State.campStop
  rw [if_neg hn, fin_mod_four, hp]

theorem State.campStop_unknown {n : Nat} (h : 3 < n) : s.campStop n = s := if_pos h

theorem State.runs_campReview (h : (s.flock.camp[n]).runs = false) : ((s.campReview n).flock.camp[n]).runs = false := by
  unfold State.campReview
  extract_lets c ms s1
  have hc : ¬(c.runs = true ∧ (ms.all fun m => m.st != 1) = true) := by
    rintro ⟨hr, -⟩
    exact Bool.false_ne_true (h.symm.trans hr)
  rw [if_neg hc]
  exact (congrArg Campaign.runs (vmod_self s.flock.camp n _)).trans h

theorem State.campBlock_stopped (h : (s.flock.camp[n]).runs = false) : s.campBlock n = s.campReview n := by
  unfold State.campBlock
  exact dif_neg fun hr => Bool.false_ne_true ((State.runs_campReview h).symm.trans hr.1)

/-- The slot of a campaign's block, where the first one is still ahead. -/
theorem firstBlock_slot {now tSf tSlot first period field lead : Nat} (ha : now ≤ (first * 64 + field) * tSlot + lead)
    (hs : now / tSf ≤ first) : (first + (if now ≤ ((first + (now / tSf - first) / period * period) * 64 + field) * tSlot + lead
      then (now / tSf - first) / period else (now / tSf - first) / period + 1) * period) * 64 + field = first * 64 + field := by
  have h0 : (now / tSf - first) / period = 0 := by rw [Nat.sub_eq_zero_of_le hs, Nat.zero_div]
  rw [h0, Nat.zero_mul, Nat.add_zero, if_pos ha, Nat.zero_mul, Nat.add_zero]

/-- A running campaign sends its next block at its first slot, where another block follows it. -/
theorem State.campBlock_sends (h : fieldAt (s.flock.camp[n]).cfg 1 < 6) {k b : Nat} (hrev : s.campReview n = s)
    (hr : (s.flock.camp[n]).runs = true) (hk : k = (s.flock.camp[n]).firstAsn * 64 + fieldAt (s.flock.camp[n]).cfg 2)
    (ha : s.air + 220 * usHalfNs ≤ k * s.tSlot + 1000 * usHalfNs) (hs : (s.air + 220 * usHalfNs) / s.tSf ≤ (s.flock.camp[n]).firstAsn)
    (hu : u = s.toAir (k * s.tSlot + 1000 * usHalfNs - 220 * usHalfNs)) (he : u.extMem = true) (hsec : u.secServes = true)
    (hd : u.domOn (pathDomain ⟨fieldAt (s.flock.camp[n]).cfg 1, h⟩) = true) (hch : u.chorusInSlot k = false)
    (hb : (u.flock.camp[n]).nextBlock ((u.flock.camp[n]).blocks + 1) (u.flock.camp[n]).next = some b)
    (hnext : (let v := u.sendBlock n ⟨fieldAt (s.flock.camp[n]).cfg 1, h⟩ k b;
      (v.flock.camp[n]).nextBlock ((v.flock.camp[n]).blocks + 1) (b + 1)).isSome = true) :
    s.campBlock n = u.sendBlock n ⟨fieldAt (s.flock.camp[n]).cfg 1, h⟩ k b := by
  unfold State.campBlock
  extract_lets s0 c now period at_ sf k0 k' slot s' c'
  have hs0 : s0 = s := hrev
  have hc : c = s.flock.camp[n] := congrArg (fun t : State => t.flock.camp[n]) hrev
  rw [dif_pos (⟨hc ▸ hr, hc ▸ h⟩ : c.runs = true ∧ fieldAt c.cfg 1 < 6)]
  extract_lets p
  have hp : p = ⟨fieldAt (s.flock.camp[n]).cfg 1, h⟩ := Fin.ext (congrArg (fun x : Campaign => fieldAt x.cfg 1) hc)
  clear_value p
  clear_value c
  clear_value s0
  subst hs0 hc hp
  have hslot : slot = k := (firstBlock_slot (hk ▸ ha) hs).trans hk.symm
  have hs' : s' = u := by
    rw [hu, ← hslot]
  clear_value slot s'
  subst hslot hs'
  rw [if_neg (by rw [he, hsec, hch, hd]; decide), show c'.nextBlock (c'.blocks + 1) c'.next = some b from hb]
  refine if_neg fun hend => ?_
  have hnone := Option.isNone_iff_eq_none.1 hend.2
  dsimp only at hnext
  rw [hnone] at hnext
  exact Bool.false_ne_true hnext

end Campaigns

theorem exec_flImageBegin (v : Nat) (s : State) : exec (.flImageBegin v) s = .next (s.imageBegin v) := rfl
theorem exec_flImageStage (offset : Nat) (data : Bytes) (s : State) : exec (.flImageStage offset data) s
    = .next (s.imageStage offset data) := rfl
theorem exec_flImageVerify (n : Nat) (s : State) : exec (.flImageVerify n) s = .next (s.imageVerify n) := rfl
theorem exec_flCampaignStart (n : Nat) (s : State) : exec (.flCampaignStart n) s = .next (s.campStart n).settled := rfl
theorem exec_flCampaignStop (n : Nat) (s : State) : exec (.flCampaignStop n) s = .next (s.campStop n).settled := rfl
theorem exec_campaignBlock (n : Fin 4) (s : State) : exec (.campaignBlock n) s = .next (s.campBlock n).settled := rfl

end Sys2Proof.Machine

end

open Sys2Proof.Machine
/-- Settles O36. -/
theorem imagesAndCampaigns : Obligations.ImagesAndCampaigns := by
  unfold Obligations.ImagesAndCampaigns
  simp only [exec_flImageBegin, exec_flImageStage, exec_flImageVerify, exec_flCampaignStart, exec_flCampaignStop, exec_campaignBlock]
  refine ⟨?begin, ?beginRefused, ?stage, ?misplaced, ?verify, ?startRefused, ?start, ?stop, ?stopUnknown, ?stopped, ?block⟩
  case begin =>
    intro s v hd hl hb
    rw [State.imageBegin_accepted hd hl hb]
    exact ⟨_, rfl, State.image_imageBeginPut .., rfl, fun k hk => State.image_imageBeginPut_ne hk, State.actOf_flashOp .., rfl⟩
  case beginRefused =>
    intro s v h
    rw [State.imageBegin_refused h]
  case stage =>
    intro s k data hd hk h1 hl hb
    rw [State.imageStage_accepted hd hk h1 hl hb]
    rfl
  case misplaced =>
    intro s k offset data hk ho
    rw [State.imageStage_misplaced hk ho]
  case verify =>
    intro s n hd hn hb
    rw [State.imageVerify_accepted hd hn hb]
    rfl
  case startRefused =>
    intro s n h
    rw [State.campStart_refused h]
  case start =>
    intro s n h
    rw [State.campStart_accepted h]
  case stop =>
    intro s n h
    rw [State.campStop_running h]
  case stopUnknown =>
    intro s n h
    rw [State.campStop_unknown h]
  case stopped =>
    intro s n h
    rw [State.campBlock_stopped h]
  case block =>
    intro s u n h k b hrev hr hk ha hs hu he hsec hd hch hb hnext
    rw [State.campBlock_sends h hrev hr hk ha hs hu he hsec hd hch hb hnext]


section

/-! SUPPORT. Interrupts, ring settings and the descriptors that the device fetches (O38). -/

namespace Sys2Proof.Machine

/-! ### Bits that a write of 1 clears -/

theorem sub_and_eq_ldiff (a m : Nat) : a - (a &&& m) = Nat.ldiff a m := by
  induction a using Nat.binaryRec' generalizing m with
  | zero => exact Nat.eq_of_testBit_eq fun i => by simp [Nat.testBit_ldiff]
  | bit b a _ ih =>
    obtain ⟨c, m', rfl⟩ : ∃ c m', m = Nat.bit c m' := ⟨_, _, (Nat.bit_testBit_zero_shiftRight_one m).symm⟩
    have hle : a &&& m' ≤ a := Nat.and_le_left
    rw [Nat.land_bit, Nat.ldiff_bit, ← ih m']
    cases b <;> cases c <;> simp only [Nat.bit_val, Bool.and_true, Bool.and_false, Bool.not_true, Bool.not_false,
      Bool.toNat_true, Bool.toNat_false] <;> omega

theorem testBit_sub_and (a m b : Nat) : (a - (a &&& m)).testBit b = (a.testBit b && !m.testBit b) := by
  rw [sub_and_eq_ldiff, Nat.testBit_ldiff]

section Settings
variable {s : State} {n : Fin 6} {v : List Int}

theorem State.irqClear_serves (h : s.hostServes = true) (m : Nat) : s.irqClear m =
    { s with
      host := { s.host with irqStatus := s.host.irqStatus - (s.host.irqStatus &&& m) }
      outbox := if (s.host.irqStatus - (s.host.irqStatus &&& m)) &&& s.host.irqEnable ≠ 0 ∧ s.host.busMaster = true then .msix 0 :: s.outbox
        else s.outbox } := by
  unfold State.irqClear
  rw [if_neg (by rw [h]; decide)]
  dsimp only
  split_ifs <;> rfl

theorem State.ringCfgWrite_refused (h : s.ringCfgCheck n v ≠ 0) (b : Bool) :
    s.ringCfgWrite n v b = if b then s.count Obj.RING_CFG_REJECTS else s := if_neg h

theorem State.ringCfgWrite_accepted (h : s.ringCfgCheck n v = 0) (b : Bool) :
    s.ringCfgWrite n v b = (s.ringCfgPut n v).bumpRev Obj.RING_CFG := if_pos h

/-- The list of ring settings with one element written. -/
def State.putRingCfg (s : State) (n : Fin 6) (v : List Int) : State := s.cfgPut Obj.RING_CFG ((s.cfgVal Obj.RING_CFG).set n v)

theorem State.ringCfg_putRingCfg (hwf : s.cfg.wf = true) (hn : n.val < (s.cfgVal Obj.RING_CFG).length) (f : Nat) :
    (s.putRingCfg n v).ringCfg n f = ((v[f]?).getD 0).toNat := by
  have hv : (s.putRingCfg n v).cfgVal Obj.RING_CFG = (s.cfgVal Obj.RING_CFG).set n v :=
    (s.cfgVal_cfgPut _ _ _ hwf).trans (if_pos rfl)
  unfold State.ringCfg State.cfgN valN
  rw [hv, List.getElem?_set_self hn]
  rfl

theorem State.ringCfg_putRingCfg_beyond (hwf : s.cfg.wf = true) (hn : (s.cfgVal Obj.RING_CFG).length ≤ n.val) (f : Nat) :
    (s.putRingCfg n v).ringCfg n f = s.ringCfg n f := by
  have hv : (s.putRingCfg n v).cfgVal Obj.RING_CFG = (s.cfgVal Obj.RING_CFG).set n v :=
    (s.cfgVal_cfgPut _ _ _ hwf).trans (if_pos rfl)
  unfold State.ringCfg State.cfgN
  rw [hv, List.set_eq_of_length_le hn]

/-- A setting that leaves ENABLE as it is only enters the running configuration. -/
theorem State.ringCfgPut_sameEnable (hwf : s.cfg.wf = true) (h : ((v[4]?).getD 0).toNat = s.ringCfg n 4) :
    s.ringCfgPut n v = s.putRingCfg n v := by
  have hsame : (s.putRingCfg n v).ringCfg n 4 = s.ringCfg n 4 := by
    rcases lt_or_ge n.val (s.cfgVal Obj.RING_CFG).length with hn | hn
    · rw [State.ringCfg_putRingCfg hwf hn, h]
    · exact State.ringCfg_putRingCfg_beyond hwf hn 4
  unfold State.ringCfgPut
  extract_lets was s1
  have hs : s1.ringCfg n 4 = was := hsame
  rw [hs, if_neg (by omega : ¬(was = 0 ∧ was = 1)), if_neg (by omega : ¬(was = 1 ∧ was = 0)), ite_self]
  rfl

/-- A setting that enables a ring other than ring 1 starts it empty. -/
theorem State.ringCfgPut_enables (hwf : s.cfg.wf = true) (h1 : n.val ≠ 1) (hd : s.domServes 4 = true)
    (hn : n.val < (s.cfgVal Obj.RING_CFG).length) (h0 : s.ringCfg n 4 = 0) (hv : v[4]? = some 1) :
    s.ringCfgPut n v = (s.putRingCfg n v).setRing n ⟨1, 0, 0, 0, 0, none⟩ := by
  have hon : (s.putRingCfg n v).ringCfg n 4 = 1 := by
    rw [State.ringCfg_putRingCfg hwf hn, hv]
    rfl
  unfold State.ringCfgPut
  extract_lets was s1
  have hs : (!s1.domServes 4) = false := by
    rw [show s1.domServes 4 = s.domServes 4 from rfl, hd]
    rfl
  rw [hs, if_neg Bool.false_ne_true, if_pos (⟨h0, hon⟩ : was = 0 ∧ s1.ringCfg n 4 = 1)]
  exact if_neg h1

theorem State.moderation_none (h : s.host.ring[n].modSince = none) : s.moderation n = s := by
  unfold State.moderation
  rw [h]

theorem State.moderation_some {since : Nat} (h : s.host.ring[n].modSince = some since) (hs : s.hostServes = true)
    (hb : s.host.busMaster = true) (hr : s.host.ring[n].st ≠ 0) :
    s.moderation n = (s.toMono (since + s.ringCfg n 6 * usHalfNs)).signalRing n := by
  unfold State.moderation
  rw [h]
  exact if_neg (by rw [hs, hb]; simpa using hr)

theorem State.pcieConfig_retry (hs : s.hostServes = true) (hc : s.start.cfgServed = false) (l : Nat × Nat × Bool) (m : Option Bool) :
    s.pcieConfig l m = { s with host := { s.host with link := l }, outbox := .pcieConfig true :: s.outbox } := by
  unfold State.pcieConfig
  rw [if_neg (by rw [hs]; decide), hc]
  rfl

theorem State.pcieConfig_masterOff (hs : s.hostServes = true) (hc : s.start.cfgServed = true) (l : Nat × Nat × Bool) :
    s.pcieConfig l (some false) = { s with host := { s.host with link := l, busMaster := false }, outbox := .pcieConfig false :: s.outbox } := by
  unfold State.pcieConfig
  rw [if_neg (by rw [hs]; decide), hc]
  rfl

/-! ### The capture of the time bases -/

/-- The three words that a capture takes of a base. -/
def Base.captured (b : Base) : List Nat := [ts96 b.now, b.flags, b.st]

theorem length_captured (v : Vector Base 5) : (v.toList.flatMap Base.captured).length = 15 :=
  match v with
  | ⟨⟨[_, _, _, _, _]⟩, _⟩ => rfl

theorem getElem?_captured (v : Vector Base 5) (i : Fin 5) : (v.toList.flatMap Base.captured)[3 * i.val]? = some (ts96 v[i].now) :=
  match v with
  | ⟨⟨[_, _, _, _, _]⟩, _⟩ => by fin_cases i <;> rfl

theorem State.tsCapture_capture {v : Nat} (hv : v % 2 = 1) (hd : s.domOn 17 = true) : s.tsCapture v = s.modHost fun h => { h with
    capture := ((h.capture[0]?).getD 0 + 1) % 65536 :: s.mono % 2 ^ 64 :: s.time.base.toList.flatMap Base.captured } :=
  if_neg (by rw [hd, hv]; decide)

theorem State.tsCapture_none {v : Nat} (hv : v % 2 = 0) : s.tsCapture v = s := if_pos (Or.inr hv)

end Settings

section Descriptors
variable {s : State} {d data : Bytes} {ok : Bool} {id : Nat}

theorem State.fetch0_none (h : s.canFetch 0 = false) (buf : Nat) : s.fetch0 buf ok = (false, s) :=
  if_pos (Or.inl (by rw [h]; rfl))

/-- A descriptor of ring 0 that may be fetched: its access fails, its buffer is unaligned, or it is taken. -/
theorem State.fetch0_some (h : s.canFetch 0 = true) (hd : s.domGone 6 = false) (hr : s.hostTxns < s.hostRoom) (hi : s.freeTxn = some id)
    (buf : Nat) : s.fetch0 buf ok = if !ok then (false, s.ringError 0 0x41)
      else if buf % 64 ≠ 0 then (false, s.ringError 0 0x43) else (true, s.fetched 0) :=
  if_neg (by rw [h, hd, hi]; simpa using hr)

theorem State.delivery_stopped {u : State} (h : s.fetch0 (leAt d 8 8) ok = (false, u)) : s.delivery d data ok = u := by
  unfold State.delivery
  rw [h]

theorem State.delivery_taken {u : State} (h : s.fetch0 (leAt d 8 8) ok = (true, u)) : s.delivery d data ok
    = if u.deliveryOk d (u.reqFrom d data) then u.takeReq (u.reqFrom d data) else u.complete0 (leAt d 4 4) 0x40 (leAt d 16 4) := by
  unfold State.delivery
  rw [h]
  rfl

theorem State.legacyTx_stopped {u : State} (h : s.fetch0 (leAt d 8 8) ok = (false, u)) : s.legacyTx d data ok = u := by
  unfold State.legacyTx
  rw [h]
  rfl

theorem State.legacyTx_taken {u : State} (h : s.fetch0 (leAt d 8 8) ok = (true, u)) (hi : s.freeTxn = some id) : s.legacyTx d data ok
    = if s.legacyOk d then u.legacySend d data ⟨leAt d 20 1 % 6, by omega⟩ id else u.complete0 (leAt d 4 4) 0x40 0xFFFFFFFF := by
  unfold State.legacyTx
  rw [h, hi]
  rfl

theorem State.deliveryOk_eq_false {u : State} (h : leAt d 0 1 ≠ 1 ∨ leAt d 2 2 = 0 ∨ 1024 < leAt d 2 2 ∨ 3 < leAt d 20 1 ∨ 63 < leAt d 22 1) :
    s.deliveryOk d (u.reqFrom d data) = false := by
  have hp : (u.reqFrom d data).priority = leAt d 20 1 := rfl
  have hg : (u.reqFrom d data).gap = leAt d 22 1 := rfl
  unfold State.deliveryOk
  rw [hp, hg]
  rcases h with h | h | h | h | h
  · simp [h]
  · simp [h]
  · simp [h]
  · simp [h]
  · simp [h]

theorem State.buffer_idle (h : s.canFetch 2 = false ∨ 64 ≤ s.host.bufs.length) : s.buffer d ok = s :=
  if_pos (h.imp_left fun h => by rw [h]; rfl)

theorem State.buffer_fetched (h : s.canFetch 2 = true) (hl : s.host.bufs.length < 64) : s.buffer d ok
    = if !ok then s.ringError 2 0x41
      else if leAt d 0 1 ≠ 0x10 ∨ leAt d 2 2 ≠ 0 then s.ringError 2 0x40
      else if leAt d 8 8 % 64 ≠ 0 then s.ringError 2 0x43
      else ((s.fetched 2).modHost fun h => { h with bufs := h.bufs ++ [leAt d 8 8] }).drainRings :=
  if_neg (by rw [h]; simpa using hl)

/-- Rings of which none waits for space and no record is staged have nothing to drain. -/
theorem State.drainRings_idle (hs : s.host.staging = []) (hr : ∀ n : Fin 6, s.host.ring[n].st ≠ 2) : s.drainRings = s := by
  refine List.foldl_fixed' (fun n => ?_) _
  rw [hs, List.length_nil, State.drainRing, hs]
  exact if_neg (hr n)

theorem State.fetched_noWriteback (h : s.ringCfg 2 1 = 0) : s.fetched 2
    = s.setRing 2 { s.host.ring[(2 : Fin 6)] with cons := (s.host.ring[(2 : Fin 6)].cons + 1) % 2 ^ 32 } := if_pos h

/-- Ring 2 with its consumer index moved on waits no more than before. -/
theorem State.setRing_st_ne {r : Ring} {m : Fin 6} (hr : ∀ n : Fin 6, s.host.ring[n].st ≠ 2) (hst : r.st = s.host.ring[m].st) (n : Fin 6) :
    (s.setRing m r).host.ring[n].st ≠ 2 := by
  by_cases h : m = n
  · subst h
    rw [State.setRing_ring_same, hst]
    exact hr m
  · rw [State.setRing_ring_ne _ _ h]
    exact hr n

theorem State.buffer_kept (h : s.canFetch 2 = true) (hl : s.host.bufs.length < 64) (ht : leAt d 0 1 = 0x10) (h0 : leAt d 2 2 = 0)
    (ha : leAt d 8 8 % 64 = 0) (hs : s.host.staging = []) (hr : ∀ n : Fin 6, s.host.ring[n].st ≠ 2) (hw : s.ringCfg 2 1 = 0) :
    s.buffer d true = (s.setRing 2 { s.host.ring[(2 : Fin 6)] with cons := (s.host.ring[(2 : Fin 6)].cons + 1) % 2 ^ 32 }).modHost
      fun h => { h with bufs := h.bufs ++ [leAt d 8 8] } := by
  rw [State.buffer_fetched h hl, if_neg (by decide), if_neg (by rw [ht, h0]; decide), if_neg (by rw [ha]; decide), State.fetched_noWriteback hw]
  exact State.drainRings_idle hs (State.setRing_st_ne hr rfl)

end Descriptors

theorem exec_irqStatusWrite (m : Nat) (s : State) : exec (.irqStatusWrite m) s = .next (s.bar0Access 2 fun s => s.irqClear m) := rfl
theorem exec_ringCfgWrite (n : Fin 6) (v : List Int) (bar2 : Bool) (s : State) : exec (.ringCfgWrite n v bar2) s
    = .next (if bar2 then s.bar0Access 2 fun s => s.ringCfgWrite n v true else s.ringCfgWrite n v false).settled := rfl
theorem exec_ringModerationTimeout (n : Fin 6) (s : State) : exec (.ringModerationTimeout n) s = .next (s.moderation n) := rfl
theorem exec_pcieConfigRequest (link : Nat × Nat × Bool) (master : Option Bool) (s : State) : exec (.pcieConfigRequest link master) s
    = .next (s.pcieConfig link master) := rfl
theorem exec_tsCapture (v : Nat) (s : State) : exec (.tsCapture v) s = .next (s.bar0Access 8 fun s => s.tsCapture v) := rfl
theorem exec_delivery (d data : Bytes) (dmaOk : Bool) (s : State) : exec (.delivery d data dmaOk) s
    = .next (s.delivery d data dmaOk).settled := rfl
theorem exec_legacyTx (d data : Bytes) (dmaOk : Bool) (s : State) : exec (.legacyTx d data dmaOk) s
    = .next (s.legacyTx d data dmaOk).settled := rfl
theorem exec_buffer (d : Bytes) (dmaOk : Bool) (s : State) : exec (.buffer d dmaOk) s = .next (s.buffer d dmaOk) := rfl

end Sys2Proof.Machine

end

open Sys2Proof.Machine
/-- Settles O38. -/
theorem hostSettingsAndDescriptors : Obligations.HostSettingsAndDescriptors := by
  unfold Obligations.HostSettingsAndDescriptors
  simp only [exec_irqStatusWrite, exec_ringCfgWrite, exec_ringModerationTimeout, exec_pcieConfigRequest, exec_tsCapture, exec_delivery,
    exec_legacyTx, exec_buffer]
  refine ⟨⟨?irq, ?refused, ?accepted, ?noModeration, ?moderation, ?retry, ?masterOff, ?capture, ?noCapture⟩,
    ?noFetch, ?fetch, ?noBuffer, ?badBuffer, ?buffer⟩
  case irq =>
    intro s m hb hq
    rw [State.bar0Access_quiet _ _ _ hb hq, State.irqClear_serves (s.hostServes_of_barServes hb)]
    exact ⟨_, rfl, rfl, testBit_sub_and _ m, rfl⟩
  case refused =>
    intro s n v h
    refine ⟨?_, fun hb hq => ?_⟩
    · rw [if_neg Bool.false_ne_true, State.ringCfgWrite_refused h]
      rfl
    · rw [if_true, State.bar0Access_quiet _ _ _ hb hq, State.ringCfgWrite_refused h]
      rfl
  case accepted =>
    intro s n v b hwf hb h
    have hw : (if b = true then s.bar0Access 2 fun s => s.ringCfgWrite n v true else s.ringCfgWrite n v false)
        = (s.ringCfgPut n v).bumpRev Obj.RING_CFG := by
      split_ifs with hb'
      · obtain ⟨hs, hq⟩ := hb hb'
        rw [State.bar0Access_quiet _ _ _ hs hq, State.ringCfgWrite_accepted h]
      · rw [State.ringCfgWrite_accepted h]
    rw [hw]
    refine ⟨fun he => ?_, fun h1 hd hn h0 hv => ?_⟩
    · rw [State.ringCfgPut_sameEnable hwf he]
      rfl
    · rw [State.ringCfgPut_enables hwf h1 hd hn h0 hv]
      rfl
  case noModeration =>
    intro s n h
    rw [State.moderation_none h]
  case moderation =>
    intro s n since h hs hb hr
    rw [State.moderation_some h hs hb hr]
  case retry =>
    intro s l m hs hc
    rw [State.pcieConfig_retry hs hc]
  case masterOff =>
    intro s l hs hc
    rw [State.pcieConfig_masterOff hs hc]
  case capture =>
    intro s v hv hb hq hd
    rw [State.bar0Access_quiet _ _ _ hb hq, State.tsCapture_capture hv hd]
    refine ⟨_, rfl, rfl, ?_, rfl, rfl, fun b => ?_⟩
    · exact congrArg (· + 2) (length_captured s.time.base)
    · rw [← getElem?_captured s.time.base b, Nat.add_comm 2]
      rfl
  case noCapture =>
    rintro s v (h | ⟨hv, hq⟩)
    · rw [State.bar0Access_unserved _ _ _ h]
    · cases hb : s.barServes with
      | false => rw [State.bar0Access_unserved _ _ _ hb]
      | true => rw [State.bar0Access_quiet _ _ _ hb hq, State.tsCapture_none hv]
  case noFetch =>
    intro s d data ok h
    rw [State.delivery_stopped (State.fetch0_none h _), State.legacyTx_stopped (State.fetch0_none h _)]
    exact ⟨rfl, rfl⟩
  case fetch =>
    intro s d data id hc hd hr hi
    have hf (ok : Bool) := State.fetch0_some (ok := ok) hc hd hr hi (leAt d 8 8)
    refine ⟨?_, fun ha => ?_, fun ha => ?_⟩
    · rw [State.delivery_stopped (hf false), State.legacyTx_stopped (hf false)]
      exact ⟨rfl, rfl⟩
    · have hu := (hf true).trans (if_pos ha)
      rw [State.delivery_stopped hu, State.legacyTx_stopped hu]
      exact ⟨rfl, rfl⟩
    · have hu := (hf true).trans (if_neg (not_not_intro ha))
      rw [State.delivery_taken hu, State.legacyTx_taken hu hi]
      refine ⟨fun hbad => ?_, fun hok => ?_, fun hok => ?_, fun hbad => ?_⟩
      · rw [State.deliveryOk_eq_false hbad]
        rfl
      · rw [if_pos hok]
      · rw [if_pos hok]
      · rw [hbad]
        rfl
  case noBuffer =>
    intro s d ok h
    rw [State.buffer_idle h]
  case badBuffer =>
    intro s d h hl
    refine ⟨?_, fun hb => ?_, fun ht h0 ha => ?_⟩
    · rw [State.buffer_fetched h hl]
      rfl
    · rw [State.buffer_fetched h hl, if_neg (by decide), if_pos hb]
    · rw [State.buffer_fetched h hl, if_neg (by decide), if_neg (by rw [ht, h0]; decide), if_pos ha]
  case buffer =>
    intro s d h hl ht h0 ha hs hr hw
    rw [State.buffer_kept h hl ht h0 ha hs hr hw]
    rfl


section

/-! SUPPORT. Ethernet links and frames, the memory scrub and flash operations (O39). -/

namespace Sys2Proof.Machine

section Ethernet
variable {s : State} {e : Fin 2} {f : EthArg}

theorem State.ethLink_up (h : s.port.eth[e].up = false) (ho : s.ethOn e = true) : s.ethLink e true
    = State.raise { s with port := { s.port with eth := s.port.eth.set e { s.port.eth[e] with
        up := true, speed := ethSpeed (s.cfgN (inst Obj.ETH_MODE e)), measured := false } } }
      Ev.ETH_LINK_UP e (ethSpeed (s.cfgN (inst Obj.ETH_MODE e))) := by
  unfold State.ethLink
  rw [if_neg (by rw [h, ho]; decide)]
  rfl

theorem State.ethLink_down (h : s.port.eth[e].up = true) : s.ethLink e false
    = State.raise { s with port := { s.port with eth := s.port.eth.set e { s.port.eth[e] with up := false, speed := 0, measured := false } } }
      Ev.ETH_LINK_DOWN e 0 := by
  unfold State.ethLink
  rw [if_neg (by rw [h]; simp)]
  rfl

theorem State.ethLink_same {b : Bool} (h : s.port.eth[e].up = b) : s.ethLink e b = s := if_pos (Or.inl h)

theorem State.ethFrame_off (h : s.ethOn e = false ∨ s.port.eth[e].up = false) : s.ethFrame e f = s :=
  if_pos (h.imp (fun h => by rw [h]; rfl) fun h => by rw [h]; rfl)

theorem State.ethFrame_badFcs (ho : s.ethOn e = true) (hu : s.port.eth[e].up = true) (h : f.fcsOk = false) :
    s.ethFrame e f = s.count (inst Obj.ETH_COUNTS e) 2 := by
  unfold State.ethFrame
  dsimp only
  rw [if_neg (by rw [ho, hu]; decide), h]
  rfl

theorem State.ethFrame_dropped (ho : s.ethOn e = true) (hu : s.port.eth[e].up = true) (h : f.fcsOk = true)
    (hd : 1522 < f.len ∨ 1 < f.vlans.length ∨ s.ethAccepts e f.kind = false) :
    s.ethFrame e f = (s.count (inst Obj.ETH_COUNTS e) 0).count (inst Obj.ETH_COUNTS e) 3 := by
  unfold State.ethFrame
  dsimp only
  rw [if_neg (by rw [ho, hu]; decide), if_neg (by rw [h]; decide), if_pos]
  rcases hd with hd | hd | hd
  · exact Or.inl hd
  · exact Or.inr (Or.inl hd)
  · exact Or.inr (Or.inr (Or.inr (by rw [hd]; rfl)))

/-- What an accepted untagged frame on a port without a VLAN does. -/
def State.ethServe (s : State) (e : Fin 2) (f : EthArg) : State :=
  match f.kind with
  | .ptpL2 => s.count (inst Obj.ETH_COUNTS e) 4
  | .udp _ port => if port = 319 ∨ port = 320 then s.count (inst Obj.ETH_COUNTS e) 4 else s.count (inst Obj.ETH_COUNTS e) 5
  | .arp t from_ => s.ethSend e 1 [f.mac, s.ethMac e, t, from_] []
  | .icmpEcho t from_ data => s.ethSend e 2 [f.mac, s.ethMac e, t, from_] data
  | .icmp6Echo t from_ data => s.ethSend e 3 [f.mac, s.ethMac e, t, from_] data
  | .neighbour t from_ => s.ethSend e 4 [f.mac, s.ethMac e, t, from_] []
  | _ => s

theorem State.ethFrame_served (ho : s.ethOn e = true) (hu : s.port.eth[e].up = true) (h : f.fcsOk = true) (hl : f.len ≤ 1522)
    (ht : f.vlans = []) (hv : s.cfgN (inst Obj.ETH_VLAN e) = 0) (ha : s.ethAccepts e f.kind = true) :
    s.ethFrame e f = (s.count (inst Obj.ETH_COUNTS e) 0).ethServe e f := by
  unfold State.ethFrame
  dsimp only
  rw [if_neg (by rw [ho, hu]; decide), if_neg (by rw [h]; decide), if_neg]
  · rfl
  · rintro (hd | hd | hd | hd)
    · omega
    · rw [ht] at hd
      exact absurd hd (by decide)
    · exact hd.1 hv
    · rw [ha] at hd
      exact Bool.false_ne_true hd

end Ethernet

section Memory
variable {s : State}

theorem State.scrub_clean (h : s.extMem = true) (k : Nat) :
    s.scrub k [] = ((s.count Obj.MEM_ECC_COUNTS 0 0 k).count Obj.CONTAIN_COUNTS 4 0 k).count Obj.MEM_ECC_COUNTS 2 :=
  if_neg (by rw [h]; decide)

theorem State.scrub_off (h : s.extMem = false) (k : Nat) (l : List (Nat × Option Nat)) : s.scrub k l = s := if_pos (by rw [h]; rfl)

theorem State.flashDone_none {a n : Nat} {e : Bool} (ok : Bool) (h : s.port.flashSt ≠ 1 ∨ (e = true ∧ 16 < n)) : s.flashDone a e ok n = s :=
  if_pos h

/-- An operation that no read suspended. -/
theorem State.flashDone_plain (a : Nat) (e ok : Bool) (h : s.port.flashSt = 1) : s.flashDone a e ok 0
    = if !ok then (s.flashFailed e a).dirLost a
      else if inRecordArea a ∧ !e then
        match s.flt.recPending with
        | r :: rs => s.modFlt fun x => { x with recPending := rs, recFlash := (r :: x.recFlash).take 4096 }
        | [] => s
      else s :=
  if_neg (by rw [h]; simp)

end Memory

theorem exec_ethLinkChange (e : Fin 2) (up : Bool) (s : State) : exec (.ethLinkChange e up) s = .next (s.ethLink e up) := rfl
theorem exec_ethFrame (e : Fin 2) (f : EthArg) (s : State) : exec (.ethFrame e f) s = .next (s.ethFrame e f) := rfl
theorem exec_scrubPass (fixed : Nat) (bad : List (Nat × Option Nat)) (s : State) : exec (.scrubPass fixed bad) s
    = .next (s.scrub fixed bad).settled := rfl
theorem exec_flashOperationDone (addr : Nat) (erase ok : Bool) (suspends : Nat) (s : State) : exec (.flashOperationDone addr erase ok suspends) s
    = .next (s.flashDone addr erase ok suspends) := rfl

end Sys2Proof.Machine

end

open Sys2Proof.Machine
/-- Settles O39. -/
theorem networkAndMemoryComplete : Obligations.NetworkAndMemoryComplete := by
  unfold Obligations.NetworkAndMemoryComplete
  simp only [exec_ethLinkChange, exec_ethFrame, exec_scrubPass, exec_flashOperationDone]
  refine ⟨?up, ?down, ?same, ?frame, ?off, ?scrub, ?noMem, ?suspended, ?failed, ?erased, ?record⟩
  case up =>
    intro s e h ho
    rw [State.ethLink_up h ho]
  case down =>
    intro s e h
    rw [State.ethLink_down h]
  case same =>
    intro s e b h
    rw [State.ethLink_same h]
  case frame =>
    intro s e f ho hu
    refine ⟨fun h => ?_, fun h hd => ?_, fun h hl ht hv hk => ?_, fun a m h hl ht hv ha hip => ⟨fun d hk => ?_, fun hk => ?_⟩⟩
    · rw [State.ethFrame_badFcs ho hu h]
    · rw [State.ethFrame_dropped ho hu h]
      rcases hd with hd | hd | hd | hd
      · exact Or.inl hd
      · exact Or.inr (Or.inl hd)
      · exact Or.inr (Or.inr (by rw [hd]; rfl))
      · exact Or.inr (Or.inr (by rw [hd]; rfl))
    · rw [State.ethFrame_served ho hu h hl ht hv (by rw [hk]; rfl), State.ethServe, hk]
    · rw [State.ethFrame_served ho hu h hl ht hv (by rw [hk]; simp [State.ethAccepts, ha, hip]), State.ethServe, hk]
      rfl
    · rw [State.ethFrame_served ho hu h hl ht hv (by rw [hk]; simp [State.ethAccepts, ha, hip]), State.ethServe, hk]
      rfl
  case off =>
    intro s e f h
    rw [State.ethFrame_off h]
  case scrub =>
    intro s k h
    rw [State.scrub_clean h]
  case noMem =>
    intro s k l h
    rw [State.scrub_off h]
  case suspended =>
    intro s a n e ok h
    rw [State.flashDone_none ok h]
  case failed =>
    intro s a e h
    rw [State.flashDone_plain _ _ _ h]
    rfl
  case erased =>
    intro s a h
    rw [State.flashDone_plain _ _ _ h, if_neg (by decide), if_neg (by simp)]
  case record =>
    intro s a r rs h hlo hhi hr
    have ha : inRecordArea a = true := by simp [inRecordArea, hlo, hhi]
    rw [State.flashDone_plain _ _ _ h, if_neg (by decide), if_pos ⟨ha, rfl⟩, hr]
    rfl



section

/-! SUPPORT. Characters of the UARTs, their FIFOs and lines, and the test access port (O40). -/

namespace Sys2Proof.Machine

/-! ### The sum of the bits that are set -/

/-- The value of the first `n` bits of `f`. -/
def bitSum (f : Nat → Bool) (n : Nat) : Nat := ((List.range n).map fun i => if f i then 2 ^ i else 0).sum

theorem bitSum_succ (f : Nat → Bool) (n : Nat) : bitSum f (n + 1) = bitSum f n + if f n then 2 ^ n else 0 := by
  unfold bitSum
  rw [List.range_succ, List.map_append, List.sum_append, List.map_singleton, List.sum_singleton]

theorem bitSum_lt (f : Nat → Bool) (n : Nat) : bitSum f n < 2 ^ n := by
  induction n with
  | zero => exact Nat.one_pos
  | succ n ih =>
    rw [bitSum_succ, pow_succ]
    split <;> omega

theorem testBit_bitSum (f : Nat → Bool) {n i : Nat} (h : i < n) : (bitSum f n).testBit i = f i := by
  induction n with
  | zero => exact absurd h (Nat.not_lt_zero i)
  | succ n ih =>
    rw [bitSum_succ]
    rcases Nat.lt_succ_iff_lt_or_eq.1 h with hlt | rfl
    · split_ifs
      · rw [Nat.add_comm, Nat.testBit_two_pow_add_gt hlt, ih hlt]
      · rw [Nat.add_zero, ih hlt]
    · have h0 := Nat.testBit_lt_two_pow (bitSum_lt f i)
      split_ifs with hf
      · rw [Nat.add_comm, Nat.testBit_two_pow_add_eq, h0, hf]
        rfl
      · rw [Nat.add_zero, h0]
        exact (Bool.eq_false_iff.2 hf).symm

/-- The majority of the three samples of a bit. -/
def voteBit (votes : List Nat) (i : Nat) : Bool := decide (2 ≤ (votes[i]?).getD 0)

/-- Without noise a bit is 1 exactly where its three samples are. -/
theorem voteBit_clean {votes : List Nat} (h : ∀ k ∈ votes, k = 0 ∨ k = 3) (i : Nat) : voteBit votes i = (votes[i]? == some 3) := by
  unfold voteBit
  cases hv : votes[i]? with
  | none => rfl
  | some k => rcases h k (List.mem_of_getElem? hv) with rfl | rfl <;> rfl

/-- An 8-bit character without parity and without noise is the value of its bits. -/
theorem decideChar_clean {votes : List Nat} (h : ∀ k ∈ votes, k = 0 ∨ k = 3) (h0 : votes[0]? = some 0) (h9 : votes[9]? = some 3) :
    decideChar 8 0 votes = some (bitSum (fun i => voteBit votes (i + 1)) 8) := by
  have hstart : voteBit votes 0 = false := by rw [voteBit_clean h, h0]; rfl
  have hstop : voteBit votes 9 = true := by rw [voteBit_clean h, h9]; rfl
  have hnoise : ((votes.take 10).any fun k => k == 1 || k == 2) = false := by
    refine List.any_eq_false.2 fun k hk => ?_
    rcases h k (List.mem_of_mem_take hk) with rfl | rfl <;> decide
  unfold decideChar
  extract_lets bit v ones p pe stop noise
  have hb0 : bit 0 = false := hstart
  have hs : stop = true := hstop
  have hn : noise = false := hnoise
  rw [if_neg (by rw [hb0]; decide), hs, hn]
  rfl

section Receive
variable {s : State} {n m : Fin 4} {e : Nat}

theorem State.countEntry_frame (s : State) (n : Fin 4) (e : Nat) : s.countEntry n e = { s with ro := (s.countEntry n e).ro } := by
  unfold State.countEntry
  dsimp only
  split_ifs <;> rfl

/-- What a received character counts does not depend on the line. -/
theorem State.countEntry_modUart_ro (s : State) (n m : Fin 4) (f : Uart → Uart) (e : Nat) :
    ((s.modUart m f).countEntry n e).ro = (s.countEntry n e).ro := by
  unfold State.countEntry
  dsimp only
  split_ifs <;> rfl

theorem State.modUart_self (s : State) (n : Fin 4) (f : Uart → Uart) : (s.modUart n f).uart.port[n] = f s.uart.port[n] :=
  vmod_self s.uart.port n f

theorem State.modUart_ne (h : m ≠ n) (f : Uart → Uart) : (s.modUart n f).uart.port[m] = s.uart.port[m] := vmod_ne s.uart.port h f

theorem State.modUart_congr {f g : Uart → Uart} (h : f s.uart.port[n] = g s.uart.port[n]) : s.modUart n f = s.modUart n g := by
  unfold State.modUart vmod
  rw [h]

theorem State.rtsRefresh_frame (s : State) (n : Fin 4) : s.rtsRefresh n = { s with uart := (s.rtsRefresh n).uart } := by
  unfold State.rtsRefresh
  split_ifs <;> rfl

theorem State.rtsRefresh_rx (s : State) (n : Fin 4) : (s.rtsRefresh n).uart.port[n].rx = s.uart.port[n].rx := by
  unfold State.rtsRefresh
  by_cases h : n.val < 2
  · rw [if_pos h]
  · rw [if_neg h]
    dsimp only
    rw [State.modUart_self]

theorem State.rtsRefresh_ne (h : m ≠ n) : (s.rtsRefresh n).uart.port[m] = s.uart.port[m] := by
  unfold State.rtsRefresh
  by_cases h2 : n.val < 2
  · rw [if_pos h2]
  · rw [if_neg h2]
    exact State.modUart_ne h _

/-- An entry enters a FIFO that has room, below the notification level. -/
theorem State.rxPush_room (hl : s.uart.port[n].rx.length < 64) (hlost : s.uart.port[n].lost = false)
    (hn : s.uart.port[n].rx.length + 1 < s.uartN n Obj.UART_RX_NOTIFY ∨ s.uart.port[n].ready = true) :
    s.rxPush n e = (s.modUart n fun u => { u with rx := u.rx ++ [e], lost := false }).rtsRefresh n := by
  unfold State.rxPush
  dsimp only
  rw [if_neg hl.not_ge, hlost, if_neg]
  · rfl
  · rintro ⟨hle, hr⟩
    rcases hn with hn | hn
    · exact absurd hle hn.not_ge
    · rw [hn] at hr
      exact absurd hr (by decide)

theorem State.port_raise (s : State) (c i : Nat) (n : Fin 4) : (s.raise c i).uart.port[n] = s.uart.port[n] :=
  congrArg (fun u : UartState => u.port[n]) (State.raise_uart ..)

/-- The entry that a full FIFO loses. -/
theorem State.rxPush_full (h : 64 ≤ s.uart.port[n].rx.length) :
    (s.rxPush n e).uart.port[n] = { s.uart.port[n] with lost := true, overrun := true } := by
  unfold State.rxPush
  dsimp only
  rw [if_pos h]
  by_cases ho : s.uart.port[n].overrun = true
  · rw [if_pos ho]
    exact State.modUart_self ..
  · rw [if_neg ho, State.port_raise]
    exact State.modUart_self ..

theorem State.uartChar_deaf (hd : s.domServes 1 = true) (h : s.rxDeaf n = true) (line : List Bool) (g : Bool) : s.uartChar n line g = s := by
  unfold State.uartChar
  rw [if_neg (by rw [hd]; decide), if_pos h]

theorem State.uartChar_hears (hd : s.domServes 1 = true) (h : s.rxDeaf n = false) (line : List Bool) (g : Bool) :
    s.uartChar n line g = match s.rxDecide n (s.uartFrame n) line with
      | none => s
      | some none => s.count (inst Obj.UART_COUNTS n) 7
      | some (some e) => (s.rxEnds n).rxTake n e g := by
  unfold State.uartChar
  rw [if_neg (by rw [hd]; decide), if_neg (by rw [h]; decide)] <;> rfl

/-- The state in which a decided character has been counted. -/
def State.charCounted (s : State) (n : Fin 4) (e : Nat) : State := (s.rxEnds n).countEntry n e

theorem State.charCounted_frame (s : State) (n : Fin 4) (e : Nat) :
    s.charCounted n e = { s.rxEnds n with ro := (s.countEntry n e).ro } := by
  rw [← State.countEntry_modUart_ro s n n fun u => { u with rxEnd := s.mono + s.bitTime n / 2 }]
  exact State.countEntry_frame ..

theorem State.charCounted_self (s : State) (n : Fin 4) (e : Nat) :
    (s.charCounted n e).uart.port[n] = { s.uart.port[n] with rxEnd := s.mono + s.bitTime n / 2 } := by
  rw [State.charCounted_frame]
  exact State.modUart_self ..

theorem State.charCounted_ne (h : m ≠ n) (e : Nat) : (s.charCounted n e).uart.port[m] = s.uart.port[m] := by
  rw [State.charCounted_frame]
  exact State.modUart_ne h _

theorem State.uartN_charCounted (s : State) (n : Fin 4) (e i : Nat) : (s.charCounted n e).uartN n i = s.uartN n i := by
  rw [State.charCounted_frame]
  rfl

theorem State.rxTake_own (hf : s.uartLoref n = false) (e : Nat) (g : Bool) : (s.rxEnds n).rxTake n e g = (s.charCounted n e).rxPush n e :=
  if_neg (by rw [show (s.rxEnds n).uartLoref n = false from hf]; decide)

end Receive

section Lines
variable {s : State} {n : Fin 4}

theorem State.uartBreak_first (hr : s.uartRxOn n = true) (hl : s.uart.port[n].line < 2) : s.uartBreak n
    = let t := ((s.modUart n fun u => { u with line := 2, high := false }).count (inst Obj.UART_COUNTS n) 6).raise Ev.UART_BREAK n
      if s.uartLoref n then t else t.rxPush n 0xC00 := by
  have hm : (s.modUart n fun u => { u with line := if u.line < 2 then 2 else u.line, high := false })
      = s.modUart n fun u => { u with line := 2, high := false } :=
    State.modUart_congr (by rw [if_pos hl])
  unfold State.uartBreak
  rw [hm, if_neg (by rw [hr]; simpa using hl)]
  rfl

theorem State.uartStuck_first (hr : s.uartRxOn n = true) (hl : s.uart.port[n].line ≠ 3) :
    s.uartStuck n = (s.modUart n fun u => { u with line := 3, stuck := true, high := false }).raise Ev.UART_STUCK n :=
  if_neg (by rw [hr]; simpa using hl)

theorem State.uartIdle_waiting (hs : s.uartServes = true) (hx : s.uart.port[n].rx ≠ []) (hr : s.uart.port[n].ready = false) :
    s.uartIdle n = (s.modUart n fun u => { u with ready := true }).raise Ev.UART_RX_READY n s.uart.port[n].rx.length :=
  if_neg (by rw [hs, hr]; simpa using hx)

theorem State.uartIdle_none (h : s.uart.port[n].rx = [] ∨ s.uart.port[n].ready = true) : s.uartIdle n = s :=
  if_pos (Or.inr (h.imp_left fun h => by rw [h]; rfl))

theorem State.rxData_element0 (hs : s.uartServes = true) (hf : s.uartLoref n = false) (k : Nat) :
    s.rxData n 0 k = (s.rxDataPut n k).emit (.uartRead n (s.rxDataTake n k)) := by
  refine if_neg ?_
  unfold State.rxDataCheck
  rw [hs, hf]
  decide

theorem State.rxData_loref (hf : s.uartLoref n = true) (e k : Nat) : s.rxData n e k = s := by
  refine if_pos (Or.inr ?_)
  unfold State.rxDataCheck
  rw [if_pos hf]
  decide

theorem State.txData_refused {v : List Nat} (h : s.uartLoref n = true ∨ 64 < s.uart.port[n].tx.length + v.length) : s.txData n v = s := by
  refine if_pos (Or.inr ?_)
  unfold State.txDataCheck
  rcases h with h | h
  · rw [if_pos h]
    decide
  · rw [if_pos h]
    split <;> decide

theorem State.txData_accepted {v : List Nat} (hs : s.uartServes = true) (hf : s.uartLoref n = false)
    (hl : s.uart.port[n].tx.length + v.length ≤ 64) : s.txData n v = (s.txDataPut n v).bumpRev (inst Obj.UART_TX_DATA n) := by
  refine if_neg ?_
  unfold State.txDataCheck
  rw [hs, hf, if_neg Bool.false_ne_true, if_neg hl.not_gt]
  decide

theorem State.txKick_sending {x : Nat} (h : s.uart.port[n].sending = some x) : s.txKick n = s := by
  unfold State.txKick
  dsimp only
  rw [h]

theorem State.txKick_empty (h : s.uart.port[n].tx = []) : s.txKick n = s := by
  unfold State.txKick
  dsimp only
  rw [h]
  split
  · exact absurd ‹[] = _› (List.cons_ne_nil _ _).symm
  · rfl

/-- An idle RS-485 port starts its next character, its driver enabled. -/
theorem State.txKick_starts {c : Nat} {cs : List Nat} {d : HalfNs} (h2 : n.val < 2) (hi : s.uart.port[n].sending = none)
    (hx : s.uart.port[n].tx = c :: cs) (ho : s.uartTxOn n = true)
    (hd : d = if s.uart.port[n].de = true then s.uart.port[n].deAt else s.deStart n) : s.txKick n
      = (s.modUart n fun u => { u with sending := some c, tx := cs, tail := false, de := true, deAt := d }).emit
        (.uart n c (if s.uart.port[n].de = true then s.mono else d + s.uartN n Obj.UART_DE_LEAD * s.bitTime n)) := by
  have hn : ¬2 ≤ n.val := h2.not_ge
  subst hd
  unfold State.txKick
  dsimp only
  rw [hi, hx]
  dsimp only
  rw [if_neg (by rw [ho]; simp [hn])]
  simp only [hn, false_or, decide_eq_true h2]

theorem State.charSent_none (h : s.uart.port[n].sending = none) : s.charSent n = s := if_pos (by rw [h]; rfl)

theorem State.charSent_last {x : Nat} (h : s.uart.port[n].sending = some x) (ht : s.uart.port[n].tx = []) : s.charSent n
    = ((s.modUart n fun u => { u with sending := none }).count (inst Obj.UART_COUNTS n) 1).modUart n fun u => { u with tail := u.de } := by
  unfold State.charSent
  dsimp only
  rw [if_neg (by rw [h]; exact Bool.false_ne_true), if_pos (by rw [ht]; rfl)]

theorem State.ctsChange_rs485 (h : n.val < 2) (b : Bool) : s.ctsChange n b = s := if_pos h

theorem State.ctsChange_idle (h : 2 ≤ n.val) (ht : s.uart.port[n].tx = []) (b : Bool) :
    s.ctsChange n b = s.modUart n fun u => { u with cts := b } := by
  have hx : (s.modUart n fun u => { u with cts := b }).uart.port[n].tx = [] :=
    (congrArg Uart.tx (State.modUart_self ..)).trans ht
  exact (if_neg h.not_gt).trans (State.txKick_empty hx)

end Lines

theorem exec_uartCharacter (n : Fin 4) (line : List Bool) (gap : Bool) (s : State) : exec (.uartCharacter n line gap) s
    = .next (s.uartChar n line gap) := rfl
theorem exec_uartBreak (n : Fin 4) (s : State) : exec (.uartBreak n) s = .next (s.uartBreak n) := rfl
theorem exec_uartStuck (n : Fin 4) (s : State) : exec (.uartStuck n) s = .next (s.uartStuck n) := rfl
theorem exec_uartLineOk (n : Fin 4) (s : State) : exec (.uartLineOk n) s = .next (s.uartLineOk n) := rfl
theorem exec_uartRxIdle (n : Fin 4) (s : State) : exec (.uartRxIdle n) s = .next (s.uartIdle n) := rfl
theorem exec_uartRxData (n : Fin 4) (element k : Nat) (s : State) : exec (.uartRxData n element k) s = .next (s.rxData n element k) := rfl
theorem exec_uartTxData (n : Fin 4) (v : List Nat) (s : State) : exec (.uartTxData n v) s = .next (s.txData n v) := rfl
theorem exec_uartCharacterSent (n : Fin 4) (s : State) : exec (.uartCharacterSent n) s = .next (s.charSent n) := rfl
theorem exec_deTailExpiry (n : Fin 4) (s : State) : exec (.deTailExpiry n) s
    = .next (if s.uart.port[n].tail then s.modUart n fun u => { u with tail := false, de := false } else s) := rfl
theorem exec_ctsNChange (n : Fin 4) (low : Bool) (s : State) : exec (.ctsNChange n low) s = .next (s.ctsChange n low) := rfl
theorem exec_testAccessPortInstruction (code data : Nat) (s : State) : exec (.testAccessPortInstruction code data) s
    = .next (s.tapRun code data) := rfl

end Sys2Proof.Machine

end

open Sys2Proof.Machine
/-- Settles O40. -/
theorem uartsComplete : Obligations.UartsComplete := by
  unfold Obligations.UartsComplete
  simp only [exec_uartCharacter, exec_uartBreak, exec_uartStuck, exec_uartLineOk, exec_uartRxIdle, exec_uartRxData, exec_uartTxData,
    exec_uartCharacterSent, exec_deTailExpiry, exec_ctsNChange, exec_testAccessPortInstruction]
  refine ⟨⟨?char, ?clean, ?noise, ?deaf, ?full⟩, ?breakLoref, ?breakOwn, ?stuck, ?lineOk, ?idle, ?notIdle, ?read, ?readAll, ?loref,
    ?tooLong, ?write, ?kick, ?notSending, ?last, ?tail, ?noTail, ?ctsRs485, ?cts, ?tap0, ?tap1, ?tap2, ?tap3⟩
  case char =>
    intro s n line g e hd hdeaf hf hdec hl hlost hn
    rw [State.uartChar_hears hd hdeaf, hdec]
    dsimp only
    have hu := s.charCounted_self n e
    have hlen : (s.charCounted n e).uart.port[n].rx.length < 64 := by rw [hu]; exact hl
    have hlost' : (s.charCounted n e).uart.port[n].lost = false := by rw [hu]; exact hlost
    have hn' : (s.charCounted n e).uart.port[n].rx.length + 1 < (s.charCounted n e).uartN n Obj.UART_RX_NOTIFY
        ∨ (s.charCounted n e).uart.port[n].ready = true := by
      rw [hu, State.uartN_charCounted]
      exact hn
    rw [State.rxTake_own hf, State.rxPush_room hlen hlost' hn']
    refine ⟨_, rfl, ?_, fun m hm => ?_, ?_, ?_⟩
    · rw [State.rtsRefresh_rx, State.modUart_self, hu]
    · rw [State.rtsRefresh_ne hm, State.modUart_ne hm, State.charCounted_ne hm]
    · rw [State.rtsRefresh_frame, State.charCounted_frame]
      rfl
    · rw [State.rtsRefresh_frame, State.charCounted_frame]
      rfl
  case clean =>
    intro votes _ h h0 h9
    refine ⟨_, decideChar_clean h h0 h9, bitSum_lt _ 8, fun i hi => ?_⟩
    rw [testBit_bitSum _ hi, voteBit_clean h]
  case noise =>
    intro s n line g hd hdeaf
    rw [State.uartChar_hears hd hdeaf]
    exact ⟨fun h => by rw [h], fun h => by rw [h]⟩
  case deaf =>
    intro s n line g hd h
    rw [State.uartChar_deaf hd h]
  case full =>
    intro s n e h
    rw [State.rxPush_full h]
    exact ⟨rfl, rfl, rfl⟩
  case breakLoref =>
    intro s n hr hl hf
    rw [State.uartBreak_first hr hl, hf]
    rfl
  case breakOwn =>
    intro s n hr hl hf
    rw [State.uartBreak_first hr hl, hf]
    rfl
  case stuck =>
    intro s n hr hl
    rw [State.uartStuck_first hr hl]
  case lineOk =>
    intro s n
    rfl
  case idle =>
    intro s n hs hx hr
    rw [State.uartIdle_waiting hs hx hr]
  case notIdle =>
    intro s n h
    rw [State.uartIdle_none h]
  case read =>
    intro s n k hs hf hk
    rw [State.rxData_element0 hs hf, State.rxDataPut, State.rxDataTake]
    simp only [if_neg hk.ne']
  case readAll =>
    intro s n hs hf
    rw [State.rxData_element0 hs hf]
    rfl
  case loref =>
    intro s n e k v hf
    rw [State.rxData_loref hf, State.txData_refused (Or.inl hf)]
    exact ⟨rfl, rfl⟩
  case tooLong =>
    intro s n v h
    rw [State.txData_refused (Or.inr h)]
  case write =>
    intro s n v x hs hf hx hl
    have hsend : (s.modUart n fun u => { u with tx := u.tx ++ v.map (· % 512) }).uart.port[n].sending = some x :=
      (congrArg Uart.sending (State.modUart_self ..)).trans hx
    rw [State.txData_accepted hs hf hl, State.txDataPut, State.txKick_sending hsend]
  case kick =>
    intro s n c cs d h2 hi hx ho hd
    exact State.txKick_starts h2 hi hx ho hd
  case notSending =>
    intro s n h
    rw [State.charSent_none h]
  case last =>
    intro s n x h ht
    rw [State.charSent_last h ht]
  case tail =>
    intro s n h
    rw [if_pos h]
  case noTail =>
    intro s n h
    rw [h]
    rfl
  case ctsRs485 =>
    intro s n b h
    rw [State.ctsChange_rs485 h]
  case cts =>
    intro s n b h ht
    rw [State.ctsChange_idle h ht]
  case tap0 =>
    intro s d
    rfl
  case tap1 =>
    intro s d
    rfl
  case tap2 =>
    intro s d
    exact ⟨_, rfl⟩
  case tap3 =>
    intro s d
    exact ⟨fun h => congrArg _ (if_pos h), fun h => congrArg _ (if_neg fun hr => by rw [h] at hr; exact Bool.false_ne_true hr.1)⟩


section

/-! SUPPORT. Targets of power domains (O41). -/

namespace Sys2Proof.Machine

section Domains
variable {s : State} {d e : Fin 18} {x y : Domain}

theorem State.dom_putDom_self (s : State) (d : Fin 18) (x : Domain) : (s.putDom d x).dom d = x := by
  rw [State.dom_putDom, if_pos rfl]

theorem State.dom_putDom_ne (h : e ≠ d) : (s.putDom d x).dom e = s.dom e := by
  rw [State.dom_putDom, if_neg h.symm]

theorem State.putDom_putDom (s : State) (d : Fin 18) (x y : Domain) : (s.putDom d x).putDom d y = s.putDom d y :=
  congrArg (fun v : Vector Domain 18 => { s with pwr := { s.pwr with dom := v } }) (Vector.set_set ..)

/-- A domain is read from the power state alone. -/
theorem State.dom_of_pwr {t : State} (h : t.pwr = s.pwr) (d : Fin 18) : t.dom d = s.dom d := congrArg (fun p : PwrState => p.dom[d]) h

end Domains

section Targets
variable {s : State} {d : Fin 18} {v : Nat}

theorem State.pwTarget_badRange {d : Nat} (h : 2 < v ∨ 18 ≤ d) : s.pwTarget d v = s := by
  have hc : s.pwTargetCheck d v = 4 := if_pos h
  unfold State.pwTarget
  rw [hc]
  rfl

theorem State.pwTargetCheck_range (h : v ≤ 2) : s.pwTargetCheck d v = if (s.targetRefusal d v).isSome then 5 else 0 := by
  unfold State.pwTargetCheck
  rw [if_neg (by omega), domFin_val]

theorem State.pwTarget_refused {c r : Nat} (hv : v ≤ 2) (h : s.targetRefusal d v = some (c, r)) :
    s.pwTarget d v = s.countRefusal d r c := by
  have hc : s.pwTargetCheck d v = 5 := by rw [State.pwTargetCheck_range hv, h]; rfl
  have hr : s.pwTargetRefused d v = s.countRefusal d r c := by
    unfold State.pwTargetRefused
    rw [domFin_val, h]
  unfold State.pwTarget
  rw [hc, ← hr]
  rfl

theorem State.pwTarget_accepted (hv : v ≤ 2) (h : s.targetRefusal d v = none) :
    s.pwTarget d v = (s.bumpRev Obj.PW_TARGET).applyTarget d v := by
  have hc : s.pwTargetCheck d v = 0 := by rw [State.pwTargetCheck_range hv, h]; rfl
  have hp (t : State) : t.pwTargetPut d v = t.applyTarget d v := by
    unfold State.pwTargetPut
    rw [domFin_val]
  unfold State.pwTarget
  rw [hc, ← hp]
  rfl

/-- A target of on is refused to no domain but AON, whose only target it is. -/
theorem State.targetRefusal_on (s : State) (d : Fin 18) : s.targetRefusal d 2 = none := by
  unfold State.targetRefusal
  by_cases h : d.val = 0
  · rw [if_pos h, if_pos rfl]
  · rw [if_neg h, if_neg (by omega), if_pos rfl]

theorem State.targetRefusal_fromOff (h0 : d ≠ 0) (h : (s.dom d).st = 0 ∨ (s.dom d).st = 5) : s.targetRefusal d 1 = some (10, d.val) := by
  unfold State.targetRefusal
  rw [if_neg fun hd : d.val = 0 => h0 (Fin.ext hd), if_pos ⟨rfl, h⟩]

/-- The entry that a domain without a path starts. -/
theorem State.beginEntry_plain (hd : d.val < 7 ∨ 13 ≤ d.val) : s.beginEntry d v = s.putDom d { s.dom d with
    st := 3, step := 1, other := v, came := (s.dom d).st, wake := false, held := none, former := none, release := false } :=
  dif_neg (by omega)

theorem stateLevel_on : stateLevel 2 = 2 := rfl

theorem State.applyTarget_lowers (hv : v < 2) (hst : (s.dom d).st = 2) (hd : d.val < 7 ∨ 13 ≤ d.val) : s.applyTarget d v
    = (s.setTarget d v).putDom d { s.dom d with
      st := 3, step := 1, other := v, came := 2, wake := false, held := none, former := none, release := false } := by
  have hx : ((s.setTarget d v).modDom d fun x => { x with former := none }).dom d = { s.dom d with former := none } :=
    State.dom_putDom_self ..
  unfold State.applyTarget
  dsimp only
  rw [if_neg (by omega), if_neg (by omega), if_neg (by omega)]
  unfold State.lowerDom
  dsimp only
  rw [hx]
  dsimp only
  rw [hst, if_pos (Or.inl rfl), stateLevel_on, if_neg (by omega), State.beginEntry_plain hd, hx, State.modDom, State.putDom_putDom]
  rw [show ({ s.dom d with former := none } : Domain).st = 2 from hst]

theorem State.applyTarget_meets (hv : v < 2) (hst : (s.dom d).st = 3 ∨ (s.dom d).st = 4) : s.applyTarget d v
    = (s.setTarget d v).putDom d { s.dom d with
      held := if (s.dom d).st = 3 ∧ (s.dom d).other = v ∧ (s.dom d).wake = false ∧ (s.dom d).release = false then none else some v } := by
  unfold State.applyTarget
  dsimp only
  rw [if_neg (by omega)]
  simp only [Bool.not_eq_true']
  by_cases h : (s.dom d).st = 3 ∧ (s.dom d).other = v ∧ (s.dom d).wake = false ∧ (s.dom d).release = false
  · rw [if_pos h, if_pos h]
  · rw [if_neg h, if_neg h, if_pos hst]

theorem State.applyTarget_staysOn (hst : (s.dom d).st = 2 ∨ (s.dom d).st = 4) :
    s.applyTarget d 2 = (s.setTarget d 2).putDom d { s.dom d with held := none } := by
  unfold State.applyTarget
  dsimp only
  rw [if_pos rfl]
  rcases hst with h | h
  · rw [if_pos h, ite_self]
  · rw [if_pos (Or.inl h)]

theorem State.applyTarget_raises (hst : (s.dom d).st = 0 ∨ (s.dom d).st = 1 ∨ (s.dom d).st = 5) (hr : (s.dom d).release = false) :
    s.applyTarget d 2 = s.raiseDom d := by
  unfold State.applyTarget
  dsimp only
  rw [if_pos rfl, if_neg, if_neg (by omega)]
  rintro (h | h)
  · omega
  · rw [hr] at h
    exact Bool.false_ne_true h

end Targets

theorem exec_pwTarget (d v : Nat) (s : State) : exec (.pwTarget d v) s = .next (s.pwTarget d v).settled := rfl

end Sys2Proof.Machine

end

open Sys2Proof.Machine
/-- Settles O41. -/
theorem powerTargets : Obligations.PowerTargets := by
  unfold Obligations.PowerTargets
  simp only [exec_pwTarget]
  refine ⟨?range, ?refused, ?aon, ?fromOff, ?lowers, ?meets, ?staysOn, ?raises⟩
  case range =>
    intro s d v h
    rw [State.pwTarget_badRange h]
  case refused =>
    intro s d v c r hv h
    rw [State.pwTarget_refused hv h]
  case aon =>
    intro s
    exact ⟨rfl, rfl, rfl⟩
  case fromOff =>
    intro s d h0 h
    exact State.targetRefusal_fromOff h0 h
  case lowers =>
    intro s d v hv h hst hd
    rw [State.pwTarget_accepted hv.le h, State.applyTarget_lowers (s := s.bumpRev _) hv hst hd]
    rfl
  case meets =>
    intro s d v hv h hst
    rw [State.pwTarget_accepted hv.le h, State.applyTarget_meets (s := s.bumpRev _) hv hst]
    rfl
  case staysOn =>
    intro s d _ hst
    rw [State.pwTarget_accepted le_rfl (s.targetRefusal_on d), State.applyTarget_staysOn (s := s.bumpRev _) hst]
    rfl
  case raises =>
    intro s d _ hst hr
    rw [State.pwTarget_accepted le_rfl (s.targetRefusal_on d), State.applyTarget_raises (s := s.bumpRev _) hst hr]


section

/-! SUPPORT. The steps of a domain's entry and the end of its exit (O43). -/

namespace Sys2Proof.Machine

section Exits
variable {s t : State} {d e : Fin 18}

/-- A domain that is on, or on its way, starts no exit. -/
def Domain.Settled (x : Domain) : Prop := x.st ≠ 0 ∧ x.st ≠ 1 ∧ x.st ≠ 5

theorem Domain.settled_of_on {x : Domain} (h : x.st = 2) : x.Settled := by
  unfold Domain.Settled
  omega

theorem State.dom_beginExit (h : (s.dom d).Settled) (e : Fin 18) : (s.beginExit e).dom d = s.dom d := by
  obtain ⟨h0, h1, h5⟩ := h
  unfold State.beginExit
  dsimp only
  by_cases hc : s.target e = 2 ∧ ((s.dom e).st = 0 ∨ (s.dom e).st = 1 ∨ (s.dom e).st = 5) ∧ s.providersOn e = true
  · rw [if_pos hc]
    refine State.dom_putDom_ne ?_
    rintro rfl
    omega
  · rw [if_neg hc]

theorem State.dom_beginExits (h : (s.dom d).Settled) : s.beginExits.dom d = s.dom d := by
  unfold State.beginExits
  generalize List.finRange 18 = l
  induction l generalizing s with
  | nil => rfl
  | cons e l ih =>
    have he := State.dom_beginExit h e
    rw [List.foldl_cons, ih (by rw [he]; exact h), he]

theorem State.actHeld_none (h : (s.dom d).held = none) : s.actHeld d = s := by
  unfold State.actHeld
  dsimp only
  rw [h]

/-- A domain that goes back to on, with no target held, stands there. -/
theorem State.dom_resume (hc : (s.dom d).came = 2) (hh : (s.dom d).held = none) : (s.resume d).dom d
    = { s.dom d with st := (s.dom d).came, step := 0, wake := false, former := none, release := false } := by
  unfold State.resume
  extract_lets s1
  have h1 : s1.dom d = { s.dom d with st := (s.dom d).came, step := 0, wake := false, former := none, release := false } :=
    State.dom_putDom_self ..
  have hb : s1.beginExits.dom d = s1.dom d := by
    refine State.dom_beginExits (Domain.settled_of_on ?_)
    rw [h1]
    exact hc
  rw [State.actHeld_none (by rw [hb, h1]; exact hh), hb, h1]

end Exits

section Entry
variable {s : State} {d : Fin 18} {n : Nat}

theorem State.quiesceEnd_other (h : (s.dom d).st ≠ 3 ∨ (s.dom d).step ≠ 1) : s.quiesceEnd d n = s :=
  if_pos (h.imp_right Or.inl)

theorem State.quiesceTimeout_other (h : (s.dom d).st ≠ 3 ∨ (s.dom d).step ≠ 1) : s.quiesceTimeout d = s := if_pos h

theorem State.quiesceTimeout_waiting (h3 : (s.dom d).st = 3) (h1 : (s.dom d).step = 1) :
    s.quiesceTimeout d = (s.domRefused d (stateLevel (s.dom d).came) 6 d).resume d :=
  if_neg fun h => h.elim (· h3) (· h1)

/-- The domain is isolated and waits for its save step. -/
def State.isolated (s : State) (d : Fin 18) : State :=
  { s with pwr := { s.pwr with dom := s.pwr.dom.set d { s.dom d with step := 2 }, saveQ := s.pwr.saveQ ++ [d.val] } }

theorem State.quiesceEnd_idle (h3 : (s.dom d).st = 3) (h1 : (s.dom d).step = 1) (hi : s.domIdle d = true) : s.quiesceEnd d n
    = if (s.dom d).wake then (s.countAbort d).resume d else match s.lowerRefusal d (s.dom d).other with
      | some (c, r) => (s.domRefused d (stateLevel (s.dom d).came) c r).resume d
      | none =>
        if h : 7 ≤ d.val ∧ d.val < 13 then
          if n = 0 then s.isolated d else (s.isolated d).count (inst Obj.RF_RX_PREEMPTED (⟨d.val - 7, by omega⟩ : Fin 6)) 0 0 n
        else if d.val = 1 then (s.isolated d).uartIsolate
        else if d.val = 13 then (s.isolated d).modGnss fun g => { g with ant := 0 }
        else s.isolated d := by
  refine (if_neg ?_).trans ?_
  · rintro (h | h | h)
    · exact h h3
    · exact h h1
    · rw [hi] at h
      exact absurd h (by decide)
  · rfl

theorem State.domIdle_plain (hd : d.val < 7 ∨ 13 ≤ d.val) : s.domIdle d = true := dif_neg (by omega)

theorem State.quiesceEnd_isolates (h3 : (s.dom d).st = 3) (h1 : (s.dom d).step = 1) (hw : (s.dom d).wake = false)
    (hl : s.lowerRefusal d (s.dom d).other = none) (hu : d.val ≠ 1) (hg : d.val ≠ 13) (hp : d.val < 7 ∨ 13 ≤ d.val) :
    s.quiesceEnd d n = s.isolated d := by
  rw [State.quiesceEnd_idle h3 h1 (State.domIdle_plain hp), hw, if_neg Bool.false_ne_true, hl]
  dsimp only
  rw [dif_neg (by omega), if_neg hu, if_neg hg]

theorem State.quiesceEnd_path {p : Fin 6} (hd : d.val = 7 + p.val) (h3 : (s.dom d).st = 3) (h1 : (s.dom d).step = 1)
    (hi : s.domIdle d = true) (hw : (s.dom d).wake = false) (hl : s.lowerRefusal d (s.dom d).other = none) (hn : 0 < n) :
    s.quiesceEnd d n = (s.isolated d).count (inst Obj.RF_RX_PREEMPTED p) 0 0 n := by
  have hp : (⟨d.val - 7, by omega⟩ : Fin 6) = p := Fin.ext (by simp [hd])
  rw [State.quiesceEnd_idle h3 h1 hi, hw, if_neg Bool.false_ne_true, hl]
  dsimp only
  rw [dif_pos (by omega), if_neg hn.ne', ← hp]

theorem State.saveOwners_none {d : Nat} (h15 : d ≠ 15) (h17 : d ≠ 17) : s.saveOwners d = s := by
  unfold State.saveOwners
  rw [if_neg h15, if_neg h17, ite_self]

theorem State.saveStart_next {d : Nat} {q : List Nat} (hs : s.pwr.saving = none) (hq : s.pwr.saveQ = d :: q) (h15 : d ≠ 15) (h17 : d ≠ 17) :
    s.saveStart = { s with pwr := { s.pwr with
      saving := some d, saveQ := q, dom := s.pwr.dom.set (domFin d) { s.dom (domFin d) with step := 3 } } } := by
  unfold State.saveStart
  rw [hs, hq]
  exact State.saveOwners_none h15 h17

theorem State.saveStart_none (h : s.pwr.saving.isSome = true ∨ s.pwr.saveQ = []) : s.saveStart = s := by
  unfold State.saveStart
  split
  · rename_i hs hq
    rcases h with h | h
    · rw [hs] at h
      exact absurd h Bool.false_ne_true
    · rw [hq] at h
      exact absurd h (List.cons_ne_nil _ _)
  · rfl

theorem State.saveEnd_none (h : s.pwr.saving = none) : s.saveEnd = s := by
  unfold State.saveEnd
  rw [h]

/-- The state in which a save step has ended, its bank sealed. -/
def State.saved (s : State) (d : Fin 18) : State :=
  ((({ s with pwr := { s.pwr with saving := none } } : State).modDom d fun x => { x with valid := x.other == 1, tick := s.aon.tick }).sealBank 3)

theorem State.saveEnd_waits (h : s.pwr.saving = some d.val) (hw : (s.dom d).wake = false) :
    s.saveEnd = { s.saved d with pwr := { (s.saved d).pwr with switchQ := (s.saved d).pwr.switchQ ++ [d.val] } } := by
  have hd : (s.saved d).dom d = { s.dom d with valid := (s.dom d).other == 1, tick := s.aon.tick } := State.dom_putDom_self ..
  have hwake : ((s.saved d).dom d).wake = false := by rw [hd]; exact hw
  unfold State.saveEnd
  rw [h]
  dsimp only
  rw [domFin_val]
  exact if_neg fun hx => Bool.false_ne_true (hwake.symm.trans hx)

theorem State.switchStart_none (h : s.pwr.switchQ = []) : s.switchStart = s := by
  unfold State.switchStart
  rw [h]

theorem State.ethAllDown_down (h0 : s.port.eth[0].up = false) (h1 : s.port.eth[1].up = false) : s.ethAllDown = s := by
  unfold State.ethAllDown
  rw [State.ethLink_same (e := 0) h0, State.ethLink_same (e := 1) h1]

theorem State.switchStart_net {q : List Nat} (hq : s.pwr.switchQ = 5 :: q) (hs : s.pwr.switching = none) (h0 : s.port.eth[0].up = false)
    (h1 : s.port.eth[1].up = false) : s.switchStart = { s with pwr := { s.pwr with
      switching := some 5, switchQ := q, dom := s.pwr.dom.set 5 { s.dom 5 with step := 4 } } } := by
  unfold State.switchStart
  rw [hq]
  dsimp only
  rw [hs]
  exact State.ethAllDown_down h0 h1

theorem State.switched_iff : s.switched d = true ↔ (s.dom d).st = 3 ∧ ((s.dom d).step = 4 ∨ (s.dom d).step = 5) := by
  unfold State.switched
  simp

theorem State.dom_freeSwitch (s : State) (d e : Fin 18) : (s.freeSwitch d).dom e = s.dom e := by
  unfold State.freeSwitch
  split <;> rfl

theorem State.entryConfirm_done (hst : (s.dom d).st = 3) (hp : (s.dom d).step = 4 ∨ (s.dom d).step = 5) (hw : (s.dom d).wake = false)
    (hh : (s.dom d).held = none) : s.entryConfirm d
      = ((s.freeSwitch d).putDom d { s.dom d with st := (s.dom d).other, step := 0, wake := false }).count Obj.PW_COUNTS d 0 := by
  unfold State.entryConfirm
  rw [if_neg (by rw [State.switched_iff.2 ⟨hst, hp⟩]; decide)]
  dsimp only
  rw [hw, if_neg Bool.false_ne_true]
  refine State.actHeld_none ?_
  exact (congrArg Domain.held (State.dom_putDom_self (s.freeSwitch d) d _) :).trans hh

theorem State.not_switched (h : (s.dom d).st ≠ 3 ∨ (s.dom d).step < 4) : s.switched d = false := by
  refine Bool.eq_false_iff.2 fun hs => ?_
  obtain ⟨h3, hp⟩ := State.switched_iff.1 hs
  omega

theorem State.entryTimeout_other (h : s.switched d = false) : s.entryTimeout d = s := if_pos (by rw [h]; rfl)

theorem State.entryConfirm_other (h : s.switched d = false) : s.entryConfirm d = s := if_pos (by rw [h]; rfl)

/-- An entry to off that is not confirmed. -/
def State.entryFailed (s : State) (d : Fin 18) : State :=
  ((((s.freeSwitch d).modDom d fun x => { x with st := 5, step := 0, wake := false, valid := false }).count Obj.PW_COUNTS d 3).lastFail
    d 2 1).raise Ev.ENTRY_FAIL d 1

theorem State.dom_entryFailed (s : State) (d e : Fin 18) : (s.entryFailed d).dom e
    = ((s.freeSwitch d).putDom d { s.dom d with st := 5, step := 0, wake := false, valid := false }).dom e := by
  rw [← State.dom_freeSwitch s d d]
  exact State.dom_of_pwr (State.raise_pwr ..) e

theorem State.entryTimeout_off (hst : (s.dom d).st = 3) (hp : (s.dom d).step = 4 ∨ (s.dom d).step = 5) (hw : (s.dom d).wake = false)
    (hh : (s.dom d).held = none) (ho : (s.dom d).other = 0) : s.entryTimeout d = s.entryFailed d := by
  unfold State.entryTimeout
  rw [if_neg (by rw [State.switched_iff.2 ⟨hst, hp⟩]; decide)]
  dsimp only
  rw [hw, if_neg Bool.false_ne_true, if_neg (by omega : ¬(s.dom d).other = 1)]
  refine State.actHeld_none (s := s.entryFailed d) ?_
  rw [State.dom_entryFailed, State.dom_putDom_self]
  exact hh

end Entry

section Exit
variable {s : State} {d : Fin 18} {k : List Nat}

theorem State.domainExit_other (h : (s.dom d).st ≠ 4) : s.domainExit d k = s := if_pos h

theorem State.exitTimeout_other (h : (s.dom d).st ≠ 4) : s.exitTimeout d = s := if_neg h

/-- With the reference running, an exit from off is done, and one from retention restores what was saved. -/
theorem State.domainExit_clocked (h4 : (s.dom d).st = 4) (hc : s.start.clock ≠ 0) : s.domainExit d k
    = if (s.dom d).other = 1 then
        let r := s.checkSave d
        (if r.1 then r.2 else (r.2.count Obj.PW_COUNTS d 4).domainDown d true).exitDone d r.1
      else s.exitDone d false := by
  unfold State.domainExit
  dsimp only
  simp only [hc, false_and, if_false, h4, ne_eq, not_true_eq_false]

theorem State.checkSave_valid (h1 : s.aon.bank[3].st = 1) (hi : s.aon.bank[3].intact = true) : s.checkSave d = ((s.dom d).valid, s) :=
  if_pos ⟨h1, hi⟩

/-- Without the reference, and with none that qualifies, a domain that needs it fails. -/
theorem State.domainExit_noRef (h4 : (s.dom d).st = 4) (hc : s.start.clock = 0) (hn : needsRef d = true)
    (hq : (qualifiedAt s.start.refSel k).isSome = false) :
    s.domainExit d k = ((s.countRefusal d d 7).raise Ev.DOMAIN_REFUSED d 7 d).wakeFail d 2 := by
  unfold State.domainExit
  dsimp only
  simp only [hc, hn, hq, h4, ne_eq, not_true_eq_false, if_false, and_false, or_true, Bool.not_false, Bool.false_eq_true, and_self,
    if_true]

theorem State.pwr_ringOn (s : State) (n : Fin 6) : (s.ringOn n).pwr = s.pwr := by
  unfold State.ringOn
  dsimp only
  split
  · generalize ((s.setRing n ⟨1, 0, 0, 0, 0, none⟩).host.held) = l
    have h : ∀ u : State, (l.foldl (fun (s : State) (r : RingRec) => s.postRing 1 r) u).pwr = u.pwr := by
      induction l with
      | nil => exact fun _ => rfl
      | cons r l ih => exact fun u => (ih _).trans (State.pwr_of_core (State.core_postRing ..))
    exact h _
  · rfl

theorem State.pwr_ringOff (s : State) (n : Fin 6) : (s.ringOff n).pwr = s.pwr := by
  unfold State.ringOff
  dsimp only
  split <;> rfl

theorem State.pwr_ringsLoad (s : State) : s.ringsLoad.pwr = s.pwr := by
  unfold State.ringsLoad
  generalize List.finRange 6 = l
  induction l generalizing s with
  | nil => rfl
  | cons n l ih =>
    rw [List.foldl_cons, ih]
    split_ifs
    · exact State.pwr_ringOn s n
    · exact State.pwr_ringOff s n
    · rfl

theorem State.pwr_domainUp (hd : d = 4 ∨ d = 16) (b : Bool) : (s.domainUp d b).pwr = s.pwr := by
  rcases hd with rfl | rfl
  · exact (State.pwr_ringsLoad _).trans (by cases b <;> rfl)
  · cases b <;> rfl

/-- The domain after an exit that ends, where its coming up leaves the power state alone. -/
theorem State.dom_exitDone (hd : d = 4 ∨ d = 16) (hh : (s.dom d).held = none) (b : Bool) : (s.exitDone d b).dom d
    = { s.dom d with st := 2, step := 0, former := none, valid := false, wake := false } := by
  unfold State.exitDone
  extract_lets s1
  have hs1 : (s1.domainUp d (!b)).dom d = { s.dom d with st := 2, step := 0, former := none, valid := false, wake := false } :=
    (State.dom_of_pwr (State.pwr_domainUp hd _) d).trans (State.dom_putDom_self ..)
  have hb : (s1.domainUp d (!b)).beginExits.dom d = (s1.domainUp d (!b)).dom d := by
    refine State.dom_beginExits (Domain.settled_of_on ?_)
    rw [hs1]
  rw [State.afterTransition, State.actHeld_none (by rw [hb, hs1]; exact hh), hb, hs1]

theorem State.failDependents_none (h : ∀ x : Fin 18, (s.dom x).former = none) : s.failDependents d = s := by
  refine List.foldl_fixed' (fun x => ?_) _
  rw [h x]

/-- The state in which a regulator has not confirmed. -/
def State.exitFailed (s : State) (d : Fin 18) : State :=
  ((((s.putDom d { s.dom d with st := 0, step := 0, former := none, valid := false }).setTarget d 0).count Obj.PW_COUNTS d 2).lastFail
    d 1 1).raise Ev.WAKE_FAIL d 1

theorem State.dom_exitFailed (s : State) (d e : Fin 18) :
    (s.exitFailed d).dom e = (s.putDom d { s.dom d with st := 0, step := 0, former := none, valid := false }).dom e :=
  State.dom_of_pwr (State.raise_pwr ..) e

theorem State.exitTimeout_off (h4 : (s.dom d).st = 4) (ho : (s.dom d).other = 0) (hh : (s.dom d).held = none)
    (hf : ∀ x : Fin 18, (s.dom x).former = none) : s.exitTimeout d = s.exitFailed d := by
  have hformer (x : Fin 18) : ((s.exitFailed d).dom x).former = none := by
    rw [State.dom_exitFailed, State.dom_putDom]
    split_ifs
    · rfl
    · exact hf x
  have hheld : ((s.exitFailed d).dom d).held = none := by
    rw [State.dom_exitFailed, State.dom_putDom_self]
    exact hh
  have hfail : s.wakeFail d 1 = ((s.exitFailed d).failDependents d).afterTransition d := by
    unfold State.wakeFail
    rw [if_neg (by omega : ¬(s.dom d).other = 1)]
    rfl
  rw [State.exitTimeout, if_pos h4, hfail, State.failDependents_none hformer, State.afterTransition, State.actHeld_none hheld]

end Exit

section Wakes
variable {s u : State}

theorem State.wakeSource_disabled {n : Nat} (h : s.wakeEnabled n = false) : s.wakeSource n = s := if_neg (by rw [h]; exact Bool.false_ne_true)

theorem State.wakeEnabled_alarm (h : s.cfgN Obj.RTC_ALARM_WAKE ≠ 1) : s.wakeEnabled 0 = false := by
  unfold State.wakeEnabled
  rw [if_pos rfl]
  exact beq_eq_false_iff_ne.2 h

theorem State.wakeEnabled_source {n : Nat} (h : 0 < n) : s.wakeEnabled n = (s.cfgN Obj.PW_WAKE_ENABLE).testBit n := if_neg h.ne'

/-- A wake source whose targets name one domain raises it alone. -/
theorem State.wakeBy_one {n : Nat} {d : Fin 18} (hd : d ≠ 0) (ht : s.cfgN Obj.PW_WAKE_TARGETS n = 2 ^ d.val)
    (hu : u = ((s.count Obj.PW_WAKE_COUNTS n).roSet Obj.PW_WAKE_LAST 0 0 n).roSet Obj.PW_WAKE_LAST 0 1 s.aon.tick) :
    s.wakeBy n = u.raiseDom d := by
  have hm : u.cfgN Obj.PW_WAKE_TARGETS n = 2 ^ d.val := by rw [hu]; exact ht
  have hw : s.wakeBy n = (List.finRange 18).foldl (fun (t : State) (e : Fin 18) =>
      if (u.cfgN Obj.PW_WAKE_TARGETS n).testBit e ∧ e.val ≠ 0 then t.raiseDom e else t) u := by
    rw [hu]
    rfl
  rw [hw, hm]
  have hstep (t : State) (e : Fin 18) : (if (2 ^ d.val).testBit e ∧ e.val ≠ 0 then t.raiseDom e else t) = if e = d then t.raiseDom e else t := by
    refine if_congr ?_ rfl rfl
    rw [Nat.testBit_two_pow, decide_eq_true_eq]
    constructor
    · exact fun h => (Fin.ext h.1).symm
    · rintro rfl
      exact ⟨rfl, fun h => hd (Fin.ext h)⟩
  simp only [hstep]
  obtain ⟨l₁, l₂, hl⟩ := List.append_of_mem (List.mem_finRange d)
  have hnd := List.nodup_finRange 18
  rw [hl] at hnd
  have h1 : d ∉ l₁ := fun h => (List.nodup_append.1 hnd).2.2 d h d (List.mem_cons_self ..) rfl
  have h2 : d ∉ l₂ := (List.nodup_cons.1 (List.nodup_append.1 hnd).2.1).1
  have hskip (l : List (Fin 18)) (h : d ∉ l) (t : State) : l.foldl (fun t e => if e = d then t.raiseDom e else t) t = t := by
    induction l generalizing t with
    | nil => rfl
    | cons e l ih =>
      obtain ⟨he, hl⟩ := not_or.1 (List.mem_cons.not.1 h)
      rw [List.foldl_cons, if_neg (Ne.symm he), ih hl]
  rw [hl, List.foldl_append, List.foldl_cons, hskip l₁ h1, if_pos rfl, hskip l₂ h2]

/-- A base in holdover with an unknown error. -/
def Base.Lost (b : Base) : Prop := b.st = 3 ∧ b.err = 0xFFFFFFFF

/-- A base that is in the list, or was lost before, is lost. -/
theorem State.lost_foldl (l : List (Fin 5)) (s : State) (j : Fin 5) (h : j ∈ l ∨ (s.time.base[j]).Lost) :
    ((l.foldl (fun (s : State) (i : Fin 5) => s.modBase i fun b => { b with st := 3, err := 0xFFFFFFFF }) s).time.base[j]).Lost := by
  induction l generalizing s with
  | nil => exact h.resolve_left List.not_mem_nil
  | cons i l ih =>
    rw [List.foldl_cons]
    refine ih _ ?_
    by_cases hij : i = j
    · subst hij
      rw [State.modBase_base_same]
      exact Or.inr ⟨rfl, rfl⟩
    · rw [State.modBase_base_ne _ _ hij]
      exact h.imp_left fun hm => (List.mem_cons.1 hm).resolve_left (Ne.symm hij)

theorem castSucc_mem (i : Fin 4) : i.castSucc ∈ [(0 : Fin 5), 1, 2, 3] := by
  revert i
  decide

theorem State.allHoldover_base (s : State) (i : Fin 4) : (s.allHoldover.time.base[i.castSucc]).Lost :=
  State.lost_foldl _ s _ (Or.inl (castSucc_mem i))

theorem State.refLoss_unclocked (h : s.start.clock = 0) : s.refLoss = s := if_pos h

/-- The reference is lost: no clock, memory out of service, every base but TB_MONO in holdover with an unknown error. -/
theorem State.refLoss_clocked (h : s.start.clock ≠ 0) : ∃ v : State, v.start.clock = 0 ∧ v.port.ddr ≠ 2
    ∧ s.refLoss = (v.allHoldover.lastFail 0xFF 1 2).raise Ev.WAKE_FAIL 0xFF 2 := by
  refine ⟨_, ?_, ?_, if_neg h⟩
  · rfl
  · dsimp only
    split_ifs with h2
    · decide
    · exact h2

end Wakes

theorem exec_quiesceEnd (d : Fin 18) (lanes : Nat) (s : State) : exec (.quiesceEnd d lanes) s = .next (s.quiesceEnd d lanes) := rfl
theorem exec_quiesceTimeout (d : Fin 18) (s : State) : exec (.quiesceTimeout d) s = .next (s.quiesceTimeout d) := rfl
theorem exec_saveStepStart (s : State) : exec .saveStepStart s = .next s.saveStart := rfl
theorem exec_saveStepEnd (s : State) : exec .saveStepEnd s = .next s.saveEnd := rfl
theorem exec_switchStepStart (s : State) : exec .switchStepStart s = .next s.switchStart.settled := rfl
theorem exec_entryConfirm (d : Fin 18) (s : State) : exec (.entryConfirm d) s = .next (s.entryConfirm d) := rfl
theorem exec_entryConfirmTimeout (d : Fin 18) (s : State) : exec (.entryConfirmTimeout d) s = .next (s.entryTimeout d) := rfl
theorem exec_domainExit (d : Fin 18) (counts : List Nat) (s : State) : exec (.domainExit d counts) s
    = .next (s.domainExit d counts).woke.settled := rfl
theorem exec_exitConfirmTimeout (d : Fin 18) (s : State) : exec (.exitConfirmTimeout d) s = .next (s.exitTimeout d) := rfl
theorem exec_wakeEvent (src : Nat) (s : State) : exec (.wakeEvent src) s = .next (if src < 8 then (s.wakeSource src).settled else s) := rfl
theorem exec_referenceLoss (s : State) : exec .referenceLoss s = .next s.refLoss.settled := rfl

end Sys2Proof.Machine

end

open Sys2Proof.Machine
/-- Settles O43. -/
theorem entriesAndExitsComplete : Obligations.EntriesAndExitsComplete := by
  unfold Obligations.EntriesAndExitsComplete
  simp only [exec_quiesceEnd, exec_quiesceTimeout, exec_saveStepStart, exec_saveStepEnd, exec_switchStepStart, exec_entryConfirm,
    exec_entryConfirmTimeout, exec_domainExit, exec_exitConfirmTimeout, exec_wakeEvent, exec_referenceLoss]
  refine ⟨⟨?other, ?aborts, ?refused, ?resume, ?isolates, ?path, ?timeout, ?saveStart, ?noSaveStart, ?noSaveEnd, ?saveEnd, ?noSwitch,
    ?switch, ?confirm, ?notSwitched, ?entryFails⟩, ?notExiting, ?exits, ?noRef, ?exitDone, ?exitFails, ?badSource, ?noAlarm, ?disabled,
    ?wakes, ?unclocked, ?lost⟩
  case other =>
    intro s d n h
    rw [State.quiesceEnd_other h, State.quiesceTimeout_other h]
    exact ⟨rfl, rfl⟩
  case aborts =>
    intro s d n h3 h1 hi hw
    rw [State.quiesceEnd_idle h3 h1 hi, if_pos hw]
  case refused =>
    intro s d n c r h3 h1 hi hw hl
    rw [State.quiesceEnd_idle h3 h1 hi, hw, if_neg Bool.false_ne_true, hl]
  case resume =>
    intro s d hc hh
    rw [State.dom_resume hc hh]
    exact ⟨hc, rfl, rfl⟩
  case isolates =>
    rintro s d n h3 h1 hw hl ⟨hu, hg, hp⟩
    rw [State.quiesceEnd_isolates h3 h1 hw hl hu hg hp]
    rfl
  case path =>
    intro s p d n hd h3 h1 hi hw hl hn
    rw [State.quiesceEnd_path hd h3 h1 hi hw hl hn]
    rfl
  case timeout =>
    intro s d h3 h1
    rw [State.quiesceTimeout_waiting h3 h1]
  case saveStart =>
    intro s d q hs hq h15 h17
    rw [State.saveStart_next hs hq h15 h17]
  case noSaveStart =>
    intro s h
    rw [State.saveStart_none h]
  case noSaveEnd =>
    intro s h
    rw [State.saveEnd_none h]
  case saveEnd =>
    intro s d h hw
    rw [State.saveEnd_waits h hw]
    have hbank : (s.saved d).aon.bank[(3 : Fin 4)] = ⟨1, s.draw.1 % 2 ^ 32, s.aon.tick, true⟩ := vmod_self ..
    refine ⟨_, rfl, rfl, rfl, rfl, State.dom_putDom_self .., ?_, ?_, ?_⟩
    · exact congrArg Bank.st hbank
    · exact congrArg Bank.intact hbank
    · exact congrArg Bank.sealedAt hbank
  case noSwitch =>
    intro s h
    rw [State.switchStart_none h]
  case switch =>
    intro s q hq hs h0 h1
    rw [State.switchStart_net hq hs h0 h1]
  case confirm =>
    intro s d hst hp hw hh
    rw [State.entryConfirm_done hst hp hw hh]
  case notSwitched =>
    intro s d h _
    rw [State.entryConfirm_other (State.not_switched h), State.entryTimeout_other (State.not_switched h)]
    exact ⟨rfl, rfl⟩
  case entryFails =>
    intro s d hst hp hw hh ho
    rw [State.entryTimeout_off hst hp hw hh ho]
    refine ⟨_, rfl, ?_, ?_, fun e he => ?_⟩
    · rw [State.dom_entryFailed, State.dom_putDom_self]
    · rw [State.dom_entryFailed, State.dom_putDom_self]
    · rw [State.dom_entryFailed, State.dom_putDom_ne he, State.dom_freeSwitch]
  case notExiting =>
    intro s d k h
    rw [State.domainExit_other h, State.exitTimeout_other h]
    exact ⟨rfl, rfl⟩
  case exits =>
    intro s d k h4 hc
    rw [State.domainExit_clocked h4 hc]
    refine ⟨fun ho => ?_, fun ho h1 hi hv => ?_⟩
    · rw [if_neg (by omega)]
    · rw [if_pos ho, State.checkSave_valid h1 hi, hv]
      rfl
  case noRef =>
    intro s d k h4 hc hn hq
    rw [State.domainExit_noRef h4 hc hn hq]
  case exitDone =>
    intro s b d hd hh
    rw [State.dom_exitDone hd hh]
    exact ⟨rfl, rfl, rfl⟩
  case exitFails =>
    intro s d h4 ho hh hf
    rw [State.exitTimeout_off h4 ho hh hf]
    rfl
  case badSource =>
    intro s n h
    rw [if_neg h.not_gt]
  case noAlarm =>
    intro s h
    rw [if_pos (by decide), State.wakeSource_disabled (State.wakeEnabled_alarm h)]
  case disabled =>
    intro s n h0 h8 h
    rw [if_pos h8, State.wakeSource_disabled ((State.wakeEnabled_source h0).trans h)]
  case wakes =>
    intro s u n d h0 h8 hd he ht hu
    rw [if_pos h8, State.wakeSource, if_pos ((State.wakeEnabled_source h0).trans he), State.wakeBy_one hd ht hu]
  case unclocked =>
    intro s h
    rw [State.refLoss_unclocked h]
  case lost =>
    intro s h
    obtain ⟨v, hclock, hddr, hloss⟩ := State.refLoss_clocked h
    rw [hloss]
    refine ⟨_, rfl, ?_, ?_, fun i => ?_⟩
    · rw [State.raise_start]
      exact hclock
    · rw [State.raise_port]
      exact hddr
    · rw [State.raise_time]
      exact v.allHoldover_base i

section
/-!
SUPPORT. Roots, key wraps and the district switch (14_security.md R473 to R479, 08_flock_routing_chorus.md R267) (O44).
-/

namespace Sys2Proof.Machine

/-! ### The instructions -/

theorem exec_secRootLoad (slot form : Nat) (key : Bytes) (s : State) : exec (.secRootLoad slot form key) s
    = .next (s.rootLoad slot form key) := rfl
theorem exec_secRootErase (m : Nat) (s : State) : exec (.secRootErase m) s = .next (s.rootErase m) := rfl
theorem exec_rootStoreWriteDone (ok : Bool) (s : State) : exec (.rootStoreWriteDone ok) s = .next (s.storeWritten ok) := rfl
theorem exec_secNextKeyWrap (n : Nat) (s : State) : exec (.secNextKeyWrap n) s = .next (s.nextKeyWrap n) := rfl
theorem exec_flockKeyWrap (v : Nat) (s : State) : exec (.flockKeyWrap v) s = .next (s.keyWrap v) := rfl
theorem exec_secDistrictSwitch (a : Nat) (s : State) : exec (.secDistrictSwitch a) s = .next (s.district a) := rfl
theorem exec_superframeEdge (s : State) : exec .superframeEdge s = .next s.superframeEdge.settled := rfl

variable {s : State}

/-! ### Key slots and the root store -/

theorem State.writeSlot_slot_same {i : Fin 64} (h : s.slotRetired i = false) (st key : Nat) :
    (s.writeSlot i st key).sec.slot[i] = ⟨st, (s.sec.slot[i].gen + 1) % 2 ^ 32, key⟩ := by
  refine (vmod_self s.sec.slot i _).trans ?_
  rw [h]
  rfl

theorem State.writeSlot_slot_ne {i j : Fin 64} (h : j ≠ i) (st key : Nat) : (s.writeSlot i st key).sec.slot[j] = s.sec.slot[j] :=
  vmod_ne s.sec.slot h _

/-- While no write of the root store runs, a new one starts at once. -/
theorem State.storeWrite_idle (h : s.sec.writing = none) (o : Nat) :
    ∃ w, s.storeWrite o = { s with act := (s.setAct o 1).act, sec := { s.sec with writing := some w } } := by
  unfold State.storeWrite
  simp only [State.setAct_sec, h]
  exact ⟨_, rfl⟩

theorem State.putRoot_low {n : Fin 4} (h : n.val < 2) (key : Nat) : s.putRoot n key = s.writeSlot ⟨n, by omega⟩ 1 key :=
  (if_neg (by omega)).trans (if_neg (by omega))

theorem State.eraseRoot_low {n : Fin 4} (h : n.val < 2) : s.eraseRoot n = s.eraseSlot ⟨n, by omega⟩ :=
  (if_neg (by omega)).trans (if_neg (by omega))

/-! ### Loads of a root -/

theorem State.rootLoad_refused {n f : Nat} {k : Bytes} (h : s.domServes 2 = false ∨ s.rootLoadCheck n f k ≠ 0) : s.rootLoad n f k = s := by
  refine if_neg fun hx => ?_
  rcases h with h | h
  · exact Bool.false_ne_true (h.symm.trans hx.1)
  · exact h hx.2

theorem State.rootLoadCheck_range {n f : Nat} (k : Bytes) (h : 3 < n ∨ 1 < f) : s.rootLoadCheck n f k = 4 := if_pos h

theorem State.rootLoadCheck_form0 {n : Nat} {k : Bytes} (hn : n ≤ 3) (hk : k.length = 40) (hb : ∃ b ∈ k.drop 32, b ≠ 0) :
    s.rootLoadCheck n 0 k = 3 := by
  obtain ⟨b, hb, hb0⟩ := hb
  refine (if_neg (by omega)).trans ((if_neg (not_not_intro hk)).trans (if_pos ⟨rfl, ?_⟩))
  exact List.any_eq_true.2 ⟨b, hb, bne_iff_ne.2 hb0⟩

/-- The checks of a wrapped root after its size. -/
theorem State.rootLoadCheck_wrapped {n : Nat} {k : Bytes} (hn : n ≤ 3) (hk : k.length = 40) : s.rootLoadCheck n 1 k
    = if s.rootConflict n = true ∨ s.tamperActive = true then 5 else if s.slotRetired n then 0x0D else 0 :=
  (if_neg (by omega)).trans ((if_neg (not_not_intro hk)).trans (if_neg fun hx => absurd hx.1 (by omega)))

theorem State.rootConflict_nodes (h : ∃ x ∈ s.flock.recs, x.2.link.st ≠ 0) : s.rootConflict 2 = true := by
  obtain ⟨x, hx, hst⟩ := h
  refine Bool.or_eq_true_iff.2 (.inl ?_)
  exact Bool.and_eq_true_iff.2 ⟨rfl, List.any_eq_true.2 ⟨x, hx, bne_iff_ne.2 hst⟩⟩

theorem State.rootConflict_switch (h : s.sec.switchAsn.isSome = true) : s.rootConflict 3 = true := by
  refine Bool.or_eq_true_iff.2 (.inr ?_)
  exact Bool.and_eq_true_iff.2 ⟨rfl, h⟩

theorem State.rootConflict_low {n : Nat} (h : n < 2) : s.rootConflict n = false := by
  have h2 : (n == 2) = false := by simp; omega
  have h3 : (n == 3) = false := by simp; omega
  simp [State.rootConflict, h2, h3]

theorem State.rootLoadCheck_plain {n : Nat} {k : Bytes} (hn : n < 2) (hk : k.length = 40) (hz : ∀ b ∈ k.drop 32, b = 0)
    (ht : s.tamperActive = false) (hr : s.slotRetired n = false) : s.rootLoadCheck n 0 k = 0 := by
  have hany : ¬ (k.drop 32).any (fun b => b != 0) = true := by
    rw [List.any_eq_true]
    rintro ⟨b, hb, hb0⟩
    exact bne_iff_ne.1 hb0 (hz b hb)
  refine (if_neg (by omega)).trans ((if_neg (not_not_intro hk)).trans ((if_neg fun hx => hany hx.2).trans ?_))
  rw [s.rootConflict_low hn, ht, hr]
  rfl

/-- A root in plain form enters its slot, and the store is written. -/
theorem State.rootLoadPut_plain {n : Nat} (k : Bytes) (hn : n < 2) (hs : s.sec.sealValue ≠ 0) (he : s.sec.erasePending = false) :
    s.rootLoadPut n 0 k = (s.writeSlot ⟨n, by omega⟩ 1 (leNat (k.take 32))).storeWrite Obj.SEC_ROOT_LOAD := by
  have hfin : (⟨n % 4, by omega⟩ : Fin 4) = ⟨n, by omega⟩ := Fin.ext (Nat.mod_eq_of_lt (by omega))
  unfold State.rootLoadPut
  extract_lets o kt s1 s2
  have h1 : s1 = s := if_neg hs
  have h2 : s2 = s := (if_neg (by rw [h1, he]; exact Bool.false_ne_true)).trans h1
  rw [if_pos rfl]
  dsimp only
  rw [if_neg fun hx => hs hx.1, if_neg fun hx => absurd hx.1 (by omega), hfin, State.putRoot_low hn, h2]

/-! ### The write of the root store -/

theorem State.storeWritten_none (h : s.sec.writing = none) (b : Bool) : s.storeWritten b = s := by
  unfold State.storeWritten
  rw [h]

theorem State.storeWritten_true {i : Fin 2} {c : Bytes} {o : Nat} (h : s.sec.writing = some (i, c, [o])) (hw : s.sec.waiting = []) :
    s.storeWritten true
      = State.setAct { s with sec := { s.sec with writing := none, waiting := [], store := s.sec.store.set i c } } o 0 := by
  unfold State.storeWritten
  rw [h]
  dsimp only
  rw [hw]
  rfl

theorem freeError_bounds (n : Nat) : 2 ≤ freeError n ∧ freeError n < 19 := by
  unfold freeError
  omega

theorem State.storeWritten_false {i : Fin 2} {c : Bytes} {o : Nat} (h : s.sec.writing = some (i, c, [o])) (hw : s.sec.waiting = []) :
    s.storeWritten false = State.setAct (State.drawn (State.raise (State.count
          { s with sec := { s.sec with writing := none, waiting := [], store := s.sec.store.set i [] } } Obj.MEM_FLASH_COUNTS 1)
          Ev.FLASH_PROG_FAIL)) o (freeError (State.raise (State.count
          { s with sec := { s.sec with writing := none, waiting := [], store := s.sec.store.set i [] } } Obj.MEM_FLASH_COUNTS 1)
          Ev.FLASH_PROG_FAIL).draw.1) := by
  unfold State.storeWritten
  rw [h]
  dsimp only
  rw [hw]
  rfl

/-! ### The erasure of roots -/

theorem State.rootErase_refused {m : Nat} (h : s.domServes 2 = false ∨ 16 ≤ m) : s.rootErase m = s := by
  refine if_neg fun hx => ?_
  rcases h with h | h
  · exact Bool.false_ne_true (h.symm.trans hx.1)
  · have h4 : s.rootEraseCheck m = 4 := if_pos h
    omega

theorem State.eraseTwo_slot_low {i : Fin 64} (hi : i.val < 2) :
    ((s.eraseSlot 0).eraseSlot 1).sec.slot[i] = ⟨0, (s.sec.slot[i].gen + 1) % 2 ^ 32, 0⟩ := by
  refine (State.eraseSlots_slot [0, 1] s i (by decide)).trans (if_pos ?_)
  obtain h | h : i = 0 ∨ i = 1 := by omega
  · exact List.mem_cons.2 (.inl h)
  · exact List.mem_cons_of_mem _ (List.mem_singleton.2 h)

theorem State.eraseTwo_slot_high {i : Fin 64} (hi : 2 ≤ i.val) : ((s.eraseSlot 0).eraseSlot 1).sec.slot[i] = s.sec.slot[i] := by
  refine (State.eraseSlots_slot [0, 1] s i (by decide)).trans (if_neg fun h => ?_)
  rcases List.mem_cons.1 h with h | h
  · subst h
    exact absurd hi (by decide)
  · obtain rfl := List.mem_singleton.1 h
    exact absurd hi (by decide)

theorem State.rootErasePut_three : s.rootErasePut 3 = ((s.eraseSlot 0).eraseSlot 1).storeWrite Obj.SEC_ROOT_ERASE := rfl

theorem State.rootErase_three (h : s.domServes 2 = true) :
    s.rootErase 3 = (((s.eraseSlot 0).eraseSlot 1).storeWrite Obj.SEC_ROOT_ERASE).accept Obj.SEC_ROOT_ERASE (scalar (3 : Nat)) :=
  if_pos ⟨h, rfl⟩

/-! ### Key wraps -/

/-- The effect of a use of a derived key stays within the cache. -/
theorem State.useKey_slot (i : Fin 64) (l : Nat) (c : List Nat) :
    ∃ x : SecState, s.useKey i l c = { s with sec := x } ∧ x.slot = s.sec.slot := by
  unfold State.useKey
  extract_lets k
  split
  · exact ⟨_, rfl, rfl⟩
  · split
    · exact ⟨_, rfl, rfl⟩
    · exact ⟨_, rfl, rfl⟩

theorem State.useLinkKey_slot (f : Nat) : ∃ x : SecState, s.useLinkKey f = { s with sec := x } ∧ x.slot = s.sec.slot := by
  unfold State.useLinkKey
  split
  · exact s.useKey_slot ..
  · exact ⟨_, rfl, rfl⟩

theorem State.nextKeyWrap_refused {n : Nat} (h : s.domServes 2 = false ∨ s.nextWrapCheck n ≠ 0) : s.nextKeyWrap n = s := by
  refine if_neg fun hx => ?_
  rcases h with h | h
  · exact Bool.false_ne_true (h.symm.trans hx.1)
  · exact h hx.2

theorem State.nextWrapCheck_conflict {n : Nat} (hn : n < 2 ^ 20) (h : s.sec.slot[(3 : Fin 64)].st = 0 ∨ s.recOf n = none) :
    s.nextWrapCheck n = 5 := by
  refine (if_neg (by omega)).trans ?_
  rcases h with h | h
  · exact if_pos h
  · rw [h]
    exact ite_self _

theorem State.nextWrapCheck_linked {n : Nat} {r : FlockRec} (hn : n < 2 ^ 20) (h3 : s.sec.slot[(3 : Fin 64)].st ≠ 0)
    (hr : s.recOf n = some r) (hst : r.link.st = 2 ∨ r.link.st = 3) : s.nextWrapCheck n = 0 := by
  refine (if_neg (by omega)).trans ((if_neg h3).trans ?_)
  rw [hr]
  exact if_pos hst

theorem State.nextWrapPut_some {n : Nat} {r : FlockRec} (hr : s.recOf n = some r) :
    ∃ x : SecState, s.nextWrapPut n = State.setAct { s with sec := x } Obj.SEC_NEXT_KEY_WRAP 0 ∧ x.slot = s.sec.slot
      ∧ x.nextWrap = (n, leNat (Machine.keyWrap (natLe 16 (s.linkKey 2 r)) (natLe 16 (s.linkKey 3 r)))) := by
  obtain ⟨y, hy, hys⟩ := s.useLinkKey_slot n
  obtain ⟨z, hz, hzs⟩ := (s.useLinkKey n).useKey_slot 3 0 [r.cfg.eui, r.cfg.keyEpoch]
  unfold State.nextWrapPut
  rw [hr]
  dsimp only
  rw [hz, hy] at *
  exact ⟨_, rfl, hzs.trans hys, rfl⟩

theorem State.keyWrap_refused {v : Nat} (h : s.domServes 2 = false ∨ s.keyWrapCheck v ≠ 0) : s.keyWrap v = s := by
  refine if_neg fun hx => ?_
  rcases h with h | h
  · exact Bool.false_ne_true (h.symm.trans hx.1)
  · exact h hx.2

theorem State.keyWrapCheck_ok {v : Nat} {r x : FlockRec} (hr : s.recOf (v / 2 ^ 32 % 2 ^ 20) = some r)
    (hx : s.recOf (v % 2 ^ 20) = some x) (hc : r.cfg.cls = 0x0C) (hst : r.link.st = 2) (hxst : x.link.st ≠ 0) : s.keyWrapCheck v = 0 := by
  unfold State.keyWrapCheck
  rw [hr, hx]
  exact if_pos ⟨hc, hst, hxst⟩

theorem State.keyWrapPut_some {v : Nat} {r c : FlockRec} (hr : s.recOf (v / 2 ^ 32 % 2 ^ 20) = some r)
    (hx : s.recOf (v % 2 ^ 20) = some c) :
    ∃ x : SecState, s.keyWrapPut v = State.setAct { s with sec := x } Obj.FLOCK_KEY_WRAP 0 ∧ x.slot = s.sec.slot
      ∧ x.flockWrap = (v % 2 ^ 20, c.tag (v % 2 ^ 20), leNat (Machine.keyWrap (natLe 16 (s.linkKey 2 r)) (natLe 16 (s.linkKey 2 c)))) := by
  obtain ⟨y, hy, hys⟩ := s.useLinkKey_slot (v % 2 ^ 20)
  obtain ⟨z, hz, hzs⟩ := (s.useLinkKey (v % 2 ^ 20)).useLinkKey_slot (v / 2 ^ 32 % 2 ^ 20)
  unfold State.keyWrapPut
  dsimp only
  rw [hr, hx]
  dsimp only
  rw [hz, hy] at *
  exact ⟨_, rfl, hzs.trans hys, rfl⟩

/-! ### The district switch -/

theorem State.district_refused {a : Nat} (h : s.domServes 2 = false ∨ s.sec.slot[(3 : Fin 64)].st = 0 ∨ a < s.asn + 64) :
    s.district a = s := by
  refine if_neg fun hx => ?_
  rcases h with h | h
  · exact Bool.false_ne_true (h.symm.trans hx.1)
  · have h5 : s.districtCheck a = 5 := if_pos h
    omega

theorem State.district_alone {a : Nat} (h2 : s.domServes 2 = true) (h3 : s.sec.slot[(3 : Fin 64)].st ≠ 0) (ha : s.asn + 64 ≤ a)
    (hr : ∀ x ∈ s.flock.recs, x.2.link.st = 0) :
    s.district a = State.bumpRev { s with sec := { s.sec with switchAsn := some a } } Obj.SEC_DISTRICT_SWITCH := by
  have hc : s.districtCheck a = 0 := if_neg (not_or.2 ⟨h3, Nat.not_lt.2 ha⟩)
  have hnil : s.flock.recs.filter (fun x => x.2.link.st != 0) = [] :=
    List.filter_eq_nil_iff.2 fun x hx => by simp [hr x hx]
  refine (if_pos ⟨h2, hc⟩).trans ?_
  unfold State.districtPut
  rw [hnil]
  rfl

theorem State.districtSwitch_none (h : s.sec.switchAsn = none) : s.districtSwitch = s := by
  unfold State.districtSwitch
  rw [h]

theorem State.districtSwitch_early {a : Nat} (h : s.sec.switchAsn = some a) (ha : s.asn ≠ a % 2 ^ 40) : s.districtSwitch = s := by
  unfold State.districtSwitch
  rw [h]
  exact if_pos ha

theorem foldl_fixed {α β : Type} (f : β → α → β) (b : β) (l : List α) (h : ∀ x ∈ l, f b x = b) : l.foldl f b = b := by
  induction l with
  | nil => rfl
  | cons x xs ih =>
    rw [List.foldl_cons, h x List.mem_cons_self]
    exact ih fun y hy => h y (List.mem_cons_of_mem _ hy)

/-- Without a configured group no group slot changes. -/
theorem State.deriveGroups_none (hg : ∀ i < 40, s.cfgN Obj.SEC_GROUPS i = 0) (he : ∀ i : Fin 64, 24 ≤ i.val → s.sec.slot[i].st = 0) :
    s.deriveGroups = s := by
  refine foldl_fixed _ s _ fun i _ => ?_
  have hk : s.groupSlotKey i = none := if_pos (.inl (hg i i.isLt))
  unfold State.deriveGroup
  rw [hk]
  exact if_pos (he _ (Nat.le_add_right ..))

/-- Without a campaign no campaign slot changes. -/
theorem State.deriveCampaigns_none (hc : ∀ k : Fin 4, s.flock.camp[k].st = 0) : s.deriveCampaigns = s := by
  refine foldl_fixed _ s _ fun k _ => ?_
  dsimp only
  rw [hc k]
  exact if_neg (by omega)

/-- The state in which the slots of the next district have moved. -/
def State.districtMoved (s : State) : State := ((s.modSec fun x => { x with switchAsn := none }).moveSlot 3 2).moveSlot 5 4

theorem State.moveSlot_other {a b i : Fin 64} (ha : i ≠ a) (hb : i ≠ b) : (s.moveSlot a b).sec.slot[i] = s.sec.slot[i] :=
  (State.writeSlot_slot_ne ha ..).trans (State.writeSlot_slot_ne hb ..)

theorem State.moveSlot_to {a b : Fin 64} (h : b ≠ a) (hb : s.slotRetired b = false) :
    (s.moveSlot a b).sec.slot[b] = ⟨s.sec.slot[a].st, (s.sec.slot[b].gen + 1) % 2 ^ 32, s.sec.slot[a].key⟩ :=
  (State.writeSlot_slot_ne h ..).trans (State.writeSlot_slot_same hb ..)

theorem State.moveSlot_from {a b : Fin 64} (h : b ≠ a) :
    (s.moveSlot a b).sec.slot[a] = ⟨0, (s.sec.slot[a].gen + 1) % 2 ^ 32, 0⟩ := by
  refine ((s.writeSlot b s.sec.slot[a].st s.sec.slot[a].key).writeSlot_same a 0 (.inr rfl)).trans ?_
  rw [State.writeSlot_slot_ne h.symm]

theorem State.cfgPut_cfg_congr {t : State} (i : Nat) (v : Val) (h : t.cfg = s.cfg) : (t.cfgPut i v).cfg = (s.cfgPut i v).cfg :=
  congrArg (storePut i v (dfltOf i)) h

theorem State.moveSlot_flock (a b : Fin 64) : (s.moveSlot a b).flock = s.flock := rfl

theorem State.moveSlot_cfg (a b : Fin 64) : (s.moveSlot a b).cfg = s.cfg := rfl

theorem State.districtMoved_flock : s.districtMoved.flock = s.flock := (State.moveSlot_flock ..).trans (State.moveSlot_flock ..)

theorem State.districtMoved_cfg : s.districtMoved.cfg = s.cfg := (State.moveSlot_cfg ..).trans (State.moveSlot_cfg ..)

theorem State.moveSlot_switchAsn (a b : Fin 64) : (s.moveSlot a b).sec.switchAsn = s.sec.switchAsn := rfl

theorem State.districtMoved_switchAsn : s.districtMoved.sec.switchAsn = none :=
  (State.moveSlot_switchAsn ..).trans (State.moveSlot_switchAsn ..)

theorem State.cfgN_of_cfg {t : State} (h : t.cfg = s.cfg) (i e : Nat) : t.cfgN i e = s.cfgN i e := by
  unfold State.cfgN State.cfgVal
  rw [h]

theorem State.districtMoved_high {i : Fin 64} (hi : i.val < 2 ∨ 6 ≤ i.val) : s.districtMoved.sec.slot[i] = s.sec.slot[i] := by
  have hne : ∀ j : Fin 64, 2 ≤ j.val → j.val < 6 → i ≠ j := fun j hj hj' hx => by
    subst hx
    omega
  exact (State.moveSlot_other (hne 5 (by decide) (by decide)) (hne 4 (by decide) (by decide))).trans
    (State.moveSlot_other (hne 3 (by decide) (by decide)) (hne 2 (by decide) (by decide)))

theorem State.districtMoved_derived (hc : ∀ k : Fin 4, s.flock.camp[k].st = 0) (he : ∀ i : Fin 64, 24 ≤ i.val → s.sec.slot[i].st = 0)
    (hg : ∀ i < 40, s.cfgN Obj.SEC_GROUPS i = 0) : s.districtMoved.deriveGroups.deriveCampaigns = s.districtMoved := by
  have hgroups : s.districtMoved.deriveGroups = s.districtMoved :=
    State.deriveGroups_none (fun i hi => (State.cfgN_of_cfg State.districtMoved_cfg ..).trans (hg i hi)) fun i hi => by
      rw [State.districtMoved_high (.inr (by omega))]
      exact he i hi
  rw [hgroups]
  exact State.deriveCampaigns_none fun k => by
    rw [State.districtMoved_flock]
    exact hc k

theorem State.districtSwitch_due {a : Nat} (h : s.sec.switchAsn = some a) (ha : s.asn = a % 2 ^ 40) (hr : s.flock.recs = [])
    (hc : ∀ k : Fin 4, s.flock.camp[k].st = 0) (he : ∀ i : Fin 64, 24 ≤ i.val → s.sec.slot[i].st = 0)
    (hg : ∀ i < 40, s.cfgN Obj.SEC_GROUPS i = 0) : s.districtSwitch
      = (s.districtMoved.rekeyAll.cfgPut Obj.FL_CHORUS_BASE_SLOT (scalar (64 * a : Nat))).bumpRev Obj.FL_CHORUS_BASE_SLOT := by
  unfold State.districtSwitch
  rw [h]
  refine (if_neg (not_not_intro ha)).trans ?_
  rw [← State.districtMoved]
  dsimp only
  rw [State.districtMoved_derived hc he hg, State.districtMoved_flock, hr]
  rfl

theorem State.districtMoved_slots (hr : ∀ i < 6, s.slotRetired i = false) :
    s.districtMoved.sec.slot[(2 : Fin 64)]
        = ⟨s.sec.slot[(3 : Fin 64)].st, (s.sec.slot[(2 : Fin 64)].gen + 1) % 2 ^ 32, s.sec.slot[(3 : Fin 64)].key⟩
      ∧ s.districtMoved.sec.slot[(4 : Fin 64)]
        = ⟨s.sec.slot[(5 : Fin 64)].st, (s.sec.slot[(4 : Fin 64)].gen + 1) % 2 ^ 32, s.sec.slot[(5 : Fin 64)].key⟩
      ∧ s.districtMoved.sec.slot[(3 : Fin 64)] = ⟨0, (s.sec.slot[(3 : Fin 64)].gen + 1) % 2 ^ 32, 0⟩
      ∧ s.districtMoved.sec.slot[(5 : Fin 64)] = ⟨0, (s.sec.slot[(5 : Fin 64)].gen + 1) % 2 ^ 32, 0⟩
      ∧ ∀ i : Fin 64, i.val < 2 ∨ 6 ≤ i.val → s.districtMoved.sec.slot[i] = s.sec.slot[i] := by
  refine ⟨?_, ?_, ?_, ?_, fun i hi => State.districtMoved_high hi⟩
  · exact (State.moveSlot_other (by decide) (by decide)).trans (State.moveSlot_to (by decide) (hr 2 (by omega)))
  · refine (State.moveSlot_to (by decide) (hr 4 (by omega))).trans ?_
    rw [State.moveSlot_other (by decide) (by decide), State.moveSlot_other (by decide) (by decide)]
    rfl
  · exact (State.moveSlot_other (by decide) (by decide)).trans (State.moveSlot_from (by decide))
  · refine (State.moveSlot_from (by decide)).trans ?_
    rw [State.moveSlot_other (by decide) (by decide)]
    rfl

end Sys2Proof.Machine
end

open Sys2Proof.Machine

/-- Settles O44. -/
theorem rootsWrapsAndDistrictSwitch : Obligations.RootsWrapsAndDistrictSwitch := by
  unfold Obligations.RootsWrapsAndDistrictSwitch
  simp only [exec_secRootLoad, exec_secRootErase, exec_rootStoreWriteDone, exec_secNextKeyWrap, exec_flockKeyWrap, exec_secDistrictSwitch,
    exec_superframeEdge]
  refine ⟨⟨?loadRefused, ?loadPlain, ?range, ?form0, ?tamper, ?nodes, ?switching, ?retired, ?eraseRefused, ?eraseTwo, ?noWrite, ?writeOk,
    ?writeFail⟩, ?nextRefused, ?nextConflict, ?nextWrap, ?wrapRefused, ?wrap, ?districtRefused, ?districtSet, ?edge, ?noSwitch, ?early, ?due⟩
  case loadRefused =>
    intro s n f k h
    rw [State.rootLoad_refused h]
  case loadPlain =>
    intro s n k hn hserves ht hret hk hz hseal herase hw
    have hfin : (⟨n.val, by omega⟩ : Fin 64) = n := rfl
    have hload : s.rootLoad n 0 k = (s.rootLoadPut n 0 k).bumpRev Obj.SEC_ROOT_LOAD :=
      if_pos ⟨hserves, State.rootLoadCheck_plain hn hk hz ht hret⟩
    obtain ⟨w, hstore⟩ := State.storeWrite_idle (s := s.writeSlot n 1 (leNat (k.take 32))) hw Obj.SEC_ROOT_LOAD
    rw [hload, State.rootLoadPut_plain k hn hseal herase, hfin, hstore]
    refine ⟨_, rfl, rfl, State.writeSlot_slot_same hret .., fun i hi => State.writeSlot_slot_ne hi .., ?_, rfl, rfl⟩
    exact State.actOf_setAct_self _ Nat.one_ne_zero
  case range => exact fun s n f k h => State.rootLoadCheck_range k h
  case form0 => exact fun s n k hn hk hb => State.rootLoadCheck_form0 hn hk hb
  case tamper =>
    intro s n k hn hk ht
    rw [State.rootLoadCheck_wrapped hn hk]
    exact if_pos (.inr ht)
  case nodes =>
    intro s k hk hx
    rw [State.rootLoadCheck_wrapped (by omega) hk]
    exact if_pos (.inl (State.rootConflict_nodes hx))
  case switching =>
    intro s k hk hx
    rw [State.rootLoadCheck_wrapped (by omega) hk]
    exact if_pos (.inl (State.rootConflict_switch hx))
  case retired =>
    intro s n k hn hk ht hr
    rw [State.rootLoadCheck_wrapped (by omega) hk, State.rootConflict_low hn, ht, hr]
    rfl
  case eraseRefused =>
    intro s m h
    rw [State.rootErase_refused h]
  case eraseTwo =>
    intro s h hw
    obtain ⟨w, hstore⟩ := State.storeWrite_idle (s := (s.eraseSlot 0).eraseSlot 1) hw Obj.SEC_ROOT_ERASE
    rw [State.rootErase_three h, hstore]
    exact ⟨_, rfl, rfl, fun i hi => State.eraseTwo_slot_low hi, fun i hi => State.eraseTwo_slot_high hi, rfl⟩
  case noWrite =>
    intro s b h
    rw [State.storeWritten_none h]
  case writeOk =>
    intro s i c o h hw
    rw [State.storeWritten_true h hw]
  case writeFail =>
    intro s i c o h hw
    rw [State.storeWritten_false h hw]
    exact ⟨_, (freeError_bounds _).1, (freeError_bounds _).2, rfl⟩
  case nextRefused =>
    intro s n h
    rw [State.nextKeyWrap_refused h]
  case nextConflict => exact fun s n hn h => State.nextWrapCheck_conflict hn h
  case nextWrap =>
    intro s n r hn hserves h3 hr hst
    obtain ⟨x, hput, hslot, hwrap⟩ := State.nextWrapPut_some hr
    have hrun : s.nextKeyWrap n = (s.nextWrapPut n).bumpRev Obj.SEC_NEXT_KEY_WRAP :=
      if_pos ⟨hserves, State.nextWrapCheck_linked hn h3 hr hst⟩
    rw [hrun, hput]
    exact ⟨_, rfl, rfl, hwrap, hslot⟩
  case wrapRefused =>
    intro s v h
    rw [State.keyWrap_refused h]
  case wrap =>
    intro s v r c hserves hr hc hcls hst hcst
    obtain ⟨x, hput, hslot, hwrap⟩ := State.keyWrapPut_some hr hc
    have hrun : s.keyWrap v = (s.keyWrapPut v).bumpRev Obj.FLOCK_KEY_WRAP :=
      if_pos ⟨hserves, State.keyWrapCheck_ok hr hc hcls hst hcst⟩
    rw [hrun, hput]
    exact ⟨_, rfl, rfl, hslot, hwrap⟩
  case districtRefused =>
    intro s a h
    rw [State.district_refused h]
  case districtSet =>
    intro s a h2 h3 ha hr
    rw [State.district_alone h2 h3 ha hr]
  case edge => exact fun s => rfl
  case noSwitch => exact fun s h => State.districtSwitch_none h
  case early => exact fun s a h ha => State.districtSwitch_early h ha
  case due =>
    intro s a h ha hr hc he hg hret
    obtain ⟨h2, h4, h3, h5, hother⟩ := State.districtMoved_slots hret
    rw [State.districtSwitch_due h ha hr hc he hg]
    exact ⟨_, rfl, State.districtMoved_switchAsn, h2, h4, h3, h5, hother, rfl, rfl,
      State.cfgPut_cfg_congr (t := s.districtMoved.rekeyAll) _ _ State.districtMoved_cfg⟩

section
/-!
SUPPORT. The derived-key cache, the random source and attestation (14_security.md R462, R467, R485) (O45).
-/

namespace Sys2Proof.Machine

/-! ### The instructions -/

theorem exec_keyDerivationDone (s : State) : exec .keyDerivationDone s = .next s.derivationDone := rfl
theorem exec_drbgReseed (s : State) : exec .drbgReseed s = .next s.reseed := rfl
theorem exec_entropyTestFail (s : State) : exec .entropyTestFail s = .next s.entropyLost := rfl
theorem exec_entropyRecovery (s : State) : exec .entropyRecovery s = .next (s.modSec fun x => { x with entropyFail := false }) := rfl
theorem exec_secAttestRequest (nonce : Nat) (s : State) : exec (.secAttestRequest nonce) s = .next (s.attestRequest nonce) := rfl
theorem exec_attestReportReady (s : State) : exec .attestReportReady s = .next s.attestReady := rfl

variable {s : State}

/-! ### The derived-key cache -/

theorem State.keyLive_iff {k : DerivedKey} (h : k.root < 64) : s.keyLive k = true ↔ s.sec.slot[(⟨k.root, h⟩ : Fin 64)].gen = k.gen := by
  unfold State.keyLive
  rw [dif_pos h]
  exact beq_iff_eq

theorem State.derivationDone_nil (h : s.sec.deriving_ = []) : s.derivationDone = s := by
  unfold State.derivationDone
  rw [h]

/-- A derivation whose root has changed meanwhile gives no key. -/
theorem State.derivationDone_stale {k : DerivedKey} {ks : List DerivedKey} (h : s.sec.deriving_ = k :: ks) (hl : s.keyLive k = false) :
    s.derivationDone = { s with sec := { s.sec with deriving_ := ks, cache := s.sec.cache.filter s.keyLive } } := by
  unfold State.derivationDone
  rw [h]
  dsimp only
  rw [hl, Bool.and_false]
  rfl

/-- A derived key enters the front of the cache; a full cache evicts. -/
theorem State.derivationDone_live {k : DerivedKey} {ks : List DerivedKey} (h : s.sec.deriving_ = k :: ks) (hl : s.keyLive k = true) :
    s.derivationDone = { s with
      sec := { s.sec with
        deriving_ := ks
        cache := (k :: s.sec.cache.filter s.keyLive).take s.keyLines
        evictions := if s.keyLines ≤ (s.sec.cache.filter s.keyLive).length then s.sec.evictions + 1 else s.sec.evictions } } := by
  unfold State.derivationDone
  rw [h]
  dsimp only
  rw [hl, Bool.and_true]
  simp only [decide_eq_true_eq]
  rfl

theorem State.derivationDone_cache_le (h : s.sec.cache.length ≤ s.keyLines) : s.derivationDone.sec.cache.length ≤ s.keyLines := by
  rcases hd : s.sec.deriving_ with _ | ⟨k, ks⟩
  · rw [State.derivationDone_nil hd]
    exact h
  · cases hl : s.keyLive k with
    | false =>
      rw [State.derivationDone_stale hd hl]
      exact (List.length_filter_le ..).trans h
    | true =>
      rw [State.derivationDone_live hd hl]
      exact List.length_take_le ..

theorem State.keyLines_le : s.keyLines ≤ 4096 := Nat.sub_le ..

theorem take_cons_length {α : Type} (k : α) {v : List α} (h : 0 < v.length) : (k :: v).take v.length = k :: v.dropLast := by
  obtain ⟨n, hn⟩ := Nat.exists_eq_succ_of_ne_zero (Nat.ne_of_gt h)
  rw [List.dropLast_eq_take, hn]
  rfl

/-! ### The random source -/

theorem State.reseed_ok (h : s.sec.entropyFail = false) : s.reseed = { s with sec := { s.sec with reseedAt := s.mono } } :=
  if_neg (by rw [h]; exact Bool.false_ne_true)

theorem State.entropyLost_ok (h : s.sec.entropyFail = false) :
    s.entropyLost = State.raise { s with sec := { s.sec with entropyFail := true } } Ev.ENTROPY_FAIL :=
  if_neg (by rw [h]; exact Bool.false_ne_true)

/-! ### Attestation -/

theorem State.attestRequest_busy (h : s.sec.attest.isSome = true) (n : Nat) : s.attestRequest n = s :=
  if_neg (by rw [State.attestCheck, if_pos h]; decide)

theorem State.attestRequest_idle {n : Nat} (h : s.sec.attest = none) (hn : n < 2 ^ 256) (ho : s.domOn 2 = true) :
    s.attestRequest n = (State.setAct
      { s with
        cfg := (s.cfgPut Obj.SEC_ATTEST_REQUEST ((natLe 32 n).map fun b => [(b.toNat : Int)])).cfg
        sec := { s.sec with attest := some n } } Obj.SEC_ATTEST_STATUS 1).bumpRev Obj.SEC_ATTEST_REQUEST := by
  refine (if_pos (by rw [State.attestCheck, h]; rfl)).trans ?_
  unfold State.attestPut
  rw [if_pos ho, Nat.mod_eq_of_lt hn]
  rfl

theorem State.attestReady_none (h : s.sec.attest = none) : s.attestReady = s := by
  unfold State.attestReady
  rw [h]

/-- The signed report: the body and the signature over its digest (R486). -/
def State.attestReport (s : State) (n : Nat) : Bytes :=
  s.attestBody n ++ natLe 4627 (Config.mldsaSign s.attestSeed (sha3 (s.attestBody n)))

theorem State.attestReady_some {n : Nat} (h : s.sec.attest = some n) : s.attestReady
    = State.setAct { s with sec := { s.sec with attest := none, report := s.attestReport n } } Obj.SEC_ATTEST_STATUS 0 := by
  unfold State.attestReady
  rw [h]
  rfl

theorem length_packLe (l : List (Nat × Nat)) : (packLe l).length = (l.map Prod.fst).sum := by
  induction l with
  | nil => rfl
  | cons x l ih => rw [packLe, List.length_append, length_natLe, ih, List.map_cons, List.sum_cons]

theorem State.attestBody_length (n : Nat) : (s.attestBody n).length = 192 := by
  unfold State.attestBody State.attestFields
  rw [length_packLe]
  simp only [List.map, List.sum_cons, List.sum_nil, Nat.reduceAdd]

theorem State.attestReport_length (n : Nat) : (s.attestReport n).length = 4819 := by
  rw [State.attestReport, List.length_append, State.attestBody_length, length_natLe]

/-- The leading fields of a report (Table SE-8). -/
theorem State.attestReport_fields (n : Nat) : ∃ rest, s.attestReport n = (natLe 4 0x54415445 ++ natLe 2 1 ++ [0xB1, 0])
    ++ (natLe 8 s.fw.otp.eui ++ (natLe 32 n ++ (natLe 12 (ts96 s.mono) ++ rest))) := by
  have hl : s.attestFields n = (4, 0x54415445) :: (2, 1) :: (1, 0xB1) :: (1, 0) :: (8, s.fw.otp.eui) :: (32, n) :: (12, ts96 s.mono)
      :: (s.attestFields n).drop 7 := rfl
  have hbody : s.attestBody n = natLe 4 0x54415445 ++ (natLe 2 1 ++ (natLe 1 0xB1 ++ (natLe 1 0 ++ (natLe 8 s.fw.otp.eui
      ++ (natLe 32 n ++ (natLe 12 (ts96 s.mono) ++ packLe ((s.attestFields n).drop 7))))))) := by
    unfold State.attestBody
    rw [hl]
    simp only [packLe, List.drop]
  have htwo : ([0xB1, 0] : Bytes) = natLe 1 0xB1 ++ natLe 1 0 := rfl
  refine ⟨packLe ((s.attestFields n).drop 7) ++ natLe 4627 (Config.mldsaSign s.attestSeed (sha3 (s.attestBody n))), ?_⟩
  unfold State.attestReport
  rw [htwo]
  generalize natLe 4627 _ = sig
  rw [hbody]
  simp only [List.append_assoc]

section
variable {x a b c rest : Bytes}

/-- The fields of a byte string at their offsets. -/
theorem fields_at (hx : x.length = 8) (ha : a.length = 8) (hb : b.length = 32) (hc : c.length = 12) :
    (x ++ (a ++ (b ++ (c ++ rest)))).take 8 = x ∧ ((x ++ (a ++ (b ++ (c ++ rest)))).take 16).drop 8 = a
      ∧ ((x ++ (a ++ (b ++ (c ++ rest)))).drop 16).take 32 = b ∧ ((x ++ (a ++ (b ++ (c ++ rest)))).drop 48).take 12 = c := by
  refine ⟨List.take_left' hx, ?_, ?_, ?_⟩
  · rw [List.drop_take, List.drop_left' hx]
    exact List.take_left' ha
  · rw [← List.append_assoc x a, List.drop_left' (by simp [hx, ha])]
    exact List.take_left' hb
  · rw [← List.append_assoc x a, ← List.append_assoc _ b, List.drop_left' (by simp [hx, ha, hb])]
    exact List.take_left' hc

end

theorem State.attestReport_at (n : Nat) : (s.attestReport n).take 8 = natLe 4 0x54415445 ++ natLe 2 1 ++ [0xB1, 0]
    ∧ ((s.attestReport n).take 16).drop 8 = natLe 8 s.fw.otp.eui ∧ ((s.attestReport n).drop 16).take 32 = natLe 32 n
    ∧ ((s.attestReport n).drop 48).take 12 = natLe 12 (ts96 s.mono) := by
  obtain ⟨rest, h⟩ := s.attestReport_fields n
  rw [h]
  exact fields_at rfl (length_natLe ..) (length_natLe ..) (length_natLe ..)

end Sys2Proof.Machine
end

open Sys2Proof.Machine

/-- Settles O45. -/
theorem cacheEntropyAttestation : Obligations.CacheEntropyAttestation := by
  unfold Obligations.CacheEntropyAttestation
  simp only [exec_keyDerivationDone, exec_drbgReseed, exec_entropyTestFail, exec_entropyRecovery, exec_secAttestRequest,
    exec_attestReportReady]
  refine ⟨?idle, ?room, ?full, ?stale, ?bound, ?lines, ?reseeds, ?failed, ?fails, ?recovers, ?busy, ?request, ?noRequest, ?ready⟩
  case idle =>
    intro s h
    rw [State.derivationDone_nil h]
  case room =>
    rintro s k ks v h hd hg rfl hlt
    rw [State.derivationDone_live hd ((State.keyLive_iff h).2 hg), if_neg (Nat.not_le.2 hlt), List.take_of_length_le hlt]
  case full =>
    rintro s k ks v h hd hg rfl hpos heq
    rw [State.derivationDone_live hd ((State.keyLive_iff h).2 hg), if_pos (Nat.le_of_eq heq.symm), ← heq,
      take_cons_length k (heq ▸ hpos)]
  case stale =>
    intro s k ks h hd hg
    rw [State.derivationDone_stale hd (Bool.eq_false_iff.2 fun hl => hg ((State.keyLive_iff h).1 hl))]
  case bound => exact fun s h => State.derivationDone_cache_le h
  case lines => exact fun s => State.keyLines_le
  case reseeds =>
    intro s h
    rw [State.reseed_ok h]
  case failed =>
    intro s h
    rw [State.reseed, if_pos h, State.entropyLost, if_pos h]
    exact ⟨rfl, rfl⟩
  case fails =>
    intro s h
    rw [State.entropyLost_ok h]
  case recovers => exact fun s => rfl
  case busy =>
    intro s n h
    rw [State.attestRequest_busy h]
  case request =>
    intro s n h hn ho
    rw [State.attestRequest_idle h hn ho]
    exact ⟨_, rfl, rfl, State.actOf_setAct_self _ Nat.one_ne_zero, rfl⟩
  case noRequest =>
    intro s h
    rw [State.attestReady_none h]
  case ready =>
    intro s n h
    rw [State.attestReady_some h]
    exact ⟨_, rfl, rfl, rfl, State.attestReport_length n, State.attestReport_at n⟩

section
/-!
SUPPORT. Alarm sources and presence windows (14_security.md R480 to R490) (O47).
-/

namespace Sys2Proof.Machine

/-! ### The instructions -/

theorem exec_tamperAlarm (bit : Nat) (s : State) : exec (.tamperAlarm bit) s = .next (s.tamper bit).settled := rfl
theorem exec_tamperSourceInactive (bit : Nat) (s : State) : exec (.tamperSourceInactive bit) s = .next (s.tamperEnd bit).settled := rfl
theorem exec_sealLoopBit (agrees : Bool) (s : State) : exec (.sealLoopBit agrees) s = .next (s.sealBit agrees).settled := rfl
theorem exec_secTamperClear (m : Nat) (s : State) : exec (.secTamperClear m) s = .next (s.tamperClear m) := rfl
theorem exec_presencePress (jumper : Bool) (ms : Nat) (s : State) : exec (.presencePress jumper ms) s
    = .next (s.press jumper ms).settled := rfl
theorem exec_presStuck (s : State) : exec .presStuck s = .next s.presStuck := rfl
theorem exec_presenceWindowExpiry (s : State) : exec .presenceWindowExpiry s = .next s.presenceExpiry.settled := rfl
theorem exec_secPresClose (s : State) : exec .secPresClose s = .next (s.closePresence.settled.bumpRev Obj.SEC_PRES_CLOSE) := rfl

variable {s : State}

/-! ### Alarm sources -/

/-- A source whose bit of PW_WAKE_ENABLE is clear is not enabled (R453). -/
theorem State.wakeEnabled_clear {k : Nat} (hk : k ≠ 0) (h : (s.cfgN Obj.PW_WAKE_ENABLE).testBit k = false) : s.wakeEnabled k = false :=
  (if_neg hk).trans h

theorem State.tamper_none {b : Nat} (h : 6 ≤ b ∨ s.sec.active.testBit b = true) : s.tamper b = s := if_pos h

/-- The state in which source `b` has become active. -/
def State.activated (s : State) (b : Nat) : State := { s with sec := { s.sec with active := s.sec.active ||| 2 ^ b } }

theorem State.tamperEnabled_high {b : Nat} (h : 2 ≤ b) : s.tamperEnabled b = true := if_neg (by omega)

theorem State.tamperEnabled_low {b : Nat} (h : b < 2) : s.tamperEnabled b = (s.cfgN Obj.SEC_TAMPER_ENABLE).testBit b := if_pos h

/-- The alarm of an activation of a source other than the seal loop. -/
theorem State.tamper_source {b : Nat} (h0 : b ≠ 0) (h6 : b < 6) (h : s.sec.active.testBit b = false) :
    s.tamper b = if s.tamperEnabled b then (s.activated b).zeroise (2 ^ b) else s.activated b := by
  have hen : (s.activated b).tamperEnabled b = s.tamperEnabled b := rfl
  unfold State.tamper
  rw [if_neg (by rw [h]; exact not_or.2 ⟨Nat.not_le.2 h6, Bool.false_ne_true⟩)]
  change (if (!(if b = 0 then (s.activated b).wakeSource 3 else s.activated b).tamperEnabled b) = true
    then (if b = 0 then (s.activated b).wakeSource 3 else s.activated b)
    else if b = 0 then (if b = 0 then (s.activated b).wakeSource 3 else s.activated b).sealAlarm
      else (if b = 0 then (s.activated b).wakeSource 3 else s.activated b).zeroise (2 ^ b)) = _
  simp only [if_neg h0, hen]
  cases s.tamperEnabled b with
  | false => rfl
  | true => rfl

/-- The alarm of the seal loop in a window of class 3 is held. -/
theorem State.tamper_seal (h : s.sec.active.testBit 0 = false) (he : (s.cfgN Obj.SEC_TAMPER_ENABLE).testBit 0 = true)
    (hp : s.sec.presClass = 3) (hw : (s.cfgN Obj.PW_WAKE_ENABLE).testBit 3 = false) : s.tamper 0
      = State.raise { s with sec := { s.sec with active := s.sec.active ||| 1, sealHeld := true } } Ev.SEAL_OPENED := by
  have hwake : (s.activated 0).wakeSource 3 = s.activated 0 :=
    State.wakeSource_disabled (State.wakeEnabled_clear (s := s.activated 0) (by decide) hw)
  have hen : (s.activated 0).tamperEnabled 0 = true := (State.tamperEnabled_low (s := s.activated 0) (by decide)).trans he
  have halarm : (s.activated 0).sealAlarm
      = State.raise { s with sec := { s.sec with active := s.sec.active ||| 1, sealHeld := true } } Ev.SEAL_OPENED := if_pos hp
  unfold State.tamper
  rw [if_neg (by rw [h]; exact not_or.2 ⟨by decide, Bool.false_ne_true⟩)]
  change (if (!((s.activated 0).wakeSource 3).tamperEnabled 0) = true then _ else ((s.activated 0).wakeSource 3).sealAlarm) = _
  rw [hwake, hen, halarm]
  rfl

theorem State.tamperEnd_active {b : Nat} (h : s.sec.active.testBit b = true) : s.tamperEnd b
    = { s with sec := { s.sec with active := s.sec.active - 2 ^ b, sealHeld := if b = 0 then false else s.sec.sealHeld } } := if_pos h

theorem State.tamperEnd_inactive {b : Nat} (h : s.sec.active.testBit b = false) : s.tamperEnd b = s :=
  if_neg (by rw [h]; exact Bool.false_ne_true)

/-- A bit of the seal loop that differs. -/
theorem State.sealBit_differs : s.sealBit false
    = if min 2 (s.sec.mismatches + 1) = 2
      then State.tamper { s with sec := { s.sec with mismatches := min 2 (s.sec.mismatches + 1), matches_ := 0 } } 0
      else { s with sec := { s.sec with mismatches := min 2 (s.sec.mismatches + 1), matches_ := 0 } } := rfl

/-- A bit of the seal loop that agrees. -/
theorem State.sealBit_agrees : s.sealBit true
    = if min 2 (s.sec.matches_ + 1) = 2
      then State.tamperEnd { s with sec := { s.sec with mismatches := 0, matches_ := min 2 (s.sec.matches_ + 1) } } 0
      else { s with sec := { s.sec with mismatches := 0, matches_ := min 2 (s.sec.matches_ + 1) } } := rfl

theorem State.tamperClear_refused {m : Nat} (h : s.sec.presClass ≠ 3 ∨ m &&& s.sec.active ≠ 0) : s.tamperClear m = s := by
  refine if_neg fun hx => ?_
  rcases h with h | h
  · exact h hx.1
  · have h5 : s.tamperClearCheck m = 5 := if_neg h
    exact absurd (h5.symm.trans hx.2) (by decide)

theorem State.tamperClear_window {m : Nat} (h : s.sec.presClass = 3) (hm : m &&& s.sec.active = 0) :
    s.tamperClear m = (s.tamperClearPut m).accept Obj.SEC_TAMPER_CLEAR (scalar m) := if_pos ⟨h, if_pos hm⟩

/-! ### Presence windows -/

/-- The class that a press selects (R487). -/
def pressClass (j : Bool) (ms : Nat) : Nat := if j = true then 1 else if ms < 5000 then 2 else 3

theorem pressClass_pos (j : Bool) (ms : Nat) : pressClass j ms ≠ 0 := by
  unfold pressClass
  split
  · decide
  · split
    · decide
    · decide

theorem State.closeWindow_none (h : s.sec.presClass = 0) : s.closeWindow = s := if_pos h

theorem State.closePresence_none (h : s.sec.presClass = 0) : s.closePresence = s :=
  (State.closePresence_unheld (.inl (by omega))).trans (State.closeWindow_none h)

theorem State.press_stuck (hw : (s.cfgN Obj.PW_WAKE_ENABLE).testBit 2 = false) (h : s.sec.stuck = true) (j : Bool) (ms : Nat) :
    s.press j ms = { s with sec := { s.sec with stuck := false } } := by
  unfold State.press
  rw [State.wakeSource_disabled (State.wakeEnabled_clear (by decide) hw)]
  exact if_pos h

/-- A press that is not stuck. -/
theorem State.press_free (hw : (s.cfgN Obj.PW_WAKE_ENABLE).testBit 2 = false) (h : s.sec.stuck = false) (j : Bool) (ms : Nat) :
    s.press j ms = if 30000 ≤ ms then s.stuckPress
      else if s.sec.presClass = pressClass j ms then { s with sec := { s.sec with presAt := s.mono } }
      else State.raise (State.count (s.closePresence.modSec fun x =>
        { x with presClass := pressClass j ms, presAt := s.mono, presOpened := s.mono })
          Obj.SEC_PRES_COUNTS (pressClass j ms - 1)) Ev.PRESENCE_OPEN (pressClass j ms) := by
  unfold State.press
  rw [State.wakeSource_disabled (State.wakeEnabled_clear (by decide) hw), if_neg (by rw [h]; exact Bool.false_ne_true)]
  rfl

theorem State.presStuck_first (h : s.sec.stuck = false) :
    s.presStuck = (State.count { s with sec := { s.sec with stuck := true } } Obj.SEC_PRES_COUNTS 3).raise Ev.PRES_STUCK :=
  if_neg (by rw [h]; exact Bool.false_ne_true)

end Sys2Proof.Machine
end

open Sys2Proof.Machine

/-- Settles O47. -/
theorem alarmsAndPresence : Obligations.AlarmsAndPresence := by
  unfold Obligations.AlarmsAndPresence
  simp only [exec_tamperAlarm, exec_tamperSourceInactive, exec_sealLoopBit, exec_secTamperClear, exec_presencePress, exec_presStuck,
    exec_presenceWindowExpiry, exec_secPresClose]
  refine ⟨⟨?noAlarm, ?alarm, ?disabled, ?sealed, ?ends, ?sealEnds, ?inactive, ?firstDiffers, ?firstAgrees, ?secondDiffers, ?secondAgrees,
    ?clearRefused, ?clear⟩, ?opens, ?restarts, ?unsticks, ?long, ?stuckAgain, ?sticks, ?noWindow, ?closes, ?expires⟩
  case noAlarm =>
    intro s b h
    rw [State.tamper_none h]
  case alarm =>
    intro s b h2 h6 h
    rw [State.tamper_source (by omega) h6 h, if_pos (State.tamperEnabled_high h2)]
    rfl
  case disabled =>
    intro s h he
    rw [State.tamper_source (by decide) (by decide) h, if_neg (by
      rw [State.tamperEnabled_low (by decide), he]
      exact Bool.false_ne_true)]
    rfl
  case sealed =>
    intro s h he hp hw
    rw [State.tamper_seal h he hp hw]
  case ends =>
    intro s b h0 h
    rw [State.tamperEnd_active h, if_neg (Nat.ne_of_gt h0)]
  case sealEnds =>
    intro s h
    rw [State.tamperEnd_active h, if_pos rfl]
    rfl
  case inactive =>
    intro s b h
    rw [State.tamperEnd_inactive h]
  case firstDiffers =>
    intro s h
    rw [State.sealBit_differs, h]
    rfl
  case firstAgrees =>
    intro s h
    rw [State.sealBit_agrees, h]
    rfl
  case secondDiffers =>
    intro s h
    rw [State.sealBit_differs, h]
    rfl
  case secondAgrees =>
    intro s h
    rw [State.sealBit_agrees, h]
    rfl
  case clearRefused =>
    intro s m h
    rw [State.tamperClear_refused h]
  case clear =>
    intro s m h hm
    rw [State.tamperClear_window h hm]
    exact ⟨_, rfl, rfl, fun i => testBit_sub_and s.sec.latch m i⟩
  case opens =>
    rintro s j ms k hms hw hs hp rfl
    have hne : ¬ s.sec.presClass = pressClass j ms := fun hx => pressClass_pos j ms (hx.symm.trans hp)
    rw [State.press_free hw hs, if_neg (Nat.not_le.2 hms), if_neg hne, State.closePresence_none hp]
    rfl
  case restarts =>
    intro s j ms hms hw hs hp
    rw [State.press_free hw hs, if_neg (Nat.not_le.2 hms)]
    exact congrArg (fun u : State => Host.Outcome.next u.settled) (if_pos hp)
  case unsticks =>
    intro s j ms hw hs
    rw [State.press_stuck hw hs]
  case long =>
    intro s j ms hms hw hs
    rw [State.press_free hw hs, if_pos hms]
    rfl
  case stuckAgain =>
    intro s h
    rw [State.presStuck, if_pos h]
  case sticks =>
    intro s h
    rw [State.presStuck_first h]
  case noWindow =>
    intro s h
    rw [State.presenceExpiry, if_pos h, State.closePresence_none h]
    exact ⟨rfl, rfl⟩
  case closes =>
    intro s h
    rw [State.closePresence_unheld (.inl (by omega)), State.closeWindow, if_neg (by omega)]
    rfl
  case expires =>
    intro s h
    rw [State.presenceExpiry, if_neg h]

section
/-!
SUPPORT. The sources of time and TB_AIR's slew at a superframe (11_time_bases.md R383 to R391) (O50).
-/

namespace Sys2Proof.Machine

/-! ### The instructions -/

theorem exec_sourceDisqualified (s : State) : exec .sourceDisqualified s = .next s.disqualified := rfl
theorem exec_steppedClear (s : State) : exec .steppedClear s = .next s.steppedClear := rfl
theorem exec_tmHostTime (t : Nat) (s : State) : exec (.tmHostTime t) s
    = .next (if ts96Valid t then (s.hostTime t).accept Obj.TM_HOST_TIME (scalar t) else s) := rfl
theorem exec_tmAcceptStep (v : Nat) (s : State) : exec (.tmAcceptStep v) s = .next (s.acceptStep v) := rfl

variable {s : State}

/-! ### The selected source -/

theorem State.selectedSrc_none (h : s.time.selected = 0) : s.selectedSrc = none := dif_neg (by omega)

theorem State.selectedSrc_some {i : Fin 4} (h : s.time.selected = i.val + 1) : s.selectedSrc = some i := by
  refine (dif_pos (by omega)).trans (congrArg some (Fin.ext ?_))
  simp [h]

theorem State.disqualified_none (h : s.time.selected = 0) : s.disqualified = s := by
  unfold State.disqualified
  rw [State.selectedSrc_none h]

/-- The state in which the selected source is judged: the host's time, where it still qualifies, at the end of its validity. -/
def State.judged (s : State) (i : Fin 4) : State :=
  if i = 3 ∧ s.srcQualified 3 = true then
    s.toMono (s.time.src[(3 : Fin 4)].sampleAt + s.cfgN Obj.TM_HOST_VALID * secHalfNs + 1) else s

theorem State.disqualified_some {i : Fin 4} (h : s.time.selected = i.val + 1) : s.disqualified
    = if (s.judged i).srcQualified i = true then s.judged i
      else ((((s.judged i).select (s.judged i).choose).takeOffset.refreshFlags).tpRefresh 0).tpRefresh 1 := by
  unfold State.disqualified
  rw [State.selectedSrc_some h]
  rfl

theorem State.disqualified_kept {i : Fin 4} (h : s.time.selected = i.val + 1) (hi : i ≠ 3) (hq : s.srcQualified i = true) :
    s.disqualified = s := by
  have hj : s.judged i = s := if_neg fun hx => hi hx.1
  rw [State.disqualified_some h, hj, if_pos hq]

/-- A selected source that no longer qualifies is replaced (R383). -/
theorem State.disqualified_replaced {i : Fin 4} (h : s.time.selected = i.val + 1) (hq : s.srcQualified i = false) : s.disqualified
    = (((s.select s.choose).takeOffset.refreshFlags).tpRefresh 0).tpRefresh 1 := by
  have hj : s.judged i = s := if_neg fun hx => absurd ((hx.1 ▸ hq).symm.trans hx.2) Bool.noConfusion
  rw [State.disqualified_some h, hj, if_neg (by rw [hq]; exact Bool.false_ne_true)]

/-- The host's time that no longer holds is replaced at the end of its validity. -/
theorem State.disqualified_host {u : State} (h : s.time.selected = 4) (hq : s.srcQualified 3 = true)
    (hu : u = s.toMono (s.time.src[(3 : Fin 4)].sampleAt + s.cfgN Obj.TM_HOST_VALID * secHalfNs + 1)) (huq : u.srcQualified 3 = false) :
    s.disqualified = (((u.select u.choose).takeOffset.refreshFlags).tpRefresh 0).tpRefresh 1 := by
  have hj : s.judged 3 = u := (if_pos ⟨rfl, hq⟩).trans hu.symm
  rw [State.disqualified_some (i := 3) h, hj, if_neg (by rw [huq]; exact Bool.false_ne_true)]

theorem State.bestSrc_none {ok : Fin 4 → Bool} (h : ∀ i, ok i = false) : s.bestSrc ok = none :=
  foldl_fixed _ none _ fun i _ => if_neg (by rw [h i]; exact Bool.false_ne_true)

theorem State.choose_none {i : Fin 4} (h : s.time.selected = i.val + 1) (hq : ∀ j, s.srcQualified j = false) : s.choose = 0 := by
  unfold State.choose
  dsimp only
  rw [State.selectedSrc_some h]
  dsimp only
  refine (if_pos (by rw [hq i]; rfl)).trans ?_
  rw [State.bestSrc_none fun j => by rw [hq j]; rfl]

/-! ### Steps and the host's time -/

theorem State.steppedClear_none (h : s.time.steppedEnd = none) : s.steppedClear = s := by
  unfold State.steppedClear
  rw [h]

theorem State.steppedClear_some {e : Nat} (h : s.time.steppedEnd = some e) : s.steppedClear
    = State.refreshFlags { s.toMono e with time := { (s.toMono e).time with steppedEnd := none } } := by
  unfold State.steppedClear
  rw [h]
  rfl

theorem State.hostTime_eq (v : Nat) : s.hostTime v = { s with
    time := { s.time with
      src := s.time.src.set 3 { s.time.src[(3 : Fin 4)] with
        sample := ts96Half v, sampleAt := s.mono, present := true, sampleErr := s.cfgN Obj.TM_HOST_UNC * 2000 } } } := rfl

theorem State.acceptStep_ignored {v : Nat} (h : s.time.heldStep = none ∨ v ≠ 1) : s.acceptStep v = s := by
  unfold State.acceptStep
  rcases h with h | h
  · rw [h]
  · split
    · rfl
    · exact if_neg h

theorem State.acceptStep_held {e : Int} (h : s.time.heldStep = some e) :
    s.acceptStep 1 = { s with time := { s.time with stepDue := some e } } := by
  unfold State.acceptStep
  rw [h]
  rfl

/-! ### TB_AIR at a superframe -/

theorem State.advance_base_counting (h : s.time.counting = true) (d : HalfNs) (i : Fin 5) :
    (s.advance d).time.base[i] = { s.time.base[i] with now := s.time.base[i].now + d } := by
  simp [State.advance, h]

theorem State.advance_now_le (d : HalfNs) (i : Fin 5) : (s.advance d).time.base[i].now ≤ s.time.base[i].now + d := by
  simp only [State.advance, Fin.getElem_fin, Vector.getElem_mapIdx]
  split
  · exact Nat.le_refl _
  · exact Nat.le_add_right ..

theorem State.slewBase_now (i : Fin 5) (e : Int) : (s.slewBase i e).time.base[i].now
    = (((if e < 0 then s.advance e.natAbs else s).time.base[i].now : Int) + e).toNat := by
  unfold State.slewBase
  rw [State.modBase_base_same]
  rfl

theorem toNat_add_le {m n : Nat} {e : Int} (hm : m ≤ n + if e < 0 then e.natAbs else 0) : ((m : Int) + e).toNat ≤ n + e.natAbs := by
  split at hm
  · omega
  · omega

theorem le_toNat_add {m n : Nat} {e : Int} (hm : m = n + if e < 0 then e.natAbs else 0) : n ≤ ((m : Int) + e).toNat := by
  split at hm
  · omega
  · omega

theorem State.slewBase_now_le (i : Fin 5) (e : Int) : (s.slewBase i e).time.base[i].now ≤ s.time.base[i].now + e.natAbs := by
  rw [State.slewBase_now]
  refine toNat_add_le ?_
  split
  · exact s.advance_now_le _ i
  · exact Nat.le_refl _

/-- While the bases count, a slew takes no base back. -/
theorem State.slewBase_forward (h : s.time.counting = true) (i : Fin 5) (e : Int) :
    s.time.base[i].now ≤ (s.slewBase i e).time.base[i].now := by
  rw [State.slewBase_now]
  refine le_toNat_add ?_
  split
  · rw [State.advance_base_counting h]
  · rfl

theorem State.refreshFlags_now (i : Fin 5) : s.refreshFlags.time.base[i].now = s.time.base[i].now := by
  unfold State.refreshFlags
  rw [State.modBase_base_keeps Base.now, State.modBase_base_keeps Base.now]
  · exact fun _ => rfl
  · exact fun _ => rfl

theorem State.airSuperframe_unestablished (h : s.time.established = false) : s.airSuperframe = s :=
  if_neg fun hx => absurd (h.symm.trans hx.1) Bool.noConfusion

/-- The slew of a superframe is at most 10 µs (R391). -/
theorem State.airSuperframe_now : s.airSuperframe.time.base[(3 : Fin 5)].now ≤ s.time.base[(3 : Fin 5)].now + 20000
    ∧ (s.time.counting = true → s.time.base[(3 : Fin 5)].now ≤ s.airSuperframe.time.base[(3 : Fin 5)].now) := by
  unfold State.airSuperframe
  extract_lets d
  split
  · rw [State.refreshFlags_now]
    have hclamp := (natAbs_clampTo_le d (min 20000 (2 * s.cfgN Obj.TM_AIR_SLEW_RATE))).trans (Nat.min_le_left ..)
    exact ⟨(s.slewBase_now_le 3 _).trans (Nat.add_le_add_left hclamp _), fun h => s.slewBase_forward h 3 _⟩
  · exact ⟨Nat.le_add_right .., fun _ => Nat.le_refl _⟩

/-- Going on to the edge of the superframe changes time and the AON region alone. -/
theorem State.toEdge_frame : ∃ t a, s.toEdge.recordSlew = { s with time := t, aon := a } := by
  unfold State.recordSlew State.modTime State.toEdge
  split
  · exact ⟨_, _, rfl⟩
  · exact ⟨_, _, rfl⟩

/-! ### The work of an edge where nothing waits -/

theorem State.asn_congr {t : State} (ht : t.time = s.time) (hc : t.cfg = s.cfg) : t.asn = s.asn := by
  unfold State.asn State.asnAt State.air State.tSf State.tSlot State.cfgN State.cfgVal
  rw [ht, hc]

theorem State.cfg_withMesh (m : MeshState) : ({ s with mesh := m } : State).cfg = s.cfg := rfl

theorem State.pruneSearch_cfg : s.pruneSearch.cfg = s.cfg := State.cfg_withMesh _

theorem State.endEpoch_same (h : s.asn / 256 = s.mesh.guardEpoch) : s.endEpoch = s := if_pos h

theorem State.applyMaps_none (h : ∀ p : Fin 6, s.mesh.per[p].update = none) : (List.finRange 6).foldl State.applyMap s = s :=
  foldl_fixed _ s _ fun p _ => by
    unfold State.applyMap
    rw [h p]

theorem State.sendBeacons_none (h : ∀ p : Fin 6, s.cfgN (inst Obj.MESH_BEACON_ENABLE p) = 0) :
    (List.finRange 6).foldl State.sendBeacon s = s := foldl_fixed _ s _ fun p _ => if_pos (.inl (h p))

/-- The state in which the edge of superframe `n` is noted. -/
def State.edgeNoted (s : State) (n : Nat) : State := { s with mesh := { s.mesh with edgeAsn := n } }

/-- The work of an edge up to its windows. -/
def State.edgePrepared (s : State) : State := ((List.finRange 6).foldl State.applyMap s.endEpoch).resyncAll.pruneSearch

/-- The windows of an edge. -/
def State.edgeWindows (s : State) : State := s.flock.recs.foldl (fun s (x : Nat × FlockRec) => s.openWindow x.1 x.2) s

theorem State.edgeWork_eq : s.edgeWork
    = (List.finRange 6).foldl State.sendBeacon (s.edgeNoted (s.air / s.tSf)).edgePrepared.edgeWindows := by
  unfold State.edgeWork State.edgeWindows State.edgePrepared State.edgeNoted
  with_reducible rfl

theorem State.edgePrepared_quiet (hr : s.flock.recs = []) (hp : ∀ p : Fin 6, s.mesh.per[p].update = none)
    (he : s.asn / 256 = s.mesh.guardEpoch) : s.edgePrepared = s.pruneSearch := by
  rw [State.edgePrepared, State.endEpoch_same he, State.applyMaps_none hp, State.resyncAll, hr, List.foldl_nil]

theorem State.edgeWindows_none (hr : s.flock.recs = []) : s.edgeWindows = s := by
  rw [State.edgeWindows, hr, List.foldl_nil]

theorem State.flock_withMesh (m : MeshState) : ({ s with mesh := m } : State).flock = s.flock := rfl

theorem State.edgeNoted_quiet (hr : s.flock.recs = []) (hp : ∀ p : Fin 6, s.mesh.per[p].update = none)
    (hb : ∀ p : Fin 6, s.cfgN (inst Obj.MESH_BEACON_ENABLE p) = 0) (he : s.asn / 256 = s.mesh.guardEpoch) (n : Nat) :
    (List.finRange 6).foldl State.sendBeacon (s.edgeNoted n).edgePrepared.edgeWindows = (s.edgeNoted n).pruneSearch := by
  have hasn : (s.edgeNoted n).asn / 256 = (s.edgeNoted n).mesh.guardEpoch := by
    rw [State.asn_congr (s := s) (t := s.edgeNoted n) rfl rfl]
    exact he
  have hrecs : (s.edgeNoted n).flock.recs = [] := hr
  have hpruned : (s.edgeNoted n).pruneSearch.flock.recs = [] := (congrArg FlockState.recs (State.flock_withMesh _)).trans hrecs
  have hcfg : (s.edgeNoted n).pruneSearch.cfg = s.cfg := State.pruneSearch_cfg.trans (State.cfg_withMesh _)
  rw [State.edgePrepared_quiet hrecs hp hasn, State.edgeWindows_none hpruned]
  exact State.sendBeacons_none fun p => (State.cfgN_of_cfg hcfg ..).trans (hb p)

theorem State.edgeWork_quiet (hr : s.flock.recs = []) (hp : ∀ p : Fin 6, s.mesh.per[p].update = none)
    (hb : ∀ p : Fin 6, s.cfgN (inst Obj.MESH_BEACON_ENABLE p) = 0) (he : s.asn / 256 = s.mesh.guardEpoch) :
    s.edgeWork = (s.edgeNoted (s.air / s.tSf)).pruneSearch := by
  rw [State.edgeWork_eq]
  exact State.edgeNoted_quiet hr hp hb he _

/-- The edge of a superframe where nothing waits (R391, log entry 69). -/
theorem State.superframeEdge_quiet {u : State} (he : s.time.established = false) (hsw : s.sec.switchAsn = none) (hr : s.flock.recs = [])
    (hp : ∀ p : Fin 6, s.mesh.per[p].update = none ∧ s.cfgN (inst Obj.MESH_BEACON_ENABLE p) = 0) (hu : u = s.toEdge.recordSlew)
    (hg : u.asn / 256 = s.mesh.guardEpoch) : s.superframeEdge = (u.edgeNoted (u.air / u.tSf)).pruneSearch := by
  obtain ⟨t, a, hframe⟩ := s.toEdge_frame
  have hsuper : s.superframe = u := by
    rw [State.superframe, State.airSuperframe_unestablished he, hu]
  rw [State.superframeEdge, hsuper]
  rw [← hu] at hframe
  subst hframe
  rw [State.districtSwitch_none (s := { s with time := t, aon := a }) hsw]
  exact State.edgeWork_quiet (s := { s with time := t, aon := a }) hr (fun p => (hp p).1) (fun p => (hp p).2) hg

theorem State.edgeNoted_prune (n : Nat) : (s.edgeNoted n).pruneSearch = { s with
    mesh := { s.mesh with edgeAsn := n, search := s.mesh.search.filter fun x => decide (s.asn ≤ x.2 + 1) } } := by
  unfold State.pruneSearch
  rw [State.asn_congr (s := s) (t := s.edgeNoted n) rfl rfl]
  rfl

theorem State.edgeNoted_settled {u : State} (hr : s.flock.recs = []) (hq : s.flock.reqs = [])
    (hended : s.rf.ended = []) (hu : u = s.toEdge.recordSlew) (n : Nat) :
    (u.edgeNoted n).pruneSearch.settled = (u.edgeNoted n).pruneSearch := by
  obtain ⟨t, a, hframe⟩ := s.toEdge_frame
  have hrest : u = { s with time := t, aon := a } := hu.trans hframe
  have hflock : u.flock = s.flock := (congrArg State.flock hrest :)
  have hrf : u.rf = s.rf := (congrArg State.rf hrest :)
  have hrecs : u.flock.recs = [] := (congrArg FlockState.recs hflock).trans hr
  have hreqs : u.flock.reqs = [] := (congrArg FlockState.reqs hflock).trans hq
  have hend : u.rf.ended = [] := (congrArg RfState.ended hrf).trans hended
  rw [State.edgeNoted_prune]
  exact State.settled_idle _ hend (fun x hx => absurd (hrecs ▸ hx) List.not_mem_nil) hreqs

end Sys2Proof.Machine
end

open Sys2Proof.Machine

/-- Settles O50. -/
theorem sourcesComplete : Obligations.SourcesComplete := by
  unfold Obligations.SourcesComplete
  simp only [exec_sourceDisqualified, exec_steppedClear, exec_tmHostTime, exec_tmAcceptStep, exec_superframeEdge]
  refine ⟨?unselected, ?kept, ?replaced, ?host, ?noChoice, ?notStepped, ?cleared, ?hostTime, ?invalid, ?ignored, ?accepted, ?slew,
    ?unestablished, ?edge⟩
  case unselected =>
    intro s h
    rw [State.disqualified_none h]
  case kept =>
    intro s i h hi hq
    rw [State.disqualified_kept h hi hq]
  case replaced =>
    rintro s t i h hq rfl
    rw [State.disqualified_replaced h hq]
  case host =>
    rintro s u t h hq hu huq rfl
    rw [State.disqualified_host h hq hu huq]
  case noChoice => exact fun s i h hq => State.choose_none h hq
  case notStepped =>
    intro s h
    rw [State.steppedClear_none h]
  case cleared =>
    intro s e h
    rw [State.steppedClear_some h]
  case hostTime =>
    intro s v h
    rw [if_pos h, State.hostTime_eq]
  case invalid =>
    intro s v h
    rw [if_neg (by rw [h]; exact Bool.false_ne_true)]
  case ignored =>
    intro s v h
    rw [State.acceptStep_ignored h]
  case accepted =>
    intro s e h
    rw [State.acceptStep_held h]
  case slew => exact fun s => State.airSuperframe_now
  case unestablished => exact fun s h => State.airSuperframe_unestablished h
  case edge =>
    intro s u he hsw hr hq hended hp hu hg
    rw [State.superframeEdge_quiet he hsw hr hp hu hg, State.edgeNoted_settled hr hq hended hu]
    exact congrArg Host.Outcome.next (State.edgeNoted_prune _)

section
/-!
SUPPORT. PTP messages (11_time_bases.md R373 to R381) (O51).
-/

namespace Sys2Proof.Machine

/-! ### The instructions -/

theorem exec_ptpSync (k : Fin 2) (origin corr : Int) (s : State) : exec (.ptpSync k origin corr) s = .next (s.ptpSync k origin corr) := rfl
theorem exec_stepPendingEnd (k : Fin 2) (s : State) : exec (.stepPendingEnd k) s = .next (s.stepPendingEnd k) := rfl
theorem exec_ptpAnnounce (k : Fin 2) (m : Master) (s : State) : exec (.ptpAnnounce k m) s = .next (s.ptpAnnounce k m) := rfl
theorem exec_announceReceiptTimeout (k : Fin 2) (s : State) : exec (.announceReceiptTimeout k) s = .next (s.announceTimeout k) := rfl
theorem exec_ptpDelayReq (k : Fin 2) (from_ seq : Nat) (corr : Int) (s : State) : exec (.ptpDelayReq k from_ seq corr) s
    = .next (s.ptpDelayReq k from_ seq corr) := rfl
theorem exec_ptpDelayResp (k : Fin 2) (t : Int) (s : State) : exec (.ptpDelayResp k t) s = .next (s.ptpDelayResp k t) := rfl
theorem exec_ptpMessageTransmit (k : Fin 2) (s : State) : exec (.ptpMessageTransmit k) s = .next (s.ptpTransmit k) := rfl
theorem exec_pcsLatencyMeasured (e : Fin 2) (latIn latOut : Nat) (s : State) : exec (.pcsLatencyMeasured e latIn latOut) s
    = .next (if s.port.eth[e].up then s.pcsMeasured e latIn latOut else s) := rfl

variable {s : State} {k : Fin 2}

/-! ### Changes of one PTP port -/

theorem vmod_vmod {α : Type} {n : Nat} (v : Vector α n) (i : Fin n) (f g : α → α) : vmod (vmod v i f) i g = vmod v i fun x => g (f x) := by
  have h : (vmod v i f)[i] = f v[i] := vmod_self v i f
  unfold vmod at *
  rw [h, Vector.set_set]

theorem State.modPtp_modPtp (f g : Ptp → Ptp) : (s.modPtp k f).modPtp k g = s.modPtp k fun p => g (f p) :=
  congrArg (fun v => ({ s with time := { s.time with ptp := v } } : State)) (vmod_vmod s.time.ptp k f g)

theorem State.modPtp_ptp_same (f : Ptp → Ptp) : (s.modPtp k f).time.ptp[k] = f s.time.ptp[k] := vmod_self s.time.ptp k f

theorem State.modBase_ptp (i : Fin 5) (f : Base → Base) : (s.modBase i f).time.ptp = s.time.ptp := rfl

theorem State.modPtp_base (f : Ptp → Ptp) : (s.modPtp k f).time.base = s.time.base := rfl

/-! ### Synchronisation messages -/

/-- The offset that a synchronisation message gives (R374). -/
def State.syncOffset (s : State) (k : Fin 2) (o c : Int) : Int :=
  o + c + s.time.ptp[k].meanDelay + s.cfgI (inst Obj.ETH_TS_ASYM (s.ptpPort k)) - s.ptpIngress k

theorem State.ptpSync_ignored (h : s.ptpRuns k = false ∨ (s.time.ptp[k].portState ≠ 8 ∧ s.time.ptp[k].portState ≠ 9)) (o c : Int) :
    s.ptpSync k o c = s := by
  refine if_pos ?_
  rw [Bool.not_eq_true']
  exact h

/-- The state in which a synchronisation message has been noted. -/
def State.syncNoted (s : State) (k : Fin 2) (o c : Int) : State :=
  s.modPtp k fun p => { p with syncAt := s.ptpIngress k, syncCorr := o + c }

theorem State.ptpSync_slave (hr : s.ptpRuns k = true) (hst : s.time.ptp[k].portState = 8 ∨ s.time.ptp[k].portState = 9) (o c : Int) :
    s.ptpSync k o c = match s.time.ptp[k].pendingStep with
      | some os => (s.syncNoted k o c).modPtp k fun p => { p with pendingStep := some (os ++ [s.syncOffset k o c]) }
      | none =>
        if msHalfNs < (s.syncOffset k o c).natAbs then
          ((s.syncNoted k o c).modPtp k fun p => { p with pendingStep := some [s.syncOffset k o c], pendAt := s.mono }).modBase (ptpBase k)
            fun b => { b with st := 4 }
        else (s.syncNoted k o c).servo k (s.syncOffset k o c) := by
  refine (if_neg ?_).trans rfl
  rw [hr]
  rintro (h | ⟨h8, h9⟩)
  · exact Bool.noConfusion h
  · exact hst.elim h8 h9

theorem State.ptpSync_pending {l : List Int} (hr : s.ptpRuns k = true) (hst : s.time.ptp[k].portState = 8 ∨ s.time.ptp[k].portState = 9)
    (hp : s.time.ptp[k].pendingStep = some l) (o c : Int) : s.ptpSync k o c
      = s.modPtp k fun p => { p with syncAt := s.ptpIngress k, syncCorr := o + c, pendingStep := some (l ++ [s.syncOffset k o c]) } := by
  rw [State.ptpSync_slave hr hst, hp]
  exact State.modPtp_modPtp ..

theorem State.ptpSync_far (hr : s.ptpRuns k = true) (hst : s.time.ptp[k].portState = 8 ∨ s.time.ptp[k].portState = 9)
    (hp : s.time.ptp[k].pendingStep = none) {o c : Int} (hx : msHalfNs < (s.syncOffset k o c).natAbs) : s.ptpSync k o c
      = (s.modPtp k fun p => { p with
          syncAt := s.ptpIngress k, syncCorr := o + c, pendingStep := some [s.syncOffset k o c], pendAt := s.mono }).modBase (ptpBase k)
            fun b => { b with st := 4 } := by
  rw [State.ptpSync_slave hr hst, hp]
  refine (if_pos hx).trans ?_
  rw [State.syncNoted, State.modPtp_modPtp]

theorem State.ptpSync_near (hr : s.ptpRuns k = true) (hst : s.time.ptp[k].portState = 8 ∨ s.time.ptp[k].portState = 9)
    (hp : s.time.ptp[k].pendingStep = none) {o c : Int} (hx : (s.syncOffset k o c).natAbs ≤ msHalfNs) : s.ptpSync k o c
      = (s.syncNoted k o c).servo k (s.syncOffset k o c) := by
  rw [State.ptpSync_slave hr hst, hp]
  exact if_neg (Nat.not_lt.2 hx)

/-- The correction of a servo step: a free part of the offset within its limit (R375). -/
theorem State.servo_effect (o : Int) : ∃ (f e : Int) (b : Base → Base), s.servo k o
      = ({ s with free := s.free + 3 }.modPtp k fun p => { p with
          portState := 9, slaveFor := p.slaveFor + 1, offset := f, offsets := (f :: p.offsets).take 16 }).modBase (ptpBase k) b
    ∧ (∀ x, (b x).st = 2 ∧ (b x).now = ((x.now : Int) + e).toNat) ∧ e.natAbs ≤ s.syncInterval k / 10000 := by
  unfold State.servo
  extract_lets f s1 lim r s2 fr s3
  have hr : r.natAbs ≤ lim := by
    have hmod : s1.draw.1 % (lim + 1) < lim + 1 := Nat.mod_lt _ (Nat.succ_pos _)
    exact Nat.le_of_lt_succ hmod
  have hlim : lim ≤ s.syncInterval k / 10000 := Nat.min_le_right ..
  refine ⟨f, if o < 0 then -r else r, _, rfl, fun x => ⟨rfl, rfl⟩, ?_⟩
  split
  · rw [Int.natAbs_neg]
    exact hr.trans hlim
  · exact hr.trans hlim

theorem shifted_near {n m : Nat} {e : Int} (h : e.natAbs ≤ m) : ((n : Int) + e).toNat ≤ n + m ∧ n ≤ ((n : Int) + e).toNat + m := by
  omega

/-! ### The end of a pending step -/

theorem State.stepPendingEnd_none (h : s.time.ptp[k].pendingStep = none) : s.stepPendingEnd k = s := by
  unfold State.stepPendingEnd
  rw [h]

/-- The end of a pending step, in the state at its time. -/
def State.stepEnds (u : State) (k : Fin 2) (os : List Int) : State :=
  if os.any (fun o => decide (o.natAbs ≤ msHalfNs)) = true then
    ((u.modPtp k fun p => { p with pendingStep := none }).modBase (ptpBase k) fun b => { b with st := 2 }).count
      (inst Obj.PTP_COUNTS (k + 1)) 1
  else if lastAgree os = true then
    let e := meanFree (os.drop (os.length - 4)) 4 u.draw.1
    let s1 := u.drawn.modBase (ptpBase k) fun b => { b.shift e with
      st := 2, steps := min (b.steps + 1) 0xFFFFFFFF, lastStepAt := ts96 u.mono, lastStepSize := e }
    ((s1.raise Ev.PTP_STEP (k + 1) (lo32 e) (hi32 e)).count (inst Obj.PTP_COUNTS (k + 1)) 0).newMaster k s1.time.ptp[k].master
  else u.modPtp k fun p => { p with pendingStep := some [], pendAt := u.mono }

theorem State.stepPendingEnd_some {l : List Int} (h : s.time.ptp[k].pendingStep = some l) :
    s.stepPendingEnd k = (s.toMono (s.time.ptp[k].pendAt + 8 * s.syncInterval k)).stepEnds k l := by
  unfold State.stepPendingEnd
  rw [h]
  rfl

theorem any_near {l : List Int} : l.any (fun o => decide (o.natAbs ≤ msHalfNs)) = true ↔ ∃ o ∈ l, o.natAbs ≤ msHalfNs := by
  simp only [List.any_eq_true, decide_eq_true_eq]

theorem State.stepEnds_near {l : List Int} (h : ∃ o ∈ l, o.natAbs ≤ msHalfNs) : s.stepEnds k l
    = ((s.modPtp k fun p => { p with pendingStep := none }).modBase (ptpBase k) fun b => { b with st := 2 }).count
      (inst Obj.PTP_COUNTS (k + 1)) 1 := if_pos (any_near.2 h)

theorem lastAgree_short {l : List Int} (h : l.length < 4) : lastAgree l = false := by
  unfold lastAgree
  have h4 : ((l.drop (l.length - 4)).length == 4) = false := beq_eq_false_iff_ne.2 (by rw [List.length_drop]; omega)
  dsimp only
  rw [h4]
  rfl

theorem State.stepEnds_short {l : List Int} (h : ∀ o ∈ l, msHalfNs < o.natAbs) (hl : l.length < 4) :
    s.stepEnds k l = s.modPtp k fun p => { p with pendingStep := some [], pendAt := s.mono } := by
  refine (if_neg fun hx => ?_).trans (if_neg ?_)
  · obtain ⟨o, ho, hle⟩ := any_near.1 hx
    exact absurd hle (Nat.not_le.2 (h o ho))
  · rw [lastAgree_short hl]
    exact Bool.false_ne_true

theorem lastAgree_same (v : Int) : lastAgree [v, v, v, v] = true := by
  simp [lastAgree]

theorem meanFree_same (v : Int) (n : Nat) : meanFree [v, v, v, v] 4 n = v := by
  have hsum : [v, v, v, v].sum = v * 4 := by
    simp only [List.sum_cons, List.sum_nil]
    omega
  have hdiv : v * 4 / ((4 : Nat) : Int) = v := Int.mul_ediv_cancel v (by decide)
  rw [meanFree, hsum, roundFree, hdiv]
  exact if_pos rfl

theorem State.newMaster_time (m : Option Master) : ∃ g : Ptp → Ptp, (s.newMaster k m).time = (s.modPtp k g).time
    ∧ ∀ p, (g p).portState = 8 ∧ (g p).pendingStep = none := ⟨_, rfl, fun _ => ⟨rfl, rfl⟩⟩

/-- Four equal offsets step the base by their value (R377). -/
theorem State.stepEnds_agree {v : Int} (h : msHalfNs < v.natAbs) : ∃ (f : Base → Base) (g : Ptp → Ptp),
    (s.stepEnds k [v, v, v, v]).time = ((s.modBase (ptpBase k) f).modPtp k g).time
    ∧ (∀ b, (f b).now = ((b.now : Int) + v).toNat ∧ (f b).st = 2 ∧ (f b).steps = min (b.steps + 1) 0xFFFFFFFF)
    ∧ ∀ p, (g p).portState = 8 ∧ (g p).pendingStep = none := by
  have hfar : ¬ [v, v, v, v].any (fun o => decide (o.natAbs ≤ msHalfNs)) = true := by
    rw [any_near]
    rintro ⟨o, ho, hle⟩
    have hov : o = v := by simpa using ho
    exact absurd (hov ▸ hle) (Nat.not_le.2 h)
  unfold State.stepEnds
  rw [if_neg hfar, if_pos (lastAgree_same v)]
  extract_lets e s1
  have he : e = v := meanFree_same v _
  obtain ⟨g, hg, hgp⟩ := State.newMaster_time (s := (s1.raise Ev.PTP_STEP (k + 1) (lo32 e) (hi32 e)).count (inst Obj.PTP_COUNTS (k + 1)) 0)
    (k := k) s1.time.ptp[k].master
  refine ⟨fun b => { b.shift e with
    st := 2, steps := min (b.steps + 1) 0xFFFFFFFF, lastStepAt := ts96 s.mono, lastStepSize := e }, g, hg.trans ?_,
    fun b => ⟨?_, rfl, rfl⟩, hgp⟩
  · rw [State.modPtp_time, State.count_time, State.raise_time]
    rfl
  · rw [← he]
    rfl

/-! ### Masters -/

theorem State.ptpAnnounce_ignored (h : s.ptpRuns k = false ∨ s.ptpRole k = 2) (m : Master) : s.ptpAnnounce k m = s := by
  refine if_pos ?_
  rw [Bool.not_eq_true']
  exact h.imp_right .inl

theorem State.localPriority_default (h : s.cfgN (inst Obj.PTP_PROFILE (k + 1)) < 2) (m : Master) : s.localPriority k m = some m.localPriority := by
  unfold State.localPriority
  extract_lets row
  obtain h | h : s.cfgN (inst Obj.PTP_PROFILE (k + 1)) = 0 ∨ s.cfgN (inst Obj.PTP_PROFILE (k + 1)) = 1 := by omega
  · rw [h]
    rfl
  · rw [h]
    rfl

/-- The first master that a slave hears becomes its master (R378). -/
theorem State.ptpAnnounce_first (hr : s.ptpRuns k = true) (hrole : s.ptpRole k = 1) (hp : s.cfgN (inst Obj.PTP_PROFILE (k + 1)) < 2)
    (hm : s.time.ptp[k].master = none) (m : Master) : s.ptpAnnounce k m = s.drawn.newMaster k (some m) := by
  have hlp := State.localPriority_default hp m
  unfold State.ptpAnnounce
  extract_lets p alt lp m' beats s1
  have hlp' : lp = some m.localPriority := hlp
  have hm' : m' = m := by
    change { m with localPriority := lp.getD 0 } = m
    rw [hlp']
    rfl
  have hpm : p.master = none := hm
  have hbeats : beats = true := by
    change (match p.master with | some o => lexLt (masterKey m' alt) (masterKey o alt) | none => true) = true
    rw [hpm]
  rw [if_neg, if_neg, if_neg, if_neg, hm']
  · exact fun hx => absurd (hrole.symm.trans hx.1) (by decide)
  · rw [hbeats]
    exact Bool.noConfusion
  · rw [hpm]
    exact fun hx => Option.some_ne_none _ hx.symm
  · rw [hr, hrole, hlp']
    rintro (h | h | h)
    · exact Bool.noConfusion h
    · exact absurd h (by decide)
    · exact Bool.noConfusion h

theorem State.announceTimeout_none (hm : s.time.ptp[k].master = none) : s.announceTimeout k
    = if (s.ptpRole k = 3 ∧ s.time.established = true) ∧ s.ptpRuns k = true ∧ s.time.ptp[k].portState = 4 then
        (s.modPtp k fun p => { p with portState := 6 }).syncMasters else s := by
  refine (if_pos ?_).trans rfl
  rw [hm]
  rfl

/-- A slave whose master is lost is in holdover (R379). -/
theorem State.announceTimeout_slave {m : Master} (hm : s.time.ptp[k].master = some m) (hrole : s.ptpRole k = 1) : s.announceTimeout k
    = ((((s.toMono (s.time.ptp[k].annAt + s.cfgN (inst Obj.PTP_ANNOUNCE_TIMEOUT (k + 1)) * s.announceInterval k)).modPtp k fun p => { p with
      master := none, slaveFor := 0, pendingStep := none, portState := 4 })).modBase (ptpBase k) fun b => { b with st := 3, flags := 2 }).count
        (inst Obj.PTP_COUNTS (k + 1)) 3 := by
  have hnot : ¬ (s.ptpRole k = 3 ∧ s.time.established = true) := fun hx => absurd (hrole.symm.trans hx.1) (by decide)
  unfold State.announceTimeout
  extract_lets mast u s1
  rw [if_neg (by rw [hm]; exact Bool.false_ne_true)]
  have hs1 : s1 = u.modPtp k fun p => { p with master := none, slaveFor := 0, pendingStep := none, portState := 4 } := by
    change (u.modPtp k fun p => { p with
      master := none, slaveFor := 0, pendingStep := none, portState := if s.ptpRole k = 3 ∧ s.time.established = true then 6 else 4 }) = _
    rw [if_neg hnot]
  rw [hs1]

/-! ### Delay requests and responses -/

theorem State.ptpDelayReq_stopped (h : s.ptpRuns k = false) (a q : Nat) (c : Int) : s.ptpDelayReq k a q c = s :=
  if_pos (by rw [h]; rfl)

theorem State.ptpDelayReq_runs (h : s.ptpRuns k = true) (a q : Nat) (c : Int) : s.ptpDelayReq k a q c
    = if s.cfgN (inst Obj.PTP_PROFILE (k + 1)) = 1 then
        (s.ptpSend k (.ptp k 3 [(a : Int), q, s.ptpIngress k])).ptpSend k (.ptp k 10 [(a : Int), q, s.ptpEgress k, c])
      else if s.time.ptp[k].portState = 6 then
        match s.ptpGrant k a with
        | some t => t.ptpSend k (.ptp k 9 [(a : Int), q, s.ptpIngress k, c])
        | none => s
      else s := by
  refine (if_neg ?_).trans rfl
  rw [h]
  exact Bool.noConfusion

theorem State.ptpGrant_any (h : s.cfgN (inst Obj.PTP_PROFILE (k + 1)) ≠ 3) (a : Nat) : s.ptpGrant k a = some s := if_pos (.inl h)

theorem State.ptpDelayResp_none (h : s.time.ptp[k].reqAt = none) (x : Int) : s.ptpDelayResp k x = s := by
  unfold State.ptpDelayResp
  rw [h]

theorem roundFree_even {m d : Int} (h : m = 2 * d) (n : Nat) : roundFree m 2 n = d := by
  have hdiv : m / ((2 : Nat) : Int) = d := by omega
  unfold roundFree
  dsimp only
  rw [hdiv]
  exact if_pos (by omega)

theorem State.ptpDelayResp_some {x r d : Int} (h : s.time.ptp[k].reqAt = some r) (hr : s.ptpRuns k = true)
    (hp : s.cfgN (inst Obj.PTP_PROFILE (k + 1)) ≠ 1) (hd : (s.time.ptp[k].syncAt - s.time.ptp[k].syncCorr) + (x - r) = 2 * d) :
    s.ptpDelayResp k x = s.drawn.modPtp k fun p => { p with meanDelay := d, reqAt := none } := by
  unfold State.ptpDelayResp
  rw [h]
  dsimp only
  rw [if_neg (by rw [hr]; exact Bool.noConfusion), if_neg hp, roundFree_even hd]

/-! ### Messages sent and the latency of a port -/

/-- The port state that a transmission starts from (R380). -/
theorem State.ptpTransmit_kept (h1 : ¬ (s.ptpRole k = 2 ∧ s.time.established = true ∧ s.time.ptp[k].portState ≠ 6))
    (h2 : s.time.ptp[k].portState ≠ 6) (hr : s.ptpRuns k = false) : s.ptpTransmit k = s := by
  unfold State.ptpTransmit
  extract_lets u
  have hu : u = s := (if_neg h1).trans (if_neg fun hx => h2 hx.1)
  rw [if_pos (by rw [hu, hr]; rfl), hu]

theorem State.ptpTransmit_slave (hr : s.ptpRuns k = true) (hrole : s.ptpRole k = 1)
    (hst : s.time.ptp[k].portState = 8 ∨ s.time.ptp[k].portState = 9) (hp : s.cfgN (inst Obj.PTP_PROFILE (k + 1)) = 0) :
    s.ptpTransmit k = (s.modPtp k fun p => { p with seq := (p.seq + 1) % 65536, reqAt := some (s.ptpEgress k) }).ptpSend k
      (.ptp k 1 [(s.time.ptp[k].seq : Int), s.ptpEgress k]) := by
  unfold State.ptpTransmit
  extract_lets u p s1 s2 one e s3 s4 m e' kind
  have hu : u = s := (if_neg fun hx => absurd (hrole.symm.trans hx.1) (by decide)).trans (if_neg fun hx => by omega)
  clear_value u
  subst hu
  have hkind : kind = 1 := if_neg (by rw [hp]; decide)
  have hst' : p.portState = 8 ∨ p.portState = 9 := hst
  rw [if_neg (by rw [hr]; exact Bool.noConfusion), if_neg (by omega), if_pos hst', hkind, State.modPtp_modPtp]
  rfl

theorem State.pcsMeasured_other {e : Fin 2} (h0 : s.ptpPort 0 ≠ e) (h1 : s.ptpPort 1 ≠ e) (a b : Nat) : s.pcsMeasured e a b
    = { s with port := { s.port with eth := s.port.eth.set e { s.port.eth[e] with latIn := a, latOut := b, measured := true } } } := by
  unfold State.pcsMeasured
  extract_lets port s1
  rw [List.foldl_cons, List.foldl_cons, List.foldl_nil]
  have e0 : ¬ s1.ptpPort 0 = e := h0
  have e1 : ¬ s1.ptpPort 1 = e := h1
  rw [if_neg e0, if_neg e1]
  rfl

/-! ### Time pulses -/

theorem exec_timePulseEdge (n : Fin 2) (s : State) : exec (.timePulseEdge n) s = .next (s.pulseEdge n) := rfl
theorem exec_timePulseEnd (n : Fin 2) (s : State) : exec (.timePulseEnd n) s = .next (s.pulseEnd n) := rfl

section
variable {n : Fin 2}

theorem State.tpRefresh_stopped (h1 : s.tpState n ≠ 1) (h2 : s.tpState n ≠ 2) :
    s.tpRefresh n = s.modPulse n fun p => { p with since := none, active := false } := by
  have hrun : ¬ (s.tpState n = 1 ∨ s.tpState n = 2) := not_or.2 ⟨h1, h2⟩
  unfold State.tpRefresh
  dsimp only
  simp only [if_neg hrun, decide_eq_false hrun, Bool.and_false]

theorem State.tpRefresh_runs (h : s.tpState n = 1 ∨ s.tpState n = 2) :
    s.tpRefresh n = s.modPulse n fun p => { p with since := some (p.since.getD s.mono) } := by
  unfold State.tpRefresh
  dsimp only
  simp only [if_pos h, decide_eq_true h, Bool.and_true]

theorem State.modPulse_pulse_same (f : Pulse → Pulse) : (s.modPulse n f).time.pulse[n] = f s.time.pulse[n] := vmod_self s.time.pulse n f

/-- An output that does not run gives no edge. -/
theorem State.pulseEdge_stopped (h1 : s.tpState n ≠ 1) (h2 : s.tpState n ≠ 2) :
    s.pulseEdge n = s.modPulse n fun p => { p with since := none, active := false } := by
  have hrefresh := State.tpRefresh_stopped h1 h2
  have hsince : (s.tpRefresh n).time.pulse[n].since = none := by
    rw [hrefresh, State.modPulse_pulse_same]
  unfold State.pulseEdge
  extract_lets u
  have hu : u.time.pulse[n].since = none := hsince
  rw [hu]
  exact hrefresh

/-- The first edge of an output that runs: somewhere ahead, recorded with the base's time. -/
theorem State.pulseEdge_first {x : Nat} (hr : s.tpState n = 1 ∨ s.tpState n = 2) (hs : s.time.pulse[n].since = some x)
    (hl : s.time.pulse[n].lastEdge = none) : ∃ (d y f : Nat) (u : State), u = s.tpRefresh n ∧ s.pulseEdge n
      = State.emit ((u.advance d).modPulse n fun p => { p with
        active := true, lastEdge := some (u.advance d).mono, lastTime := y, lastFlags := f, seq := (p.seq + 1) % 2 ^ 32 }) (.pulse n true) := by
  have hsame := State.modPulse_pulse_same (s := s) (n := n) fun p => { p with since := some (p.since.getD s.mono) }
  rw [← State.tpRefresh_runs hr] at hsame
  have hsince : (s.tpRefresh n).time.pulse[n].since = some x := by
    rw [hsame, hs]
    rfl
  have hlast : (s.tpRefresh n).time.pulse[n].lastEdge = none := by
    rw [hsame]
    exact hl
  unfold State.pulseEdge
  extract_lets u
  have hnear : ∀ t, u.edgeNear n t = false := fun t => by
    unfold State.edgeNear
    rw [show u.time.pulse[n].lastEdge = none from hlast]
  have hu : u.time.pulse[n].since = some x := hsince
  rw [hu]
  dsimp only
  rw [if_neg (by rw [hnear]; exact Bool.false_ne_true)]
  exact ⟨_, _, _, u, rfl, rfl⟩

theorem emod_next (x p : Int) (hp : 0 < p) : (x + (p - x % p) % p) % p = 0 ∧ 0 ≤ (p - x % p) % p ∧ (p - x % p) % p < p := by
  refine ⟨?_, Int.emod_nonneg _ (by omega), Int.emod_lt_of_pos _ hp⟩
  rw [Int.add_emod, Int.emod_emod_of_dvd _ (dvd_refl p), ← Int.add_emod]
  have hx : x + (p - x % p) = p * (x / p) + p := by
    have := Int.mul_ediv_add_emod x p
    omega
  rw [hx, Int.add_emod_right]
  exact Int.mul_emod_right ..

theorem toNat_within {b p : Nat} {z : Int} (h0 : 0 ≤ z) (h : z < p) : b ≤ ((b : Int) + z).toNat ∧ ((b : Int) + z).toNat < b + p := by
  omega

/-- The next edge: the first time from `b` on where the base plus TP_PHASE is a whole multiple of TP_PERIOD (R395). -/
theorem State.nextEdge_multiple {b : Nat} (hp : 0 < s.tpPeriod n) :
    ((s.nextEdge n b : Int) + s.cfgI Obj.TP_PHASE n) % (s.tpPeriod n : Int) = 0 ∧ b ≤ s.nextEdge n b ∧ s.nextEdge n b < b + s.tpPeriod n := by
  obtain ⟨h0, hnn, hlt⟩ := emod_next ((b : Int) + s.cfgI Obj.TP_PHASE n) (s.tpPeriod n) (by exact_mod_cast hp)
  have hmax : max 1 (s.tpPeriod n : Int) = s.tpPeriod n := max_eq_right (by exact_mod_cast hp)
  unfold State.nextEdge
  dsimp only
  rw [hmax]
  generalize hz : ((s.tpPeriod n : Int) - ((b : Int) + s.cfgI Obj.TP_PHASE n) % (s.tpPeriod n : Int)) % (s.tpPeriod n : Int) = z at *
  have hto : (((b : Int) + z).toNat : Int) = b + z := Int.toNat_of_nonneg (by omega)
  refine ⟨?_, toNat_within hnn hlt⟩
  rw [hto, ← h0]
  congr 1
  omega

theorem State.pulseEnd_none (h : s.time.pulse[n].active = false ∨ s.time.pulse[n].lastEdge = none) : s.pulseEnd n = s := by
  unfold State.pulseEnd
  rcases h with h | h
  · rw [h]
  · rw [h]
    cases s.time.pulse[n].active with
    | false => rfl
    | true => rfl

theorem State.pulseEnd_active {e : Nat} (h : s.time.pulse[n].active = true) (he : s.time.pulse[n].lastEdge = some e) : s.pulseEnd n
    = ((s.toMono (e + 2 * s.cfgN Obj.TP_WIDTH n)).modPulse n fun p => { p with active := false }).emit (.pulse n false) := by
  unfold State.pulseEnd
  rw [h, he]

end

end Sys2Proof.Machine
end

open Sys2Proof.Machine

/-- Settles O51. -/
theorem ptpAndPulsesComplete : Obligations.PtpAndPulsesComplete := by
  unfold Obligations.PtpAndPulsesComplete
  simp only [exec_ptpSync, exec_stepPendingEnd, exec_ptpAnnounce, exec_announceReceiptTimeout, exec_ptpDelayReq, exec_ptpDelayResp,
    exec_ptpMessageTransmit, exec_pcsLatencyMeasured, exec_timePulseEdge, exec_timePulseEnd]
  refine ⟨⟨?ignored, ?pending, ?far, ?near, ?noStep, ?stepEnd, ?deaf, ?firstMaster, ?noMaster, ?becomesMaster, ?lost, ?delayReq, ?peerDelay,
    ?noDelayReq, ?noDelayResp, ?delayResp, ?silent, ?slaveSends, ?portDown, ?latency⟩, ?stopped, ?nextEdge, ?firstEdge, ?noPulse, ?pulseEnd⟩
  case ignored =>
    intro s k o c h
    rw [State.ptpSync_ignored h]
  case pending =>
    rintro s k o c x l hr hst hp rfl
    rw [State.ptpSync_pending hr hst hp]
    rfl
  case far =>
    rintro s k o c x hr hst hp rfl hx
    rw [State.ptpSync_far hr hst hp hx]
    rfl
  case near =>
    rintro s k o c x hr hst hp rfl hx
    rw [State.ptpSync_near hr hst hp hx]
    obtain ⟨f, e, b, hservo, hb, he⟩ := (s.syncNoted k o c).servo_effect (k := k) (s.syncOffset k o c)
    have hlow : (s.syncNoted k o c).syncInterval k = s.syncInterval k := rfl
    have hnoted : (s.syncNoted k o c).time.ptp[k].slaveFor = s.time.ptp[k].slaveFor := by
      rw [State.syncNoted, State.modPtp_ptp_same]
    obtain ⟨hst2, hnow⟩ := hb s.time.base[ptpBase k]
    obtain ⟨hle, hge⟩ := shifted_near (n := s.time.base[ptpBase k].now) (hlow ▸ he)
    rw [hservo]
    refine ⟨_, rfl, rfl, congrArg Ptp.portState (vmod_self _ k _), (congrArg Ptp.slaveFor (vmod_self _ k _)).trans ?_, ?_, ?_, ?_, fun i hi => ?_⟩
    · exact congrArg (· + 1) hnoted
    · rw [State.modBase_base_same]
      exact hst2
    · rw [State.modBase_base_same]
      exact hnow.trans_le hle
    · rw [State.modBase_base_same]
      exact hnow ▸ hge
    · exact State.modBase_base_ne _ _ hi.symm
  case noStep =>
    intro s k h
    rw [State.stepPendingEnd_none h]
  case stepEnd =>
    rintro s u k l h rfl
    rw [State.stepPendingEnd_some h]
    refine ⟨fun hn => ?_, fun hf hl => ?_, ?_⟩
    · rw [State.stepEnds_near hn]
      rfl
    · rw [State.stepEnds_short hf hl]
      rfl
    · rintro v rfl hv
      obtain ⟨f, g, htime, hf, hg⟩ := State.stepEnds_agree (s := s.toMono (s.time.ptp[k].pendAt + 8 * s.syncInterval k)) (k := k) hv
      generalize s.toMono (s.time.ptp[k].pendAt + 8 * s.syncInterval k) = u at *
      obtain ⟨hnow, hst, hsteps⟩ := hf u.time.base[ptpBase k]
      obtain ⟨hport, hpend⟩ := hg u.time.ptp[k]
      refine ⟨_, rfl, ?_⟩
      rw [htime, State.modPtp_base, State.modPtp_ptp_same, State.modBase_base_same]
      exact ⟨hnow, hst, hsteps, fun i hi => State.modBase_base_ne _ _ hi.symm, hport, hpend⟩
  case deaf =>
    intro s k m h
    rw [State.ptpAnnounce_ignored h]
  case firstMaster =>
    intro s k m hr hrole hp hm
    rw [State.ptpAnnounce_first hr hrole hp hm]
    rfl
  case noMaster =>
    intro s k hm h
    rw [State.announceTimeout_none hm, if_neg]
    rintro ⟨⟨h3, he⟩, -, h4⟩
    rcases h with h | h | h
    · exact h h3
    · exact absurd (h.symm.trans he) Bool.noConfusion
    · exact h h4
  case becomesMaster =>
    intro s k hm hrole he hr h4
    rw [State.announceTimeout_none hm, if_pos ⟨⟨hrole, he⟩, hr, h4⟩]
    rfl
  case lost =>
    rintro s u k m hm hrole rfl
    rw [State.announceTimeout_slave hm hrole]
    rfl
  case delayReq =>
    intro s k a q c hr hst h1 h3
    rw [State.ptpDelayReq_runs hr, if_neg h1, if_pos hst, State.ptpGrant_any h3]
    rfl
  case peerDelay =>
    intro s k a q c hr h1
    rw [State.ptpDelayReq_runs hr, if_pos h1]
    rfl
  case noDelayReq =>
    intro s k a q c h
    cases hr : s.ptpRuns k with
    | false => rw [State.ptpDelayReq_stopped hr]
    | true =>
      obtain ⟨h1, h6⟩ := h.resolve_left fun hx => Bool.noConfusion (hr.symm.trans hx)
      rw [State.ptpDelayReq_runs hr, if_neg h1, if_neg h6]
  case noDelayResp =>
    intro s k x h
    rw [State.ptpDelayResp_none h]
  case delayResp =>
    intro s k x r d h hr hp hd
    rw [State.ptpDelayResp_some h hr hp hd]
    rfl
  case silent =>
    intro s k hr hrole hst
    rw [State.ptpTransmit_kept (fun hx => hrole hx.1) hst hr]
  case slaveSends =>
    intro s k hr hrole hst hp
    rw [State.ptpTransmit_slave hr hrole hst hp]
    rfl
  case portDown =>
    intro s e a b h
    rw [if_neg (by rw [h]; exact Bool.false_ne_true)]
  case latency =>
    intro s e a b h h0 h1
    rw [if_pos h, State.pcsMeasured_other h0 h1]
  case stopped =>
    intro s n h1 h2
    rw [State.pulseEdge_stopped h1 h2]
    rfl
  case nextEdge => exact fun s n b hp _ => State.nextEdge_multiple hp
  case firstEdge =>
    intro s n x hr hs ha hl hc hm
    obtain ⟨d, y, f, u, hu, hedge⟩ := State.pulseEdge_first hr hs hl
    rw [hedge, hu]
    refine ⟨_, d, rfl, rfl, congrArg Pulse.active (vmod_self _ n _), (congrArg Pulse.seq (vmod_self _ n _)).trans ?_,
      congrArg Pulse.lastEdge (vmod_self _ n _), rfl⟩
    have hseq : (s.tpRefresh n).time.pulse[n].seq = s.time.pulse[n].seq := by
      rw [State.tpRefresh_runs hr, State.modPulse_pulse_same]
    exact congrArg (fun q => (q + 1) % 2 ^ 32) hseq
  case noPulse =>
    intro s n h
    rw [State.pulseEnd_none h]
  case pulseEnd =>
    rintro s u n e ha he rfl
    rw [State.pulseEnd_active ha he]
    rfl

section
/-!
SUPPORT. The GNSS baseband's start and stop, its front end and the antenna (09_gnss_baseband.md R299 to R304, R340) (O52).
-/

namespace Sys2Proof.Machine

/-! ### The instructions -/

theorem exec_gnEnableWrite (v : Nat) (s : State) : exec (.gnEnableWrite v) s = .next (s.gnEnable v) := rfl
theorem exec_grfCalItemEnd (b : Fin 2) (ok : Bool) (value : Nat) (s : State) : exec (.grfCalItemEnd b ok value) s
    = .next (s.grfCal b ok value) := rfl
theorem exec_agcUpdate (g0 g1 : Int) (s : State) : exec (.agcUpdate g0 g1) s = .next (s.agcUpdate g0 g1) := rfl
theorem exec_antBiasMeasurement (ma : Nat) (s : State) : exec (.antBiasMeasurement ma) s = .next (s.antBias ma) := rfl
theorem exec_antRetryExpiry (s : State) : exec .antRetryExpiry s = .next s.antRetry := rfl

variable {s : State}

/-! ### Start and stop -/

theorem State.gnEnable_refused {v : Nat} (h : s.gnEnableCheck v ≠ 0) : s.gnEnable v = s := if_neg h

theorem State.gnEnable_accepted {v : Nat} (h : s.gnEnableCheck v = 0) : s.gnEnable v = (s.gnEnablePut v).bumpRev Obj.GN_ENABLE := if_pos h

theorem State.gnEnableCheck_range {v : Nat} (h : 1 < v) : s.gnEnableCheck v = 4 := if_pos h

theorem State.gnEnableCheck_zero : s.gnEnableCheck 0 = 0 := rfl

theorem State.gnEnableCheck_conflict
    (h : s.domOn 13 = false ∨ s.domOn 14 = false ∨ s.domOn 15 = false ∨ s.cfgN Obj.GN_SYSTEMS = 0 ∨ s.sigsOn = []) :
    s.gnEnableCheck 1 = 5 := by
  refine (if_neg (by decide)).trans (if_pos ⟨rfl, ?_⟩)
  simp only [Bool.not_eq_true']
  rcases h with h | h | h | h | h
  · exact .inr (.inr (.inl h))
  · exact .inr (.inr (.inr (.inl h)))
  · exact .inr (.inr (.inr (.inr h)))
  · exact .inl h
  · exact .inr (.inl h)

theorem State.gnEnablePut_stop (h : s.cfgN Obj.GN_ENABLE = 1) : s.gnEnablePut 0 = (s.cfgPut Obj.GN_ENABLE (scalar (0 : Nat))).gnssStop := by
  unfold State.gnEnablePut
  dsimp only
  rw [if_neg fun hx => absurd hx.1 (by decide), if_pos ⟨rfl, h⟩]

theorem State.gnEnablePut_start (h : s.cfgN Obj.GN_ENABLE = 0) : s.gnEnablePut 1 = (s.cfgPut Obj.GN_ENABLE (scalar (1 : Nat))).gnssStart := by
  unfold State.gnEnablePut
  dsimp only
  rw [if_pos ⟨rfl, h⟩]

theorem State.gnEnablePut_same (h : s.cfgN Obj.GN_ENABLE = 1) : s.gnEnablePut 1 = s.cfgPut Obj.GN_ENABLE (scalar (1 : Nat)) := by
  unfold State.gnEnablePut
  dsimp only
  rw [if_neg fun hx => absurd (h.symm.trans hx.2) (by decide), if_neg fun hx => absurd hx.1 (by decide)]

/-! ### The calibration of the front end -/

section
variable {b : Fin 2} {i : Fin 4}

theorem State.modBand_band_same (f : GBand → GBand) : (s.modBand b f).gnss.band[b] = f s.gnss.band[b] := vmod_self s.gnss.band b f

theorem State.modBand_band_ne {e : Fin 2} (h : e ≠ b) (f : GBand → GBand) : (s.modBand b f).gnss.band[e] = s.gnss.band[e] :=
  vmod_ne s.gnss.band h f

theorem State.modBand_modBand (f g : GBand → GBand) : (s.modBand b f).modBand b g = s.modBand b fun x => g (f x) :=
  congrArg (fun v => ({ s with gnss := { s.gnss with band := v } } : State)) (vmod_vmod s.gnss.band b f g)

theorem State.grfCal_idle (h : s.gnss.band[b].item = 0 ∨ 4 < s.gnss.band[b].item) (a : Bool) (v : Nat) : s.grfCal b a v = s :=
  dif_neg (by omega)

/-- The end of item `i` of a band's calibration, in the state at its time. -/
def State.grfEnds (u : State) (b : Fin 2) (i : Fin 4) (x : GBand) (ok : Bool) (value : Nat) : State :=
  if ok = true then
    (u.modBand b fun y => { y with cal := y.cal.set i 1, delay := if i = 3 then min value 0xFFFFFFFF else y.delay }).grfNext b
  else if (!x.retried) = true then u.modBand b fun y => { y with retried := true, itemAt := u.mono }
  else if i = 0 ∧ (u.fw.otp.grf[b][i]).isNone = true then
    (u.modBand b fun y => { y with cal := y.cal.set i 3, item := 0, fault := true }).modGnss fun g => { g with grf := 3 }
  else
    ((u.modBand b fun y => { y with cal := y.cal.set i 2, delay := if i = 3 then (u.fw.otp.grf[b][i]).getD 0 else y.delay }).raise
      Ev.CAL_FALLBACK 6 x.item).grfNext b

theorem State.grfCal_item (h : s.gnss.band[b].item = i.val + 1) (a : Bool) (v : Nat) : s.grfCal b a v
    = (s.toMono (s.gnss.band[b].itemAt + grfItemTime s.gnss.band[b].item)).grfEnds b i s.gnss.band[b] a v := by
  have hi : (⟨s.gnss.band[b].item - 1, by omega⟩ : Fin 4) = i := Fin.ext (by simp only [h]; omega)
  exact (dif_pos (by omega)).trans (congrArg (fun j : Fin 4 =>
    (s.toMono (s.gnss.band[b].itemAt + grfItemTime s.gnss.band[b].item)).grfEnds b j s.gnss.band[b] a v) hi :)

/-- The next item of a band. -/
def GBand.nextItem (x : GBand) (now : HalfNs) : GBand :=
  { x with item := if x.item < 4 then x.firstItem (x.item + 1) else 0, itemAt := now, retried := false }

theorem State.grfNext_eq : s.grfNext b
    = if s.gnss.grf = 1 ∧ (s.modBand b fun x => x.nextItem s.mono).gnss.band[(0 : Fin 2)].item = 0
          ∧ (s.modBand b fun x => x.nextItem s.mono).gnss.band[(1 : Fin 2)].item = 0 then
        (s.modBand b fun x => x.nextItem s.mono).modGnss fun g => { g with grf := 2 }
      else s.modBand b fun x => x.nextItem s.mono := rfl

/-- The next item of a band changes that band and the front end's state alone. -/
theorem State.grfNext_effect : ∃ g, s.grfNext b = (s.modBand b fun x => x.nextItem s.mono).modGnss (fun y => { y with grf := g })
    ∧ (s.gnss.grf = 1 → g = if (s.modBand b fun x => x.nextItem s.mono).gnss.band[(0 : Fin 2)].item = 0
        ∧ (s.modBand b fun x => x.nextItem s.mono).gnss.band[(1 : Fin 2)].item = 0 then 2 else 1) := by
  rw [State.grfNext_eq]
  generalize (s.modBand b fun x => x.nextItem s.mono).gnss.band[(0 : Fin 2)].item = m
  generalize (s.modBand b fun x => x.nextItem s.mono).gnss.band[(1 : Fin 2)].item = n
  split
  · next h => exact ⟨2, rfl, fun _ => (if_pos h.2).symm⟩
  · next h => exact ⟨s.gnss.grf, rfl, fun h1 => h1.trans (if_neg fun hx => h ⟨h1, hx⟩).symm⟩

theorem State.grfNext_band : (s.grfNext b).gnss.band[b] = s.gnss.band[b].nextItem s.mono := by
  obtain ⟨g, hg, -⟩ := s.grfNext_effect (b := b)
  rw [hg]
  exact State.modBand_band_same _

theorem GBand.nextItem_of_item {x : GBand} {k : Nat} (h : x.item = k + 1) (now : HalfNs) : x.nextItem now
    = { x with item := if k < 3 then x.firstItem (k + 2) else 0, itemAt := now, retried := false } := by
  have hlt : (k + 1 < 4) = (k < 3) := propext (by omega)
  unfold GBand.nextItem
  rw [h]
  simp only [hlt]

/-- A band whose item `i` has passed. -/
def GBand.passed (y : GBand) (i : Fin 4) (v : Nat) : GBand :=
  { y with cal := y.cal.set i 1, delay := if i = 3 then min v 0xFFFFFFFF else y.delay }

theorem State.grfEnds_passed (y : GBand) (v : Nat) :
    ∃ g, s.grfEnds b i y true v = (s.modBand b fun x => (x.passed i v).nextItem s.mono).modGnss (fun x => { x with grf := g })
      ∧ (s.gnss.grf = 1 → g = if (s.grfEnds b i y true v).gnss.band[(0 : Fin 2)].item = 0
        ∧ (s.grfEnds b i y true v).gnss.band[(1 : Fin 2)].item = 0 then 2 else 1) := by
  obtain ⟨g, hg, hv⟩ := (s.modBand b fun x => x.passed i v).grfNext_effect (b := b)
  have hends : s.grfEnds b i y true v = (s.modBand b fun x => x.passed i v).grfNext b := if_pos rfl
  rw [State.modBand_modBand] at hg hv
  refine ⟨g, hends.trans hg, fun h1 => ?_⟩
  rw [hends, hg]
  exact hv h1

theorem State.grfEnds_retry {x : GBand} (h : x.retried = false) (v : Nat) :
    s.grfEnds b i x false v = s.modBand b fun y => { y with retried := true, itemAt := s.mono } := by
  refine (if_neg Bool.false_ne_true).trans (if_pos ?_)
  rw [h]
  rfl

theorem State.grfEnds_failed {x : GBand} (h : x.retried = true) (hi : i = 0 ∧ s.fw.otp.grf[b][i] = none) (v : Nat) : s.grfEnds b i x false v
    = (s.modBand b fun y => { y with cal := y.cal.set i 3, item := 0, fault := true }).modGnss fun g => { g with grf := 3 } := by
  refine (if_neg Bool.false_ne_true).trans ((if_neg ?_).trans (if_pos ⟨hi.1, ?_⟩))
  · rw [h]
    exact Bool.noConfusion
  · rw [hi.2]
    rfl

theorem State.grfEnds_factory {x : GBand} (h : x.retried = true) (hi : i ≠ 0 ∨ s.fw.otp.grf[b][i] ≠ none) (v : Nat) : s.grfEnds b i x false v
    = ((s.modBand b fun y => { y with cal := y.cal.set i 2, delay := if i = 3 then (s.fw.otp.grf[b][i]).getD 0 else y.delay }).raise
      Ev.CAL_FALLBACK 6 x.item).grfNext b := by
  refine (if_neg Bool.false_ne_true).trans ((if_neg ?_).trans (if_neg ?_))
  · rw [h]
    exact Bool.noConfusion
  · rintro ⟨h0, hn⟩
    exact hi.elim (fun hne => hne h0) fun hne => hne (Option.isNone_iff_eq_none.1 hn)

/-! ### Gain and antenna -/

theorem State.bandRuns_modBand_ne {e : Fin 2} (h : e ≠ b) (f : GBand → GBand) : (s.modBand b f).bandRuns e = s.bandRuns e := by
  have he := State.modBand_band_ne (s := s) h f
  unfold State.bandRuns
  rw [he]
  rfl

end

/-- A gain that a band takes while it runs (R303). -/
def State.putGain (s : State) (b : Fin 2) (g : Int) : State :=
  if s.bandRuns b = true then s.modBand b fun x => { x with gain := max 0 (min 600 g) } else s

theorem State.agcUpdate_eq (g h : Int) : s.agcUpdate g h = (s.putGain 0 g).putGain 1 h := rfl

theorem State.putGain_runs {b : Fin 2} (h : s.bandRuns b = true) (g : Int) :
    s.putGain b g = s.modBand b fun x => { x with gain := max 0 (min 600 g) } := if_pos h

theorem State.putGain_stopped {b : Fin 2} (h : s.bandRuns b = false) (g : Int) : s.putGain b g = s :=
  if_neg (by rw [h]; exact Bool.false_ne_true)

/-- A measurement of the bias current while the switch is closed. -/
theorem State.antBias_closed (h13 : s.domOn 13 = true) (he : s.cfgN Obj.GN_ANT_BIAS_ENABLE ≠ 0) (ho : s.gnss.antOpen = false) (m : Nat) :
    s.antBias m = if s.cfgN Obj.GN_ANT_SHORT_MA < m then
        (s.modGnss fun g => { g with
          antCurrent := min m 0xFFFF, ant := 4, antOpen := true, antShort := true, antLow := 0
          antRetryAt := s.mono + s.cfgN Obj.GN_ANT_RETRY * secHalfNs }).raise Ev.ANT_SHORT 0xFF m
      else if m < s.cfgN Obj.GN_ANT_OPEN_MA then
        if min 100 (s.gnss.antLow + 1) = 100 ∧ s.gnss.ant ≠ 2 then
          (s.modGnss fun g => { g with antCurrent := min m 0xFFFF, antLow := min 100 (s.gnss.antLow + 1), ant := 2, antOpen := g.antShort }).raise
            Ev.ANT_OPEN
        else s.modGnss fun g => { g with antCurrent := min m 0xFFFF, antLow := min 100 (s.gnss.antLow + 1) }
      else (s.modGnss fun g => { g with antCurrent := min m 0xFFFF }).antGood := by
  refine (if_neg ?_).trans ((if_neg he).trans ((if_neg ?_).trans rfl))
  · rw [h13]
    exact Bool.noConfusion
  · rw [ho]
    exact Bool.false_ne_true

theorem State.antGood_same (h : s.gnss.ant = 1) {g : Nat} : (s.modGnss fun x => { x with antCurrent := g }).antGood
    = { s with gnss := { s.gnss with antCurrent := g, ant := 1, antLow := 0, antShort := false } } := by
  have hback : ¬ ((s.modGnss fun x => { x with antCurrent := g }).gnss.ant = 2 ∨ (s.modGnss fun x => { x with antCurrent := g }).gnss.ant = 4) := by
    rintro (hx | hx)
    · exact absurd (h.symm.trans hx) (by decide)
    · exact absurd (h.symm.trans hx) (by decide)
  exact if_neg hback

theorem State.antRetry_due (h4 : s.gnss.ant = 4) (ho : s.gnss.antOpen = true) :
    s.antRetry = (s.toMono s.gnss.antRetryAt).modGnss fun g => { g with antOpen := false, antLow := 0 } := if_pos ⟨h4, ho⟩

theorem State.antRetry_none (h : s.gnss.ant ≠ 4 ∨ s.gnss.antOpen = false) : s.antRetry = s := by
  refine if_neg fun hx => ?_
  rcases h with h | h
  · exact h hx.1
  · exact Bool.false_ne_true (h.symm.trans hx.2)

end Sys2Proof.Machine
end

open Sys2Proof.Machine

/-- Settles O52. -/
theorem gnssStartsAndFrontEnd : Obligations.GnssStartsAndFrontEnd := by
  unfold Obligations.GnssStartsAndFrontEnd
  simp only [exec_gnEnableWrite, exec_grfCalItemEnd, exec_agcUpdate, exec_antBiasMeasurement, exec_antRetryExpiry]
  refine ⟨⟨?refused, ?range, ?conflict, ?zero, ?stops, ?starts, ?same⟩, ?idle, ?passed, ?retried, ?failed, ?factory, ?gain, ?noGain,
    ?noDomain, ?short, ?good, ?retry, ?noRetry⟩
  case refused =>
    intro s v h
    rw [State.gnEnable_refused h]
  case range => exact fun s v h => State.gnEnableCheck_range h
  case conflict => exact fun s h => State.gnEnableCheck_conflict h
  case zero => exact fun s => State.gnEnableCheck_zero
  case stops =>
    intro s h
    rw [State.gnEnable_accepted State.gnEnableCheck_zero, State.gnEnablePut_stop h]
    exact ⟨_, rfl, rfl, rfl, rfl, rfl, congrArg Src.traceable (vmod_self s.time.src 0 _), rfl⟩
  case starts =>
    intro s h h0
    rw [State.gnEnable_accepted h, State.gnEnablePut_start h0]
    rfl
  case same =>
    intro s h h1
    rw [State.gnEnable_accepted h, State.gnEnablePut_same h1]
    rfl
  case idle =>
    intro s b a v h
    rw [State.grfCal_idle h]
  case passed =>
    rintro s u b v i x hi rfl rfl
    rw [State.grfCal_item hi]
    obtain ⟨g, hends, hgrf⟩ := State.grfEnds_passed
      (s := s.toMono (s.gnss.band[b].itemAt + grfItemTime s.gnss.band[b].item)) s.gnss.band[b] v
    have hnext := GBand.nextItem_of_item (x := s.gnss.band[b].passed i v) hi
      (s.toMono (s.gnss.band[b].itemAt + grfItemTime s.gnss.band[b].item)).mono
    refine ⟨_, rfl, ?_, ?_, fun e he => ?_, fun h1 => ?_⟩
    · rw [hends]
      rfl
    · rw [hends]
      exact (vmod_self s.gnss.band b _).trans hnext
    · rw [hends]
      exact vmod_ne s.gnss.band he _
    · rw [← hgrf h1, hends]
      rfl
  case retried =>
    rintro s u b v i hi hr rfl
    rw [State.grfCal_item hi, State.grfEnds_retry hr]
    rfl
  case failed =>
    intro s b v h1 hr hn
    rw [State.grfCal_item (i := 0) h1, State.grfEnds_failed (s := s.toMono _) hr ⟨rfl, hn⟩]
    have hband := State.modBand_band_same (s := s.toMono (s.gnss.band[b].itemAt + grfItemTime s.gnss.band[b].item)) (b := b)
      fun y => { y with cal := y.cal.set 0 3, item := 0, fault := true }
    exact ⟨_, rfl, rfl, (congrArg GBand.fault hband :), (congrArg GBand.item hband :), (congrArg GBand.cal hband :)⟩
  case factory =>
    intro s b v i hi hr hn
    rw [State.grfCal_item hi, State.grfEnds_factory (s := s.toMono _) hr hn]
    refine ⟨_, rfl, ?_⟩
    rw [State.grfNext_band, State.raise_gnss, State.modBand_band_same]
    exact ⟨rfl, rfl, fun h3 => if_pos h3⟩
  case gain =>
    intro s g h h0 h1
    rw [State.agcUpdate_eq, State.putGain_runs h0, State.putGain_runs ((State.bandRuns_modBand_ne (by decide) _).trans h1)]
    refine ⟨_, rfl, rfl, ?_, ?_⟩
    · rw [State.modBand_band_ne (by decide), State.modBand_band_same]
    · rw [State.modBand_band_same]
  case noGain =>
    intro s g h h0 h1
    rw [State.agcUpdate_eq, State.putGain_stopped h0, State.putGain_stopped h1]
  case noDomain =>
    intro s m h
    rw [State.antBias, if_pos (by rw [h]; rfl)]
  case short =>
    intro s m h13 he ho hm
    rw [State.antBias_closed h13 he ho, if_pos hm]
    rfl
  case good =>
    intro s m h13 he ho h1 hlow hhigh
    rw [State.antBias_closed h13 he ho, if_neg (Nat.not_lt.2 hhigh), if_neg (Nat.not_lt.2 hlow), State.antGood_same h1]
  case retry =>
    intro s h4 ho
    rw [State.antRetry_due h4 ho]
    rfl
  case noRetry =>
    intro s h
    rw [State.antRetry_none h]

section
/-!
SUPPORT. Notch cells, blanking and the jamming indicator (09_gnss_baseband.md R305 to R312) (O53).
-/

namespace Sys2Proof.Machine

/-! ### The instructions -/

theorem exec_notchEvaluation (b : Fin 2) (spectrum : List Int) (fine : List Nat) (s : State) : exec (.notchEvaluation b spectrum fine) s
    = .next (s.notchEval b spectrum fine) := rfl
theorem exec_blankIntervalEnd (b : Fin 2) (samples : List (Nat × Nat)) (s : State) : exec (.blankIntervalEnd b samples) s
    = .next (s.blankEnd b samples) := rfl
theorem exec_jamIndicatorUpdate (b : Fin 2) (corr : Int) (s : State) : exec (.jamIndicatorUpdate b corr) s
    = .next (s.jamUpdate b corr) := rfl

variable {s : State} {b : Fin 2}

/-! ### Spectra -/

/-- A value that stands first and that more than half of the values equal, none below it, is the median. -/
theorem spectrumMedian_head {v : Int} {xs : List Int} (hlow : (v :: xs).filter (· < v) = [])
    (hhigh : (v :: xs).length / 2 < ((v :: xs).filter (· ≤ v)).length) : spectrumMedian (v :: xs) = v := by
  unfold spectrumMedian
  rw [List.find?_cons_of_pos]
  · rfl
  · rw [hlow, decide_eq_true hhigh]
    rfl

theorem filter_lt_replicate (n : Nat) (v : Int) : (List.replicate n v).filter (· < v) = [] :=
  List.filter_eq_nil_iff.2 fun x hx => by simp [List.eq_of_mem_replicate hx]

theorem filter_le_replicate (n : Nat) (v : Int) : (List.replicate n v).filter (· ≤ v) = List.replicate n v :=
  List.filter_eq_self.2 fun x hx => by simp [List.eq_of_mem_replicate hx]

/-- A flat spectrum relative to its median. -/
theorem relative_flat (n : Nat) (v : Int) :
    (List.replicate n v).map (fun x => x - spectrumMedian (List.replicate n v)) = List.replicate n 0 := by
  cases n with
  | zero => rfl
  | succ n =>
    have hmed : spectrumMedian (List.replicate (n + 1) v) = v := by
      refine spectrumMedian_head (filter_lt_replicate (n + 1) v) ?_
      have hle := filter_le_replicate (n + 1) v
      rw [List.replicate_succ] at hle
      rw [hle, List.length_cons, List.length_replicate]
      omega
    rw [hmed, List.map_replicate, Int.sub_self]

/-- A spectrum with one line of level `x`: `k` values `v` below it and `m` above. -/
def oneLine (k m : Nat) (v x : Int) : List Int := List.replicate k v ++ x :: List.replicate m v

section
variable {k m : Nat} {v x : Int}

theorem length_oneLine : (oneLine k m v x).length = k + 1 + m := by
  simp only [oneLine, List.length_append, List.length_cons, List.length_replicate]
  omega

theorem oneLine_below {j : Nat} (h : j < k) : (oneLine k m v x)[j]? = some v := by
  rw [oneLine, List.getElem?_append_left (by simpa using h), List.getElem?_replicate, if_pos h]

theorem oneLine_line : (oneLine k m v x)[k]? = some x := by
  rw [oneLine, List.getElem?_append_right (by simp), List.length_replicate, Nat.sub_self]
  rfl

theorem oneLine_above {j : Nat} (h : j < m) : (oneLine k m v x)[k + 1 + j]? = some v := by
  have hj : k + 1 + j - k = j + 1 := by omega
  rw [oneLine, List.getElem?_append_right (by simp; omega), List.length_replicate, hj, List.getElem?_cons_succ, List.getElem?_replicate,
    if_pos h]

theorem filter_oneLine (p : Int → Bool) (hx : p x = false) :
    (oneLine k m v x).filter p = (List.replicate k v).filter p ++ (List.replicate m v).filter p := by
  rw [oneLine, List.filter_append, List.filter_cons_of_neg (by rw [hx]; exact Bool.false_ne_true)]

theorem relative_oneLine (hk : 0 < k) (hm : 0 < m) (hx : v < x) :
    (oneLine k m v x).map (fun y => y - spectrumMedian (oneLine k m v x)) = oneLine k m 0 (x - v) := by
  have hlt := filter_oneLine (k := k) (m := m) (v := v) (x := x) (· < v) (decide_eq_false (by omega))
  have hle := filter_oneLine (k := k) (m := m) (v := v) (x := x) (· ≤ v) (decide_eq_false (by omega))
  rw [filter_lt_replicate, filter_lt_replicate] at hlt
  rw [filter_le_replicate, filter_le_replicate] at hle
  have hmed : spectrumMedian (oneLine k m v x) = v := by
    obtain ⟨j, rfl⟩ := Nat.exists_eq_succ_of_ne_zero (Nat.ne_of_gt hk)
    have hcons : oneLine (j + 1) m v x = v :: oneLine j m v x := rfl
    have hhigh : (oneLine (j + 1) m v x).length / 2 < ((oneLine (j + 1) m v x).filter (· ≤ v)).length := by
      rw [hle, length_oneLine, List.length_append, List.length_replicate, List.length_replicate]
      omega
    rw [hcons] at hlt hhigh ⊢
    exact spectrumMedian_head hlt hhigh
  rw [hmed]
  simp [oneLine]

end

/-- The local maximum at bin `k`, where there is one. -/
def peakAt (b : Fin 2) (rel : List Int) (fine : List Nat) (k : Nat) : Option (Nat × Int) :=
  if (k = 0 ∨ (rel[k - 1]?).getD (-128) < (rel[k]?).getD (-128)) ∧ (k + 1 = rel.length ∨ (rel[k + 1]?).getD (-128) ≤ (rel[k]?).getD (-128)) then
    some ((fine.find? fun f => specBin b f == k).getD (binCentre b k), (rel[k]?).getD (-128))
  else none

theorem specPeaks_eq (b : Fin 2) (rel : List Int) (fine : List Nat) :
    specPeaks b rel fine = (List.range rel.length).filterMap (peakAt b rel fine) := rfl

theorem level_of_peakAt {rel : List Int} {fine : List Nat} {k : Nat} {x : Nat × Int} (h : peakAt b rel fine k = some x) :
    x.2 = (rel[k]?).getD (-128) := by
  unfold peakAt at h
  split at h
  · rw [← Option.some.inj h]
  · exact absurd h (Option.some_ne_none _).symm

/-- The lines of a spectrum: its local maxima at the threshold. -/
def linesOf (th : Int) (l : List (Nat × Int)) : List (Nat × Int) := l.filter fun x => decide (th ≤ x.2)

/-- Bins below the threshold give no line. -/
theorem linesOf_low {th : Int} {rel : List Int} {fine : List Nat} {l : List Nat} (h : ∀ k ∈ l, (rel[k]?).getD (-128) < th) :
    linesOf th (l.filterMap (peakAt b rel fine)) = [] := by
  refine List.filter_eq_nil_iff.2 fun x hx => ?_
  obtain ⟨k, hk, hpeak⟩ := List.mem_filterMap.1 hx
  have hlow := h k hk
  rw [← level_of_peakAt hpeak] at hlow
  simpa using hlow

theorem linesOf_flat {th : Int} (hth : 0 < th) (n : Nat) (fine : List Nat) : linesOf th (specPeaks b (List.replicate n 0) fine) = [] := by
  rw [specPeaks_eq, List.length_replicate]
  refine linesOf_low fun k hk => ?_
  rw [List.getElem?_replicate, if_pos (List.mem_range.1 hk)]
  exact hth

theorem peakAt_line {k m f : Nat} {x : Int} (hx : 0 < x) (hk : 0 < k) (hm : 0 < m) (hf : specBin b f = k) :
    peakAt b (oneLine k m 0 x) [f] k = some (f, x) := by
  have hbelow : (oneLine k m 0 x)[k - 1]? = some 0 := oneLine_below (by omega)
  have habove : (oneLine k m 0 x)[k + 1]? = some 0 := oneLine_above (j := 0) hm
  have hfind : ([f].find? fun f => specBin b f == k) = some f := List.find?_cons_of_pos (beq_iff_eq.2 hf)
  unfold peakAt
  rw [hbelow, habove, oneLine_line, hfind]
  exact if_pos ⟨.inr hx, .inr (Int.le_of_lt hx)⟩

theorem linesOf_oneLine {k m f : Nat} {th x : Int} (hth : 0 < th) (hx : th ≤ x) (hk : 0 < k) (hm : 0 < m) (hf : specBin b f = k) :
    linesOf th (specPeaks b (oneLine k m 0 x) [f]) = [(f, x)] := by
  have hsplit : List.range (k + 1 + m) = List.range k ++ (k :: (List.range m).map (k + 1 + ·)) := by
    rw [List.range_add, List.range_succ, List.append_assoc]
    rfl
  have hlow : linesOf th ((List.range k).filterMap (peakAt b (oneLine k m 0 x) [f])) = [] := linesOf_low fun j hj => by
    rw [oneLine_below (List.mem_range.1 hj)]
    exact hth
  have hhigh : linesOf th (((List.range m).map (k + 1 + ·)).filterMap (peakAt b (oneLine k m 0 x) [f])) = [] := linesOf_low fun j hj => by
    obtain ⟨i, hi, rfl⟩ := List.mem_map.1 hj
    rw [oneLine_above (List.mem_range.1 hi)]
    exact hth
  unfold linesOf at *
  rw [specPeaks_eq, length_oneLine, hsplit, List.filterMap_append, List.filter_append, hlow,
    List.filterMap_cons_some (peakAt_line (by omega) hk hm hf), List.filter_cons_of_pos (p := fun y : Nat × Int => decide (th ≤ y.2)) (decide_eq_true hx), hhigh]
  rfl

/-! ### Notch cells -/

/-- A cell that no line holds. -/
def idleCell : NotchCell := ⟨false, 0, 0, 0, 0⟩

theorem follow_idle (th : Int) (rel : List Int) (ls : List (Nat × Int)) : idleCell.follow b th rel ls = idleCell := rfl

/-- Cells of a band that no line holds. -/
def State.CellsIdle (s : State) (b : Fin 2) : Prop := ∀ i : Fin 4, s.gnss.band[b].cell[i] = idleCell

/-- The lines that an evaluation gives cells to. -/
def State.notchLines (s : State) (b : Fin 2) (th : Int) (l : List (Nat × Int)) : List (Nat × Int) :=
  l.filter fun l => decide (th ≤ l.2) && !s.notchCovered b l.1

/-- An evaluation gives the lines that its peaks name to cells. -/
def State.notchTake (s : State) (b : Fin 2) (lines : List (Nat × Int)) : State :=
  if (lines.any fun l => !(s.notchAssign b 8 lines).lineHeld b l.1) = true then (s.notchAssign b 8 lines).count (inst Obj.GN_NOTCH_OVERFLOW b)
  else s.notchAssign b 8 lines

theorem State.modBand_congr {f g : GBand → GBand} (h : f s.gnss.band[b] = g s.gnss.band[b]) : s.modBand b f = s.modBand b g :=
  congrArg (fun y => ({ s with gnss := { s.gnss with band := s.gnss.band.set b y } } : State)) h

/-- The spectrum of an evaluation relative to its median (R305). -/
def relSpectrum (sp : List Int) : List Int := (sp.take 1024).map fun v => v - spectrumMedian (sp.take 1024)

/-- An evaluation of a band no cell of which holds a line. -/
theorem State.notchEval_idle (h : s.bandRuns b = true) (hi : s.CellsIdle b) (sp : List Int) (fine : List Nat) : s.notchEval b sp fine
    = (s.modBand b fun x => { x with spectrum := relSpectrum sp }).notchTake b
        (s.notchLines b (s.cfgN (inst Obj.GN_NOTCH_THRESH b)) (specPeaks b (relSpectrum sp) fine)) := by
  have hcells : (Vector.ofFn fun (i : Fin 4) => if s.notchFixed b i then ⟨false, 0, 0, 0, 0⟩ else s.gnss.band[b].cell[i].follow b
      (s.cfgN (inst Obj.GN_NOTCH_THRESH b)) (relSpectrum sp) (specPeaks b (relSpectrum sp) fine)) = s.gnss.band[b].cell := by
    refine Vector.ext fun i hi4 => ?_
    have hidle := hi ⟨i, hi4⟩
    rw [Vector.getElem_ofFn, hidle, follow_idle]
    exact (ite_self _).trans hidle.symm
  have hband : (s.modBand b fun x => { x with
      spectrum := relSpectrum sp
      cell := Vector.ofFn fun (i : Fin 4) => if s.notchFixed b i then ⟨false, 0, 0, 0, 0⟩ else x.cell[i].follow b
        (s.cfgN (inst Obj.GN_NOTCH_THRESH b)) (relSpectrum sp) (specPeaks b (relSpectrum sp) fine) })
      = s.modBand b fun x => { x with spectrum := relSpectrum sp } :=
    State.modBand_congr (congrArg (fun c => { s.gnss.band[b] with spectrum := relSpectrum sp, cell := c }) hcells)
  rw [← hband]
  refine (if_neg ?_).trans rfl
  rw [h]
  exact Bool.noConfusion

theorem State.notchLines_eq (th : Int) (l : List (Nat × Int)) :
    s.notchLines b th l = (linesOf th l).filter fun x => !s.notchCovered b x.1 := by
  unfold State.notchLines linesOf
  rw [List.filter_filter]
  exact List.filter_congr fun x _ => Bool.and_comm ..

theorem State.notchAssign_none (n : Nat) : State.notchAssign b n [] s = s := by
  cases n with
  | zero => rfl
  | succ n => rfl

theorem State.notchTake_none : s.notchTake b [] = s := (if_neg Bool.false_ne_true).trans (State.notchAssign_none 8)

theorem State.lineHeld_idle (hi : s.CellsIdle b) (f : Nat) : s.lineHeld b f = false := by
  refine List.any_eq_false.2 fun i _ => ?_
  rw [hi i]
  exact Bool.false_ne_true

theorem State.adaptive_all (h : ∀ i < 4, s.notchFixed b i = false) : s.adaptive b = [0, 1, 2, 3] :=
  List.filter_eq_self.2 fun i _ => by rw [h i i.isLt]; rfl

/-- The state in which cell 0 has taken a line. -/
def State.lineTaken (s : State) (b : Fin 2) (f : Nat) (x : Int) : State :=
  s.modBand b fun y => { y with cell := y.cell.set 0 ⟨true, f, f, x, 0⟩ }

theorem State.lineTaken_cell (f : Nat) (x : Int) : (s.lineTaken b f x).gnss.band[b].cell[(0 : Fin 4)] = ⟨true, f, f, x, 0⟩ := by
  rw [State.lineTaken, State.modBand_band_same]
  exact Vector.getElem_set_self ..

theorem State.lineTaken_cell_ne {i : Fin 4} (h : i ≠ 0) (f : Nat) (x : Int) :
    (s.lineTaken b f x).gnss.band[b].cell[i] = s.gnss.band[b].cell[i] := by
  rw [State.lineTaken, State.modBand_band_same]
  exact Vector.getElem_set_ne (by decide) i.isLt fun hx => h (Fin.ext hx.symm)

theorem State.lineHeld_taken (h : ∀ i < 4, s.notchFixed b i = false) (f : Nat) (x : Int) : (s.lineTaken b f x).lineHeld b f = true := by
  refine List.any_eq_true.2 ⟨0, ?_, ?_⟩
  · rw [State.adaptive_all (s := s.lineTaken b f x) h]
    exact List.mem_cons_self
  · rw [State.lineTaken_cell]
    exact Bool.and_eq_true_iff.2 ⟨rfl, beq_self_eq_true f⟩

theorem State.notchAssign_held {f : Nat} {x : Int} (h : s.lineHeld b f = true) (n : Nat) : State.notchAssign b n [(f, x)] s = s := by
  cases n with
  | zero => rfl
  | succ n =>
    have hnil : [(f, x)].filter (fun l => !s.lineHeld b l.1) = [] := List.filter_eq_nil_iff.2 fun y hy => by
      rw [List.mem_singleton.1 hy, h]
      exact Bool.false_ne_true
    unfold State.notchAssign
    rw [hnil]
    rfl

/-- One line takes the first of four free adaptive cells (R306). -/
theorem State.notchTake_one (hi : s.CellsIdle b) (h : ∀ i < 4, s.notchFixed b i = false) (f : Nat) (x : Int) :
    s.notchTake b [(f, x)] = s.lineTaken b f x := by
  have hone : [(f, x)].filter (fun l => !s.lineHeld b l.1) = [(f, x)] := List.filter_eq_self.2 fun y _ => by
    rw [State.lineHeld_idle hi]
    rfl
  have hfree : (s.adaptive b).find? (fun i => !s.gnss.band[b].cell[i].used) = some 0 := by
    rw [State.adaptive_all h]
    refine List.find?_cons_of_pos ?_
    rw [hi 0]
    rfl
  have hassign : State.notchAssign b 8 [(f, x)] s = s.lineTaken b f x := by
    unfold State.notchAssign
    rw [hone]
    dsimp only [strongest, List.foldl]
    rw [hfree]
    exact State.notchAssign_held (State.lineHeld_taken h f x) 7
  unfold State.notchTake
  rw [hassign, List.any_cons, State.lineHeld_taken h]
  rfl

theorem State.notchCovered_none (h : ∀ i < 4, s.notchFixed b i = false) (f : Nat) : s.notchCovered b f = false :=
  List.any_eq_false.2 fun i hi => by
    rw [h i (List.mem_range.1 hi)]
    exact Bool.false_ne_true

/-! ### Blanking -/

theorem State.blankEnd_runs (h : s.bandRuns b = true) (l : List (Nat × Nat)) (on : Bool)
    (hon : (s.cfgN (inst Obj.GN_BLANK_ENABLE b) == 1 && !s.gnss.band[b].suspended) = on) (n : Nat × Nat)
    (hn : n = blankRun (s.cfgN (inst Obj.GN_BLANK_THRESH b)) (s.cfgN (inst Obj.GN_BLANK_HOLD b) * 64 / 1000) (b.val + 1) l 0
      s.gnss.band[b].hold) (r : Nat) (hr : r = if on then n.1 * 10000 / max 1 l.length else 0) (above : Bool)
    (ha : decide (s.cfgN (inst Obj.GN_BLANK_MAX b) * 100 < r) = above) : s.blankEnd b l
      = if above then (s.modBand b fun x => { x with ratio := r, suspended := above, hold := if on then n.2 else 0 }).count
          (inst Obj.GN_BLANK_SATURATED b)
        else s.modBand b fun x => { x with ratio := r, suspended := above, hold := if on then n.2 else 0 } := by
  subst hn hon hr ha
  refine (if_neg ?_).trans rfl
  rw [h]
  exact Bool.noConfusion

theorem blankRun_below {th h p : Nat} {l : List (Nat × Nat)} (hl : ∀ x ∈ l, 16 * x.1 ≤ th * th * x.2) (n : Nat) :
    (blankRun th h p l n 0).1 = n := by
  induction l with
  | nil => rfl
  | cons x xs ih =>
    have hx : blankSample th h p 0 x = (false, 0) := if_neg (Nat.not_lt.2 (hl x List.mem_cons_self))
    rw [blankRun, hx]
    exact ih fun y hy => hl y (List.mem_cons_of_mem _ hy)

theorem blankRun_above {th h p : Nat} {l : List (Nat × Nat)} (hl : ∀ x ∈ l, th * th * x.2 < 16 * x.1) (n left : Nat) :
    (blankRun th h p l n left).1 = n + l.length := by
  induction l generalizing n left with
  | nil => rfl
  | cons x xs ih =>
    have hx : blankSample th h p left x = (true, h) := if_pos (hl x List.mem_cons_self)
    rw [blankRun, hx, List.length_cons]
    refine (ih (fun y hy => hl y (List.mem_cons_of_mem _ hy)) (n + 1) h).trans ?_
    omega

/-! ### The jamming indicator -/

/-- The indicator's runs at and above the threshold, and 8 below it (R311, R312). -/
def GBand.jamHigh (x : GBand) (th n : Nat) : Nat := if th ≤ n then min 10 (x.high + 1) else 0
def GBand.jamLow (x : GBand) (th n : Nat) : Nat := if n + 8 < th then min 50 (x.low + 1) else 0
def GBand.jams (x : GBand) (th n : Nat) : Bool := !x.jammed && x.jamHigh th n == 10
def GBand.clears (x : GBand) (th n : Nat) : Bool := x.jammed && x.jamLow th n == 50

/-- A band with a new indicator. -/
def GBand.indicated (x : GBand) (th n : Nat) (j : Int) : GBand := { x with
  jamInd := n, jn := j, high := x.jamHigh th n
  low := if x.jams th n then 0 else x.jamLow th n
  jammed := (x.jammed || x.jams th n) && !x.clears th n }

section
variable {x : GBand} {th n : Nat}

theorem GBand.jams_low (h : n < th) : x.jams th n = false := by
  unfold GBand.jams GBand.jamHigh
  rw [if_neg (Nat.not_le.2 h)]
  exact Bool.and_false _

theorem GBand.jams_jammed (h : x.jammed = true) : x.jams th n = false := by
  unfold GBand.jams
  rw [h]
  rfl

theorem GBand.clears_calm (h : x.jammed = false) : x.clears th n = false := by
  unfold GBand.clears
  rw [h]
  rfl

/-- The tenth indicator in a row at the threshold (R311). -/
theorem GBand.jams_tenth (h : x.jammed = false) (h9 : x.high = 9) (hth : th ≤ n) : x.jams th n = true := by
  unfold GBand.jams GBand.jamHigh
  rw [h, h9, if_pos hth]
  rfl

/-- The fiftieth indicator in a row 8 below the threshold (R312). -/
theorem GBand.clears_fiftieth (h : x.jammed = true) (h49 : x.low = 49) (hth : n + 8 < th) : x.clears th n = true := by
  unfold GBand.clears GBand.jamLow
  rw [h, h49, if_pos hth]
  rfl

theorem GBand.indicated_calm {j : Int} (h : x.jammed = false) (hj : x.jams th n = false) : (x.indicated th n j).jammed = false := by
  unfold GBand.indicated
  rw [hj, h]
  rfl

theorem GBand.indicated_jams {j : Int} (h : x.jammed = false) (hj : x.jams th n = true) : (x.indicated th n j).jammed = true := by
  unfold GBand.indicated
  rw [hj, GBand.clears_calm h]
  exact (Bool.and_true _).trans (Bool.or_true _)

theorem GBand.indicated_clears {j : Int} (h : x.clears th n = true) : (x.indicated th n j).jammed = false := by
  unfold GBand.indicated
  rw [h]
  exact Bool.and_false _

end

theorem State.jamUpdate_runs (h : s.bandRuns b = true) (g : Int) (n : Nat)
    (hn : n = min 255 (4 * (s.fw.otp.gref[b] + g - s.cfgI Obj.GN_EXT_GAIN b - s.gnss.band[b].gain).toNat / 10)) :
    ∃ j, s.jamUpdate b g
      = if s.gnss.band[b].jams (s.cfgN (inst Obj.GN_JAM_THRESH b)) n then
          (s.drawn.modBand b fun x => x.indicated (s.cfgN (inst Obj.GN_JAM_THRESH b)) n j).raise Ev.GNSS_JAMMED b n
        else if s.gnss.band[b].clears (s.cfgN (inst Obj.GN_JAM_THRESH b)) n then
          (s.drawn.modBand b fun x => x.indicated (s.cfgN (inst Obj.GN_JAM_THRESH b)) n j).raise Ev.GNSS_JAM_CLEAR b
        else s.drawn.modBand b fun x => x.indicated (s.cfgN (inst Obj.GN_JAM_THRESH b)) n j := by
  have hrun : ¬ (!s.bandRuns b) = true := by
    rw [h]
    exact Bool.noConfusion
  unfold State.jamUpdate
  rw [if_neg hrun]
  extract_lets x pn ind th high low jam clear s1
  have hind : ind = n := hn.symm
  clear_value ind
  subst hind
  have hs1 : s1 = s.drawn.modBand b fun y => y.indicated th ind (max (-200) (jnOf pn + (s.draw.1 % 2 : Nat))) := State.modBand_congr rfl
  rw [hs1]
  exact ⟨_, rfl⟩

end Sys2Proof.Machine
end

open Sys2Proof.Machine

/-- Settles O53. -/
theorem interferenceComplete : Obligations.InterferenceComplete := by
  unfold Obligations.InterferenceComplete
  simp only [exec_notchEvaluation, exec_blankIntervalEnd, exec_jamIndicatorUpdate]
  refine ⟨?stopped, ?flat, ?line, ?blank, ?noBlank, ?below, ?above, ?quiet, ?jams, ?clears⟩
  case stopped =>
    intro s b sp p r g h
    have hn : (!s.bandRuns b) = true := by rw [h]; rfl
    rw [State.notchEval, if_pos hn, State.blankEnd, if_pos hn, State.jamUpdate, if_pos hn]
    exact ⟨rfl, rfl, rfl⟩
  case flat =>
    intro s b p n v h hth hi
    have hrel : relSpectrum (List.replicate n v) = List.replicate (min 1024 n) 0 := by
      rw [relSpectrum, List.take_replicate]
      exact relative_flat _ v
    rw [State.notchEval_idle h hi, hrel, State.notchLines_eq, linesOf_flat (by exact_mod_cast hth), List.filter_nil, State.notchTake_none]
    rfl
  case line =>
    intro s b k m f v l h hi hfix hth hl hk hm hlen hf
    have hth' : (0 : Int) < s.cfgN (inst Obj.GN_NOTCH_THRESH b) := by exact_mod_cast hth
    have hrel : relSpectrum (oneLine k m v (v + l)) = oneLine k m 0 l := by
      rw [relSpectrum, List.take_of_length_le (by rw [length_oneLine]; exact hlen), relative_oneLine hk hm (by omega), add_sub_cancel_left]
    have hidle : (s.modBand b fun x => { x with spectrum := oneLine k m 0 l }).CellsIdle b := fun i => by
      rw [State.modBand_band_same]
      exact hi i
    rw [← oneLine, State.notchEval_idle h hi, hrel, State.notchLines_eq, linesOf_oneLine hth' hl hk hm hf,
      List.filter_cons_of_pos (by rw [State.notchCovered_none hfix]; rfl), List.filter_nil, State.notchTake_one hidle hfix]
    refine ⟨_, rfl, rfl, State.lineTaken_cell .., fun i hi0 => (State.lineTaken_cell_ne hi0 ..).trans (hidle i), fun e he => ?_⟩
    rw [State.lineTaken, State.modBand_band_ne he, State.modBand_band_ne he]
  case blank =>
    intro s b l n r h hen hsus hn hr
    have hon : (s.cfgN (inst Obj.GN_BLANK_ENABLE b) == 1 && !s.gnss.band[b].suspended) = true := by
      rw [hen, hsus]
      rfl
    refine ⟨fun hle => ?_, fun hlt => ?_⟩
    · rw [State.blankEnd_runs h l true hon n hn r hr false (decide_eq_false (Nat.not_lt.2 hle))]
      rfl
    · rw [State.blankEnd_runs h l true hon n hn r hr true (decide_eq_true hlt)]
      rfl
  case noBlank =>
    intro s b l h hoff
    have hon : (s.cfgN (inst Obj.GN_BLANK_ENABLE b) == 1 && !s.gnss.band[b].suspended) = false := by
      rcases hoff with hoff | hoff
      · rw [hoff]
        exact Bool.and_false _
      · rw [beq_eq_false_iff_ne.2 hoff]
        rfl
    rw [State.blankEnd_runs h l false hon _ rfl 0 rfl false (decide_eq_false (Nat.not_lt_zero _))]
    rfl
  case below => exact fun th h p l hl => blankRun_below hl 0
  case above => exact fun th h p l hl => (blankRun_above hl 0 0).trans (Nat.zero_add _)
  case quiet =>
    intro s b g h hle hj hth
    have hpn : s.fw.otp.gref[b] + g - s.cfgI Obj.GN_EXT_GAIN b - s.gnss.band[b].gain ≤ 0 := by omega
    obtain ⟨j, hrun⟩ := State.jamUpdate_runs h g 0 (by rw [Int.toNat_of_nonpos hpn]; rfl)
    have hjams := GBand.jams_low (x := s.gnss.band[b]) (th := s.cfgN (inst Obj.GN_JAM_THRESH b)) (n := 0) hth
    rw [hrun, hjams, GBand.clears_calm hj, if_neg Bool.false_ne_true, if_neg Bool.false_ne_true]
    refine ⟨_, rfl, rfl, ?_, ?_, ?_, fun e he => State.modBand_band_ne he _⟩
    · rw [State.modBand_band_same]
      rfl
    · rw [State.modBand_band_same]
      exact if_neg (Nat.not_le.2 hth)
    · rw [State.modBand_band_same]
      exact (GBand.indicated_calm hj hjams).trans rfl
  case jams =>
    intro s b g n h hj h9 hn hth
    obtain ⟨j, hrun⟩ := State.jamUpdate_runs h g n hn
    have hjams := GBand.jams_tenth hj h9 hth
    rw [hrun, hjams, if_pos rfl]
    refine ⟨_, rfl, rfl, ?_, ?_⟩
    · rw [State.modBand_band_same]
      exact GBand.indicated_jams hj hjams
    · rw [State.modBand_band_same]
      rfl
  case clears =>
    intro s b g n h hj h49 hn hth
    obtain ⟨j, hrun⟩ := State.jamUpdate_runs h g n hn
    have hclears := GBand.clears_fiftieth hj h49 hth
    rw [hrun, GBand.jams_jammed hj, if_neg Bool.false_ne_true, hclears, if_pos rfl]
    refine ⟨_, rfl, rfl, ?_, ?_⟩
    · rw [State.modBand_band_same]
      exact GBand.indicated_clears hclears
    · rw [State.modBand_band_same]
      rfl

section
/-!
SUPPORT. Acquisition and tracking (09_gnss_baseband.md R313 to R322) (O54).
-/

namespace Sys2Proof.Machine

/-! ### The instructions -/

theorem exec_acqJobDone (sig sv power again : Nat) (elev : Int) (s : State) : exec (.acqJobDone sig sv power again elev) s
    = .next (s.acqDone sig sv power again elev) := rfl
theorem exec_nimbAutoOff (s : State) : exec .nimbAutoOff s = .next s.nimbAutoOff := rfl
theorem exec_channelRelease (n : Nat) (s : State) : exec (.channelRelease n) s = .next (s.chanRelease n) := rfl
theorem exec_reacqExpiry (sig sv : Nat) (s : State) : exec (.reacqExpiry sig sv) s = .next (s.reacqExpiry sig sv) := rfl
theorem exec_loopOpenTimeout (n : Nat) (s : State) : exec (.loopOpenTimeout n) s = .next (s.loopOpen n) := rfl
theorem exec_coherentIntervalEnd (n cn0 : Nat) (pli : Int) (half : Bool) (period : Option Nat) (s : State) :
    exec (.coherentIntervalEnd n cn0 pli half period) s = .next (s.coherentEnd n cn0 pli half period) := rfl

variable {s : State}

theorem State.gnss_toMono (x : HalfNs) : (s.toMono x).gnss = s.gnss := rfl

theorem State.modGnss_congr {f g : GnssState → GnssState} (h : f s.gnss = g s.gnss) : s.modGnss f = s.modGnss g :=
  congrArg (fun x => ({ s with gnss := x } : State)) h

/-! ### Channels -/

theorem State.assignChans_none (h : s.gnss.waiting = []) (n : Nat) : State.assignChans n s = s := by
  cases n with
  | zero => rfl
  | succ n =>
    have hw : s.nextWaiting = none := by
      unfold State.nextWaiting
      rw [h]
      rfl
    unfold State.assignChans
    rw [hw]

theorem State.assign_none (h : s.gnss.waiting = []) : s.assign = s := State.assignChans_none h 4096

theorem State.freeChan_zero (hc : s.gnss.chans = []) (hr : s.flt.retired = []) : s.freeChan = some 0 := by
  have hrange : List.range 192 = 0 :: (List.range 191).map Nat.succ := List.range_succ_eq_map
  unfold State.freeChan
  rw [hc, hr, hrange]
  exact List.find?_cons_of_pos rfl

/-- The one enabled signal leaves no other for its satellite. -/
theorem State.startChan_only {w : WaitSig} (hs : s.sigsOn = [w.sig]) (hc : s.gnss.chans = []) (hj : s.gnss.jobs = []) (hw : s.gnss.waiting = [w])
    (n : Nat) : ∃ x : Channel, s.startChan n w = s.modGnss (fun g => { g with chans := [x], waiting := [] })
      ∧ x.num = n ∧ x.sig = w.sig ∧ x.sv = w.sv ∧ x.elev = w.elev ∧ x.since = s.mono := by
  have hothers : ∀ p : Nat → Bool, (s.sigsOn.filter fun i => i != w.sig && p i) = [] := fun p => by
    rw [hs, List.filter_eq_nil_iff]
    intro i hi
    rw [List.mem_singleton.1 hi, bne_self_eq_false, Bool.false_and]
    exact Bool.false_ne_true
  have hwait : [w].filter (fun x => !(x.sig == w.sig && x.sv == w.sv)) = [] := by simp
  unfold State.startChan
  extract_lets c others
  have hoth : others = [] := by
    have h := hothers fun i => (sigOf i).sys == (sigOf w.sig).sys && (!(s.gnss.chans.any fun c => c.sig == i && c.sv == w.sv)
      && !(s.gnss.waiting.any fun x => x.sig == i && x.sv == w.sv))
    rw [← h]
    exact List.filter_congr fun i _ => by rw [Bool.and_assoc, Bool.and_assoc]
  rw [hoth]
  refine ⟨c, State.modGnss_congr ?_, rfl, rfl, rfl, rfl, rfl⟩
  rw [hc, hj, hw, hwait]
  simp

/-- A signal that waits alone takes channel 0. -/
theorem State.assign_only {w : WaitSig} (hs : s.sigsOn = [w.sig]) (hc : s.gnss.chans = []) (hj : s.gnss.jobs = []) (hw : s.gnss.waiting = [w])
    (hr : s.flt.retired = []) : ∃ x : Channel, s.assign = s.modGnss (fun g => { g with chans := [x], waiting := [] })
      ∧ x.num = 0 ∧ x.sig = w.sig ∧ x.sv = w.sv ∧ x.elev = w.elev ∧ x.since = s.mono := by
  obtain ⟨x, hx, hfields⟩ := State.startChan_only hs hc hj hw 0
  have hnext : s.nextWaiting = some w := by
    unfold State.nextWaiting
    rw [hw]
    rfl
  have hstep : ∀ k, State.assignChans (k + 1) s = State.assignChans k (s.startChan 0 w) := fun k => by
    rw [State.assignChans, hnext]
    dsimp only
    rw [State.freeChan_zero hc hr]
  refine ⟨x, (hstep 4095).trans ?_, hfields⟩
  rw [hx]
  exact State.assignChans_none rfl 4095

/-! ### The end of a job -/

/-- The jobs of a signal are made again. -/
def State.jobsBack (s : State) (sig sv : Nat) : State := s.modGnss fun g => { g with
  jobs := g.jobs.filter (fun j => !(j.sig == sig && j.sv == sv)) ++ (g.jobs.filter fun j => j.sig == sig && j.sv == sv).map fun j =>
    { j with madeAt := s.mono } }

/-- The jobs of a signal end. -/
def State.jobsLess (s : State) (sig sv : Nat) : State :=
  s.modGnss fun g => { g with jobs := g.jobs.filter fun j => !(j.sig == sig && j.sv == sv) }

theorem State.jobsBack_one {j : AcqJob} (h : s.gnss.jobs = [j]) :
    s.jobsBack j.sig j.sv = s.modGnss fun g => { g with jobs := [{ j with madeAt := s.mono }] } := by
  refine State.modGnss_congr ?_
  rw [h]
  simp

theorem State.jobsLess_one {j : AcqJob} (h : s.gnss.jobs = [j]) : s.jobsLess j.sig j.sv = s.modGnss fun g => { g with jobs := [] } := by
  refine State.modGnss_congr ?_
  rw [h]
  simp

/-- The end of a job in Nimbus, in the state in which it has been noted. -/
def State.acqEnds (s0 : State) (sig sv : Nat) (elev : Int) (detected verified : Bool) : State :=
  if detected = true ∧ (!verified) = true then s0.jobsBack sig sv
  else if detected = true then
    ((s0.jobsLess sig sv).modGnss fun g => { g with waiting := g.waiting ++ [⟨sig, sv, elev⟩] }).assign
  else if s0.draw.1 % 2 = 0 then s0.drawn.jobsLess sig sv
  else s0.drawn.jobsBack sig sv

theorem State.acqDone_stopped {g : Nat} (h : s.gnssOn = false ∨ s.bandRuns (sigOf g).band = false) (v p q : Nat) (e : Int) :
    s.acqDone g v p q e = s := by
  refine if_pos ?_
  rcases h with h | h
  · rw [h]
    rfl
  · rw [h]
    exact Bool.or_true _

/-- Without a job and without a reacquisition nothing ends. -/
theorem State.acqDone_none (hr : s.gnss.reacq = []) (hj : s.gnss.jobs = []) (g v p q : Nat) (e : Int) : s.acqDone g v p q e = s := by
  unfold State.acqDone
  extract_lets detected verified mine back take due t s0 later
  split
  · rfl
  · rw [hr, hj, if_neg (c := List.any [] back = true) Bool.false_ne_true,
      if_neg (c := List.any [] mine = true ∧ s.domOn 16 = true) fun hx => Bool.false_ne_true hx.1]

/-- The state in which the end of the one job has been noted. -/
def State.jobNoted (u : State) : State := u.modGnss fun g => { g with lastJobEnd := u.mono }

theorem State.acqDone_job {j : AcqJob} (hon : s.gnssOn = true) (hb : s.bandRuns (sigOf j.sig).band = true) (h16 : s.domOn 16 = true)
    (hr : s.gnss.reacq = []) (hj : s.gnss.jobs = [j]) (p q : Nat) (e : Int) : s.acqDone j.sig j.sv p q e
      = (s.toMono (max j.madeAt s.gnss.lastJobEnd + j.time (decide (s.cfgN Obj.GN_ACQ_THRESH ≤ p)))).jobNoted.acqEnds j.sig j.sv e
        (decide (s.cfgN Obj.GN_ACQ_THRESH ≤ p)) (decide (s.cfgN Obj.GN_ACQ_THRESH ≤ q)) := by
  have hmine : (j.sig == j.sig && j.sv == j.sv) = true := by simp
  unfold State.acqDone
  extract_lets detected verified mine back take due t s0 later
  have hm : mine j = true := hmine
  have hdue : due = max j.madeAt s.gnss.lastJobEnd + j.time (decide (s.cfgN Obj.GN_ACQ_THRESH ≤ p)) := by
    change ((s.gnss.jobs.find? mine).map fun j => max j.madeAt s.gnss.lastJobEnd + j.time detected).getD 0 = _
    rw [hj, List.find?_cons_of_pos hm, Option.map_some, Option.getD_some]
  rw [if_neg (by rw [hon, hb]; exact Bool.false_ne_true), hr, if_neg (c := List.any [] back = true) Bool.false_ne_true,
    if_pos ⟨by rw [hj, List.any_cons, hm]; rfl, h16⟩, ← hdue]
  have ht : s.toMono due = t := rfl
  rw [ht]
  clear_value t
  rfl

section
variable {j : AcqJob}

theorem State.acqEnds_unverified (h : s.gnss.jobs = [j]) (e : Int) :
    s.acqEnds j.sig j.sv e true false = s.modGnss fun g => { g with jobs := [{ j with madeAt := s.mono }] } :=
  (if_pos ⟨rfl, rfl⟩).trans (State.jobsBack_one h)

/-- A job that detects nothing ends, or is made again. -/
theorem State.acqEnds_missed (h : s.gnss.jobs = [j]) (e : Int) (v : Bool) :
    s.acqEnds j.sig j.sv e false v = s.drawn.modGnss (fun g => { g with jobs := [] })
      ∨ s.acqEnds j.sig j.sv e false v = s.drawn.modGnss (fun g => { g with jobs := [{ j with madeAt := s.drawn.mono }] }) := by
  have hends : s.acqEnds j.sig j.sv e false v = if s.draw.1 % 2 = 0 then s.drawn.jobsLess j.sig j.sv else s.drawn.jobsBack j.sig j.sv :=
    (if_neg fun hx => Bool.false_ne_true hx.1).trans (if_neg Bool.false_ne_true)
  rw [hends, State.jobsLess_one (s := s.drawn) h, State.jobsBack_one (s := s.drawn) h]
  split
  · exact .inl rfl
  · exact .inr rfl

/-- A verified detection takes channel 0 (R318). -/
theorem State.acqEnds_verified (h : s.gnss.jobs = [j]) (hc : s.gnss.chans = []) (hw : s.gnss.waiting = []) (hr : s.flt.retired = [])
    (hs : s.sigsOn = [j.sig]) (e : Int) : ∃ x : Channel, s.acqEnds j.sig j.sv e true true
        = s.modGnss (fun g => { g with jobs := [], chans := [x], waiting := [] })
      ∧ x.num = 0 ∧ x.sig = j.sig ∧ x.sv = j.sv ∧ x.elev = e ∧ x.since = s.mono := by
  have hends : s.acqEnds j.sig j.sv e true true
      = ((s.jobsLess j.sig j.sv).modGnss fun g => { g with waiting := g.waiting ++ [⟨j.sig, j.sv, e⟩] }).assign :=
    (if_neg fun hx => Bool.false_ne_true hx.2).trans (if_pos rfl)
  rw [hends, State.jobsLess_one h]
  have hwait : ((s.modGnss fun g => { g with jobs := [] }).modGnss fun g => { g with waiting := g.waiting ++ [⟨j.sig, j.sv, e⟩] }).gnss.waiting
      = [⟨j.sig, j.sv, e⟩] := congrArg (· ++ [_]) hw
  exact State.assign_only (s := (s.modGnss fun g => { g with jobs := [] }).modGnss fun g =>
    { g with waiting := g.waiting ++ [⟨j.sig, j.sv, e⟩] }) (w := ⟨j.sig, j.sv, e⟩) hs hc rfl hwait hr

theorem State.jobNoted_taken {x : Channel} (hw : s.gnss.waiting = []) :
    (s.jobNoted.modGnss fun g => { g with jobs := [], chans := [x], waiting := [] })
      = { s with gnss := { s.gnss with lastJobEnd := s.mono, jobs := [], chans := [x] } } :=
  State.modGnss_congr (s := s) (f := fun g => { g with lastJobEnd := s.mono, jobs := [], chans := [x], waiting := [] })
    (g := fun g => { g with lastJobEnd := s.mono, jobs := [], chans := [x] })
    (congrArg (fun w => { s.gnss with lastJobEnd := s.mono, jobs := [], chans := [x], waiting := w }) hw.symm)

end

/-! ### Nimbus -/

theorem State.nimbAutoOff_none (h : s.cfgN Obj.GN_NIMB_AUTO ≠ 1 ∨ s.gnss.jobs ≠ [] ∨ s.cfgN Obj.SN_ENABLE ≠ 0 ∨ s.domOn 16 = false) :
    s.nimbAutoOff = s := by
  refine if_neg ?_
  rintro ⟨h1, h2, h3, h4⟩
  rcases h with h | h | h | h
  · exact h h1
  · exact h h2
  · exact h h3
  · exact Bool.false_ne_true (h.symm.trans h4)

theorem State.nimbAutoOff_due (h1 : s.cfgN Obj.GN_NIMB_AUTO = 1) (h2 : s.gnss.jobs = []) (h3 : s.cfgN Obj.SN_ENABLE = 0)
    (h4 : s.domOn 16 = true) : s.nimbAutoOff = match (s.toMono (s.gnss.lastJobEnd + secHalfNs)).targetRefusal 16 0 with
      | some r => (s.toMono (s.gnss.lastJobEnd + secHalfNs)).countRefusal 16 r.2 r.1
      | none => (s.toMono (s.gnss.lastJobEnd + secHalfNs)).applyTarget 16 0 := (if_pos ⟨h1, h2, h3, h4⟩).trans rfl

/-! ### Release and reacquisition -/

theorem State.chanLess_none {n : Nat} (h : s.chanOf n = none) : s.chanRelease n = s ∧ s.loopOpen n = s
    ∧ ∀ c p hc m, s.coherentEnd n c p hc m = s := by
  refine ⟨?_, ?_, fun c p hc m => ?_⟩
  · rw [State.chanRelease, h]
  · rw [State.loopOpen, h]
  · rw [State.coherentEnd, h]

theorem State.toReacq_quiet (h : s.gnss.waiting = []) (c : Channel) : s.toReacq c = { s with gnss := { s.gnss with
    chans := s.gnss.chans.filter (fun y => y.num != c.num), reacq := s.gnss.reacq ++ [(c.sig, c.sv, s.mono)] } } :=
  State.assign_none (s := s.modGnss fun g => { g with
    chans := g.chans.filter fun x => x.num != c.num, reacq := g.reacq ++ [(c.sig, c.sv, s.mono)] }) h

theorem State.chanRelease_lost {n x : Nat} {c : Channel} (h : s.chanOf n = some c) (hx : c.lostAt = some x) :
    s.chanRelease n = (s.toMono (x + 2 * secHalfNs)).toReacq c := by
  rw [State.chanRelease, h]
  dsimp only
  rw [hx]

theorem State.loopOpen_open {n x : Nat} {c : Channel} (h : s.chanOf n = some c) (hx : c.openAt = some x) :
    s.loopOpen n = (s.toMono (x + 100 * msHalfNs + 1)).toReacq c := by
  rw [State.loopOpen, h]
  dsimp only
  rw [hx]

theorem State.reacqExpiry_none (h : s.gnss.reacq = []) (g v : Nat) : s.reacqExpiry g v = s := by
  rw [State.reacqExpiry, h]
  rfl

theorem State.primarySig_only {g : Nat} (h : s.sigsOn = [g]) : s.primarySig (sigOf g).sys = some g := by
  rw [State.primarySig, h]
  exact List.find?_cons_of_pos (beq_self_eq_true _)

/-- The end of a reacquisition, in the state at its time. -/
def State.reacqEnds (u : State) (sig sv : Nat) : State :=
  let s1 := u.modGnss fun g => { g with reacq := g.reacq.filter fun r => !(r.1 == sig && r.2.1 == sv) }
  match s1.gnss.chans.find? fun c => c.sv == sv && (sigOf c.sig).sys == (sigOf sig).sys with
  | some c => (s1.modGnss fun g => { g with waiting := g.waiting ++ [⟨sig, sv, c.elev⟩] }).assign
  | none =>
    let p := (s1.primarySig (sigOf sig).sys).getD sig
    if (s1.gnss.jobs.any fun j => j.sig == p && j.sv == sv) = true then s1
    else (s1.modGnss fun g => { g with jobs := g.jobs ++ [⟨p, sv, s1.acqMode p sv, s1.mono⟩] }).nimbRequest

theorem State.reacqExpiry_some {g v a b x : Nat} (h : s.gnss.reacq.find? (fun r => r.1 == g && r.2.1 == v) = some (a, b, x)) :
    s.reacqExpiry g v = (s.toMono (x + 10 * secHalfNs)).reacqEnds g v := by
  unfold State.reacqExpiry
  rw [h]
  rfl

theorem State.nimbRequest_on (h : s.domOn 16 = true) : s.nimbRequest = s := by
  refine if_neg ?_
  rw [h, Bool.not_true, Bool.and_false]
  exact Bool.false_ne_true

/-- The one reacquisition of the one enabled signal becomes its acquisition job. -/
theorem State.reacqEnds_one {g v x : Nat} (h : s.gnss.reacq = [(g, v, x)]) (hc : s.gnss.chans = []) (hs : s.sigsOn = [g])
    (hj : s.gnss.jobs = []) (h16 : s.domOn 16 = true) :
    ∃ m, s.reacqEnds g v = s.modGnss fun y => { y with reacq := [], jobs := [⟨g, v, m, s.mono⟩] } := by
  have hempty : [(g, v, x)].filter (fun r => !(r.1 == g && r.2.1 == v)) = [] := by simp
  have hadded : ∀ m t, ((s.modGnss fun y => { y with reacq := [] }).modGnss fun y => { y with jobs := y.jobs ++ [⟨g, v, m, t⟩] })
      = s.modGnss fun y => { y with reacq := [], jobs := [⟨g, v, m, t⟩] } := fun m t =>
    State.modGnss_congr (s := s) (f := fun y => { y with reacq := [], jobs := y.jobs ++ [⟨g, v, m, t⟩] })
      (congrArg (fun l : List AcqJob => ({ s.gnss with reacq := [], jobs := l ++ [⟨g, v, m, t⟩] } : GnssState)) hj)
  unfold State.reacqEnds
  extract_lets s1 p
  have hs1 : s1 = s.modGnss fun y => { y with reacq := [] } := State.modGnss_congr (by rw [h, hempty])
  clear_value s1
  subst hs1
  have hchans : (s.modGnss fun y => { y with reacq := [] }).gnss.chans = [] := hc
  have hjobs : (s.modGnss fun y => { y with reacq := [] }).gnss.jobs = [] := hj
  have hprim : (s.modGnss fun y => { y with reacq := [] }).primarySig (sigOf g).sys = some g :=
    State.primarySig_only (s := s.modGnss fun y => { y with reacq := [] }) hs
  rw [hchans, List.find?_nil]
  have hp : p = g := (congrArg (Option.getD · g) hprim :)
  dsimp only
  rw [hp, if_neg (by rw [hjobs]; exact Bool.false_ne_true), State.nimbRequest_on]
  · exact ⟨_, hadded _ _⟩
  · exact h16

/-! ### Coherent intervals -/

/-- A channel that a change leaves its number is found under it. -/
theorem find?_replaced {n : Nat} {c d : Channel} (hd : d.num = c.num) : ∀ {l : List Channel}, l.find? (fun x => x.num == n) = some c →
    (l.map fun x => if x.num = c.num then d else x).find? (fun x => x.num == n) = some d
  | [], h => absurd h (Option.some_ne_none c).symm
  | y :: l, h => by
    by_cases hy : (y.num == n) = true
    · rw [List.find?_cons_of_pos (p := fun x : Channel => x.num == n) hy] at h
      obtain rfl := Option.some.inj h
      rw [List.map_cons, if_pos rfl, List.find?_cons_of_pos (p := fun x : Channel => x.num == n) (by rw [hd]; exact hy)]
    · have hn : c.num = n := beq_iff_eq.1 (List.find?_some (p := fun x : Channel => x.num == n) h)
      rw [List.find?_cons_of_neg (p := fun x : Channel => x.num == n) hy] at h
      have hyc : ¬ y.num = c.num := fun hx => hy (beq_iff_eq.2 (hx.trans hn))
      rw [List.map_cons, if_neg hyc, List.find?_cons_of_neg (p := fun x : Channel => x.num == n) hy]
      exact find?_replaced hd h

theorem State.chanOf_putChan {n : Nat} {c d : Channel} (h : s.chanOf n = some c) (hd : d.num = c.num) : (s.putChan d).chanOf n = some d := by
  have h1 := find?_replaced hd h
  rw [← hd] at h1
  exact h1

theorem State.coherentEnd_stopped {n : Nat} {c : Channel} (h : s.chanOf n = some c)
    (hb : s.navServes = false ∨ s.bandRuns (sigOf c.sig).band = false) (cn0 : Nat) (p : Int) (hc : Bool) (m : Option Nat) :
    s.coherentEnd n cn0 p hc m = s := by
  rw [State.coherentEnd, h]
  refine if_pos ?_
  rcases hb with hb | hb
  · rw [hb]
    rfl
  · rw [hb]
    exact Bool.or_true _

/-- A channel at the end of a coherent interval: lock is judged, the loops are closed (R319 to R321). -/
def State.coherentChan (u : State) (c : Channel) (cn0 : Nat) (p : Int) (half : Bool) (m : Option Nat) : Channel := { c with
  codeLock := decide (u.cfgN Obj.GN_TRACK_DROP ≤ cn0)
  lostAt := if decide (u.cfgN Obj.GN_TRACK_DROP ≤ cn0) = true then none else some (c.lostAt.getD u.mono)
  phaseLock := decide (800 ≤ p), half := c.half || half
  since := if (c.phaseLock && !decide (800 ≤ p)) = true then u.mono else c.since
  phaseLoop := !(c.phaseLock && !decide (800 ≤ p))
    && (c.phaseLoop || decide ((if (c.phaseLock && !decide (800 ≤ p)) = true then u.mono else c.since) + 500 * msHalfNs ≤ u.mono))
  spacing := u.cfgN Obj.GN_SPACING c.sig, openAt := none, coh := u.cohMs c.sig m, cohAt := u.mono, sync := m.isSome }

theorem State.coherentChan_lost {u : State} {c : Channel} {cn0 : Nat} {p : Int} {half : Bool} {m : Option Nat} (hl : c.phaseLock = true)
    (hx : (u.coherentChan c cn0 p half m).phaseLock = false) :
    (u.coherentChan c cn0 p half m).phaseLoop = false ∧ (u.coherentChan c cn0 p half m).since = u.mono := by
  have hp : decide (800 ≤ p) = false := hx
  have hlost : (c.phaseLock && !decide (800 ≤ p)) = true := by
    rw [hl, hp]
    rfl
  unfold State.coherentChan
  dsimp only
  rw [hlost]
  exact ⟨rfl, if_pos rfl⟩

theorem State.coherentEnd_runs {n : Nat} {c : Channel} (h : s.chanOf n = some c) (hn : s.navServes = true)
    (hb : s.bandRuns (sigOf c.sig).band = true) (cn0 : Nat) (p : Int) (half : Bool) (m : Option Nat) : s.coherentEnd n cn0 p half m
      = (s.toMono (c.cohAt + c.coh * msHalfNs)).putChan ((s.toMono (c.cohAt + c.coh * msHalfNs)).coherentChan c cn0 p half m) := by
  rw [State.coherentEnd, h]
  refine (if_neg ?_).trans rfl
  rw [hn, hb]
  exact Bool.false_ne_true

end Sys2Proof.Machine
end

open Sys2Proof.Machine

/-- Settles O54. -/
theorem acquisitionAndTracking : Obligations.AcquisitionAndTracking := by
  unfold Obligations.AcquisitionAndTracking
  simp only [exec_acqJobDone, exec_nimbAutoOff, exec_channelRelease, exec_reacqExpiry, exec_loopOpenTimeout, exec_coherentIntervalEnd]
  refine ⟨?stopped, ?noJob, ?job, ?nimbKept, ?nimbOff, ?noChan, ?release, ?loopOpen, ?noReacq, ?reacq, ?navStopped, ?coherent⟩
  case stopped =>
    intro s g v p q e h
    rw [State.acqDone_stopped h]
  case noJob =>
    intro s g v p q e hr hj
    rw [State.acqDone_none hr hj]
  case job =>
    rintro s u p q e j hon hb h16 hr hj hu
    rw [State.acqDone_job hon hb h16 hr hj, ← hu]
    have hgnss : u.gnss = s.gnss := by rw [hu, State.gnss_toMono]
    have hfree : u.free = s.free := by rw [hu]; rfl
    have hjobs : u.jobNoted.gnss.jobs = [j] := (congrArg GnssState.jobs hgnss).trans hj
    refine ⟨fun hp => ?_, fun hp hq => ?_, fun hp hq hc hw hret hsigs => ?_⟩
    · rw [decide_eq_false (Nat.not_le.2 hp)]
      obtain hends | hends := State.acqEnds_missed hjobs e (decide (s.cfgN Obj.GN_ACQ_THRESH ≤ q))
      · rw [hends, ← hfree, ← hgnss]
        exact ⟨_, rfl, rfl, .inl rfl⟩
      · rw [hends, ← hfree, ← hgnss]
        exact ⟨_, rfl, rfl, .inr rfl⟩
    · rw [decide_eq_true hp, decide_eq_false (Nat.not_le.2 hq), State.acqEnds_unverified hjobs, ← hgnss]
      rfl
    · have hgnss' : u.jobNoted.gnss.chans = [] := (congrArg GnssState.chans hgnss).trans hc
      have hwait : u.jobNoted.gnss.waiting = [] := (congrArg GnssState.waiting hgnss).trans hw
      have hretired : u.jobNoted.flt.retired = [] := by
        rw [show u.jobNoted.flt = u.flt from rfl, hu]
        exact hret
      have hsig : u.jobNoted.sigsOn = [j.sig] := by
        refine Eq.trans ?_ hsigs
        rw [show u.jobNoted.sigsOn = u.sigsOn from rfl, hu]
        rfl
      obtain ⟨x, hx, hnum, hxsig, hsv, helev, hsince⟩ := State.acqEnds_verified hjobs hgnss' hwait hretired hsig e
      rw [decide_eq_true hp, decide_eq_true hq, hx, ← hgnss]
      exact ⟨_, x, rfl, State.jobNoted_taken (hw := (congrArg GnssState.waiting hgnss).trans hw), hnum, hxsig, hsv, helev, hsince⟩
  case nimbKept =>
    intro s h
    rw [State.nimbAutoOff_none h]
  case nimbOff =>
    rintro s u h1 h2 h3 h4 rfl
    rw [State.nimbAutoOff_due h1 h2 h3 h4]
    refine ⟨fun hn => ?_, fun r hr => ?_⟩
    · rw [hn]
    · rw [hr]
  case noChan =>
    intro s n h
    obtain ⟨hrel, hopen, hcoh⟩ := State.chanLess_none h
    exact ⟨congrArg Host.Outcome.next hrel, congrArg Host.Outcome.next hopen, fun c p hc m => congrArg Host.Outcome.next (hcoh c p hc m)⟩
  case release =>
    intro s n x c h hx hw
    rw [State.chanRelease_lost h hx, State.toReacq_quiet (s := s.toMono _) hw]
    rfl
  case loopOpen =>
    intro s n x c h hx hw
    rw [State.loopOpen_open h hx, State.toReacq_quiet (s := s.toMono _) hw]
    rfl
  case noReacq =>
    intro s g v h
    rw [State.reacqExpiry_none h]
  case reacq =>
    rintro s u g v x h hc hs hj h16 rfl
    have hfind : s.gnss.reacq.find? (fun r => r.1 == g && r.2.1 == v) = some (g, v, x) := by
      rw [h]
      exact List.find?_cons_of_pos (by simp)
    obtain ⟨m, hm⟩ := State.reacqEnds_one (s := s.toMono (x + 10 * Sys2Proof.secHalfNs)) (v := v) h hc hs hj h16
    rw [State.reacqExpiry_some hfind, hm]
    exact ⟨_, m, rfl, rfl⟩
  case navStopped =>
    intro s n cn0 p h m c hc hb
    rw [State.coherentEnd_stopped hc hb]
  case coherent =>
    rintro s u n cn0 p h m c hc hn hb rfl
    rw [State.coherentEnd_runs hc hn hb]
    have hput := State.chanOf_putChan (s := s.toMono (c.cohAt + c.coh * Sys2Proof.msHalfNs)) hc
      (d := (s.toMono (c.cohAt + c.coh * Sys2Proof.msHalfNs)).coherentChan c cn0 p h m) rfl
    refine ⟨_, _, rfl, rfl, hput, rfl, rfl, rfl, decide_eq_true_iff, decide_eq_true_iff, fun hx => if_pos hx, fun hx => if_neg ?_, rfl, rfl,
      rfl, rfl, fun hl hx => State.coherentChan_lost hl hx⟩
    exact fun hy => Bool.noConfusion (hx.symm.trans hy)

section
/-!
SUPPORT. Snapshot positioning (10_snapshot_positioning.md R344 to R361) (O56).
-/

namespace Sys2Proof.Machine

/-! ### The instructions -/

theorem exec_snapshotFragment (sky : List SkySat) (s : State) : exec (.snapshotFragment sky) s = .next (s.snapFragment sky).settled := rfl
theorem exec_fragTimeout (flock : Nat) (s : State) : exec (.fragTimeout flock) s = .next (s.fragTimeout flock) := rfl
theorem exec_nimbusInterval (s : State) : exec .nimbusInterval s = .next s.nimbusInterval := rfl
theorem exec_nimbusJobStart (s : State) : exec .nimbusJobStart s = .next s.nimbusStart := rfl
theorem exec_snapshotDeadline (s : State) : exec .snapshotDeadline s = .next s.snapDeadline := rfl
theorem exec_nimbusJobDone (s : State) : exec .nimbusJobDone s = .next s.nimbusDone := rfl
theorem exec_snapshotSolution (k : Fin 2) (a : SnSolve) (s : State) : exec (.snapshotSolution k a) s = .next (s.snapSolution k a) := rfl
theorem exec_snEnableWrite (v : Nat) (s : State) : exec (.snEnableWrite v) s = .next (s.snEnable v) := rfl

variable {s : State} {f g : SnFrag}

theorem State.snap_toMono (x : HalfNs) : (s.toMono x).snap = s.snap := rfl

theorem State.modSnap_congr {h k : SnapState → SnapState} (e : h s.snap = k s.snap) : s.modSnap h = s.modSnap k :=
  congrArg (fun x => ({ s with snap := x } : State)) e

/-! ### Intake: the checks 0x01 to 0x04 in their order (R353) -/

theorem State.intake_off (h : s.cfgN Obj.SN_ENABLE = 0) (l : Bool) (y : List SkySat) : s.intake f l y = s.fragEnd f 1 := by
  unfold State.intake
  exact if_pos h

theorem State.intake_header {l : Bool} (h0 : s.cfgN Obj.SN_ENABLE ≠ 0) (h : l = false ∨ headerOk f.ctrl f.offset s.tSlot = false)
    (y : List SkySat) : s.intake f l y = s.fragEnd f 2 := by
  unfold State.intake
  rw [if_neg h0]
  refine if_pos ?_
  rcases h with h | h
  · rw [h]
    rfl
  · rw [h]
    exact Bool.or_true _

/-- The header check fails a short payload and a header that R344 does not list, and nothing else. -/
theorem header_passes {c o n : Nat} (h : headerOk c o n = true) : ¬ (!true || !headerOk c o n) = true := by
  rw [h]
  exact Bool.false_ne_true

/-- A first half, or a 2 ms capture, ends alone. -/
theorem State.capEnd_first (h : f.ctrl.testBit 4 = false) (n : Nat) : s.capEnd f n = s.fragEnd f n := by
  unfold State.capEnd
  rw [h, if_neg Bool.false_ne_true]

theorem State.intake_long (h0 : s.cfgN Obj.SN_ENABLE ≠ 0) (hh : headerOk f.ctrl f.offset s.tSlot = true) (h4 : f.ctrl.testBit 4 = false)
    (hm : 1024 < f.m) (y : List SkySat) : s.intake f true y = s.fragEnd f 2 := by
  unfold State.intake
  rw [if_neg h0, if_neg (header_passes hh), if_pos hm, State.capEnd_first h4]

theorem State.intake_short (h0 : s.cfgN Obj.SN_ENABLE ≠ 0) (hh : headerOk f.ctrl f.offset s.tSlot = true) (h4 : f.ctrl.testBit 4 = false)
    (hm : f.m < 960) (y : List SkySat) : s.intake f true y = s.fragEnd f 3 := by
  unfold State.intake
  rw [if_neg h0, if_neg (header_passes hh), if_neg (by omega), if_pos hm, State.capEnd_first h4]

section
variable (h0 : s.cfgN Obj.SN_ENABLE ≠ 0) (hh : headerOk f.ctrl f.offset s.tSlot = true) (hmin : 960 ≤ f.m) (hmax : f.m ≤ 1024)
include h0 hh hmin hmax

theorem State.intake_loneSecond (h4 : f.ctrl.testBit 4 = true) (hf : s.snap.frags = []) (y : List SkySat) :
    s.intake f true y = s.fragEnd f 4 := by
  unfold State.intake
  rw [if_neg h0, if_neg (header_passes hh), if_neg (Nat.not_lt.2 hmax), if_neg (Nat.not_lt.2 hmin), if_pos h4, hf]
  rfl

theorem State.intake_first (h4 : f.ctrl.testBit 4 = false) (h5 : f.ctrl.testBit 5 = true) (y : List SkySat) :
    s.intake f true y = s.holdFrag f := by
  unfold State.intake
  rw [if_neg h0, if_neg (header_passes hh), if_neg (Nat.not_lt.2 hmax), if_neg (Nat.not_lt.2 hmin), h4, if_neg Bool.false_ne_true, if_pos h5]

theorem State.intake_whole (h4 : f.ctrl.testBit 4 = false) (h5 : f.ctrl.testBit 5 = false) (y : List SkySat) :
    s.intake f true y = (s.dropHeld f.flock).capture f f y := by
  unfold State.intake
  rw [if_neg h0, if_neg (header_passes hh), if_neg (Nat.not_lt.2 hmax), if_neg (Nat.not_lt.2 hmin), h4, h5, if_neg Bool.false_ne_true,
    if_neg Bool.false_ne_true]

end

theorem State.dropHeld_none {n : Nat} (h : ∀ x ∈ s.snap.frags, x.flock ≠ n) : s.dropHeld n = s := by
  have hfind : s.snap.frags.find? (fun x => x.flock == n) = none := List.find?_eq_none.2 fun x hx he => h x hx (beq_iff_eq.1 he)
  unfold State.dropHeld
  rw [hfind]

theorem State.holdFrag_room (hx : s.extMem = true) (hf : ∀ x ∈ s.snap.frags, x.flock ≠ f.flock) (hl : s.snap.frags.length < 4096) :
    s.holdFrag f = { s with snap := { s.snap with frags := s.snap.frags ++ [f] } } := by
  have hdrop := State.dropHeld_none hf
  unfold State.holdFrag
  rw [hdrop, hx]
  refine (if_neg Bool.false_ne_true).trans ?_
  dsimp only
  rw [if_pos hl]
  rfl

/-! ### A whole capture: the checks 0x06 to 0x0F (R348 to R355) -/

theorem State.capture_untimed (h : s.capAir f = none) (y : List SkySat) :
    s.capture f g y = s.snEnd (SnRecord.bare f.flock f.capId 7 (fragFlags f ||| fragFlags g)) [] := by
  unfold State.capture
  rw [h]
  rfl

theorem State.capture_timed {t : Int} (h : s.capAir f = some t) (y : List SkySat) : s.capture f g y = s.captureAt f g y t := by
  unfold State.capture
  rw [h]
  rfl

theorem State.captureAt_failed {t : Int} (h : s.capFault f g t ≠ 0) (y : List SkySat) :
    s.captureAt f g y t = s.capFail f g t (s.capFault f g t) := if_pos h

theorem State.captureAt_refused {t : Int} {y : List SkySat} (h : s.capFault f g t = 0) (hq : s.queueFault f (s.capSats t y) ≠ 0) :
    s.captureAt f g y t = State.jobEnd { s with free := s.free + 1 } (s.capJob f g t (s.capSats t y)) (s.queueFault f (s.capSats t y)) := by
  unfold State.captureAt
  rw [if_neg (not_not.2 h), if_pos hq]
  rfl

theorem State.captureAt_queued {t : Int} {y : List SkySat} (h : s.capFault f g t = 0) (hq : s.queueFault f (s.capSats t y) = 0) :
    s.captureAt f g y t = s.drawn.queueJob (s.capJob f g t (s.capSats t y)) := by
  unfold State.captureAt
  rw [if_neg (not_not.2 h), if_neg (not_not.2 hq)]

/-- A job that enters the queue leaves the peak depth no lower. -/
theorem State.queueJob_peak (s : State) (j : SnJob) : ∃ p : Nat, s.snap.peak ≤ p
    ∧ s.queueJob j = { s with snap := { s.snap with queue := s.snap.queue ++ [j], peak := p } } :=
  ⟨_, le_max_left _ _, rfl⟩

theorem State.capFault_old {t : Int} (h : t + s.cfgN Obj.SN_MAX_AGE * secHalfNs < g.stamp) : s.capFault f g t = 6 := if_pos h

theorem State.capFault_noTime {t : Int} (h : (g.stamp : Int) ≤ t + s.cfgN Obj.SN_MAX_AGE * secHalfNs) (he : s.time.established = false) :
    s.capFault f g t = 7 := by
  unfold State.capFault
  extract_lets four age known
  have hk : known = false := by
    show (s.time.established && _) = false
    rw [he, Bool.false_and]
  rw [if_neg (Int.not_lt.2 h), hk]
  exact if_pos (by simp)

theorem State.queueFault_few {l : List (Nat × SkySat)} (h : l.length < s.cfgN Obj.SN_MIN_SV) : s.queueFault f l = 0x0E := by
  unfold State.queueFault
  rw [decide_eq_true h, Bool.or_true, if_pos rfl]

/-! ### Fragments of accepted frames (R183, R236) -/

theorem State.snapFragment_none (h : s.mesh.accepted.find? (isData 2) = none) (y : List SkySat) : s.snapFragment y = s := by
  unfold State.snapFragment State.takeFrame
  rw [h]

/-- The fragment that a data frame with payload type 0x02 carries. -/
def State.fragOf (u : State) (x : RxFrame) : SnFrag :=
  ⟨x.record, leAt x.data 0 1, leAt x.data 1 1, leAt x.data 2 4, leAt x.data 6 3, leAt x.data 9 2, x.data.drop 12, x.stamp,
    x.untimed || x.unref, x.cfo, u.laneKhz x.path x.lane, u.mono⟩

/-- The state without the oldest accepted frame with payload type 0x02. -/
def State.fragTaken (s : State) : State := { s with mesh := { s.mesh with accepted := s.mesh.accepted.eraseP (isData 2) } }

theorem State.snapFragment_some {x : RxFrame} (h : s.mesh.accepted.find? (isData 2) = some x) (y : List SkySat) :
    s.snapFragment y = if x.dup then s.fragTaken.dataFrame x
      else (s.fragTaken.dataFrame x).intake (s.fragTaken.fragOf x) (decide (12 ≤ x.data.length)) y := by
  unfold State.snapFragment State.takeFrame
  rw [h]
  rfl

theorem State.fragTimeout_none {n : Nat} (h : s.snap.frags.find? (fun x => x.flock == n) = none) : s.fragTimeout n = s := by
  unfold State.fragTimeout
  rw [h]

theorem State.fragTimeout_only (h : s.snap.frags = [f]) : s.fragTimeout f.flock
    = State.fragEnd { s.toMono (f.heldAt + s.cfgN Obj.SN_FRAG_WAIT * secHalfNs) with snap := { s.snap with frags := [] } } f 5 := by
  have hfind : s.snap.frags.find? (fun x => x.flock == f.flock) = some f := by
    rw [h]
    exact List.find?_cons_of_pos (beq_self_eq_true _)
  have hfilter : s.snap.frags.filter (fun x => x.flock != f.flock) = [] := by
    rw [h]
    exact List.filter_cons_of_neg (by simp)
  unfold State.fragTimeout
  rw [hfind]
  refine congrArg (fun u : State => u.fragEnd f 5) ?_
  rw [← hfilter]
  rfl

/-! ### Nimbus (R315, R355, R356) -/

theorem State.nimbusInterval_eq (s : State) : s.nimbusInterval = { s.toMono (s.snap.since + 10 * msHalfNs) with snap := { s.snap with
    since := (s.toMono (s.snap.since + 10 * msHalfNs)).mono, load := (s.snap.usedNow :: s.snap.load).take 100, usedNow := 0 } } := rfl

theorem State.nimbusStart_idle (h : s.snap.queue = [] ∨ s.snap.running.isSome = true) : s.nimbusStart = s := by
  unfold State.nimbusStart
  rcases h with h | h
  · rw [h]
  · obtain ⟨j, hj⟩ := Option.isSome_iff_exists.1 h
    rw [hj]
    cases s.snap.queue <;> rfl

section
variable {j : SnJob} {q : List SnJob} (hq : s.snap.queue = j :: q)
include hq

theorem State.nimbusStart_late (hr : s.snap.running = none) (h : j.queuedAt + s.cfgN Obj.SN_QUEUE_DEADLINE * msHalfNs < s.mono) :
    s.nimbusStart = State.jobEnd { s with snap := { s.snap with queue := q } } j 0x10 := by
  unfold State.nimbusStart
  rw [hq, hr]
  exact if_pos h

theorem State.nimbusStart_starts (hr : s.snap.running = none) (h : s.mono ≤ j.queuedAt + s.cfgN Obj.SN_QUEUE_DEADLINE * msHalfNs)
    (h16 : s.domOn 16 = true) (hs : s.snapShare = true) : s.nimbusStart = { s with snap := { s.snap with
      queue := q, running := some { j with startedAt := s.mono }, usedNow := s.snap.usedNow + j.jobHalf } } := by
  unfold State.nimbusStart
  rw [hq, hr]
  refine (if_neg (Nat.not_lt.2 h)).trans (if_pos ?_)
  rw [h16, hs]
  rfl

theorem State.nimbusStart_waits (hr : s.snap.running = none) (h : s.mono ≤ j.queuedAt + s.cfgN Obj.SN_QUEUE_DEADLINE * msHalfNs)
    (hs : s.domOn 16 = false ∨ s.snapShare = false) : s.nimbusStart = s := by
  unfold State.nimbusStart
  rw [hq, hr]
  refine (if_neg (Nat.not_lt.2 h)).trans (if_neg ?_)
  rw [Bool.and_eq_true]
  rintro ⟨h16, hshare⟩
  exact hs.elim (fun hx => Bool.noConfusion (hx.symm.trans h16)) fun hx => Bool.noConfusion (hx.symm.trans hshare)

theorem State.snapDeadline_head : s.snapDeadline = State.jobEnd
    { s.toMono (j.queuedAt + s.cfgN Obj.SN_QUEUE_DEADLINE * msHalfNs) with snap := { s.snap with queue := q } } j 0x10 := by
  unfold State.snapDeadline
  rw [hq]
  rfl

end

theorem State.snapDeadline_none (h : s.snap.queue = []) : s.snapDeadline = s := by
  unfold State.snapDeadline
  rw [h]

theorem State.nimbusDone_none (h : s.snap.running = none) : s.nimbusDone = s := by
  unfold State.nimbusDone
  rw [h]

/-- The satellites of a job whose strongest cell reaches a threshold (R356). -/
def SnJob.foundAt (j : SnJob) (thresh : Nat) : List (Nat × Nat) :=
  j.sats.zipIdx.filterMap fun p => if thresh ≤ ((List.zipWith j.peak j.sats j.assist)[p.2]?).getD 0 then some p.1 else none

theorem SnJob.mem_foundAt {j : SnJob} {n : Nat} {p : Nat × Nat} : p ∈ j.foundAt n
    ↔ ∃ i : Nat, j.sats[i]? = some p ∧ n ≤ ((List.zipWith j.peak j.sats j.assist)[i]?).getD 0 := by
  unfold SnJob.foundAt
  rw [List.mem_filterMap]
  constructor
  · rintro ⟨⟨x, i⟩, hx, hp⟩
    rw [Option.ite_none_right_eq_some] at hp
    obtain ⟨hle, hp⟩ := hp
    exact ⟨i, Option.some.inj hp ▸ List.mem_zipIdx_iff_getElem?.1 hx, hle⟩
  · rintro ⟨i, hi, hle⟩
    exact ⟨(p, i), List.mem_zipIdx_iff_getElem?.2 hi, if_pos hle⟩

/-- The state of an engine, as the model reads it by number. -/
theorem State.engSt_eq (s : State) (n : Fin 8) : vgetD (s.eng.map (·.st)) n 0 = s.eng[n].st := by
  unfold vgetD
  rw [Vector.getElem?_eq_getElem n.isLt, Vector.getElem_map]
  rfl

section
variable {j : SnJob} (hr : s.snap.running = some j)
include hr

theorem State.nimbusDone_solves (h : s.eng[(6 : Fin 8)].st = 1) : s.nimbusDone = { s.toMono (j.startedAt + j.jobHalf) with snap := { s.snap with
    running := none
    solving := s.snap.solving ++ [{ j with found := j.foundAt (s.cfgN Obj.SN_DET_THRESH), peaks := List.zipWith j.peak j.sats j.assist }] } } := by
  unfold State.nimbusDone
  rw [hr]
  refine (if_neg ?_).trans rfl
  rw [bne_iff_ne, not_not]
  exact (State.engSt_eq s 6).trans h

theorem State.nimbusDone_navDown (h : s.eng[(6 : Fin 8)].st ≠ 1) : s.nimbusDone
    = State.jobEnd { s.toMono (j.startedAt + j.jobHalf) with snap := { s.snap with running := none } }
      { j with found := j.foundAt (s.cfgN Obj.SN_DET_THRESH), peaks := List.zipWith j.peak j.sats j.assist } 0x0D := by
  unfold State.nimbusDone
  rw [hr]
  refine (if_pos ?_).trans rfl
  rw [bne_iff_ne]
  exact fun hx => h ((State.engSt_eq s 6).symm.trans hx)

end

/-! ### Solutions (R357 to R359) -/

theorem snRaim_few {u : Nat} {sats : List (Nat × Nat)} (h : sats.length < u + 1) (n : Nat) (l : List (Bool × Nat × Nat)) (out : List (Nat × Nat)) :
    snRaim u n l sats out = (sats, out, 0) := by
  unfold snRaim
  exact if_pos h

theorem snRaim_passed {u : Nat} {sats : List (Nat × Nat)} {l : List (Bool × Nat × Nat)} (h : u + 1 ≤ sats.length)
    (hl : l.head?.map (·.1) = some true) (n : Nat) (out : List (Nat × Nat)) : snRaim u n l sats out = (sats, out, 1) := by
  unfold snRaim
  rw [if_neg (Nat.not_lt.2 h)]
  cases l with
  | nil => cases hl
  | cons t l =>
    obtain ⟨b, i, v⟩ := t
    obtain rfl : b = true := Option.some.inj hl
    cases n <;> rfl

theorem State.snapSolution_none {k : Fin 2} (h : s.snap.solving.length ≤ k.val) (a : SnSolve) : s.snapSolution k a = s := by
  unfold State.snapSolution
  rw [List.getElem?_eq_none h]

theorem State.snapSolution_navDown (h : s.eng[(5 : Fin 8)].st ≠ 1 ∨ s.eng[(6 : Fin 8)].st ≠ 1) (k : Fin 2) (a : SnSolve) :
    s.snapSolution k a = s := by
  unfold State.snapSolution
  cases s.snap.solving[k.val]? with
  | none => rfl
  | some j =>
    refine if_pos ?_
    rw [Bool.or_eq_true, bne_iff_ne, bne_iff_ne]
    exact h.imp (fun hx e => hx ((State.engSt_eq s 5).symm.trans e)) fun hx e => hx ((State.engSt_eq s 6).symm.trans e)

/-- NAV0 and NAV1 run. -/
theorem State.navsUp (h5 : s.eng[(5 : Fin 8)].st = 1) (h6 : s.eng[(6 : Fin 8)].st = 1) :
    ¬ (vgetD (s.eng.map (·.st)) 5 0 != 1 || vgetD (s.eng.map (·.st)) 6 0 != 1) = true := by
  rw [Bool.or_eq_true, bne_iff_ne, bne_iff_ne, not_or, not_not, not_not]
  exact ⟨(State.engSt_eq s 5).trans h5, (State.engSt_eq s 6).trans h6⟩

section
variable {k : Fin 2} {a : SnSolve} {j : SnJob} (hj : s.snap.solving[k.val]? = some j) (h5 : s.eng[(5 : Fin 8)].st = 1)
  (h6 : s.eng[(6 : Fin 8)].st = 1) (haid : s.cfgN Obj.SN_HEIGHT_AID = 0) (hm : s.gnss.mismatch = false)
include hj h5 h6 haid hm

theorem State.snapSolution_few (hl : j.found.length < 4) : s.snapSolution k a = State.snEnd
    { s with snap := { s.snap with solving := s.snap.solving.eraseIdx k.val } } { j.record 0x11 with flags := j.flags }
    (j.detail (fun _ => 0) [] []) := by
  have hneed : ¬ max 4 (s.cfgN Obj.SN_MIN_SV) ≤ j.found.length := fun hx => absurd (le_trans (le_max_left _ _) hx) (Nat.not_le.2 hl)
  unfold State.snapSolution
  rw [hj]
  refine (if_neg (State.navsUp h5 h6)).trans ?_
  simp only [haid, hm, zero_ne_one, if_false, snRaim_few (show j.found.length < 4 + 1 by omega), decide_eq_false hneed]
  rfl

/-- A solution in range that RAIM passes, or that it has no satellite to test with, is a fix (R357 to R359). -/
theorem State.snapSolution_fix {r : Nat} (hl : max 4 (s.cfgN Obj.SN_MIN_SV) ≤ j.found.length) (hc : a.converged = true)
    (hd : a.dist ≤ s.cfgN Obj.SN_MAX_RANGE * 10 + 3 * a.hAcc)
    (hr : j.found.length = 4 ∧ r = 0 ∨ 5 ≤ j.found.length ∧ r = 1 ∧ (a.tests.head?.map (·.1)) = some true) :
    s.snapSolution k a = State.snEnd { s with snap := { s.snap with solving := s.snap.solving.eraseIdx k.val } }
      { j.record 0 with
        fix := 1, flags := j.flags + r, used := j.found.length, pos := a.pos, hAcc := a.hAcc, vAcc := a.vAcc, pdop := a.pdop
        clkErr := a.clkErr, freqResid := a.freqResid }
      (j.detail (fun p => ((a.peaks.find? fun q => q.1 == 256 * p.1 + p.2).map (·.2)).getD 0) j.found []) := by
  have hraim : snRaim 4 3 a.tests j.found [] = (j.found, [], r) ∧ r ≤ 1 := by
    rcases hr with ⟨h4, rfl⟩ | ⟨h, rfl, ht⟩
    · exact ⟨snRaim_few (by omega) 3 _ _, by omega⟩
    · exact ⟨snRaim_passed h ht 3 _, le_rfl⟩
  obtain ⟨hraim, hle⟩ := hraim
  have hr1 : (if r = 1 then 1 else 0) = r := by
    obtain rfl | rfl := Nat.le_one_iff_eq_zero_or_eq_one.1 hle
    · rfl
    · rfl
  have hr2 : r ≠ 2 := by omega
  unfold State.snapSolution
  rw [hj]
  refine (if_neg (State.navsUp h5 h6)).trans ?_
  simp only [haid, hm, zero_ne_one, if_false, hraim, decide_eq_true hl, decide_eq_false (Nat.not_lt.2 hd), hc, bne_iff_ne.2 hr2, hr1, if_neg hr2]
  rfl

end

/-! ### SN_ENABLE (R361) -/

theorem State.snEnable_refused {v : Nat} (h : s.snEnableCheck v ≠ 0) : s.snEnable v = s := if_neg h

theorem State.snEnableCheck_down (h : s.domOn 16 = false ∨ s.domOn 15 = false) : s.snEnableCheck 1 = 5 := by
  unfold State.snEnableCheck
  rw [if_neg (lt_irrefl 1)]
  refine if_pos ⟨rfl, h.imp ?_ ?_⟩ <;>
  · intro hx
    rw [hx]
    rfl

theorem State.snEnable_on (h16 : s.domOn 16 = true) (h15 : s.domOn 15 = true) :
    s.snEnable 1 = (s.cfgPut Obj.SN_ENABLE (scalar 1)).bumpRev Obj.SN_ENABLE := by
  have hcheck : s.snEnableCheck 1 = 0 := by
    unfold State.snEnableCheck
    rw [if_neg (lt_irrefl 1), h16, h15]
    rfl
  unfold State.snEnable
  rw [if_pos hcheck]
  rfl

theorem State.endFrags_none (h : s.snap.frags = []) (n : Nat) : s.endFrags n = s := by
  unfold State.endFrags
  rw [h]
  show ({ s with snap := { s.snap with frags := [] } } : State) = s
  rw [← h]

theorem State.endSnQueue_none (h : s.snap.queue = []) (n : Nat) : s.endSnQueue n = s := by
  unfold State.endSnQueue
  rw [h]
  show ({ s with snap := { s.snap with queue := [] } } : State) = s
  rw [← h]

theorem State.snEnable_offIdle (hf : s.snap.frags = []) (hq : s.snap.queue = []) :
    s.snEnable 0 = (s.cfgPut Obj.SN_ENABLE (scalar 0)).bumpRev Obj.SN_ENABLE := by
  have hcheck : s.snEnableCheck 0 = 0 := rfl
  unfold State.snEnable State.snEnablePut
  rw [if_pos hcheck]
  refine congrArg (fun u : State => u.bumpRev Obj.SN_ENABLE) ((if_pos rfl).trans ?_)
  rw [Nat.cast_zero, State.endFrags_none (s := s.cfgPut Obj.SN_ENABLE (scalar 0)) hf, State.endSnQueue_none (s := s.cfgPut Obj.SN_ENABLE (scalar 0)) hq]

end Sys2Proof.Machine
end

open Sys2Proof.Machine

/-- Settles O56. -/
theorem snapshotsComplete : Obligations.SnapshotsComplete := by
  unfold Obligations.SnapshotsComplete
  simp only [exec_snapshotFragment, exec_fragTimeout, exec_nimbusInterval, exec_nimbusJobStart, exec_snapshotDeadline, exec_nimbusJobDone,
    exec_snapshotSolution, exec_snEnableWrite]
  refine ⟨⟨?off, ?header, ?size, ?lone, ?first, ?whole, ?untimed, ?timed, ?old, ?noTime, ?few, ?noFrame, ?dup, ?fragment⟩,
    ?noHeld, ?fragWait, ?interval, ?idle, ?start, ?noQueue, ?deadline, ?noJob, ?jobDone, ?noSolving, ?navDown, ?solution, ?refused, ?down,
    ?enable, ?disable⟩
  case off =>
    intro s f l y h
    rw [State.intake_off h]
  case header =>
    intro s f l y h0 h
    rw [State.intake_header h0 h]
  case size =>
    intro s f y h0 hh h4
    exact ⟨fun h => State.intake_long h0 hh h4 h y, fun h => State.intake_short h0 hh h4 h y⟩
  case lone =>
    intro s f y h0 hh hmin hmax h4 hf
    exact State.intake_loneSecond h0 hh hmin hmax h4 hf y
  case first =>
    intro s f y h0 hh hmin hmax h4 h5 hx hf hl
    rw [State.intake_first h0 hh hmin hmax h4 h5, State.holdFrag_room hx hf hl]
  case whole =>
    intro s f y h0 hh hmin hmax h4 h5 hf
    rw [State.intake_whole h0 hh hmin hmax h4 h5, State.dropHeld_none hf]
  case untimed =>
    intro s f g y h
    exact State.capture_untimed h y
  case timed =>
    intro s f g y t h
    refine ⟨fun hf => ?_, fun hf hq => ?_, fun hf hq => ?_⟩
    · rw [State.capture_timed h, State.captureAt_failed hf]
    · rw [State.capture_timed h, State.captureAt_refused hf hq]
    · obtain ⟨p, hp, hu⟩ := State.queueJob_peak s.drawn (s.capJob f g t (s.capSats t y))
      exact ⟨_, p, hp, rfl, (State.capture_timed h y).trans ((State.captureAt_queued hf hq).trans hu)⟩
  case old =>
    intro s f g t h
    exact State.capFault_old h
  case noTime =>
    intro s f g t h he
    exact State.capFault_noTime h he
  case few =>
    intro s f l h
    exact State.queueFault_few h
  case noFrame =>
    intro s y h
    rw [State.snapFragment_none h]
  case dup =>
    rintro s u x y h hd rfl
    rw [State.snapFragment_some h, if_pos hd]
    rfl
  case fragment =>
    rintro s u x y h hd rfl
    rw [State.snapFragment_some h, hd, if_neg Bool.false_ne_true]
    rfl
  case noHeld =>
    intro s n h
    rw [State.fragTimeout_none h]
  case fragWait =>
    rintro s u n f h rfl rfl
    rw [State.fragTimeout_only h]
  case interval =>
    rintro s u rfl
    rw [State.nimbusInterval_eq]
  case idle =>
    intro s h
    rw [State.nimbusStart_idle h]
  case start =>
    intro s j q hq hr
    refine ⟨fun h => ⟨fun h16 hs => ?_, fun hs => ?_⟩, fun h => ?_⟩
    · rw [State.nimbusStart_starts hq hr h h16 hs]
    · rw [State.nimbusStart_waits hq hr h hs]
    · rw [State.nimbusStart_late hq hr h]
  case noQueue =>
    intro s h
    rw [State.snapDeadline_none h]
  case deadline =>
    rintro s u j q hq rfl
    rw [State.snapDeadline_head hq]
  case noJob =>
    intro s h
    rw [State.nimbusDone_none h]
  case jobDone =>
    rintro s u j hr rfl
    refine ⟨j.foundAt (s.cfgN Obj.SN_DET_THRESH), _, rfl, fun p => SnJob.mem_foundAt, fun h => ?_, fun h => ?_⟩
    · rw [State.nimbusDone_solves hr h]
    · rw [State.nimbusDone_navDown hr h]
  case noSolving =>
    intro s k a h
    rw [State.snapSolution_none h]
  case navDown =>
    intro s k a h
    rw [State.snapSolution_navDown h]
  case solution =>
    intro s k a j hj h5 h6 haid hm
    refine ⟨fun hl => ?_, fun r hl hc hd hr => ?_⟩
    · rw [State.snapSolution_few hj h5 h6 haid hm hl]
    · rw [State.snapSolution_fix hj h5 h6 haid hm hl hc hd hr]
  case refused =>
    intro s v h
    rw [State.snEnable_refused h]
  case down =>
    intro s h
    exact State.snEnableCheck_down h
  case enable =>
    intro s h16 h15
    rw [State.snEnable_on h16 h15]
  case disable =>
    intro s hf hq
    rw [State.snEnable_offIdle hf hq]

section
/-!
SUPPORT. Ephemerides, measurement epochs, hot-start records and common view (09_gnss_baseband.md R322 to R339, 11_time_bases.md R348, R393)
(O55).
-/

namespace Sys2Proof.Machine

/-! ### The instructions -/

theorem exec_ephemerisDecoded (a : EphArg) (s : State) : exec (.ephemerisDecoded a) s = .next (s.ephDecoded a) := rfl
theorem exec_measurementEpoch (a : GnSolve) (s : State) : exec (.measurementEpoch a) s = .next (s.epoch a) := rfl
theorem exec_hotstartSave (s : State) : exec .hotstartSave s = .next s.hotSave := rfl
theorem exec_tmCvPeer (bs : Bytes) (s : State) : exec (.tmCvPeer bs) s
    = .next (if 9248 < bs.length then s else (s.cvPeerPut bs).bumpRev Obj.TM_CV_PEER) := rfl
theorem exec_offsetHistoryEntry (s : State) : exec .offsetHistoryEntry s = .next s.historyEntry := rfl

variable {s : State}

/-! ### Ephemerides (R324, R325) -/

theorem State.ephDecoded_stopped (h : s.gnssOn = false ∨ s.navServes = false) (a : EphArg) : s.ephDecoded a = s := by
  unfold State.ephDecoded
  refine if_pos ?_
  rcases h with h | h
  · rw [h]
    rfl
  · rw [h]
    exact Bool.or_true _

/-- The ephemeris that a decode yields. -/
def ephOf (a : EphArg) : Eph := ⟨a.sys, a.sv, a.toe, a.iod, a.healthy, a.content⟩

section
variable (hon : s.gnssOn = true) (hnav : s.navServes = true)
include hon hnav

theorem State.gnssWorks : ¬ (!s.gnssOn || !s.navServes) = true := by
  rw [hon, hnav]
  exact Bool.false_ne_true

theorem State.ephDecoded_rejected {a : EphArg} (h : a.parityOk = false ∨ a.iodOk = false) :
    s.ephDecoded a = (s.raise Ev.EPH_REJECTED 0xFF a.code a.sv).count Obj.GN_EPH_REJECTED := by
  unfold State.ephDecoded
  refine (if_neg (State.gnssWorks hon hnav)).trans (if_pos ?_)
  rcases h with h | h
  · rw [h]
    rfl
  · rw [h, Bool.not_false, Bool.or_true]
    rfl

/-- Without checks 3 and 4 the first of two identical decodes is only noted. -/
theorem State.ephDecoded_unchecked {a : EphArg} (hp : a.parityOk = true) (hi : a.iodOk = true) (hd : a.distAlm = none) (he : s.gnss.ephs = [])
    (hs : s.gnss.spare = 0) : s.ephDecoded a = if s.gnss.ephOnce.contains (ephOf a) then s.ephAccept (ephOf a)
      else s.modGnss fun g => { g with ephOnce := (g.ephOnce.filter fun x => !(x.sys == a.sys && x.sv == a.sv)) ++ [ephOf a] } := by
  unfold State.ephDecoded
  refine (if_neg (State.gnssWorks hon hnav)).trans ?_
  simp only [he, hd, hp, hi, hs, List.any_nil, Option.isSome_none, Bool.or_false, Nat.zero_sub, Bool.not_true,
    Bool.false_eq_true, if_false, Bool.false_or]
  rfl

theorem State.ephDecoded_first {a : EphArg} (hp : a.parityOk = true) (hi : a.iodOk = true) (hd : a.distAlm = none) (he : s.gnss.ephs = [])
    (hs : s.gnss.spare = 0) (ho : s.gnss.ephOnce = []) :
    s.ephDecoded a = { s with gnss := { s.gnss with ephOnce := [ephOf a] } } := by
  have hnew : ¬ s.gnss.ephOnce.contains (ephOf a) = true := by
    rw [ho]
    exact Bool.false_ne_true
  rw [State.ephDecoded_unchecked hon hnav hp hi hd he hs, if_neg hnew]
  refine congrArg (fun x => ({ s with gnss := x } : State)) ?_
  dsimp only
  rw [ho]
  rfl

theorem State.ephDecoded_second {a : EphArg} (hp : a.parityOk = true) (hi : a.iodOk = true) (hd : a.distAlm = none) (he : s.gnss.ephs = [])
    (hs : s.gnss.spare = 0) (ho : s.gnss.ephOnce = [ephOf a]) : s.ephDecoded a = s.ephAccept (ephOf a) := by
  have hagain : s.gnss.ephOnce.contains (ephOf a) = true := by
    rw [ho, List.contains_cons, beq_self_eq_true, Bool.true_or]
  rw [State.ephDecoded_unchecked hon hnav hp hi hd he hs, if_pos hagain]

end

/-- A state differs from another in the AON region alone, and `n` free values have been drawn. -/
def State.AonDrew (n : Nat) (s t : State) : Prop := t = { s with aon := t.aon, free := s.free + n }

theorem State.AonDrew.trans {m n : Nat} {t u : State} (h : s.AonDrew m t) (h' : t.AonDrew n u) : s.AonDrew (m + n) u := by
  have hfree : t.free = s.free + m := by rw [h]
  have heq : u = { t with aon := u.aon, free := t.free + n } := h'
  rw [hfree, Nat.add_assoc] at heq
  generalize u.aon = a at heq
  subst heq
  show ({ t with aon := a, free := s.free + (m + n) } : State) = { s with aon := a, free := s.free + (m + n) }
  generalize s.free + (m + n) = k
  rw [h]

theorem State.aonDrew_saveHot (s : State) (i : Fin 4) (f : HotStart → HotStart) : s.AonDrew 1 (s.saveHot i f) := rfl

theorem State.aonDrew_saveEphs (s : State) : s.AonDrew 2 s.saveEphs := by
  unfold State.saveEphs
  extract_lets kept
  exact State.AonDrew.trans (m := 1) (n := 1) (State.aonDrew_saveHot ..) (State.aonDrew_saveHot ..)

theorem State.AonDrew.frame {n : Nat} {t : State} (h : s.AonDrew n t) : t = { s with aon := t.aon, free := t.free } := by
  have hfree : t.free = s.free + n := congrArg State.free h
  rw [hfree]
  exact h

theorem State.AonDrew.gnss {n : Nat} {t : State} (h : s.AonDrew n t) : t.gnss = s.gnss := by
  have heq : t = { s with aon := t.aon, free := s.free + n } := h
  rw [heq]

theorem State.AonDrew.frame_modGnss {n : Nat} {t : State} {f : GnssState → GnssState} (h : (s.modGnss f).AonDrew n t) :
    t = { s with gnss := t.gnss, aon := t.aon, free := s.free + n } := by
  rw [h.gnss]
  exact h

theorem State.ephAccept_frame (s : State) (e : Eph) :
    s.ephAccept e = { s with gnss := (s.ephAccept e).gnss, aon := (s.ephAccept e).aon, free := s.free + 2 } :=
  (State.aonDrew_saveEphs _).frame_modGnss

/-- The first ephemeris of a receiver without any, decoded twice. -/
theorem State.ephAccept_only {e : Eph} (he : s.gnss.ephs = []) (ho : s.gnss.ephOnce = [e]) : (s.ephAccept e).gnss.ephs = [e]
    ∧ (s.ephAccept e).gnss.setNo = (s.gnss.setNo + 1) % 65536 ∧ (s.ephAccept e).gnss.ephOnce = [] := by
  unfold State.ephAccept
  extract_lets s1
  rw [(State.aonDrew_saveEphs s1).gnss]
  refine ⟨?_, rfl, ?_⟩
  · show s.gnss.ephs.filter _ ++ [e] = [e]
    rw [he]
    rfl
  · show s.gnss.ephOnce.filter _ = []
    rw [ho]
    exact List.filter_cons_of_neg (by simp)

/-! ### Measurement epochs: what an epoch leaves of the sequence number and of the time bases -/

/-- Two states agree in the sequence number of the epochs and in the time bases. -/
structure State.SameEpoch (s t : State) : Prop where
  seq : t.gnss.seq = s.gnss.seq
  base : t.time.base = s.time.base

namespace State.SameEpoch
variable {t u : State}

theorem refl (s : State) : s.SameEpoch s := ⟨rfl, rfl⟩

theorem trans (h : s.SameEpoch t) (h' : t.SameEpoch u) : s.SameEpoch u := ⟨h'.seq.trans h.seq, h'.base.trans h.base⟩

theorem ite {c : Prop} [Decidable c] (ht : s.SameEpoch t) (hu : s.SameEpoch u) : s.SameEpoch (if c then t else u) := by
  split
  · exact ht
  · exact hu

theorem raise (h : s.SameEpoch t) (code : Nat) (inst a b : Nat) : s.SameEpoch (t.raise code inst a b) :=
  ⟨(congrArg GnssState.seq (State.raise_gnss ..)).trans h.seq, (congrArg TimeState.base (State.raise_time ..)).trans h.base⟩

theorem count (h : s.SameEpoch t) (i e f k : Nat) : s.SameEpoch (t.count i e f k) := ⟨h.seq, h.base⟩

theorem postRing (h : s.SameEpoch t) (n : Fin 6) (r : RingRec) : s.SameEpoch (t.postRing n r) :=
  ⟨(congrArg GnssState.seq (State.postRing_gnss ..)).trans h.seq, (congrArg TimeState.base (State.postRing_time ..)).trans h.base⟩

theorem modTime (h : s.SameEpoch t) {f : TimeState → TimeState} (hf : ∀ x, (f x).base = x.base) : s.SameEpoch (t.modTime f) :=
  ⟨h.seq, (hf _).trans h.base⟩

theorem modSrc (h : s.SameEpoch t) (i : Fin 4) (f : Src → Src) : s.SameEpoch (t.modSrc i f) := h.modTime fun _ => rfl

theorem drawn (h : s.SameEpoch t) : s.SameEpoch t.drawn := ⟨h.seq, h.base⟩

theorem saveHot (h : s.SameEpoch t) (i : Fin 4) (f : HotStart → HotStart) : s.SameEpoch (t.saveHot i f) :=
  ⟨h.seq, h.base⟩

theorem forceSync (h : s.SameEpoch t) : s.SameEpoch t.forceSync := by
  unfold State.forceSync
  exact .ite ⟨h.seq, h.base⟩ h

theorem surveyStart (h : s.SameEpoch t) : s.SameEpoch t.surveyStart := ⟨h.seq, h.base⟩

theorem surveyTake (h : s.SameEpoch t) (a : GnSolve) : s.SameEpoch (t.surveyTake a) := ⟨h.seq, h.base⟩

theorem surveyStep (h : s.SameEpoch t) (a : GnSolve) (fix ok : Bool) : s.SameEpoch (t.surveyStep a fix ok) := by
  unfold State.surveyStep
  extract_lets s1 sec s2
  have h1 : s.SameEpoch s1 := ite h.surveyStart h
  have htaken : s.SameEpoch (if (fix && ok) = true then s1.surveyTake a else s1) := ite (h1.surveyTake a) h1
  have h2 : s.SameEpoch s2 := ⟨htaken.seq, htaken.base⟩
  refine ite h (ite (saveHot (raise ?_ ..) ..) h2)
  exact ⟨h2.seq, h2.base⟩

theorem mismatchStep (h : s.SameEpoch t) (sq n : Nat) : s.SameEpoch (t.mismatchStep sq n) := by
  unfold State.mismatchStep
  extract_lets s1 sum lim above
  have h1 : s.SameEpoch s1 := ⟨h.seq, h.base⟩
  clear_value s1
  split
  · refine ite (raise ?_ ..) (ite ?_ h1)
    · exact ⟨h1.seq, h1.base⟩
    · exact ⟨h1.seq, h1.base⟩
  · refine ite (raise (surveyStart ?_) ..) h1
    exact ⟨h1.seq, h1.base⟩
  · exact h1

theorem meanStep (h : s.SameEpoch t) (a : GnSolve) (ok : Bool) : s.SameEpoch (t.meanStep a ok) := by
  unfold State.meanStep
  extract_lets ps s1 m
  have h1 : s.SameEpoch s1 := ⟨h.seq, h.base⟩
  refine ite (ite (saveHot ?_ ..) h1) h
  exact ⟨h1.seq, h1.base⟩

theorem hotLearn (h : s.SameEpoch t) (a : GnSolve) (fix : Nat) : s.SameEpoch (t.hotLearn a fix) := by
  unfold State.hotLearn
  exact h.ite (h.saveHot ..)

theorem offerTime (h : s.SameEpoch t) (a : GnSolve) (traceable : Bool) (tAcc : Nat) : s.SameEpoch (t.offerTime a traceable tAcc) := by
  unfold State.offerTime
  extract_lets g d s1
  have h1 : s.SameEpoch s1 := ⟨h.seq, h.base⟩
  refine ite h1 (forceSync ?_)
  exact ⟨h1.seq, h1.base⟩

theorem foldl {α : Type} {f : State → α → State} (hf : ∀ t x, s.SameEpoch t → s.SameEpoch (f t x)) :
    ∀ (l : List α) {t : State}, s.SameEpoch t → s.SameEpoch (l.foldl f t)
  | [], _, h => h
  | x :: l, _, h => foldl hf l (hf _ x h)

theorem epochMade (s : State) (a : GnSolve) : s.SameEpoch (s.epochMade a) := by
  unfold State.epochMade
  extract_lets sol fix ok s1 s2 s3 s4 s5 jam traceable tAcc s6 dual resids now s7 m n s8
  have h1 : s.SameEpoch s1 := foldl (fun t x h => (h.raise ..).count ..) _ (refl s)
  have h2 : s.SameEpoch s2 := ⟨h1.seq, h1.base⟩
  have h3 : s.SameEpoch s3 := surveyStep h2 ..
  have h4 : s.SameEpoch s4 := ite (mismatchStep h3 ..) h3
  have h5 : s.SameEpoch s5 := hotLearn (meanStep h4 ..) ..
  have h6 : s.SameEpoch s6 := ite (modSrc h5 ..) (offerTime h5 ..)
  have h7 : s.SameEpoch s7 := ⟨h6.seq, h6.base⟩
  have h8 : s.SameEpoch s8 := ⟨h7.seq, h7.base⟩
  exact ite h7 (postRing (postRing h8 ..) ..)

end State.SameEpoch

/-! ### Measurement epochs (R322, R329, R336) -/

/-- The sequence number rises, and the instant of the epoch is kept. -/
def State.epochNoted (u : State) (t : HalfNs) : State := u.modGnss fun g => { g with seq := (g.seq + 1) % 65536, epochAt := some t }

theorem State.epochNoted_seq (u : State) (t : HalfNs) : (u.epochNoted t).gnss.seq = (u.gnss.seq + 1) % 65536 := rfl
theorem State.epochNoted_used (u : State) (t : HalfNs) : (u.epochNoted t).gnss.used = u.gnss.used := rfl
theorem State.epochNoted_spare (u : State) (t : HalfNs) : (u.epochNoted t).gnss.spare = u.gnss.spare := rfl
theorem State.epochNoted_time (u : State) (t : HalfNs) : (u.epochNoted t).time = u.time := rfl

theorem State.epochNoted_frame {u : State} (h : u = { s with gnss := u.gnss, time := u.time }) (t : HalfNs) :
    u.epochNoted t = { s with gnss := (u.epochNoted t).gnss, time := (u.epochNoted t).time } := by
  have hframe : u.epochNoted t = { u with gnss := (u.epochNoted t).gnss } := rfl
  rw [State.epochNoted_time]
  refine hframe.trans ?_
  generalize (u.epochNoted t).gnss = g
  rw [h]

theorem State.epoch_off (h : s.gnssOn = false) (a : GnSolve) : s.epoch a = s := by
  unfold State.epoch
  rw [h]
  rfl

theorem State.epoch_on (h : s.gnssOn = true) (a : GnSolve) : ∃ u : State, s.toEpoch.SameEpoch u
    ∧ s.epoch a = u.epochNoted s.toEpoch.time.base[(0 : Fin 5)].now := by
  unfold State.epoch
  rw [h]
  refine ⟨_, ?_, if_neg Bool.false_ne_true⟩
  exact .ite (.refl _) (.epochMade _ a)

theorem State.epoch_gap (h : s.gnssOn = true) (hn : s.navServes = false) (a : GnSolve) :
    s.epoch a = s.toEpoch.epochNoted s.toEpoch.time.base[(0 : Fin 5)].now := by
  have hn' : s.toEpoch.navServes = false := hn
  unfold State.epoch
  rw [h]
  refine (if_neg Bool.false_ne_true).trans ?_
  dsimp only
  rw [hn', Bool.not_false, Bool.true_or, if_pos rfl]
  rfl

/-- With no channel assigned, loops that are open stop nothing. -/
theorem State.epoch_made (h : s.gnssOn = true) (hn : s.navServes = true) (hc : s.gnss.chans = []) (a : GnSolve) :
    s.epoch a = (s.toEpoch.epochMade a).epochNoted s.toEpoch.time.base[(0 : Fin 5)].now := by
  have hn' : s.toEpoch.navServes = true := hn
  have hc' : s.toEpoch.gnss.chans = [] := hc
  unfold State.epoch
  rw [h]
  refine (if_neg Bool.false_ne_true).trans ?_
  dsimp only
  rw [hn', hc', List.any_nil, Bool.and_false, Bool.not_true, Bool.or_false, if_neg Bool.false_ne_true]
  rfl

theorem State.epochSats_nil (s : State) : s.epochSats [] = [] := rfl

/-- No satellite gives no solution. -/
theorem State.raim_nil (base : Nat) (bcast : List Bool) (n : Nat) (tests : List (Bool × Nat × Nat)) :
    ∃ (k : Nat) (src : List Nat), s.raim base bcast n tests [] [] = ⟨[], k, [], 0, src⟩ := by
  refine ⟨(usable [] (s.offsetSources [] bcast) base).2, s.offsetSources [] bcast, ?_⟩
  unfold State.raim
  exact if_pos (Nat.succ_pos _)

theorem State.surveyStep_navigation (h : s.cfgN Obj.GN_TIMING_MODE = 0) (a : GnSolve) (fix ok : Bool) : s.surveyStep a fix ok = s := by
  unfold State.surveyStep
  refine if_pos (.inl ?_)
  rw [h]
  decide

theorem State.meanStep_failed (a : GnSolve) : s.meanStep a false = s := if_neg fun h => Bool.false_ne_true h.2

theorem State.hotLearn_nothing {a : GnSolve} (h : a.entries = []) : s.hotLearn a 0 = s := by
  unfold State.hotLearn
  rw [h]
  exact if_pos ⟨rfl, rfl⟩

/-- An epoch without a measurement in navigation mode: no solution, and the sample of TB_GNSS goes. -/
theorem State.epochMade_empty {a : GnSolve} (ht : s.cfgN Obj.GN_TIMING_MODE = 0) (hm : s.cfgN Obj.GN_MEAS_ENABLE = 0) (he : a.entries = []) :
    s.epochMade a = { s with gnss := (s.epochMade a).gnss, time := (s.epochMade a).time } ∧ (s.epochMade a).gnss.used = []
      ∧ (s.epochMade a).gnss.spare = 0 ∧ (s.epochMade a).time.src[(0 : Fin 4)].present = false := by
  obtain ⟨k, src, hraim⟩ := s.raim_nil (if s.solvesPosition then 4 else 1) a.bcast 3 a.tests
  unfold State.epochMade
  extract_lets sol fix ok s1 s2 s3 s4 s5 jam traceable tAcc s6 dual resids now s7 m n s8
  have hsol : sol = ⟨[], k, [], 0, src⟩ := by
    show s.raim _ _ _ _ (s.epochSats a.entries) [] = _
    rw [he, State.epochSats_nil, hraim]
  have hfix : fix = 0 := by
    show s.fixType sol = 0
    rw [hsol]
    exact if_pos (.inr rfl)
  have h1 : s1 = s := by
    show sol.excluded.foldl _ s = s
    rw [hsol]
    rfl
  have h3 : s3 = s2 := State.surveyStep_navigation (s := s2) ((congrArg (fun u : State => u.cfgN Obj.GN_TIMING_MODE) h1).trans ht) a _ _
  have h4 : s4 = s2 := by
    show (if fix = 2 then _ else s3) = s2
    rw [hfix, if_neg (by decide), h3]
  have h5 : s5 = s2 := by
    show (s4.meanStep a (ok && fix == 1)).hotLearn a fix = s2
    rw [hfix, show (ok && 0 == 1) = false from Bool.and_false ok, State.meanStep_failed, State.hotLearn_nothing he, h4]
  have h6 : s6 = s2.modSrc 0 fun x => { x with present := false, traceable := false } := by
    show (if fix = 0 then _ else _) = _
    rw [if_pos hfix, h5]
  have h7 : s7.cfgN Obj.GN_MEAS_ENABLE = 0 := by
    show s6.cfgN Obj.GN_MEAS_ENABLE = 0
    rw [h6]
    show s1.cfgN Obj.GN_MEAS_ENABLE = 0
    rw [h1, hm]
  rw [if_pos h7]
  have hgnss : s7.gnss = s2.gnss := (congrArg State.gnss h6 :)
  refine ⟨?_, (congrArg GnssState.used hgnss).trans (if_pos hfix), (congrArg GnssState.spare hgnss).trans (if_pos hfix), ?_⟩
  · have hframe : s2 = { s1 with gnss := s2.gnss } := rfl
    have hframe6 : s6 = { s2 with time := s6.time } := by
      rw [h6]
      rfl
    show s6.modTime _ = { s with gnss := s6.gnss, time := _ }
    rw [hframe6, hframe, h1]
    rfl
  · show (s6.time.src[(0 : Fin 4)]).present = false
    rw [h6]
    exact congrArg Src.present (vmod_self ..)

/-- The next multiple of a period at or after an instant, or the one after it when that was the last one. -/
theorem nextMultiple {g p n m : Nat} {last : Option Nat} (hp : 0 < p) (hn : n = (g + p - 1) / p * p) (hm : m = if last = some n then n + p else n) :
    m % p = 0 ∧ g ≤ m ∧ m < g + (if last = none then p else 2 * p) ∧ last ≠ some m := by
  have hdiv := Nat.div_add_mod (g + p - 1) p
  have hlt := Nat.mod_lt (g + p - 1) hp
  have hmul : (g + p - 1) / p * p = p * ((g + p - 1) / p) := Nat.mul_comm ..
  have hge : g ≤ n := by omega
  have hle : n < g + p := by omega
  have hmod : n % p = 0 := by rw [hn, Nat.mul_mod_left]
  by_cases hl : last = some n
  · have hnone : last ≠ none := by rw [hl]; exact Option.some_ne_none n
    rw [if_pos hl] at hm
    refine ⟨by rw [hm, Nat.add_mod_right, hmod], by omega, by rw [if_neg hnone]; omega, fun hx => ?_⟩
    have := Option.some.inj (hl.symm.trans hx)
    omega
  · rw [if_neg hl] at hm
    refine ⟨hm ▸ hmod, hm ▸ hge, ?_, hm ▸ hl⟩
    split
    · omega
    · omega

theorem State.toEpoch_now (h : s.time.counting = true) {p n : Nat} (hp : p = secHalfNs / max 1 (s.cfgN Obj.GN_MEAS_RATE)) (h0 : 0 < p)
    (hn : n = (s.time.base[(0 : Fin 5)].now + p - 1) / p * p) :
    s.toEpoch.time.base[(0 : Fin 5)].now = if s.gnss.epochAt = some n then n + p else n := by
  have hle := (nextMultiple (last := s.gnss.epochAt) h0 hn rfl).2.1
  subst hp hn
  unfold State.toEpoch
  rw [State.advance_base_counting h]
  exact Nat.add_sub_cancel' hle

/-! ### Hot-start records (R339) -/

theorem State.hotSave_off (h : s.cfgN Obj.GN_ENABLE = 0 ∨ s.domOn 15 = false) : s.hotSave = s := by
  unfold State.hotSave
  refine if_pos (h.imp_right fun hx => ?_)
  rw [hx]
  rfl

theorem State.saveHot_sealed (s : State) (i : Fin 4) (f : HotStart → HotStart) : (s.saveHot i f).aon.bank[i].intact = true :=
  congrArg Bank.intact (vmod_self ..)

theorem State.saveHot_other {i j : Fin 4} (h : j ≠ i) (f : HotStart → HotStart) : (s.saveHot i f).aon.bank[j] = s.aon.bank[j] := vmod_ne _ h _

theorem State.saveEphs_sealed (s : State) : s.saveEphs.aon.bank[(1 : Fin 4)].intact = true := by
  unfold State.saveEphs
  extract_lets kept
  rw [State.saveHot_other (by decide)]
  exact State.saveHot_sealed ..

theorem State.saveEphs_bank3 (s : State) : s.saveEphs.aon.bank[(3 : Fin 4)] = s.aon.bank[(3 : Fin 4)] := by
  unfold State.saveEphs
  extract_lets kept
  rw [State.saveHot_other (by decide), State.saveHot_other (by decide)]

/-- The save time and the reference position go to bank 2 last. -/
def State.hotClose (s u : State) (n : Nat) : State :=
  ((u.saveEphs.modAon fun a => { a with savedAt := s.rtcTime / secHalfNs }).drawn).saveHot 2 fun h => { h with
    refSource := s.refPos.1, ref := s.refPos.2, msgs := n }

/-- Whether new almanacs come first is the free value. -/
theorem State.hotSave_on (he : s.cfgN Obj.GN_ENABLE = 1) (h15 : s.domOn 15 = true) : ∃ (u : State) (m n : Nat),
    s.AonDrew m u ∧ u.aon.bank[(3 : Fin 4)] = s.aon.bank[(3 : Fin 4)] ∧ s.hotSave = s.hotClose u n := by
  have hruns : ¬ (s.cfgN Obj.GN_ENABLE = 0 ∨ (!s.domOn 15) = true) := by
    rw [he, h15]
    decide
  unfold State.hotSave
  rw [if_neg hruns]
  extract_lets new r s1 s2
  refine ⟨s1, if new then 2 else 1, s2.draw.1, ?_, ?_, rfl⟩
  · show s.AonDrew _ (if new = true then _ else s.drawn)
    split
    · exact State.AonDrew.trans (m := 1) (n := 1) (t := s.drawn) rfl (State.aonDrew_saveHot ..)
    · rfl
  · show (if new = true then _ else s.drawn).aon.bank[(3 : Fin 4)] = _
    split
    · exact State.saveHot_other (s := s.drawn) (by decide) _
    · rfl

section
variable {u : State} (n : Nat)

theorem State.aonDrew_hotClose {m : Nat} (h : s.AonDrew m u) : s.AonDrew (m + (2 + (0 + (1 + 1)))) (s.hotClose u n) := by
  refine h.trans ((State.aonDrew_saveEphs u).trans ?_)
  refine State.AonDrew.trans (m := 0) (t := u.saveEphs.modAon fun a => { a with savedAt := s.rtcTime / secHalfNs }) rfl ?_
  exact State.AonDrew.trans (m := 1) (n := 1) (t := State.drawn _) rfl (State.aonDrew_saveHot ..)

theorem State.hotClose_bank1 : (s.hotClose u n).aon.bank[(1 : Fin 4)].intact = true := by
  unfold State.hotClose
  rw [State.saveHot_other (by decide)]
  exact u.saveEphs_sealed

theorem State.hotClose_bank3 : (s.hotClose u n).aon.bank[(3 : Fin 4)] = u.aon.bank[(3 : Fin 4)] := by
  unfold State.hotClose
  rw [State.saveHot_other (by decide)]
  exact u.saveEphs_bank3

end

/-! ### Common view (R393) -/

/-- Own minus peer TIME_RESID of a satellite that both sides have. -/
def cvDiff (own peer : List (Nat × Int)) (k : Nat) : Option Int :=
  match own.find? (fun p => p.1 == k), peer.find? (fun p => p.1 == k) with
  | some a, some b => some (a.2 - b.2)
  | _, _ => none

/-- A satellite of the own epoch has a difference where the peer has it too. -/
theorem cvDiff_isSome {own peer : List (Nat × Int)} {k : Nat} (h : k ∈ own.map (·.1)) :
    (cvDiff own peer k).isSome = peer.any fun p => p.1 == k := by
  obtain ⟨p, hp, hk⟩ := List.mem_map.1 h
  have hown : (own.find? fun p => p.1 == k).isSome = true := List.find?_isSome.2 ⟨p, hp, beq_iff_eq.2 hk⟩
  obtain ⟨a, ha⟩ := Option.isSome_iff_exists.1 hown
  have hpeer : (peer.any fun p => p.1 == k) = (peer.find? fun p => p.1 == k).isSome :=
    Bool.eq_iff_iff.2 (List.any_eq_true.trans List.find?_isSome.symm)
  unfold cvDiff
  rw [hpeer, ha]
  cases peer.find? fun p => p.1 == k with
  | none => rfl
  | some b => rfl

theorem length_cvDiffs (own peer : List (Nat × Int)) : ((own.map (·.1)).eraseDups.filterMap (cvDiff own peer)).length
    = ((own.map (·.1)).eraseDups.filter fun k => peer.any fun p => p.1 == k).length := by
  rw [List.length_filterMap_eq_countP, List.countP_eq_length_filter]
  exact congrArg List.length (List.filter_congr fun k hk => cvDiff_isSome (List.mem_eraseDups.1 hk))

theorem State.cvPeer_none {b : Bytes} (h : s.time.epochs.find? (fun p => p.1 == leAt b 0 12) = none) :
    s.cvPeer b = { s with time := { s.time with cv := [1, 0, 0, 0] } } := by
  unfold State.cvPeer
  extract_lets epoch
  rw [show s.time.epochs.find? (fun p => p.1 == epoch) = _ from h]
  rfl

section
variable {b : Bytes} {e n : Nat} {own : List (Nat × Int)} (h : s.time.epochs.find? (fun p => p.1 == leAt b 0 12) = some (e, own))
  (hn : n = ((own.map (·.1)).eraseDups.filter fun k => (peerEntries (leAt b 22 1) (b.drop 32)).any fun p => p.1 == k).length)
include h hn

theorem State.cvPeer_few (hf : n < 4) : s.cvPeer b = { s with time := { s.time with cv := [2, (n : Int), 0, 0] } } := by
  have hlen := (length_cvDiffs own (peerEntries (leAt b 22 1) (b.drop 32))).trans hn.symm
  unfold State.cvPeer
  extract_lets epoch
  rw [show s.time.epochs.find? (fun p => p.1 == epoch) = _ from h]
  refine (if_pos (hlen ▸ hf)).trans ?_
  rw [← hlen]
  rfl

theorem State.cvPeer_computed (hf : 4 ≤ n) : ∃ (mean : Int) (sig : Nat),
    s.cvPeer b = { s with free := s.free + 1, time := { s.time with cv := [0, (n : Int), mean, min (sig : Int) 65535] } } := by
  obtain rfl := (length_cvDiffs own (peerEntries (leAt b 22 1) (b.drop 32))).trans hn.symm
  unfold State.cvPeer
  extract_lets epoch
  rw [show s.time.epochs.find? (fun p => p.1 == epoch) = _ from h]
  exact ⟨_, _, (if_neg (Nat.not_lt.2 hf)).trans rfl⟩

theorem State.cvPeer_mean (hf : 4 ≤ n) : ∃ (mean : Int) (err : Nat), err ≤ 65535
    ∧ s.cvPeer b = { s with free := s.free + 1, time := { s.time with cv := [0, (n : Int), mean, (err : Int)] } } := by
  obtain ⟨mean, sig, hcv⟩ := State.cvPeer_computed h hn hf
  refine ⟨mean, min sig 65535, min_le_right _ _, hcv.trans ?_⟩
  rw [Nat.cast_min]
  rfl

end

theorem State.cvPeerPut_part {b : Bytes} (h : epochWhole b = false) :
    s.cvPeerPut b = s.cfgPut Obj.TM_CV_PEER (b.map fun x => [(x.toNat : Int)]) := by
  unfold State.cvPeerPut
  rw [h]
  rfl

theorem State.cvPeerPut_whole {b : Bytes} (h : epochWhole b = true) :
    s.cvPeerPut b = (s.cfgPut Obj.TM_CV_PEER (b.map fun x => [(x.toNat : Int)])).cvPeer b := by
  unfold State.cvPeerPut
  rw [h]
  rfl

/-! ### The offset history (R348) -/

theorem State.historyEntry_stopped (h : s.time.established = false ∨ s.isHeld 0xB = true) : s.historyEntry = s := by
  unfold State.historyEntry
  refine if_pos (h.imp_left fun hx => ?_)
  rw [hx]
  rfl

theorem State.historyEntry_first (he : s.time.established = true) (hb : s.isHeld 0xB = false) (hh : s.time.history = []) : s.historyEntry
    = { s with time := { s.time with history := [(s.air, (s.air : Int) - s.time.base[(0 : Fin 5)].now, s.airTraceable)] } } := by
  have hruns : ¬ ((!s.time.established) = true ∨ s.isHeld 0xB = true) := by
    rw [he, hb]
    decide
  unfold State.historyEntry State.modTime
  rw [if_neg hruns]
  dsimp only
  rw [hh]
  rfl

end Sys2Proof.Machine
end

open Sys2Proof.Machine

/-- Settles O55. -/
theorem ephemeridesAndEpochs : Obligations.EphemeridesAndEpochs := by
  unfold Obligations.EphemeridesAndEpochs
  simp only [exec_ephemerisDecoded, exec_measurementEpoch, exec_hotstartSave, exec_tmCvPeer, exec_offsetHistoryEntry]
  refine ⟨?rejected, ?stopped, ?once, ?twice, ?off, ?epoch, ?gap, ?empty, ?instant, ?hotOff, ?hotSave, ?long, ?peer, ?noHistory, ?history⟩
  case rejected =>
    intro s a hon hn h
    rw [State.ephDecoded_rejected hon hn h]
  case stopped =>
    intro s a h
    rw [State.ephDecoded_stopped h]
  case once =>
    intro s a hon hn hp hi hd he hs ho
    rw [State.ephDecoded_first hon hn hp hi hd he hs ho]
    rfl
  case twice =>
    intro s a hon hn hp hi hd he hs ho
    obtain ⟨hephs, hset, honce⟩ := State.ephAccept_only he ho
    exact ⟨_, congrArg Host.Outcome.next (State.ephDecoded_second hon hn hp hi hd he hs ho), State.ephAccept_frame s _, hephs, hset, honce⟩
  case off =>
    intro s a h
    rw [State.epoch_off h]
  case epoch =>
    intro s a h
    obtain ⟨u, hu, hepoch⟩ := State.epoch_on h a
    rw [hepoch]
    refine ⟨_, rfl, ?_, rfl, ?_⟩
    · rw [State.epochNoted_seq, hu.seq]
      rfl
    · rw [State.epochNoted_time, hu.base]
  case gap =>
    intro s a hon hn
    rw [State.epoch_gap hon hn]
    rfl
  case empty =>
    intro s a hon hn hc ht hm he
    obtain ⟨hframe, hused, hspare, hsrc⟩ := State.epochMade_empty (s := s.toEpoch) ht hm he
    have hsame := State.SameEpoch.epochMade s.toEpoch a
    rw [State.epoch_made hon hn hc]
    refine ⟨_, rfl, State.epochNoted_frame hframe _, ?_, ?_, ?_, ?_, ?_⟩
    · rw [State.epochNoted_seq, hsame.seq]
      rfl
    · rw [State.epochNoted_used, hused]
    · rw [State.epochNoted_spare, hspare]
    · rw [State.epochNoted_time, hsrc]
    · rw [State.epochNoted_time, hsame.base]
  case instant =>
    rintro s p hp h0 hc
    rw [State.toEpoch_now hc hp h0 rfl]
    exact nextMultiple h0 rfl rfl
  case hotOff =>
    intro s h
    rw [State.hotSave_off h]
  case hotSave =>
    intro s he h15
    obtain ⟨u, m, n, hu, hbank, hsave⟩ := State.hotSave_on he h15
    rw [hsave]
    exact ⟨_, rfl, (State.aonDrew_hotClose n hu).frame, rfl, rfl, rfl, State.hotClose_bank1 n, State.saveHot_sealed ..,
      (State.hotClose_bank3 n).trans hbank⟩
  case long =>
    intro s b h
    rw [if_pos h]
  case peer =>
    rintro s u b h rfl
    rw [if_neg (Nat.not_lt.2 h)]
    refine ⟨fun hw => ?_, fun hw hf => ?_, fun e n own hw hf hn => ⟨fun h4 => ?_, fun h4 => ?_⟩⟩
    · rw [State.cvPeerPut_part hw]
    · rw [State.cvPeerPut_whole hw, State.cvPeer_none (s := s.cfgPut _ _) hf]
      rfl
    · rw [State.cvPeerPut_whole hw, State.cvPeer_few (s := s.cfgPut _ _) hf hn h4]
      rfl
    · obtain ⟨mean, err, herr, hcv⟩ := State.cvPeer_mean (s := s.cfgPut Obj.TM_CV_PEER (b.map fun x => [(x.toNat : Int)])) hf hn h4
      rw [State.cvPeerPut_whole hw, hcv]
      exact ⟨mean, err, herr, rfl⟩
  case noHistory =>
    intro s h
    rw [State.historyEntry_stopped h]
  case history =>
    intro s he hb hh
    rw [State.historyEntry_first he hb hh]
